-- ==== Sys2Proof/Word.lean ====
section
/-! DEFINITION. The word types of the model and the plain data types that describe a register field and a register. -/
namespace Sys2Proof

/-- A 32-bit register word (R13). -/
abbrev Word := BitVec 32

/-- One byte of a memory. -/
abbrev Byte := BitVec 8

/-- A sparse table: entries by key, keys strictly rising. -/
abbrev SMap (α : Type) := List (Nat × α)

/-- The field access types of R18. -/
inductive Acc where
  | rw | ro | wo | w1c | w1s | rc
  deriving DecidableEq, Repr

/-- One field of a register: its number in the model, its place, its access type, the value it takes at reset (the
image default for an IMG field), whether the image re-applies it and whether it is sticky (R19), and the ranges of its
reserved encodings that R17 keeps out. -/
structure Fld where
  id : Nat
  lo : Nat
  width : Nat
  acc : Acc
  rst : Nat
  img : Bool
  sticky : Bool
  resv : List (Nat × Nat)
  deriving DecidableEq, Repr

/-- One register, or an array of equal ones: the management address of its first instance, the stride, the number of
instances and its fields. -/
structure Reg where
  addr : Nat
  stride : Nat
  count : Nat
  flds : List Fld
  deriving DecidableEq, Repr

end Sys2Proof
end

