-- ==== Sys2Proof/Syntax.lean ====
section
/-! DEFINITION. The commands the block takes: one constructor per row of the spec's opcode table, in the table's order,
each with the operands that its event or access carries, and the plain data types of those operands. -/
namespace Sys2Proof

/-- The path on which a management access arrives, and with it the master that register rules see (R582, R450). -/
inductive Path where
  | turret | debug | barrier | cciMctp
  | cciMbox (port : Nat)
  deriving DecidableEq, Repr

/-- A fault message (R446), each field a number of its width. -/
structure FMsg where
  time : Nat
  addr : Nat
  code : Nat
  master : Nat
  srcunit : Nat
  atype : Nat
  domain : Nat
  held : Nat
  dinst : Nat
  origin : Nat
  remote : Nat
  seq : Nat
  deriving DecidableEq, Repr

/-- What ECC finds when a word or line is read: good, correctable, or uncorrectable. -/
inductive Ecc where
  | good | ce | ue
  deriving DecidableEq, Repr

/-- What a command to the RDIMMs meets (R321, R326, R327, R332): no error; an error confined to one of the line's ten device slices,
which is named; an error of two or more slices that the decoder detects; one that it does not, since detection is not guaranteed; no
answer within 10 µs; or eight consecutive failed retries of the command. -/
inductive LineErr where
  | good | ce (slice : Nat) | ue | silent | noAnswer | retries
  deriving DecidableEq, Repr

/-- What the read of a line meets in its copy and, for a line of the store, in the mirror's (R315). -/
structure CopyErrs where
  prim : LineErr
  mirror : LineErr
  deriving DecidableEq, Repr

/-- The copies of a line at which a write command has failed its eight retries (R332). -/
structure WrFails where
  prim : Bool
  mirror : Bool
  deriving DecidableEq, Repr

/-- A Dome read that has run into its time limit (R327): what sent it, and what the read of the mirror meets (R315). -/
structure LateRead where
  master : Nat
  mirror : LineErr
  deriving DecidableEq, Repr

/-- What the reads of a message's cells find: before its header leaves, and after (R196 to R198). -/
structure CellReads where
  head : Ecc
  late : Ecc
  deriving DecidableEq, Repr

/-- A spill write: the queue, and what reading the cells of its message from the buffer finds (R197, R204). -/
structure SpillWr where
  qid : Nat
  ecc : Ecc
  deriving DecidableEq, Repr

/-- The answer to a spill read: the generation of its tag (R221), and whether it is poisoned. -/
structure SpillAns where
  gen : Nat
  poison : Bool
  deriving DecidableEq, Repr

/-- What sent a Dome read, with the generation of the read's tag (R23, R326). -/
structure DomeReader where
  master : Nat
  gen : Nat
  deriving DecidableEq, Repr

/-- A scratchpad operation: a read, a plain write, or a write through the bit-set or bit-clear alias (R597). -/
inductive SpOp where
  | read | write | set | clr
  deriving DecidableEq, Repr

/-- One scratchpad access: master number (R594), the master ID that messages name (R450), offset from 0x1000_0000, size in
bytes, byte enables within the 8-byte word for the 8-byte masters, and data. -/
structure SpReq where
  master : Nat
  mid : Nat
  off : Nat
  op : SpOp
  size : Nat
  en : Nat
  data : Nat
  deriving DecidableEq, Repr

/-- The wake reasons of CK_PWRSTAT.WAKEWHY (R504); a change of presence and an electrical-idle exit
with their port (R390), activity on a clock lane with its Spire port. -/
inductive WakeWhy where
  | presence (port : Nat) | eidle (port : Nat) | spire (port : Nat) | barrier | window | turret
  deriving DecidableEq, Repr

/-- The blocks that keep internal tags (R23). -/
inductive TagBlk where
  | bd | hd | cu | sw | dm | ck
  | dd (channel : Nat)
  deriving DecidableEq, Repr

/-- A response to an internal tag: the block, the tag, the generation it carries and its payload. -/
structure TagRsp where
  blk : TagBlk
  tag : Nat
  gen : Nat
  data : Nat
  deriving DecidableEq, Repr

/-- What the SPD of one RDIMM says (R305, R306, R319): whether it can be read, whether it names a JEDEC DDR5 RDIMM, whether it has
ECC, its capacity in GB, its device width in bits, its ranks, its device density in Gbit, its speed bin in MT/s, and the widths in
bits of the bank group, the column in units of one burst, the bank and the chip ID. -/
structure Rdimm where
  readable : Bool
  jedec : Bool
  ecc : Bool
  cap : Nat
  width : Nat
  ranks : Nat
  density : Nat
  speed : Nat
  bgBits : Nat
  colBits : Nat
  bankBits : Nat
  cidBits : Nat
  deriving DecidableEq, Repr

/-- What Turret finds on one Dome channel at start-up (R305 to R308): the RDIMMs in socket 0 and socket 1, and whether training
succeeds. -/
structure ChPop where
  sock0 : Option Rdimm
  sock1 : Option Rdimm
  trainOk : Bool
  deriving DecidableEq, Repr

/-- The kinds of memory request that reach translation and the guard (R40, R350): CXL.mem reads and writes with what
they ask for, and CXL.io reads, writes and atomics. -/
inductive ReqKind where
  | memRd            -- MemRd and MemRdData with MetaValue Shared or Invalid, MemSpecRd
  | memRdAny         -- MemRd or MemRdData with MetaValue Any
  | memInvAny        -- MemInv or MemInvNT with MetaValue Any
  | memInvInvalid    -- MemInv or MemInvNT with MetaValue Invalid
  | memInvShared     -- MemInv or MemInvNT with MetaValue Shared
  | memInvNoOp       -- MemInv or MemInvNT with MetaField No-Op
  | memWr            -- MemWr, full or partial
  | ioRd             -- CXL.io memory read
  | ioRdExec         -- CXL.io memory read that asks for execute
  | ioWr             -- CXL.io posted memory write
  | ioWrNp           -- CXL.io non-posted write
  | ioAtomic         -- CXL.io AtomicOp
  deriving DecidableEq, Repr

/-- A memory request of a tenant: TID, kind, address (tenant offset or the address carried), length in bytes, the
PASID privileged-mode bit where a PASID is present, and the request's number. -/
structure MemReq where
  tid : Nat
  kind : ReqKind
  addr : Nat
  len : Nat
  pasidPriv : Option Bool
  rid : Nat
  deriving DecidableEq, Repr

/-- An Initiate Dynamic Capacity Add (R49): tenant, selection policy (0 Free, 1 Contiguous, 2 Prescriptive,
3 Enable Shared Access), length in bytes, the listed pairs of start and length in bytes, the tenant whose extents are
shared and the pairs that name them, the home and group that the policy record gives (else BD_ALLOC), and the tag. -/
structure AddReq where
  tid : Nat
  policy : Nat
  len : Nat
  list : List (Nat × Nat)
  srcTid : Nat
  srcList : List (Nat × Nat)
  home : Option (Nat × Nat)
  tag : Nat
  deriving DecidableEq, Repr

/-- A command that can wait in Turret's queue (R44): Bind vPPB (host port, vPPB, physical port, LD-ID), Unbind vPPB,
the policies of a host port from a record of the active image on, an add, or a release by the fabric manager (tenant,
pairs of start and length in bytes, Forced Removal). -/
inductive FmCmd where
  | bind (port vppb phys ldid : Nat)
  | unbind (port vppb : Nat)
  | policy (port first : Nat)
  | add (r : AddReq)
  | release (tid : Nat) (list : List (Nat × Nat)) (forced : Bool)
  deriving DecidableEq, Repr

/-- The kinds of message the switch core carries (R181, R212, R215): CXL.io non-posted, posted and completion; M2S Req
with and without a data response; M2S RwD; S2M; BISnp; BIRsp; CXL.cache; coherence; internal requests; Spire transport
frames; and Turret's own messages. -/
inductive MsgCls where
  | ioNp | ioPost | ioCpl | memReqD | memReqN | memRwd | s2m | bisnp | birsp | cache | coh | internal | spire | turret
  deriving DecidableEq, Repr

/-- What the route index of a message comes from (R181): a bus number (routed by ID), an address (routed by address), a multicast group of
the ingress VCS, the binding of its tenant, or the index that the sending block names. -/
inductive Dest where
  | bus (n : Nat)
  | addr (a : Nat)
  | mcast (g : Nat)
  | bound
  | named (i : Option Nat)
  deriving DecidableEq, Repr

/-- The data rates that the partner of a link supports, a bit each by the encoding of FP_PCFG.MAXRATE, and whether it runs SRIS (R377). -/
structure RateSet where
  rates : Nat
  sris : Bool
  deriving DecidableEq, Repr

/-- What training finds of a link's lanes (R379): the port's lanes with bit lock and deskew, a bit each from the port's lane 0; the
widths that the partner supports, 2^k lanes by bit k; and whether it takes part in lane reversal. -/
structure LaneSet where
  good : Nat
  widths : Nat
  rev : Bool
  deriving DecidableEq, Repr

/-- The link modes that the partner accepts (R377). -/
structure ModeSet where
  flit : Bool
  cxl68 : Bool
  nonFlit : Bool
  deriving DecidableEq, Repr

/-- A DOWN port whose last hold of PERST_N ended 100 µs ago (R374), with whether its vPPB has taken back Secondary Bus Reset, and whether
software has released Downstream Port Containment. -/
structure PerstEnd where
  port : Nat
  sbr : Bool
  dpc : Bool
  deriving DecidableEq, Repr

/-- An IDE stream that keys are programmed for (R391, R392): its kind (0 link, 1 selective, 2 CXL.cachemem), and whether Turret is the
requester, for a DOWN port, or the host, through the DOE mailbox of the VCS upstream port. -/
structure KeyUse where
  kind : Nat
  turret : Bool
  deriving DecidableEq, Repr

/-- What a lane's checker has received (R398): the lane, and the bits, first bit lowest: those that it seeds from with the 64 that
follow, or, of the 64 latest checked bits, those in error. -/
structure LaneBits where
  lane : Nat
  bits : Nat
  deriving DecidableEq, Repr

/-- The rest of a Spire flit as received (R412): its 120 bytes of payload, and its CRC. -/
structure FlitRest where
  payload : Nat
  crc : Nat
  deriving DecidableEq, Repr

/-- What an IDENT flit of a peer carries beside its stack ID, port and NMOD (R425): the digest of its stack plan, and INC. -/
structure PlanId where
  digest : Nat
  inc : Nat
  deriving DecidableEq, Repr

/-- A message at ingress (R178, R179): its ingress port, named by a crossbar port of it; its kind; its tenant; its traffic class; its
bytes; its number; what its route index comes from (R181); the memory request it carries, if it is one; what names its queue where its
sending block does: for data mover traffic the ring, else the queue index (R231); whether it is bad (R197); whether its tail has
arrived; whether it is a configuration request, message or DOE traffic, which IDEREQ lets pass (R394); the IDE stream that protects it,
if any (R395); the internal tag and generation that it carries, if any (R220); for a completion, whether further completions of its
request follow; and what ingress sets: the time of its acceptance in 100 ns ticks of stack time (R201), and whether it is a part of a
request that another part completes (R359). -/
structure Msg where
  ing : Nat
  cls : MsgCls
  tid : Option Nat := none
  tc : Nat := 0
  len : Nat := 64
  rid : Nat := 0
  dest : Dest := .named none
  req : Option MemReq := none
  q : Option Nat := none
  bad : Bool := false
  tail : Bool := true
  cfg : Bool := false
  ide : Option Nat := none
  tag : Option TagRsp := none
  more : Bool := false
  itime : Nat := 0
  part : Bool := false
  deriving DecidableEq, Repr

/-- A coherence message (R93), its opcode being the command's: STARVE, POISON and OWNED, the agent IDs SRC and FWD, TXN,
the line address GPA[45:6], the 64 bytes of a data message, the Spire port it arrived on, and in SnpFwdShared and SnpFwdOwn the tag of
the requester that R94 gives the forwarded data (the header of R93 has no field for it). -/
structure Coh where
  starve : Bool
  poison : Bool
  owned : Bool
  src : Nat
  fwd : Nat
  txn : Nat
  laddr : Nat
  data : Nat
  via : Nat
  rtag : Nat := 0
  deriving DecidableEq, Repr

/-- A Fence as delivered (R130): the message, and the transport sequence number of its frame. -/
structure FenceIn where
  m : Coh
  tseq : Nat
  deriving DecidableEq, Repr

/-- A host's CXL.mem request as R86 lists them, by message and MetaValue. -/
inductive HostOp where
  | rdAny | rdShared | rdInvalid | invAny | invInvalid | invShared | invNoOp | specRd
  | wrAny | wrShared | wrInvalid | clnEvct
  deriving DecidableEq, Repr

/-- A host's answer to a BISnp (R118). -/
inductive BiRsp where
  | i | s | e
  deriving DecidableEq, Repr

/-- A Spire transport frame (R416): header, body as a number (byte 0 lowest), and BAD. -/
structure SlFrame where
  dst : Nat
  src : Nat
  hops : Nat
  ftype : Nat
  tseq : Nat
  ackseq : Nat
  ackv : Bool
  bad : Bool
  body : Nat
  deriving DecidableEq, Repr

/-- What Watchtower measures (R531): feed A and feed B reversed; VA, VB and VBUS in 10 mV, IBUS in 10 mA, and the pass
transistor's temperature as its status byte. -/
structure Telem where
  aRev : Bool
  bRev : Bool
  va : Nat
  vb : Nat
  vbus : Nat
  ibus : Nat
  temp : Nat
  deriving DecidableEq, Repr

/-- One command: a register access, a message, a pin event, a timer expiry or the end of a piece of work. -/
inductive Instr where
  /-- REGISTER_WRITE (R18): A write to a register that has no row of its own sets its RW fields, ignores RO and reserved bits, and keeps the old value of a field written with a reserved encoding. -/
  | registerWrite (p : Path) (addr size : Nat) (data : Word)
  /-- RC_FIELD_READ (R18): A read of an RC field returns its value and then clears it. -/
  | rcFieldRead (p : Path) (addr size : Nat)
  /-- LO_REGISTER_READ (R20): A read of a _LO register captures _HI into a shadow for the next _HI read. -/
  | loRegisterRead (p : Path) (addr size : Nat)
  /-- LO_REGISTER_WRITE (R20): A write of a _LO register stages the low half. -/
  | loRegisterWrite (p : Path) (addr size : Nat) (data : Word)
  /-- HI_REGISTER_WRITE (R20): A write of a _HI register commits the staged _LO and the written _HI as one update. -/
  | hiRegisterWrite (p : Path) (addr size : Nat) (data : Word)
  /-- INTERNAL_RESPONSE (R23): A response to an internal tag arrives and is matched against its tag's generation. -/
  | internalResponse (r : TagRsp)
  /-- BD_TTCMD_NOP (R73): BD_TTCMD GO with OP NOP does nothing. -/
  | bdTtcmdNop (p : Path) (tid : Nat)
  /-- BD_TTCMD_READ (R73): BD_TTCMD READ copies a tenant table entry into BD_TTDATA0-3. -/
  | bdTtcmdRead (p : Path) (tid : Nat)
  /-- BD_TTCMD_WRITE (R73): BD_TTCMD WRITE changes HOSTPRIV, RGBASE and RGCNT of a BOUND entry after the R74 checks. -/
  | bdTtcmdWrite (p : Path) (tid : Nat)
  /-- BD_TTCMD_BIND (R47): BD_TTCMD BIND checks the staged entry and runs the bind sequence to BOUND. -/
  | bdTtcmdBind (p : Path) (tid : Nat)
  /-- BD_TTCMD_RESET (R62): BD_TTCMD RESET starts a tenant reset at the stop step. -/
  | bdTtcmdReset (p : Path) (tid : Nat)
  /-- BD_TTCMD_UNBIND (R62): BD_TTCMD UNBIND starts the unbind sequence at the stop step. -/
  | bdTtcmdUnbind (p : Path) (tid : Nat)
  /-- QUEUED_COMMAND_START (R44): A queued FM API or policy command starts in arrival order once BD_TTSTAT.BUSY is 0. -/
  | queuedCommandStart
  /-- BIND_VPPB (R45): An FM API Bind vPPB binds a device, an LD or a pool LD instance, taking the missing fields from BINDPOLICY. -/
  | bindVppb (port vppb phys ldid : Nat)
  /-- UNBIND_VPPB (R61): An FM API Unbind vPPB starts the unbind sequence. -/
  | unbindVppb (port vppb : Nat)
  /-- POLICY_BIND (R555): When a host port trains, Turret applies its BINDPOLICY bind and add. -/
  | policyBind (port : Nat)
  /-- SECONDARY_BUS_RESET (R61): A host-issued reset of a vPPB (secondary bus reset or CXL Reset) starts a tenant reset. -/
  | secondaryBusReset (port vppb : Nat)
  /-- HOT_RESET (R61): A hot reset of a host link resets every tenant of the VCS. -/
  | hotReset (port : Nat)
  /-- INITIATE_DYNAMIC_CAPACITY_ADD (R51): The fabric manager's add selects tenant offsets and backing, writes PEND entries and raises the Add Capacity event. -/
  | initiateDynamicCapacityAdd (r : AddReq)
  /-- ADD_DYNAMIC_CAPACITY_RESPONSE (R54): The host's response is matched to pending records, which are accepted or returned. -/
  | addDynamicCapacityResponse (tid : Nat) (accepted : List (Nat × Nat × Nat))
  /-- ADD_TIMEOUT (R55): ADDTMO expires, every record is treated as not accepted, and Timeout is reported. -/
  | addTimeout (tid tag : Nat)
  /-- RELEASE_DYNAMIC_CAPACITY (R57): The host's release clears V, invalidates the cache entry and arms a drain mark. -/
  | releaseDynamicCapacity (tid : Nat) (list : List (Nat × Nat))
  /-- INITIATE_DYNAMIC_CAPACITY_RELEASE (R56): The fabric manager's release raises the Release Capacity event, or releases at once with Forced Removal. -/
  | initiateDynamicCapacityRelease (tid : Nat) (list : List (Nat × Nat)) (forced : Bool)
  /-- RELEASE_DRAIN_DONE (R57): BD_TDRAIN reports VIS and the release proceeds to back-invalidation. -/
  | releaseDrainDone (tid : Nat)
  /-- RELEASE_DRAIN_TIMEOUT (R60): DRNTMO expires in the release drain, and the release continues with an information fault. -/
  | releaseDrainTimeout (tid : Nat)
  /-- RELEASE_BI_DONE (R57): The release's back-invalidations are answered or reclaimed, and BINDCNT is decremented at the home. -/
  | releaseBiDone (tid eidx : Nat)
  /-- RELEASE_MIGRATION_WAIT_END (R59): A release waiting on a migrating extent proceeds on GEXT once MST is STABLE. -/
  | releaseMigrationWaitEnd (tid eidx : Nat)
  /-- EXTENT_ZERO_DONE (R57): The zeroing FILL of a released extent completes and DIRTY is cleared. -/
  | extentZeroDone (ext : Nat)
  /-- TENANT_DRAIN_END (R62): The drain counter reaches 0 and the reset moves to the abort step. -/
  | tenantDrainEnd (tid : Nat)
  /-- TENANT_DRAIN_TIMEOUT (R64): DRNTMO expires in the drain step, and the abort retires the remaining requests. -/
  | tenantDrainTimeout (tid : Nat)
  /-- TENANT_ABORT_END (R62): Every job and request of the tenant is retired, and the flush step starts. -/
  | tenantAbortEnd (tid : Nat)
  /-- TENANT_FLUSH_END (R62): Every back-invalidation of the flush step is answered or reclaimed, and QUARANTINE is entered. -/
  | tenantFlushEnd (tid : Nat)
  /-- QUARANTINE_END (R63): Q has passed since Stop, and the tenant ends as reset (BOUND) or as unbind (FREE). -/
  | quarantineEnd (tid : Nat)
  /-- BD_TDRAIN_ARM (R67): A write of ARM sets a drain mark and clears VIS and LOSS. -/
  | bdTdrainArm (tid : Nat)
  /-- WRITE_VISIBLE (R69): A write becomes globally visible and leaves the drain counter; VIS may rise. -/
  | writeVisible (tid wid : Nat)
  /-- MESSAGE_INGRESS (R179): A message is received from a port or block and passes the ingress pipeline to its VOQ. -/
  | messageIngress (m : Msg)
  /-- CXL_MEM_M2S_REQUEST (R40): A CXL.mem or CXL.io memory request of a POOL tenant is translated from tenant offset to GPA. -/
  | cxlMemM2sRequest (port vppb : Nat) (m : Msg)
  /-- TRANSLATION_CACHE_FILL (R42): The extent table read of a translation cache miss returns, and translation continues. -/
  | translationCacheFill (tid eidx : Nat) (dec mirrorDec : LineErr)
  /-- HOME_HOST_REQUEST (R86): A host CXL.mem request of an HDM-DB tenant reaches the home and is mapped to a request kind. -/
  | homeHostRequest (m : Msg) (op : HostOp) (gpa data en : Nat) (rivals : List Nat)
  /-- HOME_RDSHARED (R89): A Cupola RdShared is served at the home by directory state. -/
  | homeRdshared (m : Coh) (rivals : List Nat)
  /-- HOME_RDOWN (R89): A Cupola RdOwn is served at the home by directory state. -/
  | homeRdown (m : Coh) (rivals : List Nat)
  /-- HOME_UPGRADE (R90): A Cupola Upgrade is served, or is served as an ownership read when the sender is not recorded. -/
  | homeUpgrade (m : Coh) (rivals : List Nat)
  /-- HOME_WBDIRTY (R143): A WbDirty at the home writes Dome and frees or updates the entry, or is held under R144. -/
  | homeWbdirty (m : Coh) (rivals : List Nat)
  /-- HOME_WBCLEAN (R143): A WbClean at the home frees the entry or removes the sender. -/
  | homeWbclean (m : Coh) (rivals : List Nat)
  /-- HOME_EVICT (R143): An Evict at the home removes the sharer. -/
  | homeEvict (m : Coh) (rivals : List Nat)
  /-- HOME_SNOOP_ACK (R146): A Cupola's Ack answer to a snoop is counted, and the sender is kept as sharer or recorded as owner. -/
  | homeSnoopAck (m : Coh)
  /-- HOME_INVACK (R146): An InvAck removes the sender from the open transaction. -/
  | homeInvack (m : Coh)
  /-- HOME_DATAM (R146): DataM at the home is written, passed, merged or discarded as the request decides. -/
  | homeDatam (m : Coh)
  /-- HOME_DATAO (R146): DataO at the home is passed to the requester, and the sender is recorded as owner. -/
  | homeDatao (m : Coh)
  /-- HOME_BIRSP (R118): A host BIRsp answers its BISnp, and the port's state is decided once all are answered. -/
  | homeBirsp (port tid addr : Nat) (r : BiRsp)
  /-- HOME_COMPLETION_ACK (R145): The requester's completion Ack closes the transaction: the target state is written and the entry unpinned. -/
  | homeCompletionAck (m : Coh)
  /-- BICONFLICT (R88): A host BIConflict is resolved with BIConflictAck under CXL 3.1. -/
  | biconflict (port tid addr : Nat)
  /-- BISNP_TIMEOUT (R119): A BISnp gets no BIRsp within BITMO, and the host port is declared dead. -/
  | bisnpTimeout (port tid addr : Nat)
  /-- FENCE_RECEIVE (R130): A Fence from a peer is taken, and the earlier messages it covers are awaited. -/
  | fenceReceive (m : FenceIn)
  /-- FENCE_ACK_SEND (R130): Every earlier message is delivered and accepted, so the peer answers the Fence with Ack. -/
  | fenceAckSend (src txn : Nat)
  /-- CUPOLA_SNPSHARED (R139): A Cupola answers SnpShared from its line state. -/
  | cupolaSnpshared (m : Coh)
  /-- CUPOLA_SNPINV (R139): A Cupola answers SnpInv from its line state. -/
  | cupolaSnpinv (m : Coh)
  /-- CUPOLA_SNPFWDSHARED (R139): A Cupola answers SnpFwdShared by forwarding DataS to FWD. -/
  | cupolaSnpfwdshared (m : Coh)
  /-- CUPOLA_SNPFWDOWN (R139): A Cupola answers SnpFwdOwn by forwarding DataE or DataM to FWD. -/
  | cupolaSnpfwdown (m : Coh)
  /-- CUPOLA_HOST_BIRSP (R138): Local host BIRsps complete the host step before the Cupola answers a snoop or releases a line. -/
  | cupolaHostBirsp (port tid addr : Nat) (r : BiRsp)
  /-- CUPOLA_DATAS (R140): DataS arrives at the requesting Cupola and is held or installed. -/
  | cupolaDatas (m : Coh)
  /-- CUPOLA_DATAE (R140): DataE arrives at the requesting Cupola and is held or installed. -/
  | cupolaDatae (m : Coh)
  /-- CUPOLA_DATAM (R140): DataM arrives at the requesting Cupola and is held or installed. -/
  | cupolaDatam (m : Coh)
  /-- CUPOLA_ACK (R140): The home's Ack arrives at a Cupola, completing a grant or a release. -/
  | cupolaAck (m : Coh)
  /-- CUPOLA_RETRY (R140): A Cupola receives Retry and schedules a resend after back-off. -/
  | cupolaRetry (m : Coh)
  /-- RETRY_BACKOFF_EXPIRE (R113): RETRYBO × 64 cycles pass, and the Cupola sends the request again. -/
  | retryBackoffExpire (rec : Nat)
  /-- TENURE_HOLD_END (R120): The tenure hold ends, and any parked snoop is answered. -/
  | tenureHoldEnd (rec : Nat)
  /-- CUPOLA_HOST_SHARED_READ (R141): A local host shared read for a remote-home line hits or sends RdShared. -/
  | cupolaHostSharedRead (m : Msg) (gpa : Nat) (wantData : Bool)
  /-- CUPOLA_HOST_OWNERSHIP_READ (R141): A local host ownership read hits or sends RdOwn or Upgrade. -/
  | cupolaHostOwnershipRead (m : Msg) (gpa : Nat) (wantData : Bool)
  /-- CUPOLA_NONCACHING_READ (R141): A non-caching read of a remote line hits or sends RdShared. -/
  | cupolaNoncachingRead (m : Msg) (gpa : Nat)
  /-- CUPOLA_NONCACHING_WRITE (R141): A non-caching write merges into an M line or sends RdOwn or Upgrade. -/
  | cupolaNoncachingWrite (m : Msg) (op : HostOp) (gpa data en : Nat)
  /-- RECLAIM_WALK_START (R157): A reclaim walk starts for every dead agent not yet reclaimed. -/
  | reclaimWalkStart
  /-- RECLAIM_SET_STEP (R155): The walk reads one set and reclaims or poisons the entries that name dead agents. -/
  | reclaimSetStep (slice : Nat)
  /-- RECLAIM_WALK_END (R158): The walk ends and sends one RECLAIM fault per reclaimed agent. -/
  | reclaimWalkEnd
  /-- HD_DEAD_CLEAR (R161): An agent's HD_DEAD bit clears once its walk has ended and it is back. -/
  | hdDeadClear (agent : Nat)
  /-- SLICE_FAILURE (R162): An uncorrectable error in a slice's entry array fails the slice. -/
  | sliceFailure (slice : Nat)
  /-- HD_RBCTRL_GO (R173): HD_RBCTRL.GO from Turret forces a takeover of LSLICE by DS16. -/
  | hdRbctrlGo (p : Path) (data : Word)
  /-- SLICE_TAKEOVER (R163): Takeover completes: DS16 takes the logical slice as REBUILDING, and requests are moved. -/
  | sliceTakeover
  /-- REBUILD_LINE (R165): One line of the hash set is rebuilt by broadcast invalidation, by the walk or on demand. -/
  | rebuildLine (la : Option Nat)
  /-- REBUILD_END (R168): The walk passes the last extent, DS16 becomes ACTIVE, and REBUILT is reported. -/
  | rebuildEnd
  /-- SW_RTCMD_NOP (R229): SW_RTCMD NOP does nothing. -/
  | swRtcmdNop (p : Path) (ridx : Nat)
  /-- SW_RTCMD_READ (R229): SW_RTCMD READ copies a route entry into SW_RTDATA. -/
  | swRtcmdRead (p : Path) (ridx : Nat)
  /-- SW_RTCMD_UPDATE (R187): UPDATE writes a route entry and increments EPOCH. -/
  | swRtcmdUpdate (p : Path) (ridx : Nat)
  /-- SW_RTCMD_UPDATE_REVOKE (R187): UPDATE-REVOKE writes a route entry, increments EPOCH and sets RFLOOR. -/
  | swRtcmdUpdateRevoke (p : Path) (ridx : Nat)
  /-- ROUTE_UPDATE_COMPLETE (R190): A route update completes, no earlier than 1 µs after GO. -/
  | routeUpdateComplete
  /-- MATCHING_SLOT (R192): Each slot, the central scheduler matches VOQ requests to outputs with rotating pointers. -/
  | matchingSlot
  /-- EGRESS_SELECT (R234): When the egress link can start a message, the scheduler selects a queue (strict first, then DRR). -/
  | egressSelect (xp : Nat) (credit : List MsgCls) (ecc : CellReads)
  /-- AGEING_CHECK (R214): Every 100 ns tick each queue head is checked, and an aged head is discarded. -/
  | ageingCheck
  /-- SPILL_WRITE (R204): The spill engine writes the oldest complete STAGE message to DOME within the bandwidth limit. -/
  | spillWrite (w : SpillWr)
  /-- SPILL_REFILL_READ (R204): HEAD falls below 64 cells and cells are read back from DOME. -/
  | spillRefillRead (qid : Nat)
  /-- SPILL_READ_ANSWER (R209): A spill read answer returns, QSEQ is checked and the cells join HEAD. -/
  | spillReadAnswer (qid : Nat) (ans : SpillAns)
  /-- SPILL_RELINK (R204): With DOME empty, STAGE messages are relinked into HEAD on-chip. -/
  | spillRelink (qid : Nat)
  /-- SPILL_READ_TIMEOUT (R221): A spill read unanswered for 10 µs is abandoned, and its cells are BAD. -/
  | spillReadTimeout (qid : Nat)
  /-- MULTICAST_LEG_DONE (R219): A leg sends or drops its copy and LEGS is decremented; the cells are freed at 0. -/
  | multicastLegDone (mid qid : Nat)
  /-- MULTICAST_CREDIT_TIMEOUT (R218): A leg lacking posted credit 10 µs at queue head drops its copy. -/
  | multicastCreditTimeout (qid : Nat)
  /-- SW_AUDCTRL_GO (R222): SW_AUDCTRL.GO starts the leaked-buffer audit, or sets BAD_STATE. -/
  | swAudctrlGo
  /-- AUDIT_END (R223): The audit ends, having rebuilt the free lists and reported leaks and duplicates. -/
  | auditEnd
  /-- SHAPER_SLOT_BOUNDARY (R237): At each 2.5 ns boundary every shaper adds idle slope, clamps its credit and takes part in selection. -/
  | shaperSlotBoundary
  /-- SHAPER_CONFIG_WRITE (R239): A write of ISLOPE, CAP or FLOOR takes effect at the end of its slot with a new clamp. -/
  | shaperConfigWrite (qid : Nat) (limits : Bool) (data : Word)
  /-- PACING_RELEASE (R243): The pacer releases one eligible request per cycle per host port and computes the next E. -/
  | pacingRelease (port : Nat)
  /-- PACING_WHEEL_TICK (R245): Each 10 ns tick, the wheel cascades level 1 and marks level 0 tenants eligible. -/
  | pacingWheelTick
  /-- TS_PACE_RATE_WRITE (R246): A RATE write at the end of its tick recomputes E and re-places the tenant. -/
  | tsPaceRateWrite (tid rate : Nat)
  /-- SAMPLER_CAPTURE (R252): Each PERIOD, all queues are captured and QMAX, DMAX and the histograms are updated. -/
  | samplerCapture
  /-- DM_RTAIL_DOORBELL (R265): A DM_RTAIL write submits jobs, or is refused with DBERR. -/
  | dmRtailDoorbell (p : Path) (ring : Nat) (data : Word)
  /-- DM_DISPATCH (R273): A free engine takes the next pending ring by priority and rotating pointer. -/
  | dmDispatch
  /-- COPY (R270): A COPY job copies LEN bytes from SRC to DST in windows. -/
  | copy (eng : Nat)
  /-- FILL (R270): A FILL job writes PATTERN over LEN bytes at DST. -/
  | fill (eng : Nat)
  /-- VERIFY (R282): A VERIFY job compares the source with DST or PATTERN and stops at the first difference. -/
  | verify (eng : Nat)
  /-- MIGRATE_START (R291): MIGRATE START or RESUME checks the extent, takes a record and marks the entries MIGRATING. -/
  | migrateStart (eng : Nat)
  /-- MIGRATE_ABANDON (R299): MIGRATE ABANDON poisons the copied lines, restores STABLE and frees the destination. -/
  | migrateAbandon (eng : Nat)
  /-- DM_FENCE (R288): A FENCE at ring head waits for WRING's HEAD and for peer Fence answers. -/
  | dmFence (ring : Nat)
  /-- DM_FENCE_SATISFIED (R288): The FENCE conditions hold (or a peer dies), and the FENCE completes. -/
  | dmFenceSatisfied (ring : Nat)
  /-- DM_WINDOW_READS_DONE (R276): A window's checks and reads are done: the first failure is found and writes are issued before it. -/
  | dmWindowReadsDone (eng ring : Nat)
  /-- DM_WINDOW_COMMIT (R276): A window's writes are visible and the progress mark is committed. -/
  | dmWindowCommit (eng : Nat)
  /-- DM_RCFG_WRITE (R303): A Turret write of DM_RCFG configures or enables a ring, or sets CFGERR. -/
  | dmRcfgWrite (p : Path) (ring : Nat) (data : Word)
  /-- DM_ENGINE_FAILURE (R285): An engine fails and its job returns to its ring as pre-empted. -/
  | dmEngineFailure (eng : Nat)
  /-- MIGRATION_LINE_LOCK (R292): A migration lock opens on a source line and invalidates its holders. -/
  | migrationLineLock (eng : Nat)
  /-- MIGRATION_LOCK_RETRY (R293): A lock held for lack of a way is offered again each cycle. -/
  | migrationLockRetry
  /-- MIGRATION_LINE_COPIED (R292): A line's destination write is visible; the line is marked copied and WMARK advances. -/
  | migrationLineCopied (eng line : Nat)
  /-- MIGRATION_COMMIT (R297): The drain ends, the entries switch to the destination, and the source is zeroed. -/
  | migrationCommit (rec : Nat) (timedOut : Bool)
  /-- DOME_INIT_COMPLETE (R311): Dome initialisation ends and DD_STAT.READY is set. -/
  | domeInitComplete
  /-- DOME_READ_COMPLETE (R326): A Dome read returns and is decided by its decode. -/
  | domeReadComplete (off : Nat) (rd : DomeReader) (dec mirrorDec : LineErr) (wrSince : Bool)
  /-- DOME_WRITE (R323): A full Dome write is stored with MD, replacing poison. -/
  | domeWrite (off data master : Nat) (w : Option (Nat × Nat)) (cmdFail : WrFails)
  /-- DOME_PARTIAL_WRITE (R325): A partial write is read-modify-written, or discarded on poison. -/
  | domePartialWrite (off data en master : Nat) (w : Option (Nat × Nat)) (dec : CopyErrs)
  /-- DOME_METADATA_WRITE (R323): A metadata-only write rewrites the line's MD by read-modify-write. -/
  | domeMetadataWrite (off : Nat) (hint : Bool) (dec : LineErr)
  /-- DOME_READ_TIMEOUT (R327): An RDIMM read unanswered for 10 µs returns poison. -/
  | domeReadTimeout (off : Nat) (rd : LateRead)
  /-- SCRUB_READ (R329): Every DD_SCRINTV the scrubber reads and corrects one line. -/
  | scrubRead (ch : Nat) (dec : LineErr) (wrSince : Bool)
  /-- DD_CFG_WRITE (R330): A PERIOD change recomputes every DD_SCRINTV. -/
  | ddCfgWrite (p : Path) (data : Word)
  /-- AG_RDCMD_NOP (R364): AG_RDCMD NOP does nothing. -/
  | agRdcmdNop (p : Path) (idx : Nat)
  /-- AG_RDCMD_READ (R364): AG_RDCMD READ copies a descriptor into AG_RDDATA0-3. -/
  | agRdcmdRead (p : Path) (idx : Nat)
  /-- AG_RDCMD_WRITE (R347): AG_RDCMD WRITE stores a descriptor after checking LIMIT and reserved bits. -/
  | agRdcmdWrite (p : Path) (idx : Nat)
  /-- AG_VINFO_VALID_CLEAR (R361): Writing 1 to VALID rearms the violation record. -/
  | agVinfoValidClear
  /-- AG_SYSSET_WRITE (R363): A write of AG_SYSSET from Turret is ignored as a whole when BASE + CNT exceeds 65,536. -/
  | agSyssetWrite (p : Path) (data : Word)
  /-- PRSNT_CHANGE (R372): A PRSNT_N change is accepted after 20 equal samples. -/
  | prsntChange (port : Nat) (present dpcEnabled : Bool)
  /-- DOWN_PERST_RELEASE (R374): 100 µs after the last hold condition ends, a DOWN port raises PERST_N and starts training. -/
  | downPerstRelease (r : PerstEnd)
  /-- HOST_PERST_ASSERT (R375): A host asserts PERST_N, taking the link down and resetting every tenant of the VCS. -/
  | hostPerstAssert (port : Nat)
  /-- LINK_UP (R377): Training completes at the negotiated rate, width and mode. -/
  | linkUp (port : Nat) (rate : RateSet) (width : LaneSet) (mode : ModeSet) (cxl : Bool) (mps : Nat)
  /-- EQUALISATION_FAILURE (R380): Two equalisation failures lower FBRATE, and the port trains again. -/
  | equalisationFailure (port rate : Nat)
  /-- LINK_DOWN (R382): A fabric link goes down with a reason, is reported and may retrain. -/
  | linkDown (port why : Nat)
  /-- OCTET_PLL_UNLOCK (R382): An octet PLL loses lock, and every port goes down with OCTET. -/
  | octetPllUnlock (octet : Nat)
  /-- OCTET_RELOCK (R382): An octet relock ends; a third failure in 1 s sets FAILED and sends OCTFAIL. -/
  | octetRelock (octet : Nat) (ok : Bool)
  /-- HOST_GRACE_EXPIRY (R383): A host link's grace timer expires; the port is declared dead and its tenants reset. -/
  | hostGraceExpiry (port : Nat)
  /-- L0S_ENTRY (R386): A transmitter idle for L0SIDLE enters L0s. -/
  | l0sEntry (port : Nat) (rx : Bool)
  /-- L0S_EXIT (R386): A message to send takes the direction out of L0s. -/
  | l0sExit (port : Nat) (rx : Bool)
  /-- L0P_ENTRY (R386): Low use over 10 µs, or a partner request, narrows the link to L0p. -/
  | l0pEntry (port width : Nat) (partner : Bool)
  /-- L0P_EXIT (R386): Egress backlog or a partner request restores full width. -/
  | l0pExit (port : Nat) (partner : Bool)
  /-- L1_REQUEST (R387): A partner's L1 entry request is accepted, or rejected with PM_Active_State_Nak. -/
  | l1Request (port : Nat) (aspm : Bool)
  /-- L1_EXIT (R386): A queued message or the partner takes the link out of L1. -/
  | l1Exit (port : Nat) (partner : Bool)
  /-- IDE_KM_KEY_PROGRAM (R392): IDE_KM programs keys, and the stream can reach Secure state. -/
  | ideKmKeyProgram (port stream : Nat) (kind : KeyUse) (go : Bool)
  /-- IDE_INTEGRITY_FAILURE (R395): An IDE check fails: the stream goes Insecure and its messages are BAD or discarded. -/
  | ideIntegrityFailure (port stream : Nat)
  /-- FP_PCTRL_RETRAIN (R404): RETRAIN starts a retrain of the port. -/
  | fpPctrlRetrain (p : Path) (port : Nat)
  /-- FP_PCTRL_RESETFB (R380): RESETFB restores FBRATE to MAXRATE. -/
  | fpPctrlResetfb (p : Path) (port : Nat)
  /-- FP_PCTRL_DISABLE (R404): DISABLE holds the link in Disabled with DOWNWHY LOCAL. -/
  | fpPctrlDisable (p : Path) (port : Nat) (v : Bool)
  /-- FP_PCTRL_TESTMODE (R396): TESTMODE holds the link in Disabled for lane test, and clearing it disables every lane test. -/
  | fpPctrlTestmode (p : Path) (port : Nat) (v : Bool)
  /-- LT_CTRL_WRITE (R396): A write of LT_CTRL enables a lane test, or sets CFGERR when EN is not allowed. -/
  | ltCtrlWrite (p : Path) (lane : Nat) (data : Word)
  /-- LT_INJ_ONE (R400): Writing ONE inverts the first bit of the next word. -/
  | ltInjOne (p : Path) (lane : Nat) (data : Word)
  /-- CHECKER_LOCK (R398): The checker declares lock after 64 error-free bits. -/
  | checkerLock (lane : LaneBits)
  /-- CHECKER_LOSE_LOCK (R398): 32 errors in 64 bits lose lock, set LOSTLOCK and reseed the checker. -/
  | checkerLoseLock (lane : LaneBits)
  /-- REFCLK_WINDOW (R615): A 10 µs REFCLK detector window ends, and stability holds or ends. -/
  | refclkWindow (group : Nat) (inRange : Bool)
  /-- SPIRE_FLIT_RECEIVE (R413): A Spire flit is accepted in sequence, or discarded with a NAK. -/
  | spireFlitReceive (port ftype fseq aseq : Nat) (av : Bool) (rest : FlitRest)
  /-- SPIRE_NAK_RECEIVE (R414): A NAK makes the sender replay from ASEQ + 1. -/
  | spireNakReceive (port aseq : Nat)
  /-- SPIRE_REPLAY_TIMEOUT (R414): 4 µs with no ASEQ progress replays from the oldest unacknowledged flit. -/
  | spireReplayTimeout (port : Nat)
  /-- SPIRE_FRAME_FORWARD (R418): A frame for another module is forwarded with HOPS + 1, or dropped at the hop limit. -/
  | spireFrameForward (port : Nat) (f : SlFrame)
  /-- SPIRE_FRAME_DELIVER (R420): A frame for this module is checked for ECRC and BAD and, when sequenced, delivered by its window position. -/
  | spireFrameDeliver (port : Nat) (f : SlFrame) (ecrc : Nat)
  /-- SPIRE_ACK_RECEIVE (R421): An ACKSEQ frees the retransmit frames it covers. -/
  | spireAckReceive (src ackseq : Nat)
  /-- SPIRE_ACK_SEND (R421): NEXP changed and nothing was sent for 1 µs, so an ACK frame is sent. -/
  | spireAckSend (peer : Nat)
  /-- SPIRE_RETRANSMIT_TIMEOUT (R422): A frame not freed within RTMO is retransmitted on the route in force. -/
  | spireRetransmitTimeout (peer tseq : Nat)
  /-- SPIRE_PORT_DOWN (R443): A Spire port goes DOWN, and its unfreed frames are retransmitted at once on the alternate route. -/
  | spirePortDown (port why : Nat)
  /-- SPIRE_TRAINING (R424): A Spire training attempt runs clock lock, deskew, IDENT and delay measurement. -/
  | spireTraining (port peer peerPort nmod : Nat) (digest : PlanId) (delay : Nat)
  /-- SPIRE_TRAINING_FAIL (R424): An attempt exceeds 100 µs and is retried after 1 ms; three failures in 1 s make the port FAILED. -/
  | spireTrainingFail (port : Nat) (lane : Bool)
  /-- SL_PCFG_RETRAIN (R445): RETRAIN starts training from DOWN or CHECKFAIL. -/
  | slPcfgRetrain (p : Path) (port : Nat)
  /-- HEARTBEAT_SEND (R433): Every 10 µs a HEARTBEAT is sent to every peer of the plan. -/
  | heartbeatSend
  /-- HEARTBEAT_RECEIVE (R433): A HEARTBEAT from a peer restarts its liveness timer. -/
  | heartbeatReceive (src inc : Nat)
  /-- HEARTBEAT_TIMEOUT (R433): No HEARTBEAT for 100 µs declares an ALIVE peer dead. -/
  | heartbeatTimeout (peer : Nat)
  /-- JOIN_SEND (R434): Every 10 µs a JOIN is sent to each ABSENT or DEAD peer. -/
  | joinSend
  /-- JOIN_RECEIVE (R434): A JOIN is answered, and the peer may become ALIVE with fresh sequence spaces. -/
  | joinReceive (src inc ackinc : Nat) (ackincv : Bool)
  /-- FENCEOUT_RECEIVE (R435): A FENCEOUT resolves a split view by declaration, fabric reset or nothing. -/
  | fenceoutReceive (src inc : Nat)
  /-- TIME_SEND (R438): Every 1 µs a TIME frame is sent on every UP port. -/
  | timeSend
  /-- TIME_RECEIVE (R439): A TIME frame from the master's route steps or slews stack time. -/
  | timeReceive (port time depth : Nat)
  /-- TSYNC_TIMEOUT (R440): No TIME frame accepted for 5 µs clears TSYNC. -/
  | tsyncTimeout
  /-- SPIRE_SLEEP_S1 (R442): A direction idle for S1IDLE enters S1. -/
  | spireSleepS1 (port : Nat) (rx : Bool)
  /-- SPIRE_SLEEP_S2 (R442): A direction in S1 for a further S2IDLE enters S2. -/
  | spireSleepS2 (port : Nat) (rx : Bool)
  /-- SPIRE_SLEEP_EXIT (R442): A frame to send takes a sleeping direction to L0. -/
  | spireSleepExit (port : Nat) (rx : Bool)
  /-- ALLOC_CLAIM (R655): A home claims a run of free extents, or answers NOTFREE. -/
  | allocClaim (src tag first cnt : Nat)
  /-- ALLOC_INC (R655): A home increments BINDCNT and sets SHARED on a run. -/
  | allocInc (src tag first cnt : Nat)
  /-- ALLOC_DEC (R655): A home decrements BINDCNT and zeroes extents that reach 0. -/
  | allocDec (src tag first cnt : Nat)
  /-- ALLOC_UNCLAIM (R655): A home returns never-accessible backing to free without DIRTY. -/
  | allocUnclaim (src tag first cnt : Nat)
  /-- ALLOC_ANSWER (R655): An ALLOC ANSWER reaches the requesting module and completes or re-chooses its step. -/
  | allocAnswer (src tag result : Nat)
  /-- FAULT_PROCESS (R463): The collector takes one message per cycle: it captures, logs and applies the domain reaction. -/
  | faultProcess
  /-- REMOTE_FAULT_RECEIVE (R654): A FAULT frame's message enters the remote queue. -/
  | remoteFaultReceive (m : FMsg)
  /-- QUIET_TIMER_EXPIRY (R465): The quiet period ends, and the domain recovers to OK or latches. -/
  | quietTimerExpiry (didx : Nat)
  /-- FC_DCMD_RELEASE (R467): RELEASE moves a LATCHED domain to OK and lifts CONTAIN. -/
  | fcDcmdRelease
  /-- FC_DCMD_REARM (R458): REARM clears the domain's FEV. -/
  | fcDcmdRearm
  /-- FC_DCMD_CLRCNT (R480): CLRCNT sets RCNT to 0. -/
  | fcDcmdClrcnt
  /-- FC_FESTAT_VALID_CLEAR (R456): Writing 1 to VALID rearms the first-error capture. -/
  | fcFestatValidClear
  /-- FC_ALM_ARM (R470): ARM sets ARMED. -/
  | fcAlmArm
  /-- FC_ALM_SWLVL_WRITE (R470): A SWLVL write sets the alarm level outside a pulse and sends ALMLVL. -/
  | fcAlmSwlvlWrite (level : Bool)
  /-- FC_LOGRD_WRITE (R473): An FC_LOGRD write within range consumes log entries. -/
  | fcLogrdWrite (rd : Nat)
  /-- PERSIST_LOG_WRITE (R474): Turret copies qualifying log entries to the flash fault log. -/
  | persistLogWrite
  /-- PERSIST_QUEUE_FLUSH (R565): PFW falls, and the entries queued in B0 are written to flash. -/
  | persistQueueFlush
  /-- DOMAIN_TIMEOUT (R489): An access unanswered after 80 ticks ends with DOMAIN_TIMEOUT. -/
  | domainTimeout (p : Path)
  /-- RESET_NOTICE (R494): A reset notice is taken: the FIFO is flushed, pending crossings abort and NOTICE is set. -/
  | resetNotice (d : Nat)
  /-- RESET_READY (R494): The reset side signals ready and NOTICE clears two cycles later. -/
  | resetReady (d : Nat)
  /-- STANDBY_ENTRY (R495): After SBIDLE of idleness the module halts, self-refreshes Dome and stops its clocks. -/
  | standbyEntry (stop : Option (Nat × WakeWhy))
  /-- STANDBY_WAKE (R496): A wake event starts the wake sequence. -/
  | standbyWake (why : WakeWhy)
  /-- WAKE_COMPLETE (R496): The core is ready, HALT clears and the links train. -/
  | wakeComplete (us : Nat)
  /-- MODULE_RESET (R499): A module reset holds every domain for 10 µs and restarts start-up. -/
  | moduleReset
  /-- FABRIC_RESET (R501): A fabric reset halts, unbinds, empties queues, audits and re-applies the image. -/
  | fabricReset (ms : Nat)
  /-- WATCHDOG_EXPIRY (R499): The unserviced Turret watchdog expires and starts a module reset. -/
  | watchdogExpiry
  /-- CLOCK_LOCK_LOSS (R499): REFOSC, the core PLL or MCLK loses lock and starts a module reset. -/
  | clockLockLoss
  /-- CK_RSTCMD_MODULE (R499): CK_RSTCMD SCOPE MODULE starts a module reset. -/
  | ckRstcmdModule (p : Path)
  /-- CK_RSTCMD_FABRIC (R500): CK_RSTCMD SCOPE FABRIC starts a fabric reset. -/
  | ckRstcmdFabric (p : Path)
  /-- CK_RSTCMD_PORT (R497): CK_RSTCMD SCOPE PORT takes the link down and retrains it. -/
  | ckRstcmdPort (p : Path) (inst : Nat)
  /-- CK_RSTCMD_TENANT (R497): CK_RSTCMD SCOPE TENANT runs a tenant reset. -/
  | ckRstcmdTenant (p : Path) (inst : Nat)
  /-- CK_RSTCMD_CHANNEL (R497): CK_RSTCMD SCOPE CHANNEL clears channel counters and restarts the scrubber. -/
  | ckRstcmdChannel (p : Path) (inst : Nat)
  /-- CK_RSTCMD_SPIRE (R497): CK_RSTCMD SCOPE SPIRE resets the port's SCLK domain and retrains it. -/
  | ckRstcmdSpire (p : Path) (inst : Nat)
  /-- CK_RSTCMD_ENGINE (R497): CK_RSTCMD SCOPE ENGINE clears the engine and returns its job as pre-empted. -/
  | ckRstcmdEngine (p : Path) (inst : Nat)
  /-- CK_PWRCMD_WAKE (R503): WAKE starts a wake with reason TURRET or stops an entry in progress. -/
  | ckPwrcmdWake (p : Path)
  /-- FEED_VALID_RISE (R511): A feed rises above feed valid and Watchtower starts in SEATWAIT. -/
  | feedValidRise (feedB longOff : Bool)
  /-- WATCHTOWER_STOP (R511): VIN and VBUS both fall below 20 V and Watchtower stops. -/
  | watchtowerStop
  /-- SEATING_ASSERT (R512): Both seating pins are asserted, and SEATWAIT moves to DEBOUNCE. -/
  | seatingAssert
  /-- DEBOUNCE_COMPLETE (R514): After 100 ms seated, SLOT_ID is sampled and RAMP starts. -/
  | debounceComplete (slotPins : Nat)
  /-- SEATING_RELEASE_BEGIN (R513): A seating pin is released; the gate goes off and PFW rises, or DEBOUNCE returns to SEATWAIT. -/
  | seatingReleaseBegin (pin2 : Bool)
  /-- SEATING_GLITCH (R513): A release shorter than 4,000 ticks ends and the ramp resumes. -/
  | seatingGlitch
  /-- SEATING_REMOVAL (R513): A release reaches 4,000 ticks; removal to SEATWAIT. -/
  | seatingRemoval
  /-- LATCH_CLEAR_REMOVAL (R521): A release reaching 1 s while LATCHED clears the latch and count. -/
  | latchClearRemoval
  /-- CURRENT_LIMIT_REACHED (R519): IBUS reaches the current limit and the fault timer starts. -/
  | currentLimitReached
  /-- FAULT_TIMER_EXPIRY (R519): FTMR ms at the limit expires, and fault shutdown follows. -/
  | faultTimerExpiry
  /-- SHORT_CIRCUIT_TRIP (R519): A short-circuit trip turns the gate off within 2 µs, and fault shutdown follows. -/
  | shortCircuitTrip
  /-- PASS_THERMAL_TRIP (R520): The pass transistor thermal trip causes fault shutdown. -/
  | passThermalTrip
  /-- RAMPMAX_EXPIRY (R518): The gate is not fully on within RAMPMAX, so fault shutdown follows. -/
  | rampmaxExpiry
  /-- RETRY_TIMER_EXPIRY (R512): The RTMR retry timer expires in COOLDOWN and RAMP starts again. -/
  | retryTimerExpiry
  /-- THERMAL_TRIP_RELEASE (R520): The pass transistor cools below the release level, allowing COOLDOWN to end. -/
  | thermalTripRelease
  /-- FEED_OVERVOLTAGE (R515): VIN rises above overvoltage and the gate is held off in RAMP. -/
  | feedOvervoltage
  /-- OVERVOLTAGE_CLEAR (R515): VIN stays below overvoltage for 10 ms and the ramp restarts. -/
  | overvoltageClear
  /-- GATE_FULLY_ON (R510): The gate reaches full drive and RAMP moves to ON. -/
  | gateFullyOn
  /-- PGOOD_RISE (R523): PGOOD rises after the gate is fully on and IBUS is stable, and the converter is enabled. -/
  | pgoodRise
  /-- PGOOD_FALL (R523): PGOOD falls on bus undervoltage or 5 ms of gate off; a PWR frame is sent. -/
  | pgoodFall (undervoltage : Bool)
  /-- CONVERTER_DISABLE (R524): 10 µs after the PGOOD 0 PWR frame, the converter is disabled. -/
  | converterDisable
  /-- PFW_RISE (R522): PFW rises on low VBUS, a seating release or the gate going off. -/
  | pfwRise
  /-- PFW_FALL (R522): PFW falls after 4,000 ticks above release with the gate on. -/
  | pfwFall
  /-- FEEDLOSS (R516): A masked feed stops being valid while PGOOD is 1, and EVENT FEEDLOSS is sent. -/
  | feedloss (feedB : Bool)
  /-- FEEDRESTORE (R516): A feed becomes valid again, and EVENT FEEDRESTORE is sent. -/
  | feedrestore (feedB : Bool)
  /-- RETRY_COUNT_CLEAR (R521): 60 s of ON with PGOOD clears the retry count. -/
  | retryCountClear
  /-- SMBUS_MCTP_WRITE (R529): Command 0x0F buffers an MCTP packet and forwards it in MCTPIN. -/
  | smbusMctpWrite (pec : Bool) (payload : List Byte)
  /-- SMBUS_STATUS_READ (R531): Command 0xF0 returns the status block. -/
  | smbusStatusRead (tel : Telem)
  /-- SMBUS_RESET_REQUEST (R529): Command 0xF1 with 0xA5 sends RSTREQ. -/
  | smbusResetRequest (pec : Bool) (data : Nat)
  /-- SMBUS_REGISTER_REQUEST (R529): Command 0xF2 sends a REGREQ. -/
  | smbusRegisterRequest (pec : Bool) (payload : List Byte)
  /-- SMBUS_REGISTER_RESPONSE_READ (R529): Command 0xF3 returns the latest REGRSP, or 0xFF. -/
  | smbusRegisterResponseRead
  /-- SMBUS_CLOCK_LOW_TIMEOUT (R529): 25 ms of clock low makes Watchtower release the bus. -/
  | smbusClockLowTimeout
  /-- MCTPOUT_RETRY (R530): 1 ms after a NACK Watchtower retries the SMBus write, at most three times. -/
  | mctpoutRetry
  /-- ACK_FRAME (R536): An ACK frame acknowledges a sequenced frame, or NAKs it for resend. -/
  | ackFrame (fab alarm ok : Bool) (payload : List Byte)
  /-- HELLO (R538): A HELLO received brings the barrier link UP once both sides have exchanged one. -/
  | hello (fab ok : Bool) (payload : List Byte)
  /-- SLEEP (R539): SLEEP from the fabric end makes Watchtower hold its frames and silence its lane. -/
  | sleep (ok : Bool) (payload : List Byte)
  /-- PWR (R541): A PWR frame releases or holds the fabric-side reset and updates PGOOD and PFW. -/
  | pwr (ok : Bool) (payload : List Byte)
  /-- STATUS (R540): A STATUS frame updates the BC telemetry registers. -/
  | status (ok : Bool) (payload : List Byte)
  /-- EVENT (R540): An EVENT frame reports a feed, glitch, overvoltage or settings result. -/
  | event (ok : Bool) (seq : Nat) (payload : List Byte)
  /-- CFGRPT (R540): A CFGRPT frame reports the settings in force and updates MATCH. -/
  | cfgrpt (ok : Bool) (seq : Nat) (payload : List Byte)
  /-- MCTPIN (R541): An MCTPIN frame passes an MCTP packet to Turret. -/
  | mctpin (ok : Bool) (seq : Nat) (payload : List Byte)
  /-- RSTREQ (R541): An RSTREQ frame starts a module reset with cause CHASSIS. -/
  | rstreq (ok : Bool) (seq : Nat) (payload : List Byte)
  /-- REGREQ (R584): A REGREQ is executed as the barrier channel and answered with REGRSP. -/
  | regreq (ok : Bool) (seq : Nat) (payload : List Byte)
  /-- ALARM (R471): An ALARM frame makes Watchtower assert ALM_N for MINWIDTH or extend the pulse. -/
  | alarm (ok : Bool) (seq : Nat) (payload : List Byte)
  /-- ALMLVL (R532): An ALMLVL frame sets Watchtower's SWLVL copy. -/
  | almlvl (ok : Bool) (seq : Nat) (payload : List Byte)
  /-- SETCFG (R528): A SETCFG block is stored or rejected, answered with CFGOK or CFGREJ. -/
  | setcfg (ok : Bool) (seq : Nat) (payload : List Byte)
  /-- MCTPOUT (R530): An MCTPOUT frame makes Watchtower write the packet as SMBus controller. -/
  | mctpout (ok : Bool) (seq : Nat) (payload : List Byte)
  /-- REGRSP (R540): A REGRSP frame stores the register response for command 0xF3. -/
  | regrsp (ok : Bool) (seq : Nat) (payload : List Byte)
  /-- BARRIER_RESEND_TIMEOUT (R536): 100 µs without an ACK resends the unacknowledged frames from the oldest. -/
  | barrierResendTimeout (fab : Bool)
  /-- ALARM_REPEAT (R536): An unacknowledged ALARM is repeated every 20 µs. -/
  | alarmRepeat
  /-- PWR_REPEAT (R540): PWR is repeated every 1 ms. -/
  | pwrRepeat
  /-- STATUS_REPEAT (R540): STATUS is sent every 1 ms. -/
  | statusRepeat (tel : Telem)
  /-- HELLO_REPEAT (R538): While synchronised, HELLO is sent every 100 µs until one is received. -/
  | helloRepeat (fab : Bool)
  /-- BARRIER_SYNC (R538): 16 clean K28.5 characters synchronise a receiver. -/
  | barrierSync (fab : Bool)
  /-- BARRIER_LINK_DOWN (R538): Sync loss, 16 sends without progress or a BC reset takes the barrier link down. -/
  | barrierLinkDown (fab syncLost : Bool)
  /-- ALARM_PULSE_END (R470): The alarm pulse ends and ALM_N follows SWLVL. -/
  | alarmPulseEnd
  /-- BC_WCFG3_WRITE (R544): A Turret write of BC_WCFG3 sends SETCFG with a computed CRC. -/
  | bcWcfg3Write (p : Path) (data : Word)
  /-- START_UP (R561): Start-up verifies and boots a slot, applies the image, trains Dome and reaches ACTIVE or HOLD. -/
  | startUp (pops : List ChPop) (readA readB : Bool) (ms : Nat)
  /-- SLOT_CONFIRMATION (R560): 10 s in ACTIVE confirms a TRIAL slot, performs KEYPROV and burns the fuses. -/
  | slotConfirmation
  /-- ID_LDCMD_NOP (R569): Load command NOP does nothing. -/
  | idLdcmdNop (p : Path) (slot : Bool)
  /-- BEGIN (R569): BEGIN opens a load session and erases the slot. -/
  | loadBegin (p : Path) (slot : Bool)
  /-- WRITE (R569): WRITE programs load buffer bytes into the slot. -/
  | loadWrite (p : Path) (slot : Bool)
  /-- COMMIT (R569): COMMIT verifies the slot and marks it PENDING, or BAD. -/
  | loadCommit (p : Path) (slot : Bool)
  /-- ABORT (R569): ABORT closes the session and marks the slot EMPTY. -/
  | loadAbort (p : Path) (slot : Bool)
  /-- ACTIVATE (R569): ACTIVATE starts a module reset when a slot is PENDING. -/
  | loadActivate (p : Path) (slot : Bool)
  /-- PERSISTCLR (R569): PERSISTCLR erases both counter sectors in HOLD PERSIST. -/
  | loadPersistclr (p : Path) (slot : Bool)
  /-- PLOGREAD (R569): PLOGREAD copies persistent log entries into the load buffer. -/
  | loadPlogread (p : Path) (slot : Bool)
  /-- LOAD_PFW_WAIT_END (R571): PFW falls, and a waiting erase or program starts. -/
  | loadPfwWaitEnd
  /-- GET_FW_INFO (R573): Get FW Info reports the firmware slots. -/
  | getFwInfo (p : Path)
  /-- TRANSFER_FW (R573): Transfer FW stages a part and programs the completed pages, with COMMIT at the end. -/
  | transferFw (p : Path) (action slot offset : Nat) (data : List Byte) (readOk : Bool)
  /-- ACTIVATE_FW (R573): Activate FW accepts activation at the next cold reset only. -/
  | activateFw (p : Path) (online : Bool) (slot : Nat)
  /-- SPDM_GET_CERTIFICATE (R575): The SPDM responder returns the slot 0 chain, from copy 1 if copy 0 fails. -/
  | spdmGetCertificate (ep slot off len : Nat)
  /-- SPDM_CHALLENGE (R575): The SPDM responder answers CHALLENGE signed with IDKEY. -/
  | spdmChallenge (ep slot nonce : Nat)
  /-- SPDM_GET_MEASUREMENTS (R576): The SPDM responder returns the measurement blocks. -/
  | spdmGetMeasurements (ep index nonce : Nat) (sign : Bool)
  /-- SPDM_KEY_EXCHANGE (R574): The SPDM responder opens a secured session. -/
  | spdmKeyExchange (ep slot exchange : Nat)
  /-- SPDM_UNSUPPORTED_REQUEST (R574): An unsupported SPDM request is answered with ERROR UnsupportedRequest. -/
  | spdmUnsupportedRequest (ep request : Nat)
  /-- WIN_DATA_READ (R590): A WIN_DATA read performs a single-mode beat or returns staged burst data. -/
  | winDataRead (p : Path)
  /-- WIN_DATA_WRITE (R590): A WIN_DATA write performs or stages a beat, or fills write-burst staging. -/
  | winDataWrite (p : Path) (data : Word)
  /-- WIN_CTRL_START (R591): START runs a read burst into staging or opens a write burst. -/
  | winCtrlStart (p : Path) (data : Word)
  /-- WIN_CTRL_ABORT (R592): ABORT ends the beat in progress and stops the burst. -/
  | winCtrlAbort (p : Path)
  /-- WINDOW_BEAT_END (R588): A window beat's answer arrives and sets its status. -/
  | windowBeatEnd (idx : Nat)
  /-- WINDOW_BEAT_TIMEOUT (R588): A beat unanswered for 20 µs ends DOMAIN_TIMEOUT. -/
  | windowBeatTimeout
  /-- ONAMENEX_REGISTER_READ (R585): Vendor CCI 0xC000 reads a register, subject to ID_MGCTRL. -/
  | onamenexRegisterRead (p : Path) (payload : List Byte)
  /-- ONAMENEX_REGISTER_WRITE (R585): Vendor CCI 0xC001 writes a register, subject to ID_MGCTRL. -/
  | onamenexRegisterWrite (p : Path) (payload : List Byte)
  /-- SCRATCHPAD_PORT_B_ACCESS (R596): A port B access is arbitrated and checked against the master's regions. -/
  | scratchpadPortBAccess (bank : Nat) (reqs : List SpReq) (portA : Option SpReq) (ecc : Ecc)
  /-- SCRATCHPAD_WAIT_SERVE (R594): A waiting port B access is served in a later cycle by rotation. -/
  | scratchpadWaitServe (bank : Nat) (portA : Option SpReq) (ecc : Ecc)
  /-- BIT_SET_ALIAS_WRITE (R597): A bit-set alias write atomically sets bits in the word. -/
  | bitSetAliasWrite (r : SpReq) (ecc : Ecc)
  /-- BIT_CLEAR_ALIAS_WRITE (R597): A bit-clear alias write atomically clears bits in the word. -/
  | bitClearAliasWrite (r : SpReq) (ecc : Ecc)
  /-- THERMAL_SENSOR_READING (R635): A sensor reading sets or clears WARN and CRIT and sends a PLDM event. -/
  | thermalSensorReading (n temp : Nat) (present : Bool)
  /-- TFP_THERMAL_TRIP (R637): A third consecutive over-threshold comparison turns every fabric-side supply off. -/
  | tfpThermalTrip
  /-- TEST_LOGIC_RESET (R640): TRST_N or five TMS-high cycles reset the TAP and select IDCODE. -/
  | testLogicReset
  /-- EXTEST (R640): EXTEST drives the boundary register in HOLD at level 2, else acts as BYPASS with IRERR. -/
  | extest (data : Nat)
  /-- SAMPLE_PRELOAD (R641): SAMPLE/PRELOAD samples or loads the boundary register. -/
  | samplePreload (sample : Bool) (data : Nat)
  /-- IDCODE (R640): IDCODE selects the 32-bit identification register. -/
  | idcode
  /-- DBGACC (R642): Update-DR of DBGACC issues a debug master access to a window register, or sets IGN. -/
  | dbgacc (update : Bool) (bits : Nat)
  /-- TAP_STATUS (R640): STATUS selects DT_DBGSTAT as data register. -/
  | tapStatus
  /-- CHALLENGE (R645): A CHALLENGE capture draws a fresh nonce and returns it with the serial. -/
  | challenge
  /-- RESPONSE (R645): Update-DR of RESPONSE starts verification of an unlock signature. -/
  | response (bits : Nat)
  /-- BYPASS (R640): BYPASS, or a reserved instruction with IRERR, selects the 1-bit register. -/
  | bypass (instr : Nat)
  /-- UNLOCK_VERIFY_END (R646): Verification ends: the level rises, or UNLOCKFAIL is sent. -/
  | unlockVerifyEnd
  /-- UNLOCK_LOCKOUT_END (R647): The 60 s lockout after three failures ends. -/
  | unlockLockoutEnd
  /-- RELOCK (R647): DT_DBGCMD RELOCK sets the level to 0 and the key class to NONE. -/
  | relock
  /-- DT_TMUXSEL_WRITE (R649): A TMUX selection drives its output, or holds it low with SELERR. -/
  | dtTmuxselWrite (n : Nat) (data : Word)
  /-- DT_DIRSEL_WRITE (R650): At level 2, a DT_DIRSEL write copies a directory entry into DT_DIRDATA. -/
  | dtDirselWrite (data : Word)
  /-- DT_BISTCMD_GO (R651): GO in HOLD runs a march test on the selected arrays, else BAD_STATE. -/
  | dtBistcmdGo (p : Path) (targets : Nat)
  /-- BIST_END (R651): The self-test ends and DT_BISTSTAT reports the result. -/
  | bistEnd (failed : Nat)
  /-- HOST_PERST_RELEASE (R373): The host releases PERST_N on a HOST port, and the link starts training under R377. -/
  | hostPerstRelease (port : Nat)
  /-- RAMP_PAUSE (R512): While RAMP runs, no feed remains valid, so the ramp pauses with the gate off and RAMPMAX held. -/
  | rampPause
  /-- LOAD_COMMAND_END (R569): A running load command's erase, program, verification or copy finishes, and BUSY clears with RESULT OK, VERIFY_FAIL or FLASH_ERROR and the slot state set. -/
  | loadCommandEnd (ok readOk : Bool)
  deriving DecidableEq, Repr

end Sys2Proof
end

