-- ==== Sys2Proof/WellFormed.lean ====
section
/-! DEFINITION. Which commands are well formed: every operand lies in the range that the spec gives what it names. The machine is
total on all commands; the block's surroundings send only well-formed ones. -/
namespace Sys2Proof

/-- A path: a switch mailbox is that of one of the 72 fabric ports (R582). -/
def Path.ok (p : Path) : Bool :=
  match p with
  | .cciMbox n => decide (n < 72)
  | _ => true

/-- A fault message: every field fits its width (R446). -/
def FMsg.ok (m : FMsg) : Bool :=
  decide (m.time < 2 ^ 64 ∧ m.addr < 2 ^ 64 ∧ m.code < 2 ^ 16 ∧ m.master < 2 ^ 16 ∧ m.srcunit < 2 ^ 12 ∧ m.atype < 2 ^ 8) &&
  decide (m.domain < 8 ∧ m.held < 2 ∧ m.dinst < 2 ^ 13 ∧ m.origin < 8 ∧ m.remote < 2 ∧ m.seq < 2 ^ 32)

/-- A scratchpad access: master 0 to 5, a size of 4 or 8 bytes or a 64-byte burst, in the 32 MiB of the scratchpad's addresses
(R593, R594). -/
def SpReq.ok (r : SpReq) : Bool :=
  decide (r.master < 6 ∧ r.mid < 2 ^ 16 ∧ r.off < 2 ^ 25 ∧ r.size ≤ 64 ∧ r.en < 2 ^ 64 ∧ r.data < 2 ^ 512)

/-- A response to an internal tag: a 4-bit generation (R23). -/
def TagRsp.ok (r : TagRsp) : Bool := decide (r.gen < 16)

/-- A memory request: a TID and an address of at most 52 bits (R32, R40). -/
def MemReq.ok (r : MemReq) : Bool := decide (r.tid < 8192 ∧ r.addr < 2 ^ 52)

/-- An add: a tenant, one of the four selection policies, and a 16-bit tag (R49). -/
def AddReq.ok (r : AddReq) : Bool := decide (r.tid < 8192 ∧ r.policy < 4 ∧ r.srcTid < 8192 ∧ r.tag < 2 ^ 16)

/-- What a route index comes from: a bus number, a 64-bit address, one of 64 multicast groups, or an index of the route table (R181,
R182, R216). -/
def Dest.ok (d : Dest) : Bool :=
  match d with
  | .bus n => decide (n < 256)
  | .addr a => decide (a < 2 ^ 64)
  | .mcast g => decide (g < 64)
  | .bound => true
  | .named i => i.all (fun r => decide (r < 16384))

/-- A message at ingress: a crossbar port but the spare one and a traffic class that exist (R175 to R179, R257). -/
def Msg.ok (m : Msg) : Bool :=
  decide (m.ing < 95 ∧ m.tc < 8) && m.tid.all (fun t => decide (t < 8192)) && m.dest.ok && m.req.all MemReq.ok &&
  m.tag.all TagRsp.ok

/-- A coherence message: agent IDs, TXN, line address and data of their widths (R93). -/
def Coh.ok (m : Coh) : Bool :=
  decide (m.src < 1024 ∧ m.fwd < 1024 ∧ m.txn < 2 ^ 16 ∧ m.laddr < 2 ^ 40 ∧ m.data < 2 ^ 512 ∧ m.via < 8 ∧ m.rtag < 2 ^ 16)

/-- A transport frame: header fields of their widths (R416). -/
def SlFrame.ok (f : SlFrame) : Bool :=
  decide (f.dst < 8 ∧ f.src < 8 ∧ f.hops < 8 ∧ f.ftype < 16 ∧ f.tseq < 2 ^ 24 ∧ f.ackseq < 2 ^ 24)

/-- The port of a wake event is one of the module's. -/
def WakeWhy.ok (w : WakeWhy) : Bool :=
  match w with
  | .presence n | .eidle n => decide (n < 72)
  | .spire n => decide (n < 4)
  | _ => true

/-- What a command to the RDIMMs meets: a slice in error is one of the ten (R320). -/
def LineErr.ok (e : LineErr) : Bool :=
  match e with
  | .ce k => decide (k < 10)
  | .good | .ue | .silent | .noAnswer | .retries => true

/-- Whether every operand of a command lies in its range. -/
def Instr.wellFormed (i : Instr) : Bool :=
  match i with
  | .registerWrite p addr size _ => p.ok && decide (addr < 2 ^ 32) && decide (size < 2 ^ 8)
  | .rcFieldRead p addr size => p.ok && decide (addr < 2 ^ 32) && decide (size < 2 ^ 8)
  | .loRegisterRead p addr size => p.ok && decide (addr < 2 ^ 32) && decide (size < 2 ^ 8)
  | .loRegisterWrite p addr size _ => p.ok && decide (addr < 2 ^ 32) && decide (size < 2 ^ 8)
  | .hiRegisterWrite p addr size _ => p.ok && decide (addr < 2 ^ 32) && decide (size < 2 ^ 8)
  | .internalResponse r => r.ok
  | .bdTtcmdNop p tid => p.ok && decide (tid < 8192)
  | .bdTtcmdRead p tid => p.ok && decide (tid < 8192)
  | .bdTtcmdWrite p tid => p.ok && decide (tid < 8192)
  | .bdTtcmdBind p tid => p.ok && decide (tid < 8192)
  | .bdTtcmdReset p tid => p.ok && decide (tid < 8192)
  | .bdTtcmdUnbind p tid => p.ok && decide (tid < 8192)
  | .queuedCommandStart => true
  | .bindVppb port vppb phys ldid => decide (port < 72) && decide (vppb < 32) && decide (phys < 256) && decide (ldid < 65536)
  | .unbindVppb port vppb => decide (port < 72) && decide (vppb < 32)
  | .policyBind port => decide (port < 72)
  | .secondaryBusReset port vppb => decide (port < 72) && decide (vppb < 32)
  | .hotReset port => decide (port < 72)
  | .initiateDynamicCapacityAdd r => r.ok
  | .addDynamicCapacityResponse tid _ => decide (tid < 8192)
  | .addTimeout tid tag => decide (tid < 8192) && decide (tag < 65536)
  | .releaseDynamicCapacity tid _ => decide (tid < 8192)
  | .initiateDynamicCapacityRelease tid _ _ => decide (tid < 8192)
  | .releaseDrainDone tid => decide (tid < 8192)
  | .releaseDrainTimeout tid => decide (tid < 8192)
  | .releaseBiDone tid eidx => decide (tid < 8192) && decide (eidx < 2 ^ 25)
  | .releaseMigrationWaitEnd tid eidx => decide (tid < 8192) && decide (eidx < 2 ^ 25)
  | .extentZeroDone ext => decide (ext < 2 ^ 22)
  | .tenantDrainEnd tid => decide (tid < 8192)
  | .tenantDrainTimeout tid => decide (tid < 8192)
  | .tenantAbortEnd tid => decide (tid < 8192)
  | .tenantFlushEnd tid => decide (tid < 8192)
  | .quarantineEnd tid => decide (tid < 8192)
  | .bdTdrainArm tid => decide (tid < 8192)
  | .writeVisible tid _ => decide (tid < 8192)
  | .messageIngress m => m.ok
  | .cxlMemM2sRequest port vppb m => decide (port < 72) && decide (vppb < 32) && m.ok
  | .translationCacheFill tid eidx d1 d2 => decide (tid < 8192) && decide (eidx < 2 ^ 25) && d1.ok && d2.ok
  | .homeHostRequest m _ gpa data en _ => m.ok && decide (gpa < 2 ^ 52) && decide (data < 2 ^ 512) && decide (en < 2 ^ 64)
  | .homeRdshared m _ => m.ok
  | .homeRdown m _ => m.ok
  | .homeUpgrade m _ => m.ok
  | .homeWbdirty m _ => m.ok
  | .homeWbclean m _ => m.ok
  | .homeEvict m _ => m.ok
  | .homeSnoopAck m => m.ok
  | .homeInvack m => m.ok
  | .homeDatam m => m.ok
  | .homeDatao m => m.ok
  | .homeBirsp port tid addr _ => decide (port < 72) && decide (tid < 8192) && decide (addr < 2 ^ 52)
  | .homeCompletionAck m => m.ok
  | .biconflict port tid addr => decide (port < 72) && decide (tid < 8192) && decide (addr < 2 ^ 52)
  | .bisnpTimeout port tid addr => decide (port < 72) && decide (tid < 8192) && decide (addr < 2 ^ 52)
  | .fenceReceive m => m.m.ok && decide (m.tseq < 2 ^ 24)
  | .fenceAckSend src txn => decide (src < 1024) && decide (txn < 65536)
  | .cupolaSnpshared m => m.ok
  | .cupolaSnpinv m => m.ok
  | .cupolaSnpfwdshared m => m.ok
  | .cupolaSnpfwdown m => m.ok
  | .cupolaHostBirsp port tid addr _ => decide (port < 72) && decide (tid < 8192) && decide (addr < 2 ^ 52)
  | .cupolaDatas m => m.ok
  | .cupolaDatae m => m.ok
  | .cupolaDatam m => m.ok
  | .cupolaAck m => m.ok
  | .cupolaRetry m => m.ok
  | .retryBackoffExpire rec => decide (rec < 1024)
  | .tenureHoldEnd rec => decide (rec < 1024)
  | .cupolaHostSharedRead m gpa _ => m.ok && decide (gpa < 2 ^ 52)
  | .cupolaHostOwnershipRead m gpa _ => m.ok && decide (gpa < 2 ^ 52)
  | .cupolaNoncachingRead m gpa => m.ok && decide (gpa < 2 ^ 52)
  | .cupolaNoncachingWrite m _ gpa data en => m.ok && decide (gpa < 2 ^ 52) && decide (data < 2 ^ 512) && decide (en < 2 ^ 64)
  | .reclaimWalkStart => true
  | .reclaimSetStep slice => decide (slice < 16)
  | .reclaimWalkEnd => true
  | .hdDeadClear agent => decide (agent < 1024)
  | .sliceFailure slice => decide (slice < 17)
  | .hdRbctrlGo p _ => p.ok
  | .sliceTakeover => true
  | .rebuildLine _ => true
  | .rebuildEnd => true
  | .swRtcmdNop p ridx => p.ok && decide (ridx < 16384)
  | .swRtcmdRead p ridx => p.ok && decide (ridx < 16384)
  | .swRtcmdUpdate p ridx => p.ok && decide (ridx < 16384)
  | .swRtcmdUpdateRevoke p ridx => p.ok && decide (ridx < 16384)
  | .routeUpdateComplete => true
  | .matchingSlot => true
  | .egressSelect xp _ _ => decide (xp < 96)
  | .ageingCheck => true
  | .spillWrite w => decide (w.qid < 1536)
  | .spillRefillRead qid => decide (qid < 1536)
  | .spillReadAnswer qid ans => decide (qid < 1536) && decide (ans.gen < 16)
  | .spillRelink qid => decide (qid < 1536)
  | .spillReadTimeout qid => decide (qid < 1536)
  | .multicastLegDone _ qid => decide (qid < 1536)
  | .multicastCreditTimeout qid => decide (qid < 1536)
  | .swAudctrlGo => true
  | .auditEnd => true
  | .shaperSlotBoundary => true
  | .shaperConfigWrite qid _ _ => decide (qid < 1536)
  | .pacingRelease port => decide (port < 72)
  | .pacingWheelTick => true
  | .tsPaceRateWrite tid rate => decide (tid < 8192) && decide (rate < 2 ^ 20)
  | .samplerCapture => true
  | .dmRtailDoorbell p ring _ => p.ok && decide (ring < 1024)
  | .dmDispatch => true
  | .copy eng => decide (eng < 8)
  | .fill eng => decide (eng < 8)
  | .verify eng => decide (eng < 8)
  | .migrateStart eng => decide (eng < 8)
  | .migrateAbandon eng => decide (eng < 8)
  | .dmFence ring => decide (ring < 1024)
  | .dmFenceSatisfied ring => decide (ring < 1024)
  | .dmWindowReadsDone eng ring => decide (eng < 8) && decide (ring ≤ 1024)
  | .dmWindowCommit eng => decide (eng < 8)
  | .dmRcfgWrite p ring _ => p.ok && decide (ring < 1024)
  | .dmEngineFailure eng => decide (eng < 8)
  | .migrationLineLock eng => decide (eng < 8)
  | .migrationLockRetry => true
  | .migrationLineCopied eng line => decide (eng < 8) && decide (line < 32768)
  | .migrationCommit rec _ => decide (rec < 8)
  | .domeInitComplete => true
  | .domeReadComplete off rd d1 d2 _ => decide (off < 2 ^ 46) && decide (rd.master < 65536) && decide (rd.gen < 16) && d1.ok && d2.ok
  | .domeWrite off data master _ _ => decide (off < 2 ^ 46) && decide (data < 2 ^ 512) && decide (master < 65536)
  | .domePartialWrite off data en master _ d => decide (off < 2 ^ 46) && decide (data < 2 ^ 512) && decide (en < 2 ^ 64) &&
      decide (master < 65536) && d.prim.ok && d.mirror.ok
  | .domeMetadataWrite off _ d => decide (off < 2 ^ 46) && d.ok
  | .domeReadTimeout off rd => decide (off < 2 ^ 46) && decide (rd.master < 65536) && rd.mirror.ok
  | .scrubRead ch d _ => decide (ch < 12) && d.ok
  | .ddCfgWrite p _ => p.ok
  | .agRdcmdNop p idx => p.ok && decide (idx < 65536)
  | .agRdcmdRead p idx => p.ok && decide (idx < 65536)
  | .agRdcmdWrite p idx => p.ok && decide (idx < 65536)
  | .agVinfoValidClear => true
  | .agSyssetWrite p _ => p.ok
  | .prsntChange port _ _ => decide (port < 72)
  | .downPerstRelease r => decide (r.port < 72)
  | .hostPerstAssert port => decide (port < 72)
  | .linkUp port rate width _ _ mps => decide (port < 72) && decide (rate.rates < 64) && decide (width.good < 2 ^ 16) && decide (width.widths < 32) && decide (mps < 6)
  | .equalisationFailure port rate => decide (port < 72) && decide (rate < 8)
  | .linkDown port why => decide (port < 72) && decide (1 ≤ why) && decide (why < 10)
  | .octetPllUnlock octet => decide (octet < 18)
  | .octetRelock octet _ => decide (octet < 18)
  | .hostGraceExpiry port => decide (port < 72)
  | .l0sEntry port _ => decide (port < 72)
  | .l0sExit port _ => decide (port < 72)
  | .l0pEntry port width _ => decide (port < 72) && decide (width < 17)
  | .l0pExit port _ => decide (port < 72)
  | .l1Request port _ => decide (port < 72)
  | .l1Exit port _ => decide (port < 72)
  | .ideKmKeyProgram port stream kind _ => decide (port < 72) && decide (stream < 256) && decide (kind.kind < 3)
  | .ideIntegrityFailure port stream => decide (port < 72) && decide (stream < 256)
  | .fpPctrlRetrain p port => p.ok && decide (port < 72)
  | .fpPctrlResetfb p port => p.ok && decide (port < 72)
  | .fpPctrlDisable p port _ => p.ok && decide (port < 72)
  | .fpPctrlTestmode p port _ => p.ok && decide (port < 72)
  | .ltCtrlWrite p lane _ => p.ok && decide (lane < 144)
  | .ltInjOne p lane _ => p.ok && decide (lane < 144)
  | .checkerLock b => decide (b.lane < 144) && decide (b.bits < 2 ^ 128)
  | .checkerLoseLock b => decide (b.lane < 144) && decide (b.bits < 2 ^ 64)
  | .refclkWindow group _ => decide (group < 9)
  | .spireFlitReceive port ftype fseq aseq _ rest => decide (port < 4) && decide (ftype < 4) && decide (fseq < 1024) && decide (aseq < 1024) && decide (rest.payload < 2 ^ 960) && decide (rest.crc < 2 ^ 32)
  | .spireNakReceive port aseq => decide (port < 4) && decide (aseq < 1024)
  | .spireReplayTimeout port => decide (port < 4)
  | .spireFrameForward port f => decide (port < 4) && f.ok
  | .spireFrameDeliver port f _ => decide (port < 4) && f.ok
  | .spireAckReceive src ackseq => decide (src < 8) && decide (ackseq < 16777216)
  | .spireAckSend peer => decide (peer < 8)
  | .spireRetransmitTimeout peer tseq => decide (peer < 8) && decide (tseq < 16777216)
  | .spirePortDown port why => decide (port < 4) && decide (1 ≤ why) && decide (why < 8)
  | .spireTraining port peer peerPort nmod digest _ => decide (port < 4) && decide (peer < 8) && decide (peerPort < 4) && decide (nmod < 4) && decide (digest.digest < 2 ^ 64) && decide (digest.inc < 2 ^ 16)
  | .spireTrainingFail port _ => decide (port < 4)
  | .slPcfgRetrain p port => p.ok && decide (port < 4)
  | .heartbeatSend => true
  | .heartbeatReceive src inc => decide (src < 8) && decide (inc < 65536)
  | .heartbeatTimeout peer => decide (peer < 8)
  | .joinSend => true
  | .joinReceive src inc ackinc _ => decide (src < 8) && decide (inc < 65536) && decide (ackinc < 65536)
  | .fenceoutReceive src inc => decide (src < 8) && decide (inc < 65536)
  | .timeSend => true
  | .timeReceive port time depth => decide (port < 4) && decide (time < 2 ^ 64) && decide (depth < 256)
  | .tsyncTimeout => true
  | .spireSleepS1 port _ => decide (port < 4)
  | .spireSleepS2 port _ => decide (port < 4)
  | .spireSleepExit port _ => decide (port < 4)
  | .allocClaim src tag first _ => decide (src < 8) && decide (tag < 65536) && decide (first < 2 ^ 22)
  | .allocInc src tag first _ => decide (src < 8) && decide (tag < 65536) && decide (first < 2 ^ 22)
  | .allocDec src tag first _ => decide (src < 8) && decide (tag < 65536) && decide (first < 2 ^ 22)
  | .allocUnclaim src tag first _ => decide (src < 8) && decide (tag < 65536) && decide (first < 2 ^ 22)
  | .allocAnswer src tag result => decide (src < 8) && decide (tag < 65536) && decide (result < 16)
  | .faultProcess => true
  | .remoteFaultReceive m => m.ok
  | .quietTimerExpiry didx => decide (didx < 8320)
  | .fcDcmdRelease => true
  | .fcDcmdRearm => true
  | .fcDcmdClrcnt => true
  | .fcFestatValidClear => true
  | .fcAlmArm => true
  | .fcAlmSwlvlWrite _ => true
  | .fcLogrdWrite rd => decide (rd < 65536)
  | .persistLogWrite => true
  | .persistQueueFlush => true
  | .domainTimeout p => p.ok
  | .resetNotice d => decide (d < 38)
  | .resetReady d => decide (d < 38)
  | .standbyEntry stop => stop.all (fun x => x.2.ok)
  | .standbyWake why => why.ok
  | .wakeComplete us => decide (us < 65536)
  | .moduleReset => true
  | .fabricReset _ => true
  | .watchdogExpiry => true
  | .clockLockLoss => true
  | .ckRstcmdModule p => p.ok
  | .ckRstcmdFabric p => p.ok
  | .ckRstcmdPort p inst => p.ok && decide (inst < 8192)
  | .ckRstcmdTenant p inst => p.ok && decide (inst < 8192)
  | .ckRstcmdChannel p inst => p.ok && decide (inst < 8192)
  | .ckRstcmdSpire p inst => p.ok && decide (inst < 8192)
  | .ckRstcmdEngine p inst => p.ok && decide (inst < 8192)
  | .ckPwrcmdWake p => p.ok
  | .feedValidRise _ _ => true
  | .watchtowerStop => true
  | .seatingAssert => true
  | .debounceComplete slotPins => decide (slotPins < 32)
  | .seatingReleaseBegin _ => true
  | .seatingGlitch => true
  | .seatingRemoval => true
  | .latchClearRemoval => true
  | .currentLimitReached => true
  | .faultTimerExpiry => true
  | .shortCircuitTrip => true
  | .passThermalTrip => true
  | .rampmaxExpiry => true
  | .retryTimerExpiry => true
  | .thermalTripRelease => true
  | .feedOvervoltage => true
  | .overvoltageClear => true
  | .gateFullyOn => true
  | .pgoodRise => true
  | .pgoodFall _ => true
  | .converterDisable => true
  | .pfwRise => true
  | .pfwFall => true
  | .feedloss _ => true
  | .feedrestore _ => true
  | .retryCountClear => true
  | .smbusMctpWrite _ payload => decide (payload.length < 256)
  | .smbusStatusRead _ => true
  | .smbusResetRequest _ data => decide (data < 256)
  | .smbusRegisterRequest _ payload => decide (payload.length < 256)
  | .smbusRegisterResponseRead => true
  | .smbusClockLowTimeout => true
  | .mctpoutRetry => true
  | .ackFrame _ _ _ payload => decide (payload.length < 256)
  | .hello _ _ payload => decide (payload.length < 256)
  | .sleep _ payload => decide (payload.length < 256)
  | .pwr _ payload => decide (payload.length < 256)
  | .status _ payload => decide (payload.length < 256)
  | .event _ seq payload => decide (seq < 256) && decide (payload.length < 256)
  | .cfgrpt _ seq payload => decide (seq < 256) && decide (payload.length < 256)
  | .mctpin _ seq payload => decide (seq < 256) && decide (payload.length < 256)
  | .rstreq _ seq payload => decide (seq < 256) && decide (payload.length < 256)
  | .regreq _ seq payload => decide (seq < 256) && decide (payload.length < 256)
  | .alarm _ seq payload => decide (seq < 256) && decide (payload.length < 256)
  | .almlvl _ seq payload => decide (seq < 256) && decide (payload.length < 256)
  | .setcfg _ seq payload => decide (seq < 256) && decide (payload.length < 256)
  | .mctpout _ seq payload => decide (seq < 256) && decide (payload.length < 256)
  | .regrsp _ seq payload => decide (seq < 256) && decide (payload.length < 256)
  | .barrierResendTimeout _ => true
  | .alarmRepeat => true
  | .pwrRepeat => true
  | .statusRepeat _ => true
  | .helloRepeat _ => true
  | .barrierSync _ => true
  | .barrierLinkDown _ _ => true
  | .alarmPulseEnd => true
  | .bcWcfg3Write p _ => p.ok
  | .startUp pops _ _ _ => pops.length == 12 &&
      pops.all (fun p => (p.sock0.toList ++ p.sock1.toList).all (fun d => decide (1 ≤ d.ranks ∧ d.ranks ≤ 4)))
  | .slotConfirmation => true
  | .idLdcmdNop p _ => p.ok
  | .loadBegin p _ => p.ok
  | .loadWrite p _ => p.ok
  | .loadCommit p _ => p.ok
  | .loadAbort p _ => p.ok
  | .loadActivate p _ => p.ok
  | .loadPersistclr p _ => p.ok
  | .loadPlogread p _ => p.ok
  | .loadPfwWaitEnd => true
  | .getFwInfo p => p.ok
  | .transferFw p action slot offset _ _ => p.ok && decide (action < 8) && decide (slot < 256) && decide (offset < 2 ^ 32)
  | .activateFw p _ slot => p.ok && decide (slot < 256)
  | .spdmGetCertificate _ slot off _ => decide (slot < 256) && decide (off < 2 ^ 16)
  | .spdmChallenge _ slot nonce => decide (slot < 256) && decide (nonce < 2 ^ 256)
  | .spdmGetMeasurements _ index nonce _ => decide (index < 256) && decide (nonce < 2 ^ 256)
  | .spdmKeyExchange _ slot _ => decide (slot < 256)
  | .spdmUnsupportedRequest _ request => decide (request < 256)
  | .winDataRead p => p.ok
  | .winDataWrite p _ => p.ok
  | .winCtrlStart p _ => p.ok
  | .winCtrlAbort p => p.ok
  | .windowBeatEnd idx => decide (idx < 256)
  | .windowBeatTimeout => true
  | .onamenexRegisterRead p payload => p.ok && decide (payload.length < 256)
  | .onamenexRegisterWrite p payload => p.ok && decide (payload.length < 256)
  | .scratchpadPortBAccess bank reqs portA _ => decide (bank < 4) && reqs.all SpReq.ok && portA.all SpReq.ok
  | .scratchpadWaitServe bank portA _ => decide (bank < 4) && portA.all SpReq.ok
  | .bitSetAliasWrite r _ => r.ok
  | .bitClearAliasWrite r _ => r.ok
  | .thermalSensorReading n temp _ => decide (n < 31) && decide (temp < 4096)
  | .tfpThermalTrip => true
  | .testLogicReset => true
  | .extest _ => true
  | .samplePreload _ _ => true
  | .idcode => true
  | .dbgacc _ bits => decide (bits < 2 ^ 41)
  | .tapStatus => true
  | .challenge => true
  | .response bits => decide (bits < 2 ^ 1032)
  | .bypass instr => decide (instr < 32)
  | .unlockVerifyEnd => true
  | .unlockLockoutEnd => true
  | .relock => true
  | .dtTmuxselWrite n _ => decide (n < 8)
  | .dtDirselWrite _ => true
  | .dtBistcmdGo p targets => p.ok && decide (targets < 64)
  | .bistEnd failed => decide (failed < 64)
  | .hostPerstRelease port => decide (port < 72)
  | .rampPause => true
  | .loadCommandEnd _ _ => true

end Sys2Proof
end

