-- ==== Sys2Proof/Decode.lean ====
section
/-! DEFINITION. The command that a word of the opcode table spells. The table gives no row any bits: a command reaches the block as
an access, a message or an event with its operands, never as a word. -/
namespace Sys2Proof

/-- The command that a word of `nbits` bits spells: none, since no row of the opcode table has bits. -/
def decodeTableWord (_nbits _w : Nat) : Option Instr := none

end Sys2Proof
end

