-- ==== Sys2Proof/Config.lean ====
section
/-! DEFINITION. What an implementation fixes and the free values: opaque constants, so that no proof can see them. -/
namespace Sys2Proof.Config

/-- The free values: the n-th value the spec leaves open (Hw.free counts them). -/
opaque freeNat : Nat → Nat

/-- Silicon revision (R600): major in bits [7:0], minor in bits [15:8]. -/
opaque silicon : Nat

/-- The cooling variant of the ordering code (R1, R2): true on TCF7272-C0. -/
opaque coldPlate : Bool

/-- The module serial number of the OTP, 64 bits (R557). -/
opaque serial : Nat

/-- The Onamenex manufacturer identity of the TAP's identification code, 11 bits (R652). -/
opaque manufacturer : Nat

/-- SM3 (GB/T 32905) of a byte string, as a 256-bit number (R8). -/
opaque sm3 : List (BitVec 8) → Nat

/-- SM2 (GB/T 32918) verification: public key, digest, signature (R8). -/
opaque sm2Verify : Nat → Nat → Nat → Bool

/-- ROOTHASH of the OTP: SM3 of the Onamenex root public key (R557). -/
opaque rootHash : Nat

/-- Whether a certificate chain's own signatures check (R575). -/
opaque chainOk : List (BitVec 8) → Bool

/-- The SM3 digest of the boot ROM (R576). -/
opaque romDigest : Nat

/-- SM2 signature with the module's identity key over a digest, under a nonce (R575). -/
opaque sm2Sign : Nat → Nat → Nat

/-- The number of the ring that Turret uses for the FILL jobs that zero released extents (R57, R297), modulo 1,024. -/
opaque turretRing : Nat

/-- The 128-bit check field over the 64 data bytes and MD of a line, the first slice lowest (R320, R321). -/
opaque checkField : Nat → Nat → Nat

/-- The poison marker that is applied over the check field (R324). -/
opaque poisonMark : Nat

/-- The pipeline maximum in ns of a Spire or internal crossbar port, to which R248 and R384 give no link mode. -/
opaque corePipe (xp : Nat) : Nat

/-- The maximum payload size in bytes of a Spire or internal crossbar port, which R248 does not state. -/
opaque corePayload (xp : Nat) : Nat

end Sys2Proof.Config
end

