-- ==== Sys2Proof/Machine/Registers.lean ====
section
/-! DEFINITION. The register map: one `Fld` per field and one `Reg` per register of the spec's register and field
tables (each docstring names the rule), and `blockRegs`, the registers of each 1 MiB block of the management
address space (R580). -/
set_option linter.unusedVariables false
namespace Sys2Proof.Machine

namespace F
/-- ID_PART.PART [15:0] RO (R600). -/
def ID_PART_PART : Fld := ⟨0, 0, 16, .ro, 0, false, false, []⟩
/-- ID_PART.REVMAJ [23:16] RO (R600). -/
def ID_PART_REVMAJ : Fld := ⟨1, 16, 8, .ro, 0, false, false, []⟩
/-- ID_PART.REVMIN [31:24] RO (R600). -/
def ID_PART_REVMIN : Fld := ⟨2, 24, 8, .ro, 0, false, false, []⟩
/-- ID_VARIANT.COOL [0:0] RO (R600). -/
def ID_VARIANT_COOL : Fld := ⟨3, 0, 1, .ro, 0, false, false, []⟩
/-- ID_SERIAL_LO.VAL [31:0] RO (R599). -/
def ID_SERIAL_LO_VAL : Fld := ⟨4, 0, 32, .ro, 0, false, false, []⟩
/-- ID_SERIAL_HI.VAL [31:0] RO (R599). -/
def ID_SERIAL_HI_VAL : Fld := ⟨5, 0, 32, .ro, 0, false, false, []⟩
/-- WIN_ADDR_LO.VAL [31:0] RW (R599). -/
def WIN_ADDR_LO_VAL : Fld := ⟨6, 0, 32, .rw, 0, false, false, []⟩
/-- WIN_ADDR_HI.ADDR [27:0] RW (R600). -/
def WIN_ADDR_HI_ADDR : Fld := ⟨7, 0, 28, .rw, 0, false, false, []⟩
/-- WIN_ADDR_HI.SPACE [31:28] RW (R600). -/
def WIN_ADDR_HI_SPACE : Fld := ⟨8, 28, 4, .rw, 0, false, false, []⟩
/-- WIN_CTRL.SIZE [0:0] RW (R600). -/
def WIN_CTRL_SIZE : Fld := ⟨9, 0, 1, .rw, 0, false, false, []⟩
/-- WIN_CTRL.INC [1:1] RW (R600). -/
def WIN_CTRL_INC : Fld := ⟨10, 1, 1, .rw, 0, false, false, []⟩
/-- WIN_CTRL.DIR [2:2] RW (R600). -/
def WIN_CTRL_DIR : Fld := ⟨11, 2, 1, .rw, 0, false, false, []⟩
/-- WIN_CTRL.WAKE [3:3] RW (R600). -/
def WIN_CTRL_WAKE : Fld := ⟨12, 3, 1, .rw, 0, false, false, []⟩
/-- WIN_CTRL.START [4:4] W1S (R600). -/
def WIN_CTRL_START : Fld := ⟨13, 4, 1, .w1s, 0, false, false, []⟩
/-- WIN_CTRL.ABORT [5:5] W1S (R600). -/
def WIN_CTRL_ABORT : Fld := ⟨14, 5, 1, .w1s, 0, false, false, []⟩
/-- WIN_CTRL.BUSY [6:6] RO (R600). -/
def WIN_CTRL_BUSY : Fld := ⟨15, 6, 1, .ro, 0, false, false, []⟩
/-- WIN_CTRL.BURST [15:8] RW (R600). -/
def WIN_CTRL_BURST : Fld := ⟨16, 8, 8, .rw, 0, false, false, []⟩
/-- WIN_CTRL.ERRBEAT [23:16] RO (R600). -/
def WIN_CTRL_ERRBEAT : Fld := ⟨17, 16, 8, .ro, 0, false, false, []⟩
/-- WIN_CTRL.STATUS [27:24] RO (R600). -/
def WIN_CTRL_STATUS : Fld := ⟨18, 24, 4, .ro, 0, false, false, []⟩
/-- WIN_DATA.VAL [31:0] RW (R599). -/
def WIN_DATA_VAL : Fld := ⟨19, 0, 32, .rw, 0, false, false, []⟩
/-- ID_MGCTRL.CCIMB [1:0] RW (R600). -/
def ID_MGCTRL_CCIMB : Fld := ⟨20, 0, 2, .rw, 0, true, false, [(3, 3)]⟩
/-- ID_MGCTRL.CCIMCTP [3:2] RW (R600). -/
def ID_MGCTRL_CCIMCTP : Fld := ⟨21, 2, 2, .rw, 1, true, false, [(3, 3)]⟩
/-- ID_BOOTSTAT.PHASE [2:0] RO (R578). -/
def ID_BOOTSTAT_PHASE : Fld := ⟨22, 0, 3, .ro, 0, false, false, [(6, 7)]⟩
/-- ID_BOOTSTAT.ACTSLOT [3:3] RO (R578). -/
def ID_BOOTSTAT_ACTSLOT : Fld := ⟨23, 3, 1, .ro, 0, false, false, []⟩
/-- ID_BOOTSTAT.TRIAL [4:4] RO (R578). -/
def ID_BOOTSTAT_TRIAL : Fld := ⟨24, 4, 1, .ro, 0, false, false, []⟩
/-- ID_BOOTSTAT.FALLBACK [5:5] RO (R578). -/
def ID_BOOTSTAT_FALLBACK : Fld := ⟨25, 5, 1, .ro, 0, false, false, []⟩
/-- ID_BOOTSTAT.HOLDWHY [11:8] RO (R578). -/
def ID_BOOTSTAT_HOLDWHY : Fld := ⟨26, 8, 4, .ro, 0, false, false, [(4, 15)]⟩
/-- ID_BOOTSTAT.STARTMS [31:16] RO (R578). -/
def ID_BOOTSTAT_STARTMS : Fld := ⟨27, 16, 16, .ro, 0, false, false, []⟩
/-- ID_SLOTSTAT.STATEA [3:0] RO (R578). -/
def ID_SLOTSTAT_STATEA : Fld := ⟨28, 0, 4, .ro, 0, false, false, [(6, 15)]⟩
/-- ID_SLOTSTAT.WHYA [7:4] RO (R578). -/
def ID_SLOTSTAT_WHYA : Fld := ⟨29, 4, 4, .ro, 0, false, false, [(9, 15)]⟩
/-- ID_SLOTSTAT.STATEB [11:8] RO (R578). -/
def ID_SLOTSTAT_STATEB : Fld := ⟨30, 8, 4, .ro, 0, false, false, []⟩
/-- ID_SLOTSTAT.WHYB [15:12] RO (R578). -/
def ID_SLOTSTAT_WHYB : Fld := ⟨31, 12, 4, .ro, 0, false, false, []⟩
/-- ID_FWVER.VAL [31:0] RO (R577). -/
def ID_FWVER_VAL : Fld := ⟨32, 0, 32, .ro, 0, false, false, []⟩
/-- ID_SVN.FWSVN [7:0] RO (R579). -/
def ID_SVN_FWSVN : Fld := ⟨33, 0, 8, .ro, 0, false, false, []⟩
/-- ID_SVN.CFGSVN [15:8] RO (R579). -/
def ID_SVN_CFGSVN : Fld := ⟨34, 8, 8, .ro, 0, false, false, []⟩
/-- ID_SVN.FWFUSE [23:16] RO (R579). -/
def ID_SVN_FWFUSE : Fld := ⟨35, 16, 8, .ro, 0, false, false, []⟩
/-- ID_SVN.CFGFUSE [31:24] RO (R579). -/
def ID_SVN_CFGFUSE : Fld := ⟨36, 24, 8, .ro, 0, false, false, []⟩
/-- ID_LDCMD.OP [3:0] RW (R579). -/
def ID_LDCMD_OP : Fld := ⟨37, 0, 4, .rw, 0, false, false, []⟩
/-- ID_LDCMD.SLOT [4:4] RW (R579). -/
def ID_LDCMD_SLOT : Fld := ⟨38, 4, 1, .rw, 0, false, false, []⟩
/-- ID_LDCMD.GO [31:31] W1S (R579). -/
def ID_LDCMD_GO : Fld := ⟨39, 31, 1, .w1s, 0, false, false, []⟩
/-- ID_LDOFF.VAL [24:0] RW (R577). -/
def ID_LDOFF_VAL : Fld := ⟨40, 0, 25, .rw, 0, false, false, []⟩
/-- ID_LDLEN.VAL [20:0] RW (R577). -/
def ID_LDLEN_VAL : Fld := ⟨41, 0, 21, .rw, 0, false, false, []⟩
/-- ID_LDSTAT.BUSY [0:0] RO (R579). -/
def ID_LDSTAT_BUSY : Fld := ⟨42, 0, 1, .ro, 0, false, false, []⟩
/-- ID_LDSTAT.PFWWAIT [1:1] RO (R579). -/
def ID_LDSTAT_PFWWAIT : Fld := ⟨43, 1, 1, .ro, 0, false, false, []⟩
/-- ID_LDSTAT.RESULT [7:4] RO (R579). -/
def ID_LDSTAT_RESULT : Fld := ⟨44, 4, 4, .ro, 0, false, false, [(7, 15)]⟩
/-- ID_PLOGCNT.VAL [31:0] RO (R577). -/
def ID_PLOGCNT_VAL : Fld := ⟨45, 0, 32, .ro, 0, false, false, []⟩
/-- ID_PLOGLOST.VAL [31:0] RC (R577). -/
def ID_PLOGLOST_VAL : Fld := ⟨46, 0, 32, .rc, 0, false, true, []⟩
/-- CK_PWRCFG.SBEN [0:0] RW (R503). -/
def CK_PWRCFG_SBEN : Fld := ⟨47, 0, 1, .rw, 0, true, false, []⟩
/-- CK_PWRCFG.SBIDLE [15:8] RW (R503). -/
def CK_PWRCFG_SBIDLE : Fld := ⟨48, 8, 8, .rw, 100, true, false, [(0, 0)]⟩
/-- CK_PWRCMD.WAKE [0:0] W1S (R503). -/
def CK_PWRCMD_WAKE : Fld := ⟨49, 0, 1, .w1s, 0, false, false, []⟩
/-- CK_PWRSTAT.STATE [2:0] RO (R504). -/
def CK_PWRSTAT_STATE : Fld := ⟨50, 0, 3, .ro, 0, false, false, [(7, 7)]⟩
/-- CK_PWRSTAT.WAKEWHY [6:3] RO (R504). -/
def CK_PWRSTAT_WAKEWHY : Fld := ⟨51, 3, 4, .ro, 0, false, false, [(7, 15)]⟩
/-- CK_PWRSTAT.WAKEUS [31:16] RO (R504). -/
def CK_PWRSTAT_WAKEUS : Fld := ⟨52, 16, 16, .ro, 0, false, false, []⟩
/-- CK_RSTCMD.SCOPE [2:0] RW (R505). -/
def CK_RSTCMD_SCOPE : Fld := ⟨53, 0, 3, .rw, 0, false, false, []⟩
/-- CK_RSTCMD.INST [28:16] RW (R505). -/
def CK_RSTCMD_INST : Fld := ⟨54, 16, 13, .rw, 0, false, false, []⟩
/-- CK_RSTCMD.GO [31:31] W1S (R505). -/
def CK_RSTCMD_GO : Fld := ⟨55, 31, 1, .w1s, 0, false, false, []⟩
/-- CK_RSTSTAT.BUSY [0:0] RO (R506). -/
def CK_RSTSTAT_BUSY : Fld := ⟨56, 0, 1, .ro, 0, false, false, []⟩
/-- CK_RSTSTAT.RESULT [7:4] RO (R506). -/
def CK_RSTSTAT_RESULT : Fld := ⟨57, 4, 4, .ro, 0, false, false, [(4, 15)]⟩
/-- CK_RSTSTAT.MCAUSE [11:8] RO (R506). -/
def CK_RSTSTAT_MCAUSE : Fld := ⟨58, 8, 4, .ro, 0, false, false, [(6, 15)]⟩
/-- CK_RSTSTAT.FCAUSE [15:12] RO (R506). -/
def CK_RSTSTAT_FCAUSE : Fld := ⟨59, 12, 4, .ro, 0, false, true, [(5, 15)]⟩
/-- CK_RSTSTAT.FCNT [23:16] RO (R506). -/
def CK_RSTSTAT_FCNT : Fld := ⟨60, 16, 8, .ro, 0, false, true, []⟩
/-- CK_WAKECNT.VAL [31:0] RC (R502). -/
def CK_WAKECNT_VAL : Fld := ⟨61, 0, 32, .rc, 0, false, true, []⟩
/-- CK_DTMOCNT.VAL [31:0] RC (R502). -/
def CK_DTMOCNT_VAL : Fld := ⟨62, 0, 32, .rc, 0, false, false, []⟩
/-- CK_ASLEEPCNT.VAL [31:0] RC (R502). -/
def CK_ASLEEPCNT_VAL : Fld := ⟨63, 0, 32, .rc, 0, false, false, []⟩
/-- CK_RABORTCNT.VAL [31:0] RC (R502). -/
def CK_RABORTCNT_VAL : Fld := ⟨64, 0, 32, .rc, 0, false, false, []⟩
/-- CK_LATE.VAL [31:0] RC (R502). -/
def CK_LATE_VAL : Fld := ⟨65, 0, 32, .rc, 0, false, false, []⟩
/-- CK_LTIME_LO.VAL [31:0] RO (R502). -/
def CK_LTIME_LO_VAL : Fld := ⟨66, 0, 32, .ro, 0, false, false, []⟩
/-- CK_LTIME_HI.VAL [31:0] RO (R502). -/
def CK_LTIME_HI_VAL : Fld := ⟨67, 0, 32, .ro, 0, false, false, []⟩
/-- CK_DOMSTAT.STATE [1:0] RO (R507). -/
def CK_DOMSTAT_STATE : Fld := ⟨68, 0, 2, .ro, 0, false, false, []⟩
/-- CK_DOMSTAT.RST [2:2] RO (R507). -/
def CK_DOMSTAT_RST : Fld := ⟨69, 2, 1, .ro, 0, false, false, []⟩
/-- CK_DOMSTAT.NOTICE [3:3] RO (R507). -/
def CK_DOMSTAT_NOTICE : Fld := ⟨70, 3, 1, .ro, 0, false, false, []⟩
/-- CK_DOMSTAT.FREQ [31:16] RO (R507). -/
def CK_DOMSTAT_FREQ : Fld := ⟨71, 16, 16, .ro, 0, false, false, []⟩
/-- CK_THCFG.TFPWARN [7:0] RW (R639). -/
def CK_THCFG_TFPWARN : Fld := ⟨72, 0, 8, .rw, 140, true, false, [(0, 99), (151, 255)]⟩
/-- CK_THCFG.TFPCRIT [15:8] RW (R639). -/
def CK_THCFG_TFPCRIT : Fld := ⟨73, 8, 8, .rw, 150, true, false, [(0, 99), (156, 255)]⟩
/-- CK_THCFG.DIMMWARN [23:16] RW (R639). -/
def CK_THCFG_DIMMWARN : Fld := ⟨74, 16, 8, .rw, 85, true, false, [(0, 69), (96, 255)]⟩
/-- CK_THCFG.DIMMCRIT [31:24] RW (R639). -/
def CK_THCFG_DIMMCRIT : Fld := ⟨75, 24, 8, .rw, 95, true, false, [(0, 74), (101, 255)]⟩
/-- CK_TSEN.TEMP [11:0] RO (R639). -/
def CK_TSEN_TEMP : Fld := ⟨76, 0, 12, .ro, 0, false, false, []⟩
/-- CK_TSEN.VALID [12:12] RO (R639). -/
def CK_TSEN_VALID : Fld := ⟨77, 12, 1, .ro, 0, false, false, []⟩
/-- CK_TSEN.WARN [13:13] RO (R639). -/
def CK_TSEN_WARN : Fld := ⟨78, 13, 1, .ro, 0, false, false, []⟩
/-- CK_TSEN.CRIT [14:14] RO (R639). -/
def CK_TSEN_CRIT : Fld := ⟨79, 14, 1, .ro, 0, false, false, []⟩
/-- FC_CTRL.LOGMIN [2:0] RW (R478). -/
def FC_CTRL_LOGMIN : Fld := ⟨80, 0, 3, .rw, 0, true, false, [(5, 7)]⟩
/-- FC_CTRL.FEMIN [6:4] RW (R478). -/
def FC_CTRL_FEMIN : Fld := ⟨81, 4, 3, .rw, 2, true, false, [(5, 7)]⟩
/-- FC_CTRL.LOGWRAP [8:8] RW (R478). -/
def FC_CTRL_LOGWRAP : Fld := ⟨82, 8, 1, .rw, 0, true, false, []⟩
/-- FC_CTRL.PERSMIN [14:12] RW (R478). -/
def FC_CTRL_PERSMIN : Fld := ⟨83, 12, 3, .rw, 3, true, false, [(5, 7)]⟩
/-- FC_ALM_CTRL.MINWIDTH [7:0] RW (R479). -/
def FC_ALM_CTRL_MINWIDTH : Fld := ⟨84, 0, 8, .rw, 10, true, false, [(0, 0)]⟩
/-- FC_ALM_CTRL.ALMMIN [10:8] RW (R479). -/
def FC_ALM_CTRL_ALMMIN : Fld := ⟨85, 8, 3, .rw, 2, true, false, [(0, 0), (1, 1), (5, 7)]⟩
/-- FC_ALM_CTRL.SWLVL [16:16] RW (R479). -/
def FC_ALM_CTRL_SWLVL : Fld := ⟨86, 16, 1, .rw, 0, false, true, []⟩
/-- FC_ALM_CTRL.ARM [17:17] W1S (R479). -/
def FC_ALM_CTRL_ARM : Fld := ⟨87, 17, 1, .w1s, 0, false, false, []⟩
/-- FC_ALM_CTRL.ARMED [18:18] RO (R479). -/
def FC_ALM_CTRL_ARMED : Fld := ⟨88, 18, 1, .ro, 1, false, true, []⟩
/-- FC_ALM_CTRL.PULSE [19:19] RO (R479). -/
def FC_ALM_CTRL_PULSE : Fld := ⟨89, 19, 1, .ro, 0, false, false, []⟩
/-- FC_ALM_CTRL.ALM [20:20] RO (R479). -/
def FC_ALM_CTRL_ALM : Fld := ⟨90, 20, 1, .ro, 0, false, false, []⟩
/-- FC_STAT.LOSTHI [0:0] W1C (R478). -/
def FC_STAT_LOSTHI : Fld := ⟨91, 0, 1, .w1c, 0, false, true, []⟩
/-- FC_STAT.LOGFULL [1:1] RO (R478). -/
def FC_STAT_LOGFULL : Fld := ⟨92, 1, 1, .ro, 0, false, false, []⟩
/-- FC_CNT.VAL [31:0] RC (R477). -/
def FC_CNT_VAL : Fld := ⟨93, 0, 32, .rc, 0, false, false, []⟩
/-- FC_DROP.VAL [31:0] RC (R477). -/
def FC_DROP_VAL : Fld := ⟨94, 0, 32, .rc, 0, false, false, []⟩
/-- FC_LOGLOST.VAL [31:0] RC (R477). -/
def FC_LOGLOST_VAL : Fld := ⟨95, 0, 32, .rc, 0, false, false, []⟩
/-- FC_ALMSUP.VAL [31:0] RC (R477). -/
def FC_ALMSUP_VAL : Fld := ⟨96, 0, 32, .rc, 0, false, false, []⟩
/-- FC_REMCNT.VAL [31:0] RC (R477). -/
def FC_REMCNT_VAL : Fld := ⟨97, 0, 32, .rc, 0, false, false, []⟩
/-- FC_LOGWR.VAL [15:0] RO (R477). -/
def FC_LOGWR_VAL : Fld := ⟨98, 0, 16, .ro, 0, false, true, []⟩
/-- FC_LOGRD.VAL [15:0] RW (R477). -/
def FC_LOGRD_VAL : Fld := ⟨99, 0, 16, .rw, 0, false, true, []⟩
/-- FC_FE.VAL [31:0] RO (R477). -/
def FC_FE_VAL : Fld := ⟨100, 0, 32, .ro, 0, false, true, []⟩
/-- FC_FESTAT.VALID [0:0] W1C (R477). -/
def FC_FESTAT_VALID : Fld := ⟨101, 0, 1, .w1c, 0, false, true, []⟩
/-- FC_DSEL.VAL [13:0] RW (R477). -/
def FC_DSEL_VAL : Fld := ⟨102, 0, 14, .rw, 0, false, false, []⟩
/-- FC_DSTAT.STATE [1:0] RO (R480). -/
def FC_DSTAT_STATE : Fld := ⟨103, 0, 2, .ro, 0, false, false, [(3, 3)]⟩
/-- FC_DSTAT.APPLIED [3:2] RO (R480). -/
def FC_DSTAT_APPLIED : Fld := ⟨104, 2, 2, .ro, 0, false, false, []⟩
/-- FC_DSTAT.FEV [4:4] RO (R480). -/
def FC_DSTAT_FEV : Fld := ⟨105, 4, 1, .ro, 0, false, false, []⟩
/-- FC_DSTAT.RCNT [15:8] RO (R480). -/
def FC_DSTAT_RCNT : Fld := ⟨106, 8, 8, .ro, 0, false, false, []⟩
/-- FC_DSTAT.WCNT [23:16] RO (R480). -/
def FC_DSTAT_WCNT : Fld := ⟨107, 16, 8, .ro, 0, false, false, []⟩
/-- FC_DCMD.RELEASE [0:0] W1S (R480). -/
def FC_DCMD_RELEASE : Fld := ⟨108, 0, 1, .w1s, 0, false, false, []⟩
/-- FC_DCMD.REARM [1:1] W1S (R480). -/
def FC_DCMD_REARM : Fld := ⟨109, 1, 1, .w1s, 0, false, false, []⟩
/-- FC_DCMD.CLRCNT [2:2] W1S (R480). -/
def FC_DCMD_CLRCNT : Fld := ⟨110, 2, 1, .w1s, 0, false, false, []⟩
/-- FC_DCFG.REACT2 [1:0] RW (R481). -/
def FC_DCFG_REACT2 : Fld := ⟨111, 0, 2, .rw, 0, true, false, []⟩
/-- FC_DCFG.REACT3 [3:2] RW (R481). -/
def FC_DCFG_REACT3 : Fld := ⟨112, 2, 2, .rw, 0, true, false, []⟩
/-- FC_DCFG.REACT4 [5:4] RW (R481). -/
def FC_DCFG_REACT4 : Fld := ⟨113, 4, 2, .rw, 0, true, false, []⟩
/-- FC_DCFG.QUIET [17:8] RW (R481). -/
def FC_DCFG_QUIET : Fld := ⟨114, 8, 10, .rw, 100, true, false, [(0, 0), (1001, 1023)]⟩
/-- FC_DCFG.LIMIT [25:18] RW (R481). -/
def FC_DCFG_LIMIT : Fld := ⟨115, 18, 8, .rw, 3, true, false, []⟩
/-- FC_DCFG.WINDOW [31:26] RW (R481). -/
def FC_DCFG_WINDOW : Fld := ⟨116, 26, 6, .rw, 10, true, false, [(0, 0)]⟩
/-- SP_CECNT.VAL [31:0] RC (R601). -/
def SP_CECNT_VAL : Fld := ⟨117, 0, 32, .rc, 0, false, false, []⟩
/-- SP_UECNT.VAL [31:0] RC (R601). -/
def SP_UECNT_VAL : Fld := ⟨118, 0, 32, .rc, 0, false, false, []⟩
/-- SP_CONF.VAL [31:0] RC (R601). -/
def SP_CONF_VAL : Fld := ⟨119, 0, 32, .rc, 0, false, false, []⟩
/-- SP_DENY.VAL [31:0] RC (R601). -/
def SP_DENY_VAL : Fld := ⟨120, 0, 32, .rc, 0, false, false, []⟩
/-- SP_RGN.BASE [8:0] RW (R602). -/
def SP_RGN_BASE : Fld := ⟨121, 0, 9, .rw, 0, true, false, []⟩
/-- SP_RGN.LIMIT [24:16] RW (R602). -/
def SP_RGN_LIMIT : Fld := ⟨122, 16, 9, .rw, 0, true, false, []⟩
/-- SP_RGN.R [28:28] RW (R602). -/
def SP_RGN_R : Fld := ⟨123, 28, 1, .rw, 0, true, false, []⟩
/-- SP_RGN.W [29:29] RW (R602). -/
def SP_RGN_W : Fld := ⟨124, 29, 1, .rw, 0, true, false, []⟩
/-- FP_PCFG.ROLE [1:0] RW (R403). -/
def FP_PCFG_ROLE : Fld := ⟨125, 0, 2, .rw, 0, true, false, []⟩
/-- FP_PCFG.MAXRATE [4:2] RW (R403). -/
def FP_PCFG_MAXRATE : Fld := ⟨126, 2, 3, .rw, 0, true, false, [(6, 7)]⟩
/-- FP_PCFG.FLITEN [5:5] RW (R403). -/
def FP_PCFG_FLITEN : Fld := ⟨127, 5, 1, .rw, 1, true, false, []⟩
/-- FP_PCFG.CXL68EN [6:6] RW (R403). -/
def FP_PCFG_CXL68EN : Fld := ⟨128, 6, 1, .rw, 1, true, false, []⟩
/-- FP_PCFG.NFLITEN [7:7] RW (R403). -/
def FP_PCFG_NFLITEN : Fld := ⟨129, 7, 1, .rw, 1, true, false, []⟩
/-- FP_PCFG.SRIS [8:8] RW (R403). -/
def FP_PCFG_SRIS : Fld := ⟨130, 8, 1, .rw, 0, true, false, []⟩
/-- FP_PCFG.IDEREQ [9:9] RW (R403). -/
def FP_PCFG_IDEREQ : Fld := ⟨131, 9, 1, .rw, 0, true, false, []⟩
/-- FP_PCFG.CMODE [10:10] RW (R403). -/
def FP_PCFG_CMODE : Fld := ⟨132, 10, 1, .rw, 0, true, false, []⟩
/-- FP_PCFG.GRACE [25:16] RW (R403). -/
def FP_PCFG_GRACE : Fld := ⟨133, 16, 10, .rw, 100, true, false, [(0, 0), (1001, 1023)]⟩
/-- FP_PCTRL.RETRAIN [0:0] W1S (R404). -/
def FP_PCTRL_RETRAIN : Fld := ⟨134, 0, 1, .w1s, 0, false, false, []⟩
/-- FP_PCTRL.RESETFB [1:1] W1S (R404). -/
def FP_PCTRL_RESETFB : Fld := ⟨135, 1, 1, .w1s, 0, false, false, []⟩
/-- FP_PCTRL.DISABLE [2:2] RW (R404). -/
def FP_PCTRL_DISABLE : Fld := ⟨136, 2, 1, .rw, 0, false, false, []⟩
/-- FP_PCTRL.TESTMODE [3:3] RW (R404). -/
def FP_PCTRL_TESTMODE : Fld := ⟨137, 3, 1, .rw, 0, false, false, []⟩
/-- FP_LSTAT.UP [0:0] RO (R405). -/
def FP_LSTAT_UP : Fld := ⟨138, 0, 1, .ro, 0, false, false, []⟩
/-- FP_LSTAT.RATE [3:1] RO (R405). -/
def FP_LSTAT_RATE : Fld := ⟨139, 1, 3, .ro, 0, false, false, []⟩
/-- FP_LSTAT.WIDTH [8:4] RO (R405). -/
def FP_LSTAT_WIDTH : Fld := ⟨140, 4, 5, .ro, 0, false, false, []⟩
/-- FP_LSTAT.MODE [10:9] RO (R405). -/
def FP_LSTAT_MODE : Fld := ⟨141, 9, 2, .ro, 0, false, false, [(3, 3)]⟩
/-- FP_LSTAT.CXL [11:11] RO (R405). -/
def FP_LSTAT_CXL : Fld := ⟨142, 11, 1, .ro, 0, false, false, []⟩
/-- FP_LSTAT.PRSNT [12:12] RO (R405). -/
def FP_LSTAT_PRSNT : Fld := ⟨143, 12, 1, .ro, 0, false, false, []⟩
/-- FP_LSTAT.PERST [13:13] RO (R405). -/
def FP_LSTAT_PERST : Fld := ⟨144, 13, 1, .ro, 0, false, false, []⟩
/-- FP_LSTAT.FBRATE [16:14] RO (R405). -/
def FP_LSTAT_FBRATE : Fld := ⟨145, 14, 3, .ro, 0, false, false, []⟩
/-- FP_LSTAT.DOWNWHY [20:17] RO (R405). -/
def FP_LSTAT_DOWNWHY : Fld := ⟨146, 17, 4, .ro, 0, false, false, [(10, 15)]⟩
/-- FP_PMCFG.L0SEN [0:0] RW (R406). -/
def FP_PMCFG_L0SEN : Fld := ⟨147, 0, 1, .rw, 1, true, false, []⟩
/-- FP_PMCFG.L0PEN [1:1] RW (R406). -/
def FP_PMCFG_L0PEN : Fld := ⟨148, 1, 1, .rw, 1, true, false, []⟩
/-- FP_PMCFG.L1EN [2:2] RW (R406). -/
def FP_PMCFG_L1EN : Fld := ⟨149, 2, 1, .rw, 1, true, false, []⟩
/-- FP_PMCFG.STRICTPM [3:3] RW (R406). -/
def FP_PMCFG_STRICTPM : Fld := ⟨150, 3, 1, .rw, 0, true, false, []⟩
/-- FP_PMCFG.L0SIDLE [15:8] RW (R406). -/
def FP_PMCFG_L0SIDLE : Fld := ⟨151, 8, 8, .rw, 10, true, false, [(0, 0)]⟩
/-- FP_PMCFG.L0PLOW [22:16] RW (R406). -/
def FP_PMCFG_L0PLOW : Fld := ⟨152, 16, 7, .rw, 25, true, false, [(0, 0), (101, 127)]⟩
/-- FP_PMSTAT.TXPS [1:0] RO (R406). -/
def FP_PMSTAT_TXPS : Fld := ⟨153, 0, 2, .ro, 0, false, false, [(3, 3)]⟩
/-- FP_PMSTAT.RXPS [3:2] RO (R406). -/
def FP_PMSTAT_RXPS : Fld := ⟨154, 2, 2, .ro, 0, false, false, []⟩
/-- FP_PMSTAT.L0PW [8:4] RO (R406). -/
def FP_PMSTAT_L0PW : Fld := ⟨155, 4, 5, .ro, 0, false, false, []⟩
/-- FP_TRNCNT.VAL [31:0] RC (R402). -/
def FP_TRNCNT_VAL : Fld := ⟨156, 0, 32, .rc, 0, false, false, []⟩
/-- FP_DOWNCNT.VAL [31:0] RC (R402). -/
def FP_DOWNCNT_VAL : Fld := ⟨157, 0, 32, .rc, 0, false, false, []⟩
/-- FP_CRCERR.VAL [31:0] RC (R402). -/
def FP_CRCERR_VAL : Fld := ⟨158, 0, 32, .rc, 0, false, false, []⟩
/-- FP_FECCORR.VAL [31:0] RC (R402). -/
def FP_FECCORR_VAL : Fld := ⟨159, 0, 32, .rc, 0, false, false, []⟩
/-- FP_IDEFAIL.VAL [31:0] RC (R402). -/
def FP_IDEFAIL_VAL : Fld := ⟨160, 0, 32, .rc, 0, false, false, []⟩
/-- FP_OCTCFG.OCTMODE [2:0] RW (R404). -/
def FP_OCTCFG_OCTMODE : Fld := ⟨161, 0, 3, .rw, 0, true, false, []⟩
/-- FP_OCTCFG.FAILED [3:3] RO (R404). -/
def FP_OCTCFG_FAILED : Fld := ⟨162, 3, 1, .ro, 0, false, false, []⟩
/-- LT_CTRL.EN [0:0] RW (R408). -/
def LT_CTRL_EN : Fld := ⟨163, 0, 1, .rw, 0, false, false, []⟩
/-- LT_CTRL.PAT [3:1] RW (R408). -/
def LT_CTRL_PAT : Fld := ⟨164, 1, 3, .rw, 0, false, false, []⟩
/-- LT_CTRL.RATE [6:4] RW (R408). -/
def LT_CTRL_RATE : Fld := ⟨165, 4, 3, .rw, 0, false, false, []⟩
/-- LT_CTRL.LOOP [8:7] RW (R408). -/
def LT_CTRL_LOOP : Fld := ⟨166, 7, 2, .rw, 0, false, false, []⟩
/-- LT_CTRL.GENEN [9:9] RW (R408). -/
def LT_CTRL_GENEN : Fld := ⟨167, 9, 1, .rw, 0, false, false, []⟩
/-- LT_CTRL.CHKEN [10:10] RW (R408). -/
def LT_CTRL_CHKEN : Fld := ⟨168, 10, 1, .rw, 0, false, false, []⟩
/-- LT_INJ.ONE [0:0] W1S (R408). -/
def LT_INJ_ONE : Fld := ⟨169, 0, 1, .w1s, 0, false, false, []⟩
/-- LT_INJ.EXP [12:8] RW (R408). -/
def LT_INJ_EXP : Fld := ⟨170, 8, 5, .rw, 0, false, false, [(27, 31)]⟩
/-- LT_UPAT_LO.VAL [31:0] RW (R407). -/
def LT_UPAT_LO_VAL : Fld := ⟨171, 0, 32, .rw, 0, false, false, []⟩
/-- LT_UPAT_HI.VAL [31:0] RW (R407). -/
def LT_UPAT_HI_VAL : Fld := ⟨172, 0, 32, .rw, 0, false, false, []⟩
/-- LT_STAT.LOCK [0:0] RO (R408). -/
def LT_STAT_LOCK : Fld := ⟨173, 0, 1, .ro, 0, false, false, []⟩
/-- LT_STAT.LOSTLOCK [1:1] W1C (R408). -/
def LT_STAT_LOSTLOCK : Fld := ⟨174, 1, 1, .w1c, 0, false, false, []⟩
/-- LT_STAT.CFGERR [2:2] W1C (R408). -/
def LT_STAT_CFGERR : Fld := ⟨175, 2, 1, .w1c, 0, false, false, []⟩
/-- LT_STAT.SAT [3:3] RO (R408). -/
def LT_STAT_SAT : Fld := ⟨176, 3, 1, .ro, 0, false, false, []⟩
/-- LT_ERRCNT.VAL [31:0] RC (R407). -/
def LT_ERRCNT_VAL : Fld := ⟨177, 0, 32, .rc, 0, false, false, []⟩
/-- LT_BITCNT_LO.VAL [31:0] RO (R407). -/
def LT_BITCNT_LO_VAL : Fld := ⟨178, 0, 32, .ro, 0, false, false, []⟩
/-- LT_BITCNT_HI.VAL [31:0] RO (R407). -/
def LT_BITCNT_HI_VAL : Fld := ⟨179, 0, 32, .ro, 0, false, false, []⟩
/-- LT_INJCNT.VAL [31:0] RC (R407). -/
def LT_INJCNT_VAL : Fld := ⟨180, 0, 32, .rc, 0, false, false, []⟩
/-- SL_STACK.SID [2:0] RW (R445). -/
def SL_STACK_SID : Fld := ⟨181, 0, 3, .rw, 0, true, false, []⟩
/-- SL_STACK.OVR [3:3] RW (R445). -/
def SL_STACK_OVR : Fld := ⟨182, 3, 1, .rw, 0, true, false, []⟩
/-- SL_STACK.NMOD [5:4] RW (R445). -/
def SL_STACK_NMOD : Fld := ⟨183, 4, 2, .rw, 0, true, false, []⟩
/-- SL_STKSTAT.SID [2:0] RO (R445). -/
def SL_STKSTAT_SID : Fld := ⟨184, 0, 3, .ro, 0, false, false, []⟩
/-- SL_STKSTAT.MASTER [5:3] RO (R445). -/
def SL_STKSTAT_MASTER : Fld := ⟨185, 3, 3, .ro, 0, false, false, []⟩
/-- SL_STKSTAT.TSYNC [6:6] RO (R445). -/
def SL_STKSTAT_TSYNC : Fld := ⟨186, 6, 1, .ro, 0, false, false, []⟩
/-- SL_STKSTAT.SIDERR [7:7] RO (R445). -/
def SL_STKSTAT_SIDERR : Fld := ⟨187, 7, 1, .ro, 0, false, false, []⟩
/-- SL_STKSTAT.ALIVE [15:8] RO (R445). -/
def SL_STKSTAT_ALIVE : Fld := ⟨188, 8, 8, .ro, 0, false, false, []⟩
/-- SL_STKSTAT.INC [31:16] RO (R445). -/
def SL_STKSTAT_INC : Fld := ⟨189, 16, 16, .ro, 0, false, false, []⟩
/-- SL_TCFG.RTMO [7:0] RW (R445). -/
def SL_TCFG_RTMO : Fld := ⟨190, 0, 8, .rw, 20, true, false, [(0, 0)]⟩
/-- SL_PLANDIG_LO.VAL [31:0] RO (R444). -/
def SL_PLANDIG_LO_VAL : Fld := ⟨191, 0, 32, .ro, 0, false, false, []⟩
/-- SL_PLANDIG_HI.VAL [31:0] RO (R444). -/
def SL_PLANDIG_HI_VAL : Fld := ⟨192, 0, 32, .ro, 0, false, false, []⟩
/-- SL_TIME_LO.VAL [31:0] RO (R444). -/
def SL_TIME_LO_VAL : Fld := ⟨193, 0, 32, .ro, 0, false, false, []⟩
/-- SL_TIME_HI.VAL [31:0] RO (R444). -/
def SL_TIME_HI_VAL : Fld := ⟨194, 0, 32, .ro, 0, false, false, []⟩
/-- SL_DUP.VAL [31:0] RC (R444). -/
def SL_DUP_VAL : Fld := ⟨195, 0, 32, .rc, 0, false, false, []⟩
/-- SL_OOW.VAL [31:0] RC (R444). -/
def SL_OOW_VAL : Fld := ⟨196, 0, 32, .rc, 0, false, false, []⟩
/-- SL_HOPDROP.VAL [31:0] RC (R444). -/
def SL_HOPDROP_VAL : Fld := ⟨197, 0, 32, .rc, 0, false, false, []⟩
/-- SL_REPLAY.VAL [31:0] RC (R444). -/
def SL_REPLAY_VAL : Fld := ⟨198, 0, 32, .rc, 0, false, false, []⟩
/-- SL_ECRCERR.VAL [31:0] RC (R444). -/
def SL_ECRCERR_VAL : Fld := ⟨199, 0, 32, .rc, 0, false, false, []⟩
/-- SL_BADTYPE.VAL [31:0] RC (R444). -/
def SL_BADTYPE_VAL : Fld := ⟨200, 0, 32, .rc, 0, false, false, []⟩
/-- SL_TSTEP.VAL [31:0] RC (R444). -/
def SL_TSTEP_VAL : Fld := ⟨201, 0, 32, .rc, 0, false, false, []⟩
/-- SL_PEERSTAT.STATE [1:0] RO (R445). -/
def SL_PEERSTAT_STATE : Fld := ⟨202, 0, 2, .ro, 0, false, false, [(3, 3)]⟩
/-- SL_PEERSTAT.ONALT [2:2] RO (R445). -/
def SL_PEERSTAT_ONALT : Fld := ⟨203, 2, 1, .ro, 0, false, false, []⟩
/-- SL_PEERSTAT.INC [31:16] RO (R445). -/
def SL_PEERSTAT_INC : Fld := ⟨204, 16, 16, .ro, 0, false, false, []⟩
/-- SL_PCFG.EN [0:0] RW (R445). -/
def SL_PCFG_EN : Fld := ⟨205, 0, 1, .rw, 0, true, false, []⟩
/-- SL_PCFG.S1EN [1:1] RW (R445). -/
def SL_PCFG_S1EN : Fld := ⟨206, 1, 1, .rw, 1, true, false, []⟩
/-- SL_PCFG.S2EN [2:2] RW (R445). -/
def SL_PCFG_S2EN : Fld := ⟨207, 2, 1, .rw, 1, true, false, []⟩
/-- SL_PCFG.RETRAIN [3:3] W1S (R445). -/
def SL_PCFG_RETRAIN : Fld := ⟨208, 3, 1, .w1s, 0, false, false, []⟩
/-- SL_PCFG.S1IDLE [11:4] RW (R445). -/
def SL_PCFG_S1IDLE : Fld := ⟨209, 4, 8, .rw, 20, true, false, [(0, 0)]⟩
/-- SL_PCFG.S2IDLE [19:12] RW (R445). -/
def SL_PCFG_S2IDLE : Fld := ⟨210, 12, 8, .rw, 50, true, false, [(0, 0)]⟩
/-- SL_PSTAT.STATE [2:0] RO (R445). -/
def SL_PSTAT_STATE : Fld := ⟨211, 0, 3, .ro, 0, false, false, [(5, 7)]⟩
/-- SL_PSTAT.PEER [5:3] RO (R445). -/
def SL_PSTAT_PEER : Fld := ⟨212, 3, 3, .ro, 0, false, false, []⟩
/-- SL_PSTAT.TXPS [7:6] RO (R445). -/
def SL_PSTAT_TXPS : Fld := ⟨213, 6, 2, .ro, 0, false, false, [(3, 3)]⟩
/-- SL_PSTAT.RXPS [9:8] RO (R445). -/
def SL_PSTAT_RXPS : Fld := ⟨214, 8, 2, .ro, 0, false, false, []⟩
/-- SL_PSTAT.TIMEDN [10:10] RO (R445). -/
def SL_PSTAT_TIMEDN : Fld := ⟨215, 10, 1, .ro, 0, false, false, []⟩
/-- SL_PSTAT.DOWNWHY [15:12] RO (R445). -/
def SL_PSTAT_DOWNWHY : Fld := ⟨216, 12, 4, .ro, 0, false, false, [(8, 15)]⟩
/-- SL_CRCERR.VAL [31:0] RC (R444). -/
def SL_CRCERR_VAL : Fld := ⟨217, 0, 32, .rc, 0, false, false, []⟩
/-- SL_LRETRY.VAL [31:0] RC (R444). -/
def SL_LRETRY_VAL : Fld := ⟨218, 0, 32, .rc, 0, false, false, []⟩
/-- SL_PDELAY.VAL [15:0] RO (R444). -/
def SL_PDELAY_VAL : Fld := ⟨219, 0, 16, .ro, 0, false, false, []⟩
/-- SW_CTRL.SPEN [0:0] RW (R225). -/
def SW_CTRL_SPEN : Fld := ⟨220, 0, 1, .rw, 1, true, false, []⟩
/-- SW_CTRL.HALT [1:1] RW (R225). -/
def SW_CTRL_HALT : Fld := ⟨221, 1, 1, .rw, 0, false, false, []⟩
/-- SW_CTRL.ITERS [5:4] RW (R225). -/
def SW_CTRL_ITERS : Fld := ⟨222, 4, 2, .rw, 3, true, false, [(0, 0)]⟩
/-- SW_BUFCFG.SRESV [15:0] RW (R226). -/
def SW_BUFCFG_SRESV : Fld := ⟨223, 0, 16, .rw, 8192, true, false, [(32769, 65535)]⟩
/-- SW_BUFCFG.LOWFREE [31:16] RW (R226). -/
def SW_BUFCFG_LOWFREE : Fld := ⟨224, 16, 16, .rw, 4096, true, false, [(16385, 65535)]⟩
/-- SW_SPILLCFG.QHI [11:0] RW (R227). -/
def SW_SPILLCFG_QHI : Fld := ⟨225, 0, 12, .rw, 128, true, false, [(0, 0)]⟩
/-- SW_SPILLCFG.QMIN [19:12] RW (R227). -/
def SW_SPILLCFG_QMIN : Fld := ⟨226, 12, 8, .rw, 16, true, false, [(0, 0)]⟩
/-- SW_SPILLCFG.PCT [25:20] RW (R227). -/
def SW_SPILLCFG_PCT : Fld := ⟨227, 20, 6, .rw, 25, true, false, [(0, 0), (51, 63)]⟩
/-- SW_SPILLFIRST.VAL [21:0] RW (R224). -/
def SW_SPILLFIRST_VAL : Fld := ⟨228, 0, 22, .rw, 0, true, false, []⟩
/-- SW_SPILLCNT.VAL [15:0] RW (R224). -/
def SW_SPILLCNT_VAL : Fld := ⟨229, 0, 16, .rw, 0, true, false, [(32769, 65535)]⟩
/-- SW_AGE.STRICT [15:0] RW (R228). -/
def SW_AGE_STRICT : Fld := ⟨230, 0, 16, .rw, 100, true, false, [(0, 0)]⟩
/-- SW_AGE.WEIGHTED [31:16] RW (R228). -/
def SW_AGE_WEIGHTED : Fld := ⟨231, 16, 16, .rw, 2000, true, false, [(0, 0)]⟩
/-- SW_RTCMD.RIDX [13:0] RW (R229). -/
def SW_RTCMD_RIDX : Fld := ⟨232, 0, 14, .rw, 0, false, false, []⟩
/-- SW_RTCMD.OP [17:16] RW (R229). -/
def SW_RTCMD_OP : Fld := ⟨233, 16, 2, .rw, 0, false, false, []⟩
/-- SW_RTCMD.GO [31:31] W1S (R229). -/
def SW_RTCMD_GO : Fld := ⟨234, 31, 1, .w1s, 0, false, false, []⟩
/-- SW_RTSTAT.BUSY [0:0] RO (R229). -/
def SW_RTSTAT_BUSY : Fld := ⟨235, 0, 1, .ro, 0, false, false, []⟩
/-- SW_RTSTAT.RESULT [7:4] RO (R229). -/
def SW_RTSTAT_RESULT : Fld := ⟨236, 4, 4, .ro, 0, false, false, [(4, 15)]⟩
/-- SW_RTDATA_LO.VAL [31:0] RW (R224). -/
def SW_RTDATA_LO_VAL : Fld := ⟨237, 0, 32, .rw, 0, false, false, []⟩
/-- SW_RTDATA_HI.VAL [31:0] RW (R224). -/
def SW_RTDATA_HI_VAL : Fld := ⟨238, 0, 32, .rw, 0, false, false, []⟩
/-- SW_AUDCTRL.GO [31:31] W1S (R224). -/
def SW_AUDCTRL_GO : Fld := ⟨239, 31, 1, .w1s, 0, false, false, []⟩
/-- SW_AUDSTAT.BUSY [0:0] RO (R230). -/
def SW_AUDSTAT_BUSY : Fld := ⟨240, 0, 1, .ro, 0, false, false, []⟩
/-- SW_AUDSTAT.RESULT [5:4] RO (R230). -/
def SW_AUDSTAT_RESULT : Fld := ⟨241, 4, 2, .ro, 0, false, false, []⟩
/-- SW_FREE.VAL [31:0] RO (R224). -/
def SW_FREE_VAL : Fld := ⟨242, 0, 32, .ro, 65536, false, false, []⟩
/-- SW_SPILLPG.VAL [31:0] RO (R224). -/
def SW_SPILLPG_VAL : Fld := ⟨243, 0, 32, .ro, 0, false, false, []⟩
/-- SW_AGEDROP.VAL [31:0] RC (R224). -/
def SW_AGEDROP_VAL : Fld := ⟨244, 0, 32, .rc, 0, false, false, []⟩
/-- SW_REVDROP.VAL [31:0] RC (R224). -/
def SW_REVDROP_VAL : Fld := ⟨245, 0, 32, .rc, 0, false, false, []⟩
/-- SW_BADDROP.VAL [31:0] RC (R224). -/
def SW_BADDROP_VAL : Fld := ⟨246, 0, 32, .rc, 0, false, false, []⟩
/-- SW_NULLIFY.VAL [31:0] RC (R224). -/
def SW_NULLIFY_VAL : Fld := ⟨247, 0, 32, .rc, 0, false, false, []⟩
/-- SW_CREDHOLD.VAL [31:0] RC (R224). -/
def SW_CREDHOLD_VAL : Fld := ⟨248, 0, 32, .rc, 0, false, false, []⟩
/-- SW_SPILLFULL.VAL [31:0] RC (R224). -/
def SW_SPILLFULL_VAL : Fld := ⟨249, 0, 32, .rc, 0, false, false, []⟩
/-- SW_LATE.VAL [31:0] RC (R224). -/
def SW_LATE_VAL : Fld := ⟨250, 0, 32, .rc, 0, false, false, []⟩
/-- SW_AUDLEAK.VAL [31:0] RC (R224). -/
def SW_AUDLEAK_VAL : Fld := ⟨251, 0, 32, .rc, 0, false, false, []⟩
/-- SW_AUDDUP.VAL [31:0] RC (R224). -/
def SW_AUDDUP_VAL : Fld := ⟨252, 0, 32, .rc, 0, false, false, []⟩
/-- SW_MCDROP.VAL [31:0] RC (R224). -/
def SW_MCDROP_VAL : Fld := ⟨253, 0, 32, .rc, 0, false, false, []⟩
/-- SW_QSTAT.ONCHIP [16:0] RO (R230). -/
def SW_QSTAT_ONCHIP : Fld := ⟨254, 0, 17, .ro, 0, false, false, []⟩
/-- SW_QSTAT.SPILLING [17:17] RO (R230). -/
def SW_QSTAT_SPILLING : Fld := ⟨255, 17, 1, .ro, 0, false, false, []⟩
/-- SW_QSTAT.DOMENE [18:18] RO (R230). -/
def SW_QSTAT_DOMENE : Fld := ⟨256, 18, 1, .ro, 0, false, false, []⟩
/-- TS_CTRL.PERIOD [7:0] RW (R256). -/
def TS_CTRL_PERIOD : Fld := ⟨257, 0, 8, .rw, 1, true, false, [(0, 0)]⟩
/-- TS_CTRL.SAMPEN [8:8] RW (R256). -/
def TS_CTRL_SAMPEN : Fld := ⟨258, 8, 1, .rw, 1, true, false, []⟩
/-- TS_CTRL.FREEZE [9:9] RW (R256). -/
def TS_CTRL_FREEZE : Fld := ⟨259, 9, 1, .rw, 0, false, false, []⟩
/-- TS_CTRL.PACEEN [10:10] RW (R256). -/
def TS_CTRL_PACEEN : Fld := ⟨260, 10, 1, .rw, 1, true, false, []⟩
/-- TS_CTRL.PQMAX [27:16] RW (R256). -/
def TS_CTRL_PQMAX : Fld := ⟨261, 16, 12, .rw, 64, true, false, [(0, 0)]⟩
/-- TS_INTQ.COH [3:0] RW (R257). -/
def TS_INTQ_COH : Fld := ⟨262, 0, 4, .rw, 4, true, false, []⟩
/-- TS_INTQ.TUR [7:4] RW (R257). -/
def TS_INTQ_TUR : Fld := ⟨263, 4, 4, .rw, 4, true, false, []⟩
/-- TS_PACEHOLD.VAL [31:0] RC (R255). -/
def TS_PACEHOLD_VAL : Fld := ⟨264, 0, 32, .rc, 0, false, false, []⟩
/-- TS_WHEELOVF.VAL [31:0] RC (R255). -/
def TS_WHEELOVF_VAL : Fld := ⟨265, 0, 32, .rc, 0, false, false, []⟩
/-- TS_PACELATE.VAL [31:0] RC (R255). -/
def TS_PACELATE_VAL : Fld := ⟨266, 0, 32, .rc, 0, false, false, []⟩
/-- TS_PORTRATE.VAL [31:0] RO (R255). -/
def TS_PORTRATE_VAL : Fld := ⟨267, 0, 32, .ro, 0, false, false, []⟩
/-- TS_PORTCFG.SBUDGET [6:0] RW (R258). -/
def TS_PORTCFG_SBUDGET : Fld := ⟨268, 0, 7, .rw, 40, true, false, [(0, 0), (101, 127)]⟩
/-- TS_PORTCFG.SBURST [31:16] RW (R258). -/
def TS_PORTCFG_SBURST : Fld := ⟨269, 16, 16, .rw, 16384, true, false, [(0, 255)]⟩
/-- TS_PORTSTAT.BOUNDOK [0:0] RO (R258). -/
def TS_PORTSTAT_BOUNDOK : Fld := ⟨270, 0, 1, .ro, 0, false, false, []⟩
/-- TS_PORTSTAT.UNSHAPED [1:1] W1C (R258). -/
def TS_PORTSTAT_UNSHAPED : Fld := ⟨271, 1, 1, .w1c, 0, false, false, []⟩
/-- TS_PORTSTAT.DMAX [31:16] RO (R258). -/
def TS_PORTSTAT_DMAX : Fld := ⟨272, 16, 16, .ro, 0, false, false, []⟩
/-- TS_SOVER.VAL [31:0] RC (R255). -/
def TS_SOVER_VAL : Fld := ⟨273, 0, 32, .rc, 0, false, false, []⟩
/-- TS_TCMAP.TC0 [3:0] RW (R257). -/
def TS_TCMAP_TC0 : Fld := ⟨274, 0, 4, .rw, 4, true, false, []⟩
/-- TS_TCMAP.TC1 [7:4] RW (R257). -/
def TS_TCMAP_TC1 : Fld := ⟨275, 4, 4, .rw, 5, true, false, []⟩
/-- TS_TCMAP.TC2 [11:8] RW (R257). -/
def TS_TCMAP_TC2 : Fld := ⟨276, 8, 4, .rw, 6, true, false, []⟩
/-- TS_TCMAP.TC3 [15:12] RW (R257). -/
def TS_TCMAP_TC3 : Fld := ⟨277, 12, 4, .rw, 7, true, false, []⟩
/-- TS_TCMAP.TC4 [19:16] RW (R257). -/
def TS_TCMAP_TC4 : Fld := ⟨278, 16, 4, .rw, 8, true, false, []⟩
/-- TS_TCMAP.TC5 [23:20] RW (R257). -/
def TS_TCMAP_TC5 : Fld := ⟨279, 20, 4, .rw, 9, true, false, []⟩
/-- TS_TCMAP.TC6 [27:24] RW (R257). -/
def TS_TCMAP_TC6 : Fld := ⟨280, 24, 4, .rw, 10, true, false, []⟩
/-- TS_TCMAP.TC7 [31:28] RW (R257). -/
def TS_TCMAP_TC7 : Fld := ⟨281, 28, 4, .rw, 11, true, false, []⟩
/-- TS_PACE.RATE [19:0] RW (R257). -/
def TS_PACE_RATE : Fld := ⟨282, 0, 20, .rw, 0, false, false, [(1000001, 1048575)]⟩
/-- TS_PACE.TQ [23:20] RW (R257). -/
def TS_PACE_TQ : Fld := ⟨283, 20, 4, .rw, 4, false, false, []⟩
/-- TS_SHCFG.ISLOPE [19:0] RW (R259). -/
def TS_SHCFG_ISLOPE : Fld := ⟨284, 0, 20, .rw, 0, true, false, [(1024001, 1048575)]⟩
/-- TS_SHCFG.QUANT [31:24] RW (R259). -/
def TS_SHCFG_QUANT : Fld := ⟨285, 24, 8, .rw, 32, true, false, [(0, 16)]⟩
/-- TS_SHLIM.CAP [15:0] RW (R259). -/
def TS_SHLIM_CAP : Fld := ⟨286, 0, 16, .rw, 4352, true, false, []⟩
/-- TS_SHLIM.FLOOR [31:16] RW (R259). -/
def TS_SHLIM_FLOOR : Fld := ⟨287, 16, 16, .rw, 8704, true, false, []⟩
/-- TS_SHCRED.VAL [31:0] RO (R255). -/
def TS_SHCRED_VAL : Fld := ⟨288, 0, 32, .ro, 0, false, false, []⟩
/-- TS_DEFICIT.VAL [16:0] RO (R255). -/
def TS_DEFICIT_VAL : Fld := ⟨289, 0, 17, .ro, 0, false, false, []⟩
/-- TS_QMAX.VAL [31:0] RC (R255). -/
def TS_QMAX_VAL : Fld := ⟨290, 0, 32, .rc, 0, false, false, []⟩
/-- TS_DMAX.VAL [31:0] RC (R255). -/
def TS_DMAX_VAL : Fld := ⟨291, 0, 32, .rc, 0, false, false, []⟩
/-- TS_HIST.VAL [31:0] RC (R255). -/
def TS_HIST_VAL : Fld := ⟨292, 0, 32, .rc, 0, false, false, []⟩
/-- BD_CTRL.ADDTMO [15:0] RW (R71). -/
def BD_CTRL_ADDTMO : Fld := ⟨293, 0, 16, .rw, 1000, true, false, [(0, 0)]⟩
/-- BD_CTRL.DRNTMO [23:16] RW (R71). -/
def BD_CTRL_DRNTMO : Fld := ⟨294, 16, 8, .rw, 10, true, false, [(0, 0)]⟩
/-- BD_ALLOC.HOME [2:0] RW (R72). -/
def BD_ALLOC_HOME : Fld := ⟨295, 0, 3, .rw, 0, true, false, []⟩
/-- BD_ALLOC.GROUP [4:3] RW (R72). -/
def BD_ALLOC_GROUP : Fld := ⟨296, 3, 2, .rw, 0, true, false, [(3, 3)]⟩
/-- BD_TTCMD.TID [12:0] RW (R73). -/
def BD_TTCMD_TID : Fld := ⟨297, 0, 13, .rw, 0, false, false, []⟩
/-- BD_TTCMD.OP [19:16] RW (R73). -/
def BD_TTCMD_OP : Fld := ⟨298, 16, 4, .rw, 0, false, false, []⟩
/-- BD_TTCMD.GO [31:31] W1S (R73). -/
def BD_TTCMD_GO : Fld := ⟨299, 31, 1, .w1s, 0, false, false, []⟩
/-- BD_TTSTAT.BUSY [0:0] RO (R76). -/
def BD_TTSTAT_BUSY : Fld := ⟨300, 0, 1, .ro, 0, false, false, []⟩
/-- BD_TTSTAT.RESULT [7:4] RO (R76). -/
def BD_TTSTAT_RESULT : Fld := ⟨301, 4, 4, .ro, 0, false, false, [(5, 15)]⟩
/-- BD_TTSTAT.STATE [18:16] RO (R76). -/
def BD_TTSTAT_STATE : Fld := ⟨302, 16, 3, .ro, 0, false, false, []⟩
/-- BD_TTDATA0.VAL [31:0] RW (R70). -/
def BD_TTDATA0_VAL : Fld := ⟨303, 0, 32, .rw, 0, false, false, []⟩
/-- BD_TTDATA1.VAL [31:0] RW (R70). -/
def BD_TTDATA1_VAL : Fld := ⟨304, 0, 32, .rw, 0, false, false, []⟩
/-- BD_TTDATA2.VAL [31:0] RW (R70). -/
def BD_TTDATA2_VAL : Fld := ⟨305, 0, 32, .rw, 0, false, false, []⟩
/-- BD_TTDATA3.VAL [31:0] RW (R70). -/
def BD_TTDATA3_VAL : Fld := ⟨306, 0, 32, .rw, 0, false, false, []⟩
/-- BD_XCMISS.VAL [31:0] RC (R70). -/
def BD_XCMISS_VAL : Fld := ⟨307, 0, 32, .rc, 0, false, false, []⟩
/-- BD_LATE.VAL [31:0] RC (R70). -/
def BD_LATE_VAL : Fld := ⟨308, 0, 32, .rc, 0, false, false, []⟩
/-- BD_STOPREJ.VAL [31:0] RC (R70). -/
def BD_STOPREJ_VAL : Fld := ⟨309, 0, 32, .rc, 0, false, false, []⟩
/-- BD_TDRAIN.OUT [19:0] RO (R67). -/
def BD_TDRAIN_OUT : Fld := ⟨310, 0, 20, .ro, 0, false, false, []⟩
/-- BD_TDRAIN.LOSS [28:28] RO (R67). -/
def BD_TDRAIN_LOSS : Fld := ⟨311, 28, 1, .ro, 0, false, false, []⟩
/-- BD_TDRAIN.VIS [30:30] RO (R67). -/
def BD_TDRAIN_VIS : Fld := ⟨312, 30, 1, .ro, 1, false, false, []⟩
/-- BD_TDRAIN.ARM [31:31] W1S (R67). -/
def BD_TDRAIN_ARM : Fld := ⟨313, 31, 1, .w1s, 0, false, false, []⟩
/-- AG_SYSSET.BASE [15:0] RW (R363). -/
def AG_SYSSET_BASE : Fld := ⟨314, 0, 16, .rw, 0, true, false, []⟩
/-- AG_SYSSET.CNT [24:16] RW (R363). -/
def AG_SYSSET_CNT : Fld := ⟨315, 16, 9, .rw, 0, true, false, [(257, 511)]⟩
/-- AG_SYSDEF.R [0:0] RW (R363). -/
def AG_SYSDEF_R : Fld := ⟨316, 0, 1, .rw, 1, true, false, []⟩
/-- AG_SYSDEF.W [1:1] RW (R363). -/
def AG_SYSDEF_W : Fld := ⟨317, 1, 1, .rw, 1, true, false, []⟩
/-- AG_SYSDEF.X [2:2] RW (R363). -/
def AG_SYSDEF_X : Fld := ⟨318, 2, 1, .rw, 0, true, false, []⟩
/-- AG_RDCMD.IDX [15:0] RW (R364). -/
def AG_RDCMD_IDX : Fld := ⟨319, 0, 16, .rw, 0, false, false, []⟩
/-- AG_RDCMD.OP [17:16] RW (R364). -/
def AG_RDCMD_OP : Fld := ⟨320, 16, 2, .rw, 0, false, false, []⟩
/-- AG_RDCMD.GO [31:31] W1S (R364). -/
def AG_RDCMD_GO : Fld := ⟨321, 31, 1, .w1s, 0, false, false, []⟩
/-- AG_RDSTAT.BUSY [0:0] RO (R364). -/
def AG_RDSTAT_BUSY : Fld := ⟨322, 0, 1, .ro, 0, false, false, []⟩
/-- AG_RDSTAT.RESULT [7:4] RO (R364). -/
def AG_RDSTAT_RESULT : Fld := ⟨323, 4, 4, .ro, 0, false, false, [(4, 15)]⟩
/-- AG_RDDATA0.VAL [31:0] RW (R362). -/
def AG_RDDATA0_VAL : Fld := ⟨324, 0, 32, .rw, 0, false, false, []⟩
/-- AG_RDDATA1.VAL [31:0] RW (R362). -/
def AG_RDDATA1_VAL : Fld := ⟨325, 0, 32, .rw, 0, false, false, []⟩
/-- AG_RDDATA2.VAL [31:0] RW (R362). -/
def AG_RDDATA2_VAL : Fld := ⟨326, 0, 32, .rw, 0, false, false, []⟩
/-- AG_RDDATA3.VAL [31:0] RW (R362). -/
def AG_RDDATA3_VAL : Fld := ⟨327, 0, 32, .rw, 0, false, false, []⟩
/-- AG_VADDR_LO.VAL [31:0] RO (R362). -/
def AG_VADDR_LO_VAL : Fld := ⟨328, 0, 32, .ro, 0, false, false, []⟩
/-- AG_VADDR_HI.VAL [31:0] RO (R362). -/
def AG_VADDR_HI_VAL : Fld := ⟨329, 0, 32, .ro, 0, false, false, []⟩
/-- AG_VINFO.MASTER [15:0] RO (R364). -/
def AG_VINFO_MASTER : Fld := ⟨330, 0, 16, .ro, 0, false, false, []⟩
/-- AG_VINFO.KIND [23:16] RO (R364). -/
def AG_VINFO_KIND : Fld := ⟨331, 16, 8, .ro, 0, false, false, []⟩
/-- AG_VINFO.VALID [31:31] W1C (R364). -/
def AG_VINFO_VALID : Fld := ⟨332, 31, 1, .w1c, 0, false, false, []⟩
/-- AG_VREGION.VAL [15:0] RO (R362). -/
def AG_VREGION_VAL : Fld := ⟨333, 0, 16, .ro, 0, false, false, []⟩
/-- AG_VCNT.VAL [31:0] RC (R362). -/
def AG_VCNT_VAL : Fld := ⟨334, 0, 32, .rc, 0, false, false, []⟩
/-- AG_DBGDENY.VAL [31:0] RC (R362). -/
def AG_DBGDENY_VAL : Fld := ⟨335, 0, 32, .rc, 0, false, false, []⟩
/-- AG_TDEF.R [0:0] RW (R363). -/
def AG_TDEF_R : Fld := ⟨336, 0, 1, .rw, 1, false, false, []⟩
/-- AG_TDEF.W [1:1] RW (R363). -/
def AG_TDEF_W : Fld := ⟨337, 1, 1, .rw, 1, false, false, []⟩
/-- AG_TDEF.X [2:2] RW (R363). -/
def AG_TDEF_X : Fld := ⟨338, 2, 1, .rw, 0, false, false, []⟩
/-- HD_CTRL.TENURE [7:0] RW (R132). -/
def HD_CTRL_TENURE : Fld := ⟨339, 0, 8, .rw, 40, true, false, [(0, 9), (201, 255)]⟩
/-- HD_CTRL.EGRANT [8:8] RW (R132). -/
def HD_CTRL_EGRANT : Fld := ⟨340, 8, 1, .rw, 1, true, false, []⟩
/-- HD_CTRL.BITMO [23:16] RW (R132). -/
def HD_CTRL_BITMO : Fld := ⟨341, 16, 8, .rw, 20, true, false, [(0, 0)]⟩
/-- HD_STALE.VAL [31:0] RC (R131). -/
def HD_STALE_VAL : Fld := ⟨342, 0, 32, .rc, 0, false, false, []⟩
/-- HD_RETRYSENT.VAL [31:0] RC (R131). -/
def HD_RETRYSENT_VAL : Fld := ⟨343, 0, 32, .rc, 0, false, false, []⟩
/-- HD_CREDHOLD.VAL [31:0] RC (R131). -/
def HD_CREDHOLD_VAL : Fld := ⟨344, 0, 32, .rc, 0, false, false, []⟩
/-- HD_EVICT.VAL [31:0] RC (R131). -/
def HD_EVICT_VAL : Fld := ⟨345, 0, 32, .rc, 0, false, false, []⟩
/-- HD_LATE.VAL [31:0] RC (R131). -/
def HD_LATE_VAL : Fld := ⟨346, 0, 32, .rc, 0, false, false, []⟩
/-- HD_RCLSTAT.BUSY [0:0] RO (R172). -/
def HD_RCLSTAT_BUSY : Fld := ⟨347, 0, 1, .ro, 0, false, false, []⟩
/-- HD_RCLSTAT.PEND [1:1] RO (R172). -/
def HD_RCLSTAT_PEND : Fld := ⟨348, 1, 1, .ro, 0, false, false, []⟩
/-- HD_RCLSTAT.SET [29:16] RO (R172). -/
def HD_RCLSTAT_SET : Fld := ⟨349, 16, 14, .ro, 0, false, false, []⟩
/-- HD_RBCTRL.BW [4:0] RW (R173). -/
def HD_RBCTRL_BW : Fld := ⟨350, 0, 5, .rw, 10, true, false, [(0, 0), (26, 31)]⟩
/-- HD_RBCTRL.LSLICE [11:8] RW (R173). -/
def HD_RBCTRL_LSLICE : Fld := ⟨351, 8, 4, .rw, 0, false, false, []⟩
/-- HD_RBCTRL.GO [31:31] W1S (R173). -/
def HD_RBCTRL_GO : Fld := ⟨352, 31, 1, .w1s, 0, false, false, []⟩
/-- HD_RBSTAT.BUSY [0:0] RO (R174). -/
def HD_RBSTAT_BUSY : Fld := ⟨353, 0, 1, .ro, 0, false, false, []⟩
/-- HD_RBSTAT.LSLICE [4:1] RO (R174). -/
def HD_RBSTAT_LSLICE : Fld := ⟨354, 1, 4, .ro, 0, false, false, []⟩
/-- HD_RBSTAT.DOUBLE [5:5] RO (R174). -/
def HD_RBSTAT_DOUBLE : Fld := ⟨355, 5, 1, .ro, 0, false, false, []⟩
/-- HD_RBSTAT.EXT [29:8] RO (R174). -/
def HD_RBSTAT_EXT : Fld := ⟨356, 8, 22, .ro, 0, false, false, []⟩
/-- HD_RBPOIS.VAL [31:0] RC (R171). -/
def HD_RBPOIS_VAL : Fld := ⟨357, 0, 32, .rc, 0, false, false, []⟩
/-- HD_SLSTAT.LSLICE [3:0] RO (R133). -/
def HD_SLSTAT_LSLICE : Fld := ⟨358, 0, 4, .ro, 0, false, false, []⟩
/-- HD_SLSTAT.ROLE [5:4] RO (R133). -/
def HD_SLSTAT_ROLE : Fld := ⟨359, 4, 2, .ro, 0, false, false, []⟩
/-- HD_SLSTAT.RQDEPTH [14:8] RO (R133). -/
def HD_SLSTAT_RQDEPTH : Fld := ⟨360, 8, 7, .ro, 0, false, false, []⟩
/-- HD_SLSTAT.OPEN [22:16] RO (R133). -/
def HD_SLSTAT_OPEN : Fld := ⟨361, 16, 7, .ro, 0, false, false, []⟩
/-- HD_DEAD.VAL [31:0] RO (R171). -/
def HD_DEAD_VAL : Fld := ⟨362, 0, 32, .ro, 0, false, false, []⟩
/-- HD_POISCNT.VAL [31:0] RC (R171). -/
def HD_POISCNT_VAL : Fld := ⟨363, 0, 32, .rc, 0, false, false, []⟩
/-- CU_CTRL.RETRYBO [3:0] RW (R134). -/
def CU_CTRL_RETRYBO : Fld := ⟨364, 0, 4, .rw, 2, true, false, [(0, 0)]⟩
/-- CU_CTRL.STARVN [6:4] RW (R134). -/
def CU_CTRL_STARVN : Fld := ⟨365, 4, 3, .rw, 4, true, false, [(0, 0)]⟩
/-- CU_HIT.VAL [31:0] RC (R131). -/
def CU_HIT_VAL : Fld := ⟨366, 0, 32, .rc, 0, false, false, []⟩
/-- CU_MISS.VAL [31:0] RC (R131). -/
def CU_MISS_VAL : Fld := ⟨367, 0, 32, .rc, 0, false, false, []⟩
/-- CU_PARK.VAL [31:0] RC (R131). -/
def CU_PARK_VAL : Fld := ⟨368, 0, 32, .rc, 0, false, false, []⟩
/-- CU_RETRYRX.VAL [31:0] RC (R131). -/
def CU_RETRYRX_VAL : Fld := ⟨369, 0, 32, .rc, 0, false, false, []⟩
/-- CU_LATE.VAL [31:0] RC (R171). -/
def CU_LATE_VAL : Fld := ⟨370, 0, 32, .rc, 0, false, false, []⟩
/-- CU_HOMELOSS.VAL [31:0] RC (R171). -/
def CU_HOMELOSS_VAL : Fld := ⟨371, 0, 32, .rc, 0, false, false, []⟩
/-- DM_CTRL.ENGEN [7:0] RW (R302). -/
def DM_CTRL_ENGEN : Fld := ⟨372, 0, 8, .rw, 255, true, false, []⟩
/-- DM_CTRL.HALT [8:8] RW (R302). -/
def DM_CTRL_HALT : Fld := ⟨373, 8, 1, .rw, 0, false, false, []⟩
/-- DM_CTRL.MIGWIN [22:16] RW (R302). -/
def DM_CTRL_MIGWIN : Fld := ⟨374, 16, 7, .rw, 16, true, false, [(0, 0), (65, 127)]⟩
/-- DM_PREEMPT.VAL [31:0] RC (R301). -/
def DM_PREEMPT_VAL : Fld := ⟨375, 0, 32, .rc, 0, false, false, []⟩
/-- DM_FAILOVER.VAL [31:0] RC (R301). -/
def DM_FAILOVER_VAL : Fld := ⟨376, 0, 32, .rc, 0, false, false, []⟩
/-- DM_REDIRECT.VAL [31:0] RC (R301). -/
def DM_REDIRECT_VAL : Fld := ⟨377, 0, 32, .rc, 0, false, false, []⟩
/-- DM_DBERR.VAL [31:0] RC (R301). -/
def DM_DBERR_VAL : Fld := ⟨378, 0, 32, .rc, 0, false, false, []⟩
/-- DM_LATE.VAL [31:0] RC (R301). -/
def DM_LATE_VAL : Fld := ⟨379, 0, 32, .rc, 0, false, false, []⟩
/-- DM_MIGPOIS.VAL [31:0] RC (R301). -/
def DM_MIGPOIS_VAL : Fld := ⟨380, 0, 32, .rc, 0, false, false, []⟩
/-- DM_CTXWR.VAL [31:0] RC (R301). -/
def DM_CTXWR_VAL : Fld := ⟨381, 0, 32, .rc, 0, false, false, []⟩
/-- DM_ENGSTAT.BUSY [0:0] RO (R302). -/
def DM_ENGSTAT_BUSY : Fld := ⟨382, 0, 1, .ro, 0, false, false, []⟩
/-- DM_ENGSTAT.FAILED [1:1] RO (R302). -/
def DM_ENGSTAT_FAILED : Fld := ⟨383, 1, 1, .ro, 0, false, false, []⟩
/-- DM_ENGSTAT.RING [17:8] RO (R302). -/
def DM_ENGSTAT_RING : Fld := ⟨384, 8, 10, .ro, 0, false, false, []⟩
/-- DM_ENGSTAT.PRIO [20:18] RO (R302). -/
def DM_ENGSTAT_PRIO : Fld := ⟨385, 18, 3, .ro, 0, false, false, []⟩
/-- DM_MIGSRC.SRCEXT [21:0] RO (R302). -/
def DM_MIGSRC_SRCEXT : Fld := ⟨386, 0, 22, .ro, 0, false, false, []⟩
/-- DM_MIGSRC.V [31:31] RO (R302). -/
def DM_MIGSRC_V : Fld := ⟨387, 31, 1, .ro, 0, false, false, []⟩
/-- DM_MIGDST.DSTGEXT [24:0] RO (R302). -/
def DM_MIGDST_DSTGEXT : Fld := ⟨388, 0, 25, .ro, 0, false, false, []⟩
/-- DM_MIGPOS.WMARK [15:0] RO (R302). -/
def DM_MIGPOS_WMARK : Fld := ⟨389, 0, 16, .ro, 0, false, false, []⟩
/-- DM_MIGPOS.STATE [17:16] RO (R302). -/
def DM_MIGPOS_STATE : Fld := ⟨390, 16, 2, .ro, 0, false, false, []⟩
/-- DM_MIGPOS.RING [27:18] RO (R302). -/
def DM_MIGPOS_RING : Fld := ⟨391, 18, 10, .ro, 0, false, false, []⟩
/-- DM_RCFG.EN [0:0] RW (R303). -/
def DM_RCFG_EN : Fld := ⟨392, 0, 1, .rw, 0, false, false, []⟩
/-- DM_RCFG.LOC [1:1] RW (R303). -/
def DM_RCFG_LOC : Fld := ⟨393, 1, 1, .rw, 0, false, false, []⟩
/-- DM_RCFG.OWNER [2:2] RW (R303). -/
def DM_RCFG_OWNER : Fld := ⟨394, 2, 1, .rw, 0, false, false, []⟩
/-- DM_RCFG.PRIV [3:3] RW (R303). -/
def DM_RCFG_PRIV : Fld := ⟨395, 3, 1, .rw, 0, false, false, []⟩
/-- DM_RCFG.SIZE [7:4] RW (R303). -/
def DM_RCFG_SIZE : Fld := ⟨396, 4, 4, .rw, 0, false, false, [(0, 0), (13, 15)]⟩
/-- DM_RCFG.PRIO [10:8] RW (R303). -/
def DM_RCFG_PRIO : Fld := ⟨397, 8, 3, .rw, 0, false, false, []⟩
/-- DM_RCFG.Q [15:12] RW (R303). -/
def DM_RCFG_Q : Fld := ⟨398, 12, 4, .rw, 0, false, false, []⟩
/-- DM_RCFG.TID [28:16] RW (R303). -/
def DM_RCFG_TID : Fld := ⟨399, 16, 13, .rw, 0, false, false, []⟩
/-- DM_RBASE_LO.BASE [31:7] RW (R303). -/
def DM_RBASE_LO_BASE : Fld := ⟨400, 7, 25, .rw, 0, false, false, []⟩
/-- DM_RBASE_HI.BASE [10:0] RW (R303). -/
def DM_RBASE_HI_BASE : Fld := ⟨401, 0, 11, .rw, 0, false, false, []⟩
/-- DM_RTAIL.VAL [15:0] RW (R301). -/
def DM_RTAIL_VAL : Fld := ⟨402, 0, 16, .rw, 0, false, false, []⟩
/-- DM_RHEAD.VAL [15:0] RO (R301). -/
def DM_RHEAD_VAL : Fld := ⟨403, 0, 16, .ro, 0, false, false, []⟩
/-- DM_RSTAT.BUSY [0:0] RO (R303). -/
def DM_RSTAT_BUSY : Fld := ⟨404, 0, 1, .ro, 0, false, false, []⟩
/-- DM_RSTAT.PREEMPTED [1:1] RO (R303). -/
def DM_RSTAT_PREEMPTED : Fld := ⟨405, 1, 1, .ro, 0, false, false, []⟩
/-- DM_RSTAT.DBERR [2:2] W1C (R303). -/
def DM_RSTAT_DBERR : Fld := ⟨406, 2, 1, .w1c, 0, false, false, []⟩
/-- DM_RSTAT.CFGERR [3:3] W1C (R303). -/
def DM_RSTAT_CFGERR : Fld := ⟨407, 3, 1, .w1c, 0, false, false, []⟩
/-- DM_RSTAT.MIGWAIT [4:4] RO (R303). -/
def DM_RSTAT_MIGWAIT : Fld := ⟨408, 4, 1, .ro, 0, false, false, []⟩
/-- DD_CHSTAT.STATE [1:0] RO (R339). -/
def DD_CHSTAT_STATE : Fld := ⟨409, 0, 2, .ro, 0, false, false, []⟩
/-- DD_CHSTAT.REASON [5:2] RO (R339). -/
def DD_CHSTAT_REASON : Fld := ⟨410, 2, 4, .ro, 0, false, false, [(7, 15)]⟩
/-- DD_CHSTAT.DPC2 [6:6] RO (R339). -/
def DD_CHSTAT_DPC2 : Fld := ⟨411, 6, 1, .ro, 0, false, false, []⟩
/-- DD_CHSTAT.X8 [7:7] RO (R339). -/
def DD_CHSTAT_X8 : Fld := ⟨412, 7, 1, .ro, 0, false, false, []⟩
/-- DD_CHSTAT.RANKS [10:8] RO (R339). -/
def DD_CHSTAT_RANKS : Fld := ⟨413, 8, 3, .ro, 0, false, false, []⟩
/-- DD_CHCAP.VAL [9:0] RO (R336). -/
def DD_CHCAP_VAL : Fld := ⟨414, 0, 10, .ro, 0, false, false, []⟩
/-- DD_CECNT.VAL [31:0] RC (R336). -/
def DD_CECNT_VAL : Fld := ⟨415, 0, 32, .rc, 0, false, false, []⟩
/-- DD_UECNT.VAL [31:0] RC (R336). -/
def DD_UECNT_VAL : Fld := ⟨416, 0, 32, .rc, 0, false, false, []⟩
/-- DD_POISRD.VAL [31:0] RC (R336). -/
def DD_POISRD_VAL : Fld := ⟨417, 0, 32, .rc, 0, false, false, []⟩
/-- DD_WRDROP.VAL [31:0] RC (R336). -/
def DD_WRDROP_VAL : Fld := ⟨418, 0, 32, .rc, 0, false, false, []⟩
/-- DD_SCRDROP.VAL [31:0] RC (R336). -/
def DD_SCRDROP_VAL : Fld := ⟨419, 0, 32, .rc, 0, false, false, []⟩
/-- DD_LATE.VAL [31:0] RC (R336). -/
def DD_LATE_VAL : Fld := ⟨420, 0, 32, .rc, 0, false, false, []⟩
/-- DD_SCRPOS_LO.VAL [31:0] RO (R336). -/
def DD_SCRPOS_LO_VAL : Fld := ⟨421, 0, 32, .ro, 0, false, false, []⟩
/-- DD_SCRPOS_HI.VAL [1:0] RO (R336). -/
def DD_SCRPOS_HI_VAL : Fld := ⟨422, 0, 2, .ro, 0, false, false, []⟩
/-- DD_SCRINTV.VAL [23:0] RO (R336). -/
def DD_SCRINTV_VAL : Fld := ⟨423, 0, 24, .ro, 0, false, false, []⟩
/-- DD_CFG.MODE [0:0] RW (R337). -/
def DD_CFG_MODE : Fld := ⟨424, 0, 1, .rw, 0, true, false, []⟩
/-- DD_CFG.SCRUBEN [1:1] RW (R337). -/
def DD_CFG_SCRUBEN : Fld := ⟨425, 1, 1, .rw, 1, true, false, []⟩
/-- DD_CFG.PERIOD [15:8] RW (R337). -/
def DD_CFG_PERIOD : Fld := ⟨426, 8, 8, .rw, 24, true, false, [(0, 0), (169, 255)]⟩
/-- DD_CFG.UELIM [23:16] RW (R337). -/
def DD_CFG_UELIM : Fld := ⟨427, 16, 8, .rw, 16, true, false, [(0, 0)]⟩
/-- DD_TTSLEN.VAL [15:0] RW (R336). -/
def DD_TTSLEN_VAL : Fld := ⟨428, 0, 16, .rw, 0, true, false, []⟩
/-- DD_STAT.READY [0:0] RO (R338). -/
def DD_STAT_READY : Fld := ⟨429, 0, 1, .ro, 0, false, false, []⟩
/-- DD_STAT.MODE [1:1] RO (R338). -/
def DD_STAT_MODE : Fld := ⟨430, 1, 1, .ro, 0, false, false, []⟩
/-- DD_STAT.RATE [3:2] RO (R338). -/
def DD_STAT_RATE : Fld := ⟨431, 2, 2, .ro, 0, false, false, [(3, 3)]⟩
/-- DD_STAT.GRPUSE [6:4] RO (R338). -/
def DD_STAT_GRPUSE : Fld := ⟨432, 4, 3, .ro, 0, false, false, []⟩
/-- DD_STAT.TTSRED [7:7] RO (R338). -/
def DD_STAT_TTSRED : Fld := ⟨433, 7, 1, .ro, 0, false, false, []⟩
/-- DD_DOMEEXT.VAL [22:0] RO (R336). -/
def DD_DOMEEXT_VAL : Fld := ⟨434, 0, 23, .ro, 0, false, false, []⟩
/-- DD_TTSFIRST.VAL [21:0] RO (R336). -/
def DD_TTSFIRST_VAL : Fld := ⟨435, 0, 22, .ro, 0, false, false, []⟩
/-- DD_GRPBASE.VAL [21:0] RO (R336). -/
def DD_GRPBASE_VAL : Fld := ⟨436, 0, 22, .ro, 0, false, false, []⟩
/-- DD_GRPEXT.VAL [21:0] RO (R336). -/
def DD_GRPEXT_VAL : Fld := ⟨437, 0, 22, .ro, 0, false, false, []⟩
/-- DT_CFG.MAXLVL [1:0] RW (R653). -/
def DT_CFG_MAXLVL : Fld := ⟨438, 0, 2, .rw, 2, true, false, [(3, 3)]⟩
/-- DT_DBGSTAT.LEVEL [1:0] RO (R653). -/
def DT_DBGSTAT_LEVEL : Fld := ⟨439, 0, 2, .ro, 0, false, true, []⟩
/-- DT_DBGSTAT.KEYCLASS [3:2] RO (R653). -/
def DT_DBGSTAT_KEYCLASS : Fld := ⟨440, 2, 2, .ro, 0, false, true, [(3, 3)]⟩
/-- DT_DBGSTAT.VERIFY [4:4] RO (R653). -/
def DT_DBGSTAT_VERIFY : Fld := ⟨441, 4, 1, .ro, 0, false, false, []⟩
/-- DT_DBGSTAT.LOCKOUT [5:5] RO (R653). -/
def DT_DBGSTAT_LOCKOUT : Fld := ⟨442, 5, 1, .ro, 0, false, false, []⟩
/-- DT_DBGSTAT.IRERR [6:6] W1C (R653). -/
def DT_DBGSTAT_IRERR : Fld := ⟨443, 6, 1, .w1c, 0, false, false, []⟩
/-- DT_DBGSTAT.IGN [7:7] W1C (R653). -/
def DT_DBGSTAT_IGN : Fld := ⟨444, 7, 1, .w1c, 0, false, false, []⟩
/-- DT_DBGCMD.RELOCK [0:0] W1S (R652). -/
def DT_DBGCMD_RELOCK : Fld := ⟨445, 0, 1, .w1s, 0, false, false, []⟩
/-- DT_IDCODE.VAL [31:0] RO (R652). -/
def DT_IDCODE_VAL : Fld := ⟨446, 0, 32, .ro, 0, false, false, []⟩
/-- DT_UNLFAIL.VAL [31:0] RC (R652). -/
def DT_UNLFAIL_VAL : Fld := ⟨447, 0, 32, .rc, 0, false, true, []⟩
/-- DT_DENYCNT.VAL [31:0] RC (R652). -/
def DT_DENYCNT_VAL : Fld := ⟨448, 0, 32, .rc, 0, false, false, []⟩
/-- DT_TMUXSEL.SIG [7:0] RW (R653). -/
def DT_TMUXSEL_SIG : Fld := ⟨449, 0, 8, .rw, 0, false, false, []⟩
/-- DT_TMUXSEL.SELERR [8:8] RO (R653). -/
def DT_TMUXSEL_SELERR : Fld := ⟨450, 8, 1, .ro, 0, false, false, []⟩
/-- DT_TMUXSEL.INST [21:11] RW (R653). -/
def DT_TMUXSEL_INST : Fld := ⟨451, 11, 11, .rw, 0, false, false, []⟩
/-- DT_TMUXSEL.INSTHI [23:22] RW (R653). -/
def DT_TMUXSEL_INSTHI : Fld := ⟨452, 22, 2, .rw, 0, false, false, []⟩
/-- DT_DIRSEL.SLICE [4:0] RW (R653). -/
def DT_DIRSEL_SLICE : Fld := ⟨453, 0, 5, .rw, 0, false, false, []⟩
/-- DT_DIRSEL.SET [21:8] RW (R653). -/
def DT_DIRSEL_SET : Fld := ⟨454, 8, 14, .rw, 0, false, false, []⟩
/-- DT_DIRSEL.WAY [27:24] RW (R653). -/
def DT_DIRSEL_WAY : Fld := ⟨455, 24, 4, .rw, 0, false, false, []⟩
/-- DT_DIRDATA_LO.VAL [31:0] RO (R652). -/
def DT_DIRDATA_LO_VAL : Fld := ⟨456, 0, 32, .ro, 0, false, false, []⟩
/-- DT_DIRDATA_HI.VAL [31:0] RO (R652). -/
def DT_DIRDATA_HI_VAL : Fld := ⟨457, 0, 32, .ro, 0, false, false, []⟩
/-- DT_BISTCMD.TARGET [5:0] RW (R653). -/
def DT_BISTCMD_TARGET : Fld := ⟨458, 0, 6, .rw, 0, false, false, []⟩
/-- DT_BISTCMD.GO [31:31] W1S (R653). -/
def DT_BISTCMD_GO : Fld := ⟨459, 31, 1, .w1s, 0, false, false, []⟩
/-- DT_BISTSTAT.BUSY [0:0] RO (R653). -/
def DT_BISTSTAT_BUSY : Fld := ⟨460, 0, 1, .ro, 0, false, false, []⟩
/-- DT_BISTSTAT.RESULT [3:1] RO (R653). -/
def DT_BISTSTAT_RESULT : Fld := ⟨461, 1, 3, .ro, 0, false, false, [(3, 7)]⟩
/-- DT_BISTSTAT.FAILMAP [9:4] RO (R653). -/
def DT_BISTSTAT_FAILMAP : Fld := ⟨462, 4, 6, .ro, 0, false, false, []⟩
/-- BC_STAT.LINK [0:0] RO (R543). -/
def BC_STAT_LINK : Fld := ⟨463, 0, 1, .ro, 0, false, false, []⟩
/-- BC_STAT.PGOOD [1:1] RO (R543). -/
def BC_STAT_PGOOD : Fld := ⟨464, 1, 1, .ro, 0, false, false, []⟩
/-- BC_STAT.PFW [2:2] RO (R543). -/
def BC_STAT_PFW : Fld := ⟨465, 2, 1, .ro, 0, false, false, []⟩
/-- BC_STAT.AVALID [3:3] RO (R543). -/
def BC_STAT_AVALID : Fld := ⟨466, 3, 1, .ro, 0, false, false, []⟩
/-- BC_STAT.BVALID [4:4] RO (R543). -/
def BC_STAT_BVALID : Fld := ⟨467, 4, 1, .ro, 0, false, false, []⟩
/-- BC_STAT.ALM [5:5] RO (R543). -/
def BC_STAT_ALM : Fld := ⟨468, 5, 1, .ro, 0, false, false, []⟩
/-- BC_STAT.SLOTID [10:6] RO (R543). -/
def BC_STAT_SLOTID : Fld := ⟨469, 6, 5, .ro, 0, false, false, []⟩
/-- BC_STAT.WSTATE [13:11] RO (R543). -/
def BC_STAT_WSTATE : Fld := ⟨470, 11, 3, .ro, 0, false, false, []⟩
/-- BC_VFEED.VA [15:0] RO (R542). -/
def BC_VFEED_VA : Fld := ⟨471, 0, 16, .ro, 0, false, false, []⟩
/-- BC_VFEED.VB [31:16] RO (R542). -/
def BC_VFEED_VB : Fld := ⟨472, 16, 16, .ro, 0, false, false, []⟩
/-- BC_VBUS.VBUS [15:0] RO (R542). -/
def BC_VBUS_VBUS : Fld := ⟨473, 0, 16, .ro, 0, false, false, []⟩
/-- BC_VBUS.IBUS [31:16] RO (R542). -/
def BC_VBUS_IBUS : Fld := ⟨474, 16, 16, .ro, 0, false, false, []⟩
/-- BC_WSTAT.VAL [31:0] RO (R542). -/
def BC_WSTAT_VAL : Fld := ⟨475, 0, 32, .ro, 0, false, false, []⟩
/-- BC_WCFG.VAL [31:0] RW (R542). -/
def BC_WCFG_VAL : Fld := ⟨476, 0, 32, .rw, 0, true, false, []⟩
/-- BC_WCFGSTAT.PEND [0:0] RO (R543). -/
def BC_WCFGSTAT_PEND : Fld := ⟨477, 0, 1, .ro, 0, false, false, []⟩
/-- BC_WCFGSTAT.REJ [1:1] W1C (R543). -/
def BC_WCFGSTAT_REJ : Fld := ⟨478, 1, 1, .w1c, 0, false, false, []⟩
/-- BC_WCFGSTAT.MATCH [2:2] RO (R543). -/
def BC_WCFGSTAT_MATCH : Fld := ⟨479, 2, 1, .ro, 0, false, false, []⟩
/-- BC_WCFGSTAT.REJBYTE [15:8] RO (R543). -/
def BC_WCFGSTAT_REJBYTE : Fld := ⟨480, 8, 8, .ro, 0, false, false, []⟩
/-- BC_CRCERR.VAL [31:0] RC (R542). -/
def BC_CRCERR_VAL : Fld := ⟨481, 0, 32, .rc, 0, false, false, []⟩
/-- BC_REPEAT.VAL [31:0] RC (R542). -/
def BC_REPEAT_VAL : Fld := ⟨482, 0, 32, .rc, 0, false, false, []⟩
/-- BC_BADFRM.VAL [31:0] RC (R542). -/
def BC_BADFRM_VAL : Fld := ⟨483, 0, 32, .rc, 0, false, false, []⟩
/-- BC_PFWCNT.VAL [31:0] RC (R542). -/
def BC_PFWCNT_VAL : Fld := ⟨484, 0, 32, .rc, 0, false, false, []⟩
/-- BC_LINKDN.VAL [31:0] RC (R542). -/
def BC_LINKDN_VAL : Fld := ⟨485, 0, 32, .rc, 0, false, false, []⟩
end F

namespace R
/-- ID_PART (R599). -/
def ID_PART : Reg := ⟨0x0, 0x4, 1, [F.ID_PART_PART, F.ID_PART_REVMAJ, F.ID_PART_REVMIN]⟩
/-- ID_VARIANT (R599). -/
def ID_VARIANT : Reg := ⟨0x4, 0x4, 1, [F.ID_VARIANT_COOL]⟩
/-- ID_SERIAL_LO (R599). -/
def ID_SERIAL_LO : Reg := ⟨0x8, 0x4, 1, [F.ID_SERIAL_LO_VAL]⟩
/-- ID_SERIAL_HI (R599). -/
def ID_SERIAL_HI : Reg := ⟨0xc, 0x4, 1, [F.ID_SERIAL_HI_VAL]⟩
/-- WIN_ADDR_LO (R599). -/
def WIN_ADDR_LO : Reg := ⟨0x100, 0x4, 1, [F.WIN_ADDR_LO_VAL]⟩
/-- WIN_ADDR_HI (R599). -/
def WIN_ADDR_HI : Reg := ⟨0x104, 0x4, 1, [F.WIN_ADDR_HI_ADDR, F.WIN_ADDR_HI_SPACE]⟩
/-- WIN_CTRL (R599). -/
def WIN_CTRL : Reg := ⟨0x108, 0x4, 1, [F.WIN_CTRL_SIZE, F.WIN_CTRL_INC, F.WIN_CTRL_DIR, F.WIN_CTRL_WAKE, F.WIN_CTRL_START, F.WIN_CTRL_ABORT, F.WIN_CTRL_BUSY, F.WIN_CTRL_BURST, F.WIN_CTRL_ERRBEAT, F.WIN_CTRL_STATUS]⟩
/-- WIN_DATA (R599). -/
def WIN_DATA : Reg := ⟨0x10c, 0x4, 1, [F.WIN_DATA_VAL]⟩
/-- ID_MGCTRL (R599). -/
def ID_MGCTRL : Reg := ⟨0x200, 0x4, 1, [F.ID_MGCTRL_CCIMB, F.ID_MGCTRL_CCIMCTP]⟩
/-- ID_BOOTSTAT (R577). -/
def ID_BOOTSTAT : Reg := ⟨0x1000, 0x4, 1, [F.ID_BOOTSTAT_PHASE, F.ID_BOOTSTAT_ACTSLOT, F.ID_BOOTSTAT_TRIAL, F.ID_BOOTSTAT_FALLBACK, F.ID_BOOTSTAT_HOLDWHY, F.ID_BOOTSTAT_STARTMS]⟩
/-- ID_SLOTSTAT (R577). -/
def ID_SLOTSTAT : Reg := ⟨0x1004, 0x4, 1, [F.ID_SLOTSTAT_STATEA, F.ID_SLOTSTAT_WHYA, F.ID_SLOTSTAT_STATEB, F.ID_SLOTSTAT_WHYB]⟩
/-- ID_FWVER (R577). -/
def ID_FWVER : Reg := ⟨0x1008, 0x4, 1, [F.ID_FWVER_VAL]⟩
/-- ID_SVN (R577). -/
def ID_SVN : Reg := ⟨0x100c, 0x4, 1, [F.ID_SVN_FWSVN, F.ID_SVN_CFGSVN, F.ID_SVN_FWFUSE, F.ID_SVN_CFGFUSE]⟩
/-- ID_LDCMD (R577). -/
def ID_LDCMD : Reg := ⟨0x1010, 0x4, 1, [F.ID_LDCMD_OP, F.ID_LDCMD_SLOT, F.ID_LDCMD_GO]⟩
/-- ID_LDOFF (R577). -/
def ID_LDOFF : Reg := ⟨0x1014, 0x4, 1, [F.ID_LDOFF_VAL]⟩
/-- ID_LDLEN (R577). -/
def ID_LDLEN : Reg := ⟨0x1018, 0x4, 1, [F.ID_LDLEN_VAL]⟩
/-- ID_LDSTAT (R577). -/
def ID_LDSTAT : Reg := ⟨0x101c, 0x4, 1, [F.ID_LDSTAT_BUSY, F.ID_LDSTAT_PFWWAIT, F.ID_LDSTAT_RESULT]⟩
/-- ID_PLOGCNT (R577). -/
def ID_PLOGCNT : Reg := ⟨0x1020, 0x4, 1, [F.ID_PLOGCNT_VAL]⟩
/-- ID_PLOGLOST (R577). -/
def ID_PLOGLOST : Reg := ⟨0x1024, 0x4, 1, [F.ID_PLOGLOST_VAL]⟩
/-- CK_PWRCFG (R502). -/
def CK_PWRCFG : Reg := ⟨0x100000, 0x4, 1, [F.CK_PWRCFG_SBEN, F.CK_PWRCFG_SBIDLE]⟩
/-- CK_PWRCMD (R502). -/
def CK_PWRCMD : Reg := ⟨0x100004, 0x4, 1, [F.CK_PWRCMD_WAKE]⟩
/-- CK_PWRSTAT (R502). -/
def CK_PWRSTAT : Reg := ⟨0x100008, 0x4, 1, [F.CK_PWRSTAT_STATE, F.CK_PWRSTAT_WAKEWHY, F.CK_PWRSTAT_WAKEUS]⟩
/-- CK_RSTCMD (R502). -/
def CK_RSTCMD : Reg := ⟨0x10000c, 0x4, 1, [F.CK_RSTCMD_SCOPE, F.CK_RSTCMD_INST, F.CK_RSTCMD_GO]⟩
/-- CK_RSTSTAT (R502). -/
def CK_RSTSTAT : Reg := ⟨0x100010, 0x4, 1, [F.CK_RSTSTAT_BUSY, F.CK_RSTSTAT_RESULT, F.CK_RSTSTAT_MCAUSE, F.CK_RSTSTAT_FCAUSE, F.CK_RSTSTAT_FCNT]⟩
/-- CK_WAKECNT (R502). -/
def CK_WAKECNT : Reg := ⟨0x100020, 0x4, 1, [F.CK_WAKECNT_VAL]⟩
/-- CK_DTMOCNT (R502). -/
def CK_DTMOCNT : Reg := ⟨0x100024, 0x4, 1, [F.CK_DTMOCNT_VAL]⟩
/-- CK_ASLEEPCNT (R502). -/
def CK_ASLEEPCNT : Reg := ⟨0x100028, 0x4, 1, [F.CK_ASLEEPCNT_VAL]⟩
/-- CK_RABORTCNT (R502). -/
def CK_RABORTCNT : Reg := ⟨0x10002c, 0x4, 1, [F.CK_RABORTCNT_VAL]⟩
/-- CK_LATE (R502). -/
def CK_LATE : Reg := ⟨0x100030, 0x4, 1, [F.CK_LATE_VAL]⟩
/-- CK_LTIME_LO (R502). -/
def CK_LTIME_LO : Reg := ⟨0x100040, 0x4, 1, [F.CK_LTIME_LO_VAL]⟩
/-- CK_LTIME_HI (R502). -/
def CK_LTIME_HI : Reg := ⟨0x100044, 0x4, 1, [F.CK_LTIME_HI_VAL]⟩
/-- CK_DOMSTAT (R502). -/
def CK_DOMSTAT : Reg := ⟨0x100100, 0x4, 38, [F.CK_DOMSTAT_STATE, F.CK_DOMSTAT_RST, F.CK_DOMSTAT_NOTICE, F.CK_DOMSTAT_FREQ]⟩
/-- CK_THCFG (R638). -/
def CK_THCFG : Reg := ⟨0x100200, 0x4, 1, [F.CK_THCFG_TFPWARN, F.CK_THCFG_TFPCRIT, F.CK_THCFG_DIMMWARN, F.CK_THCFG_DIMMCRIT]⟩
/-- CK_TSEN (R638). -/
def CK_TSEN : Reg := ⟨0x100300, 0x4, 31, [F.CK_TSEN_TEMP, F.CK_TSEN_VALID, F.CK_TSEN_WARN, F.CK_TSEN_CRIT]⟩
/-- FC_CTRL (R477). -/
def FC_CTRL : Reg := ⟨0x200000, 0x4, 1, [F.FC_CTRL_LOGMIN, F.FC_CTRL_FEMIN, F.FC_CTRL_LOGWRAP, F.FC_CTRL_PERSMIN]⟩
/-- FC_ALM_CTRL (R477). -/
def FC_ALM_CTRL : Reg := ⟨0x200004, 0x4, 1, [F.FC_ALM_CTRL_MINWIDTH, F.FC_ALM_CTRL_ALMMIN, F.FC_ALM_CTRL_SWLVL, F.FC_ALM_CTRL_ARM, F.FC_ALM_CTRL_ARMED, F.FC_ALM_CTRL_PULSE, F.FC_ALM_CTRL_ALM]⟩
/-- FC_STAT (R477). -/
def FC_STAT : Reg := ⟨0x200008, 0x4, 1, [F.FC_STAT_LOSTHI, F.FC_STAT_LOGFULL]⟩
/-- FC_CNT (R477). -/
def FC_CNT : Reg := ⟨0x200010, 0x4, 5, [F.FC_CNT_VAL]⟩
/-- FC_DROP (R477). -/
def FC_DROP : Reg := ⟨0x200024, 0x4, 1, [F.FC_DROP_VAL]⟩
/-- FC_LOGLOST (R477). -/
def FC_LOGLOST : Reg := ⟨0x200028, 0x4, 1, [F.FC_LOGLOST_VAL]⟩
/-- FC_ALMSUP (R477). -/
def FC_ALMSUP : Reg := ⟨0x20002c, 0x4, 1, [F.FC_ALMSUP_VAL]⟩
/-- FC_REMCNT (R477). -/
def FC_REMCNT : Reg := ⟨0x200030, 0x4, 1, [F.FC_REMCNT_VAL]⟩
/-- FC_LOGWR (R477). -/
def FC_LOGWR : Reg := ⟨0x200040, 0x4, 1, [F.FC_LOGWR_VAL]⟩
/-- FC_LOGRD (R477). -/
def FC_LOGRD : Reg := ⟨0x200044, 0x4, 1, [F.FC_LOGRD_VAL]⟩
/-- FC_FE (R477). -/
def FC_FE : Reg := ⟨0x200100, 0x4, 8, [F.FC_FE_VAL]⟩
/-- FC_FESTAT (R477). -/
def FC_FESTAT : Reg := ⟨0x200120, 0x4, 1, [F.FC_FESTAT_VALID]⟩
/-- FC_DSEL (R477). -/
def FC_DSEL : Reg := ⟨0x200200, 0x4, 1, [F.FC_DSEL_VAL]⟩
/-- FC_DSTAT (R477). -/
def FC_DSTAT : Reg := ⟨0x200204, 0x4, 1, [F.FC_DSTAT_STATE, F.FC_DSTAT_APPLIED, F.FC_DSTAT_FEV, F.FC_DSTAT_RCNT, F.FC_DSTAT_WCNT]⟩
/-- FC_DCMD (R477). -/
def FC_DCMD : Reg := ⟨0x200208, 0x4, 1, [F.FC_DCMD_RELEASE, F.FC_DCMD_REARM, F.FC_DCMD_CLRCNT]⟩
/-- FC_DCFG (R477). -/
def FC_DCFG : Reg := ⟨0x200300, 0x4, 7, [F.FC_DCFG_REACT2, F.FC_DCFG_REACT3, F.FC_DCFG_REACT4, F.FC_DCFG_QUIET, F.FC_DCFG_LIMIT, F.FC_DCFG_WINDOW]⟩
/-- SP_CECNT (R601). -/
def SP_CECNT : Reg := ⟨0x300010, 0x4, 1, [F.SP_CECNT_VAL]⟩
/-- SP_UECNT (R601). -/
def SP_UECNT : Reg := ⟨0x300014, 0x4, 1, [F.SP_UECNT_VAL]⟩
/-- SP_CONF (R601). -/
def SP_CONF : Reg := ⟨0x300100, 0x4, 6, [F.SP_CONF_VAL]⟩
/-- SP_DENY (R601). -/
def SP_DENY : Reg := ⟨0x300200, 0x4, 6, [F.SP_DENY_VAL]⟩
/-- SP_RGN (R601). -/
def SP_RGN : Reg := ⟨0x301000, 0x4, 240, [F.SP_RGN_BASE, F.SP_RGN_LIMIT, F.SP_RGN_R, F.SP_RGN_W]⟩
/-- FP_PCFG (R402). -/
def FP_PCFG : Reg := ⟨0x400000, 0x1000, 72, [F.FP_PCFG_ROLE, F.FP_PCFG_MAXRATE, F.FP_PCFG_FLITEN, F.FP_PCFG_CXL68EN, F.FP_PCFG_NFLITEN, F.FP_PCFG_SRIS, F.FP_PCFG_IDEREQ, F.FP_PCFG_CMODE, F.FP_PCFG_GRACE]⟩
/-- FP_PCTRL (R402). -/
def FP_PCTRL : Reg := ⟨0x400004, 0x1000, 72, [F.FP_PCTRL_RETRAIN, F.FP_PCTRL_RESETFB, F.FP_PCTRL_DISABLE, F.FP_PCTRL_TESTMODE]⟩
/-- FP_LSTAT (R402). -/
def FP_LSTAT : Reg := ⟨0x400008, 0x1000, 72, [F.FP_LSTAT_UP, F.FP_LSTAT_RATE, F.FP_LSTAT_WIDTH, F.FP_LSTAT_MODE, F.FP_LSTAT_CXL, F.FP_LSTAT_PRSNT, F.FP_LSTAT_PERST, F.FP_LSTAT_FBRATE, F.FP_LSTAT_DOWNWHY]⟩
/-- FP_PMCFG (R402). -/
def FP_PMCFG : Reg := ⟨0x40000c, 0x1000, 72, [F.FP_PMCFG_L0SEN, F.FP_PMCFG_L0PEN, F.FP_PMCFG_L1EN, F.FP_PMCFG_STRICTPM, F.FP_PMCFG_L0SIDLE, F.FP_PMCFG_L0PLOW]⟩
/-- FP_PMSTAT (R402). -/
def FP_PMSTAT : Reg := ⟨0x400010, 0x1000, 72, [F.FP_PMSTAT_TXPS, F.FP_PMSTAT_RXPS, F.FP_PMSTAT_L0PW]⟩
/-- FP_TRNCNT (R402). -/
def FP_TRNCNT : Reg := ⟨0x400014, 0x1000, 72, [F.FP_TRNCNT_VAL]⟩
/-- FP_DOWNCNT (R402). -/
def FP_DOWNCNT : Reg := ⟨0x400018, 0x1000, 72, [F.FP_DOWNCNT_VAL]⟩
/-- FP_CRCERR (R402). -/
def FP_CRCERR : Reg := ⟨0x40001c, 0x1000, 72, [F.FP_CRCERR_VAL]⟩
/-- FP_FECCORR (R402). -/
def FP_FECCORR : Reg := ⟨0x400020, 0x1000, 72, [F.FP_FECCORR_VAL]⟩
/-- FP_IDEFAIL (R402). -/
def FP_IDEFAIL : Reg := ⟨0x400024, 0x1000, 72, [F.FP_IDEFAIL_VAL]⟩
/-- FP_OCTCFG (R402). -/
def FP_OCTCFG : Reg := ⟨0x4f0000, 0x4, 18, [F.FP_OCTCFG_OCTMODE, F.FP_OCTCFG_FAILED]⟩
/-- LT_CTRL (R407). -/
def LT_CTRL : Reg := ⟨0x500000, 0x100, 144, [F.LT_CTRL_EN, F.LT_CTRL_PAT, F.LT_CTRL_RATE, F.LT_CTRL_LOOP, F.LT_CTRL_GENEN, F.LT_CTRL_CHKEN]⟩
/-- LT_INJ (R407). -/
def LT_INJ : Reg := ⟨0x500004, 0x100, 144, [F.LT_INJ_ONE, F.LT_INJ_EXP]⟩
/-- LT_UPAT_LO (R407). -/
def LT_UPAT_LO : Reg := ⟨0x500008, 0x100, 144, [F.LT_UPAT_LO_VAL]⟩
/-- LT_UPAT_HI (R407). -/
def LT_UPAT_HI : Reg := ⟨0x50000c, 0x100, 144, [F.LT_UPAT_HI_VAL]⟩
/-- LT_STAT (R407). -/
def LT_STAT : Reg := ⟨0x500010, 0x100, 144, [F.LT_STAT_LOCK, F.LT_STAT_LOSTLOCK, F.LT_STAT_CFGERR, F.LT_STAT_SAT]⟩
/-- LT_ERRCNT (R407). -/
def LT_ERRCNT : Reg := ⟨0x500014, 0x100, 144, [F.LT_ERRCNT_VAL]⟩
/-- LT_BITCNT_LO (R407). -/
def LT_BITCNT_LO : Reg := ⟨0x500018, 0x100, 144, [F.LT_BITCNT_LO_VAL]⟩
/-- LT_BITCNT_HI (R407). -/
def LT_BITCNT_HI : Reg := ⟨0x50001c, 0x100, 144, [F.LT_BITCNT_HI_VAL]⟩
/-- LT_INJCNT (R407). -/
def LT_INJCNT : Reg := ⟨0x500020, 0x100, 144, [F.LT_INJCNT_VAL]⟩
/-- SL_STACK (R444). -/
def SL_STACK : Reg := ⟨0x600000, 0x4, 1, [F.SL_STACK_SID, F.SL_STACK_OVR, F.SL_STACK_NMOD]⟩
/-- SL_STKSTAT (R444). -/
def SL_STKSTAT : Reg := ⟨0x600004, 0x4, 1, [F.SL_STKSTAT_SID, F.SL_STKSTAT_MASTER, F.SL_STKSTAT_TSYNC, F.SL_STKSTAT_SIDERR, F.SL_STKSTAT_ALIVE, F.SL_STKSTAT_INC]⟩
/-- SL_TCFG (R444). -/
def SL_TCFG : Reg := ⟨0x600008, 0x4, 1, [F.SL_TCFG_RTMO]⟩
/-- SL_PLANDIG_LO (R444). -/
def SL_PLANDIG_LO : Reg := ⟨0x600010, 0x4, 1, [F.SL_PLANDIG_LO_VAL]⟩
/-- SL_PLANDIG_HI (R444). -/
def SL_PLANDIG_HI : Reg := ⟨0x600014, 0x4, 1, [F.SL_PLANDIG_HI_VAL]⟩
/-- SL_TIME_LO (R444). -/
def SL_TIME_LO : Reg := ⟨0x600018, 0x4, 1, [F.SL_TIME_LO_VAL]⟩
/-- SL_TIME_HI (R444). -/
def SL_TIME_HI : Reg := ⟨0x60001c, 0x4, 1, [F.SL_TIME_HI_VAL]⟩
/-- SL_DUP (R444). -/
def SL_DUP : Reg := ⟨0x600020, 0x4, 1, [F.SL_DUP_VAL]⟩
/-- SL_OOW (R444). -/
def SL_OOW : Reg := ⟨0x600024, 0x4, 1, [F.SL_OOW_VAL]⟩
/-- SL_HOPDROP (R444). -/
def SL_HOPDROP : Reg := ⟨0x600028, 0x4, 1, [F.SL_HOPDROP_VAL]⟩
/-- SL_REPLAY (R444). -/
def SL_REPLAY : Reg := ⟨0x60002c, 0x4, 1, [F.SL_REPLAY_VAL]⟩
/-- SL_ECRCERR (R444). -/
def SL_ECRCERR : Reg := ⟨0x600030, 0x4, 1, [F.SL_ECRCERR_VAL]⟩
/-- SL_BADTYPE (R444). -/
def SL_BADTYPE : Reg := ⟨0x600034, 0x4, 1, [F.SL_BADTYPE_VAL]⟩
/-- SL_TSTEP (R444). -/
def SL_TSTEP : Reg := ⟨0x600038, 0x4, 1, [F.SL_TSTEP_VAL]⟩
/-- SL_PEERSTAT (R444). -/
def SL_PEERSTAT : Reg := ⟨0x600100, 0x4, 8, [F.SL_PEERSTAT_STATE, F.SL_PEERSTAT_ONALT, F.SL_PEERSTAT_INC]⟩
/-- SL_PCFG (R444). -/
def SL_PCFG : Reg := ⟨0x601000, 0x100, 4, [F.SL_PCFG_EN, F.SL_PCFG_S1EN, F.SL_PCFG_S2EN, F.SL_PCFG_RETRAIN, F.SL_PCFG_S1IDLE, F.SL_PCFG_S2IDLE]⟩
/-- SL_PSTAT (R444). -/
def SL_PSTAT : Reg := ⟨0x601004, 0x100, 4, [F.SL_PSTAT_STATE, F.SL_PSTAT_PEER, F.SL_PSTAT_TXPS, F.SL_PSTAT_RXPS, F.SL_PSTAT_TIMEDN, F.SL_PSTAT_DOWNWHY]⟩
/-- SL_CRCERR (R444). -/
def SL_CRCERR : Reg := ⟨0x601008, 0x100, 4, [F.SL_CRCERR_VAL]⟩
/-- SL_LRETRY (R444). -/
def SL_LRETRY : Reg := ⟨0x60100c, 0x100, 4, [F.SL_LRETRY_VAL]⟩
/-- SL_PDELAY (R444). -/
def SL_PDELAY : Reg := ⟨0x601010, 0x100, 4, [F.SL_PDELAY_VAL]⟩
/-- SW_CTRL (R224). -/
def SW_CTRL : Reg := ⟨0x700000, 0x4, 1, [F.SW_CTRL_SPEN, F.SW_CTRL_HALT, F.SW_CTRL_ITERS]⟩
/-- SW_BUFCFG (R224). -/
def SW_BUFCFG : Reg := ⟨0x700004, 0x4, 1, [F.SW_BUFCFG_SRESV, F.SW_BUFCFG_LOWFREE]⟩
/-- SW_SPILLCFG (R224). -/
def SW_SPILLCFG : Reg := ⟨0x700008, 0x4, 1, [F.SW_SPILLCFG_QHI, F.SW_SPILLCFG_QMIN, F.SW_SPILLCFG_PCT]⟩
/-- SW_SPILLFIRST (R224). -/
def SW_SPILLFIRST : Reg := ⟨0x70000c, 0x4, 1, [F.SW_SPILLFIRST_VAL]⟩
/-- SW_SPILLCNT (R224). -/
def SW_SPILLCNT : Reg := ⟨0x700010, 0x4, 1, [F.SW_SPILLCNT_VAL]⟩
/-- SW_AGE (R224). -/
def SW_AGE : Reg := ⟨0x700014, 0x4, 1, [F.SW_AGE_STRICT, F.SW_AGE_WEIGHTED]⟩
/-- SW_RTCMD (R224). -/
def SW_RTCMD : Reg := ⟨0x700020, 0x4, 1, [F.SW_RTCMD_RIDX, F.SW_RTCMD_OP, F.SW_RTCMD_GO]⟩
/-- SW_RTSTAT (R224). -/
def SW_RTSTAT : Reg := ⟨0x700024, 0x4, 1, [F.SW_RTSTAT_BUSY, F.SW_RTSTAT_RESULT]⟩
/-- SW_RTDATA_LO (R224). -/
def SW_RTDATA_LO : Reg := ⟨0x700028, 0x4, 1, [F.SW_RTDATA_LO_VAL]⟩
/-- SW_RTDATA_HI (R224). -/
def SW_RTDATA_HI : Reg := ⟨0x70002c, 0x4, 1, [F.SW_RTDATA_HI_VAL]⟩
/-- SW_AUDCTRL (R224). -/
def SW_AUDCTRL : Reg := ⟨0x700030, 0x4, 1, [F.SW_AUDCTRL_GO]⟩
/-- SW_AUDSTAT (R224). -/
def SW_AUDSTAT : Reg := ⟨0x700034, 0x4, 1, [F.SW_AUDSTAT_BUSY, F.SW_AUDSTAT_RESULT]⟩
/-- SW_FREE (R224). -/
def SW_FREE : Reg := ⟨0x700040, 0x4, 1, [F.SW_FREE_VAL]⟩
/-- SW_SPILLPG (R224). -/
def SW_SPILLPG : Reg := ⟨0x700044, 0x4, 1, [F.SW_SPILLPG_VAL]⟩
/-- SW_AGEDROP (R224). -/
def SW_AGEDROP : Reg := ⟨0x700050, 0x4, 1, [F.SW_AGEDROP_VAL]⟩
/-- SW_REVDROP (R224). -/
def SW_REVDROP : Reg := ⟨0x700054, 0x4, 1, [F.SW_REVDROP_VAL]⟩
/-- SW_BADDROP (R224). -/
def SW_BADDROP : Reg := ⟨0x700058, 0x4, 1, [F.SW_BADDROP_VAL]⟩
/-- SW_NULLIFY (R224). -/
def SW_NULLIFY : Reg := ⟨0x70005c, 0x4, 1, [F.SW_NULLIFY_VAL]⟩
/-- SW_CREDHOLD (R224). -/
def SW_CREDHOLD : Reg := ⟨0x700060, 0x4, 1, [F.SW_CREDHOLD_VAL]⟩
/-- SW_SPILLFULL (R224). -/
def SW_SPILLFULL : Reg := ⟨0x700064, 0x4, 1, [F.SW_SPILLFULL_VAL]⟩
/-- SW_LATE (R224). -/
def SW_LATE : Reg := ⟨0x700068, 0x4, 1, [F.SW_LATE_VAL]⟩
/-- SW_AUDLEAK (R224). -/
def SW_AUDLEAK : Reg := ⟨0x70006c, 0x4, 1, [F.SW_AUDLEAK_VAL]⟩
/-- SW_AUDDUP (R224). -/
def SW_AUDDUP : Reg := ⟨0x700070, 0x4, 1, [F.SW_AUDDUP_VAL]⟩
/-- SW_MCDROP (R224). -/
def SW_MCDROP : Reg := ⟨0x700100, 0x4, 72, [F.SW_MCDROP_VAL]⟩
/-- SW_QSTAT (R224). -/
def SW_QSTAT : Reg := ⟨0x701000, 0x4, 1536, [F.SW_QSTAT_ONCHIP, F.SW_QSTAT_SPILLING, F.SW_QSTAT_DOMENE]⟩
/-- TS_CTRL (R255). -/
def TS_CTRL : Reg := ⟨0x800000, 0x4, 1, [F.TS_CTRL_PERIOD, F.TS_CTRL_SAMPEN, F.TS_CTRL_FREEZE, F.TS_CTRL_PACEEN, F.TS_CTRL_PQMAX]⟩
/-- TS_INTQ (R255). -/
def TS_INTQ : Reg := ⟨0x800004, 0x4, 1, [F.TS_INTQ_COH, F.TS_INTQ_TUR]⟩
/-- TS_PACEHOLD (R255). -/
def TS_PACEHOLD : Reg := ⟨0x800010, 0x4, 1, [F.TS_PACEHOLD_VAL]⟩
/-- TS_WHEELOVF (R255). -/
def TS_WHEELOVF : Reg := ⟨0x800014, 0x4, 1, [F.TS_WHEELOVF_VAL]⟩
/-- TS_PACELATE (R255). -/
def TS_PACELATE : Reg := ⟨0x800018, 0x4, 1, [F.TS_PACELATE_VAL]⟩
/-- TS_PORTRATE (R255). -/
def TS_PORTRATE : Reg := ⟨0x801000, 0x20, 96, [F.TS_PORTRATE_VAL]⟩
/-- TS_PORTCFG (R255). -/
def TS_PORTCFG : Reg := ⟨0x801004, 0x20, 96, [F.TS_PORTCFG_SBUDGET, F.TS_PORTCFG_SBURST]⟩
/-- TS_PORTSTAT (R255). -/
def TS_PORTSTAT : Reg := ⟨0x801008, 0x20, 96, [F.TS_PORTSTAT_BOUNDOK, F.TS_PORTSTAT_UNSHAPED, F.TS_PORTSTAT_DMAX]⟩
/-- TS_SOVER (R255). -/
def TS_SOVER : Reg := ⟨0x80100c, 0x20, 96, [F.TS_SOVER_VAL]⟩
/-- TS_TCMAP (R255). -/
def TS_TCMAP : Reg := ⟨0x801010, 0x20, 96, [F.TS_TCMAP_TC0, F.TS_TCMAP_TC1, F.TS_TCMAP_TC2, F.TS_TCMAP_TC3, F.TS_TCMAP_TC4, F.TS_TCMAP_TC5, F.TS_TCMAP_TC6, F.TS_TCMAP_TC7]⟩
/-- TS_PACE (R255). -/
def TS_PACE : Reg := ⟨0x810000, 0x4, 8192, [F.TS_PACE_RATE, F.TS_PACE_TQ]⟩
/-- TS_SHCFG (R255). -/
def TS_SHCFG : Reg := ⟨0x820000, 0x10, 1536, [F.TS_SHCFG_ISLOPE, F.TS_SHCFG_QUANT]⟩
/-- TS_SHLIM (R255). -/
def TS_SHLIM : Reg := ⟨0x820004, 0x10, 1536, [F.TS_SHLIM_CAP, F.TS_SHLIM_FLOOR]⟩
/-- TS_SHCRED (R255). -/
def TS_SHCRED : Reg := ⟨0x820008, 0x10, 1536, [F.TS_SHCRED_VAL]⟩
/-- TS_DEFICIT (R255). -/
def TS_DEFICIT : Reg := ⟨0x82000c, 0x10, 1536, [F.TS_DEFICIT_VAL]⟩
/-- TS_QMAX (R255). -/
def TS_QMAX : Reg := ⟨0x830000, 0x8, 1536, [F.TS_QMAX_VAL]⟩
/-- TS_DMAX (R255). -/
def TS_DMAX : Reg := ⟨0x830004, 0x8, 1536, [F.TS_DMAX_VAL]⟩
/-- TS_HIST (R255). -/
def TS_HIST : Reg := ⟨0x840000, 0x4, 24576, [F.TS_HIST_VAL]⟩
/-- BD_CTRL (R70). -/
def BD_CTRL : Reg := ⟨0x900000, 0x4, 1, [F.BD_CTRL_ADDTMO, F.BD_CTRL_DRNTMO]⟩
/-- BD_ALLOC (R70). -/
def BD_ALLOC : Reg := ⟨0x900004, 0x4, 1, [F.BD_ALLOC_HOME, F.BD_ALLOC_GROUP]⟩
/-- BD_TTCMD (R70). -/
def BD_TTCMD : Reg := ⟨0x900010, 0x4, 1, [F.BD_TTCMD_TID, F.BD_TTCMD_OP, F.BD_TTCMD_GO]⟩
/-- BD_TTSTAT (R70). -/
def BD_TTSTAT : Reg := ⟨0x900014, 0x4, 1, [F.BD_TTSTAT_BUSY, F.BD_TTSTAT_RESULT, F.BD_TTSTAT_STATE]⟩
/-- BD_TTDATA0 (R70). -/
def BD_TTDATA0 : Reg := ⟨0x900020, 0x4, 1, [F.BD_TTDATA0_VAL]⟩
/-- BD_TTDATA1 (R70). -/
def BD_TTDATA1 : Reg := ⟨0x900024, 0x4, 1, [F.BD_TTDATA1_VAL]⟩
/-- BD_TTDATA2 (R70). -/
def BD_TTDATA2 : Reg := ⟨0x900028, 0x4, 1, [F.BD_TTDATA2_VAL]⟩
/-- BD_TTDATA3 (R70). -/
def BD_TTDATA3 : Reg := ⟨0x90002c, 0x4, 1, [F.BD_TTDATA3_VAL]⟩
/-- BD_XCMISS (R70). -/
def BD_XCMISS : Reg := ⟨0x900040, 0x4, 1, [F.BD_XCMISS_VAL]⟩
/-- BD_LATE (R70). -/
def BD_LATE : Reg := ⟨0x900044, 0x4, 1, [F.BD_LATE_VAL]⟩
/-- BD_STOPREJ (R70). -/
def BD_STOPREJ : Reg := ⟨0x900048, 0x4, 1, [F.BD_STOPREJ_VAL]⟩
/-- BD_TDRAIN (R70). -/
def BD_TDRAIN : Reg := ⟨0x910000, 0x4, 8192, [F.BD_TDRAIN_OUT, F.BD_TDRAIN_LOSS, F.BD_TDRAIN_VIS, F.BD_TDRAIN_ARM]⟩
/-- AG_SYSSET (R362). -/
def AG_SYSSET : Reg := ⟨0xa00000, 0x4, 1, [F.AG_SYSSET_BASE, F.AG_SYSSET_CNT]⟩
/-- AG_SYSDEF (R362). -/
def AG_SYSDEF : Reg := ⟨0xa00004, 0x4, 1, [F.AG_SYSDEF_R, F.AG_SYSDEF_W, F.AG_SYSDEF_X]⟩
/-- AG_RDCMD (R362). -/
def AG_RDCMD : Reg := ⟨0xa00010, 0x4, 1, [F.AG_RDCMD_IDX, F.AG_RDCMD_OP, F.AG_RDCMD_GO]⟩
/-- AG_RDSTAT (R362). -/
def AG_RDSTAT : Reg := ⟨0xa00014, 0x4, 1, [F.AG_RDSTAT_BUSY, F.AG_RDSTAT_RESULT]⟩
/-- AG_RDDATA0 (R362). -/
def AG_RDDATA0 : Reg := ⟨0xa00020, 0x4, 1, [F.AG_RDDATA0_VAL]⟩
/-- AG_RDDATA1 (R362). -/
def AG_RDDATA1 : Reg := ⟨0xa00024, 0x4, 1, [F.AG_RDDATA1_VAL]⟩
/-- AG_RDDATA2 (R362). -/
def AG_RDDATA2 : Reg := ⟨0xa00028, 0x4, 1, [F.AG_RDDATA2_VAL]⟩
/-- AG_RDDATA3 (R362). -/
def AG_RDDATA3 : Reg := ⟨0xa0002c, 0x4, 1, [F.AG_RDDATA3_VAL]⟩
/-- AG_VADDR_LO (R362). -/
def AG_VADDR_LO : Reg := ⟨0xa00040, 0x4, 1, [F.AG_VADDR_LO_VAL]⟩
/-- AG_VADDR_HI (R362). -/
def AG_VADDR_HI : Reg := ⟨0xa00044, 0x4, 1, [F.AG_VADDR_HI_VAL]⟩
/-- AG_VINFO (R362). -/
def AG_VINFO : Reg := ⟨0xa00048, 0x4, 1, [F.AG_VINFO_MASTER, F.AG_VINFO_KIND, F.AG_VINFO_VALID]⟩
/-- AG_VREGION (R362). -/
def AG_VREGION : Reg := ⟨0xa0004c, 0x4, 1, [F.AG_VREGION_VAL]⟩
/-- AG_VCNT (R362). -/
def AG_VCNT : Reg := ⟨0xa00050, 0x4, 1, [F.AG_VCNT_VAL]⟩
/-- AG_DBGDENY (R362). -/
def AG_DBGDENY : Reg := ⟨0xa00054, 0x4, 1, [F.AG_DBGDENY_VAL]⟩
/-- AG_TDEF (R362). -/
def AG_TDEF : Reg := ⟨0xa10000, 0x4, 8192, [F.AG_TDEF_R, F.AG_TDEF_W, F.AG_TDEF_X]⟩
/-- HD_CTRL (R131). -/
def HD_CTRL : Reg := ⟨0xb00000, 0x4, 1, [F.HD_CTRL_TENURE, F.HD_CTRL_EGRANT, F.HD_CTRL_BITMO]⟩
/-- HD_STALE (R131). -/
def HD_STALE : Reg := ⟨0xb00010, 0x4, 1, [F.HD_STALE_VAL]⟩
/-- HD_RETRYSENT (R131). -/
def HD_RETRYSENT : Reg := ⟨0xb00014, 0x4, 1, [F.HD_RETRYSENT_VAL]⟩
/-- HD_CREDHOLD (R131). -/
def HD_CREDHOLD : Reg := ⟨0xb00018, 0x4, 1, [F.HD_CREDHOLD_VAL]⟩
/-- HD_EVICT (R131). -/
def HD_EVICT : Reg := ⟨0xb0001c, 0x4, 1, [F.HD_EVICT_VAL]⟩
/-- HD_LATE (R131). -/
def HD_LATE : Reg := ⟨0xb00020, 0x4, 1, [F.HD_LATE_VAL]⟩
/-- HD_RCLSTAT (R171). -/
def HD_RCLSTAT : Reg := ⟨0xb00024, 0x4, 1, [F.HD_RCLSTAT_BUSY, F.HD_RCLSTAT_PEND, F.HD_RCLSTAT_SET]⟩
/-- HD_RBCTRL (R171). -/
def HD_RBCTRL : Reg := ⟨0xb00028, 0x4, 1, [F.HD_RBCTRL_BW, F.HD_RBCTRL_LSLICE, F.HD_RBCTRL_GO]⟩
/-- HD_RBSTAT (R171). -/
def HD_RBSTAT : Reg := ⟨0xb0002c, 0x4, 1, [F.HD_RBSTAT_BUSY, F.HD_RBSTAT_LSLICE, F.HD_RBSTAT_DOUBLE, F.HD_RBSTAT_EXT]⟩
/-- HD_RBPOIS (R171). -/
def HD_RBPOIS : Reg := ⟨0xb00030, 0x4, 1, [F.HD_RBPOIS_VAL]⟩
/-- HD_SLSTAT (R131). -/
def HD_SLSTAT : Reg := ⟨0xb00100, 0x4, 17, [F.HD_SLSTAT_LSLICE, F.HD_SLSTAT_ROLE, F.HD_SLSTAT_RQDEPTH, F.HD_SLSTAT_OPEN]⟩
/-- HD_DEAD (R171). -/
def HD_DEAD : Reg := ⟨0xb00200, 0x4, 32, [F.HD_DEAD_VAL]⟩
/-- HD_POISCNT (R171). -/
def HD_POISCNT : Reg := ⟨0xb01000, 0x4, 1024, [F.HD_POISCNT_VAL]⟩
/-- CU_CTRL (R131). -/
def CU_CTRL : Reg := ⟨0xb80000, 0x4, 1, [F.CU_CTRL_RETRYBO, F.CU_CTRL_STARVN]⟩
/-- CU_HIT (R131). -/
def CU_HIT : Reg := ⟨0xb80010, 0x4, 1, [F.CU_HIT_VAL]⟩
/-- CU_MISS (R131). -/
def CU_MISS : Reg := ⟨0xb80014, 0x4, 1, [F.CU_MISS_VAL]⟩
/-- CU_PARK (R131). -/
def CU_PARK : Reg := ⟨0xb80018, 0x4, 1, [F.CU_PARK_VAL]⟩
/-- CU_RETRYRX (R131). -/
def CU_RETRYRX : Reg := ⟨0xb8001c, 0x4, 1, [F.CU_RETRYRX_VAL]⟩
/-- CU_LATE (R171). -/
def CU_LATE : Reg := ⟨0xb80020, 0x4, 1, [F.CU_LATE_VAL]⟩
/-- CU_HOMELOSS (R171). -/
def CU_HOMELOSS : Reg := ⟨0xb80024, 0x4, 1, [F.CU_HOMELOSS_VAL]⟩
/-- DM_CTRL (R301). -/
def DM_CTRL : Reg := ⟨0xc00000, 0x4, 1, [F.DM_CTRL_ENGEN, F.DM_CTRL_HALT, F.DM_CTRL_MIGWIN]⟩
/-- DM_PREEMPT (R301). -/
def DM_PREEMPT : Reg := ⟨0xc00010, 0x4, 1, [F.DM_PREEMPT_VAL]⟩
/-- DM_FAILOVER (R301). -/
def DM_FAILOVER : Reg := ⟨0xc00014, 0x4, 1, [F.DM_FAILOVER_VAL]⟩
/-- DM_REDIRECT (R301). -/
def DM_REDIRECT : Reg := ⟨0xc00018, 0x4, 1, [F.DM_REDIRECT_VAL]⟩
/-- DM_DBERR (R301). -/
def DM_DBERR : Reg := ⟨0xc0001c, 0x4, 1, [F.DM_DBERR_VAL]⟩
/-- DM_LATE (R301). -/
def DM_LATE : Reg := ⟨0xc00020, 0x4, 1, [F.DM_LATE_VAL]⟩
/-- DM_MIGPOIS (R301). -/
def DM_MIGPOIS : Reg := ⟨0xc00024, 0x4, 1, [F.DM_MIGPOIS_VAL]⟩
/-- DM_CTXWR (R301). -/
def DM_CTXWR : Reg := ⟨0xc00028, 0x4, 1, [F.DM_CTXWR_VAL]⟩
/-- DM_ENGSTAT (R301). -/
def DM_ENGSTAT : Reg := ⟨0xc00100, 0x4, 8, [F.DM_ENGSTAT_BUSY, F.DM_ENGSTAT_FAILED, F.DM_ENGSTAT_RING, F.DM_ENGSTAT_PRIO]⟩
/-- DM_MIGSRC (R301). -/
def DM_MIGSRC : Reg := ⟨0xc00200, 0x10, 8, [F.DM_MIGSRC_SRCEXT, F.DM_MIGSRC_V]⟩
/-- DM_MIGDST (R301). -/
def DM_MIGDST : Reg := ⟨0xc00204, 0x10, 8, [F.DM_MIGDST_DSTGEXT]⟩
/-- DM_MIGPOS (R301). -/
def DM_MIGPOS : Reg := ⟨0xc00208, 0x10, 8, [F.DM_MIGPOS_WMARK, F.DM_MIGPOS_STATE, F.DM_MIGPOS_RING]⟩
/-- DM_RCFG (R301). -/
def DM_RCFG : Reg := ⟨0xc10000, 0x20, 1024, [F.DM_RCFG_EN, F.DM_RCFG_LOC, F.DM_RCFG_OWNER, F.DM_RCFG_PRIV, F.DM_RCFG_SIZE, F.DM_RCFG_PRIO, F.DM_RCFG_Q, F.DM_RCFG_TID]⟩
/-- DM_RBASE_LO (R301). -/
def DM_RBASE_LO : Reg := ⟨0xc10004, 0x20, 1024, [F.DM_RBASE_LO_BASE]⟩
/-- DM_RBASE_HI (R301). -/
def DM_RBASE_HI : Reg := ⟨0xc10008, 0x20, 1024, [F.DM_RBASE_HI_BASE]⟩
/-- DM_RTAIL (R301). -/
def DM_RTAIL : Reg := ⟨0xc1000c, 0x20, 1024, [F.DM_RTAIL_VAL]⟩
/-- DM_RHEAD (R301). -/
def DM_RHEAD : Reg := ⟨0xc10010, 0x20, 1024, [F.DM_RHEAD_VAL]⟩
/-- DM_RSTAT (R301). -/
def DM_RSTAT : Reg := ⟨0xc10014, 0x20, 1024, [F.DM_RSTAT_BUSY, F.DM_RSTAT_PREEMPTED, F.DM_RSTAT_DBERR, F.DM_RSTAT_CFGERR, F.DM_RSTAT_MIGWAIT]⟩
/-- DD_CHSTAT (R336). -/
def DD_CHSTAT : Reg := ⟨0xd00000, 0x10000, 12, [F.DD_CHSTAT_STATE, F.DD_CHSTAT_REASON, F.DD_CHSTAT_DPC2, F.DD_CHSTAT_X8, F.DD_CHSTAT_RANKS]⟩
/-- DD_CHCAP (R336). -/
def DD_CHCAP : Reg := ⟨0xd00004, 0x10000, 12, [F.DD_CHCAP_VAL]⟩
/-- DD_CECNT (R336). -/
def DD_CECNT : Reg := ⟨0xd00010, 0x10000, 12, [F.DD_CECNT_VAL]⟩
/-- DD_UECNT (R336). -/
def DD_UECNT : Reg := ⟨0xd00014, 0x10000, 12, [F.DD_UECNT_VAL]⟩
/-- DD_POISRD (R336). -/
def DD_POISRD : Reg := ⟨0xd00018, 0x10000, 12, [F.DD_POISRD_VAL]⟩
/-- DD_WRDROP (R336). -/
def DD_WRDROP : Reg := ⟨0xd0001c, 0x10000, 12, [F.DD_WRDROP_VAL]⟩
/-- DD_SCRDROP (R336). -/
def DD_SCRDROP : Reg := ⟨0xd00020, 0x10000, 12, [F.DD_SCRDROP_VAL]⟩
/-- DD_LATE (R336). -/
def DD_LATE : Reg := ⟨0xd00024, 0x10000, 12, [F.DD_LATE_VAL]⟩
/-- DD_SCRPOS_LO (R336). -/
def DD_SCRPOS_LO : Reg := ⟨0xd00028, 0x10000, 12, [F.DD_SCRPOS_LO_VAL]⟩
/-- DD_SCRPOS_HI (R336). -/
def DD_SCRPOS_HI : Reg := ⟨0xd0002c, 0x10000, 12, [F.DD_SCRPOS_HI_VAL]⟩
/-- DD_SCRINTV (R336). -/
def DD_SCRINTV : Reg := ⟨0xd00030, 0x10000, 12, [F.DD_SCRINTV_VAL]⟩
/-- DD_CFG (R336). -/
def DD_CFG : Reg := ⟨0xdf0000, 0x4, 1, [F.DD_CFG_MODE, F.DD_CFG_SCRUBEN, F.DD_CFG_PERIOD, F.DD_CFG_UELIM]⟩
/-- DD_TTSLEN (R336). -/
def DD_TTSLEN : Reg := ⟨0xdf0004, 0x4, 1, [F.DD_TTSLEN_VAL]⟩
/-- DD_STAT (R336). -/
def DD_STAT : Reg := ⟨0xdf0008, 0x4, 1, [F.DD_STAT_READY, F.DD_STAT_MODE, F.DD_STAT_RATE, F.DD_STAT_GRPUSE, F.DD_STAT_TTSRED]⟩
/-- DD_DOMEEXT (R336). -/
def DD_DOMEEXT : Reg := ⟨0xdf000c, 0x4, 1, [F.DD_DOMEEXT_VAL]⟩
/-- DD_TTSFIRST (R336). -/
def DD_TTSFIRST : Reg := ⟨0xdf0010, 0x4, 1, [F.DD_TTSFIRST_VAL]⟩
/-- DD_GRPBASE (R336). -/
def DD_GRPBASE : Reg := ⟨0xdf0020, 0x4, 3, [F.DD_GRPBASE_VAL]⟩
/-- DD_GRPEXT (R336). -/
def DD_GRPEXT : Reg := ⟨0xdf0030, 0x4, 3, [F.DD_GRPEXT_VAL]⟩
/-- DT_CFG (R652). -/
def DT_CFG : Reg := ⟨0xe00000, 0x4, 1, [F.DT_CFG_MAXLVL]⟩
/-- DT_DBGSTAT (R652). -/
def DT_DBGSTAT : Reg := ⟨0xe00004, 0x4, 1, [F.DT_DBGSTAT_LEVEL, F.DT_DBGSTAT_KEYCLASS, F.DT_DBGSTAT_VERIFY, F.DT_DBGSTAT_LOCKOUT, F.DT_DBGSTAT_IRERR, F.DT_DBGSTAT_IGN]⟩
/-- DT_DBGCMD (R652). -/
def DT_DBGCMD : Reg := ⟨0xe00008, 0x4, 1, [F.DT_DBGCMD_RELOCK]⟩
/-- DT_IDCODE (R652). -/
def DT_IDCODE : Reg := ⟨0xe0000c, 0x4, 1, [F.DT_IDCODE_VAL]⟩
/-- DT_UNLFAIL (R652). -/
def DT_UNLFAIL : Reg := ⟨0xe00010, 0x4, 1, [F.DT_UNLFAIL_VAL]⟩
/-- DT_DENYCNT (R652). -/
def DT_DENYCNT : Reg := ⟨0xe00014, 0x4, 1, [F.DT_DENYCNT_VAL]⟩
/-- DT_TMUXSEL (R652). -/
def DT_TMUXSEL : Reg := ⟨0xe00100, 0x4, 8, [F.DT_TMUXSEL_SIG, F.DT_TMUXSEL_SELERR, F.DT_TMUXSEL_INST, F.DT_TMUXSEL_INSTHI]⟩
/-- DT_DIRSEL (R652). -/
def DT_DIRSEL : Reg := ⟨0xe00200, 0x4, 1, [F.DT_DIRSEL_SLICE, F.DT_DIRSEL_SET, F.DT_DIRSEL_WAY]⟩
/-- DT_DIRDATA_LO (R652). -/
def DT_DIRDATA_LO : Reg := ⟨0xe00204, 0x4, 1, [F.DT_DIRDATA_LO_VAL]⟩
/-- DT_DIRDATA_HI (R652). -/
def DT_DIRDATA_HI : Reg := ⟨0xe00208, 0x4, 1, [F.DT_DIRDATA_HI_VAL]⟩
/-- DT_BISTCMD (R652). -/
def DT_BISTCMD : Reg := ⟨0xe00300, 0x4, 1, [F.DT_BISTCMD_TARGET, F.DT_BISTCMD_GO]⟩
/-- DT_BISTSTAT (R652). -/
def DT_BISTSTAT : Reg := ⟨0xe00304, 0x4, 1, [F.DT_BISTSTAT_BUSY, F.DT_BISTSTAT_RESULT, F.DT_BISTSTAT_FAILMAP]⟩
/-- BC_STAT (R542). -/
def BC_STAT : Reg := ⟨0xf00000, 0x4, 1, [F.BC_STAT_LINK, F.BC_STAT_PGOOD, F.BC_STAT_PFW, F.BC_STAT_AVALID, F.BC_STAT_BVALID, F.BC_STAT_ALM, F.BC_STAT_SLOTID, F.BC_STAT_WSTATE]⟩
/-- BC_VFEED (R542). -/
def BC_VFEED : Reg := ⟨0xf00004, 0x4, 1, [F.BC_VFEED_VA, F.BC_VFEED_VB]⟩
/-- BC_VBUS (R542). -/
def BC_VBUS : Reg := ⟨0xf00008, 0x4, 1, [F.BC_VBUS_VBUS, F.BC_VBUS_IBUS]⟩
/-- BC_WSTAT (R542). -/
def BC_WSTAT : Reg := ⟨0xf0000c, 0x4, 1, [F.BC_WSTAT_VAL]⟩
/-- BC_WCFG (R542). -/
def BC_WCFG : Reg := ⟨0xf00020, 0x4, 4, [F.BC_WCFG_VAL]⟩
/-- BC_WCFGSTAT (R542). -/
def BC_WCFGSTAT : Reg := ⟨0xf00030, 0x4, 1, [F.BC_WCFGSTAT_PEND, F.BC_WCFGSTAT_REJ, F.BC_WCFGSTAT_MATCH, F.BC_WCFGSTAT_REJBYTE]⟩
/-- BC_CRCERR (R542). -/
def BC_CRCERR : Reg := ⟨0xf00040, 0x4, 1, [F.BC_CRCERR_VAL]⟩
/-- BC_REPEAT (R542). -/
def BC_REPEAT : Reg := ⟨0xf00044, 0x4, 1, [F.BC_REPEAT_VAL]⟩
/-- BC_BADFRM (R542). -/
def BC_BADFRM : Reg := ⟨0xf00048, 0x4, 1, [F.BC_BADFRM_VAL]⟩
/-- BC_PFWCNT (R542). -/
def BC_PFWCNT : Reg := ⟨0xf0004c, 0x4, 1, [F.BC_PFWCNT_VAL]⟩
/-- BC_LINKDN (R542). -/
def BC_LINKDN : Reg := ⟨0xf00050, 0x4, 1, [F.BC_LINKDN_VAL]⟩
end R

/-- The registers of block `b`, the block at `b * 2^20` (R580). -/
def blockRegs (b : Nat) : List Reg :=
  match b with
  | 0 =>
    [R.ID_PART, R.ID_VARIANT, R.ID_SERIAL_LO, R.ID_SERIAL_HI, R.WIN_ADDR_LO, R.WIN_ADDR_HI, R.WIN_CTRL, R.WIN_DATA,
     R.ID_MGCTRL, R.ID_BOOTSTAT, R.ID_SLOTSTAT, R.ID_FWVER, R.ID_SVN, R.ID_LDCMD, R.ID_LDOFF, R.ID_LDLEN,
     R.ID_LDSTAT, R.ID_PLOGCNT, R.ID_PLOGLOST]
  | 1 =>
    [R.CK_PWRCFG, R.CK_PWRCMD, R.CK_PWRSTAT, R.CK_RSTCMD, R.CK_RSTSTAT, R.CK_WAKECNT, R.CK_DTMOCNT, R.CK_ASLEEPCNT,
     R.CK_RABORTCNT, R.CK_LATE, R.CK_LTIME_LO, R.CK_LTIME_HI, R.CK_DOMSTAT, R.CK_THCFG, R.CK_TSEN]
  | 2 =>
    [R.FC_CTRL, R.FC_ALM_CTRL, R.FC_STAT, R.FC_CNT, R.FC_DROP, R.FC_LOGLOST, R.FC_ALMSUP, R.FC_REMCNT,
     R.FC_LOGWR, R.FC_LOGRD, R.FC_FE, R.FC_FESTAT, R.FC_DSEL, R.FC_DSTAT, R.FC_DCMD, R.FC_DCFG]
  | 3 =>
    [R.SP_CECNT, R.SP_UECNT, R.SP_CONF, R.SP_DENY, R.SP_RGN]
  | 4 =>
    [R.FP_PCFG, R.FP_PCTRL, R.FP_LSTAT, R.FP_PMCFG, R.FP_PMSTAT, R.FP_TRNCNT, R.FP_DOWNCNT, R.FP_CRCERR,
     R.FP_FECCORR, R.FP_IDEFAIL, R.FP_OCTCFG]
  | 5 =>
    [R.LT_CTRL, R.LT_INJ, R.LT_UPAT_LO, R.LT_UPAT_HI, R.LT_STAT, R.LT_ERRCNT, R.LT_BITCNT_LO, R.LT_BITCNT_HI,
     R.LT_INJCNT]
  | 6 =>
    [R.SL_STACK, R.SL_STKSTAT, R.SL_TCFG, R.SL_PLANDIG_LO, R.SL_PLANDIG_HI, R.SL_TIME_LO, R.SL_TIME_HI, R.SL_DUP,
     R.SL_OOW, R.SL_HOPDROP, R.SL_REPLAY, R.SL_ECRCERR, R.SL_BADTYPE, R.SL_TSTEP, R.SL_PEERSTAT, R.SL_PCFG,
     R.SL_PSTAT, R.SL_CRCERR, R.SL_LRETRY, R.SL_PDELAY]
  | 7 =>
    [R.SW_CTRL, R.SW_BUFCFG, R.SW_SPILLCFG, R.SW_SPILLFIRST, R.SW_SPILLCNT, R.SW_AGE, R.SW_RTCMD, R.SW_RTSTAT,
     R.SW_RTDATA_LO, R.SW_RTDATA_HI, R.SW_AUDCTRL, R.SW_AUDSTAT, R.SW_FREE, R.SW_SPILLPG, R.SW_AGEDROP, R.SW_REVDROP,
     R.SW_BADDROP, R.SW_NULLIFY, R.SW_CREDHOLD, R.SW_SPILLFULL, R.SW_LATE, R.SW_AUDLEAK, R.SW_AUDDUP, R.SW_MCDROP,
     R.SW_QSTAT]
  | 8 =>
    [R.TS_CTRL, R.TS_INTQ, R.TS_PACEHOLD, R.TS_WHEELOVF, R.TS_PACELATE, R.TS_PORTRATE, R.TS_PORTCFG, R.TS_PORTSTAT,
     R.TS_SOVER, R.TS_TCMAP, R.TS_PACE, R.TS_SHCFG, R.TS_SHLIM, R.TS_SHCRED, R.TS_DEFICIT, R.TS_QMAX,
     R.TS_DMAX, R.TS_HIST]
  | 9 =>
    [R.BD_CTRL, R.BD_ALLOC, R.BD_TTCMD, R.BD_TTSTAT, R.BD_TTDATA0, R.BD_TTDATA1, R.BD_TTDATA2, R.BD_TTDATA3,
     R.BD_XCMISS, R.BD_LATE, R.BD_STOPREJ, R.BD_TDRAIN]
  | 10 =>
    [R.AG_SYSSET, R.AG_SYSDEF, R.AG_RDCMD, R.AG_RDSTAT, R.AG_RDDATA0, R.AG_RDDATA1, R.AG_RDDATA2, R.AG_RDDATA3,
     R.AG_VADDR_LO, R.AG_VADDR_HI, R.AG_VINFO, R.AG_VREGION, R.AG_VCNT, R.AG_DBGDENY, R.AG_TDEF]
  | 11 =>
    [R.HD_CTRL, R.HD_STALE, R.HD_RETRYSENT, R.HD_CREDHOLD, R.HD_EVICT, R.HD_LATE, R.HD_RCLSTAT, R.HD_RBCTRL,
     R.HD_RBSTAT, R.HD_RBPOIS, R.HD_SLSTAT, R.HD_DEAD, R.HD_POISCNT, R.CU_CTRL, R.CU_HIT, R.CU_MISS,
     R.CU_PARK, R.CU_RETRYRX, R.CU_LATE, R.CU_HOMELOSS]
  | 12 =>
    [R.DM_CTRL, R.DM_PREEMPT, R.DM_FAILOVER, R.DM_REDIRECT, R.DM_DBERR, R.DM_LATE, R.DM_MIGPOIS, R.DM_CTXWR,
     R.DM_ENGSTAT, R.DM_MIGSRC, R.DM_MIGDST, R.DM_MIGPOS, R.DM_RCFG, R.DM_RBASE_LO, R.DM_RBASE_HI, R.DM_RTAIL,
     R.DM_RHEAD, R.DM_RSTAT]
  | 13 =>
    [R.DD_CHSTAT, R.DD_CHCAP, R.DD_CECNT, R.DD_UECNT, R.DD_POISRD, R.DD_WRDROP, R.DD_SCRDROP, R.DD_LATE,
     R.DD_SCRPOS_LO, R.DD_SCRPOS_HI, R.DD_SCRINTV, R.DD_CFG, R.DD_TTSLEN, R.DD_STAT, R.DD_DOMEEXT, R.DD_TTSFIRST,
     R.DD_GRPBASE, R.DD_GRPEXT]
  | 14 =>
    [R.DT_CFG, R.DT_DBGSTAT, R.DT_DBGCMD, R.DT_IDCODE, R.DT_UNLFAIL, R.DT_DENYCNT, R.DT_TMUXSEL, R.DT_DIRSEL,
     R.DT_DIRDATA_LO, R.DT_DIRDATA_HI, R.DT_BISTCMD, R.DT_BISTSTAT]
  | 15 =>
    [R.BC_STAT, R.BC_VFEED, R.BC_VBUS, R.BC_WSTAT, R.BC_WCFG, R.BC_WCFGSTAT, R.BC_CRCERR, R.BC_REPEAT,
     R.BC_BADFRM, R.BC_PFWCNT, R.BC_LINKDN]
  | _ => []

/-- The range of field ids that block `b` holds (first id, first id past it). -/
def blockIds (b : Nat) : Nat × Nat :=
  match b with
  | 0 => (0, 47)
  | 1 => (47, 80)
  | 2 => (80, 117)
  | 3 => (117, 125)
  | 4 => (125, 163)
  | 5 => (163, 181)
  | 6 => (181, 220)
  | 7 => (220, 257)
  | 8 => (257, 293)
  | 9 => (293, 314)
  | 10 => (314, 339)
  | 11 => (339, 372)
  | 12 => (372, 409)
  | 13 => (409, 438)
  | 14 => (438, 463)
  | 15 => (463, 486)
  | _ => (0, 0)

end Sys2Proof.Machine
end

