-- ==== Sys2Proof/Machine/State.lean ====
section
/-! DEFINITION. The machine's state as plain data: the register file, every table, queue and record the spec gives the
block, its memories, and the queue of waiting commands; the reasons a step can stop; and the state at reset, which is
FEED-OFF (R495). -/
namespace Sys2Proof.Machine

/-- The stored part of a local extent's allocation record (R38): BINDCNT, SHARED, DIRTY, and FAILED where it was
recorded (a released extent of a failed channel, or a record that reads as poison). RESERVED is derived from the
layout. -/
structure AllocRec where
  cnt : Nat
  shared : Bool
  dirty : Bool
  failed : Bool
  deriving DecidableEq, Repr

/-- The response that ends a request without its effect (R41, R62, R215, R354): Unsupported Request, Completer Abort,
data with poison, S2M NDR Cmp, Cmp with MetaValue Invalid, an error response to an internal request, or none. -/
inductive RspKind where
  | ur | ca | poison | cmp | cmpInvalid | internalErr | dropped
  deriving DecidableEq, Repr

/-- A write accepted from a tenant (R67 to R69): tenant, the write's number, whether it was accepted up to the latest
ARM, whether it is globally visible, the response with which the abort step of R62 retires it, its traffic class, and whether it is a
non-posted request, which counts in OUT until its completion leaves (R69). -/
structure WRec where
  tid : Nat
  wid : Nat
  marked : Bool
  visible : Bool
  rsp : RspKind
  tc : Nat := 0
  np : Bool := false
  deriving DecidableEq, Repr

/-- A request accepted from a tenant that counts until its completion leaves (R67, R69): tenant, the request's number, the response with
which the abort step of R62 retires it, its traffic class, the response that ends it after the completions of its allowed prefix, and the
completions of a partly denied write that Terroth still takes before it answers Completer Abort (R358, R359). -/
structure RRec where
  tid : Nat
  rid : Nat
  rsp : RspKind
  tc : Nat := 0
  rest : Option RspKind := none
  absorb : Nat := 0
  deriving DecidableEq, Repr

/-- A running reset or unbind sequence of a tenant (R62): whether it ends as an unbind, its quarantine time Q in
100 ns taken at Stop (R63), and whether its flush step has started. -/
structure TSeq where
  unbind : Bool
  q : Nat
  flushing : Bool
  deriving DecidableEq, Repr

/-- One extent of an add: extent index and backing GEXT. -/
structure PendExt where
  eidx : Nat
  gext : Nat
  deriving DecidableEq, Repr

/-- A pending extent record of an Add Capacity event (R53): tag, start extent index, length in extents. -/
structure AddExt where
  tag : Nat
  start : Nat
  len : Nat
  deriving DecidableEq, Repr

/-- An add in progress (R49 to R55): the tenant, the tag, shared or not, the group it starts with,
the extent indices still without backing, the
homes still to be tried in order, the chosen pairs of extent index and backing, the ALLOC answers awaited, whether a peer
failed, whether a policy record asked for it, and the records of the event that the host has still to answer (none until
it is raised). -/
structure AddRec where
  tid : Nat
  tag : Nat
  shared : Bool
  grp : Nat
  todo : List Nat
  homes : List Nat
  exts : List PendExt
  await : Nat
  failed : Bool
  policy : Bool
  records : List AddExt
  deriving DecidableEq, Repr

/-- A release in progress (R57 to R60): tenant, extent index, backing at step 1, and the step: 0 waiting for a migration
to end, 1 waiting for the drain mark, 2 waiting for back-invalidations, 3 waiting for a peer home. -/
structure RelRec where
  tid : Nat
  eidx : Nat
  gext : Nat
  step : Nat
  deriving DecidableEq, Repr

/-- An ALLOC request to a peer home that awaits its answer (R655): operation, destination, tag, first GEXT, count, and
the tenant concerned (8192 + ring for a migration). -/
structure AllocReq where
  op : Nat
  dest : Nat
  tag : Nat
  gext : Nat
  cnt : Nat
  tid : Nat
  deriving DecidableEq, Repr

/-- An entry of the reverse extent map (R117): backing, tenant, extent index, and the number of the next entry of its chain
(0xFFFF_FFFF ends it). -/
structure RevEnt where
  gext : Nat
  tid : Nat
  eidx : Nat
  next : Nat
  deriving DecidableEq, Repr

/-- Binding and translation: the tenant table (128-bit entries by TID, R32), the allocation records (R38), the reverse
extent map: its entries by number and its 2^20 heads (an unlisted head ends its chain) (R117), the tag array by TID * 2^26 + extent index (R53), the
translation cache by the same key (R42), the misses in flight, the writes, the other requests that have not completed, the
requests that an abort has retired and whose answers are still to come (R31), the running sequences, the
back-invalidations of flush and release steps outstanding as (host port, TID, extent index, line) (R57, R62), the
BINDPOLICY records of the active image (R555), the commands in Turret's queue (R44), the adds and releases in progress, the
ALLOC requests in flight and the next ALLOC tag. -/
structure BdState where
  tt : SMap Nat
  alloc : SMap AllocRec
  rev : SMap RevEnt
  heads : SMap Nat
  tagArr : SMap Nat
  xc : SMap Nat
  miss : List Msg
  writes : List WRec
  reads : List RRec
  abandoned : List (Nat × Nat)
  seqs : SMap TSeq
  flush : List (Nat × Nat × Nat × Nat)
  policies : List Nat
  cmdq : List FmCmd
  adds : List AddRec
  rels : List RelRec
  allocs : List AllocReq
  nextTag : Nat
  deriving DecidableEq, Repr

/-- One directory entry (R103), listed by its line address LA (R101): its way, STATE (0 I, 1 S, 2 X, 3 O), PIN, the owner's
stack ID in O, the transaction record, and FMT and HOLD (R105). -/
structure DirEnt where
  way : Nat
  st : Nat
  pin : Bool
  owner : Nat
  txn : Nat
  fmt : Bool
  hold : Nat
  deriving DecidableEq, Repr

/-- The request kinds at the home (R86, R89, R95, R292): a Cupola's RdShared, RdOwn and Upgrade; a host's shared read and
ownership read, with or without data; a non-caching read and write; and the migration lock. -/
inductive HKind where
  | cShared | cOwn | cUpgrade | hShared | hSharedNd | hOwn | hOwnNd | ncRead | ncWrite | lock
  deriving DecidableEq, Repr

/-- A request at the home: agent ID (1024 for a master without one), kind, LA, the requester's tag, STARVE, what sent it (0 a Cupola
or a host, 1 the data mover, 2 the window port, 3 the data mover for a ring's slot), whether it came through translation (R295), the host
message it came in, a write's data, byte enables and poison, and of the data mover's the ring with the tenant and its address that the
access was translated from (R262, R295). -/
structure HReq where
  agent : Nat
  kind : HKind
  la : Nat
  tag : Nat := 0
  starve : Bool := false
  unit : Nat := 0
  xl : Bool := false
  msg : Option Msg := none
  data : Nat := 0
  en : Nat := 0
  poison : Bool := false
  dmx : Option (Nat × Nat × Nat) := none
  deriving DecidableEq, Repr

/-- The home phases (R136), and the broadcast of a slice rebuild (R165). -/
inductive HPhase where
  | snp | gnt | vic | rcl | rbd
  deriving DecidableEq, Repr

/-- A slice transaction record (R136): the request, the phase, the entry copied at opening, the target entry, the
Cupolas whose snoop answers are outstanding, the BISnps outstanding as (port, TID, extent index) with their kind (0 Cur,
1 Data, 2 Inv) and the best answer of each port so far, whether the home must supply data from Dome, whether a Dome read is
outstanding, the data the home holds (data, poison), whether an owner forwarded the data, the request that takes a
victim's way, and for a rebuild whether a target died and whether dirty data came (R166). -/
structure HTxn where
  req : HReq
  phase : HPhase
  src : DirEnt
  tgt : DirEnt
  snps : List Nat
  bis : List (Nat × Nat × Nat)
  bk : Nat
  seen : SMap Nat
  need : Bool
  reading : Bool
  data : Option (Nat × Bool)
  fwd : Bool
  next : Option HReq
  lost : Bool
  got : Bool
  deriving DecidableEq, Repr

/-- A Spire release held in a slice's release buffer (R144): kind (0 WbDirty, 1 WbClean, 2 Evict) and message. -/
structure HRel where
  kind : Nat
  m : Coh
  deriving DecidableEq, Repr

/-- What an arrival at a slice is (R112): a request, a Spire release of a kind, or a host's CXL.mem request as (message, operation,
LA, data, byte enables). -/
inductive HWhat where
  | req (r : HReq)
  | rel (kind : Nat) (m : Coh)
  | host (m : Msg) (op : HostOp) (la data en : Nat)
  deriving DecidableEq, Repr

/-- An arrival that competes for its place (R112): the agent ID it is ordered by, and what it is. -/
structure HArr where
  agent : Nat
  what : HWhat
  deriving DecidableEq, Repr

/-- The arrivals of one CCLK cycle that compete at a slice and are not yet placed (R112): those the model has taken in, and the agents
whose arrival of that cycle is still to come as a command. -/
structure Contest where
  here : List HArr
  missing : List Nat
  deriving DecidableEq, Repr

/-- A line that a home or Cupola has read for a CXL.io read (R159): host port, request, tenant address of the line, data, poison. -/
structure IoLine where
  port : Nat
  rid : Nat
  addr : Nat
  data : Nat
  poison : Bool
  deriving DecidableEq, Repr

/-- A dead agent (R151 to R161): its agent ID, whether the running walk handles it, whether it has been reclaimed, the
lines poisoned for it by the walk, and the tenants whose reset must still complete. -/
structure DeadRec where
  agent : Nat
  walking : Bool
  done : Bool
  pois : Nat
  tids : List Nat
  deriving DecidableEq, Repr

/-- The home: the directory (R101), the transaction records by logical slice * 64 + record, the retry queues by logical
slice, each entry with whether it uses its stack's reserved place (R109), the release buffers, what is held at its port in order
of arrival (R111), the migration locks held in their engines (R293), requests that own the way of a closed victim, the
slices' arbitration pointers (R112) and the arrivals that compete there, the times to which BISnps wait after a grant of A by
LA * 128 + port (R122), the logical slices whose physical slice has failed and awaits takeover, the rebuild's next line address and
the agents that were dead and not reclaimed on the failed slice when it failed, or died since (R166), the dead agents, the reclaim walk's position
set * 16 + way by logical slice, the Fences to be answered as (source, TXN, transport number) and the requests and releases that have been
delivered and that no line's queue has accepted, in the same form (R130), the lines read for CXL.io reads that have not returned (R159),
and for each host port its M2S Reqs that are held, oldest first, by where: false at a slice of the home (R111), true at the Cupola
(R123). -/
structure HdState where
  dir : SMap DirEnt
  txns : SMap HTxn
  retry : SMap (List (Bool × HReq))
  rel : SMap (List HRel)
  held : List HWhat
  locks : List HReq
  next : List HReq
  arb : SMap Nat
  contest : SMap Contest
  aHold : SMap Nat
  failing : List Nat
  rbPos : Nat
  rbDead : List Nat
  dead : List DeadRec
  walk : SMap Nat
  fences : List (Nat × Nat × Nat)
  unacc : List (Nat × Nat × Nat)
  io : List IoLine
  portQ : SMap (List Bool)
  deriving DecidableEq, Repr

/-- The transient states of a Cupola line (R135); GR keeps which request it grants. -/
inductive CuTr where
  | isW | imW | smW | omW | gr | th | miA | eiA | siA
  deriving DecidableEq, Repr

/-- A Cupola line (R125), listed by its line address GPA[45:6]: way, stable STATE (0 I, 1 S, 2 E, 3 O, 4 M), FMT and HOLD of
its local hosts, whether its one host holder has it in A (R85), its data and its poison mark (R142). -/
structure CuLine where
  way : Nat
  st : Nat
  fmt : Bool
  hold : Nat
  hostA : Bool
  data : Nat
  poison : Bool
  deriving DecidableEq, Repr

/-- A local request at the Cupola (R141): its message, whether it asks for ownership, whether it takes a local copy (a
caching host), whether it asks for data, whether it writes, the line address, the write's data, byte enables and MetaValue
(0 Any, 1 Shared, 2 Invalid), whether the data is poisoned, what sent it (0 a host, 1 the data mover, 2 the window port) with its
tag, whether it has been counted as a miss, while it is held whether it stands in its port's queue of M2S Reqs (R123), and the operation of
one that asks nothing of the line (R86). -/
structure CuReq where
  msg : Msg
  own : Bool
  caching : Bool
  wantData : Bool
  write : Bool
  gla : Nat
  data : Nat := 0
  en : Nat := 0
  mv : Nat := 0
  poison : Bool := false
  unit : Nat := 0
  tag : Nat := 0
  missed : Bool := false
  noRec : Bool := false
  op : Option HostOp := none
  deriving DecidableEq, Repr

/-- A Cupola transaction record (R135), by record number: line, transient state, the opcode sent, the data part of the grant
as (state it names, data, poison), whether the home's Ack has arrived, the Retries of the request and whether it is in
back-off, the local requests that wait in the record, the parked snoops as (opcode, message), and the write-back buffer
(data, poison). -/
structure CuRec where
  gla : Nat
  tr : CuTr
  opc : Nat
  part : Option (Nat × Nat × Bool)
  ack : Bool
  retries : Nat
  backoff : Bool
  waiting : List CuReq
  parked : List (Nat × Coh)
  buf : Nat × Bool
  deriving DecidableEq, Repr

/-- What a Cupola has to do on a line (R81, R138, R141): take a snoop, take a local request; or, the host step done, answer a snoop,
carry out a local request, release the line as a victim with the request that needs its way, or drop a line of a dead home. -/
inductive CuAfter where
  | snoop (opc : Nat) (m : Coh)
  | serve (r : CuReq)
  | reply (opc : Nat) (m : Coh)
  | act (r : CuReq)
  | victim (gla : Nat) (r : CuReq)
  | drop (gla : Nat)
  deriving DecidableEq, Repr

/-- A host step in progress: the line, the BISnps outstanding as (port, TID, extent index), the best answer of each port, the host
ports that hold the line and are not back-invalidated, whether the step invalidates (else it downgrades), whether dirty data came,
what follows, and the requests and snoops for the line that wait behind it. -/
structure CuStep where
  gla : Nat
  bis : List (Nat × Nat × Nat)
  seen : SMap Nat
  keep : List Nat
  inv : Bool
  dirty : Bool
  after : CuAfter
  behind : List CuAfter
  deriving DecidableEq, Repr

/-- The Cupola: lines, transaction records, host steps, and the requests held for want of a record (R123) or of a way. -/
structure CuState where
  lines : SMap CuLine
  recs : SMap CuRec
  steps : List CuStep
  held : List CuReq
  deriving DecidableEq, Repr

/-- A response that Terroth makes for a request (R215): its kind, and the vPPB whose Completer ID it carries, as host port and vPPB; no vPPB
where the egress is the upstream port of the VCS itself. -/
structure Reply where
  kind : RspKind
  completer : Option (Nat × Option Nat)
  deriving DecidableEq, Repr

/-- A message resolved by stage 4 (R184, R201): the message, its queue index, its egress crossbar port,
its route index and captured epoch, its ingress time in 100 ns ticks, the cells that have crossed, its cells, the BAD
mark, the multicast it is a copy of, whether it is gone (discarded or flushed) while cells of it have still to cross or to come back
from Dome (R62), the legs of a multicast as (vPPB, egress port) in ascending order (R217), the leg that a copy is for, the input
crossbar ports that carried its cells (R201), the response that it is, where Terroth made it, and where in the spill area its first cell
lies, as page, slot and QSEQ (R208, R209). -/
structure EMsg where
  msg : Msg
  q : Nat
  eg : Nat
  ridx : Nat
  epoch : Nat
  itime : Nat
  got : Nat
  total : Nat
  bad : Bool
  mc : Option Nat
  gone : Bool
  legs : List (Nat × Nat) := []
  leg : Nat := 0
  srcxp : List Nat := []
  rsp : Option Reply := none
  spill : Nat × Nat × Nat := (0, 0, 0)
  deriving DecidableEq, Repr

/-- One egress queue (R203 to R209): SPILLING, the segments HEAD, DOME and STAGE, the QSEQ of the next cell written and
of the next cell expected back, whether a spill read is outstanding, and its pages as (local extent, cells written,
cells read back or discarded). -/
structure EQ where
  spilling : Bool
  head : List EMsg
  dome : List EMsg
  stage : List EMsg
  wseq : Nat
  rseq : Nat
  reading : Bool
  pages : List (Nat × Nat × Nat)
  deriving DecidableEq, Repr

/-- A window of a VCS's window table (R181): whether it is in use, base, limit and route index. -/
structure Win where
  valid : Bool
  base : Nat
  limit : Nat
  ridx : Nat
  deriving DecidableEq, Repr

/-- The switch core: the route table (R182), the VOQs as one list in ingress order (R191), the matcher's pointers
(R192), the egress queues by QID, the cells in use, the cells missing from the free list and the length of the tail
behind a duplicate in it, the same for spill pages (R223), the spill token bucket in 1/160,000 of a quarter line, negative in debt (R207),
the message each egress port is sending with cells still to come, the multicast leg counts as (legs left, cells), the
legs being sent, the next multicast number; and the tables that Turret compiles (R181, R183, R216), in which an entry not listed has
not been looked up: the bus map by host port * 256 + bus (16,384: no entry), the windows by host port * 64 + window, the route indices
set at bind by kind * 8192 + TID (0 a tenant's requests to its device, 1 S2M and BISnp of its LD to the host port, 2 and 3 CXL.cache to
the device and to the host), the route index of each multicast group by host port * 64 + group, the vPPBs that a group names as a bit
each by 64 * host port + group, and the multicast groups that a vPPB blocks (MC_Block) and the vPPBs that its ACS rules keep its
multicasts from, both by host port * 32 + vPPB. -/
structure SwState where
  routes : SMap Nat
  voq : List EMsg
  gptr : SMap Nat
  aptr : SMap Nat
  eqs : SMap EQ
  used : Nat
  leak : Nat
  dup : Option Nat
  pgLeak : Nat
  pgDup : Option Nat
  tokens : Int
  inTx : SMap EMsg
  legs : SMap (Nat × Nat)
  sending : List (Nat × Nat)
  nextMid : Nat
  idMap : SMap Nat
  wins : SMap Win
  binds : SMap Nat
  groupRt : SMap Nat
  groups : SMap Nat
  mcBlock : SMap Nat
  acs : SMap Nat
  deriving DecidableEq, Repr

/-- Traffic scheduling: shaper credits in units of 1/16,000 byte by QID (R237), weighted deficits, the queues whose fresh
flag is 0 and the DRR pointers by set (R234), the queues that were non-empty at the start of the slot (R237); the pacing
tick, and per tenant E, S in ps and L in bytes (R241), the pacing queues, the requests that wait for room in them (R244),
the two wheel levels by slot (R245), the eligible tenants with the tick in which each became eligible; the shaper settings still in
force of the queues written in this slot as (ISLOPE, CAP, FLOOR), those of them whose new settings take effect at the boundary that has
been reached (R239), and the rates still in force of the tenants written in this tick (R246). -/
structure TsState where
  cred : SMap Int
  deficit : SMap Nat
  stale : SMap Bool
  ptr : SMap Nat
  held : List Nat
  tick : Nat
  e : SMap Nat
  s : SMap Nat
  l : SMap Nat
  pq : SMap (List EMsg)
  waiting : List EMsg
  lvl0 : SMap (List Nat)
  lvl1 : SMap (List Nat)
  elig : SMap Nat
  shOld : SMap (Nat × Nat × Nat)
  shNew : List Nat
  rateOld : SMap Nat
  deriving DecidableEq, Repr

/-- The phases of a data mover job: between windows; a window's checks and reads run; its writes are outstanding; a MIGRATE
waits for a peer's ALLOC CLAIM, or for its INC answers; a FENCE waits; a MIGRATE copies; an ABANDON locks and poisons the copied
lines; a MIGRATE drains. -/
inductive DmPhase where
  | idle | reading | writing | claiming | mapping | fence | copying | abandon | draining
  deriving DecidableEq, Repr

/-- What an access of the data mover is for: a source read, the destination read of a VERIFY, the ownership of a remote destination
line, a write of a window, or the destination write of a migrated line. -/
inductive DmUse where
  | src | cmp | own | write | mig
  deriving DecidableEq, Repr

/-- What has become of an access of the data mover: outstanding, sent back to step 1 of R276 by R295, or answered. -/
inductive DmAccSt where
  | out | redo | done
  deriving DecidableEq, Repr

/-- An access of the data mover (R262, R276), listed by its tag: ring, use, the job's byte offset and length, GPA, what has become of it,
its data with byte enables and poison, and whether it came through translation (R295). -/
structure DmAcc where
  ring : Nat
  use : DmUse
  off : Nat
  len : Nat
  gpa : Nat
  st : DmAccSt
  data : Nat
  en : Nat
  poison : Bool
  xl : Bool
  deriving DecidableEq, Repr

/-- A started job (R261 to R288), listed by its ring: descriptor, bytes done at the last commit, its engine (none:
pre-empted), the ring that marked it for pre-emption, phase, bytes of the window to commit, the stop found in the window as
(status, FADDR, FCODE), poisoned lines, whether an abort waits, its migration record, the peers a FENCE waits for, and the ALLOC INC
answers that a MIGRATE awaits. -/
structure DmJob where
  desc : Nat
  doneB : Nat
  eng : Option Nat
  marked : Option Nat
  phase : DmPhase
  winLen : Nat
  stop : Option (Nat × Nat × Nat)
  pois : Nat
  abort : Bool
  mig : Option Nat
  peers : List Nat
  await : Nat
  deriving DecidableEq, Repr

/-- The data mover: started jobs by ring, the dispatcher's pointers by priority (R273), the peers that jobs of a ring have
sent to since its last FENCE as a bit per stack ID (R288), the lines of each migration record copied ahead of WMARK (R292),
the local extents that FILL jobs of Turret's ring are to zero (R57, R297) and those that one has zeroed, and the accesses of the
windows that run with the tag of the next one. -/
structure DmState where
  jobs : SMap DmJob
  dptr : SMap Nat
  sent : SMap Nat
  copied : SMap (List Nat)
  zero : List Nat
  zeroed : List Nat
  accs : SMap DmAcc
  seq : Nat
  deriving DecidableEq, Repr

/-- What a stored Dome line carries beside its data: MD[0], the tracked hint, and the poison marker (R322, R324). -/
structure LineAttr where
  hint : Bool
  poison : Bool
  deriving DecidableEq, Repr

/-- The widths of a channel's DRAM coordinates as its RDIMMs' SPD requires them (R319), each in bits: subchannel, bank group, column
in units of one burst, bank, chip ID and rank, and socket. -/
structure Geom where
  sub : Nat
  bg : Nat
  col : Nat
  bank : Nat
  rank : Nat
  sock : Nat
  deriving DecidableEq, Repr

/-- Dome controllers: the local times of the uncorrectable reads of each channel that still count toward UELIM (R332),
the Dome peak rate in MB/s fixed at start-up (R308), whether the channels are in self-refresh (R312), whether the
initialisation of step 4 of R311 runs, and the geometry of each channel (R319). -/
structure DdState where
  ueTimes : SMap (List Nat)
  peak : Nat
  selfRefresh : Bool
  initRun : Bool
  geom : SMap Geom
  deriving DecidableEq, Repr

/-- The access guard: the 65,536 region descriptors of 128 bits, and those that the active image holds, as (index, descriptor), which
Turret re-applies at fabric reset (R344). The violation record stands in AG_VADDR, AG_VINFO and AG_VREGION. -/
structure AgState where
  desc : SMap Nat
  img : List (Nat × Nat)
  deriving DecidableEq, Repr

/-- An IDE stream of a port (R391 to R395), by port * 256 + stream index: its kind (0 link, 1 selective, 2 CXL.cachemem),
whether it runs in containment mode, the key sets programmed, whether it is Secure, and whether an integrity failure has made
it Insecure until new keys are programmed. -/
structure IdeStream where
  kind : Nat
  containment : Bool
  keys : Nat
  secure : Bool
  failed : Bool
  deriving DecidableEq, Repr

/-- Fabric ports and lanes: the octet modes in effect (R368 to R370), the DOWN ports in Downstream Port Containment (R374), the
connector groups whose reference clock is stable (R615), the ports that stay down after MODE, WIDTH or RATE with that reason (R377 to R380),
the HOST ports whose grace timer runs (R383), the ports with one equalisation failure, at rate - 1 (R380), the local times in
ns of each octet's failed relocks and the octets without lock (R382), the IDE streams, the lanes with a single-bit injection
to come, with the bits that pass before it (R400), the bits that each lane's injector has let pass since the last rate injection, the
maximum payload size in effect on each port, the role with which each link that is up has trained (R403), the DOWN ports whose vPPB asserts
Secondary Bus Reset (R374), the ports in Recovery whose entry FP_TRNCNT has counted (R381), and of each lane under test its generator's
register (of USER the next bit's number) and the bits it has sent of the present 32-bit word (R397, R400). -/
structure FpState where
  layout : SMap Nat
  dpc : List Nat
  refOk : List Nat
  stay : SMap Nat
  grace : List Nat
  eqFails : SMap Nat
  octFails : SMap (List Nat)
  octUnlocked : List Nat
  ide : SMap IdeStream
  injOne : SMap Nat
  injPos : SMap Nat
  mps : SMap Nat
  roleUp : SMap Nat
  sbr : List Nat
  recov : List Nat
  gen : SMap Nat
  bitPos : SMap Nat
  deriving DecidableEq, Repr

/-- The transport state of a peer (R416 to R423, R434, R435): NSEND, OLD, the frames not yet freed with the port of their
latest copy (4: none), the frames that wait for the window, NEXP and the TSEQs received above it, whether an ACK is due, the
INC of the peer's latest JOIN, the local time of the latest FENCEOUT to it, and how many of the frames that wait, from the oldest, hold a
cell of the buffer (R422). -/
structure SlPeer where
  nsend : Nat
  old : Nat
  unfreed : List (Nat × SlFrame × Nat)
  wait : List SlFrame
  nexp : Nat
  got : List Nat
  ackDue : Bool
  joinInc : Option Nat
  fenceAt : Option Nat
  cells : Nat := 0
  deriving DecidableEq, Repr

/-- The link state of a Spire port (R412 to R415, R424): the next FSEQ, the replay buffer as (FSEQ, replays, frame), the frames
that wait for room in it, the last FSEQ accepted and whether there is one, whether later flits are discarded until the replay,
whether a retrain after eight replays runs, and the local times of failed attempts. -/
structure SlPort where
  fseq : Nat
  unacked : List (Nat × Nat × SlFrame)
  txq : List SlFrame
  last : Nat
  av : Bool
  nak : Bool
  retry : Bool
  fails : List Nat
  deriving DecidableEq, Repr

/-- Spire: peers by stack ID, ports, the DEPTH that this module's TIME frames carry while it is synchronised, whether it has
synchronised since it joined, and the slew still to be made, in ns (R438, R439). -/
structure SlState where
  peers : SMap SlPeer
  ports : SMap SlPort
  depth : Nat
  synced : Bool
  slew : Int
  deriving DecidableEq, Repr

/-- The fault state of one domain (R463 to R468): 0 OK, 1 FAULT, 2 LATCHED; the highest reaction applied; FEV; the
recovery counts and window start; whether the quiet timer runs, or has expired while a reset sequence still runs;
whether the domain's CONTAIN action is in force; and whether a reset sequence that the domain has applied has not completed (R465). -/
structure Dom where
  state : Nat
  applied : Nat
  fev : Bool
  rcnt : Nat
  wcnt : Nat
  wstart : Nat
  timer : Bool
  expired : Bool
  contain : Bool
  reset : Bool := false
  deriving DecidableEq, Repr

/-- The fault collector: the block queues by position (0 to 15, and 16 the remote queue, R453, R654), the HELD
messages that wait outside a full queue, the rotating pointer, SEQ, the domains by DIDX, and the log entries Turret has
still to copy to flash (R474). -/
structure FcState where
  queues : SMap (List FMsg)
  outside : List FMsg
  rot : Nat
  seq : Nat
  doms : SMap Dom
  persist : List FMsg
  deriving DecidableEq, Repr


/-- What a management access belongs to: a register command of its path, a REGREQ, a vendor CCI command, or DBGACC. -/
inductive AccSrc where
  | cmd | regreq | cci | tap
  deriving DecidableEq, Repr

/-- A management access that has been issued and not answered (R488 to R494): its path and what it belongs to, whether it
writes, address, size, data, the domain it waits for, whether it carries the wake attribute, and whether it is a window
beat. -/
structure PendAcc where
  path : Path
  src : AccSrc
  write : Bool
  addr : Nat
  size : Nat
  data : Nat
  dom : Nat
  wake : Bool
  win : Bool
  deriving DecidableEq, Repr

/-- Clocks, power and resets: local time in ns and the recovery clock in ns (R486, R466), the module and fabric resets that
have been asked for with their causes (R499, R500), the tenant whose commanded reset runs (R505), whether the fabric side is
supplied, whether a thermal trip holds its supplies off (R637), whether the feed power-on reset is held (R541), and the
start-up asked for with its cause (R561), whether STANDBY has stopped the clocks of all domains but AON and MCLK, which step 3 of a wake
starts again (R495, R496), and whether the core PLL, REFOSC or MCLK has lost lock (R484, R499). The states of the clock domains follow
from these and the rest (R484). -/
structure CkState where
  ltime : Nat
  recNs : Nat
  modReq : Option Nat
  fabReq : Option Nat
  running : Option Nat
  on : Bool
  trip : Bool
  por : Bool
  boot : Option Nat
  asleep : Bool
  unlocked : Bool
  deriving DecidableEq, Repr


/-- A sequenced barrier frame (R536): SEQ, TYPE, payload and the times it has been sent. -/
structure BFrame where
  seq : Nat
  ftype : Nat
  body : List Byte
  sends : Nat
  deriving DecidableEq, Repr

/-- One end of the barrier channel (R536 to R539): its receiver synchronised, HELLO sent and received since, the link UP, the
SEQ of its next sequenced frame, its unacknowledged frames, the frames (TYPE, payload) that wait, the SEQ it accepts next,
and whether it sleeps. -/
structure BarEnd where
  sync : Bool
  hsent : Bool
  hgot : Bool
  up : Bool
  tx : Nat
  unacked : List BFrame
  wait : List (Nat × List Byte)
  rx : Nat
  asleep : Bool
  deriving DecidableEq, Repr

/-- The fabric end of the barrier (R533 to R544): its end of the channel, the SEQ of the next ALARM and the unacknowledged
ALARMs as (SEQ, MINWIDTH), the SETCFG to be sent again after the next UP, the latest CFGRPT, and the REGREQs in order of
arrival, the first one running (R584). -/
structure BcState where
  fab : BarEnd
  aseq : Nat
  alarms : List (Nat × Nat)
  setcfg : Option (List Byte)
  report : Option (List Byte)
  reqs : List (List Byte)
  deriving DecidableEq, Repr

/-- Watchtower (R508 to R532): whether it runs; WSTATE; the two seating pins low, a release in progress; the sampled SLOT_ID;
the gate (0 off, 1 ramping, 2 fully on), a ramp paused for want of a feed; the converter; PGOOD and PFW; the fault timer, the
retry timer, the pass-transistor trip, overvoltage; the valid feeds; the latest fault cause; the telemetry; the seven
counters of the status block and the barrier repeats; the copy of SWLVL, the running pulse, the level that waits for its end,
the SEQ of the last ALARM acted on; the register request in flight and the latest response; the MCTP packet being written with
its tries; its end of the channel. Non-volatile: the retry count, the latch, the settings block in force and the older copy
(R521, R527). -/
structure WtState where
  on : Bool
  ws : Nat
  seat1 : Bool
  seat2 : Bool
  rel : Bool
  slot : Nat
  gate : Nat
  paused : Bool
  conv : Bool
  pgood : Bool
  pfw : Bool
  ftmr : Bool
  retry : Bool
  trip : Bool
  ov : Bool
  aOk : Bool
  bOk : Bool
  cause : Nat
  tel : Telem
  cnt : List Nat
  repeats : Nat
  swlvl : Bool
  pulse : Bool
  swNext : Option Bool
  lastAlarm : Option Nat
  regPend : Bool
  regRsp : Option (List Byte)
  mout : Option (List Byte × Nat)
  bar : BarEnd
  retries : Nat
  latched : Bool
  cfg : List Byte
  older : List Byte
  deriving DecidableEq, Repr


/-- The one-time-programmable fuses that change after manufacture (R557): CKHASH1-4, CKREV, FWFUSE and CFGFUSE. -/
structure Otp where
  ckHash : SMap Nat
  ckRev : Nat
  fwFuse : Nat
  cfgFuse : Nat
  deriving DecidableEq, Repr

/-- A Transfer FW sequence (R573): its slot, the ranges of bytes received, and the bytes of incomplete pages by offset. -/
structure FwXfer where
  slot : Nat
  got : List (Nat × Nat)
  part : SMap Byte
  deriving DecidableEq, Repr

/-- The load engine and attestation: the open session's slot (R569), the running command as (OP, slot, offset, length), the
Transfer FW sequence, and the open secured sessions of each SPDM endpoint (R574), and the digests fixed at step 5 of start-up:
firmware, version, security versions, configuration, hardware configuration (R576). The bytes that a running WRITE programs
are those of the buffer at its issue (R572). -/
structure LdState where
  session : Option Nat
  run : Option (Nat × Nat × Nat × Nat)
  buf : List Byte
  fw : Option FwXfer
  sessions : SMap Nat
  meas : List Nat
  deriving DecidableEq, Repr

/-- A window-port beat in progress: its index in the burst (0 in single mode), space, address, size, whether it writes, its
data, the master whose access started it, the WIN_DATA access that it completes in single mode (R590), and the answer of the home
or the Cupola once it has come (data, poison). -/
structure Beat where
  idx : Nat
  space : Nat
  addr : Nat
  size : Nat
  write : Bool
  data : Nat
  path : Path
  acc : Option AccSrc
  res : Option (Nat × Bool)
  deriving DecidableEq, Repr

/-- A window-port burst (R591): read or write, its beats (after an ABORT, the beats issued), WIN_DATA words per beat, words
filled (write), beats issued, beats ended, words read back (read), and the master that started it. -/
structure Burst where
  write : Bool
  beats : Nat
  wpb : Nat
  filled : Nat
  issued : Nat
  ended : Nat
  rdpos : Nat
  path : Path
  deriving DecidableEq, Repr

/-- A WIN_DATA access that waits: its path and what it belongs to, whether it writes, its data, and the burst word that a
read waits for. -/
structure WinAcc where
  path : Path
  src : AccSrc
  write : Bool
  data : Nat
  word : Nat
  deriving DecidableEq, Repr

/-- Management access: the captured _HI shadows and staged _LO words of R20 (by register address), the accesses in
flight, and the window port: its staged half (of a write, or the high half of a read), its burst, its beat in progress, the
reads that wait for a staged word, and the single-mode accesses that wait for the beat in progress. -/
structure MgState where
  shadow : SMap Nat
  staged : SMap Nat
  pend : List PendAcc
  half : Option (Bool × Nat)
  burst : Option Burst
  beat : Option Beat
  waiting : List WinAcc
  queue : List WinAcc
  deriving DecidableEq, Repr

/-- Scratchpad arbitration: the accesses that wait for port B with their bank, and the rotating pointer of each bank
(R594). -/
structure SpState where
  wait : List (Nat × SpReq)
  ptr : SMap Nat
  deriving DecidableEq, Repr


/-- A RESPONSE being verified (R645, R646): the nonce captured within 60 s and not used, if any, and the 1,032 bits. -/
structure DtVerify where
  nonce : Option Nat
  bits : Nat
  deriving DecidableEq, Repr

/-- The TAP and unlock (R640 to R651): the instruction register, the boundary register, the result of the latest DBGACC access
as (status, data), the nonce with the time of its capture in ns, the running verification, the times of the failures that
still count toward the lockout, the arrays of a running self-test, and those whose contents a self-test has destroyed (R651). -/
structure DtState where
  ir : Nat
  bsr : Nat
  res : Nat × Nat
  nonce : Option (Nat × Nat)
  verify : Option DtVerify
  fails : List Nat
  bist : Option Nat
  spoiled : Nat
  deriving DecidableEq, Repr

/-- What the block sends: answers, frames, messages and signals. `out` keeps them in the order sent; it is the model's
own record of the block's outputs, newest first. -/
inductive Emit where
  /-- The end of a management access on a path: whether it wrote, its status (R581) and its read data. -/
  | mgmt (p : Path) (write : Bool) (status data : Nat)
  /-- The end of a scratchpad access of a master (R594). -/
  | spDone (master status data : Nat)
  /-- A FAULT frame to a stack ID (R475). -/
  | faultFrame (dest : Nat) (m : FMsg)
  /-- A Dome read's answer: Dome offset, requester, poison, the 64-byte line (R326). -/
  | domeData (off master : Nat) (poison : Bool) (data : Nat)
  /-- A response to an internal tag that was accepted, or discarded as late (R23). -/
  | tagRsp (r : TagRsp) (accepted : Bool)
  /-- The end of an FM API command or of a policy record: the command and its return code (R45, R46). -/
  | fmDone (c : FmCmd) (ret : Nat)
  /-- The hot-plug event of a vPPB: bound or unbound (R47, R62). -/
  | vppb (port vppb : Nat) (bound : Bool)
  /-- An Add Capacity event to a tenant's host: the records as (tag, first extent index, extents) (R53). -/
  | addCapacity (tid : Nat) (records : List AddExt)
  /-- A Release Capacity event to a tenant's host (R56). -/
  | relCapacity (tid : Nat) (list : List (Nat × Nat))
  /-- A Dynamic Capacity event to the fabric manager: an add timed out (R55). -/
  | dcTimeout (tid tag : Nat)
  /-- The answer to a host's Add Dynamic Capacity Response or Release Dynamic Capacity. -/
  | hostCci (tid ret : Nat)
  /-- The allowed part of a request with denied and allowed parts goes on (R358). -/
  | part (rid addr len : Nat)
  /-- A rejected or late completion of a tenant's request is discarded (R31). -/
  | lateCpl (tid rid : Nat)
  /-- The end of an add, by tenant and tag, with its FM API return code (R49 to R55). -/
  | fmAdd (tid tag ret : Nat)
  /-- A coherence message to an agent, with its opcode (R95). -/
  | coh (dst opc : Nat) (m : Coh)
  /-- The answer to a host's CXL.mem request: MetaValue it names (0 Invalid, 1 Shared, 2 Any, 3 none) and data with poison. -/
  | s2m (port rid mv : Nat) (data : Option (Nat × Bool))
  /-- A BISnp of a kind (0 Cur, 1 Data, 2 Inv) to a tenant of a host port, not sent before a time in ns (R118, R122). -/
  | bisnp (port tid addr kind notBefore : Nat)
  /-- A completion of a host's CXL.io read (R159): request, tenant address, lines, data and poison. -/
  | ioCpl (port rid addr lines data : Nat) (poison : Bool)
  /-- BIConflictAck (R88). -/
  | biConflictAck (port tid addr : Nat)
  /-- A translated and granted request leaves for the home of its GPA (R40, R186). -/
  | routed (rid gpa : Nat)
  /-- A message sent on an egress port, with the BAD flag where it is sent BAD (R198). -/
  | msgOut (eg rid : Nat) (bad : Bool)
  /-- A response that Terroth made leaves on an egress port: the request, the response, and the internal tag and generation that it
  returns (R215, R220). -/
  | reply (eg rid : Nat) (r : Reply) (tag : Option TagRsp)
  /-- A message nullified on a non-FLIT egress: EDB and inverted LCRC (R198). -/
  | nullified (eg rid : Nat)
  /-- The response that ends a request without its effect. -/
  | rsp (rid : Nat) (k : RspKind)
  /-- A message rejected at link level, to be retransmitted by the ingress link (R199). -/
  | linkRetry (ing rid : Nat)
  /-- A host port withholds credit, or returns it: M2S Req, M2S RwD, posted and non-posted credit for a full pacing queue (`pacing`, R244),
  M2S Req credit alone for the home or the Cupola (R111, R123). -/
  | creditHold (port : Nat) (pacing held : Bool)
  /-- The link credits of a message returned when its last cell has crossed (R195). -/
  | credits (ing rid : Nat)
  /-- A posted request that matches no route, reported through AER on the ingress vPPB (R181). -/
  | aer (ing rid : Nat)
  /-- An ALLOC frame to a peer: OP, RESULT, TAG, first local extent and count (R655). -/
  | alloc (dest op result tag first count : Nat)
  /-- The hot-plug event Presence Detect Changed of a DOWN port's bound vPPB (R376). -/
  | presence (port : Nat) (present : Bool)
  /-- PERST_N driven by a DOWN port: low or high (R374). -/
  | perst (port : Nat) (low : Bool)
  /-- What a port advertises to its partner in training (R365, R388): the width of its tags in bits, the maximum payload size and maximum
  read request size that it supports, in bytes, its L0s and L1 exit latencies in ns, and that it is a PTM responder. -/
  | linkCaps (port tagBits maxPayload maxRead l0sExit l1Exit : Nat) (ptm : Bool)
  /-- What a lane under test sends in 10 ns on its transmit contact: the levels of its symbols in order (R397, R401). -/
  | laneTx (lane : Nat) (levels : List Nat)
  /-- A partner's L1 request rejected, in ASPM with PM_Active_State_Nak (R387). -/
  | l1Reject (port : Nat) (aspm : Bool)
  /-- A frame leaves on a Spire port in the DATA flit of that FSEQ (R412, R416). -/
  | frame (port fseq : Nat) (f : SlFrame)
  /-- A Spire flit as it leaves a port: its 128 bytes, byte 0 lowest (R412). -/
  | flit (port bytes : Nat)
  /-- What the IDENT flits of a Spire port carry in training (R425): stack ID, port number, NMOD, plan digest and INC. -/
  | ident (sid port nmod digest inc : Nat)
  /-- A replay of the replay buffer from an FSEQ (R414). -/
  | replay (port fseq : Nat)
  /-- A NAK flit with the last accepted FSEQ (R413). -/
  | nak (port aseq : Nat)
  /-- A sequenced frame delivered to its block: source, frame type and body (R420). -/
  | deliver (src ftype body : Nat)
  /-- A barrier frame leaves (R533 to R540): toward the fabric end or toward Watchtower, TYPE, SEQ and payload. -/
  | barrier (toFab : Bool) (ftype seq : Nat) (body : List Byte)
  /-- Watchtower resumes its idle characters to wake a sleeping fabric end (R539). -/
  | barrierWake
  /-- What Watchtower answers on the chassis management bus to a command code (R529). -/
  | smbRead (code : Nat) (data : List Byte)
  /-- Watchtower NACKs a command code (R529, R530). -/
  | smbNack (code : Nat)
  /-- Watchtower writes an MCTP packet as SMBus controller: address, then packet (R530). -/
  | smbWrite (data : List Byte)
  /-- Watchtower releases the bus (R529). -/
  | smbRelease
  /-- ALM_N driven low or released (R532). -/
  | almN (low : Bool)
  /-- The pass transistor's gate: 0 off, 1 ramping, 2 fully on (R510, R511). -/
  | gate (g : Nat)
  /-- The isolated converter enabled or disabled (R524). -/
  | converter (on : Bool)
  /-- An MCTP packet passes to Turret (R541). -/
  | mctpIn (data : List Byte)
  /-- The answer of a CCI command: path, return code, payload (R573, R585). -/
  | cciRsp (p : Path) (ret : Nat) (body : List Nat)
  /-- The answer of the SPDM responder at an endpoint: response code and payload fields (R574 to R576). -/
  | spdm (ep code : Nat) (body : List Nat)
  /-- A PLDM event of a sensor's state: warning, critical (R635). -/
  | pldm (sensor : Nat) (warn crit : Bool)
  /-- A Dome controller sets an RDIMM's refresh to double or normal rate (R636): sensor number. -/
  | refresh (sensor : Nat) (double : Bool)
  /-- The fabric-side supplies turned off by the sequencer (R637). -/
  | suppliesOff
  /-- What the TAP shifts out: number of bits, value (R640 to R645). -/
  | tdo (nbits value : Nat)
  /-- The boundary register drives the pins (R640, R641). -/
  | boundary (value : Nat)
  /-- TMUXn drives signal SIG of an instance, or is held low (R649). -/
  | tmux (n sig inst : Nat) (low : Bool)
  deriving DecidableEq, Repr

/-- The fabric and feed sides: register fields by key (default: the reset value), the image values of IMG fields,
what has been sent, the free-value counter, the internal tags, and the state of each block. -/
structure Hw where
  /-- The register fields, by field id * 65536 + instance; an unlisted field holds its reset value. -/
  regs : SMap Nat
  /-- The active configuration image's values of the IMG fields, by the same key; an unlisted field takes the image default. -/
  img : SMap Nat
  /-- What the block has sent, newest first. -/
  out : List Emit
  /-- The model's own counter: each free value is `Config.freeNat` at its present count. -/
  free : Nat
  /-- Internal tags: block and tag number to twice the generation, plus 1 while the tag awaits its response (R23). -/
  tags : SMap Nat
  mg : MgState
  sp : SpState
  fc : FcState
  ck : CkState
  dd : DdState
  ag : AgState
  /-- Stack time in ns (R438 to R440). -/
  stime : Nat
  bd : BdState
  sw : SwState
  ts : TsState
  fp : FpState
  hd : HdState
  cu : CuState
  dm : DmState
  sl : SlState
  bc : BcState
  wt : WtState
  otp : Otp
  ld : LdState
  dt : DtState
  deriving DecidableEq, Repr

/-- An end of the barrier channel that has not synchronised. -/
def BarEnd.down : BarEnd := ⟨false, false, false, false, 0, [], [], 0, false⟩

/-- The fabric end without power. -/
def BcState.off : BcState := ⟨BarEnd.down, 0, [], none, none, []⟩

/-- The factory contents of Watchtower's settings, bytes 0 to 13 (R527), and their CRC (polynomial 0x1021, initial value
0xFFFF). -/
def factoryCfg : List Byte := [0, 75, 25, 20, 100, 0, 3, 76, 100, 3, 0, 0, 0, 0, 9, 10]

/-- Watchtower in FEED-OFF, with the factory settings. -/
def WtState.off : WtState where
  on := false
  ws := 0
  seat1 := false
  seat2 := false
  rel := false
  slot := 0
  gate := 0
  paused := false
  conv := false
  pgood := false
  pfw := false
  ftmr := false
  retry := false
  trip := false
  ov := false
  aOk := false
  bOk := false
  cause := 0
  tel := ⟨false, false, 0, 0, 0, 0, 0⟩
  cnt := [0, 0, 0, 0, 0, 0, 0]
  repeats := 0
  swlvl := false
  pulse := false
  swNext := none
  lastAlarm := none
  regPend := false
  regRsp := none
  mout := none
  bar := BarEnd.down
  retries := 0
  latched := false
  cfg := factoryCfg
  older := factoryCfg

/-- The clocks of an unpowered fabric side. -/
def CkState.off : CkState := ⟨0, 0, none, none, none, false, false, false, none, false, false⟩

/-- The load engine with nothing open. -/
def LdState.idle : LdState := ⟨none, none, [], none, [], []⟩

/-- No management access in flight. -/
def MgState.idle : MgState := ⟨[], [], [], none, none, none, [], []⟩

/-- The TAP in Test-Logic-Reset (IDCODE selected). -/
def DtState.idle : DtState := ⟨2, 0, (0, 0), none, none, [], none, 0⟩


/-- The memories: Dome by Dome offset (unlisted bytes read 0), the attributes of its physical lines by
channel * 2^40 + line index (unlisted: hint 0, not poisoned), the scratchpad by offset from 0x1000_0000 (unlisted bytes
read 0), its words that hold an ECC error (1 correctable, 2 uncorrectable) by word index, the configuration flash
(unlisted bytes read 0xFF, erased), and the open row of each bank of the RDIMMs (R319; an unlisted bank has none open). -/
structure Mem where
  dome : List Host.Cell
  lines : SMap LineAttr
  sp : List Host.Cell
  spBad : SMap Nat
  flash : List Host.Cell
  rows : SMap Nat
  deriving DecidableEq, Repr

/-- Everything a command can change. -/
structure Mach where
  mem : Mem
  hw : Hw
  deriving DecidableEq, Repr

/-- The state of the block: the commands that wait, first in first out, and the machine. -/
structure State where
  pending : List Instr
  mach : Mach
  deriving DecidableEq, Repr

/-- Why a step stops with a fault. -/
inductive Fault where
  /-- The command is an event that the spec says cannot occur in the state it meets; raised by the Upgrade of
  R89 and the coherence tables of R139, R140 and R146 (the rule's number). Safe: the spec gives the event no effect there. -/
  | cannotOccur (rule : Nat)
  deriving DecidableEq, Repr

/-- Why a step refuses a command. -/
inductive Refusal where
  /-- The command has no meaning in the model yet (its mnemonic); raised by `exec`. Safe. -/
  | notModelled (mnemonic : String)
  deriving DecidableEq, Repr

/-- The fabric and feed sides in FEED-OFF: every register field at its reset value (R19), every table empty. -/
def Hw.reset : Hw where
  regs := []
  img := []
  out := []
  free := 0
  tags := []
  mg := MgState.idle
  sp := ⟨[], []⟩
  fc := ⟨[], [], 0, 0, [], []⟩
  ck := CkState.off
  dd := ⟨[], 0, false, false, []⟩
  ag := ⟨[], []⟩
  stime := 0
  bd := ⟨[], [], [], [], [], [], [], [], [], [], [], [], [], [], [], [], [], 0⟩
  sw := ⟨[], [], [], [], [], 0, 0, none, 0, none, 0, [], [], [], 0, [], [], [], [], [], [], []⟩
  ts := ⟨[], [], [], [], [], 0, [], [], [], [], [], [], [], [], [], [], []⟩
  fp := ⟨[], [], [], [], [], [], [], [], [], [], [], [], [], [], [], [], []⟩
  hd := ⟨[], [], [], [], [], [], [], [], [], [], [], 0, [], [], [], [], [], [], []⟩
  cu := ⟨[], [], [], []⟩
  dm := ⟨[], [], [], [], [], [], [], 0⟩
  sl := ⟨[], [], 0, false, 0⟩
  bc := BcState.off
  wt := WtState.off
  otp := ⟨[], 0, 0, 0⟩
  ld := LdState.idle
  dt := DtState.idle

/-- The memories in FEED-OFF: Dome and scratchpad list nothing, the flash is erased. -/
def Mem.reset : Mem := ⟨[], [], [], [], [], []⟩

/-- The block right after reset: FEED-OFF, before a feed has risen (R495), with no command waiting. -/
def State.reset : State := ⟨[], ⟨Mem.reset, Hw.reset⟩⟩

end Sys2Proof.Machine
end

