-- ==== Sys2Proof/Machine/Store.lean ====
section
/-! DEFINITION. Sparse tables and byte memories in one canonical form (keys strictly rising; no entry equal to what
an unlisted key reads as), the operations on them, bit fields of numbers, and small list helpers. -/
namespace Sys2Proof.Machine

/-- Bits [lo+w-1:lo] of `n` (R11). -/
def bits (n lo w : Nat) : Nat := n / 2 ^ lo % 2 ^ w

/-- Bit `i` of `n`. -/
def bitAt (n i : Nat) : Bool := n / 2 ^ i % 2 == 1

/-- A Boolean as a one-bit field. -/
def b2n (b : Bool) : Nat := if b then 1 else 0

/-- `n` with bits [lo+w-1:lo] replaced by `v`. -/
def putBits (n lo w v : Nat) : Nat := n - bits n lo w * 2 ^ lo + v % 2 ^ w * 2 ^ lo

/-- Saturating addition to a `w`-bit counter. -/
def satAdd (w a n : Nat) : Nat := min (a + n) (2 ^ w - 1)

namespace Store

variable {α : Type}

/-- The entry at key `k`, if listed: the first one of that key. -/
def get? (m : SMap α) (k : Nat) : Option α :=
  match m with
  | [] => none
  | (k', v) :: r => if k' = k then some v else get? r k

/-- `m` with `v` listed at key `k`. -/
def put (m : SMap α) (k : Nat) (v : α) : SMap α :=
  match m with
  | [] => [(k, v)]
  | (k', v') :: r =>
    if k < k' then (k, v) :: (k', v') :: r
    else if k' = k then (k, v) :: r
    else (k', v') :: put r k v

/-- `m` with key `k` unlisted. -/
def del (m : SMap α) (k : Nat) : SMap α := m.filter (fun e => decide (e.1 ≠ k))

/-- The value at `k`, `d` where unlisted. -/
def getD (d : α) (m : SMap α) (k : Nat) : α := (get? m k).getD d

/-- `m` with value `v` at `k`; a value equal to the unlisted value `d` is unlisted. -/
def setD [DecidableEq α] (d : α) (m : SMap α) (k : Nat) (v : α) : SMap α :=
  if v = d then del m k else put m k v

/-- The entry at `k` changed by `f`, where listed. -/
def modify (m : SMap α) (k : Nat) (f : α → α) : SMap α :=
  match get? m k with
  | some v => put m k (f v)
  | none => m

/-- The keys are strictly rising, all above `lo`. -/
def sortedFrom (lo : Nat) (m : SMap α) : Bool :=
  match m with
  | [] => true
  | (k, _) :: r => decide (lo ≤ k) && sortedFrom (k + 1) r

/-- The canonical form of a table whose unlisted keys are absent: keys strictly rising. -/
def sorted (m : SMap α) : Bool := sortedFrom 0 m

/-- The canonical form of a memory whose unlisted addresses read as `d`: keys strictly rising and no entry
equal to `d`. -/
def wf [DecidableEq α] (d : α) (m : SMap α) : Bool := sorted m && m.all (fun e => decide (e.2 ≠ d))

/-- `m` without the entries whose key satisfies `p`. -/
def dropWhere (m : SMap α) (p : Nat → Bool) : SMap α := m.filter (fun e => !p e.1)

/-- The values in rising order of key. -/
def vals (m : SMap α) : List α := m.map Prod.snd

/-- The least `i` in `[start, start + fuel)` whose key `base + i` is unlisted. -/
def firstFree (m : SMap α) (base : Nat) : Nat → Nat → Option Nat
  | _, 0 => none
  | i, fuel + 1 => if (get? m (base + i)).isNone then some i else firstFree m base (i + 1) fuel

end Store

/-- The `n` bytes of memory `m` from address `a`, little-endian (R13); an unlisted byte reads as `d`. -/
def readLE (d : Byte) (m : SMap Byte) (a : Nat) : Nat → Nat
  | 0 => 0
  | n + 1 => (Store.getD d m a).toNat + 256 * readLE d m (a + 1) n

/-- Memory `m` with `v` stored little-endian in the `n` bytes from address `a`. -/
def writeLE (d : Byte) (m : SMap Byte) (a : Nat) (v : Nat) : Nat → SMap Byte
  | 0 => m
  | n + 1 => writeLE d (Store.setD d m a (BitVec.ofNat 8 v)) (a + 1) (v / 256) n

/-- `writeLE` limited to the bytes whose bit in `en` is 1. -/
def writeEn (d : Byte) (m : SMap Byte) (a : Nat) (v en : Nat) : Nat → SMap Byte
  | 0 => m
  | n + 1 =>
    writeEn d (if en % 2 = 1 then Store.setD d m a (BitVec.ofNat 8 v) else m) (a + 1) (v / 256) (en / 2) n

/-- Memory `m` with the bytes `bs` stored from address `a`. -/
def writeBytes (d : Byte) (m : SMap Byte) (a : Nat) : List Byte → SMap Byte
  | [] => m
  | b :: r => writeBytes d (Store.setD d m a b) (a + 1) r

/-- The `n` bytes from address `a`. -/
def readBytes (d : Byte) (m : SMap Byte) (a : Nat) : Nat → List Byte
  | 0 => []
  | n + 1 => Store.getD d m a :: readBytes d m (a + 1) n

/-- The first of `start, start+1, …` modulo `n` (at most `fuel` tried) that satisfies `p`. -/
def rotFind (p : Nat → Bool) (n start : Nat) : Nat → Option Nat
  | 0 => none
  | fuel + 1 => if p (start % n) then some (start % n) else rotFind p n (start + 1) fuel

/-- `f` applied at each of `i, …, i+n-1` in turn. -/
def iterN {σ : Type} (f : Nat → σ → σ) (i : Nat) : Nat → σ → σ
  | 0, s => s
  | n + 1, s => iterN f (i + 1) n (f i s)

/-- The list with its first element that satisfies `p` removed. -/
def removeFirst {α : Type} (p : α → Bool) : List α → List α
  | [] => []
  | x :: r => if p x then r else x :: removeFirst p r

/-- The list with its first element that satisfies `p` changed by `f`. -/
def updateFirst {α : Type} (p : α → Bool) (f : α → α) : List α → List α
  | [] => []
  | x :: r => if p x then f x :: r else x :: updateFirst p f r

end Sys2Proof.Machine
end

