-- ==== Sys2Proof/Machine/Ops.lean ====
section
/-! DEFINITION. The named operations every block shares: reading and updating register fields, counters, sending,
free values, internal tags, raising a fault message into its block's queue (R453, R454), and the lifting of an effect
on the machine to an outcome of the block. -/
namespace Sys2Proof.Machine

/-- What a command ends in. -/
abbrev Out := Host.Outcome State Fault Refusal

/-- The effect `f` on the machine, the queue of waiting commands left as it is. -/
def onMach (f : Mach → Mach) (s : State) : Out := .next { s with mach := f s.mach }

/-- The effect `f` on the fabric and feed sides, the memories and the queue left as they are. -/
def onHw (f : Hw → Hw) (s : State) : Out := .next { s with mach := { s.mach with hw := f s.mach.hw } }

/-- An effect on the machine that may stop. -/
def onMachF (f : Mach → Host.Outcome Mach Fault Refusal) (s : State) : Out :=
  match f s.mach with
  | .next m => .next { s with mach := m }
  | .fault r => .fault r
  | .refused r => .refused r

/-- An effect on the fabric and feed sides that may stop. -/
def onHwF (f : Hw → Host.Outcome Hw Fault Refusal) (s : State) : Out :=
  match f s.mach.hw with
  | .next h => .next { s with mach := { s.mach with hw := h } }
  | .fault r => .fault r
  | .refused r => .refused r

/-- `f` applied to the fabric and feed sides of the machine. -/
def Mach.onHw (f : Hw → Hw) (m : Mach) : Mach := { m with hw := f m.hw }

/-- The key of instance `i` of field `f` in the register file. -/
def fkey (f : Fld) (i : Nat) : Nat := f.id * 65536 + i

/-- The value that instance `i` of field `f` takes at reset before the image is applied (R19, R462 for the reactions). -/
def rstOf (f : Fld) (i : Nat) : Nat :=
  if f.id = F.FC_DCFG_REACT3.id then ([1, 2, 2, 0, 1, 0, 1] : List Nat).getD i 0
  else if f.id = F.FC_DCFG_REACT4.id then (if i = 0 then 2 else 3)
  else if f.id = F.HD_SLSTAT_LSLICE.id then (if i < 16 then i else 0)
  else if f.id = F.HD_SLSTAT_ROLE.id then (if i = 16 then 1 else 0)
  else if f.id = F.ID_PART_PART.id then 0x7272
  else if f.id = F.ID_PART_REVMAJ.id then bits Config.silicon 0 8
  else if f.id = F.ID_PART_REVMIN.id then bits Config.silicon 8 8
  else if f.id = F.ID_VARIANT_COOL.id then b2n Config.coldPlate
  else if f.id = F.ID_SERIAL_LO_VAL.id then bits Config.serial 0 32
  else if f.id = F.ID_SERIAL_HI_VAL.id then bits Config.serial 32 32
  else if f.id = F.DT_IDCODE_VAL.id then 
    bits Config.silicon 0 4 * 2 ^ 28 + 0x7272 * 2 ^ 12 + bits Config.manufacturer 0 11 * 2 + 1
  else f.rst

/-- The value of instance `i` of field `f`. -/
def Hw.fget (h : Hw) (f : Fld) (i : Nat) : Nat := Store.getD (rstOf f i) h.regs (fkey f i)

/-- Field `f`, instance `i`, set to `v`, cut to its width. -/
def Hw.fset (h : Hw) (f : Fld) (i v : Nat) : Hw :=
  { h with regs := Store.setD (rstOf f i) h.regs (fkey f i) (v % 2 ^ f.width) }

/-- Field `f`, instance `i`, a counter that saturates at its width, raised by `n`. -/
def Hw.fadd (h : Hw) (f : Fld) (i n : Nat) : Hw := h.fset f i (satAdd f.width (h.fget f i) n)

/-- A one-bit field read as a Boolean. -/
def Hw.flag (h : Hw) (f : Fld) (i : Nat) : Bool := h.fget f i == 1

/-- `h` after sending `e`. -/
def Hw.emit (h : Hw) (e : Emit) : Hw := { h with out := e :: h.out }

/-- The next free value and the state that has taken it. -/
def Hw.takeFree (h : Hw) : Nat × Hw := (Config.freeNat h.free, { h with free := h.free + 1 })

/-- The number of a block's tag space. -/
def tagBase (b : TagBlk) : Nat :=
  match b with
  | .bd => 0 | .hd => 1 | .cu => 2 | .sw => 3 | .dm => 4 | .ck => 5 | .dd c => 16 + c

/-- The key of a tag. -/
def tagKey (b : TagBlk) (t : Nat) : Nat := tagBase b * 2 ^ 64 + t

/-- The present generation of a tag (R23). -/
def Hw.tagGen (h : Hw) (b : TagBlk) (t : Nat) : Nat := Store.getD 0 h.tags (tagKey b t) / 2

/-- Whether a tag awaits its response. -/
def Hw.tagOpen (h : Hw) (b : TagBlk) (t : Nat) : Bool := Store.getD 0 h.tags (tagKey b t) % 2 == 1

/-- The tag taken for a transaction. -/
def Hw.openTag (h : Hw) (b : TagBlk) (t : Nat) : Hw :=
  { h with tags := Store.setD 0 h.tags (tagKey b t) (h.tagGen b t * 2 + 1) }

/-- The tag closed: its generation advances, modulo 16, so that a later response does not match (R23). -/
def Hw.closeTag (h : Hw) (b : TagBlk) (t : Nat) : Hw :=
  { h with tags := Store.setD 0 h.tags (tagKey b t) ((h.tagGen b t + 1) % 16 * 2) }

/-- The open tags whose keys `p` picks close (R23). -/
def Hw.closeWhere (h : Hw) (p : Nat → Bool) : Hw :=
  let hit := h.tags.filter (fun x => x.2 % 2 == 1 && p x.1)
  { h with tags := hit.foldl (fun m x => Store.setD 0 m x.1 ((x.2 / 2 + 1) % 16 * 2)) h.tags }

/-- The late counter of the block that a response reaches (R23). -/
def Hw.countLate (h : Hw) (b : TagBlk) : Hw :=
  match b with
  | .bd => h.fadd F.BD_LATE_VAL 0 1
  | .hd => h.fadd F.HD_LATE_VAL 0 1
  | .cu => h.fadd F.CU_LATE_VAL 0 1
  | .sw => h.fadd F.SW_LATE_VAL 0 1
  | .dm => h.fadd F.DM_LATE_VAL 0 1
  | .ck => h.fadd F.CK_LATE_VAL 0 1
  | .dd c => h.fadd F.DD_LATE_VAL c 1

/-- This module's stack ID in effect. -/
def Hw.sid (h : Hw) : Nat := h.fget F.SL_STKSTAT_SID 0

/-- The fault class of a message (R451). -/
def clsOf (m : FMsg) : Nat := bits m.code 12 4

/-- The queue of position `p` (R453, R654). -/
def Hw.queue (h : Hw) (p : Nat) : List FMsg := Store.getD [] h.fc.queues p

/-- `h` with the queue of position `p` replaced. -/
def Hw.setQueue (h : Hw) (p : Nat) (q : List FMsg) : Hw :=
  { h with fc := { h.fc with queues := Store.setD [] h.fc.queues p q } }

/-- A queue with its newest message of class 0 or 1 without HELD removed (R454). -/
def displaceLow (q : List FMsg) : List FMsg :=
  (removeFirst (fun m => decide (clsOf m ≤ 1) && m.held == 0) q.reverse).reverse

/-- R454, R654: a message enters the queue of position `p`, displaces a lower one, waits outside, or is dropped. -/
def Hw.enqueueFault (h : Hw) (p : Nat) (m : FMsg) : Hw :=
  let q := h.queue p
  let held := decide (m.held = 1 ∧ p ≠ 16)
  if q.length < 8 then h.setQueue p (q ++ [m])
  else if clsOf m ≤ 1 ∧ held = false then h.fadd F.FC_DROP_VAL 0 1
  else
    let q' := displaceLow q
    if q'.length < q.length then (h.setQueue p (q' ++ [m])).fadd F.FC_DROP_VAL 0 1
    else if held then { h with fc := { h.fc with outside := h.fc.outside ++ [m] } }
    else
      let h1 := h.fadd F.FC_DROP_VAL 0 1
      if p = 16 then h1 else h1.fset F.FC_STAT_LOSTHI 0 1

/-- What the source block gives of a fault message: code, domain and instance, address, source unit, access type,
master and HELD (R446 to R450). -/
structure FaultSrc where
  code : Nat
  dom : Nat
  dinst : Nat
  addr : Nat := 0
  unit : Nat := 0
  atype : Nat := 0
  master : Nat := 0xFFFF
  held : Nat := 0

/-- R447, R453: the message of `f` is formed with stack time and this module's stack ID and enters its block's queue. -/
def Hw.raise (h : Hw) (f : FaultSrc) : Hw :=
  h.enqueueFault (bits f.code 8 4)
    { time := h.stime, addr := f.addr % 2 ^ 64, code := f.code, master := f.master, srcunit := f.unit,
      atype := f.atype, domain := f.dom, held := f.held, dinst := f.dinst, origin := h.sid, remote := 0, seq := 0 }

/-- The domain codes of R455. -/
def domDevice : Nat := 0
/-- PORT (R455). -/
def domPort : Nat := 1
/-- TENANT (R455). -/
def domTenant : Nat := 2
/-- CHANNEL (R455). -/
def domChannel : Nat := 3
/-- SPIRE (R455): ports 0 to 3, peers 4 + stack ID. -/
def domSpire : Nat := 4
/-- SLICE (R455). -/
def domSlice : Nat := 5
/-- ENGINE (R455). -/
def domEngine : Nat := 6

/-- The flat domain index of a domain code and instance (R455). -/
def didxOf (dom dinst : Nat) : Nat :=
  match dom with
  | 0 => 0
  | 1 => 1 + dinst
  | 2 => 128 + dinst
  | 3 => 73 + dinst
  | 4 => 85 + dinst
  | 5 => 97 + dinst
  | _ => 114 + dinst

/-- The domain code that a flat domain index names (R455); 7 for the reserved indices. -/
def domOf (didx : Nat) : Nat :=
  if didx = 0 then 0 else if didx < 73 then 1 else if didx < 85 then 3 else if didx < 97 then 4
  else if didx < 114 then 5 else if didx < 122 then 6 else if didx < 128 then 7 else if didx < 8320 then 2 else 7

/-- The fault state of an OK domain that nothing has touched. -/
def Dom.ok : Dom := ⟨0, 0, false, 0, 0, 0, false, false, false, false⟩

/-- The fault state of domain `didx`. -/
def Hw.dom (h : Hw) (didx : Nat) : Dom := Store.getD Dom.ok h.fc.doms didx

/-- `h` with the fault state of domain `didx` replaced. -/
def Hw.setDom (h : Hw) (didx : Nat) (d : Dom) : Hw :=
  { h with fc := { h.fc with doms := Store.setD Dom.ok h.fc.doms didx d } }

/-- Whether the CONTAIN action of a domain is in force (R460). -/
def Hw.contained (h : Hw) (didx : Nat) : Bool := (h.dom didx).contain

/-- The master ID of a path's register accesses (R450). -/
def pathMaster (p : Path) : Nat :=
  match p with
  | .turret => 0x6000 | .debug => 0x8000 | .barrier => 0xE000 | .cciMctp => 0xE001 | .cciMbox n => 0xE100 + n

/-- The field's part of a 32-bit register word. -/
def fldOf (f : Fld) (w : Nat) : Nat := bits w f.lo f.width

/-- R17, R316, R459: whether a value may be written to instance `i` of an RW field. -/
def fieldOk (f : Fld) (i v : Nat) : Bool :=
  f.resv.all (fun r => !decide (r.1 ≤ v ∧ v ≤ r.2)) &&
  (if f.id = F.DD_TTSLEN_VAL.id then decide (v % 3 = 0 ∧ 3 ≤ v ∧ v ≤ 32766)
   else if f.id = F.FC_DCFG_REACT2.id || f.id = F.FC_DCFG_REACT3.id || f.id = F.FC_DCFG_REACT4.id then
     !((i == 3 || i == 5) && (v == 1 || v == 2))
   else true)

/-- R16 to R18: the effect of a write of word `w` on one field: an RW field takes an encoding that is not reserved, a
W1C bit written 1 clears; every other field ignores the write. -/
def writeField (i w : Nat) (h : Hw) (f : Fld) : Hw :=
  let v := fldOf f w
  match f.acc with
  | .rw => if fieldOk f i v then h.fset f i v else h
  | .w1c => if v % 2 = 1 then h.fset f i 0 else h
  | _ => h

/-- R16: a write of SW_RTDATA_LO ignores the bits that R182 reserves in the entry, and one of BC_WCFG those that R527 reserves in the
settings; in every other register the bits outside its fields are the reserved ones. -/
def definedBits (r : Reg) (i w : Nat) : Nat :=
  if r.addr = R.SW_RTDATA_LO.addr then w &&& 0x01FFFFF3
  else if r.addr = R.BC_WCFG.addr then w &&& ([0xFFFFFF01, 0xFF0FFFFF, 0x000003FF, 0xFFFF0000] : List Nat).getD i 0
  else w

/-- R16 to R18: a write of word `w` to instance `i` of a register sets its RW fields and clears its W1C bits. -/
def writeReg (r : Reg) (i w : Nat) (h : Hw) : Hw := r.flds.foldl (writeField i (definedBits r i w)) h

/-- The ones of a 64-bit fuse (R557). -/
def ones (f : Nat) : Nat := ((List.range 64).filter (bitAt f)).length

/-! ### Bytes and CRC-32 -/

/-- A number as `n` bytes, little-endian. -/
def toLE (v : Nat) : Nat → List Byte
  | 0 => []
  | n + 1 => BitVec.ofNat 8 v :: toLE (v / 256) n

/-- One bit of the CRC of R412. -/
def crc32Bit (c : Nat) : Nat :=
  if c / 2 ^ 31 % 2 = 1 then Nat.xor (c * 2 % 2 ^ 32) 0x04C11DB7 else c * 2 % 2 ^ 32

/-- One byte of the CRC of R412, most significant bit first. -/
def crc32Byte (c : Nat) (b : Byte) : Nat :=
  let x := Nat.xor c (b.toNat * 2 ^ 24)
  crc32Bit (crc32Bit (crc32Bit (crc32Bit (crc32Bit (crc32Bit (crc32Bit (crc32Bit x)))))))

/-- R412: polynomial 0x04C1_1DB7, initial value 0xFFFF_FFFF, result complemented. -/
def crc32 (bs : List Byte) : Nat := Nat.xor (bs.foldl crc32Byte 0xFFFFFFFF) 0xFFFFFFFF

end Sys2Proof.Machine
end

