-- ==== Sys2Proof/Machine/Transport.lean ====
section
/-! DEFINITION. Route table entries (R182, R431) and the Spire transport: sequencing, the retransmit buffer and the hand-over of
frames to the Spire ports (R412, R414, R416 to R418, R421, R422), and the bodies of coherence and ALLOC frames (R93, R655). -/
namespace Sys2Proof.Machine

/-- The route table entry of an index (R182). -/
def Hw.route (h : Hw) (i : Nat) : Nat := Store.getD 0 h.sw.routes i

/-- EPOCH of a route entry. -/
def rtEpoch (r : Nat) : Nat := bits r 32 16
/-- RFLOOR of a route entry. -/
def rtFloor (r : Nat) : Nat := bits r 48 16
/-- TARGET of a route entry. -/
def rtTarget (r : Nat) : Nat := bits r 4 13

/-- R431: the egress of a unicast route entry: the alternate where the primary Spire port is not UP. -/
def egressOf (h : Hw) (i : Nat) : Nat :=
  let r := h.route i
  let t := rtTarget r
  if i < 8 ∧ bitAt r 24 ∧ 72 ≤ t ∧ t < 80 ∧ h.fget F.SL_PSTAT_STATE ((t - 72) / 2) ≠ 2 then bits r 17 7 else t

/-! ### Ports -/

/-- A Spire port right after training: DATA flits start at FSEQ 0. -/
def SlPort.fresh : SlPort := ⟨0, [], [], 1023, false, false, false, []⟩

/-- The link state of Spire port `s`. -/
def Hw.slPort (h : Hw) (s : Nat) : SlPort := Store.getD SlPort.fresh h.sl.ports s

/-- The link state of Spire port `s` replaced. -/
def Hw.setSlPort (h : Hw) (s : Nat) (p : SlPort) : Hw :=
  { h with sl := { h.sl with ports := Store.setD SlPort.fresh h.sl.ports s p } }

/-- Whether a Spire port is UP. -/
def Hw.slUp (h : Hw) (s : Nat) : Bool := h.fget F.SL_PSTAT_STATE s == 2

/-! ### Frames and flits as bytes -/

/-- The 8 bytes of a frame's header (R416). -/
def headerWord (f : SlFrame) : Nat :=
  f.dst % 8 + f.src % 8 * 2 ^ 3 + f.hops % 4 * 2 ^ 6 + f.ftype % 16 * 2 ^ 8 + f.tseq % 2 ^ 24 * 2 ^ 12 + f.ackseq % 2 ^ 24 * 2 ^ 36 +
    b2n f.ackv * 2 ^ 60

/-- The bytes of a frame's body (R417). DESIGN CHOICE: 16 in a frame of a reserved type, to which the spec gives none. -/
def bodyLen (f : SlFrame) : Nat :=
  match f.ftype with
  | 0 => let op := f.body % 32; if op = 3 ∨ (0x10 ≤ op ∧ op ≤ 0x13) then 80 else 16
  | 1 => 0
  | 4 => 32
  | _ => 16

/-- ECRC of a frame (R416): over its header with HOPS 0, and its body. -/
def frameEcrc (f : SlFrame) : Nat := crc32 (toLE (headerWord { f with hops := 0 }) 8 ++ toLE f.body (bodyLen f))

/-- A frame as it is sent (R416): header, body and trailer. -/
def frameWord (f : SlFrame) : Nat :=
  headerWord f + f.body % 2 ^ (8 * bodyLen f) * 2 ^ 64 + (frameEcrc f + b2n f.bad * 2 ^ 32) * 2 ^ (64 + 8 * bodyLen f)

/-- Bytes 0 to 123 of a flit (R412). -/
def flitHead (ftype fseq aseq : Nat) (av : Bool) (payload : Nat) : List Byte :=
  toLE (ftype % 4 + fseq % 1024 * 2 ^ 2 + aseq % 1024 * 2 ^ 12 + b2n av * 2 ^ 22) 4 ++ toLE payload 120

/-- CRC of a flit (R412). -/
def flitCrc (ftype fseq aseq : Nat) (av : Bool) (payload : Nat) : Nat := crc32 (flitHead ftype fseq aseq av payload)

/-- The bytes of a list as a number, the first lowest. -/
def ofBytes (l : List Byte) : Nat := l.foldr (fun b n => b.toNat + 256 * n) 0

/-- The 128 bytes of a flit (R412). -/
def flitWord (ftype fseq aseq : Nat) (av : Bool) (payload : Nat) : Nat :=
  ofBytes (flitHead ftype fseq aseq av payload) + flitCrc ftype fseq aseq av payload * 2 ^ 992

/-- A flit leaves on port `s`, with the FSEQ of the last DATA flit received in order in ASEQ (R412). -/
def sendFlit (s ftype fseq payload : Nat) (h : Hw) : Hw :=
  let p := h.slPort s
  h.emit (.flit s (flitWord ftype fseq (if p.av then p.last else 0) p.av payload))

/-- R412: what port `s` has accepted is shown by the next flit that it sends. DESIGN CHOICE: one IDLE flit stands for the stream of them. -/
def sendIdle (s : Nat) (h : Hw) : Hw := if h.fget F.SL_PSTAT_TXPS s = 0 then sendFlit s 1 0 0 h else h

/-- A NAK flit of port `s` carries the FSEQ accepted last (R413). -/
def sendNak (s : Nat) (h : Hw) : Hw :=
  let p := h.slPort s
  (h.emit (.nak s p.last)).emit (.flit s (flitWord 2 0 p.last true 0))

/-- The replay buffer of port `s` is sent again, from its oldest flit (R414). -/
def sendReplay (s : Nat) (h : Hw) : Hw :=
  match (h.slPort s).unacked with
  | [] => h
  | x :: rest => (x :: rest).foldl (fun h y => sendFlit s 0 y.1 (frameWord y.2.2) h) (h.emit (.replay s x.1))

/-! ### Stack time -/

/-- DEPTH of this module's TIME frames (R438). -/
def timeDepth (h : Hw) : Nat :=
  if h.fget F.SL_STKSTAT_MASTER 0 = h.sid then 0 else if h.flag F.SL_STKSTAT_TSYNC 0 then h.sl.depth else 255

/-- The body of a TIME frame that leaves now (R417, R438). -/
def timeBody (h : Hw) : Nat := h.stime % 2 ^ 64 + timeDepth h * 2 ^ 64

/-- R438: a TIME frame of this module carries the stack time at which its first flit leaves. -/
def stampTime (h : Hw) (f : SlFrame) : SlFrame := if f.ftype = 3 ∧ f.src = h.sid then { f with body := timeBody h } else f

/-! ### Sending -/

/-- R442: HEARTBEAT, TIME and ACK frames leave a sleeping direction's state as it was; any other frame takes it to L0. -/
def wakeTx (s ftype : Nat) (h : Hw) : Hw := if 1 ≤ ftype ∧ ftype ≤ 3 then h else h.fset F.SL_PSTAT_TXPS s 0

/-- R412, R414: a frame takes the next DATA flit of port `s`, or waits while 256 flits are unacknowledged. -/
def flitSend (s : Nat) (f : SlFrame) (h : Hw) : Hw :=
  let p := h.slPort s
  if p.unacked.length < 256 then
    let g := stampTime h f
    sendFlit s 0 p.fseq (frameWord g)
      (((wakeTx s f.ftype h).setSlPort s { p with fseq := (p.fseq + 1) % 1024, unacked := p.unacked ++ [(p.fseq, 0, g)] }).emit
        (.frame s p.fseq g))
  else h.setSlPort s { p with txq := p.txq ++ [f] }

/-- R418: a frame leaves on port `s` with HOPS incremented, if the port is UP. -/
def portSend (s : Nat) (f : SlFrame) (h : Hw) : Hw :=
  if h.slUp s then flitSend s { f with hops := f.hops + 1 } h else h

/-- The Spire port that the route in force to stack ID `d` resolves to (R430, R431). -/
def Hw.slRoute (h : Hw) (d : Nat) : Option Nat :=
  let t := egressOf h d
  if bitAt (h.route d) 0 && decide (72 ≤ t ∧ t < 80) then some ((t - 72) / 2) else none

/-! ### Peers -/

/-- The transport state of a peer with both sequence spaces at 0. -/
def SlPeer.fresh : SlPeer := ⟨0, 0, [], [], 0, [], false, none, none, 0⟩

/-- The transport state of peer `d`. -/
def Hw.slPeer (h : Hw) (d : Nat) : SlPeer := Store.getD SlPeer.fresh h.sl.peers d

/-- The transport state of peer `d` replaced. -/
def Hw.setSlPeer (h : Hw) (d : Nat) (p : SlPeer) : Hw :=
  { h with sl := { h.sl with peers := Store.setD SlPeer.fresh h.sl.peers d p } }

/-- R421: a frame to a peer carries its NEXP; it leaves on the route in force. Answers the port it went to. -/
def routeSend (f : SlFrame) (h : Hw) : Option Nat × Hw :=
  let p := h.slPeer f.dst
  let f' := { f with ackseq := p.nexp, ackv := true }
  match h.slRoute f.dst with
  | none => (none, h)
  | some s => if h.slUp s then (some s, portSend s f' (h.setSlPeer f.dst { p with ackDue := false })) else (none, h)

/-- An unsequenced frame to peer `d`. -/
def sendPlain (d ftype body : Nat) (h : Hw) : Hw :=
  (routeSend ⟨d, h.sid, 0, ftype, 0, 0, false, false, body⟩ h).2

/-- R416, R422: a sequenced frame is given its TSEQ, stored, and sent. -/
def assignSend (f : SlFrame) (h : Hw) : Hw :=
  let p := h.slPeer f.dst
  let f' := { f with tseq := p.nsend }
  let r := routeSend f' h
  let q := r.2.slPeer f.dst
  r.2.setSlPeer f.dst { q with nsend := (p.nsend + 1) % 2 ^ 24, unfreed := q.unfreed ++ [(p.nsend, f', r.1.getD 4)] }

/-- R422: whether the window lets another TSEQ be assigned. -/
def windowOpen (p : SlPeer) : Bool := decide ((p.nsend + 2 ^ 24 - p.old) % 2 ^ 24 < 4096)

/-! ### Cells -/

/-- Free cells (SW_FREE). -/
def Hw.freeCells (h : Hw) : Nat := 65536 - h.sw.used - h.sw.leak

/-- `n` cells return to the free list. -/
def Hw.freeN (h : Hw) (n : Nat) : Hw := { h with sw := { h.sw with used := h.sw.used - n } }

/-- R202: whether a cell of a class may be allocated beyond `n` cells granted in the slot. -/
def allocOk (h : Hw) (strict : Bool) (n : Nat) : Bool :=
  decide (n + (if strict then 0 else h.fget F.SW_BUFCFG_SRESV 0) < h.freeCells)

/-- R202, R422: the frames that wait for the window of peer `d` wait in their egress queue, each in a cell, as far as cells may be allocated
to the class of that queue; the others wait at their block. -/
def takeCells (d : Nat) (h : Hw) : Hw :=
  let p := h.slPeer d
  let strict := decide (h.fget F.TS_INTQ_COH 0 < 4)
  let n := (List.range (p.wait.length - p.cells)).countP (allocOk h strict)
  { h.setSlPeer d { p with cells := p.cells + n } with sw := { h.sw with used := h.sw.used + n } }

/-- The frames that wait for peer `d` are gone, and their cells free. -/
def dropWait (d : Nat) (h : Hw) : Hw :=
  let p := h.slPeer d
  (h.setSlPeer d { p with wait := [], cells := 0 }).freeN p.cells

/-- R416, R422: a sequenced frame of a block: sent, or waiting for the window. -/
def submit (d ftype body : Nat) (h : Hw) : Hw :=
  let f : SlFrame := ⟨d, h.sid, 0, ftype, 0, 0, false, false, body⟩
  let p := h.slPeer d
  if windowOpen p && p.wait.isEmpty then assignSend f h else takeCells d (h.setSlPeer d { p with wait := p.wait ++ [f] })

/-- R422: the frames that wait are sent while the window is open. -/
def drainWait (d : Nat) (h : Hw) : Nat → Hw
  | 0 => h
  | n + 1 =>
    let p := h.slPeer d
    match p.wait with
    | [] => h
    | f :: rest =>
      if windowOpen p then
        drainWait d (assignSend f ((h.setSlPeer d { p with wait := rest, cells := p.cells - 1 }).freeN (min p.cells 1))) n
      else takeCells d h

/-! ### Bodies -/

/-- R93: the header of a coherence message, and its line where the opcode carries one. -/
def cohBody (opc : Nat) (m : Coh) : Nat :=
  opc % 32 + b2n m.starve * 2 ^ 5 + b2n m.poison * 2 ^ 6 + b2n m.owned * 2 ^ 7 + m.src % 1024 * 2 ^ 8 +
    m.fwd % 1024 * 2 ^ 18 + m.txn % 2 ^ 14 * 2 ^ 28 + m.laddr % 2 ^ 40 * 2 ^ 48 +
    (if opc = 3 ∨ (0x10 ≤ opc ∧ opc ≤ 0x13) then m.data % 2 ^ 512 * 2 ^ 128 else 0)

/-- R655: the body of an ALLOC frame. -/
def allocBody (op result tag first cnt : Nat) : Nat :=
  op + result * 2 ^ 8 + tag * 2 ^ 16 + first * 2 ^ 32 + cnt * 2 ^ 64

/-- A coherence message leaves for an agent: on this module, or in a MSG frame to a peer (R92, R417). -/
def Hw.emitCoh (h : Hw) (dst opc : Nat) (m : Coh) : Hw :=
  let h1 := h.emit (.coh dst opc m)
  if dst / 128 = h.sid then h1 else submit (dst / 128) 0 (cohBody opc m) h1

/-- An ALLOC frame leaves for a peer (R417, R655). -/
def Hw.emitAlloc (h : Hw) (dest op result tag first cnt : Nat) : Hw :=
  submit dest 7 (allocBody op result tag first cnt) (h.emit (.alloc dest op result tag first cnt))

end Sys2Proof.Machine
end

