-- ==== Sys2Proof/Machine/Tables.lean ====
section
/-! DEFINITION. The tables that several blocks read: tenant table entries (R32), extent table entries (R37),
allocation records (R38), the Dome layout (R313), data mover ring areas (R263), and the loss of a tenant's write
(R68). -/
namespace Sys2Proof.Machine

/-- The tenant table entry of `t` (R32). -/
def Hw.ent (h : Hw) (t : Nat) : Nat := Store.getD 0 h.bd.tt t

/-- `h` with the tenant table entry of `t` replaced. -/
def Hw.setEnt (h : Hw) (t e : Nat) : Hw := { h with bd := { h.bd with tt := Store.setD 0 h.bd.tt t e } }

/-- STATE of a tenant table entry (R33). -/
def ttState (e : Nat) : Nat := bits e 0 3
/-- HOSTPRIV (R32). -/
def ttPriv (e : Nat) : Bool := bitAt e 3
/-- MODE: HDM-DB (R32). -/
def ttHdmDb (e : Nat) : Bool := bitAt e 4
/-- KIND: 0 POOL, 1 MLD-LD, 2 SLD (R32). -/
def ttKind (e : Nat) : Nat := bits e 5 2
/-- HOSTPORT (R32). -/
def ttPort (e : Nat) : Nat := bits e 7 7
/-- VPPB (R32). -/
def ttVppb (e : Nat) : Nat := bits e 14 5
/-- LDID (R32). -/
def ttLd (e : Nat) : Nat := bits e 19 4
/-- DSPORT (R32). -/
def ttDs (e : Nat) : Nat := bits e 23 7
/-- TGEN (R31). -/
def ttGen (e : Nat) : Nat := bits e 32 4
/-- ETLEN (R32). -/
def ttEtlen (e : Nat) : Nat := bits e 36 26
/-- ETBASE (R32). -/
def ttEtbase (e : Nat) : Nat := bits e 64 31
/-- RGBASE (R32). -/
def ttRgbase (e : Nat) : Nat := bits e 96 16
/-- RGCNT (R32). -/
def ttRgcnt (e : Nat) : Nat := bits e 112 7

/-- The entry of `t` with STATE `v`. -/
def Hw.setTState (h : Hw) (t v : Nat) : Hw := h.setEnt t (putBits (h.ent t) 0 3 v)

/-- The TIDs whose entry satisfies `p`, ascending; entries never written are FREE. -/
def Hw.tidsWhere (h : Hw) (p : Nat → Bool) : List Nat := (h.bd.tt.filter (fun x => p x.2)).map Prod.fst

/-- The Dome offset of the extent table entry of extent index `e` (R37). -/
def etAddr (ent e : Nat) : Nat := ttEtbase ent * 4096 + 16 * e

/-- V (R37). -/
def etV (x : Nat) : Bool := bitAt x 0
/-- PEND (R37). -/
def etPend (x : Nat) : Bool := bitAt x 1
/-- MST: 0 STABLE, 1 MIGRATING, 2 STABLE-NEW (R37). -/
def etMst (x : Nat) : Nat := bits x 2 2
/-- SHARED (R37). -/
def etShared (x : Nat) : Bool := bitAt x 4
/-- WP (R37). -/
def etWp (x : Nat) : Bool := bitAt x 5
/-- GEXT (R37). -/
def etGext (x : Nat) : Nat := bits x 8 25
/-- NGEXT (R37). -/
def etNgext (x : Nat) : Nat := bits x 64 25
/-- WMARK (R37). -/
def etWmark (x : Nat) : Nat := bits x 96 16

/-- The entry with V or PEND set, naming backing `g`. -/
def etMake (v pend shared : Bool) (g : Nat) : Nat := b2n v + 2 * b2n pend + 16 * b2n shared + g * 256

/-- Whether the layout in effect is GROUPED (R309). -/
def Hw.grouped (h : Hw) : Bool := h.flag F.DD_STAT_MODE 0

/-- The pool's end and the store's first extent (R313). -/
def Hw.storeFirst (h : Hw) : Nat := h.fget F.DD_TTSFIRST_VAL 0

/-- The extents of the Dome offset space, D >> 21 (R313). -/
def Hw.domeExt (h : Hw) : Nat := h.fget F.DD_DOMEEXT_VAL 0

/-- Whether group `g` is usable (R338). -/
def Hw.groupUsable (h : Hw) (g : Nat) : Bool := bitAt (h.fget F.DD_STAT_GRPUSE 0) g

/-- The highest usable group. -/
def Hw.gtop (h : Hw) : Nat := if h.groupUsable 2 then 2 else if h.groupUsable 1 then 1 else 0

/-- The group that holds local extent `e` in GROUPED mode; the store lies in the highest one (R313). -/
def Hw.groupOf (h : Hw) (e : Nat) : Nat :=
  if e ≥ h.storeFirst then h.gtop
  else if h.groupUsable 2 && decide (h.fget F.DD_GRPBASE_VAL 2 ≤ e) then 2
  else if h.groupUsable 1 && decide (h.fget F.DD_GRPBASE_VAL 1 ≤ e) then 1
  else 0

/-- x of R102. -/
def hashX (la : Nat) : Nat := la % 2 ^ 18 ^^^ la / 2 ^ 18 % 2 ^ 18 ^^^ la / 2 ^ 36

/-- The logical slice of a line (R102). -/
def sliceOf (la : Nat) : Nat := hashX la % 16

/-- The set of a line (R102). -/
def dirSet (la : Nat) : Nat := hashX la / 16

/-- The physical slice that serves logical slice `l` (R101, R163). -/
def Hw.servedBy (h : Hw) (l : Nat) : Nat :=
  let r := h.fget F.HD_SLSTAT_ROLE 16
  if (r == 0 || r == 2) && h.fget F.HD_SLSTAT_LSLICE 16 == l then 16 else l

/-- y of R124. -/
def cuHash (gla : Nat) : Nat := gla % 2 ^ 16 ^^^ gla / 2 ^ 16 % 2 ^ 16 ^^^ gla / 2 ^ 32

/-- The Cupola bank of a line (R124). -/
def cuBank (gla : Nat) : Nat := cuHash gla % 16

/-- R183, R186: the route index of a pool request's target. -/
def poolRoute (h : Hw) (gpa : Nat) : Nat :=
  if gpa / 2 ^ 43 = h.sid then 8 + sliceOf (gpa % 2 ^ 43 / 64) else 0x19 + cuBank (gpa / 64) / 4

/-- The master ID of the home's own accesses to the line at Dome offset `o`: class 6 and the physical slice (R450). -/
def Hw.homeMaster (h : Hw) (o : Nat) : Nat := 0xC000 + h.servedBy (sliceOf (o / 64))

/-- Whether channel `c` is FAILED (R339). -/
def Hw.chFailed (h : Hw) (c : Nat) : Bool := h.fget F.DD_CHSTAT_STATE c == 3

/-- Whether channel `c` is ACTIVE. -/
def Hw.chActive (h : Hw) (c : Nat) : Bool := h.fget F.DD_CHSTAT_STATE c == 1

/-- Whether a free or released extent `e` counts as FAILED for a channel failure (R335). -/
def Hw.extFailed (h : Hw) (e : Nat) : Bool :=
  if h.grouped then
    let g := h.groupOf e
    [0, 1, 2, 3].any (fun k => h.chFailed (4 * g + k))
  else (List.range 12).any h.chFailed

/-- Whether local extent `e` lies in the spill area (R208). -/
def Hw.inSpill (h : Hw) (e : Nat) : Bool :=
  let f := h.fget F.SW_SPILLFIRST_VAL 0
  decide (f ≤ e ∧ e < f + h.fget F.SW_SPILLCNT_VAL 0)

/-- RESERVED of the allocation record: the spill area and the store (R38). -/
def Hw.extReserved (h : Hw) (e : Nat) : Bool := decide (h.storeFirst ≤ e ∧ e < h.domeExt) || h.inSpill e

/-- The stored allocation record of an extent that nothing has bound. -/
def AllocRec.zero : AllocRec := ⟨0, false, false, false⟩

/-- The stored allocation record of local extent `e`. -/
def Hw.arec (h : Hw) (e : Nat) : AllocRec := Store.getD AllocRec.zero h.bd.alloc e

/-- `h` with the stored allocation record of `e` replaced; BINDCNT has 16 bits. -/
def Hw.setArec (h : Hw) (e : Nat) (r : AllocRec) : Hw :=
  { h with bd := { h.bd with alloc := Store.setD AllocRec.zero h.bd.alloc e { r with cnt := r.cnt % 2 ^ 16 } } }

/-- R38: the allocation record of local extent `e` as its 32-bit word. -/
def Hw.recWord (h : Hw) (e : Nat) : Nat :=
  let r := h.arec e
  r.cnt + b2n r.shared * 2 ^ 16 + b2n (h.extReserved e) * 2 ^ 17 + b2n (r.failed || h.extFailed e) * 2 ^ 18 + b2n r.dirty * 2 ^ 19

/-- R38: the allocation record that a 32-bit word gives. -/
def recOfWord (w : Nat) : AllocRec := ⟨bits w 0 16, bitAt w 16, bitAt w 19, bitAt w 18⟩

/-- R38: an extent is free when BINDCNT is 0 and RESERVED, FAILED and DIRTY are 0. -/
def Hw.extFree (h : Hw) (e : Nat) : Bool :=
  let r := h.arec e
  decide (e < h.domeExt) && r.cnt == 0 && !r.dirty && !r.failed && !h.extReserved e && !h.extFailed e

/-! ### The reverse extent map (R117) -/

/-- The number that ends a chain. -/
def revEnd : Nat := 0xFFFFFFFF

/-- The head that the chain of GEXT `g` starts from: GEXT[19:0] ^ GEXT[24:20]. -/
def revHash (g : Nat) : Nat := Nat.xor (bits g 0 20) (bits g 20 5)

/-- Head `i`. -/
def Hw.revHead (h : Hw) (i : Nat) : Nat := Store.getD revEnd h.bd.heads i

/-- The chain from entry `k` on, with the entries' numbers. -/
def revChain (m : SMap RevEnt) (k : Nat) : Nat → List (Nat × RevEnt)
  | 0 => []
  | n + 1 =>
    match Store.get? m k with
    | none => []
    | some x => (k, x) :: revChain m x.next n

/-- The chain that the map reads for GEXT `g`. -/
def Hw.chainOf (h : Hw) (g : Nat) : List (Nat × RevEnt) := revChain h.bd.rev (h.revHead (revHash g)) h.bd.rev.length

/-- The TIDs and extent indices that map GEXT `g`: those its chain holds. -/
def Hw.mapsOf (h : Hw) (g : Nat) : List (Nat × Nat) :=
  ((h.chainOf g).filter (fun x => x.2.gext == g)).map (fun x => (x.2.tid, x.2.eidx))

/-- R117: an entry of the map as its 16 bytes. -/
def RevEnt.word (x : RevEnt) : Nat := x.gext + x.tid * 2 ^ 32 + x.eidx * 2 ^ 64 + x.next * 2 ^ 96

/-- The entry that 16 bytes hold. -/
def revOfWord (w : Nat) : RevEnt := ⟨bits w 0 25, bits w 32 13, bits w 64 25, bits w 96 32⟩

/-- The map's entries as (GEXT, TID, extent index). -/
def Hw.revAll (h : Hw) : List (Nat × Nat × Nat) := h.bd.rev.map (fun x => (x.2.gext, x.2.tid, x.2.eidx))

/-- R316: the 16-byte places of the store that the extent tables of bound pool tenants take, as first place and end. -/
def Hw.tablePlaces (h : Hw) : List (Nat × Nat) :=
  (h.bd.tt.filter (fun (x : Nat × Nat) => ttState x.2 != 0 && ttKind x.2 == 0)).map (fun x =>
    let b := ttEtbase x.2 * 256 - h.storeFirst * 2 ^ 17
    (b, b + ttEtlen x.2))

/-- The number that a new entry of the map takes. DEDUCED: entry `k` lies at the store's offset 16 * k, which lets 32 bits name every place.
DESIGN CHOICE: it is the lowest place past the first 16 MiB that no entry and no extent table takes. -/
def Hw.revPlace (h : Hw) : Nat :=
  let ts := h.tablePlaces
  let free := fun (k : Nat) => (Store.get? h.bd.rev k).isNone && !ts.any (fun t => decide (t.1 ≤ k ∧ k < t.2))
  let ks := (2 ^ 20 :: (ts.map Prod.snd).filter (fun b => decide (2 ^ 20 ≤ b))).flatMap (fun b =>
    ((List.range (h.bd.rev.length + 1)).map (b + ·)).filter free)
  ks.foldl min revEnd

/-- R117: Turret inserts an entry, which ends its chain: its NEXT is written 0xFFFF_FFFF, and the chain's last entry or the head names
it. -/
def Hw.revInsert (h : Hw) (g t e : Nat) : Hw :=
  let k := h.revPlace
  let m := Store.put h.bd.rev k ⟨g, t, e, revEnd⟩
  match (h.chainOf g).getLast? with
  | none => { h with bd := { h.bd with rev := m, heads := Store.setD revEnd h.bd.heads (revHash g) k } }
  | some y => { h with bd := { h.bd with rev := Store.put m y.1 { y.2 with next := k } } }

/-- Entry `k` is taken out of its chain and removed. -/
def Hw.revUnlink (h : Hw) (k : Nat) : Hw :=
  match Store.get? h.bd.rev k with
  | none => h
  | some x =>
    let i := revHash x.gext
    let m := Store.del h.bd.rev k
    if h.revHead i = k then { h with bd := { h.bd with rev := m, heads := Store.setD revEnd h.bd.heads i x.next } }
    else { h with bd := { h.bd with rev := m.map (fun y => if y.2.next = k then (y.1, { y.2 with next := x.next }) else y) } }

/-- The entries that satisfy `p` are removed. -/
def Hw.revRemove (h : Hw) (p : Nat × Nat × Nat → Bool) : Hw :=
  ((h.bd.rev.filter (fun x => p (x.2.gext, x.2.tid, x.2.eidx))).map Prod.fst).foldl (fun h k => h.revUnlink k) h

/-- The instances of a register field that hold a value other than the reset one. -/
def Hw.instsOf (h : Hw) (f : Fld) : List Nat :=
  (h.regs.filter (fun x => x.1 / 65536 == f.id)).map (fun x => x.1 % 65536)

/-- The base of ring `r`: an offset in B1, or a local Dome offset (R303). -/
def Hw.ringBase (h : Hw) (r : Nat) : Nat :=
  h.fget F.DM_RBASE_HI_BASE r * 2 ^ 32 + h.fget F.DM_RBASE_LO_BASE r * 128

/-- R264: whether offset `o` of B1 (`loc` 0) or Dome (`loc` 1) lies in the context area or completion record of a slot
of an enabled ring. -/
def Hw.inDmArea (h : Hw) (loc o : Nat) : Bool :=
  (h.instsOf F.DM_RCFG_EN).any (fun r =>
    h.fget F.DM_RCFG_EN r == 1 && h.fget F.DM_RCFG_LOC r == loc &&
    decide (h.ringBase r ≤ o ∧ o < h.ringBase r + 128 * 2 ^ h.fget F.DM_RCFG_SIZE r) &&
    decide (64 ≤ (o - h.ringBase r) % 128))

/-- R68: the discard of a tenant's write sets LOSS when the write was accepted up to the latest ARM. -/
def Hw.loseWrite (h : Hw) (w : Option (Nat × Nat)) : Hw :=
  match w with
  | none => h
  | some (t, i) =>
    if h.bd.writes.any (fun r => r.tid == t && r.wid == i && r.marked) then h.fset F.BD_TDRAIN_LOSS t 1 else h

/-- A tenant write that has reached Dome, or has been discarded there after it was visible, needs no record. -/
def Hw.dropWrite (h : Hw) (w : Option (Nat × Nat)) : Hw :=
  match w with
  | none => h
  | some (t, i) =>
    { h with bd := { h.bd with
        writes := h.bd.writes.filter (fun r => !(r.tid == t && r.wid == i && r.visible)) } }

/-- The width in lanes that the layout in effect gives port `n`; 0: absent (R368). -/
def Hw.portWidth (h : Hw) (n : Nat) : Nat :=
  let k := n / 4
  match Store.getD 0 h.fp.layout k, n % 4 with
  | 1, _ => 2
  | 2, 0 => 4 | 2, 2 => 2 | 2, 3 => 2
  | 3, 0 => 2 | 3, 1 => 2 | 3, 2 => 4
  | 4, 0 => 4 | 4, 2 => 4
  | 5, 0 => 8
  | 6, 0 => if k % 2 = 0 then 16 else 0
  | _, _ => 0

/-- ROLE in effect: absent ports and the reserved role behave as UNUSED (R371): 0 UNUSED, 1 HOST, 2 DOWN. -/
def Hw.role (h : Hw) (n : Nat) : Nat :=
  if h.portWidth n = 0 ∨ h.fget F.CK_PWRSTAT_STATE 0 = 4 then 0
  else match (Store.get? h.fp.roleUp n).getD (h.fget F.FP_PCFG_ROLE n) with
    | 1 => 1 | 2 => 2 | _ => 0

/-- The lanes times MT/s of a port's link (R196); 0 while down. -/
def Hw.linkRate (h : Hw) (n : Nat) : Nat :=
  h.fget F.FP_LSTAT_WIDTH n *
    ([2500, 5000, 8000, 16000, 32000, 64000] : List Nat).getD (h.fget F.FP_LSTAT_RATE n) 0

/-- The tenant's drain counter lowered (R69). -/
def Hw.outDec (h : Hw) (t : Nat) : Hw := h.fset F.BD_TDRAIN_OUT t (h.fget F.BD_TDRAIN_OUT t - 1)

/-- R69: a request of a tenant other than a write leaves OUT. One that is not outstanding changes nothing. -/
def Hw.readGone (h : Hw) (t i : Nat) : Hw :=
  if h.bd.reads.any (fun r => r.tid == t && r.rid == i) then
    ({ h with bd := { h.bd with reads := h.bd.reads.filter (fun r => !(r.tid == t && r.rid == i)) } }).outDec t
  else h

/-- R67, R68: VIS rises when no write accepted up to the latest ARM is still to become visible. -/
def Hw.visEval (h : Hw) (t : Nat) : Hw :=
  if h.bd.writes.any (fun r => r.tid == t && r.marked && !r.visible) then h else h.fset F.BD_TDRAIN_VIS t 1

/-- R67, R68: ARM sets a mark over every write accepted so far and clears VIS and LOSS; VIS rises at once where none is
still to become visible. -/
def Hw.armDrain (h : Hw) (t : Nat) : Hw :=
  let ws := h.bd.writes.map (fun r => if r.tid == t then { r with marked := true } else r)
  ((({ h with bd := { h.bd with writes := ws } }).fset F.BD_TDRAIN_LOSS t 0).fset F.BD_TDRAIN_VIS t 0).visEval t

/-- R69: a write of a tenant that is visible or discarded leaves OUT, but a non-posted one, which waits for its completion. -/
def Hw.writeGone (h : Hw) (t : Nat) (np : Bool) : Hw := (if np then h else h.outDec t).visEval t

/-- R67 to R69: a tenant's write becomes globally visible: it leaves OUT, and VIS is decided. -/
def Hw.markVisible (h : Hw) (t i : Nat) : Hw :=
  match h.bd.writes.find? (fun r => r.tid == t && r.wid == i && !r.visible) with
  | some w =>
    let ws := h.bd.writes.map (fun r => if r.tid == t && r.wid == i then { r with visible := true } else r)
    ({ h with bd := { h.bd with writes := ws } }).writeGone t w.np
  | none => h

/-- A tenant's write that is discarded: LOSS under R68, and its record is removed; one that was not yet visible leaves OUT, and VIS is
decided. -/
def Hw.discardWrite (h : Hw) (t i : Nat) : Hw :=
  let mine := fun (r : WRec) => r.tid == t && r.wid == i
  let h1 := h.loseWrite (some (t, i))
  let h2 := { h1 with bd := { h1.bd with writes := h1.bd.writes.filter (fun r => !mine r) } }
  match h.bd.writes.find? (fun r => mine r && !r.visible) with
  | some w => h2.writeGone t w.np
  | none => if h.bd.writes.any mine then h2 else h

/-- The access type that messages give for a request (R448). -/
def kindAtype (k : ReqKind) : Nat :=
  match k with
  | .ioAtomic => 3
  | .memWr | .ioWr | .ioWrNp => 2
  | _ => 1

/-- Whether a request kind writes. -/
def isWrite (k : ReqKind) : Bool :=
  match k with
  | .memWr | .ioWr | .ioWrNp | .ioAtomic => true
  | _ => false

end Sys2Proof.Machine
end

