-- ==== Sys2Proof/Machine/Guard.lean ====
section
/-! DEFINITION. The access guard: region descriptors, privilege, the check of a part, the splitting of an access into
parts, denials and the violation record (R340 to R364). -/
namespace Sys2Proof.Machine

/-- A permission (R350): read, write, execute, coded as KIND.OP codes them (R360). -/
inductive Perm where
  | r | w | x
  deriving DecidableEq, Repr

/-- KIND.OP of a permission (R360). -/
def permCode (p : Perm) : Nat :=
  match p with
  | .r => 1 | .w => 2 | .x => 3

/-- An access to be checked (R340): the tenant whose set is searched (none: the system set), the address and length in
the space of the check, the privilege, the permissions needed, and the master ID. -/
structure GReq where
  tid : Option Nat
  addr : Nat
  len : Nat
  priv : Bool
  needs : List Perm
  master : Nat
  deriving DecidableEq, Repr

/-- A denied part: its first address, the deciding descriptor (0 with NOMATCH) and KIND (R360, R361). -/
structure Denial where
  addr : Nat
  region : Nat
  kind : Nat
  deriving DecidableEq, Repr

/-- The permissions a request kind needs (R349, R350). -/
def needsOf (k : ReqKind) : List Perm :=
  match k with
  | .memRd => [.r]
  | .memRdAny => [.r, .w]
  | .memInvAny => [.r, .w]
  | .memInvInvalid => []
  | .memInvShared => [.r]
  | .memInvNoOp => []
  | .memWr => [.w]
  | .ioRd => [.r]
  | .ioRdExec => [.x]
  | .ioWr => [.w]
  | .ioWrNp => [.w]
  | .ioAtomic => [.r, .w]

/-- A descriptor (R344). -/
def Hw.desc (h : Hw) (i : Nat) : Nat := Store.getD 0 h.ag.desc i

/-- R344, R345: whether descriptor `d` matches an address of space `space` (1: GPA). -/
def descMatch (d space addr : Nat) : Bool :=
  bitAt d 0 && bits d 1 1 == space && decide (bits d 30 34 ≤ addr / 4096 ∧ addr / 4096 ≤ bits d 64 34)

/-- The first descriptor and count of the set searched (R345). -/
def Hw.setOf (h : Hw) (tid : Option Nat) : Nat × Nat :=
  match tid with
  | some t => (ttRgbase (h.ent t), ttRgcnt (h.ent t))
  | none => (h.fget F.AG_SYSSET_BASE 0, h.fget F.AG_SYSSET_CNT 0)

/-- R346: the lowest-numbered descriptor of the `n` from `i` that matches. -/
def firstMatch (h : Hw) (space addr : Nat) (i : Nat) : Nat → Option Nat
  | 0 => none
  | n + 1 => if descMatch (h.desc i) space addr then some i else firstMatch h space addr (i + 1) n

/-- Whether a map (bit 0 R, 1 W, 2 X) holds a permission. -/
def mapHas (m : Nat) (p : Perm) : Bool :=
  match p with
  | .r => bitAt m 0 | .w => bitAt m 1 | .x => bitAt m 2

/-- The default map of the set (R352). -/
def Hw.defMap (h : Hw) (tid : Option Nat) : Nat :=
  match tid with
  | some t => b2n (h.flag F.AG_TDEF_R t) + 2 * b2n (h.flag F.AG_TDEF_W t) + 4 * b2n (h.flag F.AG_TDEF_X t)
  | none => b2n (h.flag F.AG_SYSDEF_R 0) + 2 * b2n (h.flag F.AG_SYSDEF_W 0) + 4 * b2n (h.flag F.AG_SYSDEF_X 0)

/-- Whether a master is the debug master (R450). -/
def isDebug (master : Nat) : Bool := master / 2 ^ 13 == 4

/-- R353: the debug unlock stands at level 2 under a customer key. -/
def Hw.unlockedL2Customer (h : Hw) : Bool :=
  h.fget F.DT_DBGSTAT_LEVEL 0 == 2 && h.fget F.DT_DBGSTAT_KEYCLASS 0 == 2

/-- KIND (R360). -/
def kindOf (op : Nat) (priv : Bool) (space cause : Nat) (noMatch : Bool) : Nat :=
  op + 4 * b2n priv + 8 * space + 16 * cause + 64 * b2n noMatch

/-- R351: the check of one part at `addr`; answers the denial, or none for a grant. -/
def checkPart (h : Hw) (g : GReq) (addr : Nat) : Option Denial :=
  let space := if g.tid.isSome then 0 else 1
  let st := h.setOf g.tid
  let op1 := (g.needs.head?.map permCode).getD 0
  match firstMatch h space addr st.1 st.2 with
  | none =>
    if !g.priv then some ⟨addr, 0, kindOf op1 g.priv space 1 true⟩
    else
      match g.needs.find? (fun p => !mapHas (h.defMap g.tid) p) with
      | some p => some ⟨addr, 0, kindOf (permCode p) g.priv space 0 true⟩
      | none => none
  | some i =>
    let d := h.desc i
    if isDebug g.master && bitAt d 9 then some ⟨addr, i, kindOf op1 g.priv space 2 false⟩
    else if isDebug g.master && bitAt d 8 && !h.unlockedL2Customer then
      some ⟨addr, i, kindOf op1 g.priv space 3 false⟩
    else
      match g.needs.find? (fun p => !mapHas (if g.priv then bits d 2 3 else bits d 5 3) p) with
      | some p => some ⟨addr, i, kindOf (permCode p) g.priv space 0 false⟩
      | none => none

/-- R356: the parts of an access: the run of its bytes within each 4 KiB granule, with each part's verdict. -/
def checkParts (h : Hw) (g : GReq) (addr len : Nat) : Nat → List (Nat × Nat × Option Denial)
  | 0 => []
  | fuel + 1 =>
    if len = 0 then []
    else
      let n := min len (4096 - addr % 4096)
      (addr, n, checkPart h g addr) :: checkParts h g (addr + n) (len - n) fuel

/-- The verdict on an access: its parts; an access that needs no permission is not checked (R350). -/
def guardParts (h : Hw) (g : GReq) : List (Nat × Nat × Option Denial) :=
  if g.needs.isEmpty then [(g.addr, g.len, none)] else checkParts h g g.addr g.len (g.len / 4096 + 2)

/-- The first denial of a list of parts. -/
def firstDenial (ps : List (Nat × Nat × Option Denial)) : Option Denial := ps.findSome? (fun p => p.2.2)

/-- R361: the record takes the first denial while VALID is 0; later denials count. -/
def recordDenial (d : Denial) (master : Nat) (h : Hw) : Hw :=
  if h.flag F.AG_VINFO_VALID 0 then h.fadd F.AG_VCNT_VAL 0 1
  else
    (((((h.fset F.AG_VADDR_LO_VAL 0 d.addr).fset F.AG_VADDR_HI_VAL 0 (d.addr / 2 ^ 32)).fset F.AG_VINFO_MASTER 0
      master).fset F.AG_VINFO_KIND 0 d.kind).fset F.AG_VREGION_VAL 0 d.region).fset F.AG_VINFO_VALID 0 1

/-- R354, R355, R361: what every denied access does besides its own outcome: the record, the fault message, and the
debug counter. -/
def denyEffect (g : GReq) (d : Denial) (h : Hw) : Hw :=
  let h1 := recordDenial d g.master h
  let h2 := if isDebug g.master then h1.fadd F.AG_DBGDENY_VAL 0 1 else h1
  match g.tid with
  | some t => h2.raise { code := 0x2901, dom := domTenant, dinst := t, addr := d.addr, atype := d.kind,
                         master := g.master }
  | none =>
    if isDebug g.master then
      h2.raise { code := 0x0903, dom := domDevice, dinst := 0, addr := d.addr, atype := d.kind, master := g.master }
    else
      h2.raise { code := 0x2902, dom := domDevice, dinst := 0, addr := d.addr, atype := d.kind, master := g.master }

/-- The guard on a whole access: the denial, if any, with its effects. -/
def guardAccess (g : GReq) (h : Hw) : Option Denial × Hw :=
  match firstDenial (guardParts h g) with
  | none => (none, h)
  | some d => (some d, denyEffect g d h)

/-- R348: the privilege of a tenant's request. -/
def reqPriv (h : Hw) (q : MemReq) : Bool :=
  match q.pasidPriv with
  | some b => b
  | none => ttPriv (h.ent q.tid)

/-- The guard request of a tenant's memory request (R340): its own address, in tenant space. -/
def tenantGReq (h : Hw) (q : MemReq) : GReq :=
  { tid := some q.tid, addr := q.addr, len := q.len, priv := reqPriv h q, needs := needsOf q.kind, master := q.tid }

/-! ### The commands -/

/-- The command register's IDX and OP as GO wrote them (R364). -/
def setRdcmd (idx op : Nat) (h : Hw) : Hw := (h.fset F.AG_RDCMD_IDX 0 idx).fset F.AG_RDCMD_OP 0 op

/-- RESULT of AG_RDSTAT (R364). -/
def rdResult (r : Nat) (h : Hw) : Hw := h.fset F.AG_RDSTAT_RESULT 0 r

/-- GO while BUSY is ignored with BUSY_REJECT (R364). -/
def rdGo (f : Hw → Hw) (h : Hw) : Hw := if h.flag F.AG_RDSTAT_BUSY 0 then rdResult 2 h else f h

/-- AG_RDCMD_NOP (R364). -/
def execAgRdcmdNop (_p : Path) (idx : Nat) (s : State) : Out :=
  onHw (rdGo (fun h => rdResult 0 (setRdcmd idx 0 h))) s

/-- AG_RDCMD READ (R364): the descriptor goes to AG_RDDATA0-3. -/
def rdRead (idx : Nat) (h : Hw) : Hw :=
  let d := h.desc (idx % 65536)
  rdResult 0 ((((h.fset F.AG_RDDATA0_VAL 0 d).fset F.AG_RDDATA1_VAL 0 (d / 2 ^ 32)).fset F.AG_RDDATA2_VAL 0
    (d / 2 ^ 64)).fset F.AG_RDDATA3_VAL 0 (d / 2 ^ 96))

/-- AG_RDCMD_READ (R364). -/
def execAgRdcmdRead (_p : Path) (idx : Nat) (s : State) : Out :=
  onHw (rdGo (fun h => rdRead idx (setRdcmd idx 1 h))) s

/-- The descriptor staged in AG_RDDATA0-3 (R344). -/
def stagedDesc (h : Hw) : Nat :=
  h.fget F.AG_RDDATA0_VAL 0 + 2 ^ 32 * h.fget F.AG_RDDATA1_VAL 0 + 2 ^ 64 * h.fget F.AG_RDDATA2_VAL 0 +
    2 ^ 96 * h.fget F.AG_RDDATA3_VAL 0

/-- AG_RDCMD WRITE (R347): Turret only; LIMIT below BASE or a reserved bit set ends with BAD_FIELD. -/
def rdWrite (p : Path) (idx : Nat) (h : Hw) : Hw :=
  if p ≠ .turret then rdResult 3 h
  else
    let d := stagedDesc h
    if bits d 64 34 < bits d 30 34 ∨ bits d 10 20 ≠ 0 ∨ bits d 98 30 ≠ 0 then rdResult 1 h
    else rdResult 0 { h with ag := { h.ag with desc := Store.setD 0 h.ag.desc (idx % 65536) d } }

/-- AG_RDCMD_WRITE (R347, R364). -/
def execAgRdcmdWrite (p : Path) (idx : Nat) (s : State) : Out :=
  onHw (rdGo (fun h => rdWrite p idx (setRdcmd idx 2 h))) s

/-- AG_VINFO_VALID_CLEAR (R361): the violation record is rearmed. -/
def execAgVinfoValidClear (s : State) : Out := onHw (fun h => h.fset F.AG_VINFO_VALID 0 0) s

/-- R363: AG_SYSSET takes a write from Turret whose BASE + CNT stays within 65,536. -/
def syssetWrite (p : Path) (w : Nat) (h : Hw) : Hw :=
  let h1 := writeReg R.AG_SYSSET 0 w h
  if p = .turret ∧ h1.fget F.AG_SYSSET_BASE 0 + h1.fget F.AG_SYSSET_CNT 0 ≤ 65536 then h1 else h

/-- AG_SYSSET_WRITE (R363). -/
def execAgSyssetWrite (p : Path) (data : Word) (s : State) : Out := onHw (syssetWrite p data.toNat) s

end Sys2Proof.Machine
end

