-- ==== Sys2Proof/Machine/Dome.lean ====
section
/-! DEFINITION. Dome memory: layout at start-up (R305 to R318), the address map (R314), reads, writes, metadata, ECC and
poison (R320 to R327), the mirrored store (R315), the scrubber (R329 to R331), channel failure (R332 to R335). -/
namespace Sys2Proof.Machine

/-! ### The address map -/

/-- Where a Dome offset lies: primary channel, mirror channel for the store, channel address (R314). -/
structure Phys where
  prim : Nat
  mirror : Option Nat
  addr : Nat
  deriving DecidableEq, Repr

/-- R314. -/
def domeMap (h : Hw) (o : Nat) : Phys :=
  let pool := h.storeFirst * 2 ^ 21
  if o ≥ pool then
    let j := (o - pool) / 256
    if h.grouped then
      let g := h.gtop
      ⟨4 * g + j % 2, some (4 * g + j % 2 + 2),
        h.fget F.DD_GRPEXT_VAL g * 2 ^ 21 / 4 + j / 2 * 256 + o % 256⟩
    else ⟨j % 6, some (j % 6 + 6), pool / 12 + j / 6 * 256 + o % 256⟩
  else if h.grouped then
    let g := h.groupOf (o / 2 ^ 21)
    let k := (o - h.fget F.DD_GRPBASE_VAL g * 2 ^ 21) / 256
    ⟨4 * g + k % 4, none, k / 4 * 256 + o % 256⟩
  else
    let g := o / 256
    ⟨g % 12, none, g / 12 * 256 + o % 256⟩

/-- The attributes of a line that nothing has marked. -/
def LineAttr.clean : LineAttr := ⟨false, false⟩

/-- The key of the line at channel address `a` of channel `c`. -/
def lineKey (c a : Nat) : Nat := c * 2 ^ 40 + a / 64

/-- The attributes of the line at channel address `a` of channel `c`. -/
def Mach.attr (m : Mach) (c a : Nat) : LineAttr := Store.getD LineAttr.clean m.mem.lines (lineKey c a)

/-- The same attributes replaced. -/
def Mach.setAttr (m : Mach) (c a : Nat) (v : LineAttr) : Mach :=
  { m with mem := { m.mem with lines := Store.setD LineAttr.clean m.mem.lines (lineKey c a) v } }

/-- R316: the word of the store's first 16 MiB that Dome offset `o` falls in, or none elsewhere. DEDUCED: the allocation records come
first, and the heads of R117 take the last 4 MiB. -/
def Hw.storeWord (h : Hw) (o : Nat) : Option Nat :=
  let base := h.storeFirst * 2 ^ 21
  if h.storeFirst < h.domeExt ∧ base ≤ o ∧ o < base + 2 ^ 24 then some ((o - base) / 4) else none

/-- What word `k` of the store's first 16 MiB holds: an allocation record, or a head of the reverse map. -/
def Hw.storeVal (h : Hw) (k : Nat) : Nat := if k < 3 * 2 ^ 20 then h.recWord k else h.revHead (k - 3 * 2 ^ 20)

/-- Word `k` of the store's first 16 MiB replaced. -/
def Hw.setStoreVal (h : Hw) (k v : Nat) : Hw :=
  if k < 3 * 2 ^ 20 then h.setArec k (recOfWord v)
  else { h with bd := { h.bd with heads := Store.setD revEnd h.bd.heads (k - 3 * 2 ^ 20) (v % 2 ^ 32) } }

/-- R117: the entries of the reverse map that lie in the line at Dome offset `o` of the store, by their place in it. -/
def Hw.revIn (h : Hw) (o : Nat) : List (Nat × Nat × RevEnt) :=
  let base := h.storeFirst * 2 ^ 21
  if h.bd.rev.isEmpty || decide (h.domeExt ≤ h.storeFirst ∨ o < base) then []
  else
    let k := (o - base) / 64 * 4
    (List.range 4).filterMap (fun i => (Store.get? h.bd.rev (k + i)).map (fun x => (i, k + i, x)))

/-- The 64 bytes of the line that holds Dome offset `o`: the records, heads and entries of the store from their tables, every other line from
Dome's bytes. -/
def Mach.line (m : Mach) (o : Nat) : Nat :=
  match m.hw.storeWord (o / 64 * 64) with
  | some k => ((List.range 16).map (fun i => m.hw.storeVal (k + i) * 2 ^ (32 * i))).sum
  | none => (m.hw.revIn o).foldl (fun v x => putBits v (128 * x.1) 128 x.2.2.word) (readLE 0 m.mem.dome (o / 64 * 64) 64)

/-- The 64 bytes of the line that holds Dome offset `o` replaced. -/
def Mach.setLine (m : Mach) (o v : Nat) : Mach :=
  match m.hw.storeWord (o / 64 * 64) with
  | some k => m.onHw (fun h => (List.range 16).foldl (fun h i => h.setStoreVal (k + i) (bits v (32 * i) 32)) h)
  | none =>
    { hw := (m.hw.revIn o).foldl (fun h x =>
        { h with bd := { h.bd with rev := Store.put h.bd.rev x.2.1 (revOfWord (bits v (128 * x.1) 128)) } }) m.hw,
      mem := { m.mem with dome := writeLE 0 m.mem.dome (o / 64 * 64) v 64 } }

/-- The bytes of `data` that `en` enables over those of `old`, `n` bytes. -/
def mergeBytes (old data en : Nat) : Nat → Nat
  | 0 => 0
  | n + 1 => (if en % 2 = 1 then data % 256 else old % 256) + 256 * mergeBytes (old / 256) (data / 256) (en / 2) n

/-- Whether the home's directory holds an entry for the line at local Dome offset `o` (R323). -/
def Hw.tracked (h : Hw) (o : Nat) : Bool := (Store.get? h.hd.dir (o / 64)).isSome

/-! ### The stored form of a line (R320 to R324) -/

/-- What the decoder finds in a line (R326). -/
inductive LineDec where
  | data | corrected | poison | uncorrectable
  deriving DecidableEq, Repr

/-- R321, R324, R326: the decode of a line, poisoned or not, by what the read meets. The poison syndrome is still known with an error in
one slice, and not with one in more. An error that the decoder does not detect passes for data. -/
def decodeLine (poison : Bool) (e : LineErr) : LineDec :=
  match e with
  | .good => if poison then .poison else .data
  | .ce _ => if poison then .poison else .corrected
  | .silent => .data
  | .ue | .noAnswer | .retries => .uncorrectable

/-- R320, R321, R324: the ten device slices of 8 bytes in which a line of 64 data bytes with MD is stored: eight of data and two of the
check field, over which the poison marker stands. -/
def lineSlices (data : Nat) (v : LineAttr) : List Nat :=
  let c := Config.checkField data (b2n v.hint)
  let c' := if v.poison then c ^^^ Config.poisonMark else c
  (List.range 8).map (fun k => bits data (64 * k) 64) ++ [bits c' 0 64, bits c' 64 64]

/-- The device that holds slice `k` of the line at channel address `a` of channel `c` and the beats of its burst (R320): on x4 RDIMMs the
ten devices of the line's subchannel over BL16, on x8 RDIMMs the ten of both subchannels over BC8. -/
def sliceDevice (h : Hw) (c a k : Nat) : Nat × Nat :=
  if h.flag F.DD_CHSTAT_X8 c then (k, 8) else ((a / 64) % 2 * 10 + k, 16)

/-! ### DRAM coordinates (R319) -/

/-- Where a line lies in the DRAM of its channel (R319): subchannel, bank group, column, bank, chip ID and rank, socket, row. -/
structure Dram where
  sub : Nat
  bg : Nat
  col : Nat
  bank : Nat
  rank : Nat
  sock : Nat
  row : Nat
  deriving DecidableEq, Repr

/-- R319: a line index split from the low bits upward. -/
def dramOf (g : Geom) (line : Nat) : Dram :=
  let a := g.sub + g.bg
  let b := a + g.col + g.bank
  ⟨bits line 0 g.sub, bits line g.sub g.bg, bits line a g.col, bits line (a + g.col) g.bank, bits line b g.rank,
    bits line (b + g.rank) g.sock, line / 2 ^ (b + g.rank + g.sock)⟩

/-- The geometry of channel `c`; every bit in the row where start-up has set none. -/
def Hw.geom (h : Hw) (c : Nat) : Geom := Store.getD ⟨0, 0, 0, 0, 0, 0⟩ h.dd.geom c

/-- The number of the bank of channel `c` that a DRAM coordinate names. -/
def bankKey (c : Nat) (d : Dram) : Nat :=
  ((((c * 2 + d.sock) * 2 ^ 16 + d.rank) * 2 ^ 16 + d.bank) * 2 ^ 16 + d.bg) * 2 + d.sub

/-- R319: a request to the line at channel address `a` of channel `c` opens its row in its bank. -/
def Mach.openRow (m : Mach) (c a : Nat) : Mach :=
  let d := dramOf (m.hw.geom c) (a / 64)
  { m with mem := { m.mem with rows := Store.put m.mem.rows (bankKey c d) d.row } }

/-- R319: whether the row of the line at channel address `a` of channel `c` is open in its bank. -/
def Mach.rowOpen (m : Mach) (c a : Nat) : Bool :=
  let d := dramOf (m.hw.geom c) (a / 64)
  Store.get? m.mem.rows (bankKey c d) == some d.row

/-! ### Channel failure -/

/-- R335: whether the spill area lies on channel `c`. -/
def Hw.spillOn (h : Hw) (c : Nat) : Bool :=
  decide (0 < h.fget F.SW_SPILLCNT_VAL 0) &&
  (if h.grouped then h.groupOf (h.fget F.SW_SPILLFIRST_VAL 0) == c / 4 else true)

/-- R332, R335: an ACTIVE channel becomes FAILED with a reason, CHFAIL is sent HELD, and spilling stops where the spill
area lies on the channel. -/
def Hw.chFail (h : Hw) (c reason : Nat) : Hw :=
  if h.chActive c then
    let h1 := (h.fset F.DD_CHSTAT_STATE c 3).fset F.DD_CHSTAT_REASON c reason
    let h2 := if h.spillOn c then h1.fset F.SW_CTRL_SPEN 0 0 else h1
    h2.raise { code := 0x3D07, dom := domChannel, dinst := c, addr := c, unit := c, held := 1 }
  else h

/-- R326, R332: an uncorrectable read counts, is reported with its requester and access type, and counts toward UELIM over the last
second of local time. -/
def Hw.countUe (h : Hw) (c a atype master : Nat) : Hw :=
  let times := ((Store.getD [] h.dd.ueTimes c).filter (fun t => decide (h.ck.ltime < t + 1000000000))) ++ [h.ck.ltime]
  let h1 := (h.fadd F.DD_UECNT_VAL c 1).raise
    { code := 0x2D06, dom := domChannel, dinst := c, addr := a, unit := c, atype := atype, master := master }
  let h2 := { h1 with dd := { h1.dd with ueTimes := Store.setD [] h1.dd.ueTimes c times } }
  if h.fget F.DD_CFG_UELIM 0 ≤ times.length then h2.chFail c 6 else h2

/-! ### Reads -/

/-- R332: the failure of channel `c` that a command's outcome is: exhausted retries or no answer. -/
def Hw.cmdEnd (h : Hw) (c : Nat) (e : LineErr) : Hw :=
  match e with
  | .retries => h.chFail c 4
  | .noAnswer => h.chFail c 5
  | .good | .ce _ | .ue | .silent => h

/-- R326, R331: an error in one slice, corrected by an access of type `atype`. -/
def Hw.countCe (h : Hw) (c a atype master : Nat) : Hw :=
  (h.fadd F.DD_CECNT_VAL c 1).raise
    { code := 0x1D05, dom := domChannel, dinst := c, addr := a, unit := c, atype := atype, master := master }

/-- R326, R327, R331 to R333: the read of one physical line by its decode; `scrub` counts nothing on poison (R329). A command that
exhausts its retries returns poison, as the channel has failed. Answers whether the read returns poison. -/
def readPhys (c a master : Nat) (err : LineErr) (wrSince scrub : Bool) (m0 : Mach) : Bool × Mach :=
  if m0.hw.chFailed c then (true, m0)
  else
  let m := m0.openRow c a
  if err = .retries then (true, m.onHw (fun h => h.cmdEnd c err))
  else
    match decodeLine (m.attr c a).poison err with
    | .data => (false, m)
    | .poison => (true, if scrub then m else m.onHw (fun h => h.fadd F.DD_POISRD_VAL c 1))
    | .corrected =>
      (false, m.onHw (fun h =>
        let h1 := h.countCe c a 1 master
        if wrSince then h1.fadd F.DD_SCRDROP_VAL c 1 else h1))
    | .uncorrectable => (true, (m.setAttr c a ⟨true, true⟩).onHw (fun h => (h.countUe c a 1 master).cmdEnd c err))

/-- R321: an error of two or more slices that the decoder does not detect leaves the line's data a free value. -/
def Mach.misread (m : Mach) (o : Nat) (err : LineErr) : Mach :=
  if err = .silent then
    let f := m.hw.takeFree
    ({ m with hw := f.2 }).setLine o f.1
  else m

/-- R315, R326: the read of the line at Dome offset `o`, which lies at `p`: from the primary, and for the store from the
mirror when the primary is FAILED or uncorrectable, with the good mirror copy written back. Answers whether it returns
poison. -/
def readAt (p : Phys) (o master : Nat) (dec mdec : LineErr) (wrSince : Bool) (m : Mach) : Bool × Mach :=
  let r0 := readPhys p.prim p.addr master dec wrSince false m
  let r := if r0.1 then r0 else (false, r0.2.misread o dec)
  match p.mirror with
  | none => r
  | some c2 =>
    if r.1 then
      let r2 := readPhys c2 p.addr master mdec wrSince false r.2
      if r2.1 then
        (true, r2.2.onHw (fun h => h.raise
          { code := 0x3D02, dom := domChannel, dinst := p.prim, addr := o, unit := p.prim, atype := 1,
            master := master }))
      else (false, if r2.2.hw.chFailed p.prim then r2.2 else r2.2.setAttr p.prim p.addr LineAttr.clean)
    else r

/-- The read of the line at Dome offset `o`. -/
def readDome (o master : Nat) (dec mdec : LineErr) (wrSince : Bool) (m : Mach) : Bool × Mach :=
  readAt (domeMap m.hw o) o master dec mdec wrSince m

/-- The data a read of the line returns: zero with poison. -/
def readData (o : Nat) (r : Bool × Mach) : Nat := if r.1 then 0 else r.2.line o

/-! ### Writes -/

/-- R333: a write to one copy: dropped and counted on a FAILED channel, else the line takes attributes `v`. Answers
whether it was stored. -/
def writeCopy (c a : Nat) (v : LineAttr) (m : Mach) : Bool × Mach :=
  if m.hw.chFailed c then (false, m.onHw (fun h => h.fadd F.DD_WRDROP_VAL c 1)) else (true, (m.openRow c a).setAttr c a v)

/-- R315, R323, R325: a full write of the line at Dome offset `o`, which lies at `p`, with its hint, replacing poison;
`pois` writes the poison marker instead. Answers whether any copy was stored. -/
def writeAt (p : Phys) (o data : Nat) (hint pois : Bool) (m : Mach) : Bool × Mach :=
  let a : LineAttr := ⟨hint, pois⟩
  let r := writeCopy p.prim p.addr a m
  let r2 := match p.mirror with
    | none => r
    | some c2 => let q := writeCopy c2 p.addr a r.2; (r.1 || q.1, q.2)
  (r2.1, if r2.1 && !pois then r2.2.setLine o data else r2.2)

/-- A full write of the line at Dome offset `o`. -/
def writeDome (o data : Nat) (hint pois : Bool) (m : Mach) : Bool × Mach :=
  writeAt (domeMap m.hw o) o data hint pois m

/-- Whether a line carries MD = 0b00 whatever its holders: the spill area and the store (R322). -/
def Hw.plainLine (h : Hw) (o : Nat) : Bool := h.extReserved (o / 2 ^ 21)

/-- R323: the hint a data write carries. -/
def Hw.hintOf (h : Hw) (o : Nat) : Bool := h.tracked o && !h.plainLine o

/-- A data write of the home or the data mover: the line is stored with the hint the directory gives. -/
def Mach.putLine (m : Mach) (o data : Nat) : Mach := (writeDome o data (m.hw.hintOf o) false m).2

/-- The line at Dome offset `o` is marked poisoned, its hint as the directory gives. -/
def Mach.poisonLine (m : Mach) (o : Nat) : Mach := (writeDome o 0 (m.hw.hintOf o) true m).2

/-- R323, R332: a metadata-only write of one copy by read-modify-write, for the home's `master`. One whose command fails its retries is
dropped with its channel (R333). -/
def metaCopy (c a master : Nat) (hint : Bool) (err : LineErr) (m0 : Mach) : Mach :=
  if m0.hw.chFailed c then m0.onHw (fun h => h.fadd F.DD_WRDROP_VAL c 1)
  else
  let m := m0.openRow c a
  if err = .retries then m.onHw (fun h => (h.cmdEnd c err).fadd F.DD_WRDROP_VAL c 1)
  else
    match decodeLine (m.attr c a).poison err with
    | .data => m.setAttr c a ⟨hint, false⟩
    | .poison => m.setAttr c a ⟨hint, true⟩
    | .corrected => (m.setAttr c a ⟨hint, false⟩).onHw (fun h => h.countCe c a 3 master)
    | .uncorrectable => (m.setAttr c a ⟨true, true⟩).onHw (fun h => (h.countUe c a 3 master).cmdEnd c err)

/-- R115, R323: the home's metadata write of the hint of the line at Dome offset `o`. -/
def writeHint (o : Nat) (hint : Bool) (err : LineErr) (m : Mach) : Mach :=
  let p := domeMap m.hw o
  (metaCopy p.prim p.addr (m.hw.homeMaster o) (hint && !m.hw.plainLine o) err m).misread o err

/-- R333: the hint that a metadata read of the line returns: 1 on a FAILED channel. -/
def readHint (m : Mach) (o : Nat) : Bool :=
  let p := domeMap m.hw o
  m.hw.chFailed p.prim || (m.attr p.prim p.addr).hint

/-- R319: a metadata read of the line opens its row, but on a FAILED channel. -/
def Mach.openLine (m : Mach) (o : Nat) : Mach :=
  let p := domeMap m.hw o
  if m.hw.chFailed p.prim then m else m.openRow p.prim p.addr

/-- R325: whether byte enables name every byte of a line. -/
def allBytes (en : Nat) : Bool := en % 2 ^ 64 == 2 ^ 64 - 1

/-- R315, R325, R333: a partial write is read-modify-written (from the mirror where the store's primary is FAILED), or discarded on
poison or an uncorrectable line; one with every byte enabled is a full write. -/
def partialWrite (off data en master : Nat) (w : Option (Nat × Nat)) (err : CopyErrs) (m : Mach) : Bool × Mach :=
  if allBytes en then
    let r := writeDome off data (m.hw.hintOf off) false m
    (r.1, if r.1 then r.2 else r.2.onHw (fun h => h.loseWrite w))
  else
  let p := domeMap m.hw off
  let lost := fun (m : Mach) => (false, m.onHw (fun h => (h.fadd F.DD_WRDROP_VAL p.prim 1).loseWrite w))
  if p.mirror.isNone && m.hw.chFailed p.prim then lost m
  else
    let r := readDome off master err.prim err.mirror false m
    if r.1 then lost r.2
    else writeDome off (mergeBytes (r.2.line off) data en 64) (r.2.hw.hintOf off) false r.2

/-! ### Extent table entries (R37) and other parts of lines -/

/-- Whether the copy of a line at channel address `a` of channel `c` can be read. -/
def Mach.copyGood (m : Mach) (c a : Nat) : Bool := !m.hw.chFailed c && !(m.attr c a).poison

/-- Whether a copy of the line at Dome offset `o` can be read (R315). -/
def Mach.readable (m : Mach) (o : Nat) : Bool :=
  let p := domeMap m.hw o
  m.copyGood p.prim p.addr || p.mirror.any (fun c => m.copyGood c p.addr)

/-- R117, R315: the Dome offset of the first line that a look-up of GEXT `g` in the reverse map reads and that no copy of the store
gives. -/
def Mach.revLost (m : Mach) (g : Nat) : Option Nat :=
  let base := m.hw.storeFirst * 2 ^ 21
  ((base + (3 * 2 ^ 20 + revHash g) * 4) :: (m.hw.chainOf g).map (fun x => base + 16 * x.1)).find? (fun o => !m.readable o)

/-- The `n` bytes at Dome offset `o`, all in one line; 0 where no copy of the line can be read. -/
def Mach.peek (m : Mach) (o n : Nat) : Nat := if m.readable o then bits (m.line o) (o % 64 * 8) (8 * n) else 0

/-- `n` bytes at Dome offset `o`, all in one line, written for `master` (R315, R325, R333). -/
def Mach.poke (m : Mach) (o v n master : Nat) : Mach :=
  (partialWrite o (v % 2 ^ (8 * n) * 2 ^ (o % 64 * 8)) ((2 ^ n - 1) * 2 ^ (o % 64)) master none ⟨.good, .good⟩ m).2

/-- The extent table entry of tenant `t`, extent index `e` (R37), as Turret reads it. DESIGN CHOICE: one that no copy of the store gives
has neither V nor PEND for Turret's own checks. -/
def Mach.et (m : Mach) (t e : Nat) : Nat := m.peek (etAddr (m.hw.ent t) e) 16

/-- The same entry written, to both copies of the store (R315). -/
def Mach.setEt (m : Mach) (t e x : Nat) : Mach := m.poke (etAddr (m.hw.ent t) e) x 16 0x6000

/-- R38, R315: whether the allocation record of local extent `e` reads as poison from both copies of the store. -/
def Mach.recPoison (m : Mach) (e : Nat) : Bool :=
  let p := domeMap m.hw (m.hw.storeFirst * 2 ^ 21 + 4 * e)
  let bad := fun (c : Nat) => m.hw.chFailed c || (m.attr c p.addr).poison
  bad p.prim && p.mirror.all bad

/-- R38: an extent whose record reads as poison counts as FAILED until the next module reset. -/
def Mach.noteRec (m : Mach) (e : Nat) : Mach :=
  if m.recPoison e then m.onHw (fun h => h.setArec e { h.arec e with failed := true }) else m

/-! ### Layout at start-up -/

/-- The RDIMMs of a channel, in socket order (R306). -/
def dimmsOf (p : ChPop) : List Rdimm := p.sock0.toList ++ p.sock1.toList

/-- R305, R306: whether a channel holds anything. -/
def fitted (p : ChPop) : Bool := !(dimmsOf p).isEmpty

/-- R305: whether a socket accepts an RDIMM: its SPD reads, and it is a JEDEC DDR5 RDIMM with ECC of 16 to 256 GB, of x4 or x8
devices, with a speed bin of 5600 MT/s or more. DEDUCED from R339: it has one to four ranks. -/
def dimmOk (d : Rdimm) : Bool :=
  d.readable && d.jedec && d.ecc && decide (16 ≤ d.cap ∧ d.cap ≤ 256 ∧ 1 ≤ d.ranks ∧ d.ranks ≤ 4) && (d.width == 4 || d.width == 8) && decide (5600 ≤ d.speed)

/-- The attributes in which RDIMMs and channels must match (R306, R307): capacity, device width, ranks and device density. -/
def dimmKind (d : Rdimm) : Nat × Nat × Nat × Nat := (d.cap, d.width, d.ranks, d.density)

/-- R305, R306: whether the RDIMMs of a fitted channel meet the per-channel rules: each is accepted, socket 1 is not used alone, and
two agree. -/
def popRule (p : ChPop) : Bool :=
  (dimmsOf p).all dimmOk && p.sock0.isSome && decide (((dimmsOf p).map dimmKind).dedup.length ≤ 1)

/-- R307: a channel's population: empty for ABSENT, else what each fitted RDIMM is. -/
def popCode (p : ChPop) : List (Nat × Nat × Nat × Nat) := (dimmsOf p).map dimmKind

/-- The capacity of a channel in GiB. -/
def popGiB (p : ChPop) : Nat := ((dimmsOf p).map Rdimm.cap).sum

/-- The first RDIMM of a channel, from which its registers are set. -/
def popWidth (p : ChPop) : Nat := ((dimmsOf p).head?.map Rdimm.width).getD 0

/-- Ranks per RDIMM of a channel; 0 when ABSENT (R339). -/
def popRanks (p : ChPop) : Nat := ((dimmsOf p).head?.map Rdimm.ranks).getD 0

/-- The bits that number `n` things. -/
def bitsFor (n : Nat) : Nat := if n ≤ 1 then 0 else Nat.log2 (n - 1) + 1

/-- R319: the widths of a channel's DRAM coordinates. -/
def geomOf (p : ChPop) : Geom :=
  match dimmsOf p with
  | [] => ⟨0, 0, 0, 0, 0, 0⟩
  | d :: r => ⟨b2n (d.width == 4), d.bgBits, d.colBits, d.bankBits, d.cidBits + bitsFor d.ranks, b2n !r.isEmpty⟩

/-- R307: the reference population of four channels: the one held by the most, ties to the lowest-numbered channel. -/
def refPop (cs : List (List (Nat × Nat × Nat × Nat))) : List (Nat × Nat × Nat × Nat) :=
  (cs.foldl (fun (best : List (Nat × Nat × Nat × Nat) × Nat) c =>
    let n := cs.countP (· == c)
    if best.2 < n then (c, n) else best) ([], 0)).1

/-- The state and reason of channel `n` before the set rules (R305, R306, R311 step 2): (STATE, REASON). -/
def chFirst (p : ChPop) : Nat × Nat :=
  if !fitted p then (0, 0) else if !popRule p then (2, 1) else if !p.trainOk then (2, 3) else (1, 0)

/-- The states of four channels of a group under the set rules (R307): a fitted channel of another population than the reference is
EXCLUDED with RULE, whatever its training ended in. -/
def groupStates (ps : List ChPop) : List (Nat × Nat) :=
  let ref := refPop (ps.map popCode)
  let st1 := ps.map (fun p => if fitted p && !(popCode p == ref) then (2, 1) else chFirst p)
  let usable := st1.all (fun x => x.1 == 1)
  st1.map (fun x => if x.1 == 1 && !usable then (2, 2) else x)

/-- What step 3 of R311 decides: per-channel states, GROUPED, usable groups, group lengths and first extents, D and
the store's first extent in extents, whether TTSLEN was reduced, the rate code and the peak in MB/s. -/
structure Layout where
  states : List (Nat × Nat)
  grouped : Bool
  use : Nat
  base : List Nat
  len : List Nat
  dome : Nat
  store : Nat
  reduced : Bool
  rate : Nat
  peak : Nat

/-- R307 to R316: the layout from the populations, the requested mode and TTSLEN. -/
def layoutOf (pops : List ChPop) (wantGrouped : Bool) (tts : Nat) : Layout :=
  let firsts := pops.map chFirst
  let code := (pops.map popCode).getD 0 []
  let wide := !wantGrouped && firsts.all (fun x => x.1 == 1) && pops.all (fun p => popCode p == code) &&
    decide (pops.length = 12)
  let grp := fun (g : Nat) => (pops.drop (4 * g)).take 4
  let states := if wide then firsts else groupStates (grp 0) ++ groupStates (grp 1) ++ groupStates (grp 2)
  let usable := fun (g : Nat) => ((states.drop (4 * g)).take 4).all (fun x => x.1 == 1) && decide (4 * g < states.length)
  let gib := fun (c : Nat) => ((pops.drop c).head?.map popGiB).getD 0
  let act := (List.range 12).filter (fun c => (states.getD c (0, 0)).1 == 1)
  let useMask := b2n (usable 0) + 2 * b2n (usable 1) + 4 * b2n (usable 2)
  let fast := act.all (fun c => ((pops.drop c).head?.map (fun p =>
    (dimmsOf p).all (fun d => decide (6400 ≤ d.speed)) && (dimmsOf p).length == 1)).getD false)
  let rate := if useMask = 0 then 0 else if fast then 2 else 1
  let peak := act.length * (if rate = 2 then 6400 else if rate = 1 then 5600 else 0) * 8
  if wide then
    let total := 12 * gib 0 * 512
    ⟨states, false, 7, [0, 0, 0], [0, 0, 0], total - tts, total - 2 * tts, false, rate, peak⟩
  else
    let cap := fun (g : Nat) => if usable g then 4 * gib (4 * g) * 512 else 0
    let top := if usable 2 then 2 else if usable 1 then 1 else 0
    let s := if cap top < 2 * tts then cap top / 2 / 3 * 3 else tts
    let s' := if useMask = 0 then 0 else s
    let len := fun (g : Nat) => if g = top then cap g - 2 * s' else cap g
    let total := cap 0 + cap 1 + cap 2
    ⟨states, true, useMask, [0, len 0, len 0 + len 1], [len 0, len 1, len 2], total - s', total - 2 * s',
      decide (useMask ≠ 0) && decide (s ≠ tts), rate, peak⟩

/-- Registers of channel `c` after step 3 (R338, R339, R330). -/
def setChannel (c : Nat) (p : ChPop) (st : Nat × Nat) (h : Hw) : Hw :=
  let gib := popGiB p
  let lines := gib * 2 ^ 24
  let h1 := ((h.fset F.DD_CHSTAT_STATE c st.1).fset F.DD_CHSTAT_REASON c st.2).fset F.DD_CHSTAT_DPC2 c
    (b2n (p.sock0.isSome && p.sock1.isSome))
  let h2 := { (h1.fset F.DD_CHSTAT_X8 c (b2n (popWidth p == 8))).fset F.DD_CHSTAT_RANKS c (popRanks p) with
    dd := { h1.dd with geom := Store.put h1.dd.geom c (geomOf p) } }
  (h2.fset F.DD_CHCAP_VAL c gib).fset F.DD_SCRINTV_VAL c (h.fget F.DD_CFG_PERIOD 0 * 36000000000 / lines)

/-- R309: CHUNUSED for a channel that is reported. -/
def reportUnused (c : Nat) (st : List (Nat × Nat)) (wantGrouped : Bool) (h : Hw) : Hw :=
  let s := st.getD c (0, 0)
  let grp := (st.drop (c / 4 * 4)).take 4
  let anyFit := st.any (fun x => x.1 != 0)
  let rep := s.1 == 2 || (s.1 == 0 && grp.any (fun x => x.1 != 0)) || (s.1 == 0 && !wantGrouped && anyFit)
  if rep then h.raise { code := 0x3D01, dom := domChannel, dinst := c, addr := s.2, unit := c } else h

/-- R318: whether the spill area may be used: below the store, and in GROUPED mode within one group. -/
def Hw.spillPlaced (h : Hw) : Bool :=
  let f := h.fget F.SW_SPILLFIRST_VAL 0
  let n := h.fget F.SW_SPILLCNT_VAL 0
  decide (n = 0) || (decide (f + n ≤ h.storeFirst) && (!h.grouped || h.groupOf f == h.groupOf (f + n - 1)))

/-- R318: spilling is kept off and reported where the spill area is misplaced. -/
def checkSpill (h : Hw) : Hw :=
  if h.spillPlaced then h
  else (h.fset F.SW_CTRL_SPEN 0 0).raise
    { code := 0x0D04, dom := domDevice, dinst := 0, addr := h.fget F.SW_SPILLFIRST_VAL 0 }

/-- Steps 1 to 3 of R311: channel states, layout registers, faults; step 4 then runs. -/
def domeStart (pops : List ChPop) (h : Hw) : Hw :=
  let want := h.flag F.DD_CFG_MODE 0
  let l := layoutOf pops want (h.fget F.DD_TTSLEN_VAL 0)
  let h1 := iterN (fun c x => setChannel c ((pops.drop c).headD ⟨none, none, false⟩)
    (l.states.getD c (0, 0)) x) 0 12 h
  let h2 := ((((h1.fset F.DD_STAT_MODE 0 (b2n l.grouped)).fset F.DD_STAT_RATE 0 l.rate).fset F.DD_STAT_GRPUSE 0
    l.use).fset F.DD_STAT_TTSRED 0 (b2n l.reduced)).fset F.DD_DOMEEXT_VAL 0 l.dome
  let h3 := h2.fset F.DD_TTSFIRST_VAL 0 l.store
  let h4 := iterN (fun g x => (x.fset F.DD_GRPBASE_VAL g (if bitAt l.use g then l.base.getD g 0 else 0)).fset
    F.DD_GRPEXT_VAL g (l.len.getD g 0)) 0 3 h3
  let h5 := { h4 with dd := { h4.dd with peak := l.peak, initRun := true, ueTimes := [], selfRefresh := false } }
  let h6 := iterN (fun c x => reportUnused c l.states want x) 0 12 h5
  let h7 := if l.reduced then h6.raise { code := 0x0D03, dom := domDevice, dinst := 0,
                                         addr := l.dome - l.store } else h6
  h7.fset F.SW_CTRL_SPEN 0 0

/-- R318, R561: SPEN held at 0 until READY takes the image's value. -/
def spenAtReady (h : Hw) : Hw :=
  if h.fget F.DD_STAT_GRPUSE 0 = 0 then h
  else checkSpill (h.fset F.SW_CTRL_SPEN 0 (Store.getD (rstOf F.SW_CTRL_SPEN 0) h.img (fkey F.SW_CTRL_SPEN 0)))

/-! ### The commands -/

/-- DOME_INIT_COMPLETE (R311 steps 4 and 5, R318, R561): every line holds zeros with MD 0b00, READY is set, and SPEN takes the
image's value where the spill area is placed. DESIGN CHOICE: refresh has closed every row (R319). -/
def execDomeInitComplete (s : State) : Out :=
  onMach (fun m =>
    if m.hw.dd.initRun then
      { mem := { m.mem with dome := [], lines := [], rows := [] },
        hw := spenAtReady { (m.hw.fset F.DD_STAT_READY 0 1) with dd := { m.hw.dd with initRun := false } } }
    else m) s

/-- R332: the channels of the copies at which a write's command has failed its retries fail. -/
def writeFails (off : Nat) (f : WrFails) (h : Hw) : Hw :=
  let p := domeMap h off
  let h1 := if f.prim then h.chFail p.prim 4 else h
  match p.mirror with
  | some c => if f.mirror then h1.chFail c 4 else h1
  | none => h1

/-- DOME_WRITE (R323, R325, R332, R333, R264): a full line is stored with MD, or dropped. -/
def execDomeWrite (off data master : Nat) (w : Option (Nat × Nat)) (cmdFail : WrFails) (s : State) : Out :=
  onMach (fun m =>
    if m.hw.inDmArea 1 off && master / 2 ^ 13 != 2 then m.onHw (fun h => ((h.fadd F.DM_CTXWR_VAL 0 1).loseWrite w).dropWrite w)
    else
      let m1 := m.onHw (writeFails off cmdFail)
      let r := writeDome off data (m1.hw.hintOf off) false m1
      r.2.onHw (fun h => (if r.1 then h else h.loseWrite w).dropWrite w)) s

/-- DOME_PARTIAL_WRITE (R325). -/
def execDomePartialWrite (off data en master : Nat) (w : Option (Nat × Nat)) (dec : CopyErrs) (s : State) : Out :=
  onMach (fun m =>
    if m.hw.inDmArea 1 off && master / 2 ^ 13 != 2 then m.onHw (fun h => ((h.fadd F.DM_CTXWR_VAL 0 1).loseWrite w).dropWrite w)
    else (partialWrite off data en master w dec m).2.onHw (fun h => h.dropWrite w)) s

/-- DOME_METADATA_WRITE (R323). -/
def execDomeMetadataWrite (off : Nat) (hint : Bool) (dec : LineErr) (s : State) : Out :=
  onMach (writeHint off hint dec) s

/-- The scrubber's next line of channel `c` (DD_SCRPOS). -/
def Hw.scrPos (h : Hw) (c : Nat) : Nat := h.fget F.DD_SCRPOS_HI_VAL c * 2 ^ 32 + h.fget F.DD_SCRPOS_LO_VAL c

/-- The scrubber's position advanced, wrapping at the channel's last line (R329). -/
def Hw.scrNext (h : Hw) (c : Nat) : Hw :=
  let lines := h.fget F.DD_CHCAP_VAL c * 2 ^ 24
  let n := if h.scrPos c + 1 < lines then h.scrPos c + 1 else 0
  (h.fset F.DD_SCRPOS_LO_VAL c n).fset F.DD_SCRPOS_HI_VAL c (n / 2 ^ 32)

/-- SCRUB_READ (R329, R331): one line of an ACTIVE channel is read and corrected while SCRUBEN is 1 and the channel
is not in self-refresh. -/
def execScrubRead (ch : Nat) (dec : LineErr) (wrSince : Bool) (s : State) : Out :=
  onMach (fun m =>
    if m.hw.chActive ch && m.hw.flag F.DD_CFG_SCRUBEN 0 && !m.hw.dd.selfRefresh && m.hw.flag F.DD_STAT_READY 0 then
      (readPhys ch (m.hw.scrPos ch * 64) (0xA000 + ch) dec wrSince true m).2.onHw (fun h => h.scrNext ch)
    else m) s

/-- R330: DD_SCRINTV of every channel recomputed. -/
def recomputeScrub (h : Hw) : Hw :=
  iterN (fun c x => x.fset F.DD_SCRINTV_VAL c
    (x.fget F.DD_CFG_PERIOD 0 * 36000000000 / (x.fget F.DD_CHCAP_VAL c * 2 ^ 24))) 0 12 h

/-- DD_CFG_WRITE (R330, R337): the fields are written, and a changed PERIOD recomputes every DD_SCRINTV. -/
def execDdCfgWrite (_p : Path) (data : Word) (s : State) : Out :=
  onHw (fun h =>
    let h1 := writeReg R.DD_CFG 0 data.toNat h
    if h1.fget F.DD_CFG_PERIOD 0 = h.fget F.DD_CFG_PERIOD 0 then h1 else recomputeScrub h1) s

end Sys2Proof.Machine
end

