-- ==== Sys2Proof/Machine/Respond.lean ====
section
/-! DEFINITION. Crossbar ports (R175 to R177), the queue a message joins (R231), and the responses that Terroth itself makes for a
request, which cross the crossbar to the requester (R41, R215, R220, R354). -/
namespace Sys2Proof.Machine

/-! ### Ports and queues -/

/-- The lowest crossbar port of the port or internal block that crossbar port `xp` serves (R175, R176, R191). -/
def xpOwner (h : Hw) (xp : Nat) : Nat :=
  if xp < 72 then ((List.range 8).findSome? (fun d =>
    if d ≤ xp ∧ d < h.portWidth (xp - d) / 2 then some (xp - d) else none)).getD xp
  else if xp < 80 then 72 + (xp - 72) / 2 * 2
  else if xp < 88 then 80 else if xp < 92 then 88 else if xp < 94 then 92 else xp

/-- The crossbar ports of the port or internal block whose lowest is `n`; the spare port is never requested or granted (R175). -/
def xpsOf (h : Hw) (n : Nat) : List Nat :=
  if n < 72 then (List.range (h.portWidth n / 2)).map (· + n)
  else if n < 80 then [n, n + 1]
  else if n = 80 then (List.range 8).map (· + 80)
  else if n = 88 then (List.range 4).map (· + 88)
  else if n = 92 then [92, 93] else if n = 94 then [94] else []

/-- R177: the crossbar port whose queue set a message for crossbar port `xp` uses: the lowest of a fabric or Spire port, and each of an
internal block its own. -/
def queueSet (h : Hw) (xp : Nat) : Nat := if xp < 80 then xpOwner h xp else xp

/-- The cells a message of `len` bytes fills (R178). -/
def cellCount (len : Nat) : Nat := max 1 ((len + 255) / 256)

/-- Stack time in 100 ns ticks (R201). -/
def Hw.itime (h : Hw) : Nat := h.stime / 100 % 2 ^ 32

/-- R231: the queue index of a CXL.io message of traffic class `tc` by the egress queue set's own map. -/
def tcQueue (h : Hw) (eg tc : Nat) : Nat :=
  h.fget (([F.TS_TCMAP_TC0, F.TS_TCMAP_TC1, F.TS_TCMAP_TC2, F.TS_TCMAP_TC3, F.TS_TCMAP_TC4, F.TS_TCMAP_TC5,
    F.TS_TCMAP_TC6, F.TS_TCMAP_TC7] : List Fld).getD tc F.TS_TCMAP_TC0) eg

/-- R231: the queue index of a message at egress queue set `eg`. -/
def queueOf (h : Hw) (m : Msg) (eg : Nat) : Nat :=
  match m.cls with
  | .ioNp | .ioPost | .ioCpl => tcQueue h eg m.tc
  | .memReqD | .memReqN | .memRwd | .s2m | .cache =>
    match m.tid with
    | some t => h.fget F.TS_PACE_TQ t
    | none => h.fget F.TS_INTQ_COH 0
  | .coh | .bisnp | .birsp => h.fget F.TS_INTQ_COH 0
  | .turret => h.fget F.TS_INTQ_TUR 0
  | .internal =>
    match m.q with
    | some q => if 92 ≤ m.ing ∧ m.ing < 94 then h.fget F.DM_RCFG_Q q else q
    | none => h.fget F.TS_INTQ_COH 0
  | .spire => m.q.getD (h.fget F.TS_INTQ_COH 0)

/-- A message enters its VOQ (R191). -/
def toVoq (e : EMsg) (h : Hw) : Hw := { h with sw := { h.sw with voq := h.sw.voq ++ [e] } }

/-! ### Responses -/

/-- The kind of message that carries a response, and its bytes; none where the request is dropped. -/
def replyCls (k : RspKind) : Option (MsgCls × Nat) :=
  match k with
  | .ur | .ca => some (.ioCpl, 16)
  | .poison => some (.s2m, 80)
  | .cmp | .cmpInvalid => some (.s2m, 16)
  | .internalErr => some (.internal, 16)
  | .dropped => none

/-- The message of a response (R215, R231): from crossbar port `src` to the requester's port, in the queue of the request's class, with
the tag and generation of the request (R220). Its route index is one that is never resolved (R183), so no REVOKE concerns it. -/
def replyMsg (src : Nat) (m : Msg) (k : RspKind) (completer : Option (Nat × Option Nat)) (c : MsgCls) (len : Nat) (h : Hw) : EMsg :=
  let eg := queueSet h m.ing
  { msg := { m with ing := src, cls := c, len := len, req := none, bad := false, tail := true, ide := none, itime := h.itime },
    q := queueOf h { m with cls := c } eg, eg := eg, ridx := 0x1F, epoch := 0, itime := h.itime, got := 0, total := cellCount len,
    bad := false, mc := none, gone := false, rsp := some ⟨k, completer⟩ }

/-- R215: the response `k` to message `m` made at crossbar port `src`; a non-posted request leaves OUT when the response has left
(R69). -/
def respond (src : Nat) (m : Msg) (k : RspKind) (completer : Option (Nat × Option Nat)) (h : Hw) : Hw :=
  let h1 := h.emit (.rsp m.rid k)
  match replyCls k with
  | some c => toVoq (replyMsg src m k completer c.1 c.2 h1) h1
  | none =>
    match m.tid with
    | some t => h1.readGone t m.rid
    | none => h1

/-- The response, made at its host port, to request `i` of a tenant, of which only number and traffic class are left. -/
def respondTo (t i tc : Nat) (k : RspKind) (h : Hw) : Hw :=
  let p := ttPort (h.ent t)
  respond p { ing := p, cls := .ioNp, tid := some t, tc := tc, rid := i } k none h

/-- The record of request `i` of tenant `t` that counts until its completion leaves, changed by `f`. -/
def Hw.updRead (h : Hw) (t i : Nat) (f : RRec → RRec) : Hw :=
  { h with bd := { h.bd with reads := updateFirst (fun r => r.tid == t && r.rid == i) f h.bd.reads } }

/-- R69, R358: the last completion of a tenant's request has left: the request is complete, or the response that its denied part ends
with follows. -/
def Hw.readDone (h : Hw) (t i : Nat) : Hw :=
  match h.bd.reads.find? (fun r => r.tid == t && r.rid == i) with
  | none => h
  | some r =>
    match r.rest with
    | none => h.readGone t i
    | some k => respondTo t i r.tc k (h.updRead t i (fun r => { r with rest := none }))

/-- R358, R359: whether Terroth takes the completions of a tenant's partly denied write for itself. -/
def Hw.absorbs (h : Hw) (t i : Nat) : Bool := h.bd.reads.any (fun r => r.tid == t && r.rid == i && decide (0 < r.absorb))

/-- R358, R359: one part of a partly denied non-posted write has completed, or is lost; after the last one the write completes with
Completer Abort. -/
def Hw.partDone (h : Hw) (t i : Nat) : Hw :=
  match h.bd.reads.find? (fun r => r.tid == t && r.rid == i) with
  | none => h
  | some r =>
    let h1 := h.updRead t i (fun r => { r with absorb := r.absorb - 1 })
    if r.absorb = 1 then respondTo t i r.tc .ca h1 else h1

/-- R358: the response `k` ends a tenant's read after the completions of its allowed prefix. -/
def Hw.readRest (h : Hw) (t i : Nat) (k : RspKind) : Hw := h.updRead t i (fun r => { r with rest := some k })

/-- R215: the response that a discarded message's requester receives. -/
def discardRsp (c : MsgCls) : RspKind :=
  match c with
  | .ioNp => .ur
  | .memReqD => .poison
  | .memReqN | .memRwd => .cmp
  | .internal => .internalErr
  | _ => .dropped

/-! ### Discard -/

/-- Whether a message is a request of a tenant (R215). -/
def isRequest (c : MsgCls) : Bool :=
  match c with
  | .ioNp | .ioPost | .memReqD | .memReqN | .memRwd => true
  | _ => false

/-- Whether a request message writes. -/
def msgWrites (m : Msg) : Bool :=
  match m.req with
  | some r => isWrite r.kind
  | none => m.cls == .memRwd || m.cls == .ioPost

/-- The access type that messages give for a request message (R448). -/
def msgAtype (m : Msg) : Nat :=
  match m.req with
  | some r => kindAtype r.kind
  | none => if msgWrites m then 2 else 1

/-- A counted write of a tenant is lost (R67, R68): with a part of it LOSS is set, and with the part that completes it the write ends. -/
def loseMsg (m : Msg) (h : Hw) : Hw :=
  match m.tid with
  | none => h
  | some t =>
    if !msgWrites m then h else if m.part then h.loseWrite (some (t, m.rid)) else h.discardWrite t m.rid

/-- R215: the vPPB whose Completer ID a completion made at egress port `eg` carries, as host port and vPPB: the one that the egress port
lies behind in the VCS of the message's tenant. Where the egress is the host port itself, it is the upstream port's own. -/
def egressVppb (h : Hw) (eg : Nat) (m : Msg) : Option (Nat × Option Nat) :=
  m.tid.map (fun t =>
    let p := ttPort (h.ent t)
    if eg = p then (p, none)
    else if m.ing = p then (p, some (ttVppb (h.ent t)))
    else (p, ((h.tidsWhere (fun e => ttState e != 0 && ttKind e != 0 && ttPort e == p && ttDs e == eg)).head?).map (fun u =>
      ttVppb (h.ent u))))

/-- The end of a non-posted request with response `k`; a part of a partly denied write ends instead with the others (R358). -/
def endNp (eg : Nat) (m : Msg) (k : RspKind) (completer : Option (Nat × Option Nat)) (h : Hw) : Hw :=
  match m.tid with
  | some t => if h.absorbs t m.rid then h.partDone t m.rid else respond eg m k completer h
  | none => respond eg m k completer h

/-- R215: the end of a discarded message at its requester, at crossbar port `eg`: LOSS, the drain counter, DISCARD, and the response, a
completion with the Completer ID of the egress vPPB. -/
def discardEnd (eg : Nat) (m : Msg) (rule : Nat) (h : Hw) : Hw :=
  let h1 := match m.tid with
    | some t =>
      if isRequest m.cls then
        (loseMsg m h).raise
          { code := 0x2605, dom := domTenant, dinst := t, addr := rule, unit := eg, atype := msgAtype m, master := t }
      else h
    | none => h
  if m.cls == .ioNp then endNp eg m .ur (egressVppb h eg m) h1 else respond eg m (discardRsp m.cls) none h1

end Sys2Proof.Machine
end

