-- ==== Sys2Proof/Machine/Xlate.lean ====
section
/-! DEFINITION. Translation of tenant offsets (R40 to R43, R315), the end of a request that faults in it (R41), and the
reverse extent map (R117, R118). -/
namespace Sys2Proof.Machine

/-- The translation cache's key of a tenant and extent index (R42). -/
def xcKey (t e : Nat) : Nat := t * 2 ^ 26 + e

/-- The cached entry, if any. -/
def Hw.cached (h : Hw) (t e : Nat) : Option Nat := Store.get? h.bd.xc (xcKey t e)

/-- `h` with the cached entry of a tenant's extent dropped (R42, R57). -/
def Hw.uncache (h : Hw) (t e : Nat) : Hw := { h with bd := { h.bd with xc := Store.del h.bd.xc (xcKey t e) } }

/-- `h` with every cached entry of a tenant dropped (R62). -/
def Hw.uncacheAll (h : Hw) (t : Nat) : Hw := { h with bd := { h.bd with xc := Store.dropWhere h.bd.xc (fun k => k / 2 ^ 26 == t) } }

/-- `h` with an entry cached; the cache holds 64 Ki entries, and which one a full cache gives up is open: a free value
names it. What the flush step has invalidated is not cached again while its tenant is ABORTING or in QUARANTINE (R62). -/
def Hw.cache (h : Hw) (t e x : Nat) : Hw :=
  if 4 ≤ ttState (h.ent t) ∧ ttState (h.ent t) ≤ 5 then h
  else if (h.cached t e).isNone && decide (65536 ≤ h.bd.xc.length) then
    let f := h.takeFree
    let k := ((f.2.bd.xc[f.1 % f.2.bd.xc.length]?).map Prod.fst).getD 0
    { f.2 with bd := { f.2.bd with xc := Store.put (Store.del f.2.bd.xc k) (xcKey t e) x } }
  else { h with bd := { h.bd with xc := Store.put h.bd.xc (xcKey t e) x } }

/-- R40: the GPA that entry `x` gives tenant offset `off`, or none for a translation fault. -/
def xlateEntry (x off : Nat) (write : Bool) : Option Nat :=
  if !etV x || etMst x == 3 then none
  else if etWp x && write then none
  else
    let g := if etMst x == 1 && decide (off % 2 ^ 21 / 64 < etWmark x) then etNgext x
      else if etMst x == 2 then etNgext x else etGext x
    some (g * 2 ^ 21 + off % 2 ^ 21)

/-- The read of a tenant's extent table entry from local Dome (R42, R315): none where it returns poison. -/
def readEt (t e : Nat) (dec mdec : LineErr) (m : Mach) : Option Nat × Mach :=
  let o := etAddr (m.hw.ent t) e
  let r := readDome o (m.hw.homeMaster o) dec mdec false m
  (if r.1 then none else some (bits (r.2.line o) (o % 64 * 8) 128), r.2)

/-- The entry of a lookup without waiting: the cached one, else the table's, cached when V is 1 (R40, R42). -/
def lookupNow (t e : Nat) (m : Mach) : Option Nat × Mach :=
  match m.hw.cached t e with
  | some x => (some x, m)
  | none =>
    let r := readEt t e .good .good (m.onHw (fun h => h.fadd F.BD_XCMISS_VAL 0 1))
    match r.1 with
    | none => r
    | some x => (some x, if etV x then r.2.onHw (fun h => h.cache t e x) else r.2)

/-- R41: the response of a request that a translation fault or a refusal of ingress ends. -/
def faultRsp (q : MemReq) : RspKind :=
  match q.kind with
  | .memWr => .cmp
  | .memInvAny | .memInvInvalid | .memInvShared | .memInvNoOp => .cmp
  | .memRd | .memRdAny => .poison
  | .ioRd | .ioRdExec | .ioWrNp | .ioAtomic => .ur
  | .ioWr => .dropped

/-- R41: what a translation fault reports. -/
def xlateReport (q : MemReq) (h : Hw) : Hw :=
  h.raise
    { code := 0x2801, dom := domTenant, dinst := q.tid, addr := q.addr,
      atype := kindAtype q.kind, master := q.tid }

/-- R354: the response of a request that the guard denies. -/
def denyRsp (q : MemReq) : RspKind :=
  match q.kind with
  | .memWr => .cmp
  | .memInvAny | .memInvInvalid | .memInvShared | .memInvNoOp => .cmpInvalid
  | .memRd | .memRdAny => .poison
  | .ioRd | .ioRdExec | .ioWrNp | .ioAtomic => .ca
  | .ioWr => .dropped

/-- A counted request of a tenant ends with the response `k`, made at its ingress port: a write sets LOSS under R68. -/
def endCounted (x : Msg) (k : RspKind) (h : Hw) : Hw := endNp x.ing x k none (loseMsg x h)

/-- R295: a request goes from its translation stage to the home of its GPA again, without pacing; where the route's entry is invalid it ends
as R181 says. -/
def resend (x : Msg) (rid gpa : Nat) (h : Hw) : Hw :=
  let i := poolRoute h gpa
  let r := h.route i
  if !bitAt r 0 then discardEnd x.ing x 181 h
  else
    let eg := queueSet h (egressOf h i)
    toVoq { msg := x, q := queueOf h x eg, eg := eg, ridx := i, epoch := rtEpoch r, itime := x.itime, got := 0,
            total := cellCount x.len, bad := x.bad, mc := none, gone := false } (h.emit (.routed rid gpa))

/-- R295: a counted request of a tenant returns to translation and is translated and checked again. -/
def retranslate (x : Msg) (q : MemReq) (m : Mach) : Mach :=
  let e := q.addr / 2 ^ 21
  let m1 := m.onHw (fun h => h.fadd F.DM_REDIRECT_VAL 0 1)
  let r := if e < ttEtlen (m1.hw.ent q.tid) then lookupNow q.tid e m1 else (none, m1)
  match r.1.bind (fun v => xlateEntry v q.addr (isWrite q.kind)) with
  | none => r.2.onHw (fun h => xlateReport q (endCounted x (faultRsp q) h))
  | some gpa =>
    r.2.onHw (fun h =>
      match guardAccess (tenantGReq h q) h with
      | (some _, h1) => endCounted x (denyRsp q) h1
      | (none, h1) => resend x q.rid gpa h1)

/-- The 2 MiB extent that holds line address `la` of this module, as a GEXT (R35, R101). -/
def Hw.gextOf (h : Hw) (la : Nat) : Nat := h.sid * 2 ^ 22 + la / 2 ^ 15

/-- R118: the tenants of host port `p` that map GEXT `g` in HDM-DB mode, with their extent indices. -/
def Hw.mapsAt (h : Hw) (g p : Nat) : List (Nat × Nat) :=
  (h.mapsOf g).filter (fun x => ttPort (h.ent x.1) == p && ttHdmDb (h.ent x.1))

/-- The host ports with an HDM-DB tenant mapping GEXT `g`, each once, ascending. -/
def Hw.portsMapping (h : Hw) (g : Nat) : List Nat :=
  ((h.mapsOf g).foldl (fun s x =>
    if ttHdmDb (h.ent x.1) then Store.put s (ttPort (h.ent x.1)) () else s) ([] : SMap Unit)).map Prod.fst

end Sys2Proof.Machine
end

