-- ==== Sys2Proof/Machine/Directory.lean ====
section
/-! DEFINITION. Directory entries and holders (R77, R101 to R106), back-invalidation of host ports (R118, R122), dead agents
by HD_DEAD (R152), and the outcome of a coherence message that names a reserved agent (R77). -/
namespace Sys2Proof.Machine

/-- The directory entry of a line. -/
def Hw.dirEnt (h : Hw) (la : Nat) : Option DirEnt := Store.get? h.hd.dir la

/-- `h` with the directory entry of a line listed. -/
def Hw.setDir (h : Hw) (la : Nat) (e : DirEnt) : Hw := { h with hd := { h.hd with dir := Store.put h.hd.dir la e } }

/-- `h` with the directory entry of a line freed. -/
def Hw.freeDir (h : Hw) (la : Nat) : Hw := { h with hd := { h.hd with dir := Store.del h.hd.dir la } }

/-- R122: the local time before which no BISnp for a line goes to host port `p`: the end of the hold after the home granted it A. -/
def Hw.aWait (h : Hw) (la p : Nat) : Nat := Store.getD 0 h.hd.aHold (la * 128 + p)

/-- R122: the home grants host port `p` A: the hold of TENURE * 5 ns starts; holds that have ended are forgotten. -/
def Hw.aGrant (h : Hw) (la p : Nat) : Hw :=
  { h with hd := { h.hd with aHold := Store.put (h.hd.aHold.filter (fun x => decide (h.ck.ltime < x.2))) (la * 128 + p)
                                        (h.ck.ltime + 5 * h.fget F.HD_CTRL_TENURE 0) } }

/-- An entry in state I with no holder, in way `w`, pinned by record `t`. -/
def DirEnt.fresh (w t : Nat) : DirEnt := ⟨w, 0, true, 0, t, false, 0⟩

/-- The pointers of a HOLD in pointer form (R105). -/
def ptrsOf (hold : Nat) : List Nat := (List.range (bits hold 0 2)).map (fun i => bits hold (2 + 7 * i) 7)

/-- The HOLD of a list of at most three holder codes (R105). -/
def packPtrs (l : List Nat) : Nat :=
  l.length + l.getD 0 0 * 2 ^ 2 + l.getD 1 0 * 2 ^ 9 + l.getD 2 0 * 2 ^ 16

/-- The vector bit of a holder code (R104, R105). -/
def vecBit (c : Nat) : Nat := if c < 72 then 8 + c / 4 else c - 72

/-- FMT and HOLD with holder code `c` added (R106). -/
def addHold (fmt : Bool) (hold c : Nat) : Bool × Nat :=
  if fmt then (true, hold ||| 2 ^ vecBit c)
  else
    let l := ptrsOf hold
    if l.contains c then (false, hold)
    else if l.length < 3 then (false, packPtrs (l ++ [c]))
    else (true, (l ++ [c]).foldl (fun v x => v ||| 2 ^ vecBit x) 0)

/-- FMT and HOLD with holder code `c` removed (R106): in vector form a Cupola's bit clears, and an octet's bit stays,
because another port of the octet may hold the line; an empty HOLD returns to pointer form. -/
def delHold (fmt : Bool) (hold c : Nat) : Bool × Nat :=
  if fmt then
    let v := if 72 ≤ c ∧ bitAt hold (c - 72) then hold - 2 ^ (c - 72) else hold
    (decide (v ≠ 0), v)
  else (false, packPtrs ((ptrsOf hold).filter (· != c)))

/-- Whether a HOLD names holder code `c`. -/
def inHold (fmt : Bool) (hold c : Nat) : Bool := if fmt then bitAt hold (vecBit c) else (ptrsOf hold).contains c

/-- The Cupolas of a HOLD, by stack ID. -/
def holdCups (fmt : Bool) (hold : Nat) : List Nat :=
  if fmt then (List.range 8).filter (fun s => bitAt hold s)
  else ((ptrsOf hold).filter (fun c => decide (72 ≤ c))).map (· - 72)

/-- The host ports of a HOLD: the pointers, or in vector form every port of a named octet with an HDM-DB tenant mapping
the extent `g` (R106). -/
def Hw.holdPorts (h : Hw) (fmt : Bool) (hold g : Nat) : List Nat :=
  if fmt then (h.portsMapping g).filter (fun p => bitAt hold (8 + p / 4))
  else (ptrsOf hold).filter (fun c => decide (c < 72))

/-- An entry with a holder added. -/
def DirEnt.add (e : DirEnt) (c : Nat) : DirEnt :=
  let r := addHold e.fmt e.hold c
  { e with fmt := r.1, hold := r.2 }

/-- An entry with a holder removed. -/
def DirEnt.rem (e : DirEnt) (c : Nat) : DirEnt :=
  let r := delHold e.fmt e.hold c
  { e with fmt := r.1, hold := r.2 }

/-- Whether an entry records holder code `c` in any role. -/
def DirEnt.has (e : DirEnt) (c : Nat) : Bool :=
  e.st != 0 && (inHold e.fmt e.hold c || (e.st == 3 && 72 + e.owner == c))

/-- An entry in X with holder `c`. -/
def DirEnt.mkX (e : DirEnt) (c : Nat) : DirEnt := { e with st := 2, owner := 0, fmt := false, hold := packPtrs [c] }

/-- An entry in S, or I where nothing remains. -/
def DirEnt.settleS (e : DirEnt) : DirEnt := { e with st := if e.hold = 0 then 0 else 1, owner := 0 }

/-- The holder code of an agent (R104). -/
def codeOf (agent : Nat) : Nat := if agent % 128 = 72 then 72 + agent / 128 else agent % 128

/-- The agent ID of a holder code (R77, R104). -/
def Hw.agentOf (h : Hw) (c : Nat) : Nat := if c < 72 then h.sid * 128 + c else (c - 72) * 128 + 72

/-- The agent ID of a Cupola (R77). -/
def cupAgent (s : Nat) : Nat := s * 128 + 72

/-- Whether HD_DEAD names an agent (R152). -/
def Hw.isDead (h : Hw) (agent : Nat) : Bool := bitAt (h.fget F.HD_DEAD_VAL (agent / 32)) (agent % 32)

/-- HD_DEAD's bit of an agent set or cleared. -/
def Hw.setDeadBit (h : Hw) (agent v : Nat) : Hw :=
  h.fset F.HD_DEAD_VAL (agent / 32) (putBits (h.fget F.HD_DEAD_VAL (agent / 32)) (agent % 32) 1 v)

/-- R118, R122: BISnps of kind `k` for line offset `off` of GEXT `g` to every HDM-DB tenant of each port that maps it, none
sent before the port's `nb`. Answers the BISnps sent. -/
def sendBis (g off k : Nat) (nb : Nat → Nat) (ports : List Nat) (h : Hw) : List (Nat × Nat × Nat) × Hw :=
  ports.foldl (fun s p =>
    (s.2.mapsAt g p).foldl (fun s x =>
      (s.1 ++ [(p, x.1, x.2)], s.2.emit (.bisnp p x.1 (x.2 * 2 ^ 21 + off) k (nb p)))) s) ([], h)

/-- R118, R122, R152: the home's BISnps of kind `k` for line `la`. None is sent to a dead port: its entry (port, 0, 0) stands for the
answer that is synthesised for it. -/
def homeBis (la k : Nat) (ports : List Nat) (h : Hw) : List (Nat × Nat × Nat) × Hw :=
  let dead := ports.filter (fun p => h.isDead (h.agentOf p))
  let b := sendBis (h.gextOf la) (la % 2 ^ 15 * 64) k (h.aWait la) (ports.filter (fun p => !h.isDead (h.agentOf p))) h
  (b.1 ++ dead.map (fun p => (p, 0, 0)), b.2)

/-- R77, R96: a coherence message that names a reserved agent is discarded, counted and reported. -/
def badCoh (m : Coh) (unit : Nat) (h : Hw) : Hw :=
  (h.fadd F.HD_LATE_VAL 0 1).raise
    { code := 0x3A01, dom := domSpire, dinst := m.via, addr := m.laddr * 64, unit := unit, atype := 4,
      master := 0x2000 + m.src % 1024 }

/-- R77: whether a message names a reserved agent in SRC or FWD. -/
def namesReserved (m : Coh) : Bool := decide (73 ≤ m.src % 128 ∨ 73 ≤ m.fwd % 128)

/-- The value of a BIRsp in R118's order. -/
def biVal (r : BiRsp) : Nat :=
  match r with
  | .i => 0 | .s => 1 | .e => 2

end Sys2Proof.Machine
end

