-- ==== Sys2Proof/Machine/Home.lean ====
section
/-! DEFINITION. The home: the serving of requests by directory state (R86 to R90), the transaction records and their phases
(R135 to R137, R143 to R146), allocation and victims (R106 to R108), the retry queue (R109 to R112), the tracked hint (R115,
R116), CXL.io reads of several lines (R159), Fence (R130), migration locks (R292, R293) and dead agents (R151 to R154). -/
namespace Sys2Proof.Machine

/-! ### Reading the state -/

/-- The transaction open on a line, with its key. -/
def Hw.txnOf (h : Hw) (la : Nat) : Option (Nat × HTxn) := h.hd.txns.find? (fun x => x.2.req.la == la)

/-- `h` with a transaction record replaced. -/
def Hw.setTxn (h : Hw) (k : Nat) (t : HTxn) : Hw := { h with hd := { h.hd with txns := Store.put h.hd.txns k t } }

/-- The retry queue of logical slice `l`. -/
def Hw.retryQ (h : Hw) (l : Nat) : List (Bool × HReq) := Store.getD [] h.hd.retry l

/-- `h` with the retry queue of logical slice `l` replaced. -/
def Hw.setRetry (h : Hw) (l : Nat) (q : List (Bool × HReq)) : Hw :=
  { h with hd := { h.hd with retry := Store.setD [] h.hd.retry l q } }

/-- The release buffer of logical slice `l`. -/
def Hw.relQ (h : Hw) (l : Nat) : List HRel := Store.getD [] h.hd.rel l

/-- `h` with the release buffer of logical slice `l` replaced. -/
def Hw.setRel (h : Hw) (l : Nat) (q : List HRel) : Hw := { h with hd := { h.hd with rel := Store.setD [] h.hd.rel l q } }

/-- The entries of a set of a logical slice. -/
def Hw.setEnts (h : Hw) (l s : Nat) : List (Nat × DirEnt) :=
  h.hd.dir.filter (fun x => sliceOf x.1 == l && dirSet x.1 == s)

/-- The host port a request came from. -/
def reqPort (r : HReq) : Nat :=
  match r.msg with
  | some x => x.ing
  | none => 0

/-- Whether a request kind allocates an entry (R108). -/
def allocates (k : HKind) : Bool :=
  match k with
  | .ncRead | .ncWrite => false
  | _ => true

/-- Whether a request comes from a Cupola. -/
def fromSpire (k : HKind) : Bool :=
  match k with
  | .cShared | .cOwn | .cUpgrade => true
  | _ => false

/-- Whether the home's grant of a request kind carries data. -/
def wantsData (k : HKind) : Bool :=
  match k with
  | .cUpgrade | .hSharedNd | .hOwnNd | .ncWrite => false
  | _ => true

/-- Whether a request kind takes the line for itself, or removes every holder. -/
def excludes (k : HKind) : Bool :=
  match k with
  | .cOwn | .cUpgrade | .hOwn | .hOwnNd | .ncWrite | .lock => true
  | _ => false

/-- The Dome offset of a line. -/
def lineOff (la : Nat) : Nat := la * 64

/-- R88: whether host port `p` has a BISnp for the line outstanding in its open transaction. -/
def Hw.bisTo (h : Hw) (la p : Nat) : Bool := (h.txnOf la).any (fun t => t.2.bis.any (fun b => b.1 == p))

/-- R165: whether the hint of a line of the hash set that DS16 rebuilds is read. -/
def asksHint (h : Hw) (la : Nat) : Bool :=
  h.fget F.HD_SLSTAT_ROLE 16 == 2 && sliceOf la == h.fget F.HD_SLSTAT_LSLICE 16 &&
  decide (h.hd.rbPos ≤ la) && (h.dirEnt la).isNone

/-- R165, R166: whether a line of the hash set that DS16 rebuilds still needs its rebuild. -/
def needsRebuild (m : Mach) (la : Nat) : Bool := asksHint m.hw la && readHint m (lineOff la)

/-- R165, R319: the metadata read of a line that a rebuild may concern. -/
def probeHint (la : Nat) (m : Mach) : Mach := if asksHint m.hw la then m.openLine (lineOff la) else m

/-- R295: whether a line of a migrating source extent lies below the record's WMARK. -/
def Hw.belowMark (h : Hw) (la : Nat) : Bool :=
  (List.range 8).any (fun n => h.flag F.DM_MIGSRC_V n && h.fget F.DM_MIGSRC_SRCEXT n == la / 2 ^ 15 &&
    decide (la % 2 ^ 15 < h.fget F.DM_MIGPOS_WMARK n))

/-! ### Sending -/

/-- A coherence message of this home (R93, R94). -/
def Hw.homeMsg (h : Hw) (txn la data : Nat) (poison : Bool) (fwd : Nat) : Coh :=
  { starve := false, poison := poison, owned := false, src := cupAgent h.sid, fwd := fwd, txn := txn,
    laddr := h.sid * 2 ^ 37 + la, data := data, via := 0 }

/-- The tag that the home's snoops of a record carry (R94). -/
def Hw.homeTag (h : Hw) (k : Nat) : Nat := h.tagGen .hd k * 1024 + k

/-- The home sends a message without data to an agent. -/
def Hw.sendCoh (h : Hw) (dst opc txn la : Nat) : Hw := h.emitCoh dst opc (h.homeMsg txn la 0 false 0)

/-- R110: a Retry, counted. -/
def Hw.sendRetry (h : Hw) (agent tag la : Nat) : Hw := (h.sendCoh agent 0x16 tag la).fadd F.HD_RETRYSENT_VAL 0 1

/-- The snoops to Cupolas of a record, each with its opcode; those that have the owner forward name the requester and its tag. None is
sent to a dead Cupola (R152). -/
def sendSnoops (k la fwd rtag : Nat) (l : List (Nat × Nat)) (h : Hw) : Hw :=
  l.foldl (fun h x =>
    let f := x.2 == 0x0A || x.2 == 0x0B
    if h.isDead (cupAgent x.1) then h
    else h.emitCoh (cupAgent x.1) x.2
      { h.homeMsg (h.homeTag k) la 0 false (if f then fwd else 0) with rtag := if f then rtag else 0 }) h

/-! ### The answers to requests without a state -/

/-- The data mover's access `tag` is answered or visible; one that no window awaits any more is late (R23). -/
def Hw.dmAnswer (h : Hw) (tag : Nat) (f : DmAcc → DmAcc) : Hw :=
  match Store.get? h.dm.accs tag with
  | none => h.fadd F.DM_LATE_VAL 0 1
  | some a => { h with dm := { h.dm with accs := Store.put h.dm.accs tag (f a) } }

/-- The tag of the window port's beat in flight. -/
def beatTag : Nat := 5

/-- The window port's beat is answered; an answer of an earlier generation is late (R23). -/
def Hw.beatReturn (h : Hw) (gen : Nat) (d : Nat × Bool) : Hw :=
  if h.tagOpen .ck beatTag && h.tagGen .ck beatTag == gen then
    { h with mg := { h.mg with beat := h.mg.beat.map (fun b => { b with res := some d }) } }
  else h.countLate .ck

/-- The lines that a memory read covers. -/
def ioLines (q : MemReq) : Nat := (q.addr + q.len + 63) / 64 - q.addr / 64

/-- The tenant address of the line of a read that lies at `gpa`: they share the offset in the extent. -/
def ioAddr (q : MemReq) (gpa : Nat) : Nat :=
  let base := q.addr / 64 * 64
  base + (gpa / 64 * 64 % 2 ^ 21 + 2 ^ 21 - base % 2 ^ 21) % 2 ^ 21

/-- R159: lines in address order joined into completions: a poisoned line alone, the others with their neighbours. -/
def ioJoin : List IoLine → List (Nat × Nat × Nat × Bool)
  | [] => []
  | x :: r =>
    match ioJoin r with
    | (a, n, d, false) :: l =>
      if x.poison then (x.addr, 1, 0, true) :: (a, n, d, false) :: l else (x.addr, n + 1, x.data + d * 2 ^ 512, false) :: l
    | l => (x.addr, 1, if x.poison then 0 else x.data, x.poison) :: l

/-- R159: a line of a CXL.io read returns; when every line has, the completions leave in address order. -/
def ioReturn (m : Msg) (q : MemReq) (gpa : Nat) (d : Nat × Bool) (h : Hw) : Hw :=
  let mine := fun (x : IoLine) => x.port == m.ing && x.rid == m.rid
  let l := h.hd.io.filter (fun x => !(mine x && x.addr == ioAddr q gpa)) ++ [⟨m.ing, m.rid, ioAddr q gpa, d.1, d.2⟩]
  let got := (List.range (ioLines q)).filterMap (fun i => l.find? (fun x => mine x && x.addr == q.addr / 64 * 64 + 64 * i))
  if got.length < ioLines q then { h with hd := { h.hd with io := l } }
  else (ioJoin got).foldl (fun h c => h.emit (.ioCpl m.ing m.rid c.1 c.2.1 c.2.2.1 c.2.2.2))
    { h with hd := { h.hd with io := l.filter (fun x => !mine x) } }

/-- The data of a non-caching read returns to the data mover (unit 1), the window port (2) or the host. -/
def readReturn (unit tag gpa : Nat) (msg : Option Msg) (d : Nat × Bool) (h : Hw) : Hw :=
  match unit, msg with
  | 1, _ => h.dmAnswer tag (fun a => { a with st := .done, data := d.1, poison := d.2 })
  | 2, _ => h.beatReturn tag d
  | _, none => h
  | _, some m =>
    match m.cls, m.req with
    | .ioNp, some q => ioReturn m q gpa d h
    | _, _ => h.emit (.s2m m.ing tag 3 (some d))

/-- A write has been carried out, or discarded on a poisoned line (`ok` false): the host gets its completion, the window port its
beat's answer. -/
def writeReturn (unit tag : Nat) (msg : Option Msg) (ok : Bool) (h : Hw) : Hw :=
  match unit, msg with
  | 1, _ => h
  | 2, _ => h.beatReturn tag (0, !ok)
  | _, none => h
  | _, some m => h.emit (.s2m m.ing tag 3 none)

/-- A write of the data mover is globally visible (R276). -/
def Hw.dmVisible (h : Hw) (tag : Nat) : Hw :=
  match Store.get? h.dm.accs tag with
  | none => h
  | some a => { h with dm := { h.dm with accs := Store.put h.dm.accs tag { a with st := .done } } }

/-- R130: a line's queue has accepted a request or release of a Spire agent. -/
def tookFrom (agent txn : Nat) (h : Hw) : Hw :=
  { h with hd := { h.hd with unacc := h.hd.unacc.filter (fun x => !(x.1 == agent && x.2.1 == txn)) } }

/-- R69, R129, R130: the line's queue accepts a request; a write is globally visible from then on. -/
def accepted (r : HReq) (h : Hw) : Hw :=
  if fromSpire r.kind then tookFrom r.agent r.tag h
  else if r.kind != .ncWrite then h
  else
    match r.unit, r.msg.bind (fun x => x.tid) with
    | 0, some t => h.markVisible t r.tag
    | 1, _ => h.dmVisible r.tag
    | _, _ => h

/-- R68: a waiting request of a host is dropped; a write of a tenant is discarded with it. -/
def dropReq (r : HReq) (h : Hw) : Hw :=
  match r.kind, r.unit, r.msg.bind (fun x => x.tid) with
  | .ncWrite, 0, some t => h.discardWrite t r.tag
  | _, _, _ => h

/-! ### Writes to Dome -/

/-- The master ID of a request at the home (R450): the data mover's ring, the window port's path (R588), the tenant, a Spire peer's agent, or
the home itself. -/
def reqMaster (h : Hw) (r : HReq) : Nat :=
  if r.unit = 1 ∨ r.unit = 3 then 0x4000 + (r.dmx.map Prod.fst).getD 0
  else if r.unit = 2 then (if h.mg.beat.any (fun b => b.path == .turret) then 0x6000 else 0x8000)
  else match r.msg.bind Msg.tid with
    | some t => t
    | none => if fromSpire r.kind then 0x2000 + r.agent else h.homeMaster (lineOff r.la)

/-- A write of the home to a line with byte enables (R323, R325, R264) for a master; `w` is the tenant write it carries out. Answers whether a
partial write was not discarded on its line. -/
def homeWrite (master la data en : Nat) (w : Option (Nat × Nat)) (m : Mach) : Bool × Mach :=
  let o := lineOff la
  if m.hw.inDmArea 1 o && decide (master / 2 ^ 13 ≠ 2) then (true, m.onHw (fun h => ((h.fadd F.DM_CTXWR_VAL 0 1).loseWrite w).dropWrite w))
  else if allBytes en then
    let r := writeDome o data (m.hw.hintOf o) false m
    (true, r.2.onHw (fun h => (if r.1 then h else h.loseWrite w).dropWrite w))
  else
    let r := partialWrite o data en master w ⟨.good, .good⟩ m
    (r.1, r.2.onHw (fun h => h.dropWrite w))

/-- Data that a snoop or a release returned, written to Dome: the poison marker where it is poisoned. The context areas and completion
records of rings take none (R264). -/
def homeStore (la : Nat) (d : Nat × Bool) (m : Mach) : Mach :=
  if m.hw.inDmArea 1 (lineOff la) then m.onHw (fun h => h.fadd F.DM_CTXWR_VAL 0 1)
  else if d.2 then m.poisonLine (lineOff la) else m.putLine (lineOff la) d.1

/-! ### Answers to a transaction -/

/-- What a snooped Cupola answers (R139, R146). -/
inductive CupAns where
  | ack | owned
  | inv
  | dataM (d : Nat) (p : Bool)
  | dataO (d : Nat) (p : Bool)

/-- R146: DataM at a transaction, after its sender is removed: passed, kept for the merge, discarded, or written to Dome as
R89 decides for the request. A migration lock keeps the data, and the source line takes it too, so that a read of it in breach of R296
returns the data as copied. Poisoned data of a dead holder also marks the line where the request does not take or replace it. -/
def takeDataM (t : HTxn) (d : Nat × Bool) (m : Mach) : HTxn × Mach :=
  match t.phase with
  | .snp =>
    match t.req.kind with
    | .hOwn | .hOwnNd | .ncWrite => ({ t with data := some d }, m)
    | .lock => ({ t with data := some d }, homeStore t.req.la d m)
    | .cUpgrade => (t, m)
    | .hShared | .hSharedNd | .ncRead => ({ t with data := some d }, homeStore t.req.la d m)
    | .cShared | .cOwn => ({ t with need := true, fwd := false }, homeStore t.req.la d m)
  | _ => ({ t with got := true }, homeStore t.req.la d m)

/-- R146: the answer of the Cupola of stack ID `s` to transaction `k`. -/
def answerCup (k s : Nat) (a : CupAns) (m : Mach) : Mach :=
  match Store.get? m.hw.hd.txns k with
  | none => m
  | some t0 =>
    let t := { t0 with snps := t0.snps.filter (· != s) }
    match a with
    | .ack => m.onHw (fun h => h.setTxn k { t with tgt := t.tgt.add (72 + s) })
    | .owned => m.onHw (fun h => h.setTxn k { t with tgt := { t.tgt with st := 3, owner := s } })
    | .inv => m.onHw (fun h => h.setTxn k { t with tgt := t.tgt.rem (72 + s) })
    | .dataO d p =>
      m.onHw (fun h => h.setTxn k { t with tgt := { t.tgt with st := 3, owner := s }, data := some (d, p) })
    | .dataM d p =>
      let r := takeDataM { t with tgt := t.tgt.rem (72 + s) } (d, p) m
      r.2.onHw (fun h => h.setTxn k r.1)

/-- R118: the state of a port once its BISnps of a record are answered: A keeps the line in X, S makes it a sharer. -/
def portState (t : HTxn) (p v : Nat) : HTxn :=
  if excludes t.req.kind || t.phase != .snp then t
  else if v = 2 then { t with tgt := t.tgt.mkX p }
  else if v = 1 then { t with tgt := t.tgt.add p }
  else t

/-- R118: a BIRsp answers the BISnp to tenant `tid`, extent index `e` of port `p`. -/
def answerBi (k p tid e v : Nat) (m : Mach) : Mach :=
  match Store.get? m.hw.hd.txns k with
  | none => m
  | some t =>
    let v' := if v = 2 ∧ t.bk ≠ 0 then 0 else v
    let t1 := { t with bis := t.bis.filter (fun x => !(x.1 == p && x.2.1 == tid && x.2.2 == e)),
                       seen := Store.put t.seen p (max v' (Store.getD 0 t.seen p)) }
    let t2 := if t1.bis.any (fun x => x.1 == p) then t1 else portState t1 p (Store.getD 0 t1.seen p)
    m.onHw (fun h => h.setTxn k t2)

/-- R152 step 2: the synthesised answers for agent `a` in transaction `k`. -/
def synthOne (a k : Nat) (m : Mach) : Mach :=
  match Store.get? m.hw.hd.txns k with
  | none => m
  | some t =>
    let c := codeOf a
    if 72 ≤ c then
      if t.snps.contains (c - 72) then
        let recd := (t.src.st == 2 && inHold t.src.fmt t.src.hold c) || (t.src.st == 3 && t.src.owner == c - 72)
        let m1 := answerCup k (c - 72) (if recd then .dataM 0 true else .inv) m
        match Store.get? m1.hw.hd.txns k with
        | none => m1
        | some t1 => if t1.phase == .rbd then m1.onHw (fun h => h.setTxn k { t1 with lost := true }) else m1
      else m
    else
      let mine := t.bis.filter (fun x => x.1 == c)
      if mine.isEmpty then m
      else
        let recd := t.src.st == 2 && inHold t.src.fmt t.src.hold c
        let t1 := { t with bis := t.bis.filter (fun x => x.1 != c), lost := t.lost || t.phase == .rbd,
                           got := t.got || recd }
        (if recd then m.poisonLine (lineOff t.req.la) else m).onHw (fun h => h.setTxn k t1)

/-- R152: synthesised answers for every dead agent that transaction `k` waits for. -/
def synthDead (k : Nat) (m : Mach) : Mach :=
  match Store.get? m.hw.hd.txns k with
  | none => m
  | some t =>
    let as_ := (t.snps.map cupAgent ++ t.bis.map (fun x => m.hw.agentOf x.1)).filter m.hw.isDead
    as_.foldl (fun m a => synthOne a k m) m

/-! ### Opening -/

/-- The least free transaction record of logical slice `l`. -/
def Hw.freeRec (h : Hw) (l : Nat) : Option Nat := (Store.firstFree h.hd.txns (64 * l) 0 64).map (64 * l + ·)

/-- What a request in a state of the directory sends and where it starts (R89): the target before any answer, the Cupola
snoops with opcodes, the host ports to back-invalidate with the kind, whether the home supplies the data from Dome, and
whether an owner forwards it. -/
structure Plan where
  tgt : DirEnt
  cups : List (Nat × Nat)
  ports : List Nat
  bk : Nat
  need : Bool
  fwd : Bool

/-- The opcode that asks the X holder or the O owner (R89). -/
def askOpc (k : HKind) : Nat :=
  match k with
  | .cShared => 0x0A
  | .cOwn => 0x0B
  | .hShared | .hSharedNd | .ncRead => 0x08
  | _ => 0x09

/-- R89: the plan of request `r` on an entry. DESIGN CHOICE (the column X has no case in which the requester is the recorded holder): a
read or ownership request of the recorded holder is not snooped at itself, and Dome gives the data. -/
def planOf (h : Hw) (e : DirEnt) (r : HReq) : Plan :=
  let me := codeOf r.agent
  let k := r.kind
  let g := h.gextOf r.la
  let skip := fun c => k != .ncWrite && k != .lock && k != .ncRead && c == me
  let cups := ((holdCups e.fmt e.hold).filter (fun s => !skip (72 + s)))
  let ports := (h.holdPorts e.fmt e.hold g).filter (fun p => !skip p)
  let w := wantsData k
  let empty : DirEnt := { e with st := 1, owner := 0, fmt := false, hold := 0 }
  let fw := k == .cShared || k == .cOwn
  match e.st with
  | 0 => ⟨e, [], [], 2, w, false⟩
  | 1 =>
    if excludes k then ⟨e, cups.map (fun s => (s, 0x09)), ports, 2, w, false⟩ else ⟨e, [], [], 2, w, false⟩
  | 2 =>
    match holdCups e.fmt e.hold with
    | s :: _ => if skip (72 + s) then ⟨empty, [], [], 2, w, false⟩ else ⟨empty, [(s, askOpc k)], [], 2, w && !fw, fw⟩
    | [] => ⟨empty, [], ports, if excludes k then 2 else if k == .ncRead then 0 else 1, w, false⟩
  | _ =>
    let ask := if skip (72 + e.owner) then [] else [(e.owner, askOpc k)]
    let base := { e with st := 1, owner := 0 }
    if excludes k then
      ⟨base, ask ++ (cups.filter (· != e.owner)).map (fun s => (s, 0x09)), ports, 2, w && !fw, fw⟩
    else ⟨base, ask, [], 2, w && !fw, fw⟩

/-- R90: an Upgrade of a sender that the entry does not record, when it is served, is an ownership read. -/
def atService (e : DirEnt) (r : HReq) : HReq :=
  if r.kind == .cUpgrade && !e.has (codeOf r.agent) then { r with kind := .cOwn } else r

/-- A record without answers, data or a request that waits for its way. -/
def HTxn.start (r : HReq) (p : HPhase) (e tgt : DirEnt) : HTxn :=
  { req := r, phase := p, src := e, tgt := tgt, snps := [], bis := [], bk := 2, seen := [], need := false, reading := false,
    data := none, fwd := false, next := none, lost := false, got := false }

/-- The record opens on request `r0` with entry `e` (already pinned), and its snoops leave. -/
def openOn (k : Nat) (e : DirEnt) (r0 : HReq) (m : Mach) : Mach :=
  let r := atService e r0
  let p := planOf m.hw e r
  let b := homeBis r.la p.bk p.ports (sendSnoops k r.la r.agent r.tag p.cups (accepted r (m.hw.openTag .hd k)))
  let t := { HTxn.start r .snp e p.tgt with
    snps := p.cups.map Prod.fst, bis := b.1, bk := p.bk, need := p.need, fwd := p.fwd }
  synthDead k { m with hw := b.2.setTxn k t }

/-- R107: the victim transaction on entry (`la`, `e`), whose way request `r` takes. -/
def openVictim (k la : Nat) (e : DirEnt) (r : HReq) (m : Mach) : Mach :=
  let h0 := (m.hw.fadd F.HD_EVICT_VAL 0 1).openTag .hd k
  let h1 := h0.setDir la { e with pin := true, txn := k % 64 }
  let cups := holdCups e.fmt e.hold ++ (if e.st == 3 then [e.owner] else [])
  let b := homeBis la 2 (h1.holdPorts e.fmt e.hold (h1.gextOf la)) (sendSnoops k la 0 0 (cups.map (fun s => (s, 0x09))) h1)
  let t := { HTxn.start { agent := 1024, kind := .ncRead, la := la } .vic e { e with st := 0, fmt := false, hold := 0 } with
    snps := cups, bis := b.1, next := some r }
  synthDead k { m with hw := b.2.setTxn k t }

/-- R165, R166: the broadcast of a line's rebuild: SnpInv to every live Cupola of the stack but this module's, BISnpInv to
every live port with an HDM-DB tenant mapping the extent. The line is unknown from the start where one of these targets was dead, and
not reclaimed on the failed slice, when it failed. -/
def openRebuild (k la : Nat) (m : Mach) : Mach :=
  let h1 := m.hw.openTag .hd k
  let maps := h1.portsMapping (h1.gextOf la)
  let cups := (List.range 8).filter (fun s => s != h1.sid && bitAt (h1.fget F.SL_STKSTAT_ALIVE 0) s &&
    !h1.isDead (cupAgent s))
  let ports := maps.filter (fun p => !h1.isDead (h1.agentOf p))
  let b := homeBis la 2 ports (sendSnoops k la 0 0 (cups.map (fun s => (s, 0x09))) h1)
  let target := fun (a : Nat) => a % 128 == 72 && a / 128 != h1.sid || maps.any (fun p => h1.agentOf p == a)
  let t := { HTxn.start { agent := 1024, kind := .ncRead, la := la } .rbd (DirEnt.fresh 0 0) (DirEnt.fresh 0 0) with
    snps := cups, bis := b.1, lost := h1.hd.rbDead.any target }
  { m with hw := b.2.setTxn k t }

/-- R164: the ways of a set that the open records of the failed slice will write at their close. -/
def Hw.oldWays (h : Hw) (l s : Nat) : List Nat :=
  (h.hd.txns.filter (fun x => sliceOf x.2.req.la == l && dirSet x.2.req.la == s && (h.dirEnt x.2.req.la).isNone &&
    x.2.phase != .rbd && (allocates x.2.req.kind || x.2.src.st != 0))).map (fun x => x.2.src.way)

/-- The ways of a set that no entry uses and no old record will write, lowest first. -/
def freeWay (es : List (Nat × DirEnt)) (old : List Nat) : Option Nat :=
  (List.range 16).find? (fun w => !es.any (fun x => x.2.way == w) && !old.contains w)

/-- R315: the first line of the reverse map that the BISnps of a record to `ports` need and that reads as poison. -/
def biLost (la : Nat) (ports : List Nat) (m : Mach) : Option Nat :=
  if ports.all (fun p => m.hw.isDead (m.hw.agentOf p)) then none else m.revLost (m.hw.gextOf la)

/-- R41, R315: a request whose reverse-map read at Dome offset `o` returns poison ends as a translation fault does, with CHANNEL reported.
DESIGN CHOICE (R41 names no answer to another module): a Cupola gets poisoned data in the state it asked for, and the Ack; the entry stays
as it is. -/
def revFault (o : Nat) (r : HReq) (m : Mach) : Mach :=
  m.onHw (fun h =>
    let p := domeMap h o
    let h1 := h.raise { code := 0x3D02, dom := domChannel, dinst := p.prim, addr := o, unit := p.prim, atype := 1, master := h.homeMaster o }
    let h2 := accepted r h1
    match r.unit, r.msg with
    | 1, _ => h2.dmAnswer r.tag (fun a => { a with st := .done, poison := true })
    | 2, _ => h2.beatReturn r.tag (0, true)
    | _, some x =>
      (match x.req with
        | some q => xlateReport q (endCounted x (faultRsp q) h2)
        | none => dropReq r (h2.emit (.s2m x.ing x.rid 3 (if wantsData r.kind then some (0, true) else none))))
    | _, none =>
      let opc := if excludes r.kind then 0x11 else 0x10
      (h2.emitCoh r.agent opc (h2.homeMsg r.tag r.la 0 true 0)).sendCoh r.agent 0x14 r.tag r.la)

/-- What serving a request came to: it waits, its line's rebuild has opened, or it has been taken. -/
inductive Served where
  | waits
  | opened (m : Mach)
  | taken (m : Mach)

/-- R295: a write of the data mover that its window has committed while it waited at the source home is translated and checked again, and
goes where the address leads now; one that faults is reported and dropped (R41). -/
def moveWrite (r : HReq) (ring tid a : Nat) (m : Mach) : Mach :=
  let master := 0x4000 + ring
  let l := if a / 2 ^ 21 < ttEtlen (m.hw.ent tid) then lookupNow tid (a / 2 ^ 21) m else (none, m)
  match l.1.bind (fun x => xlateEntry x a true) with
  | none => l.2.onHw (fun h => h.raise { code := 0x2801, dom := domTenant, dinst := tid, addr := a, atype := 2, master := master })
  | some g =>
    l.2.onHw (fun h =>
      match guardAccess { tid := some tid, addr := a, len := 64, priv := h.flag F.DM_RCFG_PRIV ring, needs := [.w], master := master } h with
      | (some _, h1) => h1
      | (none, h1) =>
        if g / 2 ^ 43 = h1.sid then { h1 with hd := { h1.hd with held := h1.hd.held ++ [.req { r with la := g % 2 ^ 43 / 64 }] } }
        else
          { h1 with cu := { h1.cu with held := h1.cu.held ++
              [{ msg := { ing := 92, cls := .internal, q := some ring }, own := false, caching := false, wantData := false, write := true,
                 gla := g / 64, data := r.data, en := r.en, mv := 2, poison := r.poison, unit := 1, tag := r.tag }] } })

/-- R295: a request that came through translation names a line below WMARK: a host's is translated again for that line; an access of the data mover
returns to step 1 of R276 on its engine. -/
def redirect (r : HReq) (m : Mach) : Mach :=
  match r.msg, r.msg.bind (fun x => x.req) with
  | some x, some q =>
    let q' := if q.len ≤ 64 then q else { q with addr := q.addr / 2 ^ 21 * 2 ^ 21 + r.la % 2 ^ 15 * 64, len := 64 }
    retranslate { x with req := some q' } q' m
  | _, _ =>
    let m1 := m.onHw (fun h => h.fadd F.DM_REDIRECT_VAL 0 1)
    match Store.get? m1.hw.dm.accs r.tag, r.dmx with
    | some a, _ => m1.onHw (fun h => { h with dm := { h.dm with accs := Store.put h.dm.accs r.tag { a with st := .redo } } })
    | none, some (ring, tid, a) => if r.kind == .ncWrite then moveWrite r ring tid a m1 else m1
    | none, none => m1

/-- R89, R107 to R109, R293, R295: an attempt to serve request `r`. DESIGN CHOICE (the spec names no case in which all 64 transaction
records of a slice are open): the request then waits in the retry queue. -/
def serve (r : HReq) (m0 : Mach) : Served :=
  let m := probeHint r.la m0
  let h := m.hw
  let l := sliceOf r.la
  if h.hd.failing.contains l || (h.txnOf r.la).isSome ||
    h.hd.txns.any (fun x => x.2.next.any (fun y => y.la == r.la)) then .waits
  else if r.xl && h.belowMark r.la then .taken (redirect r m)
  else
    match h.freeRec l with
    | none => .waits
    | some k =>
      if needsRebuild m r.la then .opened (openRebuild k r.la m)
      else
        match h.dirEnt r.la with
        | some e =>
          let pins := (h.setEnts l (dirSet r.la)).filter (fun x => x.2.pin && ((h.txnOf x.1).any (fun t => t.2.req.kind == .lock)))
          if r.kind == .lock && decide (8 ≤ pins.length) then .waits
          else
            match (if r.kind == .lock then none else biLost r.la (planOf h e (atService e r)).ports m) with
            | some o => .taken (revFault o r m)
            | none => .taken (openOn k e r { m with hw := h.setDir r.la { e with pin := true, txn := k % 64 } })
        | none =>
          if !allocates r.kind then .taken (openOn k { DirEnt.fresh 0 (k % 64) with pin := false } r m)
          else
            let es := h.setEnts l (dirSet r.la)
            let pins := es.filter (fun x => x.2.pin && ((h.txnOf x.1).any (fun t => t.2.req.kind == .lock)))
            if r.kind == .lock && decide (8 ≤ pins.length) then .waits
            else
              match freeWay es (h.oldWays l (dirSet r.la)) with
              | some w =>
                let e := DirEnt.fresh w (k % 64)
                .taken (openOn k e r (writeHint (lineOff r.la) true .good { m with hw := h.setDir r.la e }))
              | none =>
                let un := es.filter (fun x => !x.2.pin)
                let f := h.takeFree
                match un[f.1 % un.length]? with
                | none => .waits
                | some v =>
                  match (if r.kind == .lock then none else biLost v.1 (h.holdPorts v.2.fmt v.2.hold (h.gextOf v.1)) m) with
                  | some o => .taken (revFault o r m)
                  | none => .taken (openVictim k v.1 v.2 r { m with hw := f.2 })

/-! ### Closing -/

/-- R143, R100: a release on a line without an open transaction. DESIGN CHOICE (R165 speaks of requests only): a release for a line that
the rebuild has not reached finds no entry and is stale, and its data is dropped. -/
def applyRelease (rl : HRel) (m0 : Mach) : Mach :=
  let m := m0.onHw (tookFrom rl.m.src rl.m.txn)
  let h := m.hw
  let la := rl.m.laddr % 2 ^ 37
  let s := rl.m.src / 128
  let code := 72 + s
  let ack := fun (m : Mach) => m.onHw (fun h => h.sendCoh rl.m.src 0x14 rl.m.txn la)
  let stale := ack (m.onHw (fun h => h.fadd F.HD_STALE_VAL 0 1))
  let free := fun (m : Mach) => writeHint (lineOff la) false .good (m.onHw (fun h => h.freeDir la))
  match h.dirEnt la with
  | none => stale
  | some e =>
    let isX := e.st == 2 && inHold e.fmt e.hold code
    let isO := e.st == 3 && e.owner == s
    let isS := (e.st == 1 || e.st == 3) && inHold e.fmt e.hold code && !isO
    let put := fun (e : DirEnt) (m : Mach) => if e.st = 0 then free m else m.onHw (fun h => h.setDir la e)
    match rl.kind with
    | 0 =>
      if isX then ack (free (homeStore la (rl.m.data, rl.m.poison) m))
      else if isO then ack (put e.settleS (homeStore la (rl.m.data, rl.m.poison) m))
      else stale
    | 1 =>
      if isX then ack (free m)
      else if isS then
        let e' := e.rem code
        ack (put (if e.st == 1 then e'.settleS else e') m)
      else stale
    | _ =>
      if isS then
        let e' := e.rem code
        ack (put (if e.st == 1 then e'.settleS else e') m)
      else stale

/-- R145: the record closes: the target is written into the entry, which is unpinned, or freed with its hint cleared; then
the line's held releases are evaluated in arrival order (R143). -/
def closeTxn (k : Nat) (tgt : DirEnt) (m : Mach) : Mach :=
  match Store.get? m.hw.hd.txns k with
  | none => m
  | some t =>
    let la := t.req.la
    let l := sliceOf la
    let had := (m.hw.dirEnt la).isSome || t.phase == .rbd || t.src.st != 0 || (t.phase == .snp && allocates t.req.kind)
    let nx := match t.next with
      | some r => [r]
      | none => []
    let h1 := m.hw.closeTag .hd k
    let h2 := { h1 with hd := { h1.hd with txns := Store.del h1.hd.txns k, next := h1.hd.next ++ nx } }
    let m1 : Mach := { m with hw := h2 }
    let m2 := if tgt.st = 0 then
        let m3 := m1.onHw (fun h => h.freeDir la)
        if had then writeHint (lineOff la) false .good m3 else m3
      else m1.onHw (fun h => h.setDir la { tgt with pin := false, txn := 0 })
    let mine := (m2.hw.relQ l).filter (fun x => x.m.laddr % 2 ^ 37 == la)
    let m4 := m2.onHw (fun h => h.setRel l ((h.relQ l).filter (fun x => !(x.m.laddr % 2 ^ 37 == la))))
    mine.foldl (fun m x => applyRelease x m) m4

/-- The target entry of a completed request (R89), the requester included. -/
def finalTgt (h : Hw) (t : HTxn) : DirEnt :=
  let me := codeOf t.req.agent
  let shared := { t.tgt.add me with st := if t.tgt.st = 3 then 3 else 1 }
  match t.req.kind with
  | .cShared => if t.src.st = 0 && h.flag F.HD_CTRL_EGRANT 0 then t.tgt.mkX me else shared
  | .hShared | .hSharedNd => shared
  | .cOwn | .cUpgrade | .hOwn | .hOwnNd => t.tgt.mkX me
  | .ncRead => if t.tgt.st = 1 then t.tgt.settleS else t.tgt
  | .ncWrite | .lock => { t.tgt with st := 0, owner := 0, fmt := false, hold := 0 }

/-- R154: the end of a transaction whose requester is dead. -/
def deadEnd (k : Nat) (t : HTxn) (m : Mach) : Mach :=
  let fin := finalTgt m.hw t
  let me := codeOf t.req.agent
  if (fin.st = 2 && inHold fin.fmt fin.hold me) || t.fwd then
    closeTxn k { fin with st := 0, owner := 0, fmt := false, hold := 0 } (m.poisonLine (lineOff t.req.la))
  else
    let e := if t.tgt.has me then t.tgt.rem me else t.tgt
    closeTxn k (if e.st = 3 ∨ (e.st = 2 ∧ e.hold ≠ 0) then e else e.settleS) m

/-- R89, R146: the grant. A Cupola requester's record moves to GNT; a host requester's closes (R137). A write of a requester that has
died is still carried out, and no answer leaves for it (R154). -/
def grant (k : Nat) (t : HTxn) (m : Mach) : Mach :=
  let h := m.hw
  let la := t.req.la
  let fin := finalTgt h t
  let dead := decide (t.req.agent < 1024) && h.isDead t.req.agent
  if dead && t.req.kind != .ncWrite then deadEnd k t m
  else
    let port := reqPort t.req
    match t.req.kind with
    | .cShared | .cOwn | .cUpgrade =>
      let d := t.data.getD (0, false)
      let opc := if fin.st = 2 then 0x11 else 0x10
      let h1 := if t.need then h.emitCoh t.req.agent opc (h.homeMsg t.req.tag la d.1 d.2 0) else h
      { m with hw := (h1.sendCoh t.req.agent 0x14 t.req.tag la).setTxn k { t with phase := .gnt, tgt := fin } }
    | .hShared | .hSharedNd =>
      closeTxn k fin { m with hw := h.emit (.s2m port t.req.tag 1 (if t.req.kind == .hShared then t.data else none)) }
    | .hOwn | .hOwnNd => closeTxn k fin { m with hw := (h.aGrant la port).emit (.s2m port t.req.tag 2 t.data) }
    | .ncRead =>
      closeTxn k fin { m with hw := readReturn t.req.unit t.req.tag (lineOff la) t.req.msg (t.data.getD (0, true)) h }
    | .ncWrite =>
      let m1 := match t.data with
        | some d => if allBytes t.req.en then m else homeStore la d m
        | none => m
      let w := if t.req.unit = 0 then t.req.msg.bind (fun x => x.tid.map (fun i => (i, t.req.tag))) else none
      let r := if t.req.poison then (true, m1.poisonLine (lineOff la))
        else homeWrite (reqMaster h t.req) la t.req.data t.req.en w m1
      closeTxn k fin (r.2.onHw (fun h => if dead then h else writeReturn t.req.unit t.req.tag t.req.msg r.1 h))
    | .lock => m

/-- One move of transaction `k` that no outstanding answer holds back: its Dome read leaves, or it ends. -/
def stepTxn (k : Nat) (m : Mach) : Option Mach :=
  match Store.get? m.hw.hd.txns k with
  | none => none
  | some t =>
    if !t.snps.isEmpty || !t.bis.isEmpty || t.reading then none
    else
      match t.phase with
      | .gnt => none
      | .snp =>
        if t.need && t.data.isNone then some (m.onHw (fun h => h.setTxn k { t with reading := true }))
        else if t.req.kind == .lock then none
        else some (grant k t m)
      | .vic | .rcl => some (closeTxn k { t.tgt with st := 0, owner := 0, fmt := false, hold := 0 } m)
      | .rbd =>
        let bad := t.lost && !t.got
        let m1 := if bad then (m.poisonLine (lineOff t.req.la)).onHw (fun h => h.fadd F.HD_RBPOIS_VAL 0 1) else m
        let m2 := if t.lost then m1.onHw (fun h => h.fset F.HD_RBSTAT_DOUBLE 0 1) else m1
        some (closeTxn k { t.tgt with st := 0 } m2)

/-! ### The retry queue -/

/-- The first request of a queue that may be served: none before it names its line (R109). -/
def serveScan (before : List Nat) (pre : List (Bool × HReq)) (m : Mach) :
    List (Bool × HReq) → Option (List (Bool × HReq) × Mach)
  | [] => none
  | x :: rest =>
    if before.contains x.2.la then serveScan before (pre ++ [x]) m rest
    else
      match serve x.2 m with
      | .taken m' => some (pre ++ rest, m')
      | .opened m' => some (pre ++ x :: rest, m')
      | .waits => serveScan (x.2.la :: before) (pre ++ [x]) m rest

/-- The entries of a retry queue in general use (R109). -/
def generalUse (q : List (Bool × HReq)) : Nat := (q.filter (fun x => !x.1)).length

/-- One move of logical slice `l`: a transaction moves on, a victim's way is taken, or a waiting request is served (R109, R145). A
migration lock that still cannot be served is held in its engine and takes no entry of the retry queue (R293). -/
def sliceMove (l : Nat) (m : Mach) : Option Mach :=
  match ((m.hw.hd.txns.map Prod.fst).filter (fun k => k / 64 == l)).findSome? (fun k => stepTxn k m) with
  | some m' => some m'
  | none =>
    match m.hw.hd.next.find? (fun r => sliceOf r.la == l) with
    | some r =>
      let m1 := m.onHw (fun h => { h with hd := { h.hd with next := removeFirst (· == r) h.hd.next } })
      match serve r m1 with
      | .taken m' => some m'
      | _ => some (m1.onHw (fun h =>
          if r.kind == .lock then { h with hd := { h.hd with locks := h.hd.locks ++ [r] } }
          else (accepted r h).setRetry l ((false, r) :: h.retryQ l)))
    | none => (serveScan [] [] m (m.hw.retryQ l)).map (fun x => x.2.onHw (fun h => h.setRetry l x.1))

/-- Logical slice `l` runs until nothing more can move. -/
def settle (l : Nat) (m : Mach) : Nat → Mach
  | 0 => m
  | n + 1 =>
    match sliceMove l m with
    | none => m
    | some m' => settle l m' n

/-- The moves a slice can make after one event: 64 records and 64 waiting requests, each a few moves. -/
def settleFuel : Nat := 1024

/-! ### Requests held at their ports (R111) -/

/-- The host port of what is held there; none for the data mover and the window port. -/
def heldPort (x : HWhat) : Option Nat :=
  match x with
  | .req r => if r.unit = 0 then r.msg.map (fun m => m.ing) else none
  | .rel _ _ => none
  | .host m _ _ _ _ => some m.ing

/-- Whether a host operation is a write, whose credit is never withheld. -/
def opWrites (op : HostOp) : Bool :=
  match op with
  | .wrAny | .wrShared | .wrInvalid => true
  | _ => false

/-- Whether what is held is an M2S Req of port `p`: it stands in that port's ingress queue. DESIGN CHOICE (R111 speaks of M2S Req): a CXL.io
read counts as one. -/
def heldReq (p : Nat) (x : HWhat) : Bool :=
  heldPort x == some p &&
  (match x with
    | .req r => r.kind != .ncWrite
    | .rel _ _ => false
    | .host _ op _ _ _ => !opWrites op)

/-- The M2S Reqs held of port `p`, oldest first: whether at the Cupola. -/
def Hw.portQueue (h : Hw) (p : Nat) : List Bool := Store.getD [] h.hd.portQ p

/-- Whether port `p` withholds M2S Req credit. -/
def Hw.portHeld (h : Hw) (p : Nat) : Bool := !(h.portQueue p).isEmpty

/-- R111, R123: an M2S Req of port `p` is held, at the Cupola where `cu`; the port withholds M2S Req credit from the first one on. -/
def joinPort (p : Nat) (cu : Bool) (h : Hw) : Hw :=
  let h1 := { h with hd := { h.hd with portQ := Store.setD [] h.hd.portQ p (h.portQueue p ++ [cu]) } }
  if h.portHeld p then h1 else h1.emit (.creditHold p false true)

/-- R111, R123: the oldest M2S Req held of port `p` is let in; the credit returns with the last one. -/
def leavePort (p : Nat) (h : Hw) : Hw :=
  let h1 := { h with hd := { h.hd with portQ := Store.setD [] h.hd.portQ p (h.portQueue p).tail } }
  if h.portHeld p && !h1.portHeld p then h1.emit (.creditHold p false false) else h1

/-- R111: a request, or a host operation behind one, is held at its port. -/
def holdAt (x : HWhat) (h : Hw) : Hw :=
  let h1 := { h with hd := { h.hd with held := h.hd.held ++ [x] } }
  match heldPort x with
  | some p => if heldReq p x then joinPort p false h1 else h1
  | none => h1

/-- R111: what is held leaves its port. -/
def unhold (x : HWhat) (h : Hw) : Hw :=
  let h1 := { h with hd := { h.hd with held := removeFirst (· == x) h.hd.held } }
  match heldPort x with
  | some p => if heldReq p x then leavePort p h1 else h1
  | none => h1

/-- R109 to R111: a request that must wait enters the retry queue, is answered Retry, or is held at its host port. DESIGN CHOICE (R111
speaks of host M2S Req only): a host's write, and a request of the data mover or the window port, that finds the general entries full
waits where it came from, and no credit is withheld for it. -/
def enqueueReq (r : HReq) (m : Mach) : Mach :=
  let l := sliceOf r.la
  let q := m.hw.retryQ l
  let stack := r.agent / 128
  if m.hw.hd.failing.contains l then
    if fromSpire r.kind then m.onHw (fun h => h.sendRetry r.agent r.tag r.la) else m.onHw (holdAt (.req r))
  else if generalUse q < 56 then m.onHw (fun h => (accepted r h).setRetry l (q ++ [(false, r)]))
  else if fromSpire r.kind then
    if r.starve && !q.any (fun x => x.1 && x.2.agent / 128 == stack) then
      m.onHw (fun h => (accepted r h).setRetry l (q ++ [(true, r)]))
    else m.onHw (fun h => h.sendRetry r.agent r.tag r.la)
  else m.onHw (holdAt (.req r))

/-- The arrival of a request at its slice. -/
def arrive (r : HReq) (m : Mach) : Mach :=
  let l := sliceOf r.la
  let m1 :=
    if (m.hw.retryQ l).any (fun x => x.2.la == r.la) || m.hw.hd.next.any (fun x => x.la == r.la) then enqueueReq r m
    else
      match serve r m with
      | .taken m' => m'
      | .opened m' => enqueueReq r m'
      | .waits => enqueueReq r m
  settle l m1 settleFuel

/-! ### Releases -/

/-- R144: a Spire release: applied, held while the line's transaction is open, or answered Retry when the buffer is full. DESIGN CHOICE
(R163 names requests only): while its slice awaits takeover, a release for a line without an open transaction is answered Retry too. -/
def releaseIn (kind : Nat) (m : Coh) (x : Mach) : Mach :=
  let la := m.laddr % 2 ^ 37
  let l := sliceOf la
  if (x.hw.txnOf la).isSome then
    if (x.hw.relQ l).length < 32 then x.onHw (fun h => (tookFrom m.src m.txn h).setRel l (h.relQ l ++ [⟨kind, m⟩]))
    else x.onHw (fun h => h.sendRetry m.src m.txn la)
  else if x.hw.hd.failing.contains l then x.onHw (fun h => h.sendRetry m.src m.txn la)
  else settle l (applyRelease ⟨kind, m⟩ x) settleFuel

/-- The entry of a line, or the copy that its open transaction took (R136). -/
def Hw.recEnt (h : Hw) (la : Nat) : Option DirEnt :=
  match h.txnOf la with
  | some (_, t) => some t.src
  | none => h.dirEnt la

/-- Whether the entry of a line records host port `p` as its holder in A. -/
def hostA (h : Hw) (la p : Nat) : Bool :=
  match h.recEnt la with
  | some e => e.st == 2 && inHold e.fmt e.hold p
  | none => false

/-- Whether the entry of a line records host port `p` at all. -/
def hostHolds (h : Hw) (la p : Nat) : Bool :=
  match h.recEnt la with
  | some e => e.has p
  | none => false

/-- A release of host port `p`, on the entry or, while a transaction is open, on its target (R86, R144): `keep` leaves the
host a sharer. -/
def hostRelease (la p : Nat) (keep : Bool) (m : Mach) : Mach :=
  let upd := fun (e : DirEnt) =>
    let e' := e.rem p
    if e.st = 2 then (if inHold e.fmt e.hold p then (if keep then { e'.add p with st := 1 } else { e' with st := 0 }) else e)
    else if keep then e
    else if e.st = 1 then e'.settleS
    else e'
  match m.hw.txnOf la with
  | some (k, t) =>
    m.onHw (fun h => h.setTxn k { t with tgt := if t.tgt.st = 1 ∧ !keep then t.tgt.rem p else upd t.tgt })
  | none =>
    match m.hw.dirEnt la with
    | none => m
    | some e =>
      let e' := upd e
      if e'.st = 0 then writeHint (lineOff la) false .good (m.onHw (fun h => h.freeDir la))
      else m.onHw (fun h => h.setDir la e')

/-! ### Host requests -/

/-- The request that a host message makes at the home. -/
def hostReq (h : Hw) (m : Msg) (k : HKind) (la data en : Nat) : HReq :=
  { agent := h.agentOf m.ing, kind := k, la := la, tag := m.rid, xl := m.req.isSome, msg := some m, data := data, en := en }

/-- R88: dirty data for the line's open transaction came from a host: a rebuild's line is then known. -/
def noteDirty (la : Nat) (h : Hw) : Hw :=
  match h.txnOf la with
  | some (k, t) => h.setTxn k { t with got := true }
  | none => h

/-- R86, R87, R88, R144, R295: a host's CXL.mem request at its local home. Requests of HDM-H tenants are non-caching (R82). A write of a
host that holds the line, or that answers a BISnp of its open transaction, is carried out at once. -/
def hostAtHome (m : Msg) (op : HostOp) (la data en : Nat) (x : Mach) : Mach :=
  let h := x.hw
  let p := m.ing
  let db := match m.tid with
    | some t => ttHdmDb (h.ent t)
    | none => false
  let l := sliceOf la
  let go := fun (k : HKind) => arrive (hostReq h m k la data en) x
  let cmp := fun (x : Mach) => x.onHw (fun h => h.emit (.s2m p m.rid 3 none))
  let w := m.tid.map (fun t => (t, m.rid))
  if m.req.isSome && h.belowMark la then redirect (hostReq h m .ncRead la data en) x
  else
    match op with
    | .rdAny => go (if db then .hOwn else .ncRead)
    | .rdShared => go (if db then .hShared else .ncRead)
    | .rdInvalid => go .ncRead
    | .invAny => if db then go .hOwnNd else cmp x
    | .invShared => if db then go .hSharedNd else cmp x
    | .invNoOp => cmp x
    | .specRd => x
    | .invInvalid | .clnEvct =>
      settle l (cmp (if db && hostHolds h la p then hostRelease la p false x else x)) settleFuel
    | .wrAny | .wrShared | .wrInvalid =>
      if db && (hostA h la p || (hostHolds h la p && (h.txnOf la).isSome) || h.bisTo la p) then
        let x0 := x.onHw (fun h => noteDirty la (accepted (hostReq h m .ncWrite la data en) h))
        let x1 := cmp (homeWrite (m.tid.getD 0) la data en w x0).2
        settle l (match op with
          | .wrInvalid => hostRelease la p false x1
          | .wrShared => hostRelease la p true x1
          | _ => x1) settleFuel
      else go .ncWrite

/-- R111: a host operation at its home: behind an M2S Req that is held at its port it is held too, unless it is a write. -/
def hostIn (m : Msg) (op : HostOp) (la data en : Nat) (x : Mach) : Mach :=
  if !opWrites op && x.hw.portHeld m.ing then x.onHw (holdAt (.host m op la data en)) else hostAtHome m op la data en x

/-- Whether what is held may be the next of its port to leave: an M2S Req stands first in the port's ingress queue. -/
def heldHead (h : Hw) (before : List HWhat) (x : HWhat) : Bool :=
  match heldPort x with
  | some p => !heldReq p x || ((h.portQueue p).head? == some false && !before.any (heldReq p))
  | none => true

/-- R109, R111: what is held tries to leave its port. A request that has found the general entries full leaves when its slice has room; an
operation that has stood behind one leaves unless it would be held in its turn. -/
def tryLeave (x : HWhat) (m : Mach) : Option Mach :=
  let m1 := m.onHw (unhold x)
  match x with
  | .req r =>
    if m.hw.hd.failing.contains (sliceOf r.la) || decide (56 ≤ generalUse (m.hw.retryQ (sliceOf r.la))) then none
    else some (arrive r m1)
  | .rel k c => some (releaseIn k c m1)
  | .host c op la d e =>
    let m2 := hostAtHome c op la d e m1
    if m1.hw.hd.held.length < m2.hw.hd.held.length then none else some m2

/-- The first of the things held at the ports that leaves. -/
def heldNext (m : Mach) (before : List HWhat) : List HWhat → Option Mach
  | [] => none
  | x :: r =>
    match (if heldHead m.hw before x then tryLeave x m else none) with
    | some m' => some m'
    | none => heldNext m (before ++ [x]) r

/-- R111: what is held at the ports enters as room appears. -/
def drainHeld (m : Mach) : Nat → Mach
  | 0 => m
  | n + 1 =>
    match heldNext m [] m.hw.hd.held with
    | none => m
    | some m' => drainHeld m' n

/-- The effect of a command at the home, and what it lets in from the ports. -/
def homeEffect (f : Mach → Mach) (m : Mach) : Mach :=
  let m1 := f m
  drainHeld m1 (m1.hw.hd.held.length)

/-- A command's effect at the home as an outcome. -/
def onHome (f : Mach → Mach) (s : State) : Out := onMach (homeEffect f) s

/-! ### Competing arrivals (R112) -/

/-- An arrival takes its place. -/
def placeArr (a : HArr) (m : Mach) : Mach :=
  match a.what with
  | .req r => arrive r m
  | .rel k c => releaseIn k c m
  | .host c op la d e => hostIn c op la d e m

/-- `h` with the competition at slice `l` replaced. -/
def Hw.setContest (h : Hw) (l : Nat) (c : Option Contest) : Hw :=
  { h with hd := { h.hd with contest := match c with
      | some c => Store.put h.hd.contest l c
      | none => Store.del h.hd.contest l } }

/-- R112: the arrivals that compete at slice `l` are placed in the order of its pointer, as far as they have come: the first agent ID at
or after the pointer wins and moves it; the last one left competes with none. -/
def contestRun (l : Nat) (m : Mach) : Nat → Mach
  | 0 => m
  | n + 1 =>
    match Store.get? m.hw.hd.contest l with
    | none => m
    | some c =>
      match c.here, c.here.map (fun a => a.agent) ++ c.missing with
      | [], [] => m.onHw (fun h => h.setContest l none)
      | a :: _, [_] => placeArr a (m.onHw (fun h => h.setContest l none))
      | _, ids =>
        match rotFind (fun x => ids.contains x) 1024 (Store.getD 0 m.hw.hd.arb l) 1024 with
        | none => m
        | some x =>
          match c.here.find? (fun a => a.agent == x) with
          | none => m
          | some a =>
            contestRun l (placeArr a (m.onHw (fun h =>
              let h1 := { h with hd := { h.hd with arb := Store.setD 0 h.hd.arb l ((x + 1) % 1024) } }
              h1.setContest l (some { c with here := removeFirst (· == a) c.here })))) n

/-- The places that one CCLK cycle's arrivals can take. -/
def contestFuel : Nat := 1024

/-- R112: arrival `a` at slice `l`, in the same CCLK cycle as arrivals of `rivals`. An arrival that no open competition there awaits
belongs to a later cycle: what that competition still awaits never came. -/
def competes (l : Nat) (a : HArr) (rivals : List Nat) (m : Mach) : Mach :=
  let fresh := fun (m : Mach) =>
    let rs := rivals.filter (· != a.agent)
    if rs.isEmpty then placeArr a m
    else contestRun l (m.onHw (fun h => h.setContest l (some ⟨[a], rs⟩))) contestFuel
  match Store.get? m.hw.hd.contest l with
  | none => fresh m
  | some c =>
    if c.missing.contains a.agent then
      contestRun l (m.onHw (fun h => h.setContest l (some ⟨c.here ++ [a], c.missing.erase a.agent⟩))) contestFuel
    else fresh (contestRun l (m.onHw (fun h => h.setContest l (some { c with missing := [] }))) contestFuel)

/-! ### Commands: Spire requests and releases -/

/-- A Spire request or release reaches the home: a reserved agent or a dead sender is discarded (R77, R152), and R112 orders
competing arrivals. -/
def homeIn (m : Coh) (rivals : List Nat) (w : HWhat) (x : Mach) : Mach :=
  let la := m.laddr % 2 ^ 37
  if namesReserved m then x.onHw (badCoh m (x.hw.servedBy (sliceOf la)))
  else if x.hw.isDead m.src then x.onHw (fun h => h.fadd F.HD_LATE_VAL 0 1)
  else competes (sliceOf la) ⟨m.src, w⟩ rivals x

/-- The request of a Cupola's message. -/
def cupReq (k : HKind) (m : Coh) : HReq :=
  { agent := m.src, kind := k, la := m.laddr % 2 ^ 37, tag := m.txn, starve := m.starve }

/-- HOME_RDSHARED (R89, R107 to R110). -/
def execHomeRdshared (m : Coh) (rivals : List Nat) (s : State) : Out :=
  onHome (homeIn m rivals (.req (cupReq .cShared m))) s

/-- HOME_RDOWN (R89). -/
def execHomeRdown (m : Coh) (rivals : List Nat) (s : State) : Out :=
  onHome (homeIn m rivals (.req (cupReq .cOwn m))) s

/-- R89: an Upgrade of the recorded holder of a line in X cannot occur. -/
def upgradeBad (h : Hw) (m : Coh) : Bool :=
  let la := m.laddr % 2 ^ 37
  match h.dirEnt la with
  | some e => (h.txnOf la).isNone && e.st == 2 && inHold e.fmt e.hold (codeOf m.src)
  | none => false

/-- HOME_UPGRADE (R89, R90). -/
def execHomeUpgrade (m : Coh) (rivals : List Nat) (s : State) : Out :=
  onMachF (fun x =>
    if !namesReserved m && upgradeBad x.hw m then .fault (.cannotOccur 89)
    else .next (homeEffect (homeIn m rivals (.req (cupReq .cUpgrade m))) x)) s

/-- HOME_WBDIRTY (R143, R144, R100). -/
def execHomeWbdirty (m : Coh) (rivals : List Nat) (s : State) : Out := onHome (homeIn m rivals (.rel 0 m)) s

/-- HOME_WBCLEAN (R143, R144, R100). -/
def execHomeWbclean (m : Coh) (rivals : List Nat) (s : State) : Out := onHome (homeIn m rivals (.rel 1 m)) s

/-- HOME_EVICT (R143, R144, R100). -/
def execHomeEvict (m : Coh) (rivals : List Nat) (s : State) : Out := onHome (homeIn m rivals (.rel 2 m)) s

/-! ### Commands: answers -/

/-- R146: an answer of a snooped Cupola, matched by tag, generation and sender; any other is late. `bad` names the phases in
which the table says it cannot occur. -/
def answerIn (m : Coh) (a : CupAns) (bad : HPhase → Bool) (x : Mach) : Host.Outcome Mach Fault Refusal :=
  let k := m.txn % 1024
  let late : Mach := x.onHw (fun h => h.fadd F.HD_LATE_VAL 0 1)
  if namesReserved m then .next (x.onHw (badCoh m (x.hw.servedBy (k / 64))))
  else
    match Store.get? x.hw.hd.txns k with
    | none => .next late
    | some t =>
      if x.hw.tagGen .hd k ≠ m.txn / 1024 % 16 || x.hw.isDead m.src then .next late
      else if bad t.phase then .fault (.cannotOccur 146)
      else if !t.snps.contains (m.src / 128) || m.src % 128 != 72 then .next late
      else .next (homeEffect (fun x => settle (k / 64) (answerCup k (m.src / 128) a x) settleFuel) x)

/-- Phases in which a snoop answer that keeps the line cannot occur (R146 h, i). -/
def notSnp (p : HPhase) : Bool := p != .snp

/-- HOME_SNOOP_ACK (R146). -/
def execHomeSnoopAck (m : Coh) (s : State) : Out := onMachF (answerIn m (if m.owned then .owned else .ack) notSnp) s

/-- HOME_INVACK (R146). -/
def execHomeInvack (m : Coh) (s : State) : Out := onMachF (answerIn m .inv (· == .gnt)) s

/-- HOME_DATAM (R146). -/
def execHomeDatam (m : Coh) (s : State) : Out := onMachF (answerIn m (.dataM m.data m.poison) (· == .gnt)) s

/-- HOME_DATAO (R146). -/
def execHomeDatao (m : Coh) (s : State) : Out := onMachF (answerIn m (.dataO m.data m.poison) notSnp) s

/-- The line address at this home, the tenant and extent index that an answer names: the outstanding BISnp it answers. -/
def biTarget (h : Hw) (port tid addr : Nat) : Option (Nat × Nat) :=
  let e := addr / 2 ^ 21
  h.hd.txns.findSome? (fun x =>
    if x.2.req.la % 2 ^ 15 == addr / 64 % 2 ^ 15 && x.2.bis.any (fun b => b.1 == port && b.2.1 == tid && b.2.2 == e)
    then some (x.1, e) else none)

/-- R57, R62: an answer to a back-invalidation of a flush or release step: it is no longer outstanding, and the host leaves
the holders of the line unless another of its tenants maps the extent. -/
def flushAnswer (port tid addr : Nat) (release : Nat → Mach → Mach) (x : Mach) : Mach :=
  let e := addr / 2 ^ 21
  let line := addr % 2 ^ 21 / 64
  if x.hw.bd.flush.contains (port, tid, e, line) then
    let x1 := x.onHw (fun h => { h with bd := { h.bd with flush := h.bd.flush.erase (port, tid, e, line) } })
    let gs := (x1.hw.revAll.filter (fun (r : Nat × Nat × Nat) => r.2.1 == tid && r.2.2 == e)).map Prod.fst
    gs.foldl (fun x g =>
      if (x.hw.mapsAt g port).any (fun y => y != (tid, e)) then x else release (g * 2 ^ 15 + line) x) x1
  else x.onHw (fun h => h.fadd F.HD_LATE_VAL 0 1)

/-- HOME_BIRSP (R118, R146): a dead port's answer has been synthesised, so one that still comes is late (R152). -/
def execHomeBirsp (port tid addr : Nat) (r : BiRsp) (s : State) : Out :=
  onHome (fun x =>
    if x.hw.isDead (x.hw.agentOf port) then x.onHw (fun h => h.fadd F.HD_LATE_VAL 0 1)
    else
      match biTarget x.hw port tid addr with
      | none => flushAnswer port tid addr (fun gla x =>
          if gla / 2 ^ 37 = x.hw.sid then settle (sliceOf (gla % 2 ^ 37)) (hostRelease (gla % 2 ^ 37) port false x) settleFuel
          else x) x
      | some (k, e) => settle (k / 64) (answerBi k port tid e (biVal r) x) settleFuel) s

/-- HOME_COMPLETION_ACK (R145, R146): the requester's Ack closes its transaction. -/
def execHomeCompletionAck (m : Coh) (s : State) : Out :=
  onMachF (fun x =>
    let la := m.laddr % 2 ^ 37
    if namesReserved m then .next (x.onHw (badCoh m (x.hw.servedBy (sliceOf la))))
    else
      match x.hw.txnOf la with
      | none => .next (x.onHw (fun h => h.fadd F.HD_LATE_VAL 0 1))
      | some (k, t) =>
        if x.hw.isDead m.src then .next (x.onHw (fun h => h.fadd F.HD_LATE_VAL 0 1))
        else
          match t.phase with
          | .gnt =>
            if t.req.agent = m.src ∧ t.req.tag = m.txn then
              .next (homeEffect (fun x => settle (k / 64) (closeTxn k t.tgt x) settleFuel) x)
            else .next (x.onHw (fun h => h.fadd F.HD_LATE_VAL 0 1))
          | _ => .fault (.cannotOccur 146)) s

/-- BICONFLICT (R88): answered BIConflictAck; the BISnp stays outstanding. -/
def execBiconflict (port tid addr : Nat) (s : State) : Out := onHw (fun h => h.emit (.biConflictAck port tid addr)) s

/-! ### Fence (R130) -/

/-- FENCE_RECEIVE (R130, R147): a Fence with its transport sequence number; it waits for the messages before it. -/
def execFenceReceive (m : FenceIn) (s : State) : Out :=
  onHw (fun h =>
    if namesReserved m.m then badCoh m.m 0 h
    else if h.isDead m.m.src then h.fadd F.HD_LATE_VAL 0 1
    else { h with hd := { h.hd with fences := h.hd.fences ++ [(m.m.src, m.m.txn, m.tseq)] } }) s

/-- R130: whether every coherence message of `src` with a transport number below `tseq` has been delivered, and every request and release
among them accepted by its line's queue. DEDUCED: one that was answered Retry has not been accepted, and is once it has been sent again and
taken in. -/
def fenceMet (h : Hw) (src tseq : Nat) : Bool :=
  decide (((h.slPeer (src / 128)).nexp + 2 ^ 24 - tseq % 2 ^ 24) % 2 ^ 24 < 2 ^ 23) &&
  !h.hd.unacc.any (fun x => x.1 == src && decide (0 < (tseq + 2 ^ 24 - x.2.2) % 2 ^ 24 ∧ (tseq + 2 ^ 24 - x.2.2) % 2 ^ 24 < 2 ^ 23)) &&
  !h.hd.contest.any (fun c => c.2.here.any (fun a => a.agent == src))

/-- FENCE_ACK_SEND (R130): a Fence whose condition holds is answered Ack, with its TXN. -/
def execFenceAckSend (src txn : Nat) (s : State) : Out :=
  onHw (fun h =>
    match h.hd.fences.find? (fun x => x.1 == src && x.2.1 == txn) with
    | none => h
    | some f =>
      if fenceMet h src f.2.2 then
        ({ h with hd := { h.hd with fences := removeFirst (· == f) h.hd.fences } }).sendCoh src 0x14 txn 0
      else h) s

/-! ### Dome reads of the home -/

/-- The answer of a Dome read goes to the transaction of its line that waits for it. -/
def homeRead (la : Nat) (d : Nat × Bool) (m : Mach) : Mach :=
  match m.hw.hd.txns.find? (fun x => x.2.req.la == la && x.2.reading) with
  | none => m
  | some (k, t) =>
    homeEffect (fun m =>
      settle (k / 64) (m.onHw (fun h => h.setTxn k { t with reading := false, data := some d })) settleFuel) m

/-- The tag of the read of the line at Dome offset `off` for a master, within its channel. -/
def ddTag (off master : Nat) : Nat := off / 64 * 2 ^ 16 + master % 2 ^ 16

/-- DOME_READ_COMPLETE (R326, R315, R327): the read's answer goes to its requester, and to the home's transaction of its line; an
answer whose read has timed out carries an old generation and is discarded and counted. -/
def execDomeReadComplete (off : Nat) (rd : DomeReader) (dec mirrorDec : LineErr) (wrSince : Bool) (s : State) : Out :=
  onMach (fun m =>
    let c := (domeMap m.hw off).prim
    if rd.gen % 16 ≠ m.hw.tagGen (.dd c) (ddTag off rd.master) then m.onHw (fun h => h.countLate (.dd c))
    else
      let r := readDome off rd.master dec mirrorDec wrSince m
      homeRead (off / 64) (readData off r, r.1) (r.2.onHw (fun h =>
        h.emit (.domeData off rd.master r.1 (readData off r))))) s

/-- DOME_READ_TIMEOUT (R315, R327, R332): the read of the primary returns poison, counts as an uncorrectable error and fails the channel; its tag takes the
next generation (R23). -/
def execDomeReadTimeout (off : Nat) (rd : LateRead) (s : State) : Out :=
  onMach (fun m =>
    let c := (domeMap m.hw off).prim
    let r := readDome off rd.master .noAnswer rd.mirror false (m.onHw (fun h => h.closeTag (.dd c) (ddTag off rd.master)))
    homeRead (off / 64) (readData off r, r.1) (r.2.onHw (fun h =>
      h.emit (.domeData off rd.master r.1 (readData off r))))) s

/-! ### Dead agents -/

/-- The requests among what is held. -/
def heldReqs (l : List HWhat) : List HReq :=
  l.filterMap (fun x => match x with
    | .req r => some r
    | _ => none)

/-- R152 step 3: the requests of agent `a` leave every queue; a write of a tenant among them is discarded (R68). -/
def dropRequests (a : Nat) (h : Hw) : Hw :=
  let live := fun (r : HReq) => r.agent != a
  let gone := h.hd.retry.flatMap (fun (x : Nat × List (Bool × HReq)) => (x.2.map Prod.snd).filter (fun r => !live r)) ++
    (heldReqs h.hd.held).filter (fun r => !live r) ++ h.hd.next.filter (fun r => !live r)
  let mine := fun (x : HWhat) => match x with
    | .req r => !live r
    | .rel _ _ => false
    | .host m _ _ _ _ => h.agentOf m.ing == a
  let h1 := { h with hd := { h.hd with
    retry := h.hd.retry.filterMap (fun (x : Nat × List (Bool × HReq)) =>
      let q := x.2.filter (fun (r : Bool × HReq) => live r.2)
      if q.isEmpty then none else some (x.1, q)),
    held := h.hd.held.filter (fun x => !mine x), next := h.hd.next.filter live,
    txns := h.hd.txns.map (fun (x : Nat × HTxn) =>
      if x.2.next.any (fun r => !live r) then (x.1, { x.2 with next := none }) else x),
    contest := h.hd.contest.map (fun (x : Nat × Contest) =>
      (x.1, ⟨x.2.here.filter (fun y => y.agent != a || (match y.what with
        | .rel _ _ => true
        | _ => false)), x.2.missing.filter (· != a)⟩)),
    fences := h.hd.fences.filter (fun x => x.1 != a), unacc := h.hd.unacc.filter (fun x => x.1 != a),
    portQ := Store.dropWhere h.hd.portQ (fun p => h.agentOf p == a),
    io := h.hd.io.filter (fun x => h.agentOf x.port != a) } }
  gone.foldl (fun h r => dropReq r h) h1

/-- R152 step 4: a release of the dead agent of stack ID `s` on a line whose transaction is open: its data is kept, in Dome and in the
transaction, and the target loses the sender. `recd` says that the sender still had the released role when it died. -/
def releaseDead (rl : HRel) (recd : Bool) (m : Mach) : Mach :=
  let la := rl.m.laddr % 2 ^ 37
  match m.hw.txnOf la with
  | none => applyRelease rl m
  | some (k, t) =>
    if !recd then m.onHw (fun h => h.fadd F.HD_STALE_VAL 0 1)
    else
      let code := codeOf rl.m.src
      let tgt := if t.tgt.st = 3 ∧ t.tgt.owner = rl.m.src / 128 then t.tgt.settleS
        else if t.tgt.st = 2 ∧ inHold t.tgt.fmt t.tgt.hold code then { t.tgt.rem code with st := 0 }
        else t.tgt.rem code
      let d := if rl.kind = 0 ∧ t.data.isSome then some (rl.m.data, rl.m.poison) else t.data
      let m1 := m.onHw (fun h => h.setTxn k { t with tgt := tgt, data := d, got := t.got || rl.kind == 0 })
      if rl.kind = 0 then homeStore la (rl.m.data, rl.m.poison) m1 else m1

/-- Whether the transaction open on a held release's line still has its sender in a role: its snoop is outstanding, or the target
records it. -/
def stillRecorded (h : Hw) (rl : HRel) : Bool :=
  match h.txnOf (rl.m.laddr % 2 ^ 37) with
  | some (_, t) => t.snps.contains (rl.m.src / 128) || t.tgt.has (codeOf rl.m.src)
  | none => true

/-- R152: agent `a` is declared dead: its bit is set, outstanding snoops get synthesised answers, its requests leave every
queue, its held releases are applied, and transactions that granted it end under R154. While a slice awaits its takeover or is rebuilt, the
agent has died before it answers for the lines that are still to be rebuilt (R166). -/
def declareDead (a : Nat) (tids : List Nat) (m : Mach) : Mach :=
  let h0 := m.hw.setDeadBit a 1
  let h1 := if h0.flag F.HD_RCLSTAT_BUSY 0 then h0.fset F.HD_RCLSTAT_PEND 0 1 else h0
  let late := !h1.hd.failing.isEmpty || h1.fget F.HD_SLSTAT_ROLE 16 == 2
  let h2 := { h1 with hd := { h1.hd with dead := h1.hd.dead.filter (fun d => d.agent != a) ++ [⟨a, false, false, 0, tids⟩],
                                          rbDead := if late then (h1.hd.rbDead ++ [a]).dedup else h1.hd.rbDead } }
  let own := fun (r : HRel) => r.m.src == a
  let rels := (h2.hd.rel.flatMap (fun (x : Nat × List HRel) => x.2.filter own)).map (fun r => (r, stillRecorded h2 r))
  let m1 := (m.hw.hd.txns.map Prod.fst).foldl (fun m k => synthOne a k m) { m with hw := h2 }
  let h4 := dropRequests a m1.hw
  let h5 := { h4 with hd := { h4.hd with
    rel := h4.hd.rel.filterMap (fun (x : Nat × List HRel) =>
      let q := x.2.filter (fun r => !own r)
      if q.isEmpty then none else some (x.1, q)) } }
  let m2 := rels.foldl (fun m r => releaseDead r.1 r.2 m) { m1 with hw := h5 }
  let m3 := m2.hw.hd.txns.foldl (fun m (x : Nat × HTxn) =>
    if x.2.req.agent == a && x.2.phase == HPhase.gnt then deadEnd x.1 x.2 m else m) m2
  homeEffect (fun m => (List.range 16).foldl (fun m l => contestRun l (settle l m settleFuel) contestFuel) m) m3

end Sys2Proof.Machine
end

