-- ==== Sys2Proof/Machine/Cupola.lean ====
section
/-! DEFINITION. The Cupola: its organisation (R124 to R126), the transitions of a line (R135, R138 to R142), the host step
(R81), Retry and back-off (R113), the tenure hold (R120, R121), its records (R123), and the loss of a home (R160). -/
namespace Sys2Proof.Machine

/-! ### Reading the state -/

/-- The set of a line (R124). -/
def cuSet (gla : Nat) : Nat := cuHash gla / 16

/-- The stack ID of a line's home. -/
def homeOf (gla : Nat) : Nat := gla / 2 ^ 37

/-- A Cupola line. -/
def Hw.cuLine (h : Hw) (gla : Nat) : Option CuLine := Store.get? h.cu.lines gla

/-- `h` with a Cupola line replaced. -/
def Hw.setCuLine (h : Hw) (gla : Nat) (l : CuLine) : Hw := { h with cu := { h.cu with lines := Store.put h.cu.lines gla l } }

/-- `h` with a Cupola line dropped. -/
def Hw.delCuLine (h : Hw) (gla : Nat) : Hw := { h with cu := { h.cu with lines := Store.del h.cu.lines gla } }

/-- The open record of a line, with its number. -/
def Hw.cuRecOf (h : Hw) (gla : Nat) : Option (Nat × CuRec) := h.cu.recs.find? (fun x => x.2.gla == gla)

/-- `h` with a Cupola record replaced. -/
def Hw.setCuRec (h : Hw) (k : Nat) (r : CuRec) : Hw := { h with cu := { h.cu with recs := Store.put h.cu.recs k r } }

/-- The least free record of a bank (R123). -/
def Hw.cuFreeRec (h : Hw) (bank : Nat) : Option Nat := (Store.firstFree h.cu.recs (64 * bank) 0 64).map (64 * bank + ·)

/-- The tag that the requests of record `k` carry (R94). -/
def Hw.cuTag (h : Hw) (k : Nat) : Nat := h.tagGen .cu k * 1024 + k

/-- A record closed: its tag's generation advances. -/
def Hw.closeCuRec (h : Hw) (k : Nat) : Hw :=
  let h1 := h.closeTag .cu k
  { h1 with cu := { h1.cu with recs := Store.del h1.cu.recs k } }

/-- A message of this Cupola. -/
def Hw.cuMsg (h : Hw) (txn gla : Nat) (starve owned : Bool) (d : Nat × Bool) : Coh :=
  { starve := starve, poison := d.2, owned := owned, src := cupAgent h.sid, fwd := 0, txn := txn, laddr := gla,
    data := d.1, via := 0 }

/-- This Cupola sends a message to an agent. -/
def Hw.cuSend (h : Hw) (dst opc txn gla : Nat) (starve owned : Bool) (d : Nat × Bool) : Hw :=
  h.emitCoh dst opc (h.cuMsg txn gla starve owned d)

/-- A line without holders in state I in way `w`. -/
def CuLine.fresh (w : Nat) : CuLine := ⟨w, 0, false, 0, false, 0, false⟩

/-- A line with host `p` added as a holder. -/
def CuLine.addHost (l : CuLine) (p : Nat) : CuLine :=
  let r := addHold l.fmt l.hold p
  { l with fmt := r.1, hold := r.2, hostA := false }

/-- A line with host `p` removed as a holder. -/
def CuLine.remHost (l : CuLine) (p : Nat) : CuLine :=
  let r := delHold l.fmt l.hold p
  { l with fmt := r.1, hold := r.2, hostA := l.hostA && decide (r.2 ≠ 0) }

/-- A line with no host holder. -/
def CuLine.noHost (l : CuLine) : CuLine := { l with fmt := false, hold := 0, hostA := false }

/-- The local host holders of a line. -/
def Hw.cuHolders (h : Hw) (gla : Nat) (l : CuLine) : List Nat := h.holdPorts l.fmt l.hold (gla / 2 ^ 15)

/-! ### Ends of local requests -/

/-- R41, R160: a request that no home can serve: a host's ends as a translation fault does, in the SPIRE domain of the peer; one of the
data mover or the window port returns poison. -/
def cuFail (r : CuReq) (h : Hw) : Hw :=
  match r.unit with
  | 1 => h.dmAnswer r.tag (fun a => { a with st := .done, poison := !r.write })
  | 2 => h.beatReturn r.tag (0, true)
  | _ =>
    match r.msg.req with
    | none => h
    | some q =>
      (endCounted r.msg (faultRsp q) h).raise
        { code := 0x2801, dom := domSpire, dinst := 4 + homeOf r.gla, addr := q.addr, atype := kindAtype q.kind, master := q.tid }

/-- The answer to a local request: the state that a caching host gets, the data of a non-caching read, or the ownership that the data
mover asked for. -/
def cuAnswer (r : CuReq) (mv : Nat) (d : Nat × Bool) (h : Hw) : Hw :=
  if r.caching then h.emit (.s2m r.msg.ing r.msg.rid mv (if r.wantData then some d else none))
  else if r.own then h.dmVisible r.tag
  else readReturn r.unit (if r.unit = 0 then r.msg.rid else r.tag) (r.gla * 64) (some r.msg) d h

/-- R69, R129: the write of a request merged into a line in M is globally visible. -/
def cuVisible (r : CuReq) (h : Hw) : Hw :=
  match r.unit, r.msg.tid with
  | 0, some t => (h.markVisible t r.msg.rid).dropWrite (some (t, r.msg.rid))
  | 1, _ => h.dmVisible r.tag
  | _, _ => h

/-- R141, R142: a write merges into the line, which ends in M; a write of all 64 bytes lifts the poison mark; a host that
held the line in A stays, becomes a sharer or leaves as its MetaValue says. -/
def cuMerge (r : CuReq) (l : CuLine) (h : Hw) : Hw :=
  let full := allBytes r.en
  let l1 := { l with st := 4, data := mergeBytes l.data r.data r.en 64, poison := (l.poison && !full) || r.poison }
  let l2 := if r.unit == 0 && l.hostA && inHold l.fmt l.hold r.msg.ing then
      match r.mv with
      | 0 => l1
      | 1 => { l1 with hostA := false }
      | _ => l1.remHost r.msg.ing
    else l1
  writeReturn r.unit (if r.unit = 0 then r.msg.rid else r.tag) (some r.msg) true (cuVisible r (h.setCuLine r.gla l2))

/-- A hit (R141): the host is added in S, takes the line in A, or only reads. A request that was counted as a miss counts no hit
(R131). -/
def cuHit (r : CuReq) (l : CuLine) (h : Hw) : Hw :=
  let h1 := if r.missed then h else h.fadd F.CU_HIT_VAL 0 1
  if r.write then cuMerge r l h1
  else if r.own then
    cuAnswer r 2 (l.data, l.poison)
      (if r.caching then h1.setCuLine r.gla { l with fmt := false, hold := packPtrs [r.msg.ing], hostA := true } else h1)
  else if r.caching then cuAnswer r 1 (l.data, l.poison) (h1.setCuLine r.gla (l.addHost r.msg.ing))
  else cuAnswer r 3 (l.data, l.poison) h1

/-! ### Host steps -/

/-- The end of a host step: the holders that it did not touch and the ports that keep a copy in S remain; dirty data that came makes a
line in E one in M (R138). -/
def cuStepEnd (gla : Nat) (keep sharers : List Nat) (dirty : Bool) (h : Hw) : Hw :=
  match h.cuLine gla with
  | none => h
  | some l =>
    let ps := keep.filter (fun p => inHold l.fmt l.hold p) ++ sharers
    let f := if ps.isEmpty then (false, 0)
      else if l.fmt then (true, ps.foldl (fun v p => v ||| 2 ^ vecBit p) 0) else (false, packPtrs ps)
    h.setCuLine gla { l with fmt := f.1, hold := f.2, hostA := false, st := if dirty ∧ l.st = 2 then 4 else l.st }

/-- R81, R138: a host step on a line: BISnps to `ports`, none to a dead one (R152); with none to send, what follows runs at once. -/
def cuStep (gla : Nat) (ports : List Nat) (inv : Bool) (after : CuAfter) (h : Hw) : Hw × List CuAfter :=
  let keep := match h.cuLine gla with
    | some l => (h.cuHolders gla l).filter (fun p => !ports.contains p)
    | none => []
  let b := sendBis (gla / 2 ^ 15) (gla % 2 ^ 15 * 64) (if inv then 2 else 1) (fun _ => 0)
    (ports.filter (fun p => !h.isDead (h.agentOf p))) h
  if b.1.isEmpty then (cuStepEnd gla keep [] false b.2, [after])
  else ({ b.2 with cu := { b.2.cu with steps := b.2.cu.steps ++ [⟨gla, b.1, [], keep, inv, false, after, []⟩] } }, [])

/-- The step in progress on a line. -/
def Hw.cuStepOf (h : Hw) (gla : Nat) : Option CuStep := h.cu.steps.find? (fun s => s.gla == gla)

/-- What waits behind the step in progress on a line. -/
def cuBehind (gla : Nat) (a : CuAfter) (h : Hw) : Hw :=
  { h with cu := { h.cu with
    steps := updateFirst (fun s => s.gla == gla) (fun s => { s with behind := s.behind ++ [a] }) h.cu.steps } }

/-! ### Requests and releases to the home -/

/-- A record opens on a line and its request leaves for the home (R94, R95, R98). -/
def cuOpen (k gla opc : Nat) (tr : CuTr) (waiting : List CuReq) (buf : Nat × Bool) (h : Hw) : Hw :=
  let h1 := h.openTag .cu k
  let h2 := h1.setCuRec k ⟨gla, tr, opc, none, false, 0, false, waiting, [], buf⟩
  h2.cuSend (cupAgent (homeOf gla)) opc (h2.cuTag k) gla false false (if opc == 3 then buf else (0, false))

/-- R126, R141, R142: the release of a line whose host holders are gone. DEDUCED: R142 has every marked line leave with WbDirty, POISON
= 1, against the Evict and WbClean of R126 and R141; its words name marked lines alone and are followed. -/
def cuRelease (k gla : Nat) (l : CuLine) (h : Hw) : Hw :=
  let h1 := h.delCuLine gla
  if l.poison || decide (3 ≤ l.st) then cuOpen k gla 3 .miA [] (l.data, l.poison) h1
  else if l.st = 1 then cuOpen k gla 5 .siA [] (l.data, false) h1
  else cuOpen k gla 4 .eiA [] (l.data, false) h1

/-- A request that the Cupola holds: an M2S Req for want of a record of its bank joins its port's queue (R123, `noRec`). -/
def cuHold (r : CuReq) (noRec : Bool) (h : Hw) : Hw :=
  let q := noRec && r.unit == 0 && !r.write
  let h1 := { h with cu := { h.cu with held := h.cu.held ++ [{ r with noRec := q }] } }
  if q then joinPort r.msg.ing true h1 else h1

/-- R123: whether every record of the bank of a line is open. -/
def Hw.cuFull (h : Hw) (gla : Nat) : Bool := (h.cuFreeRec (cuBank gla)).isNone

/-- The preference group of a victim (R126). -/
def victimGroup (l : CuLine) : Nat :=
  match l.st with
  | 0 => 0 | 1 => 1 | 2 => 2 | _ => 3

/-- R126: the victim of a set: among unpinned lines of the lowest group, a free value (pseudo-LRU) names it. -/
def cuVictim (gla : Nat) (h : Hw) : Option Nat × Hw :=
  let un := h.cu.lines.filter (fun (x : Nat × CuLine) =>
    cuBank x.1 == cuBank gla && cuSet x.1 == cuSet gla && (h.cuRecOf x.1).isNone && (h.cuStepOf x.1).isNone)
  let g := un.foldl (fun m (x : Nat × CuLine) => min m (victimGroup x.2)) 4
  let c := un.filter (fun (x : Nat × CuLine) => victimGroup x.2 == g)
  let f := h.takeFree
  (((c.drop (f.1 % c.length)).head?).map Prod.fst, f.2)

/-- A miss (R141): the way is found, a victim leaves where none is free, and RdShared or RdOwn is sent. DESIGN CHOICE (the spec has no
case of a set without an unpinned way): the request is held, no credit is withheld for it, and it is offered again later. -/
def cuMiss (r : CuReq) (h : Hw) : Hw × List CuAfter :=
  let bank := cuBank r.gla
  let used := h.cu.lines.filter (fun (x : Nat × CuLine) => cuBank x.1 == bank && cuSet x.1 == cuSet r.gla)
  match h.cuFreeRec bank with
  | none => (cuHold r true h, [])
  | some k =>
    match (List.range 16).find? (fun w => !used.any (fun (x : Nat × CuLine) => x.2.way == w)) with
    | some w =>
      let h1 := (h.fadd F.CU_MISS_VAL 0 1).setCuLine r.gla (CuLine.fresh w)
      let r1 := { r with missed := true }
      if r.own || r.write then (cuOpen k r.gla 1 .imW [r1] (0, false) h1, [])
      else (cuOpen k r.gla 0 .isW [r1] (0, false) h1, [])
    | none =>
      let v := cuVictim r.gla h
      match v.1 with
      | none => (cuHold r false h, [])
      | some g =>
        match v.2.cuLine g with
        | none => (h, [])
        | some l => cuStep g (v.2.cuHolders g l) true (.victim g r) v.2

/-- R86, R141: the holders that a local request back-invalidates first, and whether it invalidates them: every other holder for an
ownership; every holder for a write, the writer too unless it holds the line in A; the holder in A for a read. DEDUCED: R141 names the
shared read, and a non-caching read, which must return current data, takes the same step. -/
def cuConflicts (r : CuReq) (l : CuLine) (h : Hw) : List Nat × Bool :=
  let all := h.cuHolders r.gla l
  let others := if r.unit = 0 then all.filter (· != r.msg.ing) else all
  if r.write then (if l.hostA then others else all, true)
  else if r.own then (others, true)
  else (if l.hostA then others else [], false)

/-- The open record of a line that makes its requests wait: any but one in TH. -/
def Hw.cuBusy (h : Hw) (gla : Nat) : Option (Nat × CuRec) := (h.cuRecOf gla).filter (fun x => x.2.tr != CuTr.th)

/-- R141: a local request whose conflicts are settled. DEDUCED (R131 says Cupola misses only): an Upgrade, too, counts in CU_MISS,
because the Cupola cannot serve the request from the line it holds. -/
def cuAct (r : CuReq) (h : Hw) : Hw × List CuAfter :=
  if h.isDead (cupAgent (homeOf r.gla)) then (cuFail r h, [])
  else
    match h.cuBusy r.gla with
    | some (k, c) => (h.setCuRec k { c with waiting := c.waiting ++ [r] }, [])
    | none =>
      match h.cuLine r.gla with
      | none => cuMiss r h
      | some l =>
        if (r.own || r.write) && (l.st == 1 || l.st == 3) then
          match h.cuFreeRec (cuBank r.gla) with
          | none => (cuHold r true h, [])
          | some k =>
            (cuOpen k r.gla 2 (if l.st == 1 then .smW else .omW) [{ r with missed := true }] (0, false)
              (h.fadd F.CU_MISS_VAL 0 1), [])
        else (cuHit r l h, [])

/-- A host's clean release of a remote line: the host leaves the line's holders (R81, R86). -/
def cuHostRelease (p gla : Nat) (h : Hw) : Hw :=
  match h.cuLine gla with
  | some l => h.setCuLine gla (l.remHost p)
  | none => h

/-- Whether a message's tenant is HDM-DB. -/
def Hw.msgDb (h : Hw) (m : Msg) : Bool :=
  match m.tid with
  | some t => ttHdmDb (h.ent t)
  | none => false

/-- R86: an operation of a host that asks nothing of a remote line: a prefetch has no effect, a clean release is noted, the others only
complete. -/
def cuPlain (r : CuReq) (op : HostOp) (h : Hw) : Hw :=
  let cmp := fun (h : Hw) => h.emit (.s2m r.msg.ing r.msg.rid 3 none)
  match op with
  | .specRd => h
  | .invInvalid | .clnEvct => cmp (if h.msgDb r.msg then cuHostRelease r.msg.ing r.gla h else h)
  | _ => cmp h

/-- R141: a local request on a line: it waits behind a host step, in a record, or for its own host step. Dirty data that the holder in A
returns during a step is merged at once (R138). -/
def cuServe (r : CuReq) (h : Hw) : Hw × List CuAfter :=
  match r.op with
  | some op => (cuPlain r op h, [])
  | none =>
  if h.isDead (cupAgent (homeOf r.gla)) then (cuFail r h, [])
  else
    match h.cuStepOf r.gla, h.cuLine r.gla with
    | some st, some l =>
      if r.write && r.unit == 0 && l.hostA && inHold l.fmt l.hold r.msg.ing then
        let h1 := cuMerge r l h
        ({ h1 with cu := { h1.cu with steps := updateFirst (· == st) (fun s => { s with dirty := true }) h1.cu.steps } }, [])
      else (cuBehind r.gla (.serve r) h, [])
    | some _, none => (cuBehind r.gla (.serve r) h, [])
    | none, none => cuAct r h
    | none, some l =>
      if (h.cuBusy r.gla).isSome then cuAct r h
      else
        let cf := cuConflicts r l h
        if cf.1.isEmpty then cuAct r h else cuStep r.gla cf.1 cf.2 (.act r) h

/-! ### Snoops -/

/-- The answer of a Cupola to the home (R139), to the snoop's tag. -/
def cuReply (m : Coh) (opc : Nat) (owned : Bool) (d : Nat × Bool) (h : Hw) : Hw :=
  h.cuSend m.src opc m.txn m.laddr false owned d

/-- R94, R139: data forwarded to FWD, with the requester's tag. -/
def cuForward (m : Coh) (opc : Nat) (d : Nat × Bool) (h : Hw) : Hw := h.cuSend m.fwd opc m.rtag m.laddr false false d

/-- R139: the answer to snoop `opc` from a copy that is clean (E) or dirty (M, O). -/
def cuFrom (opc : Nat) (m : Coh) (dirty : Bool) (d : Nat × Bool) (h : Hw) : Hw :=
  match opc, dirty with
  | 0x08, false => cuReply m 0x14 false (0, false) h
  | 0x08, true => cuReply m 0x13 false d h
  | 0x09, false => cuReply m 0x15 false (0, false) h
  | 0x09, true => cuReply m 0x12 false d h
  | 0x0A, dy => cuReply m 0x14 dy (0, false) (cuForward m 0x10 d h)
  | _, dy => cuReply m 0x15 false (0, false) (cuForward m (if dy then 0x12 else 0x11) d h)

/-- Whether a snoop invalidates. -/
def snpInv (opc : Nat) : Bool := opc == 0x09 || opc == 0x0B

/-- R139: the answer from the line's stable state. -/
def cuAnswerLine (opc : Nat) (m : Coh) (h : Hw) : Hw :=
  match h.cuLine m.laddr with
  | none => cuReply m 0x15 false (0, false) h
  | some l =>
    if l.st ≤ 1 then (cuReply m 0x15 false (0, false) h).delCuLine m.laddr
    else
      let h1 := cuFrom opc m (l.st != 2) (l.data, l.poison) h
      if snpInv opc then h1.delCuLine m.laddr else h1.setCuLine m.laddr { l with st := if l.st = 2 then 1 else 3 }

/-- R139: the snoop is answered from the line or the write-back buffer, its host step done. -/
def cuAnswerSnoop (opc : Nat) (m : Coh) (h : Hw) : Hw :=
  match h.cuRecOf m.laddr with
  | none => cuAnswerLine opc m h
  | some (k, c) =>
    let l := (h.cuLine m.laddr).getD (CuLine.fresh 0)
    match c.tr with
    | .th => cuAnswerLine opc m h
    | .miA => cuFrom opc m true c.buf h
    | .eiA => cuFrom opc m false c.buf h
    | .omW =>
      let h1 := cuFrom opc m true (l.data, l.poison) h
      if snpInv opc then (h1.setCuRec k { c with tr := .imW }).setCuLine m.laddr (CuLine.fresh l.way) else h1
    | .smW => (((cuReply m 0x15 false (0, false) h).setCuRec k { c with tr := .imW })).setCuLine m.laddr (CuLine.fresh l.way)
    | _ => cuReply m 0x15 false (0, false) h

/-- R139: whether a snoop cannot occur in the state of its line. -/
def snoopBad (opc : Nat) (m : Coh) (h : Hw) : Bool :=
  match h.cuRecOf m.laddr with
  | some (_, c) =>
    match c.tr with
    | .isW | .imW | .smW | .siA => opc != 0x09
    | .gr => true
    | _ => false
  | none =>
    match h.cuLine m.laddr with
    | none => opc != 0x09
    | some l => opc != 0x09 && decide (l.st ≤ 1)

/-- R120, R121, R138, R139: a snoop at its line: parked in a tenure hold, behind a host step, or answered after its own host
step. -/
def cuSnoop (opc : Nat) (m : Coh) (h : Hw) : Hw × List CuAfter :=
  match (h.cuRecOf m.laddr).filter (fun x => x.2.tr == CuTr.th) with
  | some (k, c) => ((h.setCuRec k { c with parked := c.parked ++ [(opc, m)] }).fadd F.CU_PARK_VAL 0 1, [])
  | none =>
    if (h.cuStepOf m.laddr).isSome then (cuBehind m.laddr (.snoop opc m) h, [])
    else
      match h.cuLine m.laddr with
      | none => (cuAnswerSnoop opc m h, [])
      | some l =>
        let ps := h.cuHolders m.laddr l
        if ps.isEmpty then (cuAnswerSnoop opc m h, []) else cuStep m.laddr ps (snpInv opc) (.reply opc m) h

/-- R126: a victim whose host step is done is released, and the request that needs its way goes on; a line of a dead home is dropped. -/
def cuLeave (g : Nat) (r : CuReq) (h : Hw) : Hw × List CuAfter :=
  match h.cuLine g, h.cuFreeRec (cuBank g) with
  | some l, some k =>
    if l.st = 0 ∨ h.isDead (cupAgent (homeOf g)) then (h.delCuLine g, [.serve r]) else (cuRelease k g l h, [.serve r])
  | none, _ => (h, [.serve r])
  | some _, none => (cuHold r true h, [])

/-- R160: a line of a dead home is dropped once its hosts have been back-invalidated. -/
def cuDrop (g : Nat) (h : Hw) : Hw × List CuAfter :=
  if (h.cuStepOf g).isSome then (cuBehind g (.drop g) h, [])
  else
    match h.cuLine g with
    | none => (h, [])
    | some l =>
      let ps := h.cuHolders g l
      if ps.isEmpty then (h.delCuLine g, []) else cuStep g ps true (.drop g) h

/-- One thing that a Cupola has to do on a line. -/
def cuItem (a : CuAfter) (h : Hw) : Hw × List CuAfter :=
  match a with
  | .snoop opc m => cuSnoop opc m h
  | .serve r => cuServe r h
  | .reply opc m => (cuAnswerSnoop opc m h, [])
  | .act r => cuAct r h
  | .drop g => cuDrop g h
  | .victim g r => cuLeave g r h

/-- Work items run in order until none is left. -/
def cuRun (items : List CuAfter) (h : Hw) : Nat → Hw
  | 0 => h
  | n + 1 =>
    match items with
    | [] => h
    | a :: rest =>
      let x := cuItem a h
      cuRun (x.2 ++ rest) x.1 n

/-- The work one event can cause. -/
def cuFuel : Nat := 4096

/-- R111, R123: a held request is offered again: an M2S Req stays in its port's queue until it stands first and its bank has a record. -/
def cuOfferOne (r : CuReq) (h : Hw) : Hw :=
  if r.noRec then
    if (h.portQueue r.msg.ing).head? == some true && !h.cu.held.any (fun x => x.noRec && x.msg.ing == r.msg.ing) && !h.cuFull r.gla then
      cuRun [.serve { r with noRec := false }] (leavePort r.msg.ing h) cuFuel
    else { h with cu := { h.cu with held := h.cu.held ++ [r] } }
  else cuRun [.serve r] h cuFuel

/-- The requests that the Cupola holds are offered again, the oldest first. -/
def cuOffer (h : Hw) : Hw := h.cu.held.foldl (fun h r => cuOfferOne r h) { h with cu := { h.cu with held := [] } }

/-- The effect of an event with the work it causes, then the held requests. -/
def cuGo (x : Hw × List CuAfter) : Hw := cuOffer (cuRun x.2 x.1 cuFuel)

/-- A local request reaches the Cupola; an M2S Req that finds every record of its bank open, or stands behind one that is held, is held in its
port's queue (R111, R123). -/
def cuArrive (r : CuReq) (h : Hw) : Hw :=
  if r.unit == 0 && !r.write && (h.portHeld r.msg.ing || h.cuFull r.gla) then cuHold r true h else cuGo (h, [.serve r])

/-- R315: a local request reaches the Cupola; one whose hosts must be back-invalidated first, on a line whose reverse-map read returns poison,
ends as R41 says. -/
def cuIn (r : CuReq) (x : Mach) : Mach :=
  let asks := r.op.isNone && (match x.hw.cuLine r.gla with
    | some l => !(cuConflicts r l x.hw).1.isEmpty
    | none => false)
  match (if asks then x.revLost (r.gla / 2 ^ 15) else none) with
  | none => x.onHw (cuArrive r)
  | some o =>
    x.onHw (fun h =>
      let p := domeMap h o
      let h1 := h.raise { code := 0x3D02, dom := domChannel, dinst := p.prim, addr := o, unit := p.prim, atype := 1, master := h.homeMaster o }
      match r.unit, r.msg.req with
      | 0, some q => xlateReport q (endCounted r.msg (faultRsp q) h1)
      | _, _ => cuFail r h1)

/-! ### Commands: snoops -/

/-- A snoop reaches the Cupola. -/
def snoopIn (opc : Nat) (m : Coh) (h : Hw) : Host.Outcome Hw Fault Refusal :=
  if namesReserved m then .next (badCoh m (cuBank m.laddr) h)
  else if h.isDead m.src then .next (h.fadd F.HD_LATE_VAL 0 1)
  else if (h.cuStepOf m.laddr).isNone && snoopBad opc m h then .fault (.cannotOccur 139)
  else .next (cuGo (cuSnoop opc m h))

/-- CUPOLA_SNPSHARED (R139). -/
def execCupolaSnpshared (m : Coh) (s : State) : Out := onHwF (snoopIn 0x08 m) s
/-- CUPOLA_SNPINV (R139). -/
def execCupolaSnpinv (m : Coh) (s : State) : Out := onHwF (snoopIn 0x09 m) s
/-- CUPOLA_SNPFWDSHARED (R139). -/
def execCupolaSnpfwdshared (m : Coh) (s : State) : Out := onHwF (snoopIn 0x0A m) s
/-- CUPOLA_SNPFWDOWN (R139). -/
def execCupolaSnpfwdown (m : Coh) (s : State) : Out := onHwF (snoopIn 0x0B m) s

/-- R118, R138: a BIRsp answers a BISnp of a host step, E counting as I; when every port is answered the step ends: what waits on it runs,
then what waits behind it. -/
def cuBirsp (port tid addr v : Nat) (h : Hw) : Hw :=
  let e := addr / 2 ^ 21
  match h.cu.steps.find? (fun s => s.gla % 2 ^ 15 == addr / 64 % 2 ^ 15 &&
      s.bis.any (fun b => b.1 == port && b.2.1 == tid && b.2.2 == e)) with
  | none => h
  | some st =>
    let st1 := { st with bis := st.bis.filter (fun b => !(b.1 == port && b.2.1 == tid && b.2.2 == e)),
                         seen := Store.put st.seen port (max (if v = 1 then 1 else 0) (Store.getD 0 st.seen port)) }
    if st1.bis.isEmpty then
      let sharers := if st1.inv then [] else (st1.seen.filter (fun (x : Nat × Nat) => x.2 == 1)).map Prod.fst
      cuGo (cuStepEnd st.gla st1.keep sharers st1.dirty
        { h with cu := { h.cu with steps := h.cu.steps.filter (fun s => s.gla != st.gla) } }, st1.after :: st1.behind)
    else { h with cu := { h.cu with steps := updateFirst (fun s => s.gla == st.gla) (fun _ => st1) h.cu.steps } }

/-- CUPOLA_HOST_BIRSP (R118, R138): a dead port's answer is late (R152). -/
def execCupolaHostBirsp (port tid addr : Nat) (r : BiRsp) (s : State) : Out :=
  onMach (fun x =>
    if x.hw.isDead (x.hw.agentOf port) then x.onHw (fun h => h.fadd F.HD_LATE_VAL 0 1)
    else if x.hw.cu.steps.any (fun s => s.gla % 2 ^ 15 == addr / 64 % 2 ^ 15 &&
        s.bis.any (fun b => b.1 == port && b.2.1 == tid && b.2.2 == addr / 2 ^ 21)) then
      x.onHw (cuBirsp port tid addr (biVal r))
    else flushAnswer port tid addr (fun gla x => x.onHw (cuHostRelease port gla)) x) s

/-! ### Commands: responses -/

/-- R140: the grant is complete: the line is installed in the state that the data names, the completion Ack leaves, and the
tenure hold starts for E and M (R120); waiting local requests are served. -/
def cuInstall (k : Nat) (c : CuRec) (p : Nat × Nat × Bool) (h : Hw) : Hw :=
  let l := (h.cuLine c.gla).getD (CuLine.fresh 0)
  let h1 := h.setCuLine c.gla { l with st := p.1, data := p.2.1, poison := p.2.2 }
  let h2 := h1.cuSend (cupAgent (homeOf c.gla)) 0x14 (h1.cuTag k) c.gla false false (0, false)
  let h3 := if p.1 = 1 then h2.closeCuRec k
    else h2.setCuRec k { c with tr := .th, part := none, ack := false, waiting := [] }
  cuGo (h3, c.waiting.map .serve)

/-- R140: a response reaches the record that its TXN names with its generation; any other is late. -/
def respIn (m : Coh) (f : Nat → CuRec → Hw → Host.Outcome Hw Fault Refusal) (h : Hw) : Host.Outcome Hw Fault Refusal :=
  let k := m.txn % 1024
  if namesReserved m then .next (badCoh m (cuBank m.laddr) h)
  else if h.isDead m.src then .next (h.fadd F.HD_LATE_VAL 0 1)
  else
    match Store.get? h.cu.recs k with
    | none => .next (h.fadd F.CU_LATE_VAL 0 1)
    | some c => if h.tagGen .cu k ≠ m.txn / 1024 % 16 then .next (h.fadd F.CU_LATE_VAL 0 1) else f k c h

/-- R140: data that names state `st` (1 S, 2 E, 4 M) at a record. -/
def cuData (m : Coh) (st : Nat) (k : Nat) (c : CuRec) (h : Hw) : Host.Outcome Hw Fault Refusal :=
  let hold : Host.Outcome Hw Fault Refusal :=
    .next (h.setCuRec k { c with tr := .gr, part := some (st, m.data, m.poison) })
  match c.tr with
  | .isW => if st = 4 then .fault (.cannotOccur 140) else hold
  | .imW => if st = 1 then .fault (.cannotOccur 140) else hold
  | .gr =>
    if c.ack then .next (cuInstall k c (st, m.data, m.poison) h) else .fault (.cannotOccur 140)
  | _ => .fault (.cannotOccur 140)

/-- CUPOLA_DATAS (R140). -/
def execCupolaDatas (m : Coh) (s : State) : Out := onHwF (respIn m (cuData m 1)) s
/-- CUPOLA_DATAE (R140). -/
def execCupolaDatae (m : Coh) (s : State) : Out := onHwF (respIn m (cuData m 2)) s
/-- CUPOLA_DATAM (R140). -/
def execCupolaDatam (m : Coh) (s : State) : Out := onHwF (respIn m (cuData m 4)) s

/-- R140: the home's Ack at a record. -/
def cuAck (k : Nat) (c : CuRec) (h : Hw) : Host.Outcome Hw Fault Refusal :=
  match c.tr with
  | .isW | .imW => .next (h.setCuRec k { c with tr := .gr, ack := true })
  | .smW | .omW =>
    let l := (h.cuLine c.gla).getD (CuLine.fresh 0)
    .next (cuInstall k c (4, l.data, l.poison) h)
  | .gr =>
    match c.part with
    | some p => .next (cuInstall k c p h)
    | none => .fault (.cannotOccur 140)
  | .th => .fault (.cannotOccur 140)
  | .miA | .eiA | .siA => .next (cuGo (h.closeCuRec k, c.waiting.map .serve))

/-- R130, R288: a peer's Ack to a Spire Fence of ring `r` with tag generation `g`: the FENCE awaits that peer no more. -/
def fenceAck (r g peer : Nat) (h : Hw) : Option Hw :=
  match Store.get? h.dm.jobs r with
  | none => none
  | some j =>
    if j.phase == .fence && h.tagOpen .dm r && h.tagGen .dm r == g && j.peers.contains peer then
      some { h with dm := { h.dm with jobs := Store.put h.dm.jobs r { j with peers := j.peers.erase peer } } }
    else none

/-- An Ack reaches the record that its TXN names; one that names none may answer a Fence of the data mover, whose tags R94 does not
tell from the Cupola's. -/
def ackIn (m : Coh) (h : Hw) : Host.Outcome Hw Fault Refusal :=
  let k := m.txn % 1024
  let g := m.txn / 1024 % 16
  let mine := (Store.get? h.cu.recs k).isSome && h.tagGen .cu k == g
  match (if namesReserved m || h.isDead m.src || mine then none else fenceAck k g (m.src / 128) h) with
  | some h1 => .next h1
  | none => respIn m cuAck h

/-- CUPOLA_ACK (R140, R130). -/
def execCupolaAck (m : Coh) (s : State) : Out := onHwF (ackIn m) s

/-- R113, R140: a Retry starts the back-off. -/
def cuRetry (k : Nat) (c : CuRec) (h : Hw) : Host.Outcome Hw Fault Refusal :=
  match c.tr with
  | .gr | .th => .fault (.cannotOccur 140)
  | _ => .next ((h.setCuRec k { c with backoff := true, retries := c.retries + 1 }).fadd F.CU_RETRYRX_VAL 0 1)

/-- CUPOLA_RETRY (R113, R140). -/
def execCupolaRetry (m : Coh) (s : State) : Out := onHwF (respIn m cuRetry) s

/-- RETRY_BACKOFF_EXPIRE (R113, R93): the request is sent again, with STARVE after CU_CTRL.STARVN refusals. -/
def execRetryBackoffExpire (rec : Nat) (s : State) : Out :=
  onHw (fun h =>
    match Store.get? h.cu.recs rec with
    | none => h
    | some c =>
      if c.backoff then
        (h.setCuRec rec { c with backoff := false }).cuSend (cupAgent (homeOf c.gla)) c.opc (h.cuTag rec) c.gla
          (decide (c.opc ≤ 2 ∧ h.fget F.CU_CTRL_STARVN 0 ≤ c.retries)) false (if c.opc == 3 then c.buf else (0, false))
      else h) s

/-- TENURE_HOLD_END (R120): the record closes and the parked snoops are answered. -/
def execTenureHoldEnd (rec : Nat) (s : State) : Out :=
  onHw (fun h =>
    match Store.get? h.cu.recs rec with
    | none => h
    | some c =>
      if c.tr == CuTr.th then
        cuGo (h.closeCuRec rec, c.parked.map (fun p => .snoop p.1 p.2))
      else h) s

/-! ### Commands: local requests -/

/-- MetaValue of a host write (R86). -/
def mvOf (op : HostOp) : Nat :=
  match op with
  | .wrShared => 1
  | .wrInvalid => 2
  | _ => 0

/-- R79, R80: a local request at the Cupola, unless its line's home is this module, which serves it instead; a dead port's request is
discarded (R152). -/
def localReq (m : Msg) (op : HostOp) (gpa data en : Nat) (r : CuReq) (x : Mach) : Mach :=
  if x.hw.isDead (x.hw.agentOf m.ing) then x.onHw (fun h => h.fadd F.HD_LATE_VAL 0 1)
  else if gpa / 2 ^ 43 % 8 = x.hw.sid then homeEffect (hostIn m op (gpa % 2 ^ 43 / 64) data en) x else cuIn r x

/-- CUPOLA_HOST_SHARED_READ (R141, R79). -/
def execCupolaHostSharedRead (m : Msg) (gpa : Nat) (wantData : Bool) (s : State) : Out :=
  onMach (localReq m (if wantData then .rdShared else .invShared) gpa 0 0
    { msg := m, own := false, caching := true, wantData := wantData, write := false, gla := gpa % 2 ^ 46 / 64 }) s

/-- CUPOLA_HOST_OWNERSHIP_READ (R141, R79): an ownership read, or ownership without data. -/
def execCupolaHostOwnershipRead (m : Msg) (gpa : Nat) (wantData : Bool) (s : State) : Out :=
  onMach (localReq m (if wantData then .rdAny else .invAny) gpa 0 0
    { msg := m, own := true, caching := true, wantData := wantData, write := false, gla := gpa % 2 ^ 46 / 64 }) s

/-- CUPOLA_NONCACHING_READ (R141, R79). -/
def execCupolaNoncachingRead (m : Msg) (gpa : Nat) (s : State) : Out :=
  onMach (localReq m .rdInvalid gpa 0 0
    { msg := m, own := false, caching := false, wantData := true, write := false, gla := gpa % 2 ^ 46 / 64 }) s

/-- CUPOLA_NONCACHING_WRITE (R141, R79). -/
def execCupolaNoncachingWrite (m : Msg) (op : HostOp) (gpa data en : Nat) (s : State) : Out :=
  onMach (localReq m (if opWrites op then op else .wrInvalid) gpa data en
    { msg := m, own := false, caching := false, wantData := false, write := true, gla := gpa % 2 ^ 46 / 64, data := data, en := en,
      mv := mvOf op }) s

/-- R80, R86: a host's request for a line whose home is another module goes through the Cupola. -/
def hostAtCupola (m : Msg) (op : HostOp) (gpa data en : Nat) (x : Mach) : Mach :=
  let db := x.hw.msgDb m
  let r : CuReq := { msg := m, own := false, caching := false, wantData := false, write := false, gla := gpa / 64 }
  match op with
  | .rdAny => cuIn { r with own := db, caching := db, wantData := true } x
  | .rdShared => cuIn { r with caching := db, wantData := true } x
  | .rdInvalid => cuIn { r with wantData := true } x
  | .invAny => cuIn (if db then { r with own := true, caching := true } else { r with op := some op }) x
  | .invShared => cuIn (if db then { r with caching := true } else { r with op := some op }) x
  | .invNoOp | .specRd | .invInvalid | .clnEvct => cuIn { r with op := some op } x
  | .wrAny | .wrShared | .wrInvalid => cuIn { r with write := true, data := data, en := en, mv := mvOf op } x

/-- HOME_HOST_REQUEST (R86, R87, R89, R111, R112, R295): a host request at the home its GPA names: this module's slices, or
the Cupola for a remote home. -/
def execHomeHostRequest (m : Msg) (op : HostOp) (gpa data en : Nat) (rivals : List Nat) (s : State) : Out :=
  onMach (fun x =>
    let la := gpa % 2 ^ 43 / 64
    if x.hw.isDead (x.hw.agentOf m.ing) then x.onHw (fun h => h.fadd F.HD_LATE_VAL 0 1)
    else if gpa / 2 ^ 43 % 8 ≠ x.hw.sid then hostAtCupola m op (gpa % 2 ^ 46) data en x
    else homeEffect (competes (sliceOf la) ⟨x.hw.agentOf m.ing, .host m op la data en⟩ rivals) x) s

/-! ### Loss of a home or of a host -/

/-- A tenant's request that the loss of its home ends with a response of this module leaves OUT; a write is discarded (R68). -/
def cuEnded (r : CuReq) (h : Hw) : Hw :=
  match r.msg.tid with
  | some t => if r.write then h.discardWrite t r.msg.rid else h.readDone t r.msg.rid
  | none => h

/-- R160: a request open to a home that has died: a read completes with poison, an ownership-only grant and a write with nothing
installed. -/
def cuLost (r : CuReq) (h : Hw) : Hw :=
  if r.unit ≠ 0 then cuFail r h
  else if r.write then cuEnded r (h.emit (.rsp r.msg.rid .cmp))
  else if r.wantData then
    (if r.caching then h.emit (.s2m r.msg.ing r.msg.rid 3 (some (0, true)))
     else readReturn 0 r.msg.rid (r.gla * 64) (some r.msg) (0, true) h)
  else cuEnded r (h.emit (.rsp r.msg.rid .cmpInvalid))

/-- R160: peer `p` is dead: every line whose home it is is dropped and counted, one on its way there in a write-back buffer too, its hosts
back-invalidated, and open requests to it end poisoned. -/
def cuHomeLost (p : Nat) (h : Hw) : Hw :=
  let recs := h.cu.recs.filter (fun (x : Nat × CuRec) => homeOf x.2.gla == p)
  let buffered := fun (c : CuRec) => c.tr == .miA || c.tr == .eiA || c.tr == .siA
  let h1 := recs.foldl (fun h (x : Nat × CuRec) => x.2.waiting.foldl (fun h r => cuLost r h)
    ((if buffered x.2 then h.fadd F.CU_HOMELOSS_VAL 0 1 else h).closeCuRec x.1)) h
  let ls := h1.cu.lines.filter (fun (x : Nat × CuLine) => homeOf x.1 == p)
  ls.foldl (fun h (x : Nat × CuLine) =>
    cuGo (if x.2.st = 0 then h else h.fadd F.CU_HOMELOSS_VAL 0 1, [.drop x.1])) h1

/-- R152, R170 at the Cupola: host port `p` is dead: a line that it held in A reads as poison, it leaves the holders of every line, its
waiting requests go, and its outstanding BISnps are answered. -/
def cuHostDead (p : Nat) (h : Hw) : Hw :=
  let mine := h.cu.steps.flatMap (fun s => (s.bis.filter (fun b => b.1 == p)).map (fun b => (s.gla, b)))
  let theirs := fun (r : CuReq) => r.unit == 0 && r.msg.ing == p
  let gone := (h.cu.held ++ h.cu.recs.flatMap (fun (x : Nat × CuRec) => x.2.waiting)).filter theirs
  let h1 := { h with cu := { h.cu with
    lines := h.cu.lines.map (fun (x : Nat × CuLine) =>
      if !x.2.fmt && inHold x.2.fmt x.2.hold p then
        (x.1, if x.2.hostA then { x.2.remHost p with poison := true, st := 4 } else x.2.remHost p)
      else x),
    recs := h.cu.recs.map (fun (x : Nat × CuRec) => (x.1, { x.2 with waiting := x.2.waiting.filter (fun r => !theirs r) })),
    held := h.cu.held.filter (fun r => !theirs r) } }
  mine.foldl (fun h (x : Nat × Nat × Nat × Nat) => cuBirsp p x.2.2.1 (x.2.2.2 * 2 ^ 21 + x.1 % 2 ^ 15 * 64) 0 h)
    (gone.foldl (fun h r => cuEnded r h) h1)

end Sys2Proof.Machine
end

