-- ==== Sys2Proof/Machine/Switch.lean ====
section
/-! DEFINITION. The switch core: the route table (R181 to R190), VOQs and the matcher
(R191 to R195), starting, BAD marking and discard (R196 to R199, R215), the cell buffer (R202), spilling (R203 to R211,
R221), multicast (R216 to R219) and the leaked-buffer audit (R222, R223). -/
namespace Sys2Proof.Machine

/-! ### Queues -/

/-- An empty egress queue. -/
def EQ.empty : EQ := ⟨false, [], [], [], 0, 0, false, []⟩

/-- The egress queue `qid`. -/
def Hw.eq (h : Hw) (qid : Nat) : EQ := Store.getD EQ.empty h.sw.eqs qid

/-- The egress queue `qid` replaced. -/
def Hw.setEq (h : Hw) (qid : Nat) (q : EQ) : Hw :=
  { h with sw := { h.sw with eqs := Store.setD EQ.empty h.sw.eqs qid q } }

/-- Whether queue `q` holds anything. -/
def EQ.nonEmpty (q : EQ) : Bool := !(q.head.isEmpty && q.dome.isEmpty && q.stage.isEmpty)

/-- The on-chip cells of a list of messages. -/
def cellsOf (l : List EMsg) : Nat := (l.map (fun e => e.got)).sum

/-- Whether a port's link is up: a fabric port by FP_LSTAT.UP, a Spire port by SL_PSTAT.STATE UP. -/
def Hw.egUp (h : Hw) (eg : Nat) : Bool :=
  if eg < 72 then h.flag F.FP_LSTAT_UP eg
  else if eg < 80 then h.fget F.SL_PSTAT_STATE ((eg - 72) / 2) == 2 else true

/-- R205: the queue leaves SPILLING when DOME and STAGE are empty and nothing is outstanding. -/
def spillLeave (qid : Nat) (h : Hw) : Hw :=
  let q := h.eq qid
  if q.spilling && q.dome.isEmpty && q.stage.isEmpty && !q.reading then h.setEq qid { q with spilling := false } else h

/-- R235: a weighted queue that has become empty loses its deficit and its turn. -/
def drrEmpty (qid : Nat) (h : Hw) : Hw :=
  if 4 ≤ qid % 16 ∧ (h.eq qid).nonEmpty = false then
    let xp := qid / 16
    let ptr := Store.getD 0 h.ts.ptr xp
    { h with ts := { h.ts with deficit := Store.del h.ts.deficit qid, stale := Store.del h.ts.stale qid,
                               ptr := if ptr + 4 = qid % 16 then Store.setD 0 h.ts.ptr xp ((ptr + 1) % 12)
                                      else h.ts.ptr } }
  else h

/-- What follows when messages have left queue `qid` (R205, R235). -/
def leaveQueue (qid : Nat) (h : Hw) : Hw := drrEmpty qid (spillLeave qid h)

/-! ### Messages inside -/

/-- Whether two entries are the same message, or the same copy of it. -/
def sameMsg (a b : EMsg) : Bool :=
  a.msg.ing == b.msg.ing && a.msg.rid == b.msg.rid && a.leg == b.leg && a.rsp.isSome == b.rsp.isSome

/-- Whether an entry belongs to message `rid` of ingress port `ing`, as the message or a copy of it. -/
def ofMsg (ing rid : Nat) (e : EMsg) : Bool := e.rsp.isNone && e.msg.ing == ing && e.msg.rid == rid

/-- The VOQ entries that `p` picks are gone: their cells have still to cross, and are freed at once. -/
def voqGone (p : EMsg → Bool) (h : Hw) : Hw :=
  { h with sw := { h.sw with voq := h.sw.voq.map (fun e => if p e then { e with gone := true } else e) } }

/-- `f` on every message that ingress has taken in and whose header has not left, those in Dome among them, and on those that are being
sent; `g` on those that wait for translation. -/
def mapMsgs (f : EMsg → EMsg) (g : Msg → Msg) (h : Hw) : Hw :=
  { h with
    sw := { h.sw with
      voq := h.sw.voq.map f,
      eqs := h.sw.eqs.map (fun x => (x.1, 
        { x.2 with head := x.2.head.map f, dome := x.2.dome.map f, stage := x.2.stage.map f })),
      inTx := h.sw.inTx.map (fun x => (x.1, f x.2)) }
    ts := { h.ts with pq := h.ts.pq.map (fun x => (x.1, x.2.map f)), waiting := h.ts.waiting.map f }
    bd := { h.bd with miss := h.bd.miss.map g } }

/-- The messages of ingress port `ing` inside that `p` picks, by number, each once. -/
def insideRids (h : Hw) (ing : Nat) (p : Msg → Bool) : List Nat :=
  let es := h.sw.voq ++ h.sw.eqs.flatMap (fun x => x.2.head ++ x.2.dome.filter (fun e => !e.gone) ++ x.2.stage) ++ h.sw.inTx.map Prod.snd ++
    h.ts.pq.flatMap Prod.snd ++ h.ts.waiting
  let ms := (es.filter (fun e => e.rsp.isNone)).map EMsg.msg ++ h.bd.miss
  (ms.filter (fun m => m.ing == ing && p m)).foldl (fun l m => if l.contains m.rid then l else l ++ [m.rid]) []

/-! ### Discard -/

/-- R212: whether ageing applies to a message. -/
def ages (c : MsgCls) : Bool :=
  match c with
  | .ioNp | .ioPost | .ioCpl | .memReqD | .memReqN | .memRwd => true
  | _ => false

/-- The message of an entry as its tenant's record sees it: a multicast copy concerns no record. -/
def EMsg.counted (e : EMsg) : Msg := if e.leg = 0 then e.msg else { e.msg with tid := none }

/-- R219: one leg of multicast `mid` is done or dropped; when no leg is left the cells are freed, and those that still have to cross are
not kept. -/
def legDone (mid : Nat) (h : Hw) : Hw :=
  match Store.get? h.sw.legs mid with
  | none => h
  | some (n, c) =>
    if n ≤ 1 then voqGone (fun e => e.mc == some mid) ({ h with sw := { h.sw with legs := Store.del h.sw.legs mid } }.freeN c)
    else { h with sw := { h.sw with legs := Store.put h.sw.legs mid (n - 1, c) } }

/-- The cells of a message that leaves its queue are freed, and those that still have to cross are not kept; a multicast copy counts down
its legs. -/
def releaseCells (e : EMsg) (h : Hw) : Hw :=
  match e.mc with
  | some mid => legDone mid h
  | none => (if e.got < e.total then voqGone (sameMsg e) h else h).freeN e.got

/-- The discard counters: REVOKE, BAD and ageing (R188, R198, R213). -/
def countDiscard (rule : Nat) (h : Hw) : Hw :=
  if rule = 188 then h.fadd F.SW_REVDROP_VAL 0 1
  else if rule = 198 then h.fadd F.SW_BADDROP_VAL 0 1
  else if rule = 213 then h.fadd F.SW_AGEDROP_VAL 0 1 else h

/-- A message is discarded at its egress under rule `rule` (0: link down); of a response that Terroth made nothing is returned, and its
request is complete (R69). -/
def endMsg (e : EMsg) (rule : Nat) (h : Hw) : Hw :=
  match e.rsp, e.msg.tid with
  | none, _ => discardEnd e.eg e.counted rule (countDiscard rule h)
  | some _, some t => (countDiscard rule h).readDone t e.msg.rid
  | some _, none => countDiscard rule h

/-- A message queued on-chip is discarded under rule `rule`. -/
def discardMsg (e : EMsg) (rule : Nat) (h : Hw) : Hw := endMsg e rule (releaseCells e h)

/-- R199: what is reported when a message becomes BAD for a reason other than link-level rejection. -/
def reportBad (ing : Nat) (h : Hw) : Hw :=
  if ing < 72 then h.raise { code := 0x2602, dom := domPort, dinst := ing, unit := ing } else h

/-! ### Start and discard conditions -/

/-- R196: whether egress may start a message. -/
def mayStart (h : Hw) (e : EMsg) : Bool :=
  let whole := decide (e.got = e.total) && e.msg.tail
  if e.eg < 72 then
    if h.fget F.FP_LSTAT_MODE e.eg = 2 ∧ e.msg.ing < 72 ∧ h.linkRate e.eg ≤ h.linkRate e.msg.ing then
      decide (1 ≤ e.got)
    else whole
  else if e.eg < 80 then decide (1 ≤ e.got)
  else whole

/-- R188: whether a message was resolved before the latest REVOKE of its entry. -/
def revoked (h : Hw) (e : EMsg) : Bool :=
  let r := h.route e.ridx
  decide ((rtEpoch r + 65536 - rtFloor r) % 65536 < (rtEpoch r + 65536 - e.epoch) % 65536)

/-- R213: a message's age in 100 ns ticks. -/
def ageOf (h : Hw) (e : EMsg) : Nat := (h.itime + 2 ^ 32 - e.itime) % 2 ^ 32

/-- R213: whether a message is older than its class limit. -/
def aged (h : Hw) (e : EMsg) : Bool :=
  ages e.msg.cls &&
  decide ((if e.q < 4 then h.fget F.SW_AGE_STRICT 0 else h.fget F.SW_AGE_WEIGHTED 0 * 10) < ageOf h e)

/-- R188, R198, R213: the rule under which egress discards a message before its header leaves, if any. DESIGN CHOICE: of a head to which
several apply, BAD comes first, then REVOKE, then ageing. -/
def discardRule (h : Hw) (e : EMsg) : Option Nat :=
  if e.bad then some 198 else if revoked h e then some 188 else if aged h e then some 213 else none

/-! ### Sending -/

/-- R69: what leaves the drain counter when a message has been sent: the last completion of a request to the tenant's host, or a write to
an MLD-LD or SLD tenant on its downstream link with its last part, which is then globally visible. -/
def sentEffect (e : EMsg) (h : Hw) : Hw :=
  match e.counted.tid with
  | none => h
  | some t =>
    let ent := h.ent t
    if (e.msg.cls == .ioCpl || e.msg.cls == .s2m) && e.eg == ttPort ent then
      (if e.msg.more then h else h.readDone t e.msg.rid)
    else if e.msg.part then h
    else if isRequest e.msg.cls && msgWrites e.msg && ttKind ent != 0 && e.eg == ttDs ent then
      (h.markVisible t e.msg.rid).dropWrite (some (t, e.msg.rid))
    else h

/-- A message has been sent in full, with the BAD flag where it is sent BAD (R198); a response that Terroth made returns the tag and
generation of its request (R220). -/
def sentOut (e : EMsg) (bad : Bool) (h : Hw) : Hw :=
  match e.rsp with
  | some r => h.emit (.reply e.eg e.msg.rid r e.msg.tag)
  | none => h.emit (.msgOut e.eg e.msg.rid bad)

/-- A message has been sent: the cells are freed, a multicast copy's when its leg is done (R219). -/
def sentMsg (e : EMsg) (h : Hw) : Hw :=
  let h1 := sentEffect e (sentOut e false h)
  match e.mc with
  | some _ => h1
  | none => h1.freeN e.got

/-- A message that is being sent ends before its tail: its cells are freed, and those that still have to cross are not kept. A write of
a tenant is lost (R68, R199). -/
def cutMsg (eg : Nat) (e : EMsg) (h : Hw) : Hw :=
  let h1 := { h with sw := { h.sw with inTx := Store.del h.sw.inTx eg,
                                       sending := h.sw.sending.filter (fun x => !(e.mc == some x.1 && x.2 == 16 * eg + e.q)) } }
  let h2 := releaseCells e h1
  if isRequest e.msg.cls then loseMsg e.counted h2 else h2

/-- R198: a message found bad after its header has left: nullified on a non-FLIT link, sent with the BAD flag on Spire. -/
def endBad (eg : Nat) (e : EMsg) (h : Hw) : Hw :=
  let h1 := cutMsg eg e h
  if eg < 72 then (h1.fadd F.SW_NULLIFY_VAL 0 1).emit (.nullified eg e.msg.rid) else sentOut e true h1

/-- R197, R198: message `rid` of ingress port `ing` is found bad: marked wherever it waits, and ended where its header has left. -/
def markBad (ing rid : Nat) (h : Hw) : Hw :=
  let hit := ofMsg ing rid
  let h1 := mapMsgs (fun e => if hit e then { e with bad := true, msg := { e.msg with bad := true, tail := true } } else e)
    (fun m => if m.ing == ing && m.rid == rid then { m with bad := true, tail := true } else m) h
  (h1.sw.inTx.filter (fun x => hit x.2)).foldl (fun h x => endBad x.1 x.2 h) h1

/-- The tail of a message that is being forwarded arrives (R196). -/
def tailArrives (ing rid : Nat) (h : Hw) : Hw :=
  mapMsgs (fun e => if ofMsg ing rid e then { e with msg := { e.msg with tail := true } } else e)
    (fun m => if m.ing == ing && m.rid == rid then { m with tail := true } else m) h

/-! ### Joining an egress queue -/

/-- The settings in force of a queue's shaper as (ISLOPE, CAP, FLOOR): what a write has replaced stays in force until the boundary that
ends its slot (R239). -/
def shaperOf (h : Hw) (qid : Nat) : Nat × Nat × Nat :=
  (Store.get? h.ts.shOld qid).getD (h.fget F.TS_SHCFG_ISLOPE qid, h.fget F.TS_SHLIM_CAP qid, h.fget F.TS_SHLIM_FLOOR qid)

/-- The ISLOPE in force. -/
def slopeOf (h : Hw) (qid : Nat) : Nat := (shaperOf h qid).1

/-- R203: whether an arrival puts queue `q` in SPILLING. DESIGN CHOICE: the arrival is that of a message, with its first cell; that cell,
which has been allocated, no longer counts as free, and the message's later cells follow it. -/
def spillNow (h : Hw) (q : EQ) : Bool :=
  let hd := cellsOf q.head
  let qhi := h.fget F.SW_SPILLCFG_QHI 0
  let qmin := min (h.fget F.SW_SPILLCFG_QMIN 0) qhi
  h.flag F.SW_CTRL_SPEN 0 &&
  (decide (qhi * 16 ≤ hd) ||
   (decide (h.freeCells < h.fget F.SW_BUFCFG_SRESV 0 + h.fget F.SW_BUFCFG_LOWFREE 0) && decide (qmin * 16 ≤ hd)))

/-- R203, R251: a message joins its egress queue with its first cell. -/
def joinQueue (e : EMsg) (h : Hw) : Hw :=
  let qid := 16 * e.eg + e.q
  let q := h.eq qid
  let sp := q.spilling || spillNow h q
  let q' := if sp then { q with spilling := true, stage := q.stage ++ [e] } else { q with head := q.head ++ [e] }
  let h1 := h.setEq qid q'
  if e.q < 4 ∧ slopeOf h qid = 0 then h1.fset F.TS_PORTSTAT_UNSHAPED e.eg 1 else h1

/-- `f` applied to message `e` wherever queue `q` holds it. -/
def EQ.upd (q : EQ) (e : EMsg) (f : EMsg → EMsg) : EQ :=
  { q with head := updateFirst (sameMsg e) f q.head, stage := updateFirst (sameMsg e) f q.stage }

/-- A further cell of message `e` arrives at queue `qid`, or at the egress port that already sends the message. -/
def moreCell (e : EMsg) (qid : Nat) (h : Hw) : Hw :=
  let h1 := h.setEq qid ((h.eq qid).upd e (fun x => { x with got := x.got + 1, srcxp := e.srcxp }))
  match Store.get? h1.sw.inTx (qid / 16) with
  | some t =>
    if sameMsg e t then
      let t' := { t with got := t.got + 1, srcxp := e.srcxp }
      if t'.got = t'.total ∧ t'.msg.tail then
        sentMsg t' { h1 with sw := { h1.sw with inTx := Store.del h1.sw.inTx (qid / 16) } }
      else { h1 with sw := { h1.sw with inTx := Store.put h1.sw.inTx (qid / 16) t' } }
    else h1
  | none => h1

/-- R218: whether a leg drops its copy at link time. -/
def legDown (h : Hw) (eg : Nat) : Bool := !h.egUp eg || h.fp.dpc.contains eg

/-- R218: a dropped multicast copy is counted and reported in its egress port's domain. -/
def dropLeg (eg group : Nat) (h : Hw) : Hw :=
  (h.fadd F.SW_MCDROP_VAL eg 1).raise { code := 0x0606, dom := domPort, dinst := eg, addr := group, unit := eg }

/-- The copy of multicast `e` for the leg to vPPB `l.1` at egress port `l.2` (R217, R231). -/
def copyFor (h : Hw) (e : EMsg) (mid : Nat) (l : Nat × Nat) : EMsg :=
  { e with eg := l.2, q := tcQueue h l.2 e.msg.tc, leg := l.1 + 1, mc := some mid, legs := [] }

/-- The queue of egress port `l.2` that the copy of multicast `mid` for the leg to vPPB `l.1` joined with its first cell. -/
def copyQueue (h : Hw) (mid : Nat) (l : Nat × Nat) : Nat :=
  let mine := fun (x : EMsg) => x.mc == some mid && x.leg == l.1 + 1
  16 * l.2 + ((List.range 16).find? (fun q => let x := h.eq (16 * l.2 + q); x.head.any mine || x.stage.any mine)).getD 0

/-- R217: the first cell of a multicast message is linked into every leg's queue, and LEGS counts the legs linked; where every leg is
dropped the message is gone. DESIGN CHOICE: a tenant's write that is multicast counts as visible from here. -/
def joinLegs (e : EMsg) (h : Hw) : Hw :=
  let mid := h.sw.nextMid
  let up := e.legs.filter (fun l => !legDown h l.2)
  let h1 := (e.legs.filter (fun l => legDown h l.2)).foldl (fun x l => dropLeg l.2 (rtTarget (h.route e.ridx)) x) h
  let h2 := match e.msg.tid with
    | some t => (h1.markVisible t e.msg.rid).dropWrite (some (t, e.msg.rid))
    | none => h1
  let h3 := { h2 with sw := { h2.sw with
    nextMid := mid + 1, voq := updateFirst (sameMsg e) (fun x => { x with mc := some mid, gone := up.isEmpty }) h2.sw.voq } }
  if up.isEmpty then h3.freeN 1
  else up.foldl (fun x l => joinQueue (copyFor h e mid l) x)
    { h3 with sw := { h3.sw with legs := Store.put h3.sw.legs mid (up.length, 1) } }

/-- R217: a further cell of a multicast message. -/
def moreLegs (e : EMsg) (h : Hw) : Hw :=
  match e.mc with
  | none => h
  | some mid =>
    e.legs.foldl (fun x l => moreCell (copyFor h e mid l) (copyQueue x mid l) x)
      { h with sw := { h.sw with legs := Store.modify h.sw.legs mid (fun n => (n.1, n.2 + 1)) } }

/-- R193, R200: the egress links one cell of message `e` (its first when `e.got` is 1); a cell of a message that is gone is freed at
once. -/
def linkCell (e : EMsg) (h : Hw) : Hw :=
  if e.gone then h
  else
    let h1 := { h with sw := { h.sw with used := h.sw.used + 1 } }
    if e.legs.isEmpty then (if e.got = 1 then joinQueue e h1 else moreCell e (16 * e.eg + e.q) h1)
    else if e.got = 1 then joinLegs e h1 else moreLegs e h1

/-! ### Matching -/

/-- The first of a list of crossbar ports at or after `ptr`, counting modulo 96. -/
def firstFrom (ptr : Nat) (l : List Nat) : Option Nat :=
  l.foldl (fun best x =>
    match best with
    | none => some x
    | some b => if (x + 96 - ptr) % 96 < (b + 96 - ptr) % 96 then some x else some b) none

/-- A matching in progress: the pairs of input, output and class (strict), and the pointers. -/
structure MatchSt where
  pairs : List (Nat × Nat × Bool)
  gptr : SMap Nat
  aptr : SMap Nat

/-- Whether the next cell of a message has arrived: its last cell is there once its tail is. -/
def cellHere (e : EMsg) : Bool := decide (e.got + 1 < e.total) || e.msg.tail

/-- The VOQ entries from input `i` to output `j` of class `strict`, in order: their ports and class (R191). -/
def inVoq (h : Hw) (i j : Nat) (strict : Bool) (e : EMsg) : Bool :=
  decide (e.q < 4) == strict && xpOwner h e.msg.ing == xpOwner h i && xpOwner h e.eg == xpOwner h j

/-- R192: whether input `i` requests output `j` with a cell of class `strict`. -/
def requests (h : Hw) (i j : Nat) (strict : Bool) : Bool :=
  match h.sw.voq.find? (inVoq h i j strict) with
  | some e => cellHere e
  | none => false

/-- R192, R202: the grant of output `j`, with `n` cells granted in the slot so far: to the first input that requests it with a strict
cell at or after its pointer, else with a weighted cell. -/
def grantOf (h : Hw) (ins : List Nat) (gptr : SMap Nat) (n j : Nat) : Option (Nat × Bool) :=
  let c1 := if allocOk h true n then ins.filter (fun i => requests h i j true) else []
  let strict := !c1.isEmpty
  let c := if strict then c1 else if allocOk h false n then ins.filter (fun i => requests h i j false) else []
  (firstFrom (Store.getD 0 gptr j) c).map (fun i => (i, strict))

/-- R192, R202: the grants of an iteration as (output, input, class). DEDUCED: the outputs take the cells that R202 leaves in ascending
order. -/
def grantsOf (h : Hw) (ins outs : List Nat) (st : MatchSt) : List (Nat × Nat × Bool) :=
  outs.foldl (fun gs j =>
    if st.pairs.any (fun p => p.2.1 == j) then gs
    else match grantOf h ins st.gptr (st.pairs.length + gs.length) j with
      | some g => gs ++ [(j, g.1, g.2)]
      | none => gs) []

/-- R192: one input accepts the first granting output at or after its pointer. -/
def acceptOne (first : Bool) (grants : List (Nat × Nat × Bool)) (st : MatchSt) (i : Nat) : MatchSt :=
  let gs := grants.filter (fun g => g.2.1 == i)
  match firstFrom (Store.getD 0 st.aptr i) (gs.map Prod.fst) with
  | none => st
  | some k =>
    let strict := gs.any (fun g => g.1 == k && g.2.2)
    { pairs := st.pairs ++ [(i, k, strict)],
      gptr := if first then Store.setD 0 st.gptr k ((i + 1) % 96) else st.gptr,
      aptr := if first then Store.setD 0 st.aptr i ((k + 1) % 96) else st.aptr }

/-- R192: one iteration of the matcher: every unmatched input that outputs have granted accepts one. -/
def matchIter (h : Hw) (ins outs : List Nat) (first : Bool) (st : MatchSt) : MatchSt :=
  let grants := grantsOf h ins outs st
  (ins.filter (fun i => !st.pairs.any (fun p => p.1 == i) && grants.any (fun g => g.2.1 == i))).foldl (acceptOne first grants) st

/-- R192: the iterations of a slot. -/
def matchLoop (h : Hw) (ins outs : List Nat) (first : Bool) (st : MatchSt) : Nat → MatchSt
  | 0 => st
  | n + 1 => matchLoop h ins outs false (matchIter h ins outs first st) n

/-- A list in rising order without repeats. -/
def sortNats (l : List Nat) : List Nat := (l.foldl (fun m x => Store.put m x ()) ([] : SMap Unit)).map Prod.fst

/-- R193, R195: matched pair (i, j) carries the next cell of the VOQ it serves, if it has one left. -/
def carryCell (h : Hw) (p : Nat × Nat × Bool) : Hw :=
  let sel := inVoq h p.1 p.2.1 p.2.2
  match h.sw.voq.find? sel with
  | none => h
  | some e =>
    if !cellHere e then h
    else
      let e' := { e with got := e.got + 1, srcxp := e.srcxp ++ [p.1] }
      let done := decide (e'.got = e.total)
      let h1 := linkCell e' { h with sw := { h.sw with voq := updateFirst sel (fun _ => e') h.sw.voq } }
      if done then ({ h1 with sw := { h1.sw with voq := removeFirst sel h1.sw.voq } }).emit (.credits e.msg.ing e.msg.rid)
      else h1

/-- R202: the VOQs with a cell ready for which none may be allocated any more and that no matched pair serves: their number. -/
def refusedVoqs (h : Hw) (pairs : List (Nat × Nat × Bool)) : Nat :=
  let served := fun (e : EMsg) => pairs.any (fun p => inVoq h p.1 p.2.1 p.2.2 e)
  let key := fun (e : EMsg) => (xpOwner h e.msg.ing * 96 + xpOwner h e.eg) * 2 + b2n (decide (e.q < 4))
  let waits := fun (e : EMsg) =>
    requests h (xpOwner h e.msg.ing) (xpOwner h e.eg) (decide (e.q < 4)) && !allocOk h (decide (e.q < 4)) pairs.length && !served e
  (sortNats ((h.sw.voq.filter waits).map key)).length

/-- MATCHING_SLOT (R192, R193, R202): one slot of matching and transfer; nothing while HALT is 1. -/
def matchSlot (h : Hw) : Hw :=
  if h.flag F.SW_CTRL_HALT 0 then h
  else
    let ins := sortNats (h.sw.voq.flatMap (fun e => xpsOf h (xpOwner h e.msg.ing)))
    let outs := sortNats (h.sw.voq.flatMap (fun e => xpsOf h (xpOwner h e.eg)))
    let st := matchLoop h ins outs true ⟨[], h.sw.gptr, h.sw.aptr⟩ (h.fget F.SW_CTRL_ITERS 0)
    let h1 := h.fadd F.SW_CREDHOLD_VAL 0 (refusedVoqs h st.pairs)
    let h2 := { h1 with sw := { h1.sw with gptr := st.gptr, aptr := st.aptr } }
    (ins.filterMap (fun i => st.pairs.find? (fun p => p.1 == i))).foldl carryCell h2

/-- MATCHING_SLOT. -/
def execMatchingSlot (s : State) : Out := onHw matchSlot s

/-! ### Route table commands -/

/-- The command register's RIDX and OP as GO wrote them (R229). -/
def setRtcmd (i op : Nat) (h : Hw) : Hw := (h.fset F.SW_RTCMD_RIDX 0 i).fset F.SW_RTCMD_OP 0 op

/-- RESULT of SW_RTSTAT. -/
def rtResult (r : Nat) (h : Hw) : Hw := h.fset F.SW_RTSTAT_RESULT 0 r

/-- GO while BUSY is ignored with BUSY_REJECT (R229). -/
def rtGo (f : Hw → Hw) (h : Hw) : Hw := if h.flag F.SW_RTSTAT_BUSY 0 then rtResult 2 h else f h

/-- SW_RTCMD_NOP (R229). -/
def execSwRtcmdNop (_p : Path) (ridx : Nat) (s : State) : Out :=
  onHw (rtGo (fun h => rtResult 0 (setRtcmd ridx 0 h))) s

/-- SW_RTCMD READ (R229). -/
def rtRead (i : Nat) (h : Hw) : Hw :=
  let r := h.route (i % 16384)
  rtResult 0 ((h.fset F.SW_RTDATA_LO_VAL 0 r).fset F.SW_RTDATA_HI_VAL 0 (r / 2 ^ 32))

/-- SW_RTCMD_READ (R229). -/
def execSwRtcmdRead (_p : Path) (ridx : Nat) (s : State) : Out :=
  onHw (rtGo (fun h => rtRead ridx (setRtcmd ridx 1 h))) s

/-- R182, R183: whether the staged entry may be written at index `i`. -/
def rtFieldOk (i lo : Nat) : Bool :=
  !decide (0x1D ≤ i ∧ i ≤ 0x1F) &&
  (if bitAt lo 1 then decide (bits lo 4 13 < 4608) else decide (bits lo 4 13 < 96))

/-- R182, R187: the entry an update writes: V, MC, TARGET, ALT, ALTV from the staged low half (ALT is 0 but in the entries
0x0000 to 0x0007), EPOCH incremented, and RFLOOR set on a REVOKE. -/
def rtMake (i old lo : Nat) (revoke : Bool) : Nat :=
  let ep := (rtEpoch old + 1) % 65536
  bits lo 0 2 + bits lo 4 13 * 16 + (if i < 8 then bits lo 17 7 * 2 ^ 17 else 0) + bits lo 24 1 * 2 ^ 24 + ep * 2 ^ 32 +
    (if revoke then ep else rtFloor old) * 2 ^ 48

/-- R187, R190, R229: an update from Turret is checked, written and left BUSY until it completes. DESIGN CHOICE: the new entry takes effect
for lookups and egress checks at GO. -/
def rtUpdate (p : Path) (i : Nat) (revoke : Bool) (h : Hw) : Hw :=
  if p ≠ .turret then rtResult 3 h
  else
    let lo := h.fget F.SW_RTDATA_LO_VAL 0
    if rtFieldOk i lo then
      let h1 := { h with sw := { h.sw with routes := Store.setD 0 h.sw.routes i (rtMake i (h.route i) lo revoke) } }
      (rtResult 0 h1).fset F.SW_RTSTAT_BUSY 0 1
    else rtResult 1 h

/-- SW_RTCMD_UPDATE (R187). -/
def execSwRtcmdUpdate (p : Path) (ridx : Nat) (s : State) : Out :=
  onHw (rtGo (fun h => rtUpdate p (ridx % 16384) false (setRtcmd ridx 2 h))) s

/-- SW_RTCMD_UPDATE_REVOKE (R187). -/
def execSwRtcmdUpdateRevoke (p : Path) (ridx : Nat) (s : State) : Out :=
  onHw (rtGo (fun h => rtUpdate p (ridx % 16384) true (setRtcmd ridx 3 h))) s

/-- ROUTE_UPDATE_COMPLETE (R190): BUSY clears. -/
def execRouteUpdateComplete (s : State) : Out := onHw (fun h => h.fset F.SW_RTSTAT_BUSY 0 0) s

/-! ### Spill -/

/-- The spill pages that queues hold. -/
def pagesInUse (h : Hw) : List Nat := h.sw.eqs.flatMap (fun x => x.2.pages.map Prod.fst)

/-- The first free page of the spill area (R208). -/
def freePage (h : Hw) : Option Nat :=
  let f := h.fget F.SW_SPILLFIRST_VAL 0
  let n := h.fget F.SW_SPILLCNT_VAL 0
  let used := pagesInUse h
  if used.length + h.sw.pgLeak < n then rotFind (fun i => !used.contains (f + i)) (max 1 n) 0 (used.length + 1) |>.map (f + ·)
  else none

/-- SW_SPILLPG follows the pages in use. -/
def Hw.setPages (h : Hw) : Hw := h.fset F.SW_SPILLPG_VAL 0 (pagesInUse h).length

/-- The descriptor of cell `i` of message `e` (R201). -/
def cellDesc (e : EMsg) (i qseq : Nat) : Nat :=
  let last := decide (i + 1 = e.total)
  (if last then (e.msg.len - 1) % 256 + 1 else 256) + b2n (i == 0) * 2 ^ 9 + b2n last * 2 ^ 10 +
    b2n (e.bad && last) * 2 ^ 11 + (e.msg.tid.getD 0) * 2 ^ 16 + e.itime * 2 ^ 32 + e.ridx * 2 ^ 64 +
    e.epoch * 2 ^ 80 + e.srcxp.getD i e.msg.ing * 2 ^ 96 + qseq * 2 ^ 104

/-- The Dome offset of the descriptor of cell slot `k` of page `pg`. -/
def descAddr (pg k : Nat) : Nat := pg * 2 ^ 21 + 16 * k

/-- The Dome offset of cell slot `k` of page `pg`. -/
def cellAddr (pg k : Nat) : Nat := pg * 2 ^ 21 + 0x20000 + 256 * k

/-- The queue's pages after one more cell, with the page the cell went to; none when no page is free (R208, R210). -/
def takeSlot (h : Hw) (q : EQ) : Option (EQ × Nat × Nat × Bool) :=
  match q.pages.getLast? with
  | some (pg, w, r) =>
    if w < 7680 then some ({ q with pages := q.pages.dropLast ++ [(pg, w + 1, r)] }, pg, w, false)
    else (freePage h).map (fun n => ({ q with pages := q.pages ++ [(n, 1, 0)] }, n, 0, true))
  | none => (freePage h).map (fun n => ({ q with pages := [(n, 1, 0)] }, n, 0, true))

/-- R208, R209: where the next cell of a queue will lie: page, slot and QSEQ. -/
def nextCell (h : Hw) (q : EQ) : Nat × Nat × Nat := ((takeSlot h q).map (fun x => (x.2.1, x.2.2.1, q.wseq))).getD (0, 0, q.wseq)

/-- R208, R209: cell `i` of message `e` is written to the tail of DOME with its QSEQ, chaining a new page. The bytes of the message are
outside the model, so those of the cell are a free value. -/
def writeCell (qid : Nat) (e : EMsg) (i : Nat) (m : Mach) : Option Mach :=
  let q := m.hw.eq qid
  match takeSlot m.hw q with
  | none => none
  | some (q', pg, k, fresh) =>
    let m0 : Mach := { m with hw := (m.hw.takeFree.2.setEq qid { q' with wseq := (q.wseq + 1) % 2 ^ 24 }).setPages }
    let m1 := iterN (fun j m1 => (writeDome (cellAddr pg k + 64 * j) (bits m.hw.takeFree.1 (512 * j) 512) false false m1).2) 0 4 m0
    let m2 := m1.poke (descAddr pg k) (cellDesc e i q.wseq) 16 0xFFFF
    some (if fresh then
        let m3 := m2.poke (pg * 2 ^ 21 + 0x1E000) (qid * 2 ^ 32) 8 0xFFFF
        match q.pages.getLast? with
        | some (old, _, _) => m3.poke (old * 2 ^ 21 + 0x1E000) (pg + 2 ^ 31 + qid * 2 ^ 32) 8 0xFFFF
        | none => m3
      else m2)

/-- The cells of message `e` from `i` written in order. -/
def writeCells (qid : Nat) (e : EMsg) (i : Nat) (m : Mach) : Nat → Option Mach
  | 0 => some m
  | n + 1 =>
    match writeCell qid e i m with
    | none => none
    | some m' => writeCells qid e (i + 1) m' n

/-- The charge of a cell in one direction: 4.25 lines (R207). -/
def cellCharge : Nat := 17 * 160000

/-- R207: whether the token bucket of 64 lines covers a charge; one larger than the bucket is covered by a full bucket. -/
def tokensCover (h : Hw) (c : Nat) : Bool := decide ((min c (256 * 160000) : Nat) ≤ h.sw.tokens)

/-- R207, R214: a charge is taken from the bucket. DEDUCED: what the bucket does not hold stays as a debt, so that every charge counts. -/
def Hw.charge (h : Hw) (c : Nat) : Hw := { h with sw := { h.sw with tokens := h.sw.tokens - c } }

/-- R204 step 2: whether queue `q` wants a refill: HEAD below 64 cells, DOME non-empty and no read outstanding. -/
def wantsRefill (q : EQ) : Bool := decide (cellsOf q.head < 64) && !q.dome.isEmpty && !q.reading

/-- R204 step 1, R207: whether the oldest message of STAGE may be written now; refills are served first. -/
def spillReady (h : Hw) (q : EQ) : Bool :=
  match q.stage with
  | e :: _ =>
    q.spilling && h.flag F.SW_CTRL_SPEN 0 && decide (e.got = e.total) && e.msg.tail &&
    (!q.dome.isEmpty || decide (h.fget F.SW_SPILLCFG_QHI 0 * 16 ≤ cellsOf q.head)) &&
    !h.sw.eqs.any (fun x => wantsRefill x.2) && tokensCover h (e.total * cellCharge)
  | [] => false

/-- A corrected error of a cell in the buffer (R200). -/
def cellCe (unit : Nat) (h : Hw) : Hw :=
  let f := h.takeFree
  f.2.raise { code := 0x1603, dom := domDevice, dinst := 0, addr := f.1 % 65536, unit := unit }

/-- R197, R200: a message whose cells have been read from the buffer: BAD where one of them has an uncorrectable error. -/
def readCells (ecc : Ecc) (e : EMsg) (h : Hw) : EMsg × Hw :=
  match ecc with
  | .good => (e, h)
  | .ce => (e, cellCe e.eg h)
  | .ue => ({ e with bad := true }, if e.bad then h else reportBad e.msg.ing h)

/-- SPILL_WRITE (R197, R204, R207 to R210): `ecc` is what reading the message's cells from the buffer finds. -/
def spillWrite (qid : Nat) (ecc : Ecc) (m : Mach) : Mach :=
  let q := m.hw.eq qid
  match q.stage with
  | [] => m
  | e :: rest =>
    if spillReady m.hw q then
      let r := readCells ecc e m.hw
      match writeCells qid r.1 0 (m.onHw (fun _ => r.2)) e.total with
      | none => m.onHw (fun h => h.fadd F.SW_SPILLFULL_VAL 0 1)
      | some m' => m'.onHw (fun h =>
          let q' := h.eq qid
          let h1 := h.setEq qid { q' with stage := rest, dome := q'.dome ++ [{ r.1 with mc := none, spill := nextCell m.hw q }] }
          let h2 := h1.charge (e.total * cellCharge)
          releaseCells e h2)
    else m

/-- SPILL_WRITE. -/
def execSpillWrite (w : SpillWr) (s : State) : Out := onMach (spillWrite w.qid w.ecc) s

/-- SPILL_REFILL_READ (R204 step 2, R207, R221). -/
def spillRefill (qid : Nat) (h : Hw) : Hw :=
  let q := h.eq qid
  match q.dome with
  | [] => h
  | e :: _ =>
    if wantsRefill q && tokensCover h (e.total * cellCharge) then
      ((h.setEq qid { q with reading := true }).openTag .sw qid).charge (e.total * cellCharge)
    else h

/-- SPILL_REFILL_READ. -/
def execSpillRefillRead (qid : Nat) (s : State) : Out := onHw (spillRefill qid) s

/-- `n` cells from slot `k` of page `pg` (none: of the first page) on are read back or discarded; a page with none left is freed (R208). -/
def consumePages (pages : List (Nat × Nat × Nat)) (pg : Option Nat) (k n : Nat) : List (Nat × Nat × Nat) :=
  match pages with
  | [] => []
  | (p, w, r) :: rest =>
    if pg.all (· == p) then
      let c := min n (w - k)
      let rest' := if n - c = 0 then rest else consumePages rest none 0 (n - c)
      if w ≤ r + c then rest' else (p, w, r + c) :: rest'
    else (p, w, r) :: consumePages rest pg k n

/-- The pages after the cells of message `e` of DOME are read back or discarded. -/
def consumeMsg (pages : List (Nat × Nat × Nat)) (e : EMsg) : List (Nat × Nat × Nat) :=
  consumePages pages (some e.spill.1) e.spill.2.1 e.total

/-- The reads of one cell's line of descriptors and four lines of data (R208, R335): the descriptor, whether one of them is poison, and the
machine after them. -/
def readCell (pg k : Nat) (m : Mach) : Nat × Bool × Mach :=
  let d := readDome (descAddr pg k) 0xFFFF .good .good false m
  let c := iterN (fun j (s : Bool × Mach) =>
    let r := readDome (cellAddr pg k + 64 * j) 0xFFFF .good .good false s.2
    (s.1 || r.1, r.2)) 0 4 (d.1, d.2)
  (if d.1 then 0 else bits (d.2.line (descAddr pg k)) (descAddr pg k % 64 * 8) 128, c.1, c.2)

/-- What the reads of a message's cells find (R209): whether one is poison, and the Dome offset of the first whose descriptor, not poisoned,
does not carry the QSEQ expected. -/
structure CellScan where
  bad : Bool
  seqErr : Option Nat
  mach : Mach

/-- R209, R335: `n` cells from slot `k` of page `pg` (none: of the first page) on are read back. -/
def scanCells (pages : List (Nat × Nat × Nat)) (pg : Option Nat) (k seq n : Nat) (s : CellScan) : CellScan :=
  match pages with
  | [] => s
  | (p, w, _) :: rest =>
    if pg.all (· == p) then
      let c := min n (w - k)
      let s' := iterN (fun i s =>
        let x := readCell p i s.mach
        ⟨s.bad || x.2.1, s.seqErr.or (if x.2.1 || bits x.1 104 24 == (seq + (i - k)) % 2 ^ 24 then none else some (cellAddr p i)),
          x.2.2⟩) k c s
      if n - c = 0 then s' else scanCells rest none 0 (seq + c) (n - c) s'
    else scanCells rest pg k seq n s

/-- The messages that `p` picks leave DOME with their cells, but one whose cells are being read, which is gone when they come; the next
QSEQ expected is that of the first that stays (R208, R209). -/
def EQ.dropDome (q : EQ) (p : EMsg → Bool) : EQ :=
  let busy := if q.reading then q.dome.take 1 else []
  let rest := if q.reading then q.dome.drop 1 else q.dome
  let dome := busy.map (fun e => if p e then { e with gone := true } else e) ++ rest.filter (fun e => !p e)
  { q with dome := dome, pages := (rest.filter p).foldl consumeMsg q.pages,
           rseq := (dome.head?.map (fun e => e.spill.2.2)).getD q.wseq }

/-- The messages that `p` picks leave DOME of queue `qid`. -/
def dropDome (qid : Nat) (p : EMsg → Bool) (h : Hw) : Hw := (h.setEq qid ((h.eq qid).dropDome p)).setPages

/-- R208: the page headers of queue `qid` chain its pages again where pages between them have been freed; `old` are the pages before. -/
def rechain (qid : Nat) (old : List Nat) (m : Mach) : Mach :=
  let new := (m.hw.eq qid).pages.map Prod.fst
  let pairs := fun (l : List Nat) => l.zip (l.drop 1)
  ((pairs new).filter (fun x => !(pairs old).contains x)).foldl (fun m x =>
    m.poke (x.1 * 2 ^ 21 + 0x1E000) (x.2 + 2 ^ 31 + qid * 2 ^ 32) 8 0xFFFF) m

/-- The head message of DOME, whose read is over, leaves DOME. -/
def takeDome (qid : Nat) (h : Hw) : Hw :=
  let q := h.eq qid
  let mine := q.dome.head?
  dropDome qid (fun e => mine == some e) (h.setEq qid { q with reading := false })

/-- The head message of DOME joins HEAD, BAD where `bad`, and its cells are taken on-chip again; one that is gone is dropped. -/
def joinHead (qid : Nat) (bad : Bool) (h : Hw) : Hw :=
  match (h.eq qid).dome with
  | [] => h
  | e :: _ =>
    let h1 := takeDome qid h
    if e.gone then leaveQueue qid h1
    else
      let q := h1.eq qid
      let h2 := h1.setEq qid { q with head := q.head ++ [{ e with bad := e.bad || bad }] }
      let h3 := { h2 with sw := { h2.sw with used := h2.sw.used + e.total } }
      spillLeave qid (if bad && !e.bad then reportBad e.msg.ing h3 else h3)

/-- R204, R208, R209, R197: the cells that a read returns join HEAD; a QSEQ other than the one expected, or poison, makes the message
BAD. -/
def spillAnswer (qid : Nat) (poison : Bool) (m : Mach) : Mach :=
  let q := m.hw.eq qid
  let c : CellScan := match q.dome with
    | [] => ⟨poison, none, m⟩
    | e :: _ => scanCells q.pages (some e.spill.1) e.spill.2.1 q.rseq e.total ⟨poison, none, m⟩
  match c.seqErr with
  | some a => c.mach.onHw (fun h => ((joinHead qid true h).closeTag .sw qid).raise
      { code := 0x3604, dom := domChannel, dinst := (domeMap h a).prim, addr := qid, unit := qid / 16 })
  | none => c.mach.onHw (fun h => (joinHead qid c.bad h).closeTag .sw qid)

/-- SPILL_READ_ANSWER (R204, R221): an answer that carries another generation than the read's, or comes when none is outstanding, is
discarded and counts in SW_LATE. -/
def execSpillReadAnswer (qid : Nat) (ans : SpillAns) (s : State) : Out :=
  onMach (fun m =>
    if (m.hw.eq qid).reading && m.hw.tagGen .sw qid == ans.gen then spillAnswer qid ans.poison m
    else m.onHw (fun h => h.fadd F.SW_LATE_VAL 0 1)) s

/-- SPILL_READ_TIMEOUT (R221): the read is abandoned, its cells are BAD and the tag's generation advances. -/
def execSpillReadTimeout (qid : Nat) (s : State) : Out :=
  onHw (fun h => if (h.eq qid).reading then (joinHead qid true h).closeTag .sw qid else h) s

/-- R204 step 3: messages of STAGE move into HEAD until HEAD holds 64 cells. -/
def relink (q : EQ) : Nat → EQ
  | 0 => q
  | n + 1 =>
    match q.stage with
    | [] => q
    | e :: rest =>
      if cellsOf q.head < 64 then relink { q with head := q.head ++ [e], stage := rest } n else q

/-- SPILL_RELINK (R204 step 3, R205). -/
def execSpillRelink (qid : Nat) (s : State) : Out :=
  onHw (fun h =>
    let q := h.eq qid
    if q.spilling && q.dome.isEmpty && !q.reading then spillLeave qid (h.setEq qid (relink q q.stage.length)) else h) s

/-! ### Ageing -/

/-- R214: the aged head of one queue is discarded; a head in DOME charges its descriptor reads, but where a refill that has been charged is
reading it. -/
def ageQueue (h : Hw) (qid : Nat) : Hw :=
  let q := h.eq qid
  match q.head, q.dome, q.stage with
  | e :: rest, _, _ => if aged h e then leaveQueue qid (discardMsg e 213 (h.setEq qid { q with head := rest })) else h
  | [], e :: _, _ =>
    if aged h e && !e.gone then
      let h1 := dropDome qid (· == e) h
      leaveQueue qid (endMsg e 213 (if q.reading then h1 else h1.charge (e.total * 160000)))
    else h
  | [], [], e :: rest =>
    if aged h e then leaveQueue qid (discardMsg e 213 (h.setEq qid { q with stage := rest })) else h
  | [], [], [] => h

/-- AGEING_CHECK (R213, R214). -/
def execAgeingCheck (s : State) : Out :=
  onHw (fun h => (h.sw.eqs.map Prod.fst).foldl ageQueue h) s

/-! ### Multicast -/

/-- MULTICAST_LEG_DONE (R219): a leg that was being sent is done. -/
def execMulticastLegDone (mid qid : Nat) (s : State) : Out :=
  onHw (fun h =>
    if h.sw.sending.contains (mid, qid) && !(Store.get? h.sw.inTx (qid / 16)).any (fun e => e.mc == some mid) then
      legDone mid { h with sw := { h.sw with sending := h.sw.sending.erase (mid, qid) } }
    else h) s

/-- MULTICAST_CREDIT_TIMEOUT (R218): the copy at the head of its queue is dropped for lack of posted credit. -/
def execMulticastCreditTimeout (qid : Nat) (s : State) : Out :=
  onHw (fun h =>
    let q := h.eq qid
    match q.head with
    | e :: rest =>
      if e.leg = 0 then h
      else leaveQueue qid (dropLeg e.eg (rtTarget (h.route e.ridx)) (releaseCells e (h.setEq qid { q with head := rest })))
    | [] => h) s

/-! ### Audit -/

/-- R222: whether the audit may run: HALT is 1 and every queue is empty. -/
def auditReady (h : Hw) : Bool :=
  h.flag F.SW_CTRL_HALT 0 && h.sw.voq.isEmpty && h.sl.peers.all (fun x => x.2.cells == 0) && h.sw.eqs.all (fun x =>
    x.2.head.isEmpty && x.2.dome.isEmpty && x.2.stage.isEmpty)

/-- SW_AUDCTRL_GO (R222). -/
def execSwAudctrlGo (s : State) : Out :=
  onHw (fun h =>
    if auditReady h then h.fset F.SW_AUDSTAT_BUSY 0 1 else h.fset F.SW_AUDSTAT_RESULT 0 3) s

/-- The cells that messages hold outside the egress queues: in the pacing queues (R244), with the egress ports that are sending, and
for multicasts. -/
def heldCells (h : Hw) : Nat :=
  (h.ts.pq.map (fun x => (x.2.map EMsg.total).sum)).sum +
  ((h.sw.inTx.filter (fun x => x.2.mc.isNone)).map (fun x => x.2.got)).sum + (h.sw.legs.map (fun x => x.2.2)).sum

/-- R223: the result of an audit: the free lists rebuilt, leaks and duplicates counted and reported. -/
def auditRun (h : Hw) : Hw :=
  let held := heldCells h
  let leaks := h.sw.leak + (h.sw.used - held) + h.sw.pgLeak + h.sw.dup.getD 0 + h.sw.pgDup.getD 0
  let dups := b2n h.sw.dup.isSome + b2n h.sw.pgDup.isSome
  let h1 := { h with sw := { h.sw with leak := 0, used := held, dup := none, pgLeak := 0, pgDup := none } }
  let h2 := (h1.fadd F.SW_AUDLEAK_VAL 0 leaks).fadd F.SW_AUDDUP_VAL 0 dups
  let h3 := (h2.fset F.SW_AUDSTAT_RESULT 0 (if dups ≠ 0 then 2 else if leaks ≠ 0 then 1 else 0)).fset
    F.SW_AUDSTAT_BUSY 0 0
  let h4 := if leaks ≠ 0 then h3.raise { code := 0x1607, dom := domDevice, dinst := 0, addr := leaks, unit := 0xFFF }
            else h3
  if dups ≠ 0 then h4.raise { code := 0x3608, dom := domDevice, dinst := 0, addr := dups, unit := 0xFFF } else h4

/-- AUDIT_END (R223): a running audit ends. -/
def execAuditEnd (s : State) : Out := onHw (fun h => if h.flag F.SW_AUDSTAT_BUSY 0 then auditRun h else h) s

end Sys2Proof.Machine
end

