-- ==== Sys2Proof/Machine/Traffic.lean ====
section
/-! DEFINITION. Traffic scheduling: credit shapers (R237 to R239), egress selection (R233 to R235) with sending and
discarding at egress (R188, R196, R198, R213), tenant pacing and the wheel (R240 to R247), the strict latency bound
(R248 to R251, R260) and the latency sampler (R252 to R254). -/
namespace Sys2Proof.Machine

/-! ### Credit shapers -/

/-- The credit of queue `qid` in units of 1/16,000 byte. -/
def Hw.cred (h : Hw) (qid : Nat) : Int := Store.getD 0 h.ts.cred qid

/-- The credit of queue `qid` replaced. -/
def Hw.setCred (h : Hw) (qid : Nat) (c : Int) : Hw :=
  { h with ts := { h.ts with cred := Store.setD 0 h.ts.cred qid c } }

/-- R237 step 4: the clamp to −FLOOR and +CAP of the settings in force. -/
def clampCred (h : Hw) (qid : Nat) (c : Int) : Int :=
  let s := shaperOf h qid
  max (-(16000 * (s.2.2 : Int))) (min (16000 * (s.2.1 : Int)) c)

/-- R237 steps 1 to 4, R238: one shaper at a slot boundary. -/
def shaperStep (h : Hw) (qid : Nat) : Hw :=
  let slope : Int := slopeOf h qid
  let c := h.cred qid
  if slope = 0 then h.setCred qid 0
  else if h.ts.held.contains qid then h.setCred qid (clampCred h qid (c + 5 * slope))
  else if c < 0 then h.setCred qid (clampCred h qid (min 0 (c + 5 * slope)))
  else h.setCred qid (clampCred h qid 0)

/-- R239: the settings written to queue `qid` take effect: the credit is clamped to them, and is 0 where ISLOPE is 0. -/
def shaperTake (h : Hw) (qid : Nat) : Hw :=
  let h1 := { h with ts := { h.ts with shOld := Store.del h.ts.shOld qid, shNew := h.ts.shNew.filter (· != qid) } }
  h1.setCred qid (if slopeOf h1 qid = 0 then 0 else clampCred h1 qid (h1.cred qid))

/-- R239: the settings of set `xp` (none: of every set) whose boundary has come take effect. -/
def shaperTakes (xp : Option Nat) (h : Hw) : Hw :=
  (h.ts.shNew.filter (fun q => xp.all (fun x => q / 16 == x))).foldl shaperTake h

/-- The bytes queued in a set's strict queues. -/
def strictBytes (h : Hw) (xp : Nat) : Nat :=
  ([0, 1, 2, 3].map (fun q =>
    let e := h.eq (16 * xp + q)
    ((e.head ++ e.dome ++ e.stage).map (fun x => x.msg.len)).sum)).sum

/-- R251: a set whose strict bytes exceed SBURST at the boundary counts the slot. -/
def strictOver (h : Hw) (xp : Nat) : Hw :=
  if h.fget F.TS_PORTCFG_SBURST xp < strictBytes h xp then h.fadd F.TS_SOVER_VAL xp 1 else h

/-- The host ports that withhold credit for a full pacing queue (R244). -/
def holdPorts (h : Hw) : List Nat := sortNats (h.ts.waiting.map (fun e => e.msg.ing))

/-- SHAPER_SLOT_BOUNDARY (R237 to R239, R244, R251): the settings written in the slot that ends take effect after this boundary's
selection. -/
def slotBoundary (h0 : Hw) : Hw :=
  let h := shaperTakes none h0
  let qs := sortNats (h.instsOf F.TS_SHCFG_ISLOPE ++ h.ts.cred.map Prod.fst ++ h.ts.shOld.map Prod.fst)
  let h1 := qs.foldl shaperStep h
  let busy := (h1.sw.eqs.filter (fun x => x.2.nonEmpty)).map Prod.fst
  let h2 := (sortNats (busy.map (· / 16))).foldl strictOver h1
  let h3 := h2.fadd F.TS_PACEHOLD_VAL 0 (holdPorts h2).length
  { h3 with ts := { h3.ts with held := busy, shNew := h3.ts.shOld.map Prod.fst } }

/-- SHAPER_SLOT_BOUNDARY. -/
def execShaperSlotBoundary (s : State) : Out := onHw slotBoundary s

/-! ### The strict latency bound -/

/-- R384: the pipeline maximum p in ns by link mode and rate code. -/
def pipeMax (mode rate : Nat) : Nat :=
  match mode with
  | 0 => if rate = 5 then 110 else if rate = 4 then 130 else 170
  | 1 => if rate ≥ 4 then 120 else 160
  | _ => if rate ≥ 4 then 115 else if rate ≥ 2 then 155 else 280

/-- Whether a port has an IDE stream in Secure state (streams keyed by port * 256 + index). -/
def ideSecure (h : Hw) (p : Nat) : Bool := h.fp.ide.any (fun x => x.1 / 256 == p && x.2.secure)

/-- The slowest link whose CXL.cachemem IDE runs in containment mode (R248, R385): its lanes × MT/s, if any. -/
def containLink (h : Hw) : Option Nat :=
  (h.fp.ide.filter (fun x => x.2.kind == 2 && x.2.containment && x.2.secure && h.linkRate (x.1 / 256) != 0)).foldl
    (fun b x => match b with
      | none => some (h.linkRate (x.1 / 256))
      | some v => some (min v (h.linkRate (x.1 / 256)))) none

/-- The strict ISLOPEs of a set. -/
def strictSlopes (h : Hw) (xp : Nat) : List Nat := [0, 1, 2, 3].map (fun q => h.fget F.TS_SHCFG_ISLOPE (16 * xp + q))

/-- R248: the pipeline maximum of a set; a Spire or internal set has no link mode in R384, so its maximum is free. -/
def pipeOf (h : Hw) (xp : Nat) : Nat :=
  if xp < 72 then pipeMax (h.fget F.FP_LSTAT_MODE xp) (h.fget F.FP_LSTAT_RATE xp) else Config.corePipe xp

/-- R248: the maximum payload size of a set in bytes; free where the spec gives none. -/
def payloadOf (h : Hw) (xp : Nat) : Nat := if xp < 72 then Store.getD 4096 h.fp.mps xp else Config.corePayload xp

/-- R248: DMAX of a set in ns, rounded up, for `smin` and `rate` nonzero. -/
def dmaxOf (h : Hw) (xp smin rate : Nat) : Nat :=
  let p := pipeOf h xp + (if ideSecure h xp then 10 else 0) + (if h.fp.ide.any (fun x => x.2.secure) then 10 else 0)
  let w := payloadOf h xp + 64
  let d := smin * rate
  let lr := (containLink h).getD 1
  let cnum := if (containLink h).isSome then 10240000 * d else 0
  let num := (p * d + 8000 * w * smin + 8000 * h.fget F.TS_PORTCFG_SBURST xp * rate) * lr + cnum
  (num + d * lr - 1) / (d * lr)

/-- R175, R177, R255: whether the queue set of crossbar port `xp` is one that a port or block uses: the lowest of a fabric or Spire port,
each of an internal block, and not the spare port. -/
def setUsed (h : Hw) (xp : Nat) : Bool :=
  if xp < 72 then h.portWidth xp != 0 else if xp < 80 then xp % 2 == 0 else decide (xp < 95)

/-- The sets with a shaped strict queue, ascending; the registers of a set that nothing uses have no effect (R255). -/
def shapedSets (h : Hw) : List Nat :=
  (sortNats (((h.instsOf F.TS_SHCFG_ISLOPE).filter (fun q => q % 16 < 4 && h.fget F.TS_SHCFG_ISLOPE q != 0)).map (· / 16))).filter
    (setUsed h)

/-- R249 condition 5: the strict reserve covers every set with shaped strict queues. -/
def reserveOk (h : Hw) : Bool :=
  let sets := shapedSets h
  decide ((sets.map (fun x => (h.fget F.TS_PORTCFG_SBURST x + 255) / 256)).sum ≤ h.fget F.SW_BUFCFG_SRESV 0)

/-- R248, R249: BOUNDOK and DMAX of one set re-evaluated. DMAX is free where the spec gives it no value (no shaped strict
queue, or a rate of 0). -/
def boundEval (h : Hw) (xp : Nat) : Hw :=
  let sl := strictSlopes h xp
  let nz := sl.filter (· != 0)
  let rate := h.fget F.TS_PORTRATE_VAL xp
  match nz with
  | [] => let f := h.takeFree; (f.2.fset F.TS_PORTSTAT_DMAX xp f.1).fset F.TS_PORTSTAT_BOUNDOK xp 0
  | a :: rest =>
    if rate = 0 then let f := h.takeFree; (f.2.fset F.TS_PORTSTAT_DMAX xp f.1).fset F.TS_PORTSTAT_BOUNDOK xp 0
    else
      let d := dmaxOf h xp (rest.foldl min a) rate
      let sb := h.fget F.TS_PORTCFG_SBURST xp
      let ok := h.egUp xp && decide (100 * sl.sum ≤ h.fget F.TS_PORTCFG_SBUDGET xp * rate) && decide (d ≤ 1000) &&
        decide (sb ≤ min (h.fget F.SW_SPILLCFG_QMIN 0) (h.fget F.SW_SPILLCFG_QHI 0) * 4096) && reserveOk h
      (h.fset F.TS_PORTSTAT_DMAX xp (min d 65535)).fset F.TS_PORTSTAT_BOUNDOK xp (b2n ok)

/-- R249: every set whose status an input of the whole module can change re-evaluated: those with a shaped strict queue. -/
def boundAll (h : Hw) : Hw :=
  (sortNats (shapedSets h ++ (h.instsOf F.TS_PORTSTAT_BOUNDOK).filter (fun x => h.flag F.TS_PORTSTAT_BOUNDOK x))).foldl boundEval h

/-- R249: an input of set `xp` has changed. -/
def boundSet (xp : Nat) (h : Hw) : Hw := boundAll (boundEval h xp)

/-- R260: the rate of the queue sets of the home agent, the Cupola, the data mover and Turret, in Mbit/s per crossbar port. -/
def coreRates (h : Hw) : Hw := iterN (fun i h => h.fset F.TS_PORTRATE_VAL (80 + i) 819200) 0 15 h

/-- R260: the effective rate of a link in Mbit/s, rounded down, from lanes × MT/s. -/
def effRate (mode rate raw : Nat) : Nat :=
  match mode with
  | 0 => raw * 236 / 256
  | 1 => raw * 64 * 128 / (68 * 130)
  | _ => if rate ≥ 2 then raw * 128 / 130 else raw * 8 / 10

/-- SHAPER_CONFIG_WRITE (R239, R249): ISLOPE and QUANT, or CAP and FLOOR, of a queue; the shaper's old settings stay in force until
the boundary that ends this slot. -/
def shaperWrite (qid : Nat) (limits : Bool) (w : Nat) (h0 : Hw) : Hw :=
  let h := if h0.ts.shNew.contains qid then shaperTake h0 qid else h0
  let h1 := { h with ts := { h.ts with shOld := Store.put h.ts.shOld qid (shaperOf h qid) } }
  boundSet (qid / 16) (writeReg (if limits then R.TS_SHLIM else R.TS_SHCFG) qid w h1)

/-- SHAPER_CONFIG_WRITE. -/
def execShaperConfigWrite (qid : Nat) (limits : Bool) (data : Word) (s : State) : Out :=
  onHw (shaperWrite (qid % 1536) limits data.toNat) s

/-! ### Egress selection -/

/-- R233: whether queue `qid` is eligible; `credit` lists the message kinds for which the egress link holds credit. -/
def eligible (h : Hw) (credit : List MsgCls) (qid : Nat) : Bool :=
  match (h.eq qid).head with
  | [] => false
  | e :: _ => mayStart h e && credit.contains e.msg.cls &&
      (decide (0 ≤ h.cred qid) || slopeOf h qid == 0)

/-- The deficit of queue `qid` (R234). -/
def Hw.deficit (h : Hw) (qid : Nat) : Nat := Store.getD 0 h.ts.deficit qid

/-- R234: the weighted rounds: at most `n` steps; answers the queue selected and the state kept. -/
def drrLoop (xp : Nat) (credit : List MsgCls) (h : Hw) : Nat → Option Nat × Hw
  | 0 => (none, h)
  | n + 1 =>
    let ptr := Store.getD 0 h.ts.ptr xp
    let qid := 16 * xp + 4 + ptr
    let next := fun (x : Hw) => { x with ts := { x.ts with ptr := Store.setD 0 x.ts.ptr xp ((ptr + 1) % 12) } }
    if eligible h credit qid then
      let fresh := !Store.getD false h.ts.stale qid
      let h1 := if fresh then
          { h with ts := { h.ts with deficit := Store.setD 0 h.ts.deficit qid
                                       (h.deficit qid + 256 * h.fget F.TS_SHCFG_QUANT qid),
                                     stale := Store.setD false h.ts.stale qid true } }
        else h
      let len := ((h.eq qid).head.head?.map (fun e => e.msg.len)).getD 0
      if len ≤ h1.deficit qid then
        (some (4 + ptr), { h1 with ts := { h1.ts with deficit := Store.setD 0 h1.ts.deficit qid (h1.deficit qid - len) } })
      else drrLoop xp credit (next { h1 with ts := { h1.ts with stale := Store.setD false h1.ts.stale qid false } }) n
    else drrLoop xp credit (next h) n

/-- R234: the queue selected at egress port `xp`. -/
def selectQueue (xp : Nat) (credit : List MsgCls) (h : Hw) : Option Nat × Hw :=
  match [0, 1, 2, 3].find? (fun q => eligible h credit (16 * xp + q)) with
  | some q => (some q, h)
  | none => drrLoop xp credit h 24

/-- R188, R198, R213: the heads of queue `qid` that must be discarded before their header leaves. -/
def purgeHead (qid : Nat) (h : Hw) : Nat → Hw
  | 0 => h
  | n + 1 =>
    let q := h.eq qid
    match q.head with
    | [] => h
    | e :: rest =>
      match discardRule h e with
      | none => h
      | some r => purgeHead qid (leaveQueue qid (discardMsg e r (h.setEq qid { q with head := rest }))) n

/-- All queues of a set purged. -/
def purgeSet (xp : Nat) (h : Hw) : Hw :=
  iterN (fun q x => purgeHead (16 * xp + q) x (x.eq (16 * xp + q)).head.length) 0 16 h

/-- R237 step 6: the shaper of the queue selected is debited, down to −FLOOR. -/
def debit (qid len : Nat) (h : Hw) : Hw :=
  let s := shaperOf h qid
  if s.1 = 0 then h else h.setCred qid (max (-(16000 * (s.2.2 : Int))) (h.cred qid - 16000 * (len : Int)))

/-- R196, R219: the selected message leaves its queue: it has been sent where all of it is there, else it stays with the port until its
tail; a multicast copy stays so until its leg is done. -/
def sendMsg (qid : Nat) (e : EMsg) (h : Hw) : Hw :=
  let h1 := debit qid e.msg.len h
  let h2 := match e.mc with
    | some mid => { h1 with sw := { h1.sw with sending := h1.sw.sending ++ [(mid, qid)] } }
    | none => h1
  if e.got = e.total ∧ e.msg.tail then sentMsg e h2
  else { h2 with sw := { h2.sw with inTx := Store.put h2.sw.inTx e.eg e } }

/-- R197, R198: whether an error that a read of the message's cells finds after its header has left can still end it there: on a
non-FLIT link and on Spire. In FLIT mode and in front of an internal block every cell is read before the header leaves (R196). -/
def lateRead (h : Hw) (xp : Nat) : Bool := if xp < 72 then h.fget F.FP_LSTAT_MODE xp == 2 else decide (xp < 80)

/-- The selected message, whose cells are read without an uncorrectable error before its header leaves, is sent; `late` is what the
reads after its header find (R197, R198). -/
def startMsg (xp qid : Nat) (late : Ecc) (e : EMsg) (h : Hw) : Hw :=
  match late with
  | .good => sendMsg qid e h
  | .ce => sendMsg qid e (cellCe xp h)
  | .ue => endBad xp { e with bad := true } (reportBad e.msg.ing (debit qid e.msg.len h))

/-- EGRESS_SELECT (R188, R196, R198, R200, R213, R234, R239): one start of a message at egress port `xp`; `ecc` and `late` are what the
reads of its cells find before and after its header leaves. -/
def egressSelect (xp : Nat) (credit : List MsgCls) (ecc late : Ecc) (h : Hw) : Hw :=
  shaperTakes (some xp) <|
  if h.egUp xp && (Store.get? h.sw.inTx xp).isNone && (decide (72 ≤ xp) || h.fget F.FP_PMSTAT_TXPS xp == 0) then
    let h1 := purgeSet xp h
    let r := selectQueue xp credit h1
    match r.1 with
    | none => r.2
    | some q =>
      let qid := 16 * xp + q
      let eq := r.2.eq qid
      match eq.head with
      | [] => r.2
      | e :: rest =>
        let h2 := r.2.setEq qid { eq with head := rest }
        let early := if lateRead h xp then ecc else if late = .ue then late else if ecc = .good then late else ecc
        let x := readCells early e h2
        leaveQueue qid (if x.1.bad then discardMsg x.1 198 x.2
                        else startMsg xp qid (if lateRead h xp then late else .good) e x.2)
  else h

/-- EGRESS_SELECT. -/
def execEgressSelect (xp : Nat) (credit : List MsgCls) (ecc : CellReads) (s : State) : Out :=
  onHw (egressSelect xp credit ecc.head ecc.late) s

/-! ### Tenant pacing -/

/-- RATE of a tenant in force, 0 where nothing paces it (R240): what a write has replaced stays in force to the end of its tick (R246). -/
def paceRate (h : Hw) (t : Nat) : Nat :=
  if h.flag F.TS_CTRL_PACEEN 0 then (Store.get? h.ts.rateOld t).getD (h.fget F.TS_PACE_RATE t) else 0

/-- R242: whether a tenant is eligible in the current tick. -/
def paceElig (h : Hw) (t : Nat) : Bool := decide (Store.getD 0 h.ts.e t < (h.ts.tick + 1) * 10000)

/-- The pacing queue of a tenant. -/
def Hw.pq (h : Hw) (t : Nat) : List EMsg := Store.getD [] h.ts.pq t

/-- R244: the cells of a pacing queue. -/
def pqCells (l : List EMsg) : Nat := (l.map (fun e => e.total)).sum

/-- A tenant removed from the wheel (R245, R246). -/
def wheelRemove (t : Nat) (h : Hw) : Hw :=
  let f := fun (x : Nat × List Nat) => let l := x.2.filter (· != t); if l.isEmpty then none else some (x.1, l)
  { h with ts := { h.ts with lvl0 := h.ts.lvl0.filterMap f, lvl1 := h.ts.lvl1.filterMap f,
                             elig := Store.del h.ts.elig t } }

/-- R245: a tenant placed at eligible tick `k`. -/
def wheelInsert (t k : Nat) (h : Hw) : Hw :=
  let now := h.ts.tick
  let add := fun (m : SMap (List Nat)) (slot : Nat) => Store.put m slot (Store.getD [] m slot ++ [t])
  if k ≤ now then { h with ts := { h.ts with elig := Store.put h.ts.elig t now } }
  else if k / 1024 = now / 1024 then { h with ts := { h.ts with lvl0 := add h.ts.lvl0 (k % 1024) } }
  else if k / 1024 - now / 1024 < 1024 then { h with ts := { h.ts with lvl1 := add h.ts.lvl1 (k / 1024 % 1024) } }
  else { h with ts := { h.ts with lvl1 := add h.ts.lvl1 ((now / 1024 + 1023) % 1024) } }.fadd F.TS_WHEELOVF_VAL 0 1

/-- R242: a request of tenant `t` is released to its VOQ, and the pacer's values advance. -/
def paceSend (t : Nat) (e : EMsg) (h : Hw) : Hw :=
  let rate := paceRate h t
  if rate = 0 then toVoq e h
  else
    let s := max (Store.getD 0 h.ts.e t) (h.ts.tick * 10000)
    let e' := s + e.msg.len * 8000000 / rate
    let h1 := wheelRemove t { h with ts := { h.ts with
      s := Store.setD 0 h.ts.s t s, l := Store.setD 0 h.ts.l t e.msg.len, e := Store.setD 0 h.ts.e t e' } }
    let h2 := if e' < (h.ts.tick + 1) * 10000 then h1 else wheelInsert t (e' / 10000) h1
    toVoq e h2

/-- R240: whether a message is of the kinds that are paced. -/
def paced (c : MsgCls) : Bool :=
  match c with
  | .ioNp | .ioPost | .memReqD | .memReqN | .memRwd => true
  | _ => false

/-- R202, R244: whether the pacing queue of tenant `t` has room for `n` more cells, which count as weighted cells. A request longer than
PQMAX finds room in an empty queue, so that every hold ends. -/
def paceRoom (h : Hw) (t n : Nat) : Bool :=
  (decide (pqCells (h.pq t) + n ≤ h.fget F.TS_CTRL_PQMAX 0) || (h.pq t).isEmpty) &&
  decide (h.fget F.SW_BUFCFG_SRESV 0 + n ≤ h.freeCells)

/-- R244: a request joins the tail of the pacing queue of tenant `t`. -/
def paceJoin (t : Nat) (e : EMsg) (h : Hw) : Hw :=
  { h with ts := { h.ts with pq := Store.put h.ts.pq t (h.pq t ++ [e]) }, sw := { h.sw with used := h.sw.used + e.total } }

/-- R240, R242, R244: a resolved message passes pacing: to its VOQ, to the pacing queue, or to wait for room in it with
the host port's credit withheld. -/
def paceAdmit (e : EMsg) (h : Hw) : Hw :=
  match e.msg.tid with
  | none => toVoq e h
  | some t =>
    if paced e.msg.cls && e.msg.ing == ttPort (h.ent t) then
      let waits := h.ts.waiting.any (fun x => x.msg.tid == some t)
      if (h.pq t).isEmpty && !waits && (paceRate h t == 0 || paceElig h t) then paceSend t e h
      else if !waits && decide (pqCells (h.pq t) + e.total ≤ h.fget F.TS_CTRL_PQMAX 0) && paceRoom h t e.total then paceJoin t e h
      else ({ h with ts := { h.ts with waiting := h.ts.waiting ++ [e] } }).emit (.creditHold e.msg.ing true true)
    else toVoq e h

/-- R244: the requests of tenant `t` that wait for room join its queue in order while there is room. -/
def paceRefill (t : Nat) (h : Hw) : Nat → Hw
  | 0 => h
  | n + 1 =>
    match h.ts.waiting.find? (fun x => x.msg.tid == some t) with
    | none => h
    | some e =>
      if paceRoom h t e.total then
        let h1 := paceJoin t e { h with ts := { h.ts with waiting := removeFirst (fun x => x.msg.tid == some t) h.ts.waiting } }
        let h2 := if h1.ts.waiting.any (fun x => x.msg.ing == e.msg.ing) then h1 else h1.emit (.creditHold e.msg.ing true false)
        paceRefill t h2 n
      else h

/-- R244: every tenant whose requests wait for room is tried again. -/
def paceRetry (h : Hw) : Hw :=
  (sortNats (h.ts.waiting.filterMap (fun e => e.msg.tid))).foldl (fun h t => paceRefill t h h.ts.waiting.length) h

/-- R243, R246: the tenant of host port `port` that the pacer serves: the lowest TID with a queued request that is
eligible or unpaced. -/
def paceNext (h : Hw) (port : Nat) : Option Nat :=
  ((h.ts.pq.filter (fun x => !x.2.isEmpty)).map Prod.fst).find? (fun t =>
    ttPort (h.ent t) == port && (paceRate h t == 0 || paceElig h t))

/-- PACING_RELEASE (R242, R243, R244). -/
def pacingRelease (port : Nat) (h : Hw) : Hw :=
  match paceNext h port with
  | none => h
  | some t =>
    match h.pq t with
    | [] => h
    | e :: rest =>
      let late := decide (paceRate h t ≠ 0 ∧ Store.getD 0 h.ts.e t / 10000 < h.ts.tick)
      let h1 := { h with ts := { h.ts with pq := Store.setD [] h.ts.pq t rest } }.freeN e.total
      let h2 := paceSend t e (if late then h1.fadd F.TS_PACELATE_VAL 0 1 else h1)
      paceRefill t h2 h2.ts.waiting.length

/-- PACING_RELEASE. -/
def execPacingRelease (port : Nat) (s : State) : Out := onHw (pacingRelease port) s

/-- R245: the level 1 slot of the tick cascades when the tick starts one. -/
def cascade (h : Hw) : Hw :=
  if h.ts.tick % 1024 = 0 then
    let slot := h.ts.tick / 1024 % 1024
    let l := Store.getD [] h.ts.lvl1 slot
    l.foldl (fun x t => wheelInsert t (Store.getD 0 x.ts.e t / 10000) x)
      { h with ts := { h.ts with lvl1 := Store.del h.ts.lvl1 slot } }
  else h

/-- R245: the level 0 slot of the tick makes its tenants eligible, ascending. -/
def level0 (h : Hw) : Hw :=
  let slot := h.ts.tick % 1024
  let l := Store.getD [] h.ts.lvl0 slot
  { h with ts := { h.ts with lvl0 := Store.del h.ts.lvl0 slot,
                             elig := l.foldl (fun m t => Store.put m t h.ts.tick) h.ts.elig } }

/-- R207: the spill token bucket gains PCT percent of the Dome peak for 10 ns, up to 64 lines. -/
def refillTokens (h : Hw) : Hw :=
  { h with sw := { h.sw with
      tokens := min (256 * 160000) (h.sw.tokens + h.dd.peak * h.fget F.SW_SPILLCFG_PCT 0) } }

/-- R246: a RATE written in the tick takes effect at its end: the wheel entry goes, E is computed again, and the tenant is placed. -/
def rateTake (h : Hw) (t : Nat) : Hw :=
  let h1 := wheelRemove t { h with ts := { h.ts with rateOld := Store.del h.ts.rateOld t } }
  let r := h1.fget F.TS_PACE_RATE t
  if r = 0 then h1
  else
    let e := Store.getD 0 h.ts.s t + Store.getD 0 h.ts.l t * 8000000 / r
    let h2 := { h1 with ts := { h1.ts with e := Store.setD 0 h1.ts.e t e } }
    if e < (h.ts.tick + 1) * 10000 then h2 else wheelInsert t (e / 10000) h2

/-- R486, R487: local time, stack time and the recovery clock advance by one tick of 10 ns, except in STANDBY. -/
def advanceTime (h : Hw) : Hw :=
  if h.fget F.CK_PWRSTAT_STATE 0 = 2 then h
  else { h with stime := (h.stime + 10) % 2 ^ 64, ck := { h.ck with ltime := h.ck.ltime + 10, recNs := h.ck.recNs + 10 } }

/-- What a CCLK cycle adds to HD_CREDHOLD (R111, R123, R293): once for M2S Req credit withheld for a retry queue, once for credit
withheld for a record of the Cupola, and once for migration locks that are held. -/
def withheld (h : Hw) : Nat :=
  b2n (h.hd.portQ.any (fun x => x.2.head? == some false)) + b2n (h.hd.portQ.any (fun x => x.2.head? == some true)) +
    b2n (!h.hd.locks.isEmpty)

/-- PACING_WHEEL_TICK (R241, R245, R486): the next 10 ns tick of local time, 16 CCLK cycles, in which the requests held at the
Cupola are offered again (R123). -/
def wheelTick (h : Hw) : Hw :=
  if h.fget F.CK_PWRSTAT_STATE 0 = 2 then h
  else
    let h1 := (refillTokens (advanceTime h)).fadd F.HD_CREDHOLD_VAL 0 (16 * withheld h)
    let h2 := cuOffer h1
    let h3 := (h2.ts.rateOld.map Prod.fst).foldl rateTake h2
    paceRetry (level0 (cascade { h3 with ts := { h3.ts with tick := h3.ts.tick + 1 } }))

/-- R246: a RATE write: the old rate stays in force to the end of the tick. -/
def rateWrite (t rate : Nat) (h : Hw) : Hw :=
  if fieldOk F.TS_PACE_RATE t (rate % 2 ^ 20) then
    let old := (Store.get? h.ts.rateOld t).getD (h.fget F.TS_PACE_RATE t)
    ({ h with ts := { h.ts with rateOld := Store.put h.ts.rateOld t old } }).fset F.TS_PACE_RATE t rate
  else h

/-- TS_PACE_RATE_WRITE (R246). -/
def execTsPaceRateWrite (tid rate : Nat) (s : State) : Out := onHw (rateWrite (tid % 8192) rate) s

/-- R47, R247: the pacer entry and shaper of a tenant cleared: E, S and L are 0 and the wheel entry is removed. -/
def paceClear (t : Nat) (h : Hw) : Hw :=
  wheelRemove t { h with ts := { h.ts with e := Store.del h.ts.e t, s := Store.del h.ts.s t, l := Store.del h.ts.l t,
                                           rateOld := Store.del h.ts.rateOld t } }

/-! ### Sampler -/

/-- R253: the histogram bin of a head delay. -/
def histBin (d : Nat) : Nat := if d = 0 then 0 else min 15 (Nat.log2 d + 1)

/-- R252, R253: one queue's capture applied. -/
def sampleQueue (h : Hw) (x : Nat × EQ) : Hw :=
  let q := x.2
  let depth := cellsOf q.head + cellsOf q.stage + (q.dome.map (fun e => e.total)).sum
  let h1 := h.fset F.TS_QMAX_VAL x.1 (max (h.fget F.TS_QMAX_VAL x.1) depth)
  match (q.head ++ q.dome ++ q.stage).head? with
  | none => h1
  | some e =>
    let d := ageOf h e
    (h1.fset F.TS_DMAX_VAL x.1 (max (h1.fget F.TS_DMAX_VAL x.1) d)).fadd F.TS_HIST_VAL (16 * x.1 + histBin d) 1

/-- SAMPLER_CAPTURE (R252 to R254). -/
def execSamplerCapture (s : State) : Out :=
  onHw (fun h =>
    if h.flag F.TS_CTRL_SAMPEN 0 && !h.flag F.TS_CTRL_FREEZE 0 then h.sw.eqs.foldl sampleQueue h else h) s

end Sys2Proof.Machine
end

