-- ==== Sys2Proof/Machine/Ingress.lean ====
section
/-! DEFINITION. The ingress pipeline of a message (R178 to R186, R199, R231, R431): refusal at ingress (R62, R394, R657), the
counting of a tenant's request (R67, R69), translation (R40 to R43), the guard (R343, R354, R358), and the entry into pacing
and the VOQ. -/
namespace Sys2Proof.Machine

/-- Whether a message is a CXL.mem request. -/
def isMem (c : MsgCls) : Bool := c == .memReqD || c == .memReqN || c == .memRwd

/-- Whether a message is one of CXL.mem or CXL.cache. -/
def isCxl (c : MsgCls) : Bool := isMem c || c == .cache || c == .s2m || c == .bisnp || c == .birsp

/-- R394: whether IDEREQ of port `n` lets a message pass: CXL.mem and CXL.cache once the CXL.cachemem stream is Secure; anything else but
configuration requests, messages and DOE traffic once the link stream is, or in CXL the CXL.cachemem stream. -/
def ideAdmits (h : Hw) (n : Nat) (m : Msg) : Bool :=
  if n < 72 && h.flag F.FP_PCFG_IDEREQ n then
    let ok := fun (k : Nat) => h.fp.ide.any (fun x => x.1 / 256 == n && x.2.secure && x.2.kind == k)
    if isCxl m.cls then ok 2 else m.cfg || ok 0 || h.flag F.FP_LSTAT_CXL n && ok 2
  else true

/-- R395: whether a message comes on a stream that an integrity failure has made Insecure. -/
def ideLost (h : Hw) (m : Msg) : Bool :=
  match m.ide with
  | some s => ((Store.get? h.fp.ide (m.ing * 256 + s)).map (fun x => x.failed)).getD false
  | none => false

/-- R395: whether a message's data waits for the check of its MAC epoch: a CXL.cachemem stream in containment mode forwards nothing of a
message before all of it has checked, which the command of its tail says. -/
def macWaits (h : Hw) (m : Msg) : Bool :=
  match m.ide with
  | some s => !m.tail && ((Store.get? h.fp.ide (m.ing * 256 + s)).map (fun x => x.kind == 2 && x.containment)).getD false
  | none => false

/-- R41, R62, R394, R657: a message refused at ingress ends with its refusal's outcome and is counted. -/
def refuse (m : Msg) (h : Hw) : Hw := (respond m.ing m (discardRsp m.cls) none h).fadd F.BD_STOPREJ_VAL 0 1

/-! ### Lookup -/

/-- The host port whose VCS a message belongs to (R181): the port of its tenant, else its ingress port. -/
def vcsOf (h : Hw) (m : Msg) : Nat :=
  match m.tid with
  | some t => ttPort (h.ent t)
  | none => m.ing

/-- The entry `k` of a table that Turret compiles from what the hosts configure (R181, R216). What it holds is outside the model: a free
value, below `n`, that the entry keeps from its first lookup. -/
def compiled (n k : Nat) (tab : SMap Nat) (h : Hw) : Nat × SMap Nat × Hw :=
  match Store.get? tab k with
  | some v => (v, tab, h)
  | none =>
    let f := h.takeFree
    (f.1 % n, Store.put tab k (f.1 % n), f.2)

/-- The bus map of a VCS (R181): the route index of a bus number, none where it has no entry. -/
def busRoute (vcs n : Nat) (h : Hw) : Option Nat × Hw :=
  let r := compiled 16385 (vcs * 256 + n) h.sw.idMap h
  (if r.1 = 16384 then none else some r.1, { r.2.2 with sw := { r.2.2.sw with idMap := r.2.1 } })

/-- Window `w` of a VCS's window table (R181), free as the tables of `compiled` are. -/
def winAt (vcs w : Nat) (h : Hw) : Win × Hw :=
  match Store.get? h.sw.wins (vcs * 64 + w) with
  | some x => (x, h)
  | none =>
    let v := h.takeFree
    let b := v.2.takeFree
    let l := b.2.takeFree
    let i := l.2.takeFree
    let x : Win := ⟨v.1 % 2 == 1, b.1 % 2 ^ 64, l.1 % 2 ^ 64, i.1 % 16384⟩
    (x, { i.2 with sw := { i.2.sw with wins := Store.put i.2.sw.wins (vcs * 64 + w) x } })

/-- The window table of a VCS (R181): the route index of the first window that holds an address. -/
def winRoute (vcs a : Nat) (h : Hw) : Option Nat × Hw :=
  (List.range 64).foldl (fun s w =>
    let x := winAt vcs w s.2
    (s.1.or (if x.1.valid && decide (x.1.base ≤ a ∧ a ≤ x.1.limit) then some x.1.ridx else none), x.2)) (none, h)

/-- The route index of a multicast group of a VCS (R181, R183). -/
def groupRoute (vcs g : Nat) (h : Hw) : Option Nat × Hw :=
  let r := compiled 16384 (vcs * 64 + g) h.sw.groupRt h
  (some r.1, { r.2.2 with sw := { r.2.2.sw with groupRt := r.2.1 } })

/-- The binding that a message takes its route from (R181): a request goes to the device, S2M and BISnp of an LD to the host port, and
CXL.cache from either to the other. -/
def bindKind (h : Hw) (m : Msg) : Nat :=
  match m.cls with
  | .s2m | .bisnp => 1
  | .cache => if m.ing = vcsOf h m then 2 else 3
  | _ => 0

/-- R181: the route index of a message, from its VCS's tables, its tenant's binding or its sending block. -/
def lookupIdx (m : Msg) (h : Hw) : Option Nat × Hw :=
  match m.dest with
  | .bus n => busRoute (vcsOf h m) n h
  | .addr a => winRoute (vcsOf h m) a h
  | .mcast g => groupRoute (vcsOf h m) g h
  | .bound => (m.tid.bind (fun t => Store.get? h.sw.binds (bindKind h m * 8192 + t)), h)
  | .named i => (i, h)

/-! ### Multicast groups -/

/-- R216: the legs of multicast group `key` (64 × host port + group) for message `m`, as (vPPB, egress port) in ascending order: the
vPPBs that the group names, but the one on which the message arrived, those whose MC_Block names the group, and those from which the ACS
rules of the arrival vPPB keep it. A vPPB bound to a pool LD instance or to nothing has no port behind it and is no leg. -/
def legsOf (m : Msg) (key : Nat) (h : Hw) : List (Nat × Nat) × Hw :=
  let p := key / 64
  let arr := m.tid.bind (fun t => if m.ing = ttPort (h.ent t) then none else some (ttVppb (h.ent t)))
  let grp := compiled (2 ^ 32) key h.sw.groups h
  let h1 := { grp.2.2 with sw := { grp.2.2.sw with groups := grp.2.1 } }
  let acs := match arr with
    | none => (0, h1.sw.acs, h1)
    | some v => compiled (2 ^ 32) (p * 32 + v) h1.sw.acs h1
  let h2 := { acs.2.2 with sw := { acs.2.2.sw with acs := acs.2.1 } }
  (List.range 32).foldl (fun s v =>
    if bitAt grp.1 v && arr != some v && !bitAt acs.1 v then
      let b := compiled (2 ^ 64) (p * 32 + v) s.2.sw.mcBlock s.2
      let h3 := { b.2.2 with sw := { b.2.2.sw with mcBlock := b.2.1 } }
      let ds := (h3.tidsWhere (fun e => ttState e != 0 && ttKind e != 0 && ttPort e == p && ttVppb e == v)).head?.map
        (fun t => ttDs (h3.ent t))
      match ds with
      | some d => if bitAt b.1 (key % 64) then (s.1, h3) else (s.1 ++ [(v, d)], h3)
      | none => (s.1, h3)
    else s) ([], h2)

/-! ### Resolution -/

/-- R184, R196: a message resolved by route index `i` for the legs `legs` (none: unicast) enters pacing; a multicast is requested to the
output of its lowest-numbered leg (R217). -/
def resolve (m : Msg) (i : Nat) (legs : List (Nat × Nat)) (h : Hw) : Hw :=
  let eg := queueSet h ((legs.head?.map Prod.snd).getD (egressOf h i))
  paceAdmit { msg := m, q := queueOf h m eg, eg := eg, ridx := i, epoch := rtEpoch (h.route i), itime := m.itime, got := 0,
              total := cellCount m.len, bad := m.bad, mc := none, gone := false, legs := legs } h

/-- A counted request that ends with no response leaves OUT (R69). -/
def endSilent (m : Msg) (h : Hw) : Hw :=
  match m.tid with
  | some t => (loseMsg m h).readGone t m.rid
  | none => h

/-- R181: the end of a message that matches no route, or whose entry is invalid. -/
def noRoute (m : Msg) (h : Hw) : Hw :=
  match m.cls with
  | .ioNp => endNp m.ing m .ur none (loseMsg m h)
  | .ioPost => (endSilent m h).emit (.aer m.ing m.rid)
  | _ => discardEnd m.ing m 181 h

/-- R394: a message whose egress port does not let it pass ends as one that its ingress port refuses. A write of a tenant among them is lost
(R67). -/
def refuseOut (m : Msg) (h : Hw) : Hw :=
  (if m.cls == .ioNp then endNp m.ing m .ur none (loseMsg m h) else respond m.ing m (discardRsp m.cls) none (loseMsg m h)).fadd
    F.BD_STOPREJ_VAL 0 1

/-- R181, R182, R216: a message goes by route index, or ends where the lookup finds none or an invalid entry. An entry with MC = 1 names a
multicast group, and only a posted CXL.io write is multicast; one that has no leg reaches nobody. IDEREQ of an egress port holds a message back (R394), a multicast from that leg. -/
def byIndex (m : Msg) (i : Option Nat) (h : Hw) : Hw :=
  match i with
  | none => noRoute m h
  | some i0 =>
    let i := i0 % 16384
    let r := h.route i
    if !bitAt r 0 then noRoute m h
    else if bitAt r 1 then
      (if m.cls == .ioPost then
        let l := legsOf m (rtTarget r) h
        let ls := l.1.filter (fun x => ideAdmits h x.2 m)
        if ls.isEmpty then endSilent m l.2 else resolve m i ls l.2
       else noRoute m h)
    else if ideAdmits h (queueSet h (egressOf h i)) m then resolve m i [] h
    else refuseOut m h

/-- R181: a message goes where its lookup leads. -/
def byRoute (m : Msg) (h : Hw) : Hw :=
  let r := lookupIdx m h
  byIndex m r.1 r.2

/-- R358, R359: the contiguous runs of a list of allowed parts, in order. -/
def runsOf (ps : List (Nat × Nat × Option Denial)) : List (Nat × Nat) :=
  ps.foldl (fun l p =>
    match l.getLast? with
    | some r => if r.1 + r.2 = p.1 then l.dropLast ++ [(r.1, r.2 + p.2.1)] else l ++ [(p.1, p.2.1)]
    | none => [(p.1, p.2.1)]) []

/-- R358: the runs of a request with denied parts that go on: the allowed bytes of a write, the allowed prefix of a read. -/
def goodRuns (q : MemReq) (ps : List (Nat × Nat × Option Denial)) : List (Nat × Nat) :=
  runsOf (if isWrite q.kind then ps.filter (fun p => p.2.2.isNone) else ps.takeWhile (fun p => p.2.2.isNone))

/-- R359: the message for one run of a request: the request trimmed to the run. A write's message is as much shorter as its payload. -/
def runMsg (m : Msg) (q : MemReq) (r : Nat × Nat) : Msg :=
  { m with req := some { q with addr := r.1, len := r.2 }, len := if isWrite q.kind then m.len - (q.len - r.2) else m.len }

/-- R358, R359: what goes on of a request in runs `rs`: to a pool home as it is, with the runs named (R356); downstream one message for
each run, of which the last completes a write. -/
def sendRuns (m : Msg) (q : MemReq) (rs : List (Nat × Nat)) (gpa : Option Nat) (h : Hw) : Hw :=
  let h1 := rs.foldl (fun h r => h.emit (.part q.rid r.1 r.2)) h
  match gpa with
  | some a => byIndex (if isWrite q.kind then m else runMsg m q ((rs.head?).getD (q.addr, q.len))) (some (poolRoute h a))
      (h1.emit (.routed q.rid a))
  | none =>
    let h2 := rs.dropLast.foldl (fun h r => byRoute { runMsg m q r with part := true } h) h1
    match rs.getLast? with
    | some r => byRoute (runMsg m q r) h2
    | none => h2

/-- R343, R351, R354, R358: the guard on a request of a tenant, then its route: to the home of a GPA (R186), or by lookup. A request
with denied parts ends where nothing of it is allowed; else what is allowed goes on, and a non-posted one ends with Completer Abort, a
write once every allowed part has completed, a read after the completions of its allowed prefix. -/
def guardRoute (m : Msg) (q : MemReq) (gpa : Option Nat) (h : Hw) : Hw :=
  let g := tenantGReq h q
  let ps := guardParts h g
  match firstDenial ps with
  | none =>
    match gpa with
    | some a => byIndex m (some (poolRoute h a)) (h.emit (.routed q.rid a))
    | none => byRoute m h
  | some d =>
    let h1 := denyEffect g d h
    let rs := goodRuns q ps
    if rs.isEmpty then respond m.ing m (denyRsp q) none (loseMsg m h1)
    else
      sendRuns m q rs gpa
        (if isWrite q.kind then
          (h1.loseWrite (some (q.tid, q.rid))).updRead q.tid q.rid (fun r =>
            { r with absorb := if gpa.isSome then 1 else rs.length })
         else h1.readRest q.tid q.rid .ca)

/-- R40, R57: the GPA of a request by its entry. A dirty line that a release's back-invalidation still awaits is written though
V is clear. -/
def gpaOf (h : Hw) (m : Msg) (q : MemReq) (x : Nat) : Option Nat :=
  match xlateEntry x q.addr (isWrite q.kind) with
  | some g => some g
  | none =>
    if q.kind == .memWr && h.bd.flush.contains (m.ing, q.tid, q.addr / 2 ^ 21, q.addr % 2 ^ 21 / 64) then
      some (etGext x * 2 ^ 21 + q.addr % 2 ^ 21)
    else none

/-- R41: a request of a tenant ends by a translation fault. -/
def xlateEnd (m : Msg) (q : MemReq) (h : Hw) : Hw := xlateReport q (respond m.ing m (faultRsp q) none (loseMsg m h))

/-- R40, R41: the request of a pool tenant with its entry looked up (none: the table reads as poison). -/
def afterLookup (m : Msg) (q : MemReq) (x : Option Nat) (h : Hw) : Hw :=
  match x.bind (gpaOf h m q) with
  | none => xlateEnd m q h
  | some gpa => guardRoute m q (some gpa) h

/-- R67, R69: a tenant's request is accepted: it counts in OUT and is recorded until it completes: a write until it is visible, any other
non-posted request until its completion leaves, and a non-posted write as both. -/
def accept (m : Msg) (t : Nat) (h : Hw) : Hw :=
  let h1 := h.fadd F.BD_TDRAIN_OUT t 1
  let np := m.cls == .ioNp
  let ws := if msgWrites m then [(⟨t, m.rid, false, false, discardRsp m.cls, m.tc, np⟩ : WRec)] else []
  let rs := if msgWrites m && !np then [] else [(⟨t, m.rid, discardRsp m.cls, m.tc, none, 0⟩ : RRec)]
  { h1 with bd := { h1.bd with writes := h1.bd.writes ++ ws, reads := h1.bd.reads ++ rs } }

/-- R40, R42: the translation of an accepted request of a pool tenant where it does not miss; none where it does. -/
def poolNow (m : Msg) (q : MemReq) (t : Nat) (h : Hw) : Option Hw :=
  let e := q.addr / 2 ^ 21
  if ttEtlen (h.ent t) ≤ e then some (xlateEnd m q h)
  else (h.cached t e).map (fun x => afterLookup m q (some x) h)

/-- R42: a miss is counted, and waits for the table. -/
def missWait (m : Msg) (h : Hw) : Hw :=
  { h with bd := { h.bd with miss := h.bd.miss ++ [m] } }.fadd F.BD_XCMISS_VAL 0 1

/-- R40, R42, R43, R194: an accepted request of a pool tenant is translated. Behind a request of its ingress port that waits for the
table it waits too, since both may go to one egress queue. -/
def poolReq (m : Msg) (q : MemReq) (t : Nat) (h : Hw) : Hw :=
  if h.bd.miss.any (fun x => x.ing == m.ing) then { h with bd := { h.bd with miss := h.bd.miss ++ [m] } }
  else (poolNow m q t h).getD (missWait m h)

/-- R194: the requests of ingress port `ing` that have waited behind a miss go on in order, up to the next miss; at most `n`. -/
def missRun (ing : Nat) (h : Hw) : Nat → Hw
  | 0 => h
  | n + 1 =>
    match h.bd.miss.find? (fun x => x.ing == ing) with
    | none => h
    | some x =>
      let h1 := { h with bd := { h.bd with miss := removeFirst (fun y => y.ing == ing) h.bd.miss } }
      match x.req, x.tid with
      | some q, some t =>
        match poolNow x q t h1 with
        | some h2 => missRun ing h2 n
        | none => h.fadd F.BD_XCMISS_VAL 0 1
      | _, _ => missRun ing (byRoute x h1) n

/-- R40, R42, R43: an accepted request of a tenant: translation (a miss waits for the table), the guard and the route. -/
def tenantReq (m : Msg) (t : Nat) (h0 : Hw) : Hw :=
  let h := accept m t h0
  match m.req with
  | none => byRoute m h
  | some q => if ttKind (h.ent t) = 0 then poolReq m q t h else guardRoute m q none h

/-- R62, R460: whether ingress refuses a tenant's requests. -/
def refused (h : Hw) (t : Nat) : Bool := ttState (h.ent t) != 2 || h.contained (didxOf domTenant t)

/-- R62, R88: whether a message is the dirty line with which a host answers a back-invalidation of the flush step: it is
taken in though the tenant is ABORTING. -/
def flushWrite (h : Hw) (m : Msg) (t : Nat) : Bool :=
  ttState (h.ent t) == 4 &&
    m.req.any (fun q => q.kind == .memWr && h.bd.flush.contains (m.ing, t, q.addr / 2 ^ 21, q.addr % 2 ^ 21 / 64))

/-- R194: a message other than a request goes where its lookup leads; a BIRsp behind a request of its port that waits for the table waits
too, since both may go to one egress queue. A completion of a partly denied write is Terroth's own (R358, R359). -/
def passOn (m : Msg) (h : Hw) : Hw :=
  if m.cls == .birsp && h.bd.miss.any (fun x => x.ing == m.ing) then { h with bd := { h.bd with miss := h.bd.miss ++ [m] } }
  else
    match m.tid with
    | some t => if m.cls == .ioCpl && h.absorbs t m.rid then h.partDone t m.rid else byRoute m h
    | none => byRoute m h

/-- R31: whether a completion answers a request that an abort has retired. -/
def isAbandoned (h : Hw) (m : Msg) : Bool :=
  (m.cls == .s2m || m.cls == .ioCpl) && m.tid.any (fun t => h.bd.abandoned.contains (t, m.rid))

/-- Stages 3 and 4 of R179 for a message that the link has accepted. -/
def takeIn (m : Msg) (h : Hw) : Hw :=
  if ideLost h m then h.emit (.rsp m.rid .dropped)
  else if macWaits h m then h
  else if !ideAdmits h m.ing m then refuse m h
  else if isAbandoned h m then
    (({ h with bd := { h.bd with abandoned := h.bd.abandoned.erase (m.tid.getD 0, m.rid) } }).fadd F.BD_LATE_VAL 0 1).emit
      (.lateCpl (m.tid.getD 0) m.rid)
  else if isRequest m.cls && decide (m.ing < 72) then
    match m.tid with
    | none => if isMem m.cls && h.role m.ing == 1 then refuse m h else byRoute m h
    | some t =>
      if ttState (h.ent t) = 0 then (if isMem m.cls then refuse m h else noRoute m h)
      else if m.ing ≠ ttPort (h.ent t) then byRoute m h
      else if refused h t && !flushWrite h m t then refuse m h
      else tenantReq m t h
  else passOn m h

/-- Whether message (`ing`, `rid`) is inside with its tail still to come. -/
def tailOpen (h : Hw) (ing rid : Nat) : Bool := (insideRids h ing (fun m => !m.tail)).contains rid

/-- R199, R402: a message rejected at link level: replayed by its ingress link, counted, and reported. -/
def linkReject (m : Msg) (h : Hw) : Hw :=
  ((h.emit (.linkRetry m.ing m.rid)).fadd F.FP_CRCERR_VAL m.ing 1).raise { code := 0x1601, dom := domPort, dinst := m.ing, unit := m.ing }

/-- MESSAGE_INGRESS (R179): a new message, the tail of one that is being forwarded, or a message found bad. -/
def ingress (m0 : Msg) (h : Hw) : Hw :=
  let m := { m0 with ing := queueSet h m0.ing, itime := h.itime, part := false }
  let open_ := tailOpen h m.ing m.rid
  if m.bad && decide (m.ing < 72) then linkReject m (if open_ then markBad m.ing m.rid h else h)
  else if open_ then (if m.bad then markBad m.ing m.rid h else if m.tail then tailArrives m.ing m.rid h else h)
  else takeIn m h

/-- MESSAGE_INGRESS. -/
def execMessageIngress (m : Msg) (s : State) : Out := onHw (ingress m) s

/-- The tenant that a host port's vPPB is bound to. -/
def Hw.tenantAt (h : Hw) (port vppb : Nat) : Option Nat :=
  (h.tidsWhere (fun e => ttState e != 0 && ttPort e == port && ttVppb e == vppb)).head?

/-- CXL_MEM_M2S_REQUEST (R40, R657): the request of a host port's vPPB, with the tenant bound there. -/
def execCxlMemM2sRequest (port vppb : Nat) (m : Msg) (s : State) : Out :=
  onHw (fun h =>
    let t := h.tenantAt port vppb
    let q := m.req.map (fun r => match t with
      | some t => { r with tid := t }
      | none => r)
    ingress { m with ing := port, tid := t, req := q } h) s

/-- TRANSLATION_CACHE_FILL (R42, R315): the table read of a miss returns; the entry is cached when V is 1, and the request that missed
goes on, with those that wait behind it (R194). DESIGN CHOICE (R43 does not say which cycle is the lookup of a miss): it is that of the
table's answer, so a request that missed before step 1 of a release and is filled after it faults. -/
def execTranslationCacheFill (tid eidx : Nat) (dec mirrorDec : LineErr) (s : State) : Out :=
  onMach (fun m =>
    match m.hw.bd.miss.find? (fun x => x.tid == some tid && x.req.isSome) with
    | none => m
    | some x =>
      match x.req, m.hw.bd.miss.find? (fun y => y.ing == x.ing) with
      | some q, some y =>
        if y == x && q.addr / 2 ^ 21 == eidx then
          let r := readEt tid eidx dec mirrorDec m
          r.2.onHw (fun h =>
            let h1 := match r.1 with
              | some v => if etV v then h.cache tid eidx v else h
              | none => h
            let h2 := { h1 with bd := { h1.bd with miss := removeFirst (fun z => z.ing == x.ing) h1.bd.miss } }
            missRun x.ing (afterLookup x q r.1 h2) h2.bd.miss.length)
        else m
      | _, _ => m) s

/-- BD_TDRAIN_ARM (R67, R68). -/
def execBdTdrainArm (tid : Nat) (s : State) : Out := onHw (fun h => h.armDrain tid) s

/-- WRITE_VISIBLE (R67 to R69). -/
def execWriteVisible (tid wid : Nat) (s : State) : Out := onHw (fun h => h.markVisible tid wid) s

end Sys2Proof.Machine
end

