-- ==== Sys2Proof/Machine/Rebuild.lean ====
section
/-! DEFINITION. The reclaim walk over dead agents (R155 to R158), and the failure, takeover and rebuild of a directory slice
(R162 to R169, R173, R174). -/
namespace Sys2Proof.Machine

/-- The dead agents that the running walk handles. -/
def walking (h : Hw) : List Nat := (h.hd.dead.filter (fun d => d.walking)).map (fun d => d.agent)

/-- A reclaim walk starts: it handles every dead agent not yet reclaimed (R157). -/
def walkStart (h : Hw) : Hw :=
  let ds := h.hd.dead.map (fun d => if d.done then d else { d with walking := true, pois := 0 })
  ((({ h with hd := { h.hd with dead := ds, walk := [] } }).fset F.HD_RCLSTAT_BUSY 0 1).fset F.HD_RCLSTAT_PEND 0 0).fset
    F.HD_RCLSTAT_SET 0 0

/-- RECLAIM_WALK_START (R157). -/
def execReclaimWalkStart (s : State) : Out :=
  onHw (fun h => if !h.flag F.HD_RCLSTAT_BUSY 0 && h.hd.dead.any (fun d => !d.done) then walkStart h else h) s

/-- HD_POISCNT and the walk's count of an agent raised (R158). DESIGN CHOICE: the lines that the walk poisons count, as the pseudocode of
R155 has it; those that R152 and R154 poison at the declaration do not. -/
def countPois (a : Nat) (h : Hw) : Hw :=
  let ds := h.hd.dead.map (fun d => if d.agent == a then { d with pois := d.pois + 1 } else d)
  ({ h with hd := { h.hd with dead := ds } }).fadd F.HD_POISCNT_VAL a 1

/-- The dead agents of a list that an entry names, as holder codes. -/
def deadCodes (dead : List Nat) (e : DirEnt) : List Nat :=
  (dead.map codeOf).filter (fun c => e.has c)

/-- R155: one unpinned entry that names a dead agent; none while it needs a transaction record and its slice has none free: the walk then
waits at it. -/
def reclaimEntry (la : Nat) (e : DirEnt) (cs : List Nat) (m : Mach) : Option Mach :=
  let h := m.hw
  let g := h.gextOf la
  let heldBy := if e.st == 2 then cs.head? else if e.st == 3 && cs.contains (72 + e.owner) then some (72 + e.owner) else none
  match heldBy with
  | some c =>
    (h.freeRec (sliceOf la)).map (fun k =>
      let m1 := (m.poisonLine (lineOff la)).onHw (fun h => countPois (h.agentOf c) h)
      let h1 := (m1.hw.openTag .hd k).setDir la { e with pin := true, txn := k % 64 }
      let cups := if e.st == 3 then (holdCups e.fmt e.hold).filter (fun s => !h.isDead (cupAgent s)) else []
      let ports := if e.st == 3 then (h.holdPorts e.fmt e.hold g).filter (fun p => !h.isDead (h.agentOf p)) else []
      let b := homeBis la 2 ports (sendSnoops k la 0 0 (cups.map (fun s => (s, 0x09))) h1)
      let t := { HTxn.start { agent := 1024, kind := .ncRead, la := la } .rcl e { e with st := 0, fmt := false, hold := 0 } with
        snps := cups, bis := b.1 }
      settle (sliceOf la) { m1 with hw := b.2.setTxn k t } settleFuel)
  | none =>
    let e1 := cs.foldl (fun e c =>
      if e.fmt && decide (c < 72) then
        if (h.portsMapping g).any (fun p => p / 4 == c / 4 && !h.isDead (h.agentOf p)) then e
        else if bitAt e.hold (vecBit c) then
          let v := e.hold - 2 ^ vecBit c
          { e with hold := v, fmt := decide (v ≠ 0) }
        else e
      else e.rem c) e
    let e2 := if e1.st == 3 then e1 else e1.settleS
    some (if e2.st = 0 then writeHint (lineOff la) false .good (m.onHw (fun h => h.freeDir la))
      else m.onHw (fun h => h.setDir la e2))

/-- R155: the ways of one set from way `w` on; the walk stops at a pinned entry, and at one that must wait for a record. Answers the way at
which it stopped, 16 at the set's end. -/
def walkWays (l set w : Nat) (m : Mach) : Nat → Nat × Mach
  | 0 => (16, m)
  | n + 1 =>
    match (m.hw.setEnts l set).find? (fun x => x.2.way == w) with
    | none => walkWays l set (w + 1) m n
    | some (la, e) =>
      if e.pin then (w, m)
      else
        let cs := deadCodes (walking m.hw) e
        if cs.isEmpty then walkWays l set (w + 1) m n
        else
          match reclaimEntry la e cs m with
          | none => (w, m)
          | some m1 =>
            match m1.hw.dirEnt la with
            | some e' => if e'.pin then (w, m1) else walkWays l set (w + 1) m1 n
            | none => walkWays l set (w + 1) m1 n

/-- RECLAIM_SET_STEP (R155, R156): the walk of logical slice `slice` reads the set at its position. -/
def execReclaimSetStep (slice : Nat) (s : State) : Out :=
  onHome (fun m =>
    let p := Store.getD 0 m.hw.hd.walk slice
    if m.hw.flag F.HD_RCLSTAT_BUSY 0 && decide (slice < 16 ∧ p < 16384 * 16) then
      let r := walkWays slice (p / 16) (p % 16) m (16 - p % 16)
      r.2.onHw (fun h =>
        let w := Store.put h.hd.walk slice (p / 16 * 16 + r.1)
        let low := (List.range 16).foldl (fun x l => min x (Store.getD 0 w l / 16)) 16383
        ({ h with hd := { h.hd with walk := w } }).fset F.HD_RCLSTAT_SET 0 low)
    else m) s

/-- RECLAIM_WALK_END (R157, R158): one RECLAIM message for each agent reclaimed; a queued walk starts. -/
def execReclaimWalkEnd (s : State) : Out :=
  onHw (fun h =>
    if h.flag F.HD_RCLSTAT_BUSY 0 &&
      (List.range 16).all (fun l => decide (16384 * 16 ≤ Store.getD 0 h.hd.walk l)) then
      let done := h.hd.dead.filter (fun d => d.walking)
      let h1 := done.foldl (fun h d =>
        let port := decide (d.agent % 128 < 72)
        h.raise { code := 0x3A02, dom := if port then domPort else domSpire,
                  dinst := if port then d.agent % 128 else 4 + d.agent / 128, addr := d.pois, unit := 0, atype := 4 }) h
      let ds := h1.hd.dead.map (fun d => if d.walking then { d with walking := false, done := true } else d)
      let gone := done.map (fun d => d.agent)
      let fl := h1.bd.flush.filter (fun (x : Nat × Nat × Nat × Nat) => !gone.contains (h1.agentOf x.1))
      let h2 := ({ h1 with hd := { h1.hd with dead := ds }, bd := { h1.bd with flush := fl } }).fset F.HD_RCLSTAT_BUSY 0 0
      if h2.flag F.HD_RCLSTAT_PEND 0 then walkStart h2 else h2
    else h) s

/-! ### Slice failure and rebuild -/

/-- R166: the dead agents whose reclaim walk has not finished on logical slice `l`. -/
def unreclaimed (l : Nat) (h : Hw) : List Nat :=
  (h.hd.dead.filter (fun d => !d.done && !(d.walking && decide (16384 * 16 ≤ Store.getD 0 h.hd.walk l)))).map (fun d => d.agent)

/-- R162, R166: logical slice `l` awaits its takeover by DS16. -/
def sliceLost (l : Nat) (h : Hw) : Hw := { h with hd := { h.hd with failing := [l], rbDead := unreclaimed l h } }

/-- R169: physical slice `p` fails and no slice is left for its logical slice. -/
def sliceFatal (p : Nat) (h : Hw) : Hw :=
  (h.fset F.HD_SLSTAT_ROLE p 3).raise
    { code := 0x4A05, dom := domDevice, dinst := 0, addr := h.fget F.HD_SLSTAT_LSLICE p, unit := p }

/-- R162, R169: physical slice `p` fails. A slice that awaits its takeover has failed already; where the spare fails meanwhile, nothing takes
it over. DESIGN CHOICE (R169 speaks of a DS16 that is REBUILDING or ACTIVE): another slice that fails while a takeover is pending is reported
as fatal at once. -/
def sliceFail (p : Nat) (h : Hw) : Hw :=
  let role := h.fget F.HD_SLSTAT_ROLE p
  if p = 16 ∧ role = 1 then
    let h1 := (h.fset F.HD_SLSTAT_ROLE 16 3).raise { code := 0x1A06, dom := domSlice, dinst := 16, unit := 16, held := 1 }
    h.hd.failing.foldl (fun h l => sliceFatal l h) { h1 with hd := { h1.hd with failing := [] } }
  else if 16 < p ∨ role = 3 ∨ h.hd.failing.contains p then h
  else if h.fget F.HD_SLSTAT_ROLE 16 = 1 ∧ h.hd.failing = [] then sliceLost p h
  else sliceFatal p h

/-- SLICE_FAILURE (R162, R169). -/
def execSliceFailure (slice : Nat) (s : State) : Out := onHw (sliceFail slice) s

/-- R173: a write of HD_RBCTRL: its RW fields, and GO from Turret while DS16 is SPARE. -/
def rbctrlWrite (p : Path) (w : Nat) (h : Hw) : Hw :=
  let h1 := writeReg R.HD_RBCTRL 0 w h
  if fldOf F.HD_RBCTRL_GO w = 1 ∧ p = .turret ∧ h1.fget F.HD_SLSTAT_ROLE 16 = 1 ∧ h1.hd.failing = [] then
    sliceLost (h1.fget F.HD_RBCTRL_LSLICE 0) h1
  else h1

/-- HD_RBCTRL_GO (R173). -/
def execHdRbctrlGo (p : Path) (data : Word) (s : State) : Out := onHw (rbctrlWrite p data.toNat) s

/-- R163, R164: the takeover of logical slice `l` by DS16. -/
def takeover (l : Nat) (m : Mach) : Mach :=
  let h := m.hw
  let q := h.retryQ l
  let spire := q.filter (fun x => fromSpire x.2.kind)
  let h1 := spire.foldl (fun h x => h.sendRetry x.2.agent x.2.tag x.2.la) h
  let h2 := h1.setRetry l (q.filter (fun x => !fromSpire x.2.kind))
  let h3 := (((h2.fset F.HD_SLSTAT_ROLE l 3).fset F.HD_SLSTAT_ROLE 16 2).fset F.HD_SLSTAT_LSLICE 16 l)
  let h4 := (((h3.fset F.HD_RBSTAT_BUSY 0 1).fset F.HD_RBSTAT_LSLICE 0 l).fset F.HD_RBSTAT_DOUBLE 0 0).fset F.HD_RBSTAT_EXT 0 0
  let h5 := { h4 with hd := { h4.hd with
    dir := Store.dropWhere h4.hd.dir (fun la => sliceOf la == l), failing := [], rbPos := 0 } }
  let h6 := h5.raise { code := 0x2A03, dom := domSlice, dinst := l, addr := l, unit := l, held := 1 }
  settle l { m with hw := h6 } settleFuel

/-- SLICE_TAKEOVER (R163, R164). -/
def execSliceTakeover (s : State) : Out :=
  onHome (fun m =>
    match m.hw.hd.failing with
    | l :: _ => takeover l m
    | [] => m) s

/-- The first line of logical slice `l` from `la` on. -/
def nextLine (l la : Nat) : Nat → Nat
  | 0 => la
  | n + 1 => if sliceOf la == l then la else nextLine l (la + 1) n

/-- The first bound local extent from `e` on; the end of Dome where none is left (R165, R167). -/
def nextBound (h : Hw) (e : Nat) : Nat :=
  ((h.bd.alloc.find? (fun x => decide (e ≤ x.1) && x.2.cnt != 0 && !h.extReserved x.1)).map Prod.fst).getD h.domeExt

/-- The rebuild of a line, if it needs one and no transaction is open on it (R165). -/
def rebuildOne (la : Nat) (m : Mach) : Mach :=
  let m1 := probeHint la m
  if needsRebuild m1 la && (m1.hw.txnOf la).isNone then
    match m1.hw.freeRec (sliceOf la) with
    | some k => settle (sliceOf la) (openRebuild k la m1) settleFuel
    | none => m1
  else m1

/-- The walk's position moved, with HD_RBSTAT.EXT. -/
def setRbPos (pos : Nat) (h : Hw) : Hw :=
  ({ h with hd := { h.hd with rbPos := pos } }).fset F.HD_RBSTAT_EXT 0 (pos / 2 ^ 15)

/-- One move of the rebuild walk: to the next bound extent, or through the next line of the hash set (R165, R167). -/
def rebuildWalk (m : Mach) : Mach :=
  let h := m.hw
  let l := h.fget F.HD_SLSTAT_LSLICE 16
  let e := h.hd.rbPos / 2 ^ 15
  if h.domeExt ≤ e then m
  else if (h.arec e).cnt = 0 ∨ h.extReserved e then m.onHw (setRbPos (nextBound h (e + 1) * 2 ^ 15))
  else
    let la := nextLine l h.hd.rbPos 64
    if la / 2 ^ 15 ≠ e then m.onHw (setRbPos ((e + 1) * 2 ^ 15))
    else if (h.txnOf la).isSome ∨ (needsRebuild m la ∧ (h.freeRec l).isNone) then m
    else (rebuildOne la m).onHw (setRbPos (la + 1))

/-- REBUILD_LINE (R165): the walk's next line, or line `la` on demand. -/
def execRebuildLine (la : Option Nat) (s : State) : Out :=
  onHome (fun m =>
    if m.hw.fget F.HD_SLSTAT_ROLE 16 = 2 then
      match la with
      | some a => rebuildOne a m
      | none => rebuildWalk m
    else m) s

/-- REBUILD_END (R168). -/
def execRebuildEnd (s : State) : Out :=
  onHw (fun h =>
    if h.fget F.HD_SLSTAT_ROLE 16 = 2 ∧ h.domeExt ≤ h.hd.rbPos / 2 ^ 15 ∧
      h.hd.txns.all (fun x => x.2.phase != .rbd) then
      ((h.fset F.HD_SLSTAT_ROLE 16 0).fset F.HD_RBSTAT_BUSY 0 0).raise
        { code := 0x0A04, dom := domSlice, dinst := 16, addr := h.fget F.HD_SLSTAT_LSLICE 16, unit := 16 }
    else h) s

end Sys2Proof.Machine
end

