-- ==== Sys2Proof/Machine/Scratchpad.lean ====
section
/-! DEFINITION. The scratchpad: sizes, region checks, ECC, the aliases, collisions of the two ports of a bank and the
arbitration of port B (R593 to R598), with the writes of ring slots that R264 reserves to the data mover. -/
namespace Sys2Proof.Machine

/-! ### Checks -/

/-- R594: whether a master owns a bank and so uses its port A. -/
def spOwns (master bank : Nat) : Bool := master == bank && decide (bank < 4)

/-- R595: the sizes a master may use, naturally aligned. -/
def spSizeOk (r : SpReq) : Bool :=
  (match r.master with
   | 0 => r.size == 1 || r.size == 2 || r.size == 4 || r.size == 8
   | 1 | 2 => r.size == 8
   | 3 => r.size == 4 || r.size == 8
   | _ => r.size == 4) && r.off % r.size == 0

/-- R596: whether a region of a master on a bank covers a granule with the needed permission. -/
def spAllowed (h : Hw) (bank master gran : Nat) (write : Bool) : Bool :=
  (List.range 8).any (fun r =>
    let i := 64 * bank + 8 * master + r
    decide (h.fget F.SP_RGN_BASE i ≤ gran ∧ gran ≤ h.fget F.SP_RGN_LIMIT i) &&
    (if write then h.flag F.SP_RGN_W i else h.flag F.SP_RGN_R i))

/-- R581, R594 to R596: the status that an access ends with before it reaches its word; 0 where it goes on. -/
def spCheck (h : Hw) (r : SpReq) : Nat :=
  let bank := r.off / 0x200000
  if 0x800000 ≤ r.off then 2
  else if spSizeOk r = false then 1
  else if spOwns r.master bank ∨ r.master = 0 then 0
  else if spAllowed h bank r.master (r.off % 0x200000 / 4096) (r.op != .read) then 0
  else 7

/-! ### The word -/

/-- R595: the byte enables of an access within its word: of the masters of 8 bytes their own, else those of its size. -/
def spEnables (r : SpReq) : Nat :=
  if r.master = 1 ∨ r.master = 2 then r.en % 256 else (2 ^ r.size - 1) * 2 ^ (r.off % 8) % 256

/-- The bits of the bytes that an 8-bit mask enables. -/
def byteMask (en : Nat) : Nat := ((List.range 8).map (fun i => if bitAt en i then 255 * 2 ^ (8 * i) else 0)).sum

/-- R597, R598: the word after a plain or alias write. -/
def spApply (r : SpReq) (w : Nat) : Nat :=
  let mask := byteMask (spEnables r)
  let d := Nat.land (r.data % 2 ^ (8 * r.size) * 2 ^ (8 * (r.off % 8)) % 2 ^ 64) mask
  match r.op with
  | .read => w
  | .write => (w - Nat.land w mask) + d
  | .set => Nat.lor w d
  | .clr => w - Nat.land w d

/-- The part of a word that an access of its size reads. -/
def spPick (r : SpReq) (w : Nat) : Nat := bits w (8 * (r.off % 8)) (8 * r.size)

/-- The ATYPE of an operation: 1 read, 2 write, 3 read-modify-write (R449). -/
def spAtype (r : SpReq) : Nat := if r.op = .read then 1 else 3

/-- R593, R597: an access that has passed its checks reaches its word; `ecc` is what its read finds where the word holds no error
that the model already knows of. Answers status and data. -/
def spWord (r : SpReq) (ecc : Ecc) (m : Mach) : (Nat × Nat) × Mach :=
  let k := r.off / 8
  let old := readLE 0 m.mem.sp (8 * k) 8
  let put := fun (bad v : Nat) (m : Mach) =>
    { m with mem := { m.mem with sp := writeLE 0 m.mem.sp (8 * k) v 8, spBad := Store.setD 0 m.mem.spBad k bad } }
  let known := Store.getD 0 m.mem.spBad k
  let done := if r.op = .read then spPick r old else 0
  if r.op = .write ∧ spEnables r = 255 then ((0, 0), put 0 (spApply r old) m)
  else if known = 2 ∨ ecc = .ue then
    ((8, 0), { m with mem := { m.mem with spBad := Store.setD 0 m.mem.spBad k 2 } }.onHw
      (fun h => h.fadd F.SP_UECNT_VAL 0 1))
  else
    let m1 := if known = 1 ∨ ecc = .ce then
        m.onHw (fun h => (h.fadd F.SP_CECNT_VAL 0 1).raise
          { code := 0x1301, dom := domDevice, dinst := 0, addr := 0x10000000 + 8 * k, atype := spAtype r, master := r.mid })
      else m
    ((0, done), put 0 (spApply r old) m1)

/-- R264: a write of a slot's context area or completion record in B1 by a master other than the data mover. -/
def spReserved (h : Hw) (r : SpReq) : Bool :=
  r.op != .read && r.master != 1 && r.off / 0x200000 == 1 && h.inDmArea 0 (r.off % 0x200000)

/-- The whole effect of one access alone in its cycle: its checks, then its word. Answers status and data. -/
def spOne (r : SpReq) (ecc : Ecc) (m : Mach) : (Nat × Nat) × Mach :=
  match spCheck m.hw r with
  | 0 =>
    if spReserved m.hw r then ((0, 0), m.onHw (fun h => h.fadd F.DM_CTXWR_VAL 0 1)) else spWord r ecc m
  | 7 => ((7, 0), m.onHw (fun h => h.fadd F.SP_DENY_VAL r.master 1))
  | st => ((st, 0), m)

/-- The answer to an access's master. -/
def spAnswer (r : SpReq) (x : (Nat × Nat) × Mach) : Mach := x.2.onHw (fun h => h.emit (.spDone r.master x.1.1 x.1.2))

/-! ### The two ports of a bank -/

/-- R598: port A and port B in one cycle. A read sees the word before the other port's operation; of two operations port B's goes
first. -/
def spPair (a b : SpReq) (ecc : Ecc) (m : Mach) : Mach :=
  let same := decide (a.off / 8 = b.off / 8) && spCheck m.hw a == 0 && spCheck m.hw b == 0
  if !same then spAnswer b (spOne b ecc (spAnswer a (spOne a .good m)))
  else if a.op = .read then spAnswer b (spOne b (if b.op = .read then ecc else .good) (spAnswer a (spOne a ecc m)))
  else
    let m1 := if b.op = .read then m else m.onHw (fun h => h.fadd F.SP_CONF_VAL b.master 1)
    spAnswer a (spOne a .good (spAnswer b (spOne b ecc m1)))

/-- R594: one cycle of a bank: its port A access, and of the masters that wait for port B the first at or after the rotating
pointer. -/
def spCycle (bank : Nat) (portA : Option SpReq) (ecc : Ecc) (m : Mach) : Mach :=
  let sp := m.hw.sp
  let waits := fun (i : Nat) (w : Nat × SpReq) => w.1 == bank && w.2.master == i
  let ptr := Store.getD 0 sp.ptr bank
  match (rotFind (fun i => sp.wait.any (waits i)) 6 ptr 6).bind (fun i => sp.wait.find? (waits i)) with
  | none =>
    match portA with
    | some a => spAnswer a (spOne a ecc m)
    | none => m
  | some (_, b) =>
    let sp' : SpState := { sp with wait := removeFirst (waits b.master) sp.wait,
                                   ptr := Store.setD 0 sp.ptr bank ((b.master + 1) % 6) }
    let m1 := m.onHw (fun h => { h with sp := sp' })
    match portA with
    | some a => spPair a b ecc m1
    | none => spAnswer b (spOne b ecc m1)

/-- R594: accesses arrive at port B of a bank; a master waits with one access at a time, and the owner never uses port B. -/
def spArrive (bank : Nat) (reqs : List SpReq) (m : Mach) : Mach :=
  m.onHw (fun h => reqs.foldl (fun h r =>
    if r.off / 0x200000 = bank ∧ bank < 4 ∧ r.master < 6 ∧ spOwns r.master bank = false ∧
        h.sp.wait.any (fun w => w.1 == bank && w.2.master == r.master) = false then
      { h with sp := { h.sp with wait := h.sp.wait ++ [(bank, r)] } }
    else h) h)

/-- Port A accesses of a command: of the bank's owner alone. -/
def spPortA (bank : Nat) (a : Option SpReq) : Option SpReq :=
  a.filter (fun r => r.off / 0x200000 == bank && spOwns r.master bank)

/-- SCRATCHPAD_PORT_B_ACCESS (R594 to R598). -/
def execScratchpadPortBAccess (bank : Nat) (reqs : List SpReq) (portA : Option SpReq) (ecc : Ecc) (s : State) : Out :=
  onMach (fun m => spCycle bank (spPortA bank portA) ecc (spArrive bank reqs m)) s

/-- SCRATCHPAD_WAIT_SERVE (R594): a later cycle serves a waiting access. -/
def execScratchpadWaitServe (bank : Nat) (portA : Option SpReq) (ecc : Ecc) (s : State) : Out :=
  onMach (spCycle bank (spPortA bank portA) ecc) s

/-- R597: an alias write, on port A for the bank's owner, else on port B. -/
def aliasWrite (r : SpReq) (ecc : Ecc) (m : Mach) : Mach :=
  let bank := r.off / 0x200000
  if 4 ≤ bank ∨ 6 ≤ r.master then spAnswer r (spOne r ecc m)
  else if spOwns r.master bank then spCycle bank (some r) ecc m
  else spCycle bank none ecc (spArrive bank [r] m)

/-- BIT_SET_ALIAS_WRITE (R597). -/
def execBitSetAliasWrite (r : SpReq) (ecc : Ecc) (s : State) : Out := onMach (aliasWrite { r with op := .set } ecc) s

/-- BIT_CLEAR_ALIAS_WRITE (R597). -/
def execBitClearAliasWrite (r : SpReq) (ecc : Ecc) (s : State) : Out := onMach (aliasWrite { r with op := .clr } ecc) s

/-- The scratchpad access of a management path or a window beat (R589, R594): served in its own cycle on the port of its master,
with what the stored word holds. -/
def spNow (r : SpReq) (m : Mach) : (Nat × Nat) × Mach :=
  let bank := r.off / 0x200000
  let m1 := if spOwns r.master bank ∨ 4 ≤ bank then m
    else m.onHw (fun h => { h with sp := { h.sp with ptr := Store.setD 0 h.sp.ptr bank ((r.master + 1) % 6) } })
  spOne r .good m1

end Sys2Proof.Machine
end

