-- ==== Sys2Proof/Machine/Mover.lean ====
section
/-! DEFINITION. The data mover: rings and doorbells (R261 to R267), descriptors and their checks (R269 to R272), dispatch and
pre-emption (R273 to R275), windows (R276 to R282), completion (R267, R283, R284), engine failure (R285, R286), Fence (R287,
R288), live migration (R289 to R300) and the zeroing of released extents (R57, R297). -/
namespace Sys2Proof.Machine

/-! ### Rings -/

/-- A job of a ring. -/
def Hw.job (h : Hw) (r : Nat) : Option DmJob := Store.get? h.dm.jobs r

/-- `h` with a ring's job replaced. -/
def Hw.setJob (h : Hw) (r : Nat) (j : DmJob) : Hw := { h with dm := { h.dm with jobs := Store.put h.dm.jobs r j } }

/-- `h` with a ring's job removed. -/
def Hw.delJob (h : Hw) (r : Nat) : Hw := { h with dm := { h.dm with jobs := Store.del h.dm.jobs r } }

/-- HEAD of a ring. -/
def Hw.dmHead (h : Hw) (r : Nat) : Nat := h.fget F.DM_RHEAD_VAL r

/-- The jobs a ring holds: (TAIL - HEAD) mod 65,536. -/
def Hw.dmCount (h : Hw) (r : Nat) : Nat := (h.fget F.DM_RTAIL_VAL r + 65536 - h.dmHead r) % 65536

/-- The address of the slot at HEAD: in B1's place of the scratchpad, or in Dome (R263, R303). -/
def Hw.slotAddr (h : Hw) (r : Nat) : Nat :=
  (if h.fget F.DM_RCFG_LOC r = 0 then 0x200000 else 0) + h.ringBase r +
    128 * (h.dmHead r % 2 ^ h.fget F.DM_RCFG_SIZE r)

/-- The writes of a line that its queue has accepted and that are still to be carried out: they are globally visible (R129). -/
def Hw.acceptedOn (h : Hw) (la : Nat) : List HReq :=
  ((h.hd.txns.map (fun x => x.2.req)) ++ h.hd.next ++ (h.retryQ (sliceOf la)).map Prod.snd).filter (fun r =>
    r.kind == .ncWrite && r.la == la)

/-- R127, R266: the `n` bytes at Dome offset `o`, all in one line, as the line's queue has them; zeros where the line is poisoned. -/
def domeView (o n : Nat) (m : Mach) : Nat :=
  bits ((m.hw.acceptedOn (o / 64)).foldl (fun v r => mergeBytes v r.data r.en 64) (if m.readable o then m.line o else 0))
    (o % 64 * 8) (8 * n)

/-- R593: the `n` bytes at a place of the scratchpad, whole words but for the last; an uncorrectable word reads as zero. -/
def spView (a n : Nat) (m : Mach) : Nat :=
  ((List.range ((n + 7) / 8)).map (fun i =>
    (if Store.getD 0 m.mem.spBad (a / 8 + i) = 2 then 0 else readLE 0 m.mem.sp (a + 8 * i) (min 8 (n - 8 * i))) * 2 ^ (64 * i))).sum

/-- The bytes of a ring's slot at HEAD, from offset `o`. DESIGN CHOICE (the spec says nothing of it): an unreadable descriptor reads as
zeros, which R271 ends with BADDESC. -/
def slotRead (r o n : Nat) (m : Mach) : Nat :=
  if m.hw.fget F.DM_RCFG_LOC r = 0 then spView (m.hw.slotAddr r + o) n m else domeView (m.hw.slotAddr r + o) n m

/-- The ring on which Turret's FILL jobs of R57 and R297 run; its slots lie outside the model. -/
def ownRing : Nat := 1024

/-- The number of a ring. -/
def ringNo (r : Nat) : Nat := if r = ownRing then Config.turretRing % 1024 else r

/-- The priority of a ring (R273); 7 for the FILL jobs (R57). -/
def Hw.ringPrio (h : Hw) (r : Nat) : Nat := if r = ownRing then 7 else h.fget F.DM_RCFG_PRIO r

/-- A status field of a ring set; the FILL jobs show in none. -/
def ringSet (f : Fld) (r v : Nat) (h : Hw) : Hw := if r = ownRing then h else h.fset f r v

/-- The data mover's access to word `i` from a place of the scratchpad (R593 to R595). -/
def slotAcc (r a i : Nat) (op : SpOp) (data en : Nat) : SpReq :=
  { master := 1, mid := 0x4000 + ringNo r, off := a + 8 * i, op := op, size := 8, en := en, data := data }

/-- R116, R127, R267, R593: the data mover writes bytes of a ring's slot at HEAD: words of B1, or part of a Dome line through its queue. -/
def slotWrite (r o v n : Nat) (m : Mach) : Mach :=
  let a := m.hw.slotAddr r + o
  if r = ownRing then m
  else if m.hw.fget F.DM_RCFG_LOC r = 0 then
    iterN (fun i m => (spWord (slotAcc r a i .write (bits v (64 * i) 64) (2 ^ min 8 (n - 8 * i) - 1)) .good m).2) 0 ((n + 7) / 8) m
  else
    arrive { agent := 1024, kind := .ncWrite, la := a / 64, unit := 3, data := v % 2 ^ (8 * n) * 2 ^ (a % 64 * 8),
             en := (2 ^ n - 1) * 2 ^ (a % 64), dmx := some (ringNo r, 0, 0) } m

/-- R266: the descriptor of the slot at HEAD is read: what the memory reports of the read. -/
def slotFetch (r : Nat) (m : Mach) : Mach :=
  let a := m.hw.slotAddr r
  if r = ownRing then m
  else if m.hw.fget F.DM_RCFG_LOC r = 0 then iterN (fun i m => (spWord (slotAcc r a i .read 0 255) .good m).2) 0 8 m
  else (readDome a (0x4000 + ringNo r) .good .good false m).2

/-- The next local extent that a FILL is to zero. -/
def Hw.zeroNext (h : Hw) : Option Nat := h.dm.zero.find? (fun e => !h.dm.zeroed.contains e)

/-- The descriptor at HEAD of a ring; that of Turret's own is a FILL of zeros over the next extent, addressed by GPA (R57 step 5). -/
def headDesc (r : Nat) (m : Mach) : Nat :=
  if r = ownRing then
    match m.hw.zeroNext with
    | some e => 1 + 2 ^ 10 + (m.hw.sid * 2 ^ 22 + e) * 2 ^ 21 * 2 ^ 128 + 0x200000 * 2 ^ 192
    | none => 0
  else slotRead r 0 64 m

/-! ### Descriptors (R269) -/

/-- OPC. -/
def dOpc (d : Nat) : Nat := bits d 0 4
/-- PAT. -/
def dPat (d : Nat) : Bool := bitAt d 4
/-- SASEL. -/
def dSasel (d : Nat) : Nat := bits d 8 2
/-- DASEL. -/
def dDasel (d : Nat) : Nat := bits d 10 2
/-- STID. -/
def dStid (d : Nat) : Nat := bits d 16 13
/-- DTID. -/
def dDtid (d : Nat) : Nat := bits d 32 13
/-- MIGOP. -/
def dMigop (d : Nat) : Nat := bits d 48 2
/-- SRC. -/
def dSrc (d : Nat) : Nat := bits d 64 64
/-- DST. -/
def dDst (d : Nat) : Nat := bits d 128 64
/-- LEN. -/
def dLen (d : Nat) : Nat := bits d 192 32
/-- PATTERN. -/
def dPattern (d : Nat) : Nat := bits d 256 64
/-- WRING. -/
def dWring (d : Nat) : Nat := bits d 320 10
/-- WV. -/
def dWv (d : Nat) : Bool := bitAt d 330
/-- WIDX. -/
def dWidx (d : Nat) : Nat := bits d 336 16
/-- USER. -/
def dUser (d : Nat) : Nat := bits d 384 64

/-- Whether a job reads a source. -/
def usesSrc (d : Nat) : Bool := dOpc d == 0 || dOpc d == 3

/-- Whether a job addresses a destination. -/
def usesDst (d : Nat) : Bool := dOpc d == 0 || dOpc d == 1 || (dOpc d == 3 && !dPat d)

/-- The address to which a job's windows are aligned (R276): the destination, or the source of a VERIFY. -/
def alignAddr (d : Nat) : Nat := if dOpc d = 3 then dSrc d else dDst d

/-- R271: BADDESC. -/
def badDesc (d : Nat) : Bool :=
  bits d 5 3 != 0 || bits d 12 4 != 0 || bits d 29 3 != 0 || bits d 45 3 != 0 || bits d 50 14 != 0 ||
  bits d 224 32 != 0 || bits d 331 5 != 0 || bits d 352 32 != 0 || bits d 448 64 != 0 ||
  decide (5 ≤ dOpc d) || decide (2 ≤ dSasel d) || decide (2 ≤ dDasel d) ||
  (dSasel d != 0 && dStid d != 0) || (dDasel d != 0 && dDtid d != 0) ||
  (dOpc d == 2 && decide (2 ≤ dMigop d)) ||
  decide (2 ^ 46 ≤ dSrc d) || decide (2 ^ 46 ≤ dDst d) ||
  (match dOpc d with
    | 2 => dLen d != 0x200000
    | 4 => dLen d != 0
    | _ => dLen d == 0)

/-- R271: DENIED on a tenant ring. -/
def deniedDesc (h : Hw) (r d : Nat) : Bool :=
  h.flag F.DM_RCFG_OWNER r &&
    (dSasel d == 1 || dDasel d == 1 || dOpc d == 2 ||
     (usesSrc d && dStid d != h.fget F.DM_RCFG_TID r) || (usesDst d && dDtid d != h.fget F.DM_RCFG_TID r))

/-- R271: OVERLAP. -/
def overlapDesc (d : Nat) : Bool :=
  dOpc d == 0 && dSasel d == dDasel d && dStid d == dDtid d &&
    decide (dSrc d < dDst d + dLen d ∧ dDst d < dSrc d + dLen d)

/-- R271: the status with which a descriptor ends at dispatch, if any. -/
def descStatus (h : Hw) (r d : Nat) : Option Nat :=
  if badDesc d then some 7 else if deniedDesc h r d then some 8 else if overlapDesc d then some 9 else none

/-! ### Ending a job -/

/-- The engine that runs a ring's job, freed. -/
def freeEngine (e : Option Nat) (h : Hw) : Hw :=
  match e with
  | none => h
  | some n => ((h.fset F.DM_ENGSTAT_BUSY n 0).fset F.DM_ENGSTAT_RING n 0).fset F.DM_ENGSTAT_PRIO n 0

/-- The accesses of a ring's job from byte offset `o` on, forgotten: their answers are late (R23). -/
def dropAccs (r o : Nat) (h : Hw) : Hw :=
  { h with dm := { h.dm with accs := h.dm.accs.filter (fun x => !(x.2.ring == r && decide (o ≤ x.2.off))) } }

/-- R267, R283: the completion record of the slot at HEAD is written with DONE, and HEAD advances. -/
def complete (r status doneB faddr fcode pois user : Nat) (m : Mach) : Mach :=
  let v := 1 + status * 2 ^ 8 + doneB * 2 ^ 32 + faddr % 2 ^ 64 * 2 ^ 64 + user * 2 ^ 128 + fcode * 2 ^ 192 +
    min pois 0xFFFF * 2 ^ 224
  (slotWrite r 0x60 v 32 m).onHw (fun h =>
    ((h.fset F.DM_RHEAD_VAL r (h.dmHead r + 1)).fset F.DM_RSTAT_BUSY r 0).fset F.DM_RSTAT_PREEMPTED r 0)

/-- The end of a FILL of Turret's ring over local extent `e`: zeroed, FAILED where its channel has failed (R335), or to be filled
again. -/
def zeroEnd (e status : Nat) (h : Hw) : Hw :=
  if status = 0 then { h with dm := { h.dm with zeroed := h.dm.zeroed ++ [e] } }
  else if h.extFailed e then
    let h1 := h.setArec e { h.arec e with failed := true }
    { h1 with dm := { h1.dm with zero := h1.dm.zero.erase e } }
  else { h with dm := { h.dm with zero := h.dm.zero.erase e ++ [e] } }

/-- The end of a ring's started job. -/
def endJob (r status faddr fcode : Nat) (m : Mach) : Mach :=
  match m.hw.job r with
  | none => m
  | some j =>
    let m1 := m.onHw (fun h => freeEngine j.eng (dropAccs r 0 (h.delJob r)))
    if r = ownRing then m1.onHw (zeroEnd (dDst j.desc / 2 ^ 21 % 2 ^ 22) status)
    else complete r status j.doneB (if status = 0 then 0 else faddr) fcode j.pois (dUser j.desc) m1

/-- The address of the first byte that a job has not done; of a MIGRATE, in its destination. -/
def DmJob.next (j : DmJob) : Nat := (if dOpc j.desc = 2 then bits (dDst j.desc) 0 25 * 2 ^ 21 else alignAddr j.desc) + j.doneB

/-- The byte address at which a MIGRATE's source starts. -/
def srcByte (d : Nat) : Nat := bits (dSrc d) 0 25 * 2 ^ 21

/-- The byte address at which a MIGRATE's destination starts. -/
def dstByte (d : Nat) : Nat := bits (dDst d) 0 25 * 2 ^ 21

/-! ### Migration records and entries -/

/-- Whether record `n` is held for a source extent and destination. -/
def Hw.migIs (h : Hw) (n src dst : Nat) : Bool :=
  h.flag F.DM_MIGSRC_V n && h.fget F.DM_MIGSRC_SRCEXT n == src % 2 ^ 22 && h.fget F.DM_MIGDST_DSTGEXT n == dst

/-- The record held for a source and destination. -/
def Hw.migFind (h : Hw) (src dst : Nat) : Option Nat := (List.range 8).find? (fun n => h.migIs n src dst)

/-- The lowest free record. -/
def Hw.migFree (h : Hw) : Option Nat := (List.range 8).find? (fun n => !h.flag F.DM_MIGSRC_V n)

/-- The source GEXT of record `n`. -/
def Hw.migSrc (h : Hw) (n : Nat) : Nat := h.sid * 2 ^ 22 + h.fget F.DM_MIGSRC_SRCEXT n

/-- Every extent table entry that maps GEXT `g`, with its cached copy, changed by `f` (R291, R294, R297). -/
def mapEntries (g : Nat) (f : Nat → Nat) (m : Mach) : Mach :=
  (m.hw.mapsOf g).foldl (fun m x =>
    let m1 := m.setEt x.1 x.2 (f (m.et x.1 x.2))
    m1.onHw (fun h => { h with bd := { h.bd with xc := Store.modify h.bd.xc (xcKey x.1 x.2) f } })) m

/-- An entry with MST, NGEXT and WMARK. -/
def etMig (mst ng wm x : Nat) : Nat := putBits (putBits (putBits x 2 2 mst) 64 25 ng) 96 16 wm

/-- The cached copies of the mapping entries take a new WMARK (R294). -/
def cacheMark (g wm : Nat) (h : Hw) : Hw :=
  (h.mapsOf g).foldl (fun h x =>
    { h with bd := { h.bd with xc := Store.modify h.bd.xc (xcKey x.1 x.2) (fun e => putBits e 96 16 wm) } }) h

/-- The migration locks of a source extent: transactions, by key. -/
def Hw.lockTxns (h : Hw) (src : Nat) : List (Nat × HTxn) :=
  h.hd.txns.filter (fun x => x.2.req.kind == .lock && x.2.phase == .snp && x.2.req.la / 2 ^ 15 == src % 2 ^ 22)

/-- The locks of a source extent that have not opened: held in an engine, or waiting for a victim's way. -/
def Hw.lockWaits (h : Hw) (src : Nat) : List HReq :=
  (h.hd.locks ++ h.hd.next ++ h.hd.txns.filterMap (fun x => x.2.next)).filter (fun r =>
    r.kind == .lock && r.la / 2 ^ 15 == src % 2 ^ 22)

/-- A lock closes with target state I (R292). -/
def closeLock (k : Nat) (t : HTxn) (m : Mach) : Mach := closeTxn k { t.tgt with st := 0, fmt := false, hold := 0, owner := 0 } m

/-- Every slice runs on. -/
def settleAll (m : Mach) : Mach := (List.range 16).foldl (fun m l => settle l m settleFuel) m

/-- R285, R298: the locks of a record's lines are released without advancing WMARK; data that a holder had returned stands at the
source (R296). -/
def releaseLocks (n : Nat) (m : Mach) : Mach :=
  let src := m.hw.fget F.DM_MIGSRC_SRCEXT n
  let free := fun (r : HReq) => r.kind == .lock && r.la / 2 ^ 15 == src
  let m1 := (m.hw.lockTxns src).foldl (fun m x => closeLock x.1 x.2 m) m
  settleAll (m1.onHw (fun h => { h with
    hd := { h.hd with
      locks := h.hd.locks.filter (fun r => !free r), next := h.hd.next.filter (fun r => !free r),
      txns := h.hd.txns.map (fun (x : Nat × HTxn) => if x.2.next.any free then (x.1, { x.2 with next := none }) else x) },
    dm := { h.dm with copied := Store.del h.dm.copied n,
                      accs := h.dm.accs.filter (fun x => !(x.2.use == .mig && x.2.ring == h.fget F.DM_MIGPOS_RING n)) } }))

/-! ### Pre-emption -/

/-- The phase to which a job that loses its engine returns: one that drains, abandons or awaits a peer goes on; any other starts again from
its last commit. -/
def DmPhase.parked (p : DmPhase) : DmPhase :=
  match p with
  | .draining => .draining
  | .abandon => .abandon
  | .claiming => .claiming
  | .mapping => .mapping
  | _ => .idle

/-- A job without its engine and without the window it had begun. -/
def DmJob.park (j : DmJob) : DmJob :=
  { j with eng := none, marked := none, winLen := 0, stop := none, phase := j.phase.parked }

/-- R275: a running job is pre-empted: its context is saved (its form is open: a free value), its engine freed. -/
def preempt (r : Nat) (m : Mach) : Mach :=
  match m.hw.job r with
  | none => m
  | some j =>
    let f := m.hw.takeFree
    let h1 := freeEngine j.eng (dropAccs r 0 (f.2.setJob r j.park))
    slotWrite r 0x40 (f.1 % 2 ^ 256) 32 { m with hw := (ringSet F.DM_RSTAT_PREEMPTED r 1 h1).fadd F.DM_PREEMPT_VAL 0 1 }

/-- R290: the dispatched STARTs that are to take a record. -/
def Hw.migReserved (h : Hw) : Nat :=
  (h.dm.jobs.filter (fun x => dOpc x.2.desc == 2 && dMigop x.2.desc == 0 && x.2.mig.isNone &&
    (x.2.phase == .claiming || (x.2.phase == .idle && x.2.eng.isSome)) &&
    (h.migFind (bits (dSrc x.2.desc) 0 22) (bits (dDst x.2.desc) 0 25)).isNone)).length

/-- Whether a descriptor is a MIGRATE that must wait for a record: none is free but those that dispatched jobs are to take (R290). -/
def migWaits (h : Hw) (d : Nat) : Bool :=
  dOpc d == 2 && !badDesc d && (h.migFind (bits (dSrc d) 0 22) (bits (dDst d) 0 25)).isNone &&
    decide ((List.range 8).countP (fun n => !h.flag F.DM_MIGSRC_V n) ≤ h.migReserved)

/-- Whether a ring holds a job: Turret's own, an extent to zero. -/
def Hw.ringHolds (h : Hw) (r : Nat) : Bool :=
  if r = ownRing then h.zeroNext.isSome else h.flag F.DM_RCFG_EN r && h.dmCount r != 0

/-- R261, R273, R275, R290, R297: whether a ring is pending: its job has not started, or has been pre-empted, a MIGRATE holds a record or
finds one free, and no job of its number runs (that of Turret's FILLs). -/
def pendingRing (m : Mach) (r : Nat) : Bool :=
  let h := m.hw
  h.ringHolds r && !h.dm.jobs.any (fun x => x.1 != r && ringNo x.1 == ringNo r) &&
    (match h.job r with
      | some j => j.eng.isNone &&
        (match j.phase with
          | .idle => j.mig.isSome || !migWaits h j.desc
          | .draining | .abandon | .claiming | .mapping => true
          | _ => false)
      | none =>
        let d := headDesc r m
        dOpc d != 4 && !migWaits h d)

/-- The enabled rings, and Turret's own. -/
def activeRings (h : Hw) : List Nat := (h.instsOf F.DM_RCFG_EN).filter (fun r => h.flag F.DM_RCFG_EN r) ++ [ownRing]

/-- The lowest-numbered engine that is free (R273, R285, R302, R460). -/
def idleEng (h : Hw) : Option Nat :=
  (List.range 8).find? (fun n => bitAt (h.fget F.DM_CTRL_ENGEN 0) n && !h.flag F.DM_ENGSTAT_FAILED n &&
    !h.flag F.DM_ENGSTAT_BUSY n && !h.contained (didxOf domEngine n))

/-- The engine that the dispatcher uses next: none while DM_CTRL.HALT is 1 (R302). -/
def freeEng (h : Hw) : Option Nat := if h.flag F.DM_CTRL_HALT 0 then none else idleEng h

/-- The running job that a ring of priority `p` would mark: the lowest priority, then the highest engine (R274). -/
def victimJob (h : Hw) (p : Nat) : Option Nat :=
  let c := h.dm.jobs.filter (fun x => x.2.eng.isSome && x.2.marked.isNone && decide (p < h.ringPrio x.1))
  let worst := c.foldl (fun w x =>
    let k := h.ringPrio x.1 * 16 + x.2.eng.getD 0
    if w.1 ≤ k then (k, some x.1) else w) ((0, none) : Nat × Option Nat)
  worst.2

/-- R297: a job in DRAIN counts as pre-empted, and its engine is released, while a ring of higher priority is pending. -/
def freeDrains (m : Mach) : Mach :=
  (m.hw.dm.jobs.filter (fun x => x.2.phase == .draining && x.2.eng.isSome)).foldl (fun m x =>
    if (activeRings m.hw).any (fun r => pendingRing m r && decide (m.hw.ringPrio r < m.hw.ringPrio x.1)) then preempt x.1 m else m) m

/-- R274, R297: each pending ring marks at most one running job of lower priority while no engine is free; a job in DRAIN
is pre-empted at once. -/
def markPreempt (m0 : Mach) : Mach :=
  let m := freeDrains m0
  (((activeRings m.hw).filter (pendingRing m)).filter (fun r =>
    !m.hw.dm.jobs.any (fun x => x.2.marked == some r))).foldl (fun m r =>
      if (idleEng m.hw).isSome then m
      else
        match victimJob m.hw (m.hw.ringPrio r) with
        | none => m
        | some v =>
          match m.hw.job v with
          | none => m
          | some j => m.onHw (fun h => h.setJob v { j with marked := some r })) m

/-! ### Doorbell and dispatch -/

/-- R290: whether the MIGRATE at HEAD of a ring waits for a record. -/
def migwaitOf (m : Mach) (r : Nat) : Bool :=
  m.hw.ringHolds r &&
    (match m.hw.job r with
      | some j => j.eng.isNone && j.phase == .idle && j.mig.isNone && migWaits m.hw j.desc
      | none => migWaits m.hw (headDesc r m))

/-- R290, R303: MIGWAIT of every ring that may show it. -/
def setMigwait (m : Mach) : Mach :=
  (m.hw.instsOf F.DM_RCFG_EN ++ m.hw.instsOf F.DM_RSTAT_MIGWAIT).foldl (fun m r =>
    m.onHw (fun h => h.fset F.DM_RSTAT_MIGWAIT r (b2n (migwaitOf m r)))) m

/-- R265: a write of DM_RTAIL. -/
def doorbell (p : Path) (r w : Nat) (m : Mach) : Mach :=
  let h := m.hw
  let t := w % 65536
  let n := (t + 65536 - h.dmHead r) % 65536
  if n ≤ 2 ^ h.fget F.DM_RCFG_SIZE r ∧ h.dmCount r ≤ n then
    setMigwait (markPreempt (m.onHw (fun h => h.fset F.DM_RTAIL_VAL r t)))
  else m.onHw (fun h => ((h.fset F.DM_RSTAT_DBERR r 1).fadd F.DM_DBERR_VAL 0 1).raise
    { code := 0x0C01, dom := domDevice, dinst := 0, addr := r, unit := 0, atype := 5, master := pathMaster p })

/-- DM_RTAIL_DOORBELL (R265, R274). -/
def execDmRtailDoorbell (p : Path) (ring : Nat) (data : Word) (s : State) : Out := onMach (doorbell p ring data.toNat) s

/-- A fresh job. -/
def DmJob.fresh (d : Nat) (e : Option Nat) (p : DmPhase) : DmJob := ⟨d, 0, e, none, p, 0, none, 0, false, none, [], 0⟩

/-- A job takes engine `e`. -/
def takeEngine (r e : Nat) (h : Hw) : Hw :=
  ringSet F.DM_RSTAT_PREEMPTED r 0 (ringSet F.DM_RSTAT_BUSY r 1
    (((h.fset F.DM_ENGSTAT_BUSY e 1).fset F.DM_ENGSTAT_RING e (ringNo r)).fset F.DM_ENGSTAT_PRIO e (h.ringPrio r)))

/-- R268, R271: the job at HEAD of a ring starts on an engine, or ends at once; a pre-empted one resumes. -/
def startJob (r e : Nat) (m : Mach) : Mach :=
  match m.hw.job r with
  | some j => m.onHw (fun h => takeEngine r e (h.setJob r { j with eng := some e }))
  | none =>
    let d := headDesc r m
    let m1 := slotWrite r 0x60 (slotRead r 0x60 1 m / 2 * 2) 1 (slotFetch r m)
    match (if r = ownRing then none else descStatus m.hw r d) with
    | some st => complete r st 0 (DmJob.fresh d none .idle).next 0 0 (dUser d) m1
    | none => m1.onHw (fun h => takeEngine r e (h.setJob r (DmJob.fresh d (some e) .idle)))

/-- R273: one dispatch. -/
def dispatch (m0 : Mach) : Mach :=
  let m := setMigwait m0
  match freeEng m.hw with
  | none => markPreempt m
  | some e =>
    let pend := (activeRings m.hw).filter (pendingRing m)
    if pend.isEmpty then m
    else
      let best := pend.foldl (fun p r => min p (m.hw.ringPrio r)) 7
      let cand := pend.filter (fun r => m.hw.ringPrio r == best)
      match (rotFind (fun n => cand.any (fun r => ringNo r == n)) 1024 (Store.getD 0 m.hw.dm.dptr best) 1024).bind
          (fun n => cand.find? (fun r => ringNo r == n)) with
      | none => m
      | some r =>
        let m1 := m.onHw (fun h =>
          { h with dm := { h.dm with dptr := Store.setD 0 h.dm.dptr best ((ringNo r + 1) % 1024) } })
        setMigwait (markPreempt (startJob r e m1))

/-- DM_DISPATCH (R273, R274, R268, R271). -/
def execDmDispatch (s : State) : Out := onMach dispatch s

/-- The ring whose job runs on engine `e`. -/
def Hw.ringOn (h : Hw) (e : Nat) : Option (Nat × DmJob) := h.dm.jobs.find? (fun x => x.2.eng == some e)

/-! ### The accesses of a window -/

/-- What step 1 of a window finds for one address: the GPA, or the stop (status, FCODE). -/
inductive DmAddr where
  | gpa (g : Nat)
  | stop (status fcode : Nat)

/-- R272, R280: the address of `n` bytes on one side of a job, translated and guard-checked. -/
def dmAddr (r sel tid a n : Nat) (write : Bool) (m : Mach) : DmAddr × Mach :=
  let master := 0x4000 + ringNo r
  let needs := if write then [Perm.w] else [Perm.r]
  let at_ := if write then 2 else 1
  if sel = 0 then
    let bad := fun (m : Mach) => (DmAddr.stop 2 0x2801, m.onHw (fun h => h.raise
      { code := 0x2801, dom := domTenant, dinst := tid, addr := a, atype := at_, master := master }))
    if ttEtlen (m.hw.ent tid) ≤ a / 2 ^ 21 then bad m
    else
      let l := lookupNow tid (a / 2 ^ 21) m
      match l.1.bind (fun x => xlateEntry x a write) with
      | none => bad l.2
      | some g =>
        match guardAccess { tid := some tid, addr := a, len := n, priv := l.2.hw.flag F.DM_RCFG_PRIV r, needs := needs,
                            master := master } l.2.hw with
        | (some _, h1) => (.stop 3 0x2901, { l.2 with hw := h1 })
        | (none, h1) => (.gpa g, { l.2 with hw := h1 })
  else
    match guardAccess { tid := none, addr := a, len := n, priv := true, needs := needs, master := master } m.hw with
    | (some _, h1) => (.stop 3 0x2902, { m with hw := h1 })
    | (none, h1) => (.gpa a, { m with hw := h1 })

/-- R280: whether a destination's home is dead or its channel FAILED. -/
def dstLost (g : Nat) (h : Hw) : Bool :=
  if g / 2 ^ 43 = h.sid then h.chFailed (domeMap h (g % 2 ^ 43)).prim else h.isDead (cupAgent (g / 2 ^ 43))

/-- The message by which a ring reaches the Cupola: its traffic takes the ring's queue (R231, R303). -/
def dmMsg (r : Nat) : Msg := { ing := 92, cls := .internal, q := some (if r = ownRing then Config.turretRing % 1024 else r) }

/-- Whether an access writes. -/
def DmUse.writes (u : DmUse) : Bool :=
  match u with
  | .write | .mig => true
  | _ => false

/-- An access of the data mover leaves (R262, R277, R80): to the line's queue at the local home, where a destination line needs no
ownership ahead of its write; for a remote line to the Cupola. A line that the Cupola does not have at once has its home sent a message
(R288). -/
def issue (tag : Nat) (m : Mach) : Mach :=
  match Store.get? m.hw.dm.accs tag with
  | none => m
  | some a =>
    let home := a.gpa / 2 ^ 43
    let d := ((m.hw.job a.ring).map DmJob.desc).getD 0
    let from_ := (ringNo a.ring, if a.use == .src then dStid d else dDtid d, (if a.use == .src then dSrc d else dDst d) + a.off)
    if home = m.hw.sid then
      if a.use == .own then m.onHw (fun h => h.dmVisible tag)
      else arrive { agent := 1024, kind := if a.use.writes then .ncWrite else .ncRead, la := a.gpa % 2 ^ 43 / 64, tag := tag,
                    unit := 1, xl := a.xl, data := a.data, en := a.en, poison := a.poison, dmx := some from_ } m
    else
      (cuIn { msg := dmMsg a.ring, own := a.use == .own, caching := false, wantData := false, write := a.use.writes,
              gla := a.gpa / 64, data := a.data, en := a.en, mv := 2, poison := a.poison, unit := 1, tag := tag } m).onHw (fun h1 =>
        if (Store.get? h1.dm.accs tag).any (fun x => x.st == .out) then
          { h1 with dm := { h1.dm with sent := Store.put h1.dm.sent a.ring (Store.getD 0 h1.dm.sent a.ring ||| 2 ^ home) } }
        else h1)

/-- An access listed under the next tag. -/
def addAcc (a : DmAcc) (h : Hw) : Hw :=
  { h with dm := { h.dm with accs := Store.put h.dm.accs h.dm.seq a, seq := h.dm.seq + 1 } }

/-- The accesses of a ring. -/
def Hw.ringAccs (h : Hw) (r : Nat) : List (Nat × DmAcc) := h.dm.accs.filter (fun x => x.2.ring == r)

/-- The first address of the side of a job that an access is on. -/
def sideBase (d : Nat) (u : DmUse) : Nat := if u == .src then dSrc d else dDst d

/-- The address space of that side. -/
def sideSel (d : Nat) (u : DmUse) : Nat := if u == .src then dSasel d else dDasel d

/-- The tenant of that side. -/
def sideTid (d : Nat) (u : DmUse) : Nat := if u == .src then dStid d else dDtid d

/-- `len` bytes from address `a`, of at most 64, cut at a line boundary: offsets and lengths. -/
def subLines (a len : Nat) : List (Nat × Nat) :=
  let n := min len (64 - a % 64)
  if n < len then [(0, n), (n, len - n)] else [(0, len)]

/-- The bytes of a job, from `o` up to `e`, that lie in one line of the side to which its windows are aligned. -/
def pieceLen (d o e : Nat) : Nat := min (e - o) (64 - (alignAddr d + o) % 64)

/-- What step 1 has found so far: the machine, and the first failure as (byte offset, status, FADDR, FCODE). -/
structure WinScan where
  m : Mach
  stop : Option (Nat × Nat × Nat × Nat)

/-- Step 1 of R276 for one side of one piece of a job: its accesses are listed, or the failure is. FADDR is the address, on the failing
side, of the piece's first byte. -/
def checkSide (r d : Nat) (u : DmUse) (o len : Nat) (w : WinScan) : WinScan :=
  let a := sideBase d u + o
  (subLines a len).foldl (fun w s =>
    if w.stop.isSome then w
    else
      let x := dmAddr r (sideSel d u) (sideTid d u) (a + s.1) s.2 (u == .own) w.m
      match x.1 with
      | .stop st fc => ⟨x.2, some (o, st, a, fc)⟩
      | .gpa g =>
        if u != .src && dstLost g x.2.hw then ⟨x.2, some (o, 5, a, 0)⟩
        else ⟨x.2.onHw (addAcc ⟨r, u, o + s.1, s.2, g, .out, 0, 0, false, sideSel d u == 0⟩), none⟩) w

/-- Step 1 of R276 for the bytes of a job from `o` to `e`, line by line of the side to which the windows are aligned. -/
def scanWindow (r d o e : Nat) (w : WinScan) : Nat → WinScan
  | 0 => w
  | n + 1 =>
    if e ≤ o then w
    else
      let len := pieceLen d o e
      let w1 := if usesSrc d then checkSide r d .src o len w else w
      let w2 := if usesDst d then checkSide r d (if dOpc d = 3 then .cmp else .own) o len w1 else w1
      if w2.stop.isSome then { w2 with m := w2.m.onHw (dropAccs r o) } else scanWindow r d (o + len) e w2 n

/-- R276: a job's next window begins: step 1, then the reads and ownership requests of step 2 leave. -/
def beginWindow (opc e : Nat) (m : Mach) : Mach :=
  match m.hw.ringOn e with
  | none => m
  | some (r, j) =>
    if dOpc j.desc = opc ∧ j.phase = .idle then
      let stop := min (dLen j.desc) (j.doneB + (4096 - j.next % 4096))
      let w := scanWindow r j.desc j.doneB stop ⟨m, none⟩ 65
      let j1 := match w.stop with
        | none => { j with phase := .reading, winLen := stop - j.doneB }
        | some (o, st, fa, fc) => { j with phase := .reading, winLen := o - j.doneB, stop := some (st, fa, fc) }
      let m1 := w.m.onHw (fun h => h.setJob r j1)
      (m1.hw.ringAccs r).foldl (fun m x => issue x.1 m) m1
    else m

/-- COPY (R270, R276): a window of a COPY job begins. -/
def execCopy (eng : Nat) (s : State) : Out := onHome (beginWindow 0 eng) s
/-- FILL (R270, R276): a window of a FILL job begins. -/
def execFill (eng : Nat) (s : State) : Out := onHome (beginWindow 1 eng) s
/-- VERIFY (R270, R276, R282): a window of a VERIFY job begins. -/
def execVerify (eng : Nat) (s : State) : Out := onHome (beginWindow 3 eng) s

/-- R295: an access that its home has sent back returns to step 1: it leaves again for where its address translates to now, or its job
stops at its line. -/
def redoAcc (r : Nat) (m : Mach) (x : Nat × DmAcc) : Mach :=
  match m.hw.job r with
  | none => m
  | some j =>
    if x.2.st != .redo then m
    else
      let d := j.desc
      let a := dmAddr r (sideSel d x.2.use) (sideTid d x.2.use) (sideBase d x.2.use + x.2.off) x.2.len
        (x.2.use == .own || x.2.use == .write) m
      match a.1 with
      | .gpa g =>
        issue x.1 (a.2.onHw (fun h =>
          { h with dm := { h.dm with accs := Store.put h.dm.accs x.1 { x.2 with gpa := g, st := .out } } }))
      | .stop st fc =>
        let o := max j.doneB (x.2.off - (alignAddr d + x.2.off) % 64)
        a.2.onHw (fun h => (dropAccs r o h).setJob r
          { j with winLen := o - j.doneB, stop := some (st, sideBase d x.2.use + o, fc) })

/-- The accesses that a home has sent back leave again. -/
def redoAll (r : Nat) (m : Mach) : Mach := (m.hw.ringAccs r).foldl (redoAcc r) m

/-- Whether an access of a ring's window still awaits its answer. -/
def accsOut (r : Nat) (h : Hw) : Bool := (h.ringAccs r).any (fun x => x.2.st != .done)

/-- `n` bytes of PATTERN from address `a` (R269). -/
def patBytes (p a : Nat) : Nat → Nat
  | 0 => 0
  | n + 1 => bits p (8 * (a % 8)) 8 + 256 * patBytes p (a + 1) n

/-- The first of `n` bytes at which two values differ. -/
def firstDiff (x y i : Nat) : Nat → Option Nat
  | 0 => none
  | n + 1 => if x % 256 ≠ y % 256 then some i else firstDiff (x / 256) (y / 256) (i + 1) n

/-- R280: whether the destination of an access of a ring's job, from byte `o` on, is lost. -/
def sideLost (r : Nat) (u : DmUse) (o len : Nat) (h : Hw) : Bool :=
  (h.ringAccs r).any (fun x => x.2.use == u && decide (o ≤ x.2.off ∧ x.2.off < o + len) && dstLost x.2.gpa h)

/-- The bytes that the reads of one side returned for the `len` bytes of a job from `o`; none where one is poisoned. -/
def gather (r : Nat) (u : DmUse) (o len : Nat) (h : Hw) : Option Nat :=
  let l := (h.ringAccs r).filter (fun x => x.2.use == u && decide (o ≤ x.2.off ∧ x.2.off < o + len))
  if l.any (fun x => x.2.poison) then none
  else some ((l.map (fun x => bits x.2.data (8 * (x.2.gpa % 64)) (8 * x.2.len) * 2 ^ (8 * (x.2.off - o)))).sum)

/-- Steps 2 and 3 of R276 (R278, R280, R282) on the answers of a window's accesses from `o` to `e`: the writes before the first failure,
and the failure as (byte offset, status, FADDR, FCODE). -/
def evalWindow (h : Hw) (r d o e : Nat) : Nat → List DmAcc × Option (Nat × Nat × Nat × Nat)
  | 0 => ([], none)
  | n + 1 =>
    if e ≤ o then ([], none)
    else
      let len := pieceLen d o e
      match (if usesSrc d then gather r .src o len h else some (patBytes (dPattern d) (dDst d + o) len)) with
      | none => ([], some (o, 4, dSrc d + o, 0))
      | some v =>
        if dOpc d = 3 then
          match (if dPat d then some (patBytes (dPattern d) (dSrc d + o) len) else gather r .cmp o len h) with
          | none => ([], some (o, if sideLost r .cmp o len h then 5 else 4, dDst d + o, 0))
          | some y =>
            match firstDiff v y 0 len with
            | some i => ([], some (o + i, 1, dSrc d + o + i, 0))
            | none => evalWindow h r d (o + len) e n
        else
          match (h.ringAccs r).find? (fun x => x.2.use == .own && x.2.off == o) with
          | none => ([], none)
          | some a =>
            if a.2.poison then ([], some (o, 5, dDst d + o, 0))
            else
              let w := evalWindow h r d (o + len) e n
              let sh := a.2.gpa % 64
              ({ a.2 with use := .write, st := .out, data := v * 2 ^ (8 * sh), en := (2 ^ len - 1) * 2 ^ sh } :: w.1, w.2)

/-- R276 to R282: once every read of a window has returned, the writes before the first failure are issued, in ascending order. -/
def readsDone (e : Nat) (m0 : Mach) : Mach :=
  match m0.hw.ringOn e with
  | none => m0
  | some (r, j0) =>
    if j0.phase = .reading then
      let m := redoAll r m0
      match m.hw.job r with
      | none => m
      | some j =>
        if accsOut r m.hw then m
        else
          let w := evalWindow m.hw r j.desc j.doneB (j.doneB + j.winLen) 65
          let j1 := match w.2 with
            | none => { j with phase := .writing }
            | some (o, st, fa, fc) => { j with phase := .writing, winLen := o - j.doneB, stop := some (st, fa, fc) }
          w.1.foldl (fun m a => issue m.hw.dm.seq (m.onHw (addAcc a))) (m.onHw (fun h => (dropAccs r 0 h).setJob r j1))
    else m0

/-- DM_WINDOW_READS_DONE (R276 to R282): the window of ring `ring`'s job on engine `eng`. -/
def execDmWindowReadsDone (eng ring : Nat) (s : State) : Out :=
  onHome (fun m => if (m.hw.ringOn eng).any (fun x => x.1 == ring) then readsDone eng m else m) s

/-- R276 steps 5 and 6, R267, R275, R281, R287: once every write of the window is globally visible it commits; the job ends, stops, is
pre-empted or goes on. -/
def commitWindow (e : Nat) (m0 : Mach) : Mach :=
  match m0.hw.ringOn e with
  | none => m0
  | some (r, j0) =>
    if j0.phase = .writing then
      let m := redoAll r m0
      match m.hw.job r with
      | none => m
      | some j =>
        if accsOut r m.hw then m
        else
          let f := m.hw.takeFree
          let j1 := { j with doneB := j.doneB + j.winLen, winLen := 0, phase := .idle, stop := none }
          let m1 := slotWrite r 0x40 (f.1 % 2 ^ 256) 32 { m with hw := dropAccs r 0 (f.2.setJob r j1) }
          match j.stop with
          | some (st, fa, fc) => endJob r st fa fc m1
          | none =>
            if j1.doneB = dLen j.desc then endJob r 0 0 0 m1
            else if j.abort then endJob r 6 j1.next 0 m1
            else if j.marked.isSome then preempt r m1
            else m1
    else m0

/-- DM_WINDOW_COMMIT (R276, R267, R275). -/
def execDmWindowCommit (eng : Nat) (s : State) : Out := onHome (commitWindow eng) s

/-- The accesses of the data mover that their slice or their Cupola has not taken in. -/
def Hw.dmHeld (h : Hw) : List Nat :=
  (heldReqs h.hd.held).filterMap (fun r => if r.unit = 1 then some r.tag else none) ++
    (h.cu.held.filter (fun r => r.unit == 1)).map (fun r => r.tag)

/-- R281: the writes at the end of a ring's window that have not been taken in are withdrawn: the window ends at the line before them. -/
def cutWindow (r : Nat) (h : Hw) : Hw :=
  let ws := (h.ringAccs r).filter (fun x => x.2.use == .write)
  let cut := (ws.reverse.takeWhile (fun x => h.dmHeld.contains x.1)).reverse
  let tags := cut.map Prod.fst
  match h.job r, cut with
  | some j, x :: _ =>
    { h with
      hd := { h.hd with held := h.hd.held.filter (fun y => (heldReqs [y]).all (fun q => q.unit != 1 || !tags.contains q.tag)) }
      cu := { h.cu with held := h.cu.held.filter (fun q => q.unit != 1 || !tags.contains q.tag) }
      dm := { h.dm with accs := h.dm.accs.filter (fun y => !tags.contains y.1),
                        jobs := Store.put h.dm.jobs r { j with winLen := x.2.off - j.doneB, stop := none } } }
  | _, _ => h

/-- Whether a migration's write to its destination is still to become visible. -/
def migOut (r : Nat) (h : Hw) : Bool := (h.ringAccs r).any (fun x => x.2.use == .mig && x.2.st != .done)

/-- R281, R287: a job that is to end with ABORTED ends, or awaits its writes: one in its write phase stops at the first line that has not been
taken in, and ends with what its window has written counted as done; a MIGRATE keeps its record. DESIGN CHOICE (the spec names no state for
it): the record of an ABANDON that has not finished step 1 of R299 is in COPY again. -/
def abortJob (r : Nat) (m0 : Mach) : Mach :=
  match m0.hw.job r with
  | none => m0
  | some j0 =>
    let m := if j0.phase == .writing then m0.onHw (cutWindow r) else m0
    let j := (m.hw.job r).getD j0
    if (j.phase == .writing && accsOut r m.hw) || (j.phase == .copying && migOut r m.hw) then
      m.onHw (fun h => h.setJob r { j with abort := true })
    else
      let j1 := if j.phase == .writing then { j with doneB := j.doneB + j.winLen } else j
      let m1 := match j.mig with
        | some n =>
          if j.phase == DmPhase.abandon then releaseLocks n (m.onHw (fun h => h.fset F.DM_MIGPOS_STATE n 0))
          else if m.hw.fget F.DM_MIGPOS_STATE n = 0 then releaseLocks n m else m
        | none => m
      endJob r 6 j1.next 0 (m1.onHw (fun h => h.setJob r j1))

/-- R281: an abort of the jobs that `p` selects. -/
def abortJobs (p : Nat → DmJob → Bool) (m : Mach) : Mach :=
  (m.hw.dm.jobs.filter (fun x => p x.1 x.2)).foldl (fun m x => abortJob x.1 m) m

/-! ### Ring configuration -/

/-- R303: whether a ring lies wholly within B1, or within RESERVED extents of Dome. -/
def ringPlaced (h : Hw) (r : Nat) : Bool :=
  let n := 128 * 2 ^ h.fget F.DM_RCFG_SIZE r
  let b := h.ringBase r
  h.fget F.DM_RCFG_SIZE r != 0 &&
    (if h.fget F.DM_RCFG_LOC r = 0 then decide (b + n ≤ 0x200000)
     else (List.range ((b + n - 1) / 2 ^ 21 - b / 2 ^ 21 + 1)).all (fun i => h.extReserved (b / 2 ^ 21 + i)))

/-- R303: a write of DM_RCFG. -/
def rcfgWrite (p : Path) (r w : Nat) (m : Mach) : Mach :=
  let en := fldOf F.DM_RCFG_EN w
  if p ≠ .turret then m
  else if m.hw.flag F.DM_RCFG_EN r then
    if en = 1 then m else setMigwait (abortJobs (fun x _ => x == r) (m.onHw (fun h => h.fset F.DM_RCFG_EN r 0)))
  else
    let h1 := (R.DM_RCFG.flds.filter (fun f => f.id != F.DM_RCFG_EN.id)).foldl (writeField r w) m.hw
    if en = 1 then
      if ringPlaced h1 r then setMigwait (markPreempt { m with hw := h1.fset F.DM_RCFG_EN r 1 })
      else { m with hw := h1.fset F.DM_RSTAT_CFGERR r 1 }
    else { m with hw := h1 }

/-- DM_RCFG_WRITE (R303, R281). -/
def execDmRcfgWrite (p : Path) (ring : Nat) (data : Word) (s : State) : Out := onHome (rcfgWrite p ring data.toNat) s

/-! ### Engine failure -/

/-- R285, R460, R497: the job that runs on engine `e` returns to its ring as pre-empted with the context of its last commit, or, where an
abort waited for its window, ends with it (R281); the engine is idle. -/
def engineReturn (e : Nat) (m : Mach) : Mach :=
  let m1 := match m.hw.ringOn e with
    | none => m
    | some (r, j) =>
      let m2 := match j.mig with
        | some n => if j.phase == DmPhase.copying || j.phase == DmPhase.abandon then releaseLocks n m else m
        | none => m
      if j.abort then endJob r 6 j.next 0 m2
      else m2.onHw (fun h => ringSet F.DM_RSTAT_PREEMPTED r 1 (dropAccs r 0 (h.setJob r j.park)))
  m1.onHw (freeEngine (some e))

/-- R285: engine `e` fails. -/
def engineFail (e : Nat) (m : Mach) : Mach :=
  if m.hw.flag F.DM_ENGSTAT_FAILED e then m
  else
    let x := m.hw.ringOn e
    (engineReturn e m).onHw (fun h =>
      ((h.fset F.DM_ENGSTAT_FAILED e 1).fadd F.DM_FAILOVER_VAL 0 (if x.isSome then 1 else 0)).raise
        { code := 0x0C02, dom := domEngine, dinst := e, addr := (x.map (fun y => ringNo y.1)).getD 0, unit := e, held := 1 })

/-- DM_ENGINE_FAILURE (R285, R286). -/
def execDmEngineFailure (eng : Nat) (s : State) : Out := onHome (engineFail eng) s

/-! ### Fence -/

/-- R288: FENCE reaches the head of its ring: a Spire Fence goes to every peer its jobs have sent to. -/
def fenceStart (r : Nat) (m : Mach) : Mach :=
  let h := m.hw
  let d := slotRead r 0 64 m
  if h.flag F.DM_RCFG_EN r && h.dmCount r != 0 && (h.job r).isNone && dOpc d == 4 then
    let m1 := slotWrite r 0x60 (slotRead r 0x60 1 m / 2 * 2) 1 (slotFetch r m)
    match descStatus h r d with
    | some st => complete r st 0 0 0 0 (dUser d) m1
    | none =>
      let peers := (List.range 8).filter (fun s => bitAt (Store.getD 0 h.dm.sent r) s)
      m1.onHw (fun h =>
        let h1 := h.openTag .dm r
        let h2 := peers.foldl (fun h s => h.sendCoh (cupAgent s) 0x18 (h.tagGen .dm r * 1024 + r) 0) h1
        let h3 := { h2 with dm := { h2.dm with sent := Store.del h2.dm.sent r } }
        (h3.setJob r { DmJob.fresh d none .fence with peers := peers }).fset F.DM_RSTAT_BUSY r 1)
  else m

/-- DM_FENCE (R288). -/
def execDmFence (ring : Nat) (s : State) : Out := onMach (fenceStart ring) s

/-- R288: the FENCE completes when WRING has reached WIDX and every peer has answered; one that died before it answered ends it with
LINKLOSS. -/
def fenceEnd (r : Nat) (m : Mach) : Mach :=
  match m.hw.job r with
  | none => m
  | some j =>
    if j.phase = .fence then
      match j.peers.find? (fun s => m.hw.isDead (cupAgent s)) with
      | some s => endJob r 5 s 0 (m.onHw (fun h => h.closeTag .dm r))
      | none =>
        if !j.peers.isEmpty || (dWv j.desc && decide (32768 ≤ (m.hw.dmHead (dWring j.desc) + 65536 - dWidx j.desc) % 65536)) then m
        else endJob r 0 0 0 (m.onHw (fun h => h.closeTag .dm r))
    else m

/-- DM_FENCE_SATISFIED (R288). -/
def execDmFenceSatisfied (ring : Nat) (s : State) : Out := onMach (fenceEnd ring) s

/-! ### Live migration -/

/-- Steps 1 and 2 of R291: record `n` is taken, and a local destination takes BINDCNT and SHARED of the source; a peer's takes them by
ALLOC. -/
def migTake (r n src dst : Nat) (h : Hw) : Hw :=
  let h1 := (((((h.fset F.DM_MIGSRC_V n 1).fset F.DM_MIGSRC_SRCEXT n src).fset F.DM_MIGDST_DSTGEXT n dst).fset
    F.DM_MIGPOS_WMARK n 0).fset F.DM_MIGPOS_STATE n 0).fset F.DM_MIGPOS_RING n r
  if dst / 2 ^ 22 = h.sid then
    h1.setArec (dst % 2 ^ 22) { h1.arec (dst % 2 ^ 22) with cnt := (h.arec src).cnt, shared := (h.arec src).shared }
  else h1

/-- Steps 3 to 5 of R291: the reverse-map entries of the destination, and the mapping entries MIGRATING with their cached copies. -/
def migMap (n : Nat) (m : Mach) : Mach :=
  let dst := m.hw.fget F.DM_MIGDST_DSTGEXT n
  let g := m.hw.migSrc n
  let maps := m.hw.mapsOf g
  mapEntries g (etMig 1 dst 0) (m.onHw (fun h => maps.foldl (fun h x => h.revInsert dst x.1 x.2) h))

/-- Whether the mapping entries of record `n` are still to be made MIGRATING: a job that held it ended before step 3 of R291. -/
def migUnmapped (n : Nat) (m : Mach) : Bool :=
  m.hw.fget F.DM_MIGPOS_STATE n == 0 && (m.hw.mapsOf (m.hw.migSrc n)).any (fun x => etMst (m.et x.1 x.2) == 0)

/-- A job goes on with record `n` as its STATE has it: it copies in COPY, and waits for the record's end otherwise. -/
def migResume (r n : Nat) (m : Mach) : Mach :=
  match m.hw.job r with
  | none => m
  | some j =>
    let m1 := if migUnmapped n m then migMap n m else m
    let ph := if m.hw.fget F.DM_MIGPOS_STATE n = 0 then DmPhase.copying else .draining
    m1.onHw (fun h => (h.setJob r { j with phase := ph, mig := some n, doneB := h.fget F.DM_MIGPOS_WMARK n * 64 }).fset
      F.DM_MIGPOS_RING n r)

/-- R289: the checks of START, in order: some status, or none when it may go on. A record for the pair lets the job resume. -/
def migChecks (src dst : Nat) (m : Mach) : Option Nat :=
  let h := m.hw
  let maps := h.mapsOf src
  if src / 2 ^ 22 ≠ h.sid ∨ (h.arec (src % 2 ^ 22)).cnt ≠ maps.length ∨ maps.any (fun x => etPend (m.et x.1 x.2)) then some 0xA
  else if (h.migFind (src % 2 ^ 22) dst).isSome then none
  else if maps.any (fun x => etMst (m.et x.1 x.2) != 0) then some 0xA
  else if dst / 2 ^ 22 = h.sid ∧ !h.extFree (dst % 2 ^ 22) then some 0xB
  else none

/-- R290, R291, R298: MIGRATE START on engine `e`. -/
def migStart (e : Nat) (m : Mach) : Mach :=
  match m.hw.ringOn e with
  | none => m
  | some (r, j) =>
    if dOpc j.desc = 2 ∧ dMigop j.desc = 0 ∧ j.phase = .idle then
      let src := bits (dSrc j.desc) 0 25
      let dst := bits (dDst j.desc) 0 25
      match migChecks src dst m with
      | some st => endJob r st (if st = 0xA then srcByte j.desc else dstByte j.desc) 0 m
      | none =>
        match m.hw.migFind (src % 2 ^ 22) dst with
        | some n => migResume r n m
        | none =>
          match m.hw.migFree with
          | none => m
          | some n =>
            let home := dst / 2 ^ 22
            if home = m.hw.sid then migResume r n (migMap n (m.onHw (migTake r n (src % 2 ^ 22) dst)))
            else if m.hw.isDead (cupAgent home) then endJob r 5 (dstByte j.desc) 0 m
            else
              m.onHw (fun h =>
                let t := h.bd.nextTag
                let q : AllocReq := ⟨1, home, t, dst, 1, 8192 + r⟩
                let h1 := { h with bd := { h.bd with nextTag := (t + 1) % 65536, allocs := h.bd.allocs ++ [q] } }
                (h1.emitAlloc home 1 0 t (dst % 2 ^ 22) 1).setJob r { j with phase := .claiming })
    else m

/-- MIGRATE_START (R289, R290, R291). -/
def execMigrateStart (eng : Nat) (s : State) : Out := onHome (migStart eng) s

/-- The next line that a record would lock: the first at or above WMARK, within the window of 64 lines and the MIGWIN lines in flight, that
has no lock open or waiting (R292). -/
def nextLock (h : Hw) (n : Nat) : Option Nat :=
  let src := h.fget F.DM_MIGSRC_SRCEXT n
  let busy := (h.lockTxns src).map (fun x => x.2.req.la % 2 ^ 15) ++ (h.lockWaits src).map (fun r => r.la % 2 ^ 15)
  let w := h.fget F.DM_MIGPOS_WMARK n
  (List.range (min (h.fget F.DM_CTRL_MIGWIN 0) (64 - w % 64))).findSome? (fun i =>
    if w + i < 32768 ∧ !busy.contains (w + i) then some (w + i) else none)

/-- R293: a lock is offered to its home: it opens, or is held in its engine. -/
def offerLock (q : HReq) (m : Mach) : Mach :=
  let l := sliceOf q.la
  match serve q m with
  | .taken m' => settle l m' settleFuel
  | .opened m' => (settle l m' settleFuel).onHw (fun h => { h with hd := { h.hd with locks := h.hd.locks ++ [q] } })
  | .waits => m.onHw (fun h => { h with hd := { h.hd with locks := h.hd.locks ++ [q] } })

/-- The lock of a source line for a ring's job. -/
def lockReq (r la : Nat) : HReq := { agent := 1024, kind := .lock, la := la, tag := r, unit := 1 }

/-- R292: the migration of engine `e` locks its next line. -/
def lineLock (e : Nat) (m : Mach) : Mach :=
  match m.hw.ringOn e with
  | none => m
  | some (r, j) =>
    match j.mig with
    | none => m
    | some n =>
      if j.phase = .copying ∧ !j.abort ∧ j.stop.isNone then
        match nextLock m.hw n with
        | none => m
        | some line => offerLock (lockReq r (m.hw.fget F.DM_MIGSRC_SRCEXT n * 2 ^ 15 + line)) m
      else m

/-- MIGRATION_LINE_LOCK (R292, R293). -/
def execMigrationLineLock (eng : Nat) (s : State) : Out := onHome (lineLock eng) s

/-- MIGRATION_LOCK_RETRY (R293): every held lock is offered again. -/
def execMigrationLockRetry (s : State) : Out :=
  onHome (fun m =>
    m.hw.hd.locks.foldl (fun m q => offerLock q m) (m.onHw (fun h => { h with hd := { h.hd with locks := [] } }))) s

/-- R297 steps 1 and 2: the entries become STABLE-NEW and the mapping tenants are armed. -/
def migDrain (n : Nat) (m : Mach) : Mach :=
  let g := m.hw.migSrc n
  let dst := m.hw.fget F.DM_MIGDST_DSTGEXT n
  let m1 := mapEntries g (etMig 2 dst 32768) m
  m1.onHw (fun h => (h.mapsOf g).foldl (fun h x => h.armDrain x.1) (h.fset F.DM_MIGPOS_STATE n 1))

/-- R292: WMARK advances over the copied lines, each lock released in the same cycle. -/
def advanceMark (n : Nat) (m : Mach) : Nat → Mach
  | 0 => m
  | f + 1 =>
    let w := m.hw.fget F.DM_MIGPOS_WMARK n
    let c := Store.getD [] m.hw.dm.copied n
    if c.contains w then
      let la := m.hw.fget F.DM_MIGSRC_SRCEXT n * 2 ^ 15 + w
      let m1 := m.onHw (fun h => cacheMark (h.migSrc n) (w + 1)
        ({ h with dm := { h.dm with copied := Store.setD [] h.dm.copied n (c.filter (· != w)) } }.fset
          F.DM_MIGPOS_WMARK n (w + 1)))
      let m2 := match (m1.hw.lockTxns (la / 2 ^ 15)).find? (fun x => x.2.req.la == la) with
        | some x => closeLock x.1 x.2 m1
        | none => m1
      advanceMark n (settle (sliceOf la) m2 settleFuel) f
    else m

/-- R294, R275, R281, R297: what follows an advance of WMARK: the window commit, the drain, an abort or a pre-emption. -/
def afterMark (r n w0 : Nat) (m : Mach) : Mach :=
  let w := m.hw.fget F.DM_MIGPOS_WMARK n
  match m.hw.job r with
  | none => m
  | some j =>
    let j1 := { j with doneB := w * 64 }
    if w = 32768 then
      markPreempt ((migDrain n m).onHw (fun h => h.setJob r { j1 with phase := .draining, marked := none }))
    else if w / 64 ≠ w0 / 64 then
      let f := m.hw.takeFree
      let m1 := slotWrite r 0x40 (f.1 % 2 ^ 256) 32
        (mapEntries (m.hw.migSrc n) (fun x => putBits x 96 16 w) { m with hw := f.2.setJob r j1 })
      if j.marked.isSome then preempt r (releaseLocks n m1) else m1
    else m.onHw (fun h => h.setJob r j1)

/-- R292: a line is copied: its write is visible at the destination. -/
def markCopied (r n line : Nat) (m : Mach) : Mach :=
  let m1 := m.onHw (fun h => { h with dm := { h.dm with
    accs := h.dm.accs.filter (fun x => !(x.2.ring == r && x.2.use == .mig && x.2.off == line * 64)),
    copied := Store.put h.dm.copied n (Store.getD [] h.dm.copied n ++ [line]) } })
  afterMark r n (m.hw.fget F.DM_MIGPOS_WMARK n) (advanceMark n m1 64)

/-- R281, R287, R298: a migration that has met a stop or an abort ends once every write it has made is visible, its locks released and its
record kept. -/
def migStopped (r n : Nat) (m : Mach) : Mach :=
  match m.hw.job r with
  | none => m
  | some j =>
    if j.phase != .copying || (!j.abort && j.stop.isNone) || migOut r m.hw then m
    else
      let a := m.hw.fget F.DM_MIGDST_DSTGEXT n * 2 ^ 21 + m.hw.fget F.DM_MIGPOS_WMARK n * 64
      endJob r ((j.stop.map Prod.fst).getD 6) a 0 (releaseLocks n m)

/-- R280, R292, R298: line `line` of the migration on engine `e`: once its lock has every answer its write leaves, and once that is
globally visible the line is copied. A destination that is lost stops the job. -/
def lineCopied (e line : Nat) (m : Mach) : Mach :=
  match m.hw.ringOn e with
  | none => m
  | some (r, j) =>
    match j.mig with
    | none => m
    | some n =>
      let src := m.hw.fget F.DM_MIGSRC_SRCEXT n
      let la := src * 2 ^ 15 + line
      let g := m.hw.fget F.DM_MIGDST_DSTGEXT n * 2 ^ 21 + line * 64
      match (m.hw.lockTxns src).find? (fun x => x.2.req.la == la && x.2.snps.isEmpty && x.2.bis.isEmpty) with
      | none => m
      | some x =>
        match x.2.data with
        | none => m
        | some d =>
          let mine := fun (y : Nat × DmAcc) => y.2.use == .mig && y.2.off == line * 64
          let sent := (m.hw.ringAccs r).any mine
          if (Store.getD [] m.hw.dm.copied n).contains line then m
          else if !sent && (j.abort || j.stop.isSome) then migStopped r n m
          else if !sent && dstLost g m.hw then migStopped r n (m.onHw (fun h => h.setJob r { j with stop := some (5, 0, 0) }))
          else
            let m1 := if sent then m
              else
                issue m.hw.dm.seq (m.onHw (fun h =>
                  let h1 := if d.2 then h.fadd F.DM_MIGPOIS_VAL 0 1 else h
                  addAcc ⟨r, .mig, line * 64, 64, g, .out, d.1, 2 ^ 64 - 1, d.2, false⟩
                    (h1.setJob r { j with pois := j.pois + b2n d.2 })))
            if (m1.hw.ringAccs r).any (fun y => mine y && y.2.st == .done) then migStopped r n (markCopied r n line m1) else m1

/-- MIGRATION_LINE_COPIED (R292, R294). -/
def execMigrationLineCopied (eng line : Nat) (s : State) : Out := onHome (lineCopied eng line) s

/-- A local extent is to be zeroed (R57 step 5): DIRTY is set and the FILL is asked for. -/
def zeroExtent (e : Nat) (h : Hw) : Hw :=
  let h1 := h.setArec e { h.arec e with cnt := 0, dirty := true }
  { h1 with dm := { h1.dm with zero := h1.dm.zero ++ [e] } }

/-- R57 step 5, R335: an extent whose BINDCNT has reached 0: zeroed, or FAILED on a failed channel. -/
def extentReleased (e : Nat) (h : Hw) : Hw :=
  if h.extFailed e then h.setArec e { h.arec e with cnt := 0, shared := false, failed := true }
  else zeroExtent e h

/-- The reverse-map entries of a GEXT removed (R297, R299). -/
def dropRev (g : Nat) (h : Hw) : Hw :=
  h.revRemove (fun x => x.1 == g)

/-- The record `n` released. -/
def migRelease (n : Nat) (h : Hw) : Hw :=
  let h1 := ((((h.fset F.DM_MIGSRC_V n 0).fset F.DM_MIGSRC_SRCEXT n 0).fset F.DM_MIGDST_DSTGEXT n 0).fset
    F.DM_MIGPOS_WMARK n 0).fset F.DM_MIGPOS_STATE n 0
  let h2 := h1.fset F.DM_MIGPOS_RING n 0
  { h2 with dm := { h2.dm with copied := Store.del h2.dm.copied n } }

/-- The tenants of a drain that have not reported VIS: an expiry is reported for each (R297). -/
def drainExpired (ts : List Nat) (h : Hw) : Hw :=
  ts.foldl (fun h t => if h.flag F.BD_TDRAIN_VIS t then h
    else h.raise { code := 0x0802, dom := domTenant, dinst := t, atype := 7 }) h

/-- The end of the jobs that held record `n`: those that the record's end completes end with OK and `doneB` bytes; a START whose
record was abandoned starts again. -/
def migJobsEnd (n op : Nat) (doneB : Option Nat) (m : Mach) : Mach :=
  setMigwait ((m.hw.dm.jobs.filter (fun x => x.2.mig == some n)).foldl (fun m x =>
    if dMigop x.2.desc = op then
      endJob x.1 0 0 0 (m.onHw (fun h => h.setJob x.1 { x.2 with doneB := doneB.getD x.2.doneB }))
    else m.onHw (fun h => h.setJob x.1 { x.2 with phase := .idle, mig := none, doneB := 0 })) m)

/-- R297 steps 3 to 6: the entries switch to the destination, and the source is zeroed. -/
def migCommit (n : Nat) (m : Mach) : Mach :=
  let g := m.hw.migSrc n
  let src := m.hw.fget F.DM_MIGSRC_SRCEXT n
  let dst := m.hw.fget F.DM_MIGDST_DSTGEXT n
  let m1 := mapEntries g (fun x => putBits (etMig 0 0 0 x) 8 25 dst) (m.onHw (fun h => h.fset F.DM_MIGPOS_STATE n 2))
  migJobsEnd n 0 (some 0x200000) (m1.onHw (fun h => extentReleased src (migRelease n (dropRev g h))))

/-- R299 steps 4 and 5: the destination is given up. -/
def migAbandonEnd (n : Nat) (m : Mach) : Mach :=
  let dst := m.hw.fget F.DM_MIGDST_DSTGEXT n
  let cnt := (m.hw.arec (m.hw.fget F.DM_MIGSRC_SRCEXT n)).cnt
  migJobsEnd n 1 none (m.onHw (fun h =>
    let h1 := migRelease n (dropRev dst h)
    if dst / 2 ^ 22 = h.sid then extentReleased (dst % 2 ^ 22) h1
    else (List.range cnt).foldl (fun h _ =>
      let t := h.bd.nextTag
      ({ h with bd := { h.bd with nextTag := (t + 1) % 65536 } }).emitAlloc (dst / 2 ^ 22) 3 0 t (dst % 2 ^ 22) 1) h1))

/-- MIGRATION_COMMIT (R297, R299): the drain of record `rec` ends, by every tenant's VIS or by DRNTMO. -/
def execMigrationCommit (rec : Nat) (timedOut : Bool) (s : State) : Out :=
  onMach (fun m =>
    let st := m.hw.fget F.DM_MIGPOS_STATE rec
    let ts := (m.hw.mapsOf (m.hw.migSrc rec)).map Prod.fst
    let locked := m.hw.dm.jobs.any (fun x => x.2.mig == some rec && x.2.phase == .abandon)
    if m.hw.flag F.DM_MIGSRC_V rec && (st == 1 || st == 3) && !locked &&
        (timedOut || ts.all (fun t => m.hw.flag F.BD_TDRAIN_VIS t)) then
      let m1 := m.onHw (drainExpired ts)
      if st = 1 then migCommit rec m1 else migAbandonEnd rec m1
    else m) s

/-- The lines of record `n` that ABANDON has written as poisoned. -/
def noteLine (n i : Nat) (h : Hw) : Hw :=
  { h with dm := { h.dm with copied := Store.put h.dm.copied n (Store.getD [] h.dm.copied n ++ [i]) } }

/-- R299 step 1 for line `i` of record `n`'s source, unless it is done or its lock waits: a line that no agent holds and no transaction is
open on is written as poisoned; any other is locked first. -/
def abandonLine (r n i : Nat) (m : Mach) : Mach :=
  let src := m.hw.fget F.DM_MIGSRC_SRCEXT n
  let la := src * 2 ^ 15 + i
  if (Store.getD [] m.hw.dm.copied n).contains i || (m.hw.lockTxns src).any (fun x => x.2.req.la == la) ||
    (m.hw.lockWaits src).any (fun q => q.la == la) then m
  else if (m.hw.dirEnt la).isNone && (m.hw.txnOf la).isNone then (m.poisonLine (lineOff la)).onHw (noteLine n i)
  else offerLock (lockReq r la) m

/-- R299 step 1: the locks that have every answer: their lines are written as poisoned, and they close. -/
def abandonLocked (n : Nat) (m : Mach) : Mach :=
  let ready := (m.hw.lockTxns (m.hw.fget F.DM_MIGSRC_SRCEXT n)).filter (fun x => x.2.snps.isEmpty && x.2.bis.isEmpty && x.2.data.isSome)
  settleAll (ready.foldl (fun m x =>
    closeLock x.1 x.2 ((m.poisonLine (lineOff x.2.req.la)).onHw (noteLine n (x.2.req.la % 2 ^ 15)))) m)

/-- R299 steps 2 and 3: the entries return to STABLE, and the tenants drain. -/
def abandonEntries (n : Nat) (m : Mach) : Mach :=
  let g := m.hw.migSrc n
  (mapEntries g (etMig 0 0 0) m).onHw (fun h => (h.mapsOf g).foldl (fun h x => h.armDrain x.1) h)

/-- R299: ABANDON goes on with the lines of step 1 that are left; when the last is done, steps 2 and 3 run. -/
def abandonGo (r n : Nat) (j : DmJob) (m : Mach) : Mach :=
  let w := m.hw.fget F.DM_MIGPOS_WMARK n
  let m1 := iterN (abandonLine r n) 0 w (abandonLocked n m)
  if w ≤ (Store.getD [] m1.hw.dm.copied n).length then (abandonEntries n m1).onHw (fun h => h.setJob r { j with phase := .draining })
  else m1.onHw (fun h => h.setJob r { j with phase := .abandon })

/-- R299: MIGRATE ABANDON on engine `e`: it is taken, or goes on with the lines it has locked. -/
def migAbandon (e : Nat) (m : Mach) : Mach :=
  match m.hw.ringOn e with
  | none => m
  | some (r, j) =>
    match dOpc j.desc == 2 && dMigop j.desc == 1, j.phase, j.mig with
    | true, .abandon, some n => abandonGo r n j m
    | true, .idle, _ =>
      match m.hw.migFind (bits (dSrc j.desc) 0 22) (bits (dDst j.desc) 0 25) with
      | none => endJob r 0xA (srcByte j.desc) 0 m
      | some n =>
        if m.hw.fget F.DM_MIGPOS_STATE n ≠ 0 ∨ m.hw.dm.jobs.any (fun x => x.2.mig == some n && x.2.eng.isSome) then
          endJob r 0xA (srcByte j.desc) 0 m
        else
          let w := m.hw.fget F.DM_MIGPOS_WMARK n
          let m1 := (releaseLocks n m).onHw (fun h =>
            ((h.fset F.DM_MIGPOS_STATE n 3).fset F.DM_MIGPOS_RING n r).fadd F.DM_MIGPOIS_VAL 0 w)
          abandonGo r n { j with mig := some n, pois := w, doneB := w * 64 } m1
    | _, _, _ => m

/-- MIGRATE_ABANDON (R299). -/
def execMigrateAbandon (eng : Nat) (s : State) : Out := onHome (migAbandon eng) s

/-- R304: fabric reset ends every started job with ABORTED and abandons every record in COPY: its holders are gone, so the lines below
WMARK are written as poisoned without locks. -/
def dmFabricReset (m : Mach) : Mach :=
  let half := m.hw.dm.jobs.filterMap (fun x => if x.2.phase == DmPhase.abandon then x.2.mig else none)
  let m1 := m.hw.dm.jobs.foldl (fun m x => endJob x.1 6 x.2.next 0 m) m
  (List.range 8).foldl (fun m n =>
    if m.hw.flag F.DM_MIGSRC_V n then
      if m.hw.fget F.DM_MIGPOS_STATE n = 0 ∨ half.contains n then
        let w := m.hw.fget F.DM_MIGPOS_WMARK n
        let src := m.hw.fget F.DM_MIGSRC_SRCEXT n
        migAbandonEnd n (abandonEntries n (iterN (fun i m => m.poisonLine (lineOff (src * 2 ^ 15 + i))) 0 w
          ((releaseLocks n m).onHw (fun h =>
            (h.fset F.DM_MIGPOS_STATE n 3).fadd F.DM_MIGPOIS_VAL 0 (if half.contains n then 0 else w)))))
      else if m.hw.fget F.DM_MIGPOS_STATE n = 3 then migAbandonEnd n m
      else migCommit n m
    else m) m1

end Sys2Proof.Machine
end

