-- ==== Sys2Proof/Machine/Pool.lean ====
section
/-! DEFINITION. Binding: the tenant table commands (R73 to R76), binds by the fabric manager and by policy (R44 to R48,
R555), tenant reset and unbind (R61 to R66), and the return of backing (R57 steps 4 and 5). -/
namespace Sys2Proof.Machine

/-! ### FM API return codes (PRESUMED: CXL 3.1) -/

/-- Success. -/
def fmSuccess : Nat := 0
/-- Invalid Input. -/
def fmInvalid : Nat := 2
/-- Busy. -/
def fmBusy : Nat := 6
/-- Resources Exhausted. -/
def fmExhausted : Nat := 0x1D

/-! ### The tenant table commands -/

/-- RESULT of BD_TTSTAT (R76). -/
def ttResult (r : Nat) (h : Hw) : Hw := h.fset F.BD_TTSTAT_RESULT 0 r

/-- TID and OP of BD_TTCMD as GO wrote them (R73). -/
def setTtcmd (t op : Nat) (h : Hw) : Hw := (h.fset F.BD_TTCMD_TID 0 t).fset F.BD_TTCMD_OP 0 op

/-- R75: GO while BUSY is ignored with BUSY_REJECT; an OP other than READ from a master other than Turret ends with DENIED. -/
def ttGo (p : Path) (t op : Nat) (f : Mach → Mach) (m : Mach) : Mach :=
  if m.hw.flag F.BD_TTSTAT_BUSY 0 then m.onHw (ttResult 3)
  else
    let m1 := m.onHw (setTtcmd t op)
    if op ≠ 1 ∧ p ≠ .turret then m1.onHw (ttResult 4) else f m1

/-- The entry staged in BD_TTDATA0-3 (R32). -/
def stagedEnt (h : Hw) : Nat :=
  h.fget F.BD_TTDATA0_VAL 0 + 2 ^ 32 * h.fget F.BD_TTDATA1_VAL 0 + 2 ^ 64 * h.fget F.BD_TTDATA2_VAL 0 +
    2 ^ 96 * h.fget F.BD_TTDATA3_VAL 0

/-- An entry put into BD_TTDATA0-3. -/
def stageEnt (e : Nat) (h : Hw) : Hw :=
  (((h.fset F.BD_TTDATA0_VAL 0 e).fset F.BD_TTDATA1_VAL 0 (e / 2 ^ 32)).fset F.BD_TTDATA2_VAL 0 (e / 2 ^ 64)).fset
    F.BD_TTDATA3_VAL 0 (e / 2 ^ 96)

/-- R32: whether a reserved bit of an entry is set. -/
def ttReserved (e : Nat) : Bool :=
  decide (bits e 30 2 ≠ 0 ∨ bits e 62 2 ≠ 0 ∨ bits e 95 1 ≠ 0 ∨ bits e 119 9 ≠ 0)

/-- R34: whether the region set of an entry is broken. -/
def rgBroken (e : Nat) : Bool := decide (65536 < ttRgbase e + ttRgcnt e ∨ 64 < ttRgcnt e)

/-- The extent tables of the pool entries other than `t` that are not FREE, as (first byte, first byte after). -/
def otherTables (h : Hw) (t : Nat) : List (Nat × Nat) :=
  (h.bd.tt.filter (fun (x : Nat × Nat) => x.1 != t && ttState x.2 != 0 && ttKind x.2 == 0)).map (fun x =>
    (ttEtbase x.2 * 4096, ttEtbase x.2 * 4096 + 16 * ttEtlen x.2))

/-- R34: whether a table of `n` entries at Dome offset `a` lies in the store and overlaps no other. -/
def tableFits (h : Hw) (t a n : Nat) : Bool :=
  decide (h.storeFirst * 2 ^ 21 ≤ a ∧ a + 16 * n ≤ h.domeExt * 2 ^ 21) &&
  (otherTables h t).all (fun x => decide (a + 16 * n ≤ x.1 ∨ x.2 ≤ a))

/-- R74: the fields of an entry lie in their ranges, and R34 holds. -/
def bindRanges (h : Hw) (t e : Nat) : Bool :=
  decide (ttKind e ≠ 3 ∧ ttPort e ≤ 71 ∧ ttDs e ≤ 71) && !rgBroken e &&
  (ttKind e != 0 ||
    (decide (128 ≤ ttEtlen e ∧ ttEtlen e ≤ 2 ^ 25 ∧ ttEtlen e % 128 = 0) &&
      tableFits h t (ttEtbase e * 4096) (ttEtlen e)))

/-- R74: a field that must be 0 for the KIND is nonzero. -/
def bindNonzero (e : Nat) : Bool :=
  if ttKind e = 0 then decide (ttLd e ≠ 0 ∨ ttDs e ≠ 0)
  else decide (ttHdmDb e = true ∨ ttEtlen e ≠ 0 ∨ ttEtbase e ≠ 0 ∨ (ttKind e = 2 ∧ ttLd e ≠ 0))

/-- R74, R371: FP_PCFG.ROLE of a port named by the entry is another one; an absent port is UNUSED whatever its ROLE. -/
def bindRole (h : Hw) (e : Nat) : Bool :=
  let role := fun (n : Nat) => if h.portWidth n = 0 then 0 else h.fget F.FP_PCFG_ROLE n
  decide (role (ttPort e) ≠ 1 ∨ (ttKind e ≠ 0 ∧ role (ttDs e) ≠ 2))

/-- R46: the vPPB is bound, or the named LD or port is bound to another vPPB. -/
def bindTaken (h : Hw) (e : Nat) : Bool :=
  h.bd.tt.any (fun (x : Nat × Nat) => ttState x.2 != 0 &&
    ((ttPort x.2 == ttPort e && ttVppb x.2 == ttVppb e) ||
     (ttKind e != 0 && ttKind x.2 != 0 && ttDs x.2 == ttDs e &&
       (ttKind e == 2 || ttKind x.2 == 2 || ttLd x.2 == ttLd e))))

/-- R74, R378: the checks of BIND in table order: the RESULT of the first that fails. DESIGN CHOICE: a bind that R378 rejects, for which R74
has no row, ends with BAD_FIELD after the check of ROLE. -/
def bindCheck (h : Hw) (t e : Nat) : Option Nat :=
  if ttState (h.ent t) ≠ 0 then some 1
  else if ttReserved e then some 2
  else if !bindRanges h t e then some 2
  else if bindNonzero e then some 2
  else if bindRole h e then some 2
  else if ttHdmDb e ∧ h.flag F.FP_LSTAT_UP (ttPort e) ∧ h.fget F.FP_LSTAT_MODE (ttPort e) ≠ 0 then some 2
  else if ttKind e = 0 ∧ !h.flag F.DD_STAT_READY 0 then some 1
  else if bindTaken h e then some 1
  else none

/-- R47 step 1: the new entry, but for TGEN, with STATE BINDING. -/
def bindBegin (t e : Nat) (h : Hw) : Hw := h.setEnt t (putBits (putBits e 0 3 1) 32 4 (ttGen (h.ent t)))

/-- R47 step 2: every extent table entry of a pool LD instance is cleared. -/
def bindClear (e : Nat) (m : Mach) : Mach :=
  if ttKind e = 0 then iterN (fun i m => m.putLine (ttEtbase e * 4096 + 64 * i) 0) 0 (ttEtlen e / 4) m else m

/-- R181: the keys of the route indices of a tenant's binding: its requests to its device, S2M and BISnp of its LD to the host port, and
CXL.cache in each direction. -/
def bindKeys (t : Nat) : List Nat := [0, 1, 2, 3].map (fun k => k * 8192 + t)

/-- R181, R183: Turret assigns the route indices of the binding of an MLD-LD or SLD tenant. Which ones it takes is free. -/
def bindRoutes (t e : Nat) (h : Hw) : Hw :=
  if ttKind e = 0 then h
  else (bindKeys t).foldl (fun h k =>
    let f := h.takeFree
    { f.2 with sw := { f.2.sw with binds := Store.put f.2.sw.binds k (0x20 + f.1 % 0x3FE0) } }) h

/-- The route indices of a tenant's binding are free again. -/
def unbindRoutes (t : Nat) (h : Hw) : Hw :=
  { h with sw := { h.sw with binds := (bindKeys t).foldl Store.del h.sw.binds } }

/-- R47 steps 3 to 6: TGEN advances, the tenant's shaper, pacer and fault domain are reset, the entry is BOUND, and the vPPB is
reported as bound. -/
def bindEnd (t e : Nat) (h : Hw) : Hw :=
  let e' := putBits (putBits e 0 3 2) 32 4 (ttGen (h.ent t) + 1)
  ((paceClear t (bindRoutes t e ((h.setEnt t e').uncacheAll t))).setDom (didxOf domTenant t) Dom.ok).emit (.vppb (ttPort e) (ttVppb e) true)

/-- R47: the bind sequence. One command runs it, so that the tenant is in BINDING (R33, R48, R65) only within that command. -/
def doBind (t e : Nat) (m : Mach) : Mach := (bindClear e (m.onHw (bindBegin t e))).onHw (bindEnd t e)

/-! ### What the fabric manager reads -/

/-- R45: what Get Virtual CXL Switch Info reports for a vPPB: the physical port and the LD-ID of its target, which for a pool LD
instance are port 80 and the TID; none for an unbound vPPB. -/
def Hw.vppbInfo (h : Hw) (port vppb : Nat) : Option (Nat × Nat) :=
  ((h.tidsWhere (fun e => ttState e != 0 && ttPort e == port && ttVppb e == vppb)).head?).map (fun t =>
    let e := h.ent t
    if ttKind e = 0 then (80, t) else (ttDs e, if ttKind e = 1 then ttLd e else 0xFFFF))

/-- R45: the port of the pool's logical devices. -/
def poolPort : Nat := 80

/-- What the Physical Switch command set shows a port as (R45, R371). -/
inductive PhysPort where
  | absent | unused | host | down | mld
  deriving DecidableEq, Repr

/-- R45, R371: what the Physical Switch command set shows physical port `n` as: port 80 is an MLD port, and the fabric ports have their
roles. -/
def Hw.physPort (h : Hw) (n : Nat) : PhysPort :=
  if n = poolPort then .mld
  else if 72 ≤ n ∨ h.portWidth n = 0 then .absent
  else match h.role n with
    | 1 => .host
    | 2 => .down
    | _ => .unused

/-- BD_TTCMD BIND (R47, R74, R460). -/
def ttBind (t : Nat) (m : Mach) : Mach :=
  if m.hw.contained 0 then m.onHw (ttResult 3)
  else
    let e := stagedEnt m.hw
    match bindCheck m.hw t e with
    | some r => m.onHw (ttResult r)
    | none => (doBind t e m).onHw (ttResult 0)

/-- R74: the checks of WRITE in table order. -/
def writeCheck (h : Hw) (t e : Nat) : Option Nat :=
  let old := h.ent t
  let fixed := fun (x : Nat) => putBits (putBits (putBits (putBits x 0 4 0) 32 4 0) 96 16 0) 112 7 0
  if ttState old ≠ 2 then some 1
  else if ttReserved e then some 2
  else if fixed e ≠ fixed old ∨ rgBroken e then some 2
  else none

/-- BD_TTCMD WRITE (R73, R74). -/
def ttWrite (t : Nat) (h : Hw) : Hw :=
  let e := stagedEnt h
  match writeCheck h t e with
  | some r => ttResult r h
  | none =>
    let old := h.ent t
    ttResult 0 (h.setEnt t
      (putBits (putBits (putBits old 3 1 (bits e 3 1)) 96 16 (ttRgbase e)) 112 7 (ttRgcnt e)))

/-! ### Reset and unbind -/

/-- R62, R63: the Stop step: STATE is STOPPING and Q is taken from the ageing limits in effect. -/
def startSeq (t : Nat) (unbind : Bool) (h : Hw) : Hw :=
  let q := 2 * max (h.fget F.SW_AGE_STRICT 0) (h.fget F.SW_AGE_WEIGHTED 0 * 10)
  { h.setTState t 3 with bd := { (h.setTState t 3).bd with seqs := Store.put h.bd.seqs t ⟨unbind, q, false⟩ } }

/-- The running sequence of a tenant. -/
def Hw.seq (h : Hw) (t : Nat) : Option TSeq := Store.get? h.bd.seqs t

/-- R65: a reset asked for: its RESULT and effect. -/
def askReset (t : Nat) (h : Hw) : Nat × Hw :=
  match ttState (h.ent t) with
  | 0 => (1, h)
  | 2 => (0, startSeq t false h)
  | _ =>
    match h.seq t with
    | some s => (if s.unbind then 1 else 0, h)
    | none => (0, h)

/-- R65: an unbind asked for: its RESULT and effect. -/
def askUnbind (t : Nat) (h : Hw) : Nat × Hw :=
  match ttState (h.ent t) with
  | 0 => (1, h)
  | 2 => (0, startSeq t true h)
  | _ =>
    match h.seq t with
    | some s => (0, { h with bd := { h.bd with seqs := Store.put h.bd.seqs t { s with unbind := true } } })
    | none => (0, h)

/-- A reset or unbind asked for through BD_TTCMD. -/
def ttAsk (f : Nat → Hw → Nat × Hw) (t : Nat) (h : Hw) : Hw :=
  let r := f t h
  ttResult r.1 r.2

/-- BD_TTCMD UNBIND, refused while the DEVICE domain is contained (R460). -/
def ttUnbind (t : Nat) (h : Hw) : Hw := if h.contained 0 then ttResult 3 h else ttAsk askUnbind t h

/-- BD_TTCMD_NOP (R73). -/
def execBdTtcmdNop (p : Path) (tid : Nat) (s : State) : Out :=
  onMach (ttGo p (tid % 8192) 0 (fun m => m.onHw (ttResult 0))) s

/-- BD_TTCMD_READ (R73). -/
def execBdTtcmdRead (p : Path) (tid : Nat) (s : State) : Out :=
  onMach (ttGo p (tid % 8192) 1 (fun m => m.onHw (fun h => ttResult 0 (stageEnt (h.ent (tid % 8192)) h)))) s

/-- BD_TTCMD_WRITE (R73, R74). -/
def execBdTtcmdWrite (p : Path) (tid : Nat) (s : State) : Out :=
  onMach (ttGo p (tid % 8192) 2 (fun m => m.onHw (ttWrite (tid % 8192)))) s

/-- BD_TTCMD_BIND (R47, R74). -/
def execBdTtcmdBind (p : Path) (tid : Nat) (s : State) : Out :=
  onMach (ttGo p (tid % 8192) 3 (ttBind (tid % 8192))) s

/-- BD_TTCMD_RESET (R61, R65). -/
def execBdTtcmdReset (p : Path) (tid : Nat) (s : State) : Out :=
  onMach (ttGo p (tid % 8192) 4 (fun m => m.onHw (ttAsk askReset (tid % 8192)))) s

/-- BD_TTCMD_UNBIND (R61, R65). -/
def execBdTtcmdUnbind (p : Path) (tid : Nat) (s : State) : Out :=
  onMach (ttGo p (tid % 8192) 5 (fun m => m.onHw (ttUnbind (tid % 8192)))) s

/-- R61: every tenant of a host port's VCS is reset. -/
def resetVcs (port : Nat) (h : Hw) : Hw :=
  (h.tidsWhere (fun e => ttState e != 0 && ttPort e == port)).foldl (fun h t => (askReset t h).2) h

/-- HOT_RESET (R61): a hot reset of a host link. -/
def execHotReset (port : Nat) (s : State) : Out := onHw (resetVcs port) s

/-- Whether a data mover job names tenant `t` on a side it uses (R281). -/
def jobNames (t d : Nat) : Bool :=
  (usesSrc d && dSasel d == 0 && dStid d == t) || (usesDst d && dDasel d == 0 && dDtid d == t)

/-- R215, R247: a request that the abort step finds in the pacing queue or in front of it is answered as one discarded on its way to
egress port `eg`. -/
def endAbort (eg : Nat) (m : Msg) (h : Hw) : Hw :=
  let h1 := loseMsg m h
  if m.cls == .ioNp then endNp eg m .ur (egressVppb h eg m) h1 else respond eg m (discardRsp m.cls) none h1

/-- R31, R62, R247: the outstanding requests of a tenant are retired with their responses, their tags abandoned, and OUT is 0. -/
def retireAll (t : Nat) (h : Hw) : Hw :=
  let wt := h.ts.waiting.filter (fun e => e.msg.tid == some t)
  let h0 := (h.pq t ++ wt).foldl (fun h e => endAbort e.eg e.msg h) (h.freeN (pqCells (h.pq t)))
  let queued := fun (i : Nat) => (h.pq t ++ wt).any (fun e => e.msg.rid == i)
  let ws := h0.bd.writes.filter (fun r => r.tid == t && !r.visible)
  let rs := h0.bd.reads.filter (fun r => r.tid == t)
  let h1 := ws.foldl (fun h w => let h1 := h.discardWrite t w.wid
    if w.np || queued w.wid then h1 else respondTo t w.wid w.tc w.rsp h1) h0
  let h2 := rs.foldl (fun h r => if queued r.rid then h else respondTo t r.rid r.tc r.rsp h) h1
  let gone := ws.map (fun w => (t, w.wid)) ++ rs.map (fun r => (t, r.rid))
  let mine := fun (x : Msg) => x.tid == some t && isRequest x.cls
  let h3 := { h2 with
    bd := { h2.bd with reads := h2.bd.reads.filter (fun r => r.tid != t), abandoned := h2.bd.abandoned ++ gone,
                       miss := h2.bd.miss.filter (fun x => !mine x) },
    ts := { h2.ts with pq := Store.del h2.ts.pq t, waiting := h2.ts.waiting.filter (fun e => e.msg.tid != some t) } }
  let p := ttPort (h3.ent t)
  let h4 := if wt.isEmpty || h3.ts.waiting.any (fun e => e.msg.ing == p) then h3 else h3.emit (.creditHold p true false)
  let h5 := h4.fset F.BD_TDRAIN_OUT t 0
  if (h.bd.miss.find? (fun x => x.ing == p)).any mine then missRun p h5 h5.bd.miss.length else h5

/-- R62: the Abort step starts: the data mover jobs of the tenant stop and its requests are retired. -/
def startAbort (t : Nat) (m : Mach) : Mach :=
  let m1 := m.onHw (fun h => h.setTState t 4)
  (abortJobs (fun _ j => jobNames t j.desc) m1).onHw (retireAll t)

/-- TENANT_DRAIN_END (R62): the drain counter is 0. -/
def execTenantDrainEnd (tid : Nat) (s : State) : Out :=
  onMach (fun m =>
    if ttState (m.hw.ent tid) = 3 ∧ m.hw.fget F.BD_TDRAIN_OUT tid = 0 then startAbort tid m else m) s

/-- TENANT_DRAIN_TIMEOUT (R62, R64): DRNTMO expires; an empty drain counter ends the drain as completed. -/
def execTenantDrainTimeout (tid : Nat) (s : State) : Out :=
  onMach (fun m =>
    if ttState (m.hw.ent tid) = 3 then
      let n := m.hw.fget F.BD_TDRAIN_OUT tid
      let m1 := startAbort tid m
      if n = 0 then m1
      else m1.onHw (fun h => h.raise { code := 0x0802, dom := domTenant, dinst := tid, addr := n, atype := 7 })
    else m) s

/-- The lines of extent `g` that the directory of this module or the local Cupola records host port `p` as holding. -/
def heldLines (h : Hw) (p g : Nat) : List Nat :=
  let dir := if g / 2 ^ 22 = h.sid then
      (h.hd.dir.filter (fun (x : Nat × DirEnt) => x.1 / 2 ^ 15 == g % 2 ^ 22 && x.2.has p)).map (fun x => x.1 % 2 ^ 15)
    else []
  let cup := (h.cu.lines.filter (fun (x : Nat × CuLine) => x.1 / 2 ^ 15 == g && inHold x.2.fmt x.2.hold p)).map
    (fun x => x.1 % 2 ^ 15)
  dir ++ cup

/-- R57, R58, R62, R118: every line of extent index `e` that the tenant's host holds is back-invalidated; a dead host is sent nothing, and its
lines wait for the reclaim (R152). -/
def flushExtent (t e : Nat) (h : Hw) : Hw :=
  let p := ttPort (h.ent t)
  let dead := h.isDead (h.agentOf p)
  let gs := (h.revAll.filter (fun (x : Nat × Nat × Nat) => x.2.1 == t && x.2.2 == e)).map Prod.fst
  gs.foldl (fun h g =>
    (heldLines h p g).foldl (fun h l =>
      if h.bd.flush.contains (p, t, e, l) || (dead && !h.hd.dead.any (fun d => d.agent == h.agentOf p && !d.done)) then h
      else
        let h1 := { h with bd := { h.bd with flush := h.bd.flush ++ [(p, t, e, l)] } }
        if dead then h1
        else h1.emit (.bisnp p t (e * 2 ^ 21 + l * 64) 2
          (if g / 2 ^ 22 = h.sid then h.aWait (g % 2 ^ 22 * 2 ^ 15 + l) p else 0))) h) h

/-- The extent indices that a tenant's entries map. -/
def Hw.mappedBy (h : Hw) (t : Nat) : List Nat :=
  sortNats ((h.revAll.filter (fun (x : Nat × Nat × Nat) => x.2.1 == t)).map (fun x => x.2.2))

/-- R62, R208: the cells of a tenant queued at egress, on-chip and in Dome, are freed; those that have still to cross, or are being read
back, are dropped when they come. -/
def freeQueued (t : Nat) (h : Hw) : Hw :=
  let mine := fun (e : EMsg) => e.rsp.isNone && e.msg.tid == some t
  let has := h.sw.eqs.filter (fun (x : Nat × EQ) => (x.2.head ++ x.2.dome ++ x.2.stage).any mine)
  let out := has.flatMap (fun (x : Nat × EQ) => (x.2.head ++ x.2.stage).filter mine)
  let h1 := has.foldl (fun h (x : Nat × EQ) => dropDome x.1 mine (h.setEq x.1 { x.2 with
    head := x.2.head.filter (fun e => !mine e), stage := x.2.stage.filter (fun e => !mine e) })) (voqGone mine h)
  (has.map Prod.fst).foldl (fun h q => leaveQueue q h) (out.foldl (fun h e => releaseCells e h) h1)

/-- R208: the page chains of the queues that a flush has shortened; `h` is the state before. -/
def rechainAll (h : Hw) (m : Mach) : Mach :=
  (h.sw.eqs.filter (fun (x : Nat × EQ) => (m.hw.eq x.1).pages != x.2.pages)).foldl (fun m x => rechain x.1 (x.2.pages.map Prod.fst) m) m

/-- R62: the Flush step starts. -/
def startFlush (t : Nat) (h : Hw) : Hw :=
  let h1 := (paceClear t (freeQueued t h)).uncacheAll t
  let h2 := { h1 with bd := { h1.bd with seqs := Store.modify h1.bd.seqs t (fun s => { s with flushing := true }) } }
  if ttHdmDb (h2.ent t) then (h2.mappedBy t).foldl (fun h e => flushExtent t e h) h2 else h2

/-- TENANT_ABORT_END (R62): every job and request of the tenant is retired, and the flush step starts. -/
def execTenantAbortEnd (tid : Nat) (s : State) : Out :=
  onMach (fun m =>
    if ttState (m.hw.ent tid) = 4 ∧ (m.hw.seq tid).any (fun s => !s.flushing) ∧
        !m.hw.dm.jobs.any (fun (x : Nat × DmJob) => jobNames tid x.2.desc) then rechainAll m.hw (m.onHw (startFlush tid))
    else m) s

/-- TENANT_FLUSH_END (R62): every back-invalidation is answered or reclaimed. -/
def execTenantFlushEnd (tid : Nat) (s : State) : Out :=
  onHw (fun h =>
    if ttState (h.ent tid) = 4 ∧ (h.seq tid).any (fun s => s.flushing) ∧
        !h.bd.flush.any (fun (x : Nat × Nat × Nat × Nat) => x.2.1 == tid) then h.setTState tid 5
    else h) s

/-! ### Backing -/

/-- An ALLOC request to a peer, with the next tag (R655). -/
def sendAlloc (op g cnt t : Nat) (h : Hw) : Hw :=
  let tag := h.bd.nextTag
  { h with bd := { h.bd with nextTag := (tag + 1) % 65536,
                             allocs := h.bd.allocs ++ [AllocReq.mk op (g / 2 ^ 22) tag g cnt t] } }.emitAlloc
    (g / 2 ^ 22) op 0 tag (g % 2 ^ 22) cnt

/-- BINDCNT of a local extent lowered by one; at 0 the extent is zeroed (R57 step 5). -/
def decLocal (e : Nat) (h : Hw) : Hw :=
  let r := h.arec e
  if r.cnt ≤ 1 then extentReleased e h else h.setArec e { r with cnt := r.cnt - 1 }

/-- BINDCNT of a never accessible local backing returned: free at once, not zeroed (R54). -/
def unclaimLocal (e : Nat) (h : Hw) : Hw :=
  let r := h.arec e
  h.setArec e { r with cnt := r.cnt - 1 }

/-- R57 step 4: BINDCNT is decremented at the backing's home. -/
def decBack (g t : Nat) (h : Hw) : Hw :=
  if g / 2 ^ 22 = h.sid then decLocal (g % 2 ^ 22) h
  else if h.isDead (cupAgent (g / 2 ^ 22)) then h
  else sendAlloc 3 g 1 t h

/-- R54: backing that was never accessible is returned: UNCLAIM, or DEC where it is shared. -/
def returnBack (shared : Bool) (g t : Nat) (h : Hw) : Hw :=
  if g / 2 ^ 22 = h.sid then (if shared then decLocal (g % 2 ^ 22) h else unclaimLocal (g % 2 ^ 22) h)
  else if h.isDead (cupAgent (g / 2 ^ 22)) then h
  else sendAlloc (if shared then 3 else 4) g 1 t h

/-- A mapping leaves the reverse map and the tag array. -/
def dropMap (g t e : Nat) (h : Hw) : Hw :=
  let h1 := h.revRemove (fun x => x == (g, t, e))
  { h1 with bd := { h1.bd with tagArr := Store.del h1.bd.tagArr (xcKey t e) } }

/-- R62, R247, R363: the end of an unbind: every extent with V or PEND is released under R57 steps 4 and 5, TS_PACE and AG_TDEF
return to their reset values, and so does the entry but for TGEN. -/
def unbindEnd (t : Nat) (m : Mach) : Mach :=
  let e := m.hw.ent t
  let maps := m.hw.revAll.filter (fun (x : Nat × Nat × Nat) => x.2.1 == t)
  m.onHw (fun h =>
    let h1 := maps.foldl (fun h x => dropMap x.1 t x.2.2 (decBack x.1 t h)) h
    let h2 := { h1 with bd := { h1.bd with
      adds := h1.bd.adds.filter (fun a => a.tid != t), rels := h1.bd.rels.filter (fun r => r.tid != t),
      seqs := Store.del h1.bd.seqs t } }
    let h3 := [F.TS_PACE_RATE, F.TS_PACE_TQ, F.AG_TDEF_R, F.AG_TDEF_W, F.AG_TDEF_X].foldl
      (fun h f => h.fset f t (rstOf f t)) (unbindRoutes t (h2.uncacheAll t))
    (h3.setEnt t (ttGen e * 2 ^ 32)).emit (.vppb (ttPort e) (ttVppb e) false))

/-- Whether an extent of the tenant is migrating: its release waits (R59). -/
def tenantMigrating (m : Mach) (t : Nat) : Bool := (m.hw.mappedBy t).any (fun e => etMst (m.et t e) != 0)

/-- R62, R63: the end of a reset or unbind, Q after Stop. -/
def quarantineEnd (t : Nat) (m : Mach) : Mach :=
  match m.hw.seq t with
  | none => m
  | some s =>
    if ttState (m.hw.ent t) ≠ 5 then m
    else if s.unbind then (if tenantMigrating m t then m else unbindEnd t m)
    else m.onHw (fun h =>
      let e := h.ent t
      let h1 := h.setEnt t (putBits (putBits e 0 3 2) 32 4 (ttGen e + 1))
      { h1 with bd := { h1.bd with seqs := Store.del h1.bd.seqs t } })

end Sys2Proof.Machine
end

