-- ==== Sys2Proof/Machine/Capacity.lean ====
section
/-! DEFINITION. Dynamic capacity: adds (R49 to R55), releases (R56 to R60), the fabric manager's commands and Turret's queue
(R44, R45, R555), and the ALLOC protocol between a module and a home (R655). -/
namespace Sys2Proof.Machine

/-! ### Choosing tenant offsets (R49, R51) -/

/-- Whether extent index `e` of a tenant is neither V nor PEND. -/
def unbacked (m : Mach) (t e : Nat) : Bool := let x := m.et t e; !etV x && !etPend x

/-- The extent indices of pairs of start and length in bytes, or none where one is not a multiple of 2 MiB. -/
def listIdx (l : List (Nat × Nat)) : Option (List Nat) :=
  if l.all (fun p => p.1 % 2 ^ 21 == 0 && p.2 % 2 ^ 21 == 0) then
    some (l.flatMap (fun p => (List.range (p.2 / 2 ^ 21)).map (p.1 / 2 ^ 21 + ·)))
  else none

/-- The lowest `n` unbacked indices from `i`. -/
def lowestFree (m : Mach) (t n i : Nat) : Nat → List Nat
  | 0 => []
  | f + 1 =>
    if n = 0 then []
    else if unbacked m t i then i :: lowestFree m t (n - 1) (i + 1) f
    else lowestFree m t n (i + 1) f

/-- The lowest run of `n` unbacked indices: `run` indices before `i` are unbacked. -/
def lowestRun (m : Mach) (t n run i : Nat) : Nat → Option Nat
  | 0 => if n ≤ run then some (i - n) else none
  | f + 1 =>
    if n ≤ run then some (i - n)
    else if unbacked m t i then lowestRun m t n (run + 1) (i + 1) f
    else lowestRun m t n 0 (i + 1) f

/-- R49, R51: the extent indices of an add, or the FM API return code of its refusal. DESIGN CHOICE: a listed start that is not a
multiple of 2 MiB answers Resources Exhausted, as R51 says of the length, and so does a list that names an extent twice. -/
def chooseIdx (m : Mach) (r : AddReq) : Except Nat (List Nat) :=
  let len := ttEtlen (m.hw.ent r.tid)
  let n := r.len / 2 ^ 21
  match r.policy with
  | 0 =>
    if r.len % 2 ^ 21 ≠ 0 then .error fmExhausted
    else
      let l := lowestFree m r.tid n 0 len
      if l.length = n then .ok l else .error fmExhausted
  | 1 =>
    if r.len % 2 ^ 21 ≠ 0 then .error fmExhausted
    else match lowestRun m r.tid n 0 0 len with
      | some s => .ok ((List.range n).map (s + ·))
      | none => .error fmExhausted
  | 2 | 3 =>
    match listIdx r.list with
    | none => .error fmExhausted
    | some l =>
      if l.all (fun e => decide (e < len) && unbacked m r.tid e) && decide l.Nodup then .ok l else .error fmExhausted
  | _ => .error fmInvalid

/-! ### Choosing backing (R50) -/

/-- The free local extents in the order of R50: in GROUPED mode those of the given group first. -/
def localFree (h : Hw) (grp : Nat) : List Nat :=
  let l := (List.range h.domeExt).filter h.extFree
  if h.grouped then l.filter (fun e => h.groupOf e == grp) ++ l.filter (fun e => h.groupOf e != grp) else l

/-- The homes in the order of R50. -/
def homeOrder (first : Nat) : List Nat := (List.range 8).map (fun i => (first + i) % 8)

/-- The stored add of a tenant and tag replaced by `a`, kept in its place. -/
def putAdd (a : AddRec) (h : Hw) : Hw :=
  let same := fun (x : AddRec) => x.tid == a.tid && x.tag == a.tag && x.records.isEmpty
  if h.bd.adds.any same then { h with bd := { h.bd with adds := updateFirst same (fun _ => a) h.bd.adds } }
  else { h with bd := { h.bd with adds := h.bd.adds ++ [a] } }

/-- An add that is over, or not raised, is removed. -/
def dropAdd (a : AddRec) (h : Hw) : Hw :=
  { h with bd := { h.bd with adds := removeFirst (fun x => x.tid == a.tid && x.tag == a.tag && x.records.isEmpty) h.bd.adds } }

/-- R555: the information fault of a refused policy bind (`add` 0) or add (1). -/
def policyRef (port vppb ret add : Nat) (h : Hw) : Hw :=
  h.raise { code := 0x0002, dom := domPort, dinst := port, addr := ret + vppb * 2 ^ 16 + add * 2 ^ 32 }

/-- The end of an add with its return code: to the fabric manager, or as POLICYREF for a refused policy (R555). -/
def addDone (a : AddRec) (ret : Nat) (h : Hw) : Hw :=
  if a.policy then
    if ret = 0 then h else policyRef (ttPort (h.ent a.tid)) (ttVppb (h.ent a.tid)) ret 1 h
  else h.emit (.fmAdd a.tid a.tag ret)

/-- R51, R655: an add fails: the backing chosen so far is returned and nothing else has changed. -/
def addFail (a : AddRec) (ret : Nat) (h : Hw) : Hw :=
  addDone a ret (dropAdd a (a.exts.foldl (fun h x => returnBack a.shared x.gext a.tid h) h))

/-- The extents in rising order of extent index. -/
def sortExts (l : List PendExt) : List PendExt :=
  (l.foldl (fun m x => Store.put m x.eidx x.gext) ([] : SMap Nat)).map (fun x => ⟨x.1, x.2⟩)

/-- R53: the fewest records, each a contiguous run of tenant offsets backed from one home. -/
def recordsOf (tag : Nat) (l : List PendExt) : List AddExt :=
  (l.foldl (fun (acc : List (AddExt × Nat)) x =>
    match acc with
    | (r, home) :: rest =>
      if r.start + r.len = x.eidx ∧ home = x.gext / 2 ^ 22 then ({ r with len := r.len + 1 }, home) :: rest
      else (⟨tag, x.eidx, 1⟩, x.gext / 2 ^ 22) :: acc
    | [] => [(⟨tag, x.eidx, 1⟩, x.gext / 2 ^ 22)]) []).reverse.map Prod.fst

/-- R52, R53: the entries are written with PEND, the shared entries marked, the tags kept, and the event raised. -/
def addRaise (a : AddRec) (m : Mach) : Mach :=
  let l := sortExts a.exts
  let m1 := l.foldl (fun m x =>
    let m1 := m.setEt a.tid x.eidx (etMake false true a.shared x.gext)
    let m2 := m1.onHw (fun h => { h.revInsert x.gext a.tid x.eidx with bd := { (h.revInsert x.gext a.tid x.eidx).bd with
      tagArr := Store.put h.bd.tagArr (xcKey a.tid x.eidx) a.tag } })
    if a.shared then
      (mapEntries x.gext (fun y => putBits y 4 1 1) m2).onHw (fun h =>
        (h.mapsOf x.gext).foldl (fun h y => h.uncache y.1 y.2) h)
    else m2) m
  let rs := recordsOf a.tag l
  m1.onHw (fun h =>
    let h1 := dropAdd a h
    let h2 := { h1 with bd := { h1.bd with adds := h1.bd.adds ++ [{ a with exts := l, records := rs }] } }
    addDone a fmSuccess (h2.emit (.addCapacity a.tid rs)))

/-- BUSY of BD_TTSTAT (R75). -/
def setBusy (b : Bool) (h : Hw) : Hw := h.fset F.BD_TTSTAT_BUSY 0 (b2n b)

/-- R50, R317, R655: the free extents of a peer in the order of R50. The records are read through their GPA, which the model holds no
copy of: which extents are free is a free value (one bit each), and so are the peer's mode and the bounds of the named group there. -/
def peerFree (h : Hw) : List Nat × Hw :=
  let x := h.takeFree
  let l := (List.range (2 ^ 22)).filter (bitAt x.1)
  let g := x.2.takeFree
  if g.1 % 2 = 1 then
    let y := g.2.takeFree
    let inGrp := fun (e : Nat) => decide (bits y.1 0 22 ≤ e ∧ e < bits y.1 22 23)
    (l.filter inGrp ++ l.filter (fun e => !inGrp e), y.2)
  else (l, g.2)

/-- The length of the run of consecutive numbers that a list starts with, at most `n`. -/
def runLen (l : List Nat) : Nat → Nat
  | 0 => 0
  | n + 1 =>
    match l with
    | [] => 0
    | [_] => 1
    | a :: b :: r => if b = a + 1 then runLen (b :: r) n + 1 else 1

/-- R38: the records of this module's extents that Turret reads as poison from both copies count as FAILED. -/
def noteRecs (m : Mach) : Mach := (List.range m.hw.domeExt).foldl (fun m e => m.noteRec e) m

/-- R50: backing is taken home by home in ascending GEXT order: directly at this module, and by CLAIMs of runs at a peer; the answer
is awaited. -/
def addStep (a : AddRec) (m : Mach) : Nat → Mach
  | 0 => m.onHw (addFail a fmExhausted)
  | f + 1 =>
    match a.todo, a.homes with
    | [], _ => (addRaise a m).onHw (setBusy false)
    | _, [] => (m.onHw (addFail a fmExhausted)).onHw (setBusy false)
    | todo, home :: rest =>
      if home = m.hw.sid then
        let m0 := noteRecs m
        let free := (localFree m0.hw a.grp).take todo.length
        let new := (todo.zip free).map (fun x => PendExt.mk x.1 (home * 2 ^ 22 + x.2))
        let m1 := m0.onHw (fun h => free.foldl (fun h e => h.setArec e ⟨1, false, false, false⟩) h)
        addStep { a with todo := todo.drop free.length, homes := rest, exts := a.exts ++ new } m1 f
      else if bitAt (m.hw.fget F.SL_STKSTAT_ALIVE 0) home && !m.hw.isDead (cupAgent home) then
        let x := peerFree m.hw
        let m1 := { m with hw := x.2 }
        match x.1 with
        | [] => addStep { a with homes := rest } m1 f
        | first :: _ =>
          let n := runLen x.1 todo.length
          m1.onHw (fun h => putAdd { a with await := 1 } (sendAlloc 1 (home * 2 ^ 22 + first) n a.tid (setBusy true h)))
      else addStep { a with homes := rest } m f

/-- The homes and the group that an add starts with (R50). -/
def addHome (h : Hw) (r : AddReq) : Nat × Nat :=
  r.home.getD (h.fget F.BD_ALLOC_HOME 0, h.fget F.BD_ALLOC_GROUP 0)

/-- R52: a shared add takes the backing of the named extents, by INC where its home is a peer. -/
def addShared (a : AddRec) (pairs : List PendExt) (m : Mach) : Mach :=
  let far := pairs.filter (fun x => x.gext / 2 ^ 22 != m.hw.sid)
  let dead := far.any (fun x => m.hw.isDead (cupAgent (x.gext / 2 ^ 22)))
  if dead then m.onHw (addDone a fmExhausted)
  else
    let a' := { a with exts := pairs, await := far.length }
    let m1 := m.onHw (fun h =>
      (pairs.filter (fun x => x.gext / 2 ^ 22 == h.sid)).foldl (fun h x =>
        let e := x.gext % 2 ^ 22
        h.setArec e { h.arec e with cnt := (h.arec e).cnt + 1, shared := true }) h)
    if far.isEmpty then addRaise a' m1
    else m1.onHw (fun h => putAdd a' (far.foldl (fun h x => sendAlloc 2 x.gext 1 a.tid h) (setBusy true h)))

/-- R49 to R53, R65, R300: an add runs. DESIGN CHOICE: one for a FREE tenant or one whose KIND is not POOL answers Invalid Input, and so does
Enable Shared Access whose two lists differ in length or whose source extents are not V, lie outside their table or belong to a FREE
tenant. -/
def startAdd (policy : Bool) (r : AddReq) (m : Mach) : Mach :=
  let hg := addHome m.hw r
  let a : AddRec := ⟨r.tid, r.tag, r.policy == 3, hg.2, [], homeOrder hg.1, [], 0, false, policy, []⟩
  let bad := fun (ret : Nat) => m.onHw (addDone a ret)
  let e := m.hw.ent r.tid
  if m.hw.contained 0 then bad fmBusy
  else if 3 ≤ ttState e ∧ ttState e ≤ 5 then bad fmBusy
  else if ttState e ≠ 2 ∨ ttKind e ≠ 0 then bad fmInvalid
  else
    match chooseIdx m r with
    | .error c => bad c
    | .ok l =>
      if r.policy = 3 then
        match listIdx r.srcList with
        | none => bad fmInvalid
        | some src =>
          let ents := src.map (m.et r.srcTid)
          let db := fun (t : Nat) => ttHdmDb (m.hw.ent t)
          if src.length ≠ l.length ∨ src.any (fun x => decide (ttEtlen (m.hw.ent r.srcTid) ≤ x)) ∨
              ttState (m.hw.ent r.srcTid) = 0 ∨ ents.any (fun x => !etV x) then bad fmInvalid
          else if ents.any (fun x => etMst x != 0) then bad fmBusy
          else if !db r.tid || ents.any (fun x => (m.hw.mapsOf (etGext x)).any (fun y => !db y.1)) then bad fmInvalid
          else addShared a ((l.zip ents).map (fun x => ⟨x.1, etGext x.2⟩)) m
      else addStep { a with todo := l } m 64

/-! ### The host's answer -/

/-- R54: the records of an add decided: `ok` says which are accepted. -/
def decideAdd (a : AddRec) (ok : AddExt → Bool) (m : Mach) : Mach :=
  let inRec := fun (e : Nat) => (a.records.find? (fun r => decide (r.start ≤ e ∧ e < r.start + r.len))).any ok
  let m1 := a.exts.foldl (fun m x =>
    let y := m.et a.tid x.eidx
    if inRec x.eidx then m.setEt a.tid x.eidx (putBits y 0 2 1)
    else (m.setEt a.tid x.eidx (putBits y 1 1 0)).onHw (fun h =>
      returnBack a.shared x.gext a.tid (dropMap x.gext a.tid x.eidx h))) m
  m1.onHw (fun h => { h with bd := { h.bd with adds := h.bd.adds.erase a } })

/-- Whether a response record (tag, start DPA, length in bytes) matches a pending record (R54). -/
def matchRec (r : AddExt) (x : Nat × Nat × Nat) : Bool :=
  x.1 == r.tag && x.2.1 == r.start * 2 ^ 21 && x.2.2 == r.len * 2 ^ 21

/-- R54: a response decides every add one of whose records it names. DESIGN CHOICE: one with no records decides the tenant's oldest add, as
wholly not accepted. -/
def addResponse (t : Nat) (l : List (Nat × Nat × Nat)) (m : Mach) : Mach :=
  let open_ := m.hw.bd.adds.filter (fun a => a.tid == t && !a.records.isEmpty)
  let hit := if l.isEmpty then open_.take 1 else open_.filter (fun a => a.records.any (fun r => l.any (matchRec r)))
  hit.foldl (fun m a => decideAdd a (fun r => l.any (matchRec r)) m) m

/-- ADD_DYNAMIC_CAPACITY_RESPONSE (R54). -/
def execAddDynamicCapacityResponse (tid : Nat) (accepted : List (Nat × Nat × Nat)) (s : State) : Out :=
  onMach (addResponse tid accepted) s

/-- ADD_TIMEOUT (R55): every record counts as not accepted, and Timeout is reported. -/
def execAddTimeout (tid tag : Nat) (s : State) : Out :=
  onMach (fun m =>
    match m.hw.bd.adds.find? (fun a => a.tid == tid && a.tag == tag && !a.records.isEmpty) with
    | none => m
    | some a => (decideAdd a (fun _ => false) m).onHw (fun h => h.emit (.dcTimeout tid tag))) s

/-! ### Releases -/

/-- R57 step 1: V is cleared, the cache entry is invalidated and the drain mark is armed; R59: a migrating extent waits. -/
def releaseOne (t e : Nat) (m : Mach) : Mach :=
  let x := m.et t e
  if etMst x = 1 ∨ etMst x = 2 then
    m.onHw (fun h => { h with bd := { h.bd with rels := h.bd.rels ++ [RelRec.mk t e (etGext x) 0] } })
  else
    (m.setEt t e (putBits x 0 1 0)).onHw (fun h =>
      let h1 := (h.uncache t e).armDrain t
      { h1 with bd := { h1.bd with rels := h1.bd.rels ++ [⟨t, e, etGext x, 1⟩] } })

/-- R60, R65: the checks of a release: the return code, or the extent indices. DESIGN CHOICE: a list that is not in whole extents, or
that names an extent twice or one that already waits in a release, answers Invalid Input. -/
def releaseCheck (m : Mach) (t : Nat) (l : List (Nat × Nat)) : Except Nat (List Nat) :=
  let ent := m.hw.ent t
  if 3 ≤ ttState ent ∧ ttState ent ≤ 5 then .error fmBusy
  else if ttState ent ≠ 2 ∨ ttKind ent ≠ 0 then .error fmInvalid
  else
    match listIdx l with
    | none => .error fmInvalid
    | some is =>
      let bad := fun (e : Nat) => decide (ttEtlen ent ≤ e) || etPend (m.et t e) || !etV (m.et t e) ||
        m.hw.bd.rels.any (fun r => r.tid == t && r.eidx == e)
      if is.any bad || !decide is.Nodup then .error fmInvalid else .ok is

/-- R56, R57, R60: a release: its return code and effect. -/
def release (t : Nat) (l : List (Nat × Nat)) (m : Mach) : Nat × Mach :=
  match releaseCheck m t l with
  | .error c => (c, m)
  | .ok is => (fmSuccess, is.foldl (fun m e => releaseOne t e m) m)

/-- RELEASE_DYNAMIC_CAPACITY (R56, R57, R60): the host's release. -/
def execReleaseDynamicCapacity (tid : Nat) (list : List (Nat × Nat)) (s : State) : Out :=
  onMach (fun m =>
    let r := release tid list m
    r.2.onHw (fun h => h.emit (.hostCci tid r.1))) s

/-- The records of a tenant's releases in step `a` moved to step `b`. -/
def relStep (t a b : Nat) (h : Hw) : Hw :=
  { h with bd := { h.bd with rels := h.bd.rels.map (fun r =>
      if r.tid == t && r.step == a then { r with step := b } else r) } }

/-- R57 step 3: the drain of a tenant's releases is over; the host's lines are back-invalidated. -/
def releaseBi (t : Nat) (h : Hw) : Hw :=
  let es := (h.bd.rels.filter (fun r => r.tid == t && r.step == 1)).map (fun r => r.eidx)
  let h1 := relStep t 1 2 h
  if ttHdmDb (h1.ent t) then es.foldl (fun h e => flushExtent t e h) h1 else h1

/-- RELEASE_DRAIN_DONE (R57): BD_TDRAIN reports VIS. -/
def execReleaseDrainDone (tid : Nat) (s : State) : Out :=
  onHw (fun h =>
    if h.flag F.BD_TDRAIN_VIS tid && h.bd.rels.any (fun r => r.tid == tid && r.step == 1) then releaseBi tid h else h) s

/-- RELEASE_DRAIN_TIMEOUT (R60): DRNTMO expires; the release goes on with an information fault. -/
def execReleaseDrainTimeout (tid : Nat) (s : State) : Out :=
  onHw (fun h =>
    if h.bd.rels.any (fun r => r.tid == tid && r.step == 1) then
      (releaseBi tid h).raise { code := 0x0802, dom := domTenant, dinst := tid, atype := 7 }
    else h) s

/-- R57 step 4: BINDCNT is decremented at the backing's home; a peer's answer is awaited. -/
def releaseBack (r : RelRec) (h : Hw) : Hw :=
  let g := r.gext
  let h1 := decBack g r.tid (dropMap g r.tid r.eidx h)
  let far := g / 2 ^ 22 ≠ h.sid ∧ !h.isDead (cupAgent (g / 2 ^ 22))
  { h1 with bd := { h1.bd with
      rels := if far then updateFirst (· == r) (fun x => { x with step := 3 }) h1.bd.rels
        else h1.bd.rels.erase r } }

/-- RELEASE_BI_DONE (R57, R58): the back-invalidations of an extent are answered or reclaimed. -/
def execReleaseBiDone (tid eidx : Nat) (s : State) : Out :=
  onHw (fun h =>
    match h.bd.rels.find? (fun r => r.tid == tid && r.eidx == eidx && r.step == 2) with
    | none => h
    | some r =>
      if h.bd.flush.any (fun (x : Nat × Nat × Nat × Nat) => x.2.1 == tid && x.2.2.1 == eidx) then h else releaseBack r h) s

/-- RELEASE_MIGRATION_WAIT_END (R59): MST is STABLE again, and the release goes on with the GEXT in use now. -/
def execReleaseMigrationWaitEnd (tid eidx : Nat) (s : State) : Out :=
  onMach (fun m =>
    match m.hw.bd.rels.find? (fun r => r.tid == tid && r.eidx == eidx && r.step == 0) with
    | none => m
    | some r =>
      if etMst (m.et tid eidx) = 0 then
        releaseOne tid eidx (m.onHw (fun h => { h with bd := { h.bd with rels := h.bd.rels.erase r } }))
      else m) s

/-- EXTENT_ZERO_DONE (R39, R57 step 5): the zeroing FILL of an extent is complete: DIRTY is cleared. -/
def execExtentZeroDone (ext : Nat) (s : State) : Out :=
  onHw (fun h =>
    if h.dm.zero.contains ext && h.dm.zeroed.contains ext then
      let h1 := { h with dm := { h.dm with zero := h.dm.zero.erase ext, zeroed := h.dm.zeroed.erase ext } }
      h1.setArec ext { h1.arec ext with dirty := false }
    else h) s

/-! ### The fabric manager's commands and policies -/

/-- The BINDPOLICY record that names a host port and vPPB (R555). -/
def polFor (h : Hw) (port vppb : Nat) : Option Nat :=
  h.bd.policies.find? (fun r => bits r 0 7 == port && bits r 8 5 == vppb)

/-- The lowest FREE TID (R30), from `i`. -/
def freeTid (h : Hw) (i : Nat) : Nat → Option Nat
  | 0 => none
  | n + 1 => if ttState (h.ent i) = 0 then some i else freeTid h (i + 1) n

/-- R45, R316: where Turret places a table of `n` entries: behind the store's first 16 MiB and clear of the reverse map's entries; within that
the spec gives no rule, so a free value names the place where it fits, else a place behind those areas or another table. -/
def placeTable (t n : Nat) (h : Hw) : Option Nat × Hw :=
  let x := h.takeFree
  let first := h.storeFirst * 512 + 4096
  let base := h.storeFirst * 2 ^ 21
  let fits := fun (c : Nat) => decide (first ≤ c) && tableFits x.2 t (c * 4096) n &&
    h.bd.rev.all (fun y => decide (base + 16 * y.1 + 16 ≤ c * 4096 ∨ c * 4096 + 16 * n ≤ base + 16 * y.1))
  let c := x.1 % 2 ^ 31
  if fits c then (some c, x.2)
  else
    let cs := first :: (otherTables h t).map (fun y => (y.2 + 4095) / 4096) ++
      [(base + 16 * (h.bd.rev.foldl (fun k y => max k y.1) 0 + 1) + 4095) / 4096]
    (cs.find? fits, x.2)

/-- R45, R555: the entry of a pool bind from its policy record. -/
def polEntry (rec port vppb base : Nat) : Nat :=
  bits rec 17 1 * 2 ^ 3 + bits rec 16 1 * 2 ^ 4 + port * 2 ^ 7 + vppb * 2 ^ 14 + bits rec 32 26 * 2 ^ 36 +
    base * 2 ^ 64 + bits rec 144 16 * 2 ^ 96 + bits rec 136 7 * 2 ^ 112

/-- R45, R555: the policy record's pacing and default map of the tenant. -/
def polApply (rec t : Nat) (h : Hw) : Hw :=
  let d := bits rec 160 3
  ((((rateWrite t (bits rec 96 20) h).fset F.TS_PACE_TQ t (bits rec 128 4)).fset F.AG_TDEF_R t d).fset F.AG_TDEF_W t
    (d / 2)).fset F.AG_TDEF_X t (d / 4)

/-- R44: Turret's BIND of entry `e` to TID `t`, executed through BD_TTCMD. DESIGN CHOICE: a check of R46 or R74 that fails, such as a
vPPB or LD that is bound already, answers Invalid Input. -/
def turretBind (t e : Nat) (m : Mach) : Nat × Mach :=
  let m1 := m.onHw (fun h => setTtcmd t 3 (stageEnt e h))
  match bindCheck m1.hw t e with
  | some r => (fmInvalid, m1.onHw (ttResult r))
  | none => (fmSuccess, (doBind t e m1).onHw (ttResult 0))

/-- R30, R45, R46, R310, R311: a bind of a pool LD instance from its policy record: Busy before READY, Resources Exhausted without a
store or a TID. DESIGN CHOICE: these are decided before the other checks, and a table that the store has no room for answers
Resources Exhausted. -/
def poolBind (port vppb rec : Nat) (m : Mach) : Nat × Option Nat × Mach :=
  if !m.hw.flag F.DD_STAT_READY 0 then (fmBusy, none, m)
  else if m.hw.fget F.DD_STAT_GRPUSE 0 = 0 then (fmExhausted, none, m)
  else
  match freeTid m.hw 0 8192 with
  | none => (fmExhausted, none, m)
  | some t =>
    let x := placeTable t (bits rec 32 26) m.hw
    match x.1 with
    | none => (fmExhausted, none, { m with hw := x.2 })
    | some b =>
      let r := turretBind t (polEntry rec port vppb b) { m with hw := x.2 }
      if r.1 = 0 then (0, some t, r.2.onHw (polApply rec t)) else (r.1, none, r.2)

/-- R45, R46: Bind vPPB. -/
def bindVppb (port vppb phys ldid : Nat) (m : Mach) : Nat × Mach :=
  if m.hw.contained 0 then (fmBusy, m)
  else if phys = poolPort then
    if ldid ≠ 0xFFFF then (fmInvalid, m)
    else match polFor m.hw port vppb with
      | none => (fmInvalid, m)
      | some rec =>
        let r := poolBind port vppb rec m
        (r.1, r.2.2)
  else if phys ≤ 71 ∧ port ≤ 71 ∧ vppb ≤ 31 ∧ (ldid ≤ 15 ∨ ldid = 0xFFFF) then
    match freeTid m.hw 0 8192 with
    | none => (fmExhausted, m)
    | some t =>
      let kind := if ldid = 0xFFFF then 2 else 1
      turretBind t (kind * 2 ^ 5 + port * 2 ^ 7 + vppb * 2 ^ 14 + (if kind = 1 then ldid else 0) * 2 ^ 19 +
        phys * 2 ^ 23) m
  else (fmInvalid, m)

/-- R61, R65: Unbind vPPB. -/
def unbindVppb (port vppb : Nat) (h : Hw) : Nat × Hw :=
  if h.contained 0 then (fmBusy, h)
  else match h.tenantAt port vppb with
    | none => (fmInvalid, h)
    | some t =>
      let r := askUnbind t (setTtcmd t 5 h)
      (fmSuccess, ttResult r.1 r.2)

/-- R555: one policy record is applied: the bind, and after it the add. A vPPB that is bound keeps its tenant. -/
def applyPolicy (port rec : Nat) (m : Mach) : Mach :=
  let vppb := bits rec 8 5
  if bits rec 0 7 ≠ port ∨ bitAt rec 20 ∨ (m.hw.tenantAt port vppb).isSome then m
  else if m.hw.contained 0 then m.onHw (policyRef port vppb fmBusy 0)
  else
    let r := poolBind port vppb rec m
    match r.2.1 with
    | none => r.2.2.onHw (policyRef port vppb r.1 0)
    | some t =>
      let pol := bits rec 18 2
      if pol = 1 ∨ pol = 2 then
        startAdd true ⟨t, pol - 1, bits rec 64 26 * 2 ^ 21, [], 0, [], some (bits rec 24 3, bits rec 27 2), 0⟩ r.2.2
      else r.2.2

/-- R44, R555: the policies of a port from record `i` on, until one keeps Turret busy; the rest then waits first. -/
def runPolicies (port i : Nat) (m : Mach) : Nat → Mach
  | 0 => m
  | n + 1 =>
    match (m.hw.bd.policies.drop i).head? with
    | none => m
    | some rec =>
      let m1 := applyPolicy port rec m
      if m1.hw.flag F.BD_TTSTAT_BUSY 0 then
        m1.onHw (fun h => { h with bd := { h.bd with cmdq := .policy port (i + 1) :: h.bd.cmdq } })
      else runPolicies port (i + 1) m1 n

/-- A fabric manager command or policy bind runs (R44). -/
def runCmd (c : FmCmd) (m : Mach) : Mach :=
  match c with
  | .bind port vppb phys ldid =>
    let r := bindVppb port vppb phys ldid m
    r.2.onHw (fun h => h.emit (.fmDone c r.1))
  | .unbind port vppb =>
    m.onHw (fun h =>
      let r := unbindVppb port vppb h
      r.2.emit (.fmDone c r.1))
  | .policy port i => runPolicies port i m (m.hw.bd.policies.length + 1)
  | .add r => startAdd false r m
  | .release t l forced =>
    if m.hw.contained 0 then m.onHw (fun h => h.emit (.fmDone c fmBusy))
    else if forced then
      let r := release t l m
      r.2.onHw (fun h => h.emit (.fmDone c r.1))
    else
      match releaseCheck m t l with
      | .error e => m.onHw (fun h => h.emit (.fmDone c e))
      | .ok _ => m.onHw (fun h => (h.emit (.relCapacity t l)).emit (.fmDone c fmSuccess))

/-- R44, R311: whether a command may start: BUSY is 0, and a policy bind waits for READY. -/
def Hw.cmdReady (h : Hw) (c : FmCmd) : Bool :=
  !h.flag F.BD_TTSTAT_BUSY 0 &&
    (match c with
     | .policy _ _ => h.flag F.DD_STAT_READY 0
     | _ => true)

/-- R44: a command runs at once when it may and no other that may start waits, else it waits in Turret's queue. -/
def arriveCmd (c : FmCmd) (m : Mach) : Mach :=
  if m.hw.cmdReady c && !m.hw.bd.cmdq.any m.hw.cmdReady then runCmd c m
  else m.onHw (fun h => { h with bd := { h.bd with cmdq := h.bd.cmdq ++ [c] } })

/-- QUEUED_COMMAND_START (R44, R311): the oldest waiting command that may start does. -/
def execQueuedCommandStart (s : State) : Out :=
  onMach (fun m =>
    match m.hw.bd.cmdq.find? m.hw.cmdReady with
    | none => m
    | some c => runCmd c (m.onHw (fun h => { h with bd := { h.bd with cmdq := h.bd.cmdq.erase c } }))) s

/-- BIND_VPPB (R45, R46). -/
def execBindVppb (port vppb phys ldid : Nat) (s : State) : Out := onMach (arriveCmd (.bind port vppb phys ldid)) s

/-- UNBIND_VPPB (R61). -/
def execUnbindVppb (port vppb : Nat) (s : State) : Out := onMach (arriveCmd (.unbind port vppb)) s

/-- POLICY_BIND (R44, R555): a host port trains. -/
def execPolicyBind (port : Nat) (s : State) : Out := onMach (arriveCmd (.policy port 0)) s

/-- INITIATE_DYNAMIC_CAPACITY_ADD (R49 to R53). -/
def execInitiateDynamicCapacityAdd (r : AddReq) (s : State) : Out := onMach (arriveCmd (.add r)) s

/-- INITIATE_DYNAMIC_CAPACITY_RELEASE (R56). -/
def execInitiateDynamicCapacityRelease (tid : Nat) (list : List (Nat × Nat)) (forced : Bool) (s : State) : Out :=
  onMach (arriveCmd (.release tid list forced)) s

/-! ### ALLOC (R655) -/

/-- The local extents of a run. -/
def runOf (first cnt : Nat) : List Nat := (List.range cnt).map (first + ·)

/-- A frame counts only from a peer that is ALIVE (R434). -/
def fromAlive (src : Nat) (f : Hw → Hw) (h : Hw) : Hw := if bitAt (h.fget F.SL_STKSTAT_ALIVE 0) src then f h else h

/-- The answer to an ALLOC request. -/
def allocReply (src tag result first cnt : Nat) (h : Hw) : Hw := h.emitAlloc src 0xF result tag first cnt

/-- CLAIM at the home, whose Turret reads the records of the run (R38). -/
def allocClaim (src tag first cnt : Nat) (h : Hw) : Hw :=
  let es := runOf first cnt
  if es.all h.extFree then
    allocReply src tag 0 first cnt (es.foldl (fun h e => h.setArec e ⟨1, false, false, false⟩) h)
  else allocReply src tag 1 first cnt h

/-- ALLOC_CLAIM (R38, R655). -/
def execAllocClaim (src tag first cnt : Nat) (s : State) : Out :=
  onMach (fun m =>
    if bitAt (m.hw.fget F.SL_STKSTAT_ALIVE 0) src then
      ((runOf first cnt).foldl (fun m e => m.noteRec e) m).onHw (allocClaim src tag first cnt)
    else m) s

/-- INC at the home. -/
def allocInc (src tag first cnt : Nat) (h : Hw) : Hw :=
  allocReply src tag 0 first cnt ((runOf first cnt).foldl (fun h e =>
    h.setArec e { h.arec e with cnt := (h.arec e).cnt + 1, shared := true }) h)

/-- ALLOC_INC (R655). -/
def execAllocInc (src tag first cnt : Nat) (s : State) : Out := onHw (fromAlive src (allocInc src tag first cnt)) s

/-- DEC at the home. -/
def allocDec (src tag first cnt : Nat) (h : Hw) : Hw :=
  allocReply src tag 0 first cnt ((runOf first cnt).foldl (fun h e => decLocal e h) h)

/-- ALLOC_DEC (R655). -/
def execAllocDec (src tag first cnt : Nat) (s : State) : Out := onHw (fromAlive src (allocDec src tag first cnt)) s

/-- UNCLAIM at the home: BINDCNT from 1 to 0, without DIRTY. -/
def allocUnclaim (src tag first cnt : Nat) (h : Hw) : Hw :=
  allocReply src tag 0 first cnt ((runOf first cnt).foldl (fun h e =>
    if (h.arec e).cnt = 1 then unclaimLocal e h else h) h)

/-- ALLOC_UNCLAIM (R655). -/
def execAllocUnclaim (src tag first cnt : Nat) (s : State) : Out :=
  onHw (fromAlive src (allocUnclaim src tag first cnt)) s

/-- The add of a tenant that awaits an ALLOC answer. -/
def addWaiting (h : Hw) (t : Nat) : Option AddRec := h.bd.adds.find? (fun a => a.tid == t && decide (0 < a.await))

/-- R50, R655: a CLAIM's answer: the run is taken, or the module chooses again; a failed peer fails the add. -/
def claimAnswered (q : AllocReq) (result : Option Nat) (a : AddRec) (m : Mach) : Mach :=
  let m1 := m.onHw (setBusy false)
  match result with
  | none => m1.onHw (addFail { a with await := 0 } fmExhausted)
  | some 0 =>
    let new := (a.todo.zip (runOf q.gext q.cnt)).map (fun x => PendExt.mk x.1 x.2)
    let a' := { a with await := 0, todo := a.todo.drop q.cnt, exts := a.exts ++ new }
    addStep a' (m1.onHw (putAdd a')) 64
  | some _ => addStep { a with await := 0 } (m1.onHw (putAdd { a with await := 0 })) 64

/-- R52, R655: an INC's answer: the shared add is raised with the last one, or fails with what it has taken returned. -/
def incAnswered (result : Option Nat) (a : AddRec) (m : Mach) : Mach :=
  let a' := { a with await := a.await - 1, failed := a.failed || result != some 0 }
  if a'.await ≠ 0 then m.onHw (putAdd a')
  else
    let m1 := m.onHw (fun h => setBusy false (putAdd a' h))
    if a'.failed then m1.onHw (addFail a' fmExhausted) else addRaise a' m1

/-- The job of a ring goes on once its destination is claimed with every binding (R291 steps 3 to 5): it copies, or, without an engine,
waits for one. -/
def migReady (r n : Nat) (j : DmJob) (m : Mach) : Mach :=
  (migMap n m).onHw (fun h => h.setJob r
    { j with phase := if j.eng.isSome then .copying else .idle, mig := some n, await := 0 })

/-- R291, R655: the CLAIM of a migration's destination succeeded: the record is taken, and one INC goes out for each further binding. A
claim that no job awaits any more, or that finds no record free, is returned. -/
def migClaimed (r : Nat) (q : AllocReq) (m : Mach) : Mach :=
  let back := fun (m : Mach) => m.onHw (sendAlloc 4 q.gext 1 (8192 + r))
  match m.hw.job r with
  | none => back m
  | some j =>
    if j.phase ≠ .claiming ∨ bits (dDst j.desc) 0 25 ≠ q.gext then back m
    else
      match m.hw.migFree with
      | none => back (endJob r 0xA (srcByte j.desc) 0 m)
      | some n =>
        let src := bits (dSrc j.desc) 0 22
        let more := (m.hw.arec src).cnt - 1
        let m1 := m.onHw (migTake r n src q.gext)
        if more = 0 then migReady r n j m1
        else m1.onHw (fun h =>
          ((List.range more).foldl (fun h _ => sendAlloc 2 q.gext 1 (8192 + r) h) h).setJob r
            { j with phase := .mapping, mig := some n, await := more })

/-- R291, R655: a migration's CLAIM or INC is answered: a CLAIM that is not free ends the job with DSTBUSY, a dead peer ends it with
LINKLOSS, and the last INC lets it copy. -/
def migAnswered (r : Nat) (q : AllocReq) (result : Option Nat) (m : Mach) : Mach :=
  if q.op = 1 ∧ result = some 0 then migClaimed r q m
  else
    match m.hw.job r with
    | none => m
    | some j =>
      if bits (dDst j.desc) 0 25 ≠ q.gext then m
      else
        match j.phase, j.mig, result with
        | .claiming, _, none => if q.op = 1 then endJob r 5 (dstByte j.desc) 0 m else m
        | .claiming, _, some _ => if q.op = 1 then endJob r 0xB (dstByte j.desc) 0 m else m
        | .mapping, some _, none => if q.op = 2 then endJob r 5 (dstByte j.desc) 0 m else m
        | .mapping, some n, some _ =>
          if q.op = 2 then
            if j.await ≤ 1 then migReady r n j m else m.onHw (fun h => h.setJob r { j with await := j.await - 1 })
          else m
        | _, _, _ => m

/-- The end of an ALLOC request: its answer's RESULT, or none where the peer is dead (R655). -/
def allocEnded (q : AllocReq) (result : Option Nat) (m0 : Mach) : Mach :=
  let m := m0.onHw (fun h => { h with bd := { h.bd with allocs := h.bd.allocs.erase q } })
  if 8192 ≤ q.tid then migAnswered (q.tid - 8192) q result m
  else if q.op = 1 then
    match addWaiting m.hw q.tid with
    | some a => claimAnswered q result a m
    | none => m.onHw (fun h => if result = some 0 then sendAlloc 4 q.gext q.cnt q.tid h else h)
  else if q.op = 2 then
    match addWaiting m.hw q.tid with
    | some a => incAnswered result a m
    | none => m
  else if q.op = 3 then
    m.onHw (fun h => { h with bd := { h.bd with
      rels := removeFirst (fun r => r.tid == q.tid && r.gext == q.gext && r.step == 3) h.bd.rels } })
  else m

/-- ALLOC_ANSWER (R655). -/
def execAllocAnswer (src tag result : Nat) (s : State) : Out :=
  onMach (fun m =>
    if bitAt (m.hw.fget F.SL_STKSTAT_ALIVE 0) src then
      match m.hw.bd.allocs.find? (fun q => q.dest == src && q.tag == tag) with
      | none => m
      | some q => allocEnded q (some result) m
    else m) s

/-- R655: a peer is declared dead: every request to it fails. -/
def allocPeerDead (p : Nat) (m : Mach) : Mach :=
  (m.hw.bd.allocs.filter (fun q => q.dest == p)).foldl (fun m q => allocEnded q none m) m

end Sys2Proof.Machine
end

