-- ==== Sys2Proof/Machine/Ports.lean ====
section
/-! DEFINITION. Fabric ports: octet modes (R368 to R370), presence, PERST_N and the reference clock (R372 to R376, R615),
training and link loss (R377 to R383), power states (R386 to R389), IDE streams (R391 to R395), and the lane test
(R396 to R408). -/
namespace Sys2Proof.Machine

/-! ### Layout -/

/-- Octet `k`'s mode as the next sample takes it (R368, R369): the reserved mode and an unpaired 16 are OFF. -/
def octetMode (h : Hw) (k : Nat) : Nat :=
  let v := h.fget F.FP_OCTCFG_OCTMODE k
  if v = 7 then 0
  else if (v = 6) ≠ (h.fget F.FP_OCTCFG_OCTMODE (if k % 2 = 0 then k + 1 else k - 1) = 6) then 0
  else v

/-- R368, R369: whether octet `k`'s mode is reported: the reserved mode, or a 16 without its pair. -/
def octetBad (h : Hw) (k : Nat) : Bool :=
  let v := h.fget F.FP_OCTCFG_OCTMODE k
  v == 7 || (v == 6 && h.fget F.FP_OCTCFG_OCTMODE (if k % 2 = 0 then k + 1 else k - 1) != 6)

/-- R370: the octet modes are sampled at the end of a fabric reset. -/
def sampleLayout (h : Hw) : Hw :=
  let modes := (List.range 18).map (fun k => (k, octetMode h k))
  let bad := (List.range 18).filter (octetBad h)
  let h1 := { h with fp := { h.fp with layout := modes.foldl (fun m x => Store.setD 0 m x.1 x.2) [] } }
  bad.foldl (fun h k => h.raise { code := 0x0406, dom := domDevice, dinst := 0, addr := k, unit := 4 * k, atype := 6 }) h1

/-- The ports of an octet in the layout in effect, a x16 port included. -/
def octetPorts (h : Hw) (k : Nat) : List Nat :=
  if Store.getD 0 h.fp.layout k = 6 then [8 * (k / 2)]
  else ([0, 1, 2, 3].map (4 * k + ·)).filter (fun n => h.portWidth n != 0)

/-- The octets that a port lies on. -/
def portOctets (h : Hw) (n : Nat) : List Nat := if h.portWidth n = 16 then [n / 4, n / 4 + 1] else [n / 4]

/-! ### Link loss -/

/-- R197, R199: every message of ingress port `n` whose tail has not arrived is BAD, and each is reported. -/
def badOpen (n : Nat) (h : Hw) : Hw :=
  (insideRids h n (fun m => !m.tail)).foldl (fun h r => markBad n r (reportBad n h)) h

/-- R208, R215: every message in queue `qid` is discarded, with its cells in Dome; one that is being read leaves no message when its cells
come back. -/
def dropQueue (h : Hw) (qid : Nat) : Hw :=
  let e := h.eq qid
  if !e.nonEmpty then h
  else
    let h1 := dropDome qid (fun _ => true) (h.setEq qid { e with head := [], stage := [] })
    let h2 := (e.dome.filter (fun x => !x.gone)).foldl (fun h x => endMsg x 0 h) h1
    leaveQueue qid ((e.head ++ e.stage).foldl (fun h x => discardMsg x 0 h) h2)

/-- R215: every message queued for port `n` is discarded at once, in the VOQs too; a multicast is left to its legs. -/
def dropQueues (n : Nat) (h : Hw) : Hw :=
  let h1 := ((List.range 16).map (16 * n + ·)).foldl dropQueue h
  let mine := fun (e : EMsg) => e.eg == n && e.legs.isEmpty
  (h1.sw.voq.filter (fun e => mine e && !e.gone && e.got == 0)).foldl (fun h e => endMsg e 0 h) (voqGone mine h1)

/-- The message that port `n` is sending is cut off and ends as one discarded because its egress link went down (R215). -/
def cutTx (n : Nat) (h : Hw) : Hw :=
  match Store.get? h.sw.inTx n with
  | none => h
  | some e => endMsg e 0 (cutMsg n e h)

/-- The link status of a link that is down. -/
def clearLink (n : Nat) (h : Hw) : Hw :=
  let h1 := [F.FP_LSTAT_UP, F.FP_LSTAT_RATE, F.FP_LSTAT_WIDTH, F.FP_LSTAT_MODE, F.FP_LSTAT_CXL, F.FP_PMSTAT_TXPS,
    F.FP_PMSTAT_RXPS, F.FP_PMSTAT_L0PW].foldl (fun h f => h.fset f n 0) h
  let h2 := { h1 with fp := { h1.fp with roleUp := Store.del h1.fp.roleUp n } }
  boundSet n (h2.fset F.TS_PORTRATE_VAL n 0)

/-- R374, R403: port `n` has the DOWN role, in which it drives PERST_N low. -/
def takeDownRole (n : Nat) (h : Hw) : Hw :=
  if h.role n = 2 then (h.fset F.FP_LSTAT_PERST n 1).emit (.perst n true) else h

/-- R373, R374: the ports to which the image gives the DOWN role drive PERST_N low from here. -/
def takeRoles (h : Hw) : Hw := (List.range 72).foldl (fun h n => takeDownRole n h) h

/-- A write of FP_PCFG (R403): ROLE applies at the next training, at once on a port whose link is down. -/
def pcfgWrite (n w : Nat) (h : Hw) : Hw :=
  let h1 := writeReg R.FP_PCFG n w h
  if h.role n ≠ 2 then takeDownRole n h1 else h1

/-- R366, R373 to R382, R396, R460: whether a partner is present and nothing holds port `n` down. -/
def mayTrain (h : Hw) (n : Nat) : Bool :=
  h.role n != 0 && h.flag F.FP_LSTAT_PRSNT n && !h.flag F.FP_PCTRL_DISABLE n && !h.flag F.FP_PCTRL_TESTMODE n &&
  !h.flag F.FP_LSTAT_PERST n && !h.contained (didxOf domPort n) && (Store.get? h.fp.stay n).isNone &&
  (portOctets h n).all (fun k => !h.flag F.FP_OCTCFG_FAILED k && !h.fp.octUnlocked.contains k)

/-- R381, R382: port `n` starts training again by itself, where nothing holds it down: a retrain, which FP_TRNCNT counts. -/
def autoTrain (n : Nat) (h : Hw) : Hw := if mayTrain h n then h.fadd F.FP_TRNCNT_VAL n 1 else h

/-- R382: whether a link-down reason is unexpected. -/
def unexpected (why : Nat) : Bool := why == 2 || why == 4 || why == 5 || why == 6 || why == 7

/-- R215, R381 to R383: port `n`'s link goes down for reason `why`: counted, reported, its half-received messages BAD, the
queues of a DOWN port emptied, the grace timer of a HOST port started, and after PARTNER and LOSS training started again. -/
def linkDown (n why : Nat) (h : Hw) : Hw :=
  let up := h.flag F.FP_LSTAT_UP n
  let role := h.role n
  let h1 := ((clearLink n h).fset F.FP_LSTAT_DOWNWHY n why).fadd F.FP_DOWNCNT_VAL n 1
  let h2 := h1.raise
    { code := if unexpected why then 0x2402 else 0x0403, dom := domPort, dinst := n, addr := why, unit := n, atype := 6 }
  let h3 := cutTx n (badOpen n h2)
  let h4 := if role = 1 then
      (if up ∧ !h3.fp.grace.contains n then { h3 with fp := { h3.fp with grace := h3.fp.grace ++ [n] } } else h3)
    else dropQueues n h3
  let h5 := if role ≠ 2 then takeDownRole n h4 else h4
  let h6 := { h5 with fp := { h5.fp with recov := h5.fp.recov.filter (· != n) } }
  if 5 ≤ why ∧ why ≤ 7 then { h6 with fp := { h6.fp with stay := Store.put h6.fp.stay n why } }
  else if why = 1 ∨ why = 2 then autoTrain n h6 else h6

/-- The link of port `n` is taken down where it is up. -/
def takeDown (n why : Nat) (h : Hw) : Hw := if h.flag F.FP_LSTAT_UP n then linkDown n why h else h

/-- Port `n` no longer stays down. -/
def unstay (n : Nat) (h : Hw) : Hw := { h with fp := { h.fp with stay := Store.del h.fp.stay n } }

/-- Port `n` trains again, unless it stays down for want of a rate, which only R380's events end. -/
def trainAgain (n : Nat) (h : Hw) : Hw := if Store.get? h.fp.stay n = some 7 then h else unstay n h

/-- R380: FBRATE is restored to MAXRATE, and a port that stayed down for RATE trains again. -/
def restoreRate (n : Nat) (h : Hw) : Hw :=
  let h1 := h.fset F.FP_LSTAT_FBRATE n (h.fget F.FP_PCFG_MAXRATE n)
  let h2 := { h1 with fp := { h1.fp with eqFails := Store.del h1.fp.eqFails n } }
  if Store.get? h2.fp.stay n = some 7 then unstay n h2 else h2

/-! ### Presence, PERST_N and the reference clock -/

/-- PERST_N of a DOWN port driven low (R374): a link that is up goes down with reason PERST. -/
def perstLow (n : Nat) (h : Hw) : Hw :=
  if h.role n = 2 ∧ !h.flag F.FP_LSTAT_PERST n then
    let h1 := (h.fset F.FP_LSTAT_PERST n 1).emit (.perst n true)
    if h1.flag F.FP_LSTAT_UP n then linkDown n 3 h1 else h1
  else h

/-- SECONDARY_BUS_RESET (R61, R374): a host's reset of a vPPB; where a single-LD device is bound there, its port's PERST_N
goes low and stays so until the vPPB takes the reset back. -/
def execSecondaryBusReset (port vppb : Nat) (s : State) : Out :=
  onHw (fun h => match h.tenantAt port vppb with
    | some t =>
      let h1 := (askReset t h).2
      if ttKind (h.ent t) = 2 then
        let d := ttDs (h.ent t)
        perstLow d { h1 with fp := { h1.fp with sbr := h1.fp.sbr.filter (· != d) ++ [d] } }
      else h1
    | none => h) s

/-- R187, R376: every route entry whose target is port `n` receives an UPDATE-REVOKE. DESIGN CHOICE: with what it holds, since the spec
names no new target. -/
def revokePort (n : Nat) (h : Hw) : Hw :=
  { h with sw := { h.sw with routes := h.sw.routes.map (fun x =>
      if bitAt x.2 0 && !bitAt x.2 1 && xpOwner h (rtTarget x.2) == n then (x.1, rtMake x.1 x.2 (x.2 % 2 ^ 32) true) else x) } }

/-- PRSNT_CHANGE (R372, R374, R376, R380, R613: the contact of an UNUSED port is ignored). A partner pulled from a link that is up, or
has stayed down since it was lost, is a surprise removal: on a DOWN port with Downstream Port Containment and route updates. -/
def prsntChange (n : Nat) (present dpcEn : Bool) (h : Hw) : Hw :=
  if h.role n = 0 ∨ h.flag F.FP_LSTAT_PRSNT n = present then h
  else
    let surprise := !present && (h.flag F.FP_LSTAT_UP n || h.fget F.FP_LSTAT_DOWNWHY n == 2)
    let h1 := unstay n (restoreRate n (h.fset F.FP_LSTAT_PRSNT n (b2n present)))
    let h2 := if present then h1
      else if h1.flag F.FP_LSTAT_UP n then linkDown n 4 h1
      else if h1.fget F.FP_LSTAT_DOWNWHY n = 2 then h1.fset F.FP_LSTAT_DOWNWHY n 4
      else h1
    if h2.role n = 2 then
      let h3 := h2.emit (.presence n present)
      if present then h3
      else
        let h4 := perstLow n h3
        if surprise then
          revokePort n
            (if dpcEn then { h4 with fp := { h4.fp with dpc := h4.fp.dpc.filter (· != n) ++ [n] } } else h4)
        else h4
    else h2

/-- DOWN_PERST_RELEASE (R374): 100 µs after the last hold has ended PERST_N rises and the port trains; what has ended is the vPPB's
Secondary Bus Reset and the containment that software has released, as the command says. -/
def execDownPerstRelease (r : PerstEnd) (s : State) : Out :=
  onHw (fun h0 =>
    let n := r.port
    let h := { h0 with fp := { h0.fp with sbr := if r.sbr then h0.fp.sbr.filter (· != n) else h0.fp.sbr,
                                          dpc := if r.dpc then h0.fp.dpc.filter (· != n) else h0.fp.dpc } }
    if h.role n = 2 ∧ h.flag F.FP_LSTAT_PERST n ∧ h.flag F.FP_LSTAT_PRSNT n ∧ h.fp.refOk.contains (n / 8) ∧ !h.fp.sbr.contains n ∧
        !h.fp.dpc.contains n then
      (h.fset F.FP_LSTAT_PERST n 0).emit (.perst n false)
    else h) s

/-- HOST_PERST_RELEASE (R373): the link starts training. -/
def execHostPerstRelease (port : Nat) (s : State) : Out :=
  onHw (fun h => if h.role port = 1 then h.fset F.FP_LSTAT_PERST port 0 else h) s

/-- REFCLK_WINDOW (R374, R615): a window of a connector group's reference clock ends; one outside the range ends stability
and holds the group's DOWN ports in reset. -/
def execRefclkWindow (group : Nat) (inRange : Bool) (s : State) : Out :=
  onHw (fun h =>
    if inRange then
      (if h.fp.refOk.contains group then h else { h with fp := { h.fp with refOk := h.fp.refOk ++ [group] } })
    else
      (List.range 8).foldl (fun h j => perstLow (8 * group + j) h)
        { h with fp := { h.fp with refOk := h.fp.refOk.filter (· != group) } }) s

/-! ### Training -/

/-- R378: whether an HDM-DB tenant is bound on host port `n`. -/
def hdmDbBound (h : Hw) (n : Nat) : Bool :=
  !(h.tidsWhere (fun e => ttState e != 0 && ttPort e == n && ttHdmDb e)).isEmpty

/-- R377, R378: whether port `n` offers link mode `mode` at rate `rate`. -/
def offers (h : Hw) (n rate mode : Nat) : Bool :=
  match mode with
  | 0 => rate == 5 || (decide (2 ≤ rate) && h.flag F.FP_PCFG_FLITEN n)
  | 1 => decide (2 ≤ rate ∧ rate ≤ 4) && h.flag F.FP_PCFG_CXL68EN n && !(h.role n == 1 && hdmDbBound h n)
  | 2 => decide (rate ≤ 4) && h.flag F.FP_PCFG_NFLITEN n && !(h.role n == 1 && hdmDbBound h n)
  | _ => false

/-- R366, R377, R380: the highest rate that both partners support, up to the lower of MAXRATE and FBRATE; under SRIS on either side not
64 GT/s. -/
def trainRate (h : Hw) (n : Nat) (r : RateSet) : Option Nat :=
  ([5, 4, 3, 2, 1, 0] : List Nat).find? (fun k => bitAt r.rates k &&
    decide (k ≤ min (h.fget F.FP_PCFG_MAXRATE n) (h.fget F.FP_LSTAT_FBRATE n)) &&
    !(k == 5 && (r.sris || h.flag F.FP_PCFG_SRIS n)))

/-- R379: the widest width of both partners that the good lanes form from the port's lane 0, or from its highest lane under lane
reversal. -/
def trainWidth (h : Hw) (n : Nat) (l : LaneSet) : Option Nat :=
  ([4, 3, 2, 1] : List Nat).findSome? (fun k =>
    let w := 2 ^ k
    let p := h.portWidth n
    if w ≤ p ∧ bitAt l.widths k ∧ ((List.range w).all (fun i => bitAt l.good i) ∨
        l.rev ∧ (List.range w).all (fun i => bitAt l.good (p - 1 - i))) then some w
    else none)

/-- R377, R378: the first link mode, in the order of preference, that the port offers at rate `rate` and the partner accepts; 68-byte
flits carry CXL alone. -/
def trainMode (h : Hw) (n rate : Nat) (m : ModeSet) (cxl : Bool) : Option Nat :=
  ([0, 1, 2] : List Nat).find? (fun k => offers h n rate k && (if k = 0 then m.flit else if k = 1 then m.cxl68 && cxl else m.nonFlit))

/-- R365, R388: what port `n` advertises in link mode `mode`. -/
def advertise (n mode : Nat) (h : Hw) : Hw := h.emit (.linkCaps n (if mode = 0 then 14 else 10) 4096 4096 1000 8000 true)

/-- R381: a link that is up has left L0 for Recovery, which FP_TRNCNT counts once. -/
def countRecovery (n : Nat) (h : Hw) : Hw :=
  if h.flag F.FP_LSTAT_UP n ∧ !h.fp.recov.contains n then h.fadd F.FP_TRNCNT_VAL n 1 else h

/-- R377 to R379, R386, R403: port `n` is in L0 at a rate, width and mode. -/
def linkIn (n rate width mode : Nat) (cxl : Bool) (mps : Nat) (h : Hw) : Hw :=
  let h1 := ((((h.fset F.FP_LSTAT_UP n 1).fset F.FP_LSTAT_RATE n rate).fset F.FP_LSTAT_WIDTH n width).fset F.FP_LSTAT_MODE n
    mode).fset F.FP_LSTAT_CXL n (b2n cxl)
  let h2 := ((h1.fset F.FP_PMSTAT_TXPS n 0).fset F.FP_PMSTAT_RXPS n 0).fset F.FP_PMSTAT_L0PW n 0
  let h3 := { h2 with fp := { h2.fp with grace := h2.fp.grace.filter (· != n), eqFails := Store.del h2.fp.eqFails n,
                                         mps := Store.put h2.fp.mps n (128 * 2 ^ mps),
                                         roleUp := Store.put h2.fp.roleUp n (h.role n),
                                         recov := h2.fp.recov.filter (· != n) } }
  advertise n mode (boundSet n (h3.fset F.TS_PORTRATE_VAL n (effRate mode rate (h3.linkRate n))))

/-- LINK_UP (R377 to R381, R260, R383): training of a port that nothing holds down ends: in L0 at the highest common rate, the widest
width of the good lanes and the first mode in the order of preference, or with RATE, WIDTH or MODE. DESIGN CHOICE: the first of the three
that fails, in that order, is the reason. -/
def linkUp (n : Nat) (rate : RateSet) (lanes : LaneSet) (mode : ModeSet) (cxl : Bool) (mps : Nat) (h0 : Hw) : Hw :=
  if mayTrain h0 n then
    let h := countRecovery n h0
    match trainRate h n rate, trainWidth h n lanes with
    | none, _ => linkDown n 7 h
    | _, none => linkDown n 6 h
    | some r, some w =>
      match trainMode h n r mode cxl with
      | none => linkDown n 5 h
      | some k => linkIn n r w k cxl mps h
  else h0

/-- OCTET_PLL_UNLOCK (R382): every port of the octet goes down with reason OCTET. -/
def execOctetPllUnlock (octet : Nat) (s : State) : Out :=
  onHw (fun h =>
    if h.fp.octUnlocked.contains octet then h
    else
      (octetPorts h octet).foldl (fun h n => (takeDown n 8 h).raise
          { code := 0x3404, dom := domPort, dinst := n, addr := octet, unit := n, atype := 6 })
        { h with fp := { h.fp with octUnlocked := h.fp.octUnlocked ++ [octet] } }) s

/-- OCTET_RELOCK (R382): the octet's ports train again (DEDUCED: where R382 says at once, the octet must have its PLL's lock first); the
third failed relock within 1 s sets FAILED and sends OCTFAIL for each port. -/
def execOctetRelock (octet : Nat) (ok : Bool) (s : State) : Out :=
  onHw (fun h =>
    if !h.fp.octUnlocked.contains octet || h.flag F.FP_OCTCFG_FAILED octet then h
    else if ok then
      (octetPorts h octet).foldl (fun h n => if h.fget F.FP_LSTAT_DOWNWHY n = 8 then autoTrain n h else h)
        { h with fp := { h.fp with octUnlocked := h.fp.octUnlocked.filter (· != octet) } }
    else
      let now := h.ck.ltime
      let l := (Store.getD [] h.fp.octFails octet).filter (fun t => decide (now < t + 1000000000)) ++ [now]
      let h1 := { h with fp := { h.fp with octFails := Store.put h.fp.octFails octet l } }
      if l.length < 3 then h1
      else
        (octetPorts h1 octet).foldl (fun h n => h.raise
          { code := 0x3407, dom := domPort, dinst := n, addr := octet, unit := n, atype := 6, held := 1 })
          (h1.fset F.FP_OCTCFG_FAILED octet 1)) s

/-- R151, R152: host port `p` is declared dead at the home and at the Cupola; `ts` are the tenants whose reset must still
complete (R161). -/
def hostDead (p : Nat) (ts : List Nat) (m : Mach) : Mach :=
  (declareDead (m.hw.agentOf p) ts m).onHw (cuHostDead p)

/-- HOST_GRACE_EXPIRY (R151, R383): the port is declared dead, and every tenant of its VCS is reset. -/
def execHostGraceExpiry (port : Nat) (s : State) : Out :=
  onMach (fun m =>
    if m.hw.fp.grace.contains port then
      let ts := m.hw.tidsWhere (fun e => ttState e != 0 && ttPort e == port)
      let m1 := m.onHw (fun h => resetVcs port { h with fp := { h.fp with grace := h.fp.grace.filter (· != port) } })
      hostDead port ts m1
    else m) s

/-! ### Power states -/

/-- R389: whether Terroth may itself enter L0s or request L0p. -/
def ownPm (h : Hw) (n : Nat) : Bool := !h.flag F.TS_PORTSTAT_BOUNDOK n || h.flag F.FP_PMCFG_STRICTPM n

/-- The cells queued for a port. -/
def queuedCells (h : Hw) (n : Nat) : Nat :=
  ((List.range 16).map (fun q => let e := h.eq (16 * n + q)
    cellsOf e.head + cellsOf e.stage + (e.dome.map (fun x => x.total)).sum)).sum

/-- Whether a message is queued for a port. -/
def anyQueued (h : Hw) (n : Nat) : Bool := (List.range 16).any (fun q => (h.eq (16 * n + q)).nonEmpty)

/-- L0S_ENTRY (R386, R389): a direction of a non-FLIT link enters L0s. -/
def execL0sEntry (port : Nat) (rx : Bool) (s : State) : Out :=
  onHw (fun h =>
    if h.flag F.FP_LSTAT_UP port ∧ h.fget F.FP_LSTAT_MODE port = 2 ∧ h.flag F.FP_PMCFG_L0SEN port then
      if rx then (if h.fget F.FP_PMSTAT_RXPS port = 0 then h.fset F.FP_PMSTAT_RXPS port 1 else h)
      else if h.fget F.FP_PMSTAT_TXPS port = 0 ∧ ownPm h port ∧ !anyQueued h port then h.fset F.FP_PMSTAT_TXPS port 1
      else h
    else h) s

/-- L0S_EXIT (R386). -/
def execL0sExit (port : Nat) (rx : Bool) (s : State) : Out :=
  onHw (fun h =>
    let f := if rx then F.FP_PMSTAT_RXPS else F.FP_PMSTAT_TXPS
    if h.fget f port = 1 then h.fset f port 0 else h) s

/-- L0P_ENTRY (R386, R389): both directions of a FLIT link in L0 narrow to a lower width. -/
def execL0pEntry (port width : Nat) (partner : Bool) (s : State) : Out :=
  onHw (fun h =>
    if h.flag F.FP_LSTAT_UP port ∧ h.fget F.FP_LSTAT_MODE port = 0 ∧ h.flag F.FP_PMCFG_L0PEN port ∧
        h.fget F.FP_PMSTAT_TXPS port = 0 ∧ width ∈ [2, 4, 8] ∧ width < h.fget F.FP_LSTAT_WIDTH port ∧ (partner ∨ ownPm h port) then
      h.fset F.FP_PMSTAT_L0PW port width
    else h) s

/-- L0P_EXIT (R386): more than 16 cells queued, or the partner's request. -/
def execL0pExit (port : Nat) (partner : Bool) (s : State) : Out :=
  onHw (fun h => if partner ∨ 16 < queuedCells h port then h.fset F.FP_PMSTAT_L0PW port 0 else h) s

/-- L1_REQUEST (R386, R387): accepted when enabled and nothing is queued for the port, else rejected. -/
def execL1Request (port : Nat) (aspm : Bool) (s : State) : Out :=
  onHw (fun h =>
    if h.flag F.FP_LSTAT_UP port then
      if h.flag F.FP_PMCFG_L1EN port && !anyQueued h port then
        ((h.fset F.FP_PMSTAT_TXPS port 2).fset F.FP_PMSTAT_RXPS port 2).fset F.FP_PMSTAT_L0PW port 0
      else h.emit (.l1Reject port aspm)
    else h) s

/-- L1_EXIT (R381, R386): a message is queued for the port, or the partner leaves L1. PRESUMED from PCI Express: L1 is left through
Recovery. -/
def execL1Exit (port : Nat) (partner : Bool) (s : State) : Out :=
  onHw (fun h =>
    if h.fget F.FP_PMSTAT_TXPS port = 2 ∧ (partner ∨ anyQueued h port) then
      ((h.fset F.FP_PMSTAT_TXPS port 0).fset F.FP_PMSTAT_RXPS port 0).fadd F.FP_TRNCNT_VAL port 1
    else h) s

/-! ### IDE -/

/-- R392: whether keys may be programmed on port `n`: on a HOST port by the host, in a secured session with the DOE mailbox of the VCS
upstream port; on a DOWN port by Turret. -/
def keysFrom (h : Hw) (n : Nat) (turret : Bool) : Bool :=
  if h.role n = 1 then !turret && decide (0 < Store.getD 0 h.ld.sessions (1 + n)) else h.role n == 2 && turret

/-- IDE_KM_KEY_PROGRAM (R391, R392): IDE_KM programs a key set of a stream; with `go` the stream is Secure. -/
def execIdeKmKeyProgram (port stream : Nat) (use : KeyUse) (go : Bool) (s : State) : Out :=
  onHw (fun h =>
    if !keysFrom h port use.turret then h
    else
    let kind := use.kind
    let k := port * 256 + stream
    let others := (h.fp.ide.filter (fun x => x.1 / 256 == port && x.1 != k && x.2.kind == kind)).length
    if others < (if kind = 1 then 8 else 1) then
      let old := (Store.get? h.fp.ide k).getD ⟨kind, false, 0, false, false⟩
      let new : IdeStream := { old with kind := kind, containment := h.flag F.FP_PCFG_CMODE port, keys := old.keys + 1,
                                        secure := old.secure || go, failed := false }
      boundAll { h with fp := { h.fp with ide := Store.put h.fp.ide k new } }
    else h) s

/-- IDE_INTEGRITY_FAILURE (R395): the stream is Insecure and its messages still inside are BAD. -/
def execIdeIntegrityFailure (port stream : Nat) (s : State) : Out :=
  onHw (fun h =>
    match Store.get? h.fp.ide (port * 256 + stream) with
    | none => h
    | some x =>
      let rids := insideRids h port (fun m => m.ide == some stream)
      let new : IdeStream := { x with secure := false, failed := true }
      let h1 := { h with fp := { h.fp with ide := Store.put h.fp.ide (port * 256 + stream) new } }
      let h2 := rids.foldl (fun h r => markBad port r h) h1
      boundAll ((h2.fadd F.FP_IDEFAIL_VAL port 1).raise
        { code := 0x2405, dom := domPort, dinst := port, addr := stream, unit := port, atype := 6 })) s

/-! ### Port control -/

/-- RETRAIN of FP_PCTRL (R381, R404): a link that is up enters Recovery; one that stayed down for MODE or WIDTH tries again. -/
def pctrlRetrain (n : Nat) (h : Hw) : Hw :=
  let h1 := h.fadd F.FP_TRNCNT_VAL n 1
  trainAgain n (if h.flag F.FP_LSTAT_UP n ∧ !h.fp.recov.contains n then { h1 with fp := { h1.fp with recov := h1.fp.recov ++ [n] } }
    else h1)

/-- FP_PCTRL_RETRAIN. -/
def execFpPctrlRetrain (_p : Path) (port : Nat) (s : State) : Out := onHw (pctrlRetrain port) s

/-- FP_PCTRL_RESETFB (R380). -/
def execFpPctrlResetfb (_p : Path) (port : Nat) (s : State) : Out := onHw (restoreRate port) s

/-- DISABLE of FP_PCTRL (R404): DOWNWHY becomes LOCAL. -/
def pctrlDisable (n : Nat) (v : Bool) (h : Hw) : Hw :=
  let h1 := h.fset F.FP_PCTRL_DISABLE n (b2n v)
  if v ∧ !h.flag F.FP_PCTRL_DISABLE n then (takeDown n 9 h1).fset F.FP_LSTAT_DOWNWHY n 9 else h1

/-- The lanes of port `n` (R367). -/
def lanesOf (h : Hw) (n : Nat) : List Nat := (List.range (h.portWidth n)).map (2 * n + ·)

/-- TESTMODE of FP_PCTRL (R396): setting it holds the link in Disabled; clearing it clears EN of every lane of the port. -/
def pctrlTest (n : Nat) (v : Bool) (h : Hw) : Hw :=
  let was := h.flag F.FP_PCTRL_TESTMODE n
  let h1 := h.fset F.FP_PCTRL_TESTMODE n (b2n v)
  if v ∧ !was then takeDown n 9 h1
  else if !v ∧ was then (lanesOf h n).foldl (fun h l => (h.fset F.LT_CTRL_EN l 0).fset F.LT_STAT_LOCK l 0) h1
  else h1

/-- A write of FP_PCTRL as a whole (R404). -/
def pctrlWrite (n w : Nat) (h : Hw) : Hw :=
  let h1 := if fldOf F.FP_PCTRL_RETRAIN w = 1 then pctrlRetrain n h else h
  let h2 := if fldOf F.FP_PCTRL_RESETFB w = 1 then restoreRate n h1 else h1
  pctrlTest n (fldOf F.FP_PCTRL_TESTMODE w == 1) (pctrlDisable n (fldOf F.FP_PCTRL_DISABLE w == 1) h2)

/-! ### Lane test -/

/-- R396: whether a lane may be tested. -/
def laneTestable (h : Hw) (l : Nat) : Bool :=
  Store.getD 0 h.fp.layout (l / 8) == 0 || h.flag F.FP_PCTRL_TESTMODE (xpOwner h (l / 2))

/-- R399: a rising CHKEN clears the lane's counters. -/
def clearLane (l : Nat) (h : Hw) : Hw :=
  [F.LT_ERRCNT_VAL, F.LT_BITCNT_LO_VAL, F.LT_BITCNT_HI_VAL, F.LT_INJCNT_VAL, F.LT_STAT_SAT].foldl (fun h f => h.fset f l 0) h

/-- A test of lane `l` starts: its generator with no register yet, its 32-bit words and its injector at their first bit. -/
def startLane (l : Nat) (h : Hw) : Hw :=
  { h with fp := { h.fp with gen := Store.del h.fp.gen l, bitPos := Store.del h.fp.bitPos l, injPos := Store.del h.fp.injPos l,
                             injOne := h.fp.injOne.map (fun x => if x.1 = l then (l, 0) else x) } }

/-- LT_CTRL_WRITE (R396, R397, R399, R401, R408). DEDUCED: a field written with a reserved encoding keeps its value (R17). -/
def ltCtrl (l w : Nat) (h : Hw) : Hw :=
  let en := fldOf F.LT_CTRL_EN w
  let rise := fldOf F.LT_CTRL_CHKEN w = 1 ∧ h.fget F.LT_CTRL_CHKEN l = 0
  let h1 := if h.flag F.LT_CTRL_EN l then (h.fset F.LT_CTRL_EN l en).fset F.LT_CTRL_CHKEN l (fldOf F.LT_CTRL_CHKEN w)
    else
      let keep := fun (f : Fld) => f.id == F.LT_CTRL_PAT.id && decide (6 ≤ fldOf f w) ||
        f.id == F.LT_CTRL_RATE.id && decide (6 ≤ fldOf f w) || f.id == F.LT_CTRL_LOOP.id && fldOf f w == 3
      let h1 := [F.LT_CTRL_PAT, F.LT_CTRL_RATE, F.LT_CTRL_LOOP, F.LT_CTRL_GENEN, F.LT_CTRL_CHKEN].foldl
        (fun h f => if keep f then h else h.fset f l (fldOf f w)) h
      if en = 0 then h1
      else if laneTestable h1 l ∧ fldOf F.LT_CTRL_PAT w < 6 ∧ fldOf F.LT_CTRL_RATE w < 6 ∧ fldOf F.LT_CTRL_LOOP w < 3 then
        h1.fset F.LT_CTRL_EN l 1
      else h1.fset F.LT_STAT_CFGERR l 1
  let h2 := if rise then clearLane l h1 else h1
  let h3 := if h2.flag F.LT_CTRL_EN l ∧ !h.flag F.LT_CTRL_EN l then startLane l h2 else h2
  if h3.flag F.LT_CTRL_EN l && h3.flag F.LT_CTRL_CHKEN l then h3 else h3.fset F.LT_STAT_LOCK l 0

/-- LT_CTRL_WRITE. -/
def execLtCtrlWrite (_p : Path) (lane : Nat) (data : Word) (s : State) : Out := onHw (ltCtrl lane data.toNat) s

/-- A write of LT_INJ: EXP, whose change starts a new count of bits, and the single-bit injection that ONE asks for in the next 32-bit word
(R400, R408). DESIGN CHOICE: a second ONE before that word asks for nothing more. -/
def ltInj (l w : Nat) (h : Hw) : Hw :=
  let h1 := writeReg R.LT_INJ l w h
  let h2 := if h1.fget F.LT_INJ_EXP l = h.fget F.LT_INJ_EXP l then h1
    else { h1 with fp := { h1.fp with injPos := Store.del h1.fp.injPos l } }
  if fldOf F.LT_INJ_ONE w = 1 ∧ (Store.get? h2.fp.injOne l).isNone then
    { h2 with fp := { h2.fp with injOne := Store.put h2.fp.injOne l ((32 - Store.getD 0 h2.fp.bitPos l) % 32) } }
  else h2

/-- LT_INJ_ONE (R400). -/
def execLtInjOne (_p : Path) (lane : Nat) (data : Word) (s : State) : Out := onHw (ltInj lane data.toNat) s

/-- The order and the second tap of a PRBS pattern x^n + x^m + 1 (R397). -/
def prbs (pat : Nat) : Nat × Nat := ([(7, 6), (9, 5), (15, 14), (23, 18), (31, 28)] : List (Nat × Nat)).getD pat (7, 6)

/-- The next bit of a PRBS whose last bits are the register `s`, newest lowest (R397). -/
def prbsNext (pat s : Nat) : Bool := bitAt s ((prbs pat).1 - 1) != bitAt s ((prbs pat).2 - 1)

/-- R398: whether the `k` bits of `b` from bit `i` continue the PRBS whose last bits are `s`. -/
def prbsFollows (pat b : Nat) : Nat → Nat → Nat → Bool
  | _, _, 0 => true
  | s, i, k + 1 =>
    bitAt b i == prbsNext pat s && prbsFollows pat b ((2 * s + b2n (bitAt b i)) % 2 ^ (prbs pat).1) (i + 1) k

/-- The register that `n` bits of `b`, first bit lowest, leave. -/
def seedOf (n b : Nat) : Nat := (List.range n).foldl (fun s i => 2 * s + b2n (bitAt b i)) 0

/-- The user pattern of lane `l`. -/
def userPat (h : Hw) (l : Nat) : Nat := h.fget F.LT_UPAT_LO_VAL l + 2 ^ 32 * h.fget F.LT_UPAT_HI_VAL l

/-- R398: whether received bits `b`, first bit lowest, bring lock: for a PRBS the seed and 64 bits that follow it, for USER a rotation of
the pattern and the 64 bits that repeat it. -/
def locksOn (h : Hw) (l b : Nat) : Bool :=
  let pat := h.fget F.LT_CTRL_PAT l
  if pat < 5 then prbsFollows pat b (seedOf (prbs pat).1 b) (prbs pat).1 64
  else
    let u := userPat h l
    b % 2 ^ 64 == b / 2 ^ 64 % 2 ^ 64 && (List.range 64).any (fun r => (u / 2 ^ r + u * 2 ^ (64 - r)) % 2 ^ 64 == b % 2 ^ 64)

/-- R401: whether a stream reaches lane `l`'s checker: in near-end loopback its generator's. -/
def checkerFed (h : Hw) (l : Nat) : Bool := h.fget F.LT_CTRL_LOOP l != 1 || h.flag F.LT_CTRL_GENEN l

/-- CHECKER_LOCK (R398): 64 bits without error after the seed. -/
def execCheckerLock (b : LaneBits) (s : State) : Out :=
  onHw (fun h =>
    if h.flag F.LT_CTRL_EN b.lane && h.flag F.LT_CTRL_CHKEN b.lane && checkerFed h b.lane && locksOn h b.lane b.bits then
      h.fset F.LT_STAT_LOCK b.lane 1
    else h) s

/-- CHECKER_LOSE_LOCK (R398): with 32 of 64 consecutive checked bits in error LOSTLOCK is set and the checker seeds again. -/
def execCheckerLoseLock (b : LaneBits) (s : State) : Out :=
  onHw (fun h =>
    if h.flag F.LT_STAT_LOCK b.lane && decide (32 ≤ ones (b.bits % 2 ^ 64)) then
      (h.fset F.LT_STAT_LOCK b.lane 0).fset F.LT_STAT_LOSTLOCK b.lane 1
    else h) s

/-- The bits a lane under test carries in 10 ns, by LT_CTRL.RATE. -/
def laneBits (rate : Nat) : Nat := ([25, 50, 80, 160, 320, 640] : List Nat).getD rate 0

/-- R400: the bits, of the next `n` of lane `l`, that the injector inverts: that of the rate injection, and that of ONE, which moves on by
one where both fall on the same; and what it keeps. Where the generator does not run and nothing is retransmitted, the lane carries no
stream. -/
def injTick (l n : Nat) (h : Hw) : List Nat × Hw :=
  if !h.flag F.LT_CTRL_GENEN l && h.fget F.LT_CTRL_LOOP l != 2 then ([], h) else
  let ex := h.fget F.LT_INJ_EXP l
  let per := 2 ^ (ex + 9)
  let pos := Store.getD 0 h.fp.injPos l
  let rate : Option Nat := if 0 < ex ∧ per ≤ pos + n then some (per - 1 - pos) else none
  let one := (Store.get? h.fp.injOne l).map (fun d => if rate = some d then d + 1 else d)
  let hit := rate.toList ++ (one.filter (fun d => decide (d < n))).toList
  let left := match one with
    | some d => if d < n then Store.del h.fp.injOne l else Store.put h.fp.injOne l (d - n)
    | none => h.fp.injOne
  (hit, ({ h with fp := { h.fp with injOne := left,
                                    injPos := Store.setD 0 h.fp.injPos l (if ex = 0 then 0 else (pos + n) % per),
                                    bitPos := Store.setD 0 h.fp.bitPos l ((Store.getD 0 h.fp.bitPos l + n) % 32) } }).fadd
    F.LT_INJCNT_VAL l hit.length)

/-- R397: `k` bits of a lane's generator from register `g`, after `l`, with the register left. -/
def genBits (pat upat : Nat) : Nat → Nat → List Bool → List Bool × Nat
  | 0, g, l => (l.reverse, g)
  | k + 1, g, l =>
    if pat < 5 then
      let b := prbsNext pat g
      genBits pat upat k ((2 * g + b2n b) % 2 ^ (prbs pat).1) (b :: l)
    else genBits pat upat k ((g + 1) % 64) (bitAt upat g :: l)

/-- R397: the `n` bits that lane `l`'s generator sends. A PRBS starts from a register other than 0 that the spec does not give: a free
value. -/
def genTick (l n : Nat) (h : Hw) : List Bool × Hw :=
  let pat := h.fget F.LT_CTRL_PAT l
  let s := match Store.get? h.fp.gen l with
    | some g => (g, h)
    | none => if pat < 5 then let f := h.takeFree; (f.1 % (2 ^ (prbs pat).1 - 1) + 1, f.2) else (0, h)
  let r := genBits pat (userPat h l) n s.1 []
  (r.1, { s.2 with fp := { s.2.fp with gen := Store.put s.2.fp.gen l r.2 } })

/-- R397: the levels of a lane's symbols: a bit each, or at 64 GT/s two bits each, the first the more significant. PRESUMED from PCI
Express 6.0: the Gray coding of its PAM4 levels (00, 01, 11, 10 in rising order). -/
def levels (pam4 : Bool) : List Bool → List Nat
  | [] => []
  | [a] => [b2n a]
  | a :: b :: r => if pam4 then (if a then (if b then 2 else 3) else b2n b) :: levels pam4 r else b2n a :: b2n b :: levels pam4 r

/-- R401: the bits that lane `l` transmits in 10 ns before injection: in far-end loopback those received, which are open, else its
generator's where it runs; nothing in near-end loopback, where the contact is in electrical idle. -/
def txTick (l n : Nat) (h : Hw) : Option (List Bool) × Hw :=
  if h.fget F.LT_CTRL_LOOP l = 2 then
    let f := h.takeFree
    (some ((List.range n).map (fun i => bitAt f.1 i)), f.2)
  else if h.flag F.LT_CTRL_GENEN l then
    let g := genTick l n h
    (if h.fget F.LT_CTRL_LOOP l = 1 then none else some g.1, g.2)
  else (none, h)

/-- R398, R399: a locked checker that a stream reaches counts the bits of 10 ns and those in error: in near-end loopback the injected
ones, else what the received stream holds, which is open. -/
def checkTick (l n k : Nat) (h : Hw) : Hw :=
  if h.flag F.LT_STAT_LOCK l && checkerFed h l then
    let x := if h.fget F.LT_CTRL_LOOP l = 1 then (k, h) else let f := h.takeFree; (f.1 % (n + 1), f.2)
    let c := x.2.fget F.LT_BITCNT_LO_VAL l + 2 ^ 32 * x.2.fget F.LT_BITCNT_HI_VAL l + n
    let h1 := (x.2.fset F.LT_BITCNT_LO_VAL l c).fset F.LT_BITCNT_HI_VAL l (c / 2 ^ 32)
    let h2 := if 2 ^ 32 ≤ h1.fget F.LT_ERRCNT_VAL l + x.1 then h1.fset F.LT_STAT_SAT l 1 else h1
    h2.fadd F.LT_ERRCNT_VAL l x.1
  else h

/-- A lane under test carries `n` bits (R397 to R401). -/
def laneStep (l n : Nat) (h : Hw) : Hw :=
  let t := txTick l n h
  let x := injTick l n t.2
  let h1 := match t.1 with
    | some b => x.2.emit (.laneTx l (levels (h.fget F.LT_CTRL_RATE l == 5)
        (x.1.foldl (fun b i => b.set i !(b.getD i false)) b)))
    | none => x.2
  checkTick l n x.1.length h1

/-- The lanes under test advance by 10 ns (R397 to R401). -/
def laneTick (h : Hw) : Hw :=
  ((h.instsOf F.LT_CTRL_EN).filter (fun l => h.flag F.LT_CTRL_EN l)).foldl (fun h l => laneStep l (laneBits (h.fget F.LT_CTRL_RATE l)) h) h

end Sys2Proof.Machine
end

