-- ==== Sys2Proof/Machine/Spire.lean ====
section
/-! DEFINITION. Spire links and stacking: link retry (R413 to R415), frames (R418 to R423), training and the stack check
(R424 to R426), liveness and exclusion (R432 to R437), stack time (R438 to R440), sleep (R441, R442), port failure (R443),
and the death and return of agents (R119, R151, R160, R161). -/
namespace Sys2Proof.Machine

/-! ### Topology (R429, R430) -/

/-- The number of modules that SL_STACK.NMOD gives. -/
def Hw.modules (h : Hw) : Nat := 2 ^ h.fget F.SL_STACK_NMOD 0

/-- R429: the neighbour of stack ID `id` through port `s`. -/
def neighbour (nmod id s : Nat) : Option Nat :=
  let x : List Nat := match nmod with
    | 1 => [1, 1]
    | 2 => [1, 2, 3]
    | 3 => [1, 2, 4, 7]
    | _ => []
  (x[s]?).map (fun d => id ^^^ d)

/-- R430: the primary and alternate port for `x` = ID ^ destination. -/
def routePorts (nmod x : Nat) : Nat × Nat :=
  match nmod with
  | 1 => (0, 1)
  | 2 => ([(0, 1), (0, 1), (1, 0), (2, 0)] : List (Nat × Nat)).getD x (0, 1)
  | _ => ([(0, 3), (0, 3), (1, 3), (0, 1), (2, 3), (0, 2), (1, 2), (3, 0)] : List (Nat × Nat)).getD x (0, 3)

/-- R430: route entries 0 to 7 written from NMOD and the stack ID. -/
def writeRoutes (h : Hw) : Hw :=
  let n := h.fget F.SL_STACK_NMOD 0
  (List.range 8).foldl (fun h d =>
    let x := h.sid ^^^ d
    let ep := (rtEpoch (h.route d) + 1) % 65536
    let r := if x = 0 ∨ h.modules ≤ d then ep * 2 ^ 32
      else
        let pp := routePorts n x
        1 + (72 + 2 * pp.1) * 2 ^ 4 + (72 + 2 * pp.2) * 2 ^ 17 + 2 ^ 24 + ep * 2 ^ 32
    { h with sw := { h.sw with routes := Store.setD 0 h.sw.routes d (r + rtFloor (h.route d) * 2 ^ 48) } }) h

/-- SL_PEERSTAT.STATE of a peer: 0 ABSENT, 1 ALIVE, 2 DEAD. -/
def Hw.peerState (h : Hw) (d : Nat) : Nat := h.fget F.SL_PEERSTAT_STATE d

/-- The peers of the plan (R433). -/
def planPeers (h : Hw) : List Nat := (List.range h.modules).filter (· != h.sid)

/-- R437: the acting master: stack ID 0 while it is ALIVE, else the lowest ALIVE stack ID, the own one included. -/
def actingMaster (h : Hw) : Nat :=
  ((List.range 8).find? (fun d => d == h.sid || h.peerState d == 1)).getD h.sid

/-- R431, R439, SL_PSTAT.TIMEDN: the peer of port `s` takes stack time from this port when its route to the acting master resolves to that
port: its primary port, or its alternate where the primary is not UP. Of the peer's ports this module knows the state of those that lead
here. DEDUCED: the others count as UP. -/
def timeDown (h : Hw) (s : Nat) : Bool :=
  let p := h.fget F.SL_PSTAT_PEER s
  let a := h.fget F.SL_STKSTAT_MASTER 0
  let n := h.fget F.SL_STACK_NMOD 0
  let r := routePorts n (p ^^^ a)
  h.slUp s && p != a && (r.1 == s || r.2 == s && neighbour n p r.1 == some h.sid && !h.slUp r.1)

/-- The status bits that follow from peers and ports: MASTER, the own ALIVE bit, ONALT and TIMEDN. -/
def refreshStack (h : Hw) : Hw :=
  let h1 := h.fset F.SL_STKSTAT_MASTER 0 (actingMaster h)
  let alive := ((List.range 8).filter (fun d => d == h.sid || h.peerState d == 1)).foldl (fun a d => a + 2 ^ d) 0
  let h2 := h1.fset F.SL_STKSTAT_ALIVE 0 alive
  let h3 := (List.range 8).foldl (fun h d =>
    let r := h.route d
    h.fset F.SL_PEERSTAT_ONALT d (b2n (bitAt r 0 && egressOf h d != rtTarget r))) h2
  [0, 1, 2, 3].foldl (fun h s => h.fset F.SL_PSTAT_TIMEDN s (b2n (timeDown h s))) h3

/-! ### Link retry -/

/-- R249, R260: the rate of both queue sets of Spire port `s`. -/
def spireRate (s rate : Nat) (h : Hw) : Hw :=
  [72 + 2 * s, 73 + 2 * s].foldl (fun h xp => boundSet xp (h.fset F.TS_PORTRATE_VAL xp rate)) h

/-- R412: an ASEQ frees every DATA flit up to it, and waiting frames take the room. -/
def linkAck (s aseq : Nat) (h : Hw) : Hw :=
  let p := h.slPort s
  match p.unacked.findIdx? (fun x => x.1 == aseq) with
  | none => h
  | some i =>
    let h1 := h.setSlPort s { p with unacked := p.unacked.drop (i + 1), txq := [] }
    p.txq.foldl (fun h f => flitSend s f h) h1

/-- SPIRE_FLIT_RECEIVE (R412, R413): a flit is accepted in sequence, or it and every later flit are discarded until the replay,
with one NAK. The reserved type is handled as a CRC failure. -/
def flitReceive (s ftype fseq aseq : Nat) (av : Bool) (rest : FlitRest) (h : Hw) : Hw :=
  let p := h.slPort s
  let nak := fun (h : Hw) => if p.nak then h else sendNak s (h.setSlPort s { h.slPort s with nak := true })
  if ftype = 3 ∨ rest.crc ≠ flitCrc ftype fseq aseq av rest.payload then nak (h.fadd F.SL_CRCERR_VAL s 1)
  else if ftype = 0 ∧ fseq ≠ (p.last + 1) % 1024 then nak h
  else
    let h1 := if av then linkAck s aseq h else h
    if ftype = 0 then sendIdle s (h1.setSlPort s { h1.slPort s with last := fseq, av := true, nak := false }) else h1

/-- SPIRE_FLIT_RECEIVE. -/
def execSpireFlitReceive (port ftype fseq aseq : Nat) (av : Bool) (rest : FlitRest) (s : State) : Out :=
  onHw (fun h => if h.slUp port then flitReceive port ftype fseq aseq av rest h else h) s

/-- R414, R415: the replay buffer of port `s` is sent again from its oldest flit; the eighth replay of one FSEQ retrains the
port with its buffer kept. -/
def replay (s : Nat) (h : Hw) : Hw :=
  let p := h.slPort s
  match p.unacked with
  | [] => h
  | (q, n, f) :: rest =>
    let p' := { p with unacked := (q, n + 1, f) :: rest }
    let h1 := (sendReplay s ((h.setSlPort s p').fadd F.SL_LRETRY_VAL s 1)).raise
      { code := 0x1501, dom := domSpire, dinst := s, addr := q, unit := s, atype := 6 }
    if n + 1 = 8 then refreshStack (spireRate s 0 ((h1.setSlPort s { p' with retry := true }).fset F.SL_PSTAT_STATE s 1)) else h1

/-- SPIRE_NAK_RECEIVE (R414): the flits up to ASEQ are freed, and the rest replayed. -/
def execSpireNakReceive (port aseq : Nat) (s : State) : Out :=
  onHw (fun h => if h.slUp port then replay port (linkAck port aseq h) else h) s

/-- SPIRE_REPLAY_TIMEOUT (R414). -/
def execSpireReplayTimeout (port : Nat) (s : State) : Out := onHw (fun h => if h.slUp port then replay port h else h) s

/-! ### Port failure -/

/-- R422: a frame that is not freed is sent again on the route in force, and counted. -/
def retransmit (d tseq : Nat) (h : Hw) : Hw :=
  match (h.slPeer d).unfreed.find? (fun x => x.1 == tseq) with
  | none => h
  | some x =>
    let r := routeSend x.2.1 h
    let p := r.2.slPeer d
    (r.2.setSlPeer d { p with unfreed := updateFirst (fun y => y.1 == tseq) (fun y => (y.1, y.2.1, r.1.getD 4)) p.unfreed }).fadd
      F.SL_REPLAY_VAL 0 1

/-- R422: the frames whose latest copy went to port `s` are retransmitted at once. -/
def recoverPort (s : Nat) (h : Hw) : Hw :=
  (h.sl.peers).foldl (fun h x =>
    (x.2.unfreed.filter (fun y => y.2.2 == s)).foldl (fun h y => retransmit x.1 y.1 h) h) h

/-- The messages queued for a Spire port are discarded at egress; their frames are recovered by the transport (R431). -/
def dropSpireQueues (s : Nat) (h : Hw) : Hw :=
  let h0 := voqGone (fun e => e.eg == 72 + 2 * s) h
  (List.range 16).foldl (fun h q =>
    let qid := 16 * (72 + 2 * s) + q
    let e := h.eq qid
    if !e.nonEmpty then h
    else
      leaveQueue qid ((e.head ++ e.stage).foldl (fun h x => releaseCells x h)
        (dropDome qid (fun _ => true) (h.setEq qid { e with head := [], stage := [] })))) h0

/-- The message that Spire port `s` is sending is cut off; its frame is recovered by the transport (R431). -/
def cutSpireTx (s : Nat) (h : Hw) : Hw :=
  match Store.get? h.sw.inTx (72 + 2 * s) with
  | none => h
  | some e => releaseCells e { h with sw := { h.sw with inTx := Store.del h.sw.inTx (72 + 2 * s) } }


/-- R443: the report of port `s` that goes DOWN for reason `why`. -/
def downSrc (s why : Nat) : FaultSrc := { code := 0x1509, dom := domSpire, dinst := s, addr := why, unit := s, atype := 6 }

/-- R443: port `s` goes DOWN: reported, its link state discarded, and its frames sent on the alternate route. -/
def spireDown (s why : Nat) (h : Hw) : Hw :=
  let fails := (h.slPort s).fails
  let h1 := (((h.fset F.SL_PSTAT_STATE s 0).fset F.SL_PSTAT_DOWNWHY s why).fset F.SL_PSTAT_TXPS s 0).fset F.SL_PSTAT_RXPS s 0
  let h2 := (h1.setSlPort s { SlPort.fresh with fails := fails }).raise
    (downSrc s why)
  recoverPort s (refreshStack (spireRate s 0 (cutSpireTx s (badOpen (72 + 2 * s) (dropSpireQueues s h2)))))

/-- R443: port `s` is taken DOWN for reason `why` from whatever it is in, but FAILED, which only fabric reset ends (R424). -/
def spireStop (s why : Nat) (h : Hw) : Hw :=
  let st := h.fget F.SL_PSTAT_STATE s
  if h.slUp s || (h.slPort s).retry then spireDown s why h
  else if st = 4 then h
  else
    let h1 := (h.fset F.SL_PSTAT_STATE s 0).fset F.SL_PSTAT_DOWNWHY s why
    if st = 0 then h1 else h1.raise (downSrc s why)

/-- SPIRE_PORT_DOWN (R443). -/
def execSpirePortDown (port why : Nat) (s : State) : Out :=
  onHw (fun h => if h.slUp port ∧ 1 ≤ why ∧ why < 8 then spireDown port why h else h) s

/-! ### Training -/

/-- Whether a Spire port may train (R424, R426, R427, R460). -/
def spireMayTrain (h : Hw) (s : Nat) : Bool :=
  h.flag F.SL_PCFG_EN s && !h.flag F.SL_STKSTAT_SIDERR 0 && !h.contained (didxOf domSpire s) &&
  decide (h.fget F.SL_PSTAT_STATE s ≤ 1)

/-- R425: the reason for which the stack check of port `s` fails, if it does. -/
def stackCheck (h : Hw) (s peer peerPort nmod digest : Nat) : Option Nat :=
  let n := h.fget F.SL_STACK_NMOD 0
  if peer = h.sid ∨ neighbour n h.sid s ≠ some peer then some 5
  else if peerPort ≠ s then some 6
  else if nmod ≠ n ∨ digest ≠ h.fget F.SL_PLANDIG_LO_VAL 0 + 2 ^ 32 * h.fget F.SL_PLANDIG_HI_VAL 0 then some 6
  else none

/-- R424: the port is UP: DATA flits start at FSEQ 0, or replay continues after a retrain under R415. -/
def spireUp (s : Nat) (h : Hw) : Hw :=
  let p := h.slPort s
  let h1 := h.fset F.SL_PSTAT_STATE s 2
  refreshStack (spireRate s 512000
    (if p.retry then
      sendReplay s (h1.setSlPort s
        { p with unacked := p.unacked.map (fun x => (x.1, 0, x.2.2)), retry := false, nak := false })
     else h1.setSlPort s { SlPort.fresh with fails := p.fails }))

/-- SPIRE_TRAINING (R424, R425): an attempt that has exchanged IDENT flits reaches step 5: UP, or CHECKFAIL. -/
def spireTrain (s peer peerPort nmod : Nat) (id : PlanId) (delay : Nat) (h : Hw) : Hw :=
  if spireMayTrain h s then
    let h1 := ((h.fset F.SL_PSTAT_PEER s peer).fset F.SL_PDELAY_VAL s delay).emit
      (.ident h.sid s (h.fget F.SL_STACK_NMOD 0) (h.fget F.SL_PLANDIG_LO_VAL 0 + 2 ^ 32 * h.fget F.SL_PLANDIG_HI_VAL 0)
        (h.fget F.SL_STKSTAT_INC 0))
    match stackCheck h s peer peerPort nmod id.digest with
    | some why =>
      (((if (h1.slPort s).retry then spireDown s 2 h1 else h1).fset F.SL_PSTAT_STATE s 3).fset F.SL_PSTAT_DOWNWHY s why).raise
        { code := 0x3505, dom := domSpire, dinst := s, addr := why, unit := s, atype := 6 }
    | none => spireUp s h1
  else h

/-- SPIRE_TRAINING_FAIL (R411, R415, R424, R443): an attempt fails: with RETRY after R415, for a lane with LANE, in both cases DOWN; three
within 1 s make the port FAILED. -/
def spireTrainFail (s : Nat) (lane : Bool) (h : Hw) : Hw :=
  if spireMayTrain h s then
    let now := h.ck.ltime
    let p := h.slPort s
    let l := p.fails.filter (fun t => decide (now < t + 1000000000)) ++ [now]
    let h1 := if p.retry then spireDown s 2 h
      else if lane then ((h.fset F.SL_PSTAT_STATE s 0).fset F.SL_PSTAT_DOWNWHY s 4).raise (downSrc s 4)
      else h.fset F.SL_PSTAT_STATE s 1
    let h2 := h1.setSlPort s { SlPort.fresh with fails := l }
    if 3 ≤ l.length then
      (h2.fset F.SL_PSTAT_STATE s 4).raise
        { code := 0x350A, dom := domSpire, dinst := s, addr := h2.fget F.SL_PSTAT_DOWNWHY s, unit := s, atype := 6,
          held := 1 }
    else h2
  else h

/-- RETRAIN of SL_PCFG (R425, R445): training starts from DOWN or CHECKFAIL. -/
def spireRetrain (s : Nat) (h : Hw) : Hw :=
  let st := h.fget F.SL_PSTAT_STATE s
  if (st = 0 ∨ st = 3) ∧ h.flag F.SL_PCFG_EN s ∧ !h.flag F.SL_STKSTAT_SIDERR 0 ∧ !h.contained (didxOf domSpire s) then
    h.fset F.SL_PSTAT_STATE s 1
  else h

/-- SL_PCFG_RETRAIN. -/
def execSlPcfgRetrain (_p : Path) (port : Nat) (s : State) : Out := onHw (spireRetrain port) s

/-- R426, R430, R432, R434, R438: what a fabric reset leaves of the stack: the stack ID sampled from `slot` or SL_STACK, every
peer ABSENT, the ports with EN training, INC advanced, and the routes written. -/
def stackReset (slot : Nat) (h : Hw) : Hw :=
  let solo := ((List.range 8).filter (fun d => h.peerState d == 1)).isEmpty
  let sid := if h.flag F.SL_STACK_OVR 0 then h.fget F.SL_STACK_SID 0 else slot % 8
  let h1 := (h.fset F.SL_STKSTAT_SID 0 sid).fset F.SL_STKSTAT_INC 0 (h.fget F.SL_STKSTAT_INC 0 + 1)
  let err := h1.modules ≤ sid
  let h2 := (h1.fset F.SL_STKSTAT_SIDERR 0 (b2n err)).fset F.SL_STKSTAT_TSYNC 0 0
  let h3 := (List.range 8).foldl (fun h d => (h.fset F.SL_PEERSTAT_STATE d 0).fset F.SL_PEERSTAT_INC d 0) h2
  let h4 := [0, 1, 2, 3].foldl (fun h s =>
    ([F.SL_PSTAT_PEER, F.SL_PSTAT_TXPS, F.SL_PSTAT_RXPS, F.SL_PSTAT_DOWNWHY].foldl (fun h f => h.fset f s 0) h).fset
      F.SL_PSTAT_STATE s (if h.flag F.SL_PCFG_EN s ∧ !err then 1 else 0)) h3
  let h5 := { h4 with sl := ⟨[], [], 0, false, 0⟩, stime := if solo then 0 else h4.stime }
  let h6 := if err then
      h5.raise { code := 0x3506, dom := domDevice, dinst := 0, addr := sid, unit := 0 }
    else h5
  refreshStack (writeRoutes h6)

/-! ### Frames -/

/-- R420, R421: SL_OOW counts, and an information fault in the peer's domain names, a number out of its window, on Spire port `port`. -/
def outOfWindow (port d a : Nat) (h : Hw) : Hw :=
  (h.fadd F.SL_OOW_VAL 0 1).raise { code := 0x0504, dom := domSpire, dinst := 4 + d, addr := a, unit := port, atype := 6 }

/-- R421: an ACKSEQ that has arrived on Spire port `port` frees the frames it covers; one that would free a TSEQ not yet assigned, which is
one ahead of NSEND in the sequence space, is ignored and counted. -/
def ackReceive (port d a : Nat) (h : Hw) : Hw :=
  let p := h.slPeer d
  let ahead := (a + 2 ^ 24 - p.nsend) % 2 ^ 24
  if 1 ≤ ahead ∧ ahead < 2 ^ 23 then outOfWindow port d a h
  else
    let keep := p.unfreed.filter (fun x =>
      let k := (a + 2 ^ 24 - x.1) % 2 ^ 24
      !decide (1 ≤ k ∧ k ≤ 4096))
    let old := (keep.head?.map Prod.fst).getD p.nsend
    drainWait d (h.setSlPeer d { p with unfreed := keep, old := old }) p.wait.length

/-- The Spire port that names peer `d` in a message of this module where no port of arrival is known: that of the route to it. -/
def peerPort (h : Hw) (d : Nat) : Nat := (h.slRoute d).getD 0

/-- SPIRE_ACK_RECEIVE (R421, R434). -/
def execSpireAckReceive (src ackseq : Nat) (s : State) : Out :=
  onHw (fun h =>
    if h.peerState src = 1 then ackReceive (peerPort h src) src (ackseq % 2 ^ 24) h else h.fadd F.HD_LATE_VAL 0 1) s

/-- SPIRE_ACK_SEND (R421). -/
def execSpireAckSend (peer : Nat) (s : State) : Out :=
  onHw (fun h => if h.peerState peer = 1 ∧ (h.slPeer peer).ackDue then sendPlain peer 1 0 h else h) s

/-- SPIRE_RETRANSMIT_TIMEOUT (R422). -/
def execSpireRetransmitTimeout (peer tseq : Nat) (s : State) : Out :=
  onHw (fun h => if h.peerState peer = 1 then retransmit peer tseq h else h) s

/-- SPIRE_FRAME_FORWARD (R418): a frame for another module leaves on the route of its DST, or is dropped at the hop limit. -/
def execSpireFrameForward (_port : Nat) (f : SlFrame) (s : State) : Out :=
  onHw (fun h =>
    if f.dst = h.sid then h
    else if f.hops = 3 then h.fadd F.SL_HOPDROP_VAL 0 1
    else match h.slRoute f.dst with
      | some s => portSend s f h
      | none => h) s

/-- Whether a frame type is sequenced (R417). -/
def sequenced (t : Nat) : Bool := t == 0 || t == 4 || t == 7

/-- R77, R96: whether a MSG body is a coherence message with a reserved opcode or agent index. -/
def msgBad (b : Nat) : Bool :=
  let op := bits b 0 5
  decide (op = 6 ∨ op = 7 ∨ (0x0C ≤ op ∧ op ≤ 0x0F) ∨ op = 0x17 ∨ 0x19 ≤ op) ||
  decide (73 ≤ bits b 8 7 ∨ 73 ≤ bits b 18 7)

/-- R130: a request or release that has been delivered, and that its line's queue has still to accept; one sent again after a Retry keeps its
first transport number. -/
def noteUnacc (f : SlFrame) (h : Hw) : Hw :=
  let src := bits f.body 8 10
  let txn := bits f.body 28 14
  if f.ftype = 0 ∧ bits f.body 0 5 ≤ 5 ∧ !h.hd.unacc.any (fun x => x.1 == src && x.2.1 == txn) then
    { h with hd := { h.hd with unacc := h.hd.unacc ++ [(src, txn, f.tseq)] } }
  else h

/-- R96, R420, R655: a delivered frame goes to its block; a bad coherence message is discarded and reported, and an ALLOC with a
reserved OP is answered BADOP. -/
def deliver (port : Nat) (f : SlFrame) (h : Hw) : Hw :=
  if f.ftype = 0 ∧ msgBad f.body then
    (h.fadd F.HD_LATE_VAL 0 1).raise
      { code := 0x3A01, dom := domSpire, dinst := port, addr := bits f.body 48 40 * 64,
        unit := h.servedBy (sliceOf (bits f.body 48 40)), atype := 4,
        master := 0x2000 + bits f.body 8 10 }
  else if f.ftype = 7 ∧ !((1 ≤ bits f.body 0 8 ∧ bits f.body 0 8 ≤ 4) ∨ bits f.body 0 8 = 0x0F) then
    h.emitAlloc f.src 0xF 2 (bits f.body 16 16) (bits f.body 32 22) (bits f.body 64 32)
  else (noteUnacc f h).emit (.deliver f.src f.ftype f.body)

/-- NEXP advances over the TSEQs that have arrived. -/
def advanceNexp (p : SlPeer) : Nat → SlPeer
  | 0 => p
  | n + 1 =>
    if p.got.contains p.nexp then
      advanceNexp { p with nexp := (p.nexp + 1) % 2 ^ 24, got := p.got.filter (· != p.nexp), ackDue := true } n
    else p

/-- R420: a sequenced frame is delivered once, by its place in the window. -/
def sequencedIn (port : Nat) (f : SlFrame) (h : Hw) : Hw :=
  let p := h.slPeer f.src
  let d := (f.tseq + 2 ^ 24 - p.nexp) % 2 ^ 24
  if d < 4096 then
    if p.got.contains f.tseq then h.fadd F.SL_DUP_VAL 0 1
    else
      let p1 := { p with got := p.got ++ [f.tseq] }
      deliver port f (h.setSlPeer f.src (advanceNexp p1 p1.got.length))
  else if d < 2 ^ 23 then
    outOfWindow port f.src f.tseq h
  else h.fadd F.SL_DUP_VAL 0 1

/-- SPIRE_FRAME_DELIVER (R417, R419 to R421, R434): ECRC, BAD, the type, the peer's state, its ACKSEQ, and the window. -/
def frameDeliver (port : Nat) (f : SlFrame) (ecrc : Nat) (h : Hw) : Hw :=
  if f.dst ≠ h.sid then h
  else if ecrc ≠ frameEcrc f then
    (h.fadd F.SL_ECRCERR_VAL 0 1).raise { code := 0x1503, dom := domSpire, dinst := port, addr := f.tseq, unit := port, atype := 6 }
  else if f.bad then h.fadd F.SW_BADDROP_VAL 0 1
  else if 8 ≤ f.ftype then
    (h.fadd F.SL_BADTYPE_VAL 0 1).raise { code := 0x3502, dom := domSpire, dinst := port, addr := f.ftype, unit := port, atype := 6 }
  else
    let alive := h.peerState f.src == 1
    let h1 := if alive && f.ackv then ackReceive port f.src f.ackseq h else h
    if f.ftype = 2 ∨ f.ftype = 5 ∨ f.ftype = 6 then h1.emit (.deliver f.src f.ftype f.body)
    else if !alive then h.fadd F.HD_LATE_VAL 0 1
    else if sequenced f.ftype then sequencedIn port f h1
    else if f.ftype = 1 then h1
    else h1.emit (.deliver f.src f.ftype f.body)

/-- SPIRE_FRAME_DELIVER. -/
def execSpireFrameDeliver (port : Nat) (f : SlFrame) (ecrc : Nat) (s : State) : Out := onHw (frameDeliver port f ecrc) s

/-! ### Liveness -/

/-- HEARTBEAT_SEND (R433): to every peer of the plan, dead ones included. -/
def execHeartbeatSend (s : State) : Out :=
  onHw (fun h =>
    if h.flag F.SL_STKSTAT_SIDERR 0 then h
    else (planPeers h).foldl (fun h d => sendPlain d 2 (h.fget F.SL_STKSTAT_INC 0 + h.sid * 2 ^ 16) h) h) s

/-- R435: FENCEOUT to a DEAD peer, at most once per 10 µs, with the INC recorded at its declaration. -/
def sendFenceout (d : Nat) (h : Hw) : Hw :=
  let p := h.slPeer d
  match p.fenceAt with
  | some t => if h.ck.ltime < t + 10000 then h
    else sendPlain d 6 (h.fget F.SL_PEERSTAT_INC d) (h.setSlPeer d { p with fenceAt := some h.ck.ltime })
  | none => sendPlain d 6 (h.fget F.SL_PEERSTAT_INC d) (h.setSlPeer d { p with fenceAt := some h.ck.ltime })

/-- HEARTBEAT_RECEIVE (R433, R435): a DEAD peer that still carries its recorded INC is fenced out. -/
def execHeartbeatReceive (src inc : Nat) (s : State) : Out :=
  onHw (fun h => if h.peerState src = 2 ∧ h.fget F.SL_PEERSTAT_INC src = inc then sendFenceout src h else h) s

/-- R151, R160, R423, R655: peer `p` is declared dead: as a Cupola, as a home, and in every request that awaits it. -/
def peerDead (p : Nat) (m : Mach) : Mach :=
  let m1 := m.onHw (fun h =>
    let q := h.slPeer p
    refreshStack (((dropWait p h).fset F.SL_PEERSTAT_STATE p 2).setSlPeer p { SlPeer.fresh with joinInc := q.joinInc }))
  allocPeerDead p ((declareDead (cupAgent p) [] m1).onHw (cuHomeLost p))

/-- HEARTBEAT_TIMEOUT (R433). -/
def execHeartbeatTimeout (peer : Nat) (s : State) : Out :=
  onMach (fun m => if m.hw.peerState peer = 1 then peerDead peer m else m) s

/-- A JOIN to peer `d` (R434): INC, and the INC of its latest JOIN. -/
def sendJoin (d : Nat) (h : Hw) : Hw :=
  let j := (h.slPeer d).joinInc
  sendPlain d 5 (h.fget F.SL_STKSTAT_INC 0 + j.getD 0 * 2 ^ 16 + b2n j.isSome * 2 ^ 32) h

/-- JOIN_SEND (R434): to every ABSENT or DEAD peer. -/
def execJoinSend (s : State) : Out :=
  onHw (fun h =>
    if h.flag F.SL_STKSTAT_SIDERR 0 then h
    else ((planPeers h).filter (fun d => h.peerState d != 1)).foldl (fun h d => sendJoin d h) h) s

/-- R434: whether the reclaim walk that handles peer `d` has ended. -/
def reclaimed (h : Hw) (d : Nat) : Bool := !h.hd.dead.any (fun x => x.agent == cupAgent d && !x.done)

/-- JOIN_RECEIVE (R434, R435). -/
def joinReceive (d inc ackinc : Nat) (ackv : Bool) (h : Hw) : Hw :=
  let st := h.peerState d
  let fence := st = 2 ∧ h.fget F.SL_PEERSTAT_INC d = inc
  let h1 := h.setSlPeer d { h.slPeer d with joinInc := some inc }
  let h2 := if st = 2 then h1 else h1.fset F.SL_PEERSTAT_INC d inc
  let h3 := sendJoin d (if fence then sendFenceout d h2 else h2)
  if ackv ∧ ackinc = h.fget F.SL_STKSTAT_INC 0 ∧ (st = 0 ∨ (st = 2 ∧ !fence ∧ reclaimed h d)) then
    let h4 := (h3.fset F.SL_PEERSTAT_STATE d 1).fset F.SL_PEERSTAT_INC d inc
    refreshStack ((dropWait d h4).setSlPeer d { SlPeer.fresh with joinInc := some inc })
  else h3

/-- JOIN_RECEIVE. -/
def execJoinReceive (src inc ackinc : Nat) (ackincv : Bool) (s : State) : Out := onHw (joinReceive src inc ackinc ackincv) s

/-- FENCEOUT_RECEIVE (R435). -/
def execFenceoutReceive (src _inc : Nat) (s : State) : Out :=
  onMach (fun m =>
    if m.hw.peerState src = 1 then peerDead src m
    else if m.hw.peerState src = 2 ∧ src < m.hw.sid then
      m.onHw (fun h =>
        let h1 := h.raise { code := 0x3507, dom := domSpire, dinst := 4 + src, unit := peerPort h src }
        { h1 with ck := { h1.ck with fabReq := some (h1.ck.fabReq.getD 2) } })
    else m) s

/-- HD_DEAD_CLEAR (R161): a host port's bit clears when its walk has ended, its link is up and its tenants have been reset; a
peer's when its walk has ended and it has rejoined. -/
def execHdDeadClear (agent : Nat) (s : State) : Out :=
  onHw (fun h =>
    match h.hd.dead.find? (fun d => d.agent == agent) with
    | none => h
    | some d =>
      let back := if agent % 128 = 72 then h.peerState (agent / 128) == 1
        else h.flag F.FP_LSTAT_UP (agent % 128) && d.tids.isEmpty
      if d.done && back then
        ({ h with hd := { h.hd with dead := h.hd.dead.filter (fun x => x.agent != agent) } }).setDeadBit agent 0
      else h) s

/-- Whether a BISnp of host port `port` for tenant `tid`, address `addr`, awaits its answer. -/
def bisnpOpen (h : Hw) (port tid addr : Nat) : Bool :=
  (biTarget h port tid addr).isSome ||
  h.cu.steps.any (fun s => s.gla % 2 ^ 15 == addr / 64 % 2 ^ 15 &&
    s.bis.any (fun b => b.1 == port && b.2.1 == tid && b.2.2 == addr / 2 ^ 21)) ||
  h.bd.flush.contains (port, tid, addr / 2 ^ 21, addr % 2 ^ 21 / 64)

/-- BISNP_TIMEOUT (R119, R161): the host port is declared dead, and while its link is up each of its HDM-DB tenants is reset; its bit
stays until each of its tenants has completed a reset. -/
def execBisnpTimeout (port tid addr : Nat) (s : State) : Out :=
  onMach (fun m =>
    if bisnpOpen m.hw port tid addr ∧ !m.hw.isDead (m.hw.agentOf port) then
      let ts := m.hw.tidsWhere (fun e => ttState e != 0 && ttPort e == port)
      let db := ts.filter (fun t => ttHdmDb (m.hw.ent t))
      let m1 := if m.hw.flag F.FP_LSTAT_UP port then m.onHw (fun h => db.foldl (fun h t => (askReset t h).2) h) else m
      hostDead port ts m1
    else m) s

/-! ### Stack time -/

/-- TIME_SEND (R438): a TIME frame on every UP port. -/
def execTimeSend (s : State) : Out :=
  onHw (fun h => [0, 1, 2, 3].foldl (fun h s =>
    portSend s ⟨h.fget F.SL_PSTAT_PEER s, h.sid, 0, 3, 0, (h.slPeer (h.fget F.SL_PSTAT_PEER s)).nexp, true, false,
      timeBody h⟩ h) h) s

/-- TIME_RECEIVE (R439): a TIME frame on the port toward the acting master steps or slews stack time. -/
def timeReceive (s time depth : Nat) (h : Hw) : Hw :=
  let a := h.fget F.SL_STKSTAT_MASTER 0
  if a ≠ h.sid ∧ depth < 255 ∧ h.slRoute a = some s ∧ h.slUp s then
    let t := (time + h.fget F.SL_PDELAY_VAL s / 32) % 2 ^ 64
    let d := (t + 2 ^ 64 - h.stime % 2 ^ 64) % 2 ^ 64
    let e : Int := if d < 2 ^ 63 then Int.ofNat d else (d : Int) - 2 ^ 64
    let h1 := { h with sl := { h.sl with depth := depth + 1, synced := true } }.fset F.SL_STKSTAT_TSYNC 0 1
    if h.sl.synced = false ∨ 1000 < e.natAbs then
      let h2 := { h1 with stime := t, sl := { h1.sl with slew := 0 } }
      if h.sl.synced then
        (h2.fadd F.SL_TSTEP_VAL 0 1).raise
          { code := 0x0508, dom := domDevice, dinst := 0, addr := d, unit := s }
      else h2
    else { h1 with sl := { h1.sl with slew := e } }
  else h

/-- TIME_RECEIVE: frames of a peer that is not ALIVE are discarded (R434). -/
def execTimeReceive (port time depth : Nat) (s : State) : Out :=
  onHw (fun h =>
    if h.peerState (h.fget F.SL_PSTAT_PEER port) = 1 then timeReceive port time depth h else h.fadd F.HD_LATE_VAL 0 1) s

/-- TSYNC_TIMEOUT (R440). -/
def execTsyncTimeout (s : State) : Out := onHw (fun h => h.fset F.SL_STKSTAT_TSYNC 0 0) s

/-- R439: stack time slews by at most 1 ns in each µs. -/
def slewTick (h : Hw) : Hw :=
  if h.ck.ltime % 1000 = 0 then
    if 0 < h.sl.slew then { h with stime := (h.stime + 1) % 2 ^ 64, sl := { h.sl with slew := h.sl.slew - 1 } }
    else if h.sl.slew < 0 then { h with stime := (h.stime + 2 ^ 64 - 1) % 2 ^ 64, sl := { h.sl with slew := h.sl.slew + 1 } }
    else h
  else h

/-- PACING_WHEEL_TICK (R241, R245, R439, R486): the next 10 ns tick of local time, with the lanes under test and the slew of
stack time. -/
def execPacingWheelTick (s : State) : Out :=
  onHw (fun h => if h.fget F.CK_PWRSTAT_STATE 0 = 2 then h else slewTick (laneTick (wheelTick h))) s

/-! ### Sleep -/

/-- The field that holds a direction's sleep state. -/
def sleepFld (rx : Bool) : Fld := if rx then F.SL_PSTAT_RXPS else F.SL_PSTAT_TXPS

/-- SPIRE_SLEEP_S1 (R442): an idle direction with nothing unacknowledged enters S1. -/
def execSpireSleepS1 (port : Nat) (rx : Bool) (s : State) : Out :=
  onHw (fun h =>
    if h.slUp port ∧ h.fget (sleepFld rx) port = 0 ∧ (rx ∨ (h.flag F.SL_PCFG_S1EN port ∧ (h.slPort port).unacked.isEmpty)) then
      h.fset (sleepFld rx) port 1
    else h) s

/-- SPIRE_SLEEP_S2 (R442): from S1 to S2. -/
def execSpireSleepS2 (port : Nat) (rx : Bool) (s : State) : Out :=
  onHw (fun h =>
    if h.slUp port ∧ h.fget (sleepFld rx) port = 1 ∧
        (rx ∨ (h.flag F.SL_PCFG_S2EN port ∧ !h.flag F.SL_PSTAT_TIMEDN port)) then
      h.fset (sleepFld rx) port 2
    else h) s

/-- SPIRE_SLEEP_EXIT (R442). -/
def execSpireSleepExit (port : Nat) (rx : Bool) (s : State) : Out := onHw (fun h => h.fset (sleepFld rx) port 0) s

end Sys2Proof.Machine
end

