-- ==== Sys2Proof/Machine/Barrier.lean ====
section
/-! DEFINITION. The barrier channel as its two ends see it (R533 to R540): synchronisation and HELLO, sequenced frames with
their ACKs, NAKs and repeats, ALARM frames, and Watchtower's STATUS and PWR frames with the status block of R531. -/
namespace Sys2Proof.Machine

/-! ### Checks -/

/-- One bit of the barrier CRC (R534). -/
def crc16Bit (c : Nat) : Nat := if c / 2 ^ 15 % 2 = 1 then Nat.xor (c * 2 % 2 ^ 16) 0x1021 else c * 2 % 2 ^ 16

/-- One byte of the barrier CRC, most significant bit first. -/
def crc16Byte (c : Nat) (b : Byte) : Nat :=
  let x := Nat.xor c (b.toNat * 256)
  crc16Bit (crc16Bit (crc16Bit (crc16Bit (crc16Bit (crc16Bit (crc16Bit (crc16Bit x)))))))

/-- R534: polynomial 0x1021, initial value 0xFFFF, no final complement. -/
def crc16 (bs : List Byte) : Nat := bs.foldl crc16Byte 0xFFFF

/-- R540: whether a payload has the LEN of its frame type. -/
def frameLenOk (ftype n : Nat) : Bool :=
  match ftype with
  | 0x00 | 0x10 | 0x12 => n == 2
  | 0x01 => n == 4
  | 0x02 | 0x15 => n == 0
  | 0x11 => n == 32
  | 0x13 | 0x22 => n == 16
  | 0x14 | 0x23 => decide (2 ≤ n ∧ n ≤ 80)
  | 0x16 => n == 10
  | 0x20 | 0x21 => n == 1
  | 0x24 => n == 7
  | _ => false

/-- The byte `i` of a payload as a number. -/
def byteAt (bs : List Byte) (i : Nat) : Nat := (bs.getD i 0).toNat

/-- The `n` bytes of a payload from byte `i`, little-endian. -/
def leAt (bs : List Byte) (i : Nat) : Nat → Nat
  | 0 => 0
  | n + 1 => byteAt bs i + 256 * leAt bs (i + 1) n

/-! ### Ends -/

/-- An end of the channel: the fabric end or Watchtower's. -/
def Hw.barEnd (h : Hw) (fab : Bool) : BarEnd := if fab then h.bc.fab else h.wt.bar

/-- An end replaced. -/
def Hw.setBarEnd (h : Hw) (fab : Bool) (e : BarEnd) : Hw :=
  if fab then { h with bc := { h.bc with fab := e } } else { h with wt := { h.wt with bar := e } }

/-- A control or priority frame leaves the end `fab`. -/
def barCtl (fab : Bool) (ftype seq : Nat) (body : List Byte) (h : Hw) : Hw := h.emit (.barrier (!fab) ftype seq body)

/-- R536: frames that wait are sent while fewer than 8 are unacknowledged. -/
def barFill (fab : Bool) (h : Hw) : Nat → Hw
  | 0 => h
  | n + 1 =>
    let e := h.barEnd fab
    match e.wait with
    | [] => h
    | (t, body) :: rest =>
      if e.up ∧ e.asleep = false ∧ e.unacked.length < 8 then
        let e' := { e with wait := rest, unacked := e.unacked ++ [BFrame.mk e.tx t body 1], tx := (e.tx + 1) % 256 }
        barFill fab (barCtl fab t e.tx body (h.setBarEnd fab e')) n
      else h

/-- R536, R538, R539: a sequenced frame of the end `fab`: sent, held while the end sleeps or the window is full, or lost
while the link is down. -/
def barSend (fab : Bool) (ftype : Nat) (body : List Byte) (h : Hw) : Hw :=
  let e := h.barEnd fab
  if e.up then
    let h1 := h.setBarEnd fab { e with wait := e.wait ++ [(ftype, body)] }
    if e.asleep then (if fab then h1 else h1.emit .barrierWake) else barFill fab h1 1
  else h

/-- R538: the link goes down: unacknowledged and waiting frames are discarded, but the latest SETCFG is kept. -/
def barDown (h : Hw) : Hw :=
  let e := h.bc.fab
  let sets := ((e.unacked.filter (fun f => f.ftype == 0x22)).map (fun f => f.body)) ++
    ((e.wait.filter (fun f => f.1 == 0x22)).map Prod.snd)
  let keep := match sets.getLast? with
    | some b => some b
    | none => h.bc.setcfg
  let idle := fun (x : BarEnd) => { BarEnd.down with sync := x.sync, asleep := x.asleep }
  let h1 := { h with
    bc := { h.bc with fab := idle e, setcfg := keep },
    wt := { h.wt with bar := idle h.wt.bar, regPend := false } }
  if e.up then (h1.fset F.BC_STAT_LINK 0 0).fadd F.BC_LINKDN_VAL 0 1 else h1.fset F.BC_STAT_LINK 0 0

/-- R536, R537: the frames of `fab` that are not acknowledged are sent again from the oldest; `nak` counts them as repeats and
reports BARRIER at the fabric end. The 16th send without progress takes the link down. -/
def barResend (fab nak : Bool) (h : Hw) : Hw :=
  let e := h.barEnd fab
  if e.unacked.any (fun f => decide (16 ≤ f.sends)) then barDown h
  else
    let n := e.unacked.length
    let e' := { e with unacked := e.unacked.map (fun f => { f with sends := f.sends + 1 }) }
    let h1 := e.unacked.foldl (fun h f => barCtl fab f.ftype f.seq f.body h) (h.setBarEnd fab e')
    if nak then
      let h2 := { h1 with wt := { h1.wt with repeats := satAdd 16 h1.wt.repeats n } }.fadd F.BC_REPEAT_VAL 0 n
      if fab ∧ n ≠ 0 then h2.raise { code := 0x1F02, dom := domDevice, dinst := 0, atype := 6 } else h2
    else h1

/-- R536: an ACK frees every frame up to the SEQ it names, and waiting frames take the room. -/
def barAck (fab : Bool) (seq : Nat) (h : Hw) : Hw :=
  let e := h.barEnd fab
  match e.unacked.findIdx? (fun f => f.seq == seq) with
  | none => h
  | some i => barFill fab (h.setBarEnd fab { e with unacked := e.unacked.drop (i + 1) }) 8

/-- An ACK leaves the end `fab` (R536, R540). -/
def sendAck (fab : Bool) (seq : Nat) (nak : Bool) (h : Hw) : Hw :=
  barCtl fab 0 0 [BitVec.ofNat 8 seq, BitVec.ofNat 8 (b2n nak)] h

/-- R534, R542: a frame that fails its check; the fabric end counts it. -/
def checkFailed (fab : Bool) (h : Hw) : Hw := if fab then h.fadd F.BC_CRCERR_VAL 0 1 else h

/-- R536, R537, R540: a sequenced frame reaches the end `fab`: it is NAKed when its check fails, discarded with the last ACK sent
again when it is out of order, discarded without an ACK when a code in it is reserved, and else accepted. -/
def barRecv (fab ok : Bool) (ftype seq : Nat) (body : List Byte) (codeOk : Bool) (act : Hw → Hw) (h : Hw) : Hw :=
  let e := h.barEnd fab
  if e.sync = false ∨ e.up = false then h
  else if ok = false ∨ frameLenOk ftype body.length = false then
    let h1 := sendAck fab ((e.rx + 255) % 256) true (checkFailed fab h)
    if fab then h1.raise { code := 0x1F02, dom := domDevice, dinst := 0, atype := 6 } else h1
  else if seq ≠ e.rx then sendAck fab ((e.rx + 255) % 256) false h
  else if codeOk = false then (if fab then h.fadd F.BC_BADFRM_VAL 0 1 else h)
  else act (sendAck fab seq false (h.setBarEnd fab { e with rx := (e.rx + 1) % 256 }))

/-- R534, R540: a control or priority frame reaches the end `fab` and is acted on when its check passes. -/
def barCtlRecv (fab ok : Bool) (ftype : Nat) (body : List Byte) (act : Hw → Hw) (h : Hw) : Hw :=
  if (h.barEnd fab).sync = false then h
  else if ok = false ∨ frameLenOk ftype body.length = false then checkFailed fab h
  else act h

/-! ### What the fabric end sends of itself -/

/-- R532, R538: ALMLVL carries FC_ALM_CTRL.SWLVL. -/
def sendAlmlvl (h : Hw) : Hw := barSend true 0x21 [BitVec.ofNat 8 (h.fget F.FC_ALM_CTRL_SWLVL 0)] h

/-- R469, R535, R536: an ALARM frame, sent twice, and kept until it is acknowledged. -/
def sendAlarm (width : Nat) (h : Hw) : Hw :=
  let q := h.bc.aseq
  let h1 := { h with bc := { h.bc with aseq := (q + 1) % 256, alarms := h.bc.alarms ++ [(q, width)] } }
  if h1.bc.fab.up then
    barCtl true 0x20 q [BitVec.ofNat 8 width] (barCtl true 0x20 q [BitVec.ofNat 8 width] h1)
  else h1

/-- Every unacknowledged ALARM again, each twice (R536, R538). -/
def repeatAlarms (h : Hw) : Hw :=
  h.bc.alarms.foldl (fun h a =>
    barCtl true 0x20 a.1 [BitVec.ofNat 8 a.2] (barCtl true 0x20 a.1 [BitVec.ofNat 8 a.2] h)) h

/-- R538, R544: SETCFG with a settings block; PEND until its EVENT. While the link is down it is kept for the next UP. -/
def sendSetcfg (block : List Byte) (h : Hw) : Hw :=
  let h1 := h.fset F.BC_WCFGSTAT_PEND 0 1
  if h1.bc.fab.up then barSend true 0x22 block h1 else { h1 with bc := { h1.bc with setcfg := some block } }

/-- The settings block of BC_WCFG0-3, with bytes 14 and 15 computed (R544). -/
def wcfgBlock (h : Hw) : List Byte :=
  let b := ((List.range 4).flatMap (fun n => toLE (h.fget F.BC_WCFG_VAL n) 4)).take 14
  b ++ toLE (crc16 b) 2

/-- R543: MATCH compares BC_WCFG0-3 with the latest CFGRPT. -/
def evalMatch (h : Hw) : Hw := h.fset F.BC_WCFGSTAT_MATCH 0 (b2n (h.bc.report == some (wcfgBlock h)))

/-! ### What Watchtower sends of itself -/

/-- R532: ALM_N driven low. -/
def WtState.alm (w : WtState) : Bool := w.on && (w.pulse || w.swlvl || w.ws == 4 || w.ws == 5)

/-- The status block's bytes 0 to 3 (R531). -/
def statusHead (w : WtState) : List Byte :=
  [BitVec.ofNat 8 (w.ws + 8 * b2n w.pgood + 16 * b2n w.pfw + 32 * b2n w.alm + 64 * b2n w.bar.up),
   BitVec.ofNat 8 (b2n w.aOk + 2 * b2n w.bOk + 4 * b2n w.tel.aRev + 8 * b2n w.tel.bRev + 16 * b2n w.ov + 32 * b2n w.trip),
   BitVec.ofNat 8 (b2n w.seat1 + 2 * b2n w.seat2 + 4 * w.slot),
   BitVec.ofNat 8 (w.cause + 16 * w.retries)]

/-- The status block (R531). -/
def statusBlock (w : WtState) : List Byte :=
  statusHead w ++ toLE w.tel.va 2 ++ toLE w.tel.vb 2 ++ toLE w.tel.vbus 2 ++ toLE w.tel.ibus 2 ++
    [BitVec.ofNat 8 w.tel.temp, 0] ++ w.cnt.flatMap (fun c => toLE c 2) ++ toLE w.repeats 2 ++ [0, 0]

/-- A STATUS frame, while the link is UP and awake (R540). -/
def sendStatus (h : Hw) : Hw :=
  if h.wt.bar.up && !h.wt.bar.asleep then barCtl false 0x11 0 (statusBlock h.wt) h else h

/-- A PWR frame with a cause, sent twice, asleep or not (R535, R539, R540). -/
def sendPwr (cause : Nat) (h : Hw) : Hw :=
  let body := [BitVec.ofNat 8 (b2n h.wt.pgood + 2 * b2n h.wt.pfw), BitVec.ofNat 8 cause]
  barCtl false 0x10 0 body (barCtl false 0x10 0 body h)

/-- R531, R532, R540: an event at Watchtower: ALM_N follows, and a change of bytes 0 to 3 is reported at once. -/
def wtEvent (f : Hw → Hw) (h : Hw) : Hw :=
  let h1 := f h
  let h2 := if h1.wt.alm = h.wt.alm then h1 else h1.emit (.almN h1.wt.alm)
  if statusHead h2.wt = statusHead h.wt then h2 else sendStatus h2

/-! ### The commands of the channel -/

/-- R538: an end's link comes UP: the fabric end sends ALMLVL, the kept SETCFG and its ALARMs; Watchtower sends PWR, STATUS and
CFGRPT. -/
def barUp (fab : Bool) (h : Hw) : Hw :=
  let e := h.barEnd fab
  let h1 := h.setBarEnd fab { e with up := true, tx := 0, rx := 0, unacked := [], wait := [] }
  if fab then
    let h2 := sendAlmlvl (h1.fset F.BC_STAT_LINK 0 1)
    let h3 := match h2.bc.setcfg with
      | some b => barSend true 0x22 b { h2 with bc := { h2.bc with setcfg := none } }
      | none => h2
    repeatAlarms h3
  else barSend false 0x13 h1.wt.cfg (sendStatus (sendPwr 0 h1))

/-- HELLO (R538): a HELLO arrives; an end that has sent one too is UP. -/
def execHello (fab ok : Bool) (payload : List Byte) (s : State) : Out :=
  onHw (wtEvent (barCtlRecv fab ok 0x01 payload (fun h =>
    let e := h.barEnd fab
    if e.up then h
    else
      let h1 := h.setBarEnd fab { e with hgot := true }
      if e.hsent then barUp fab h1 else h1))) s

/-- The HELLO of an end (R540). -/
def sendHello (fab : Bool) (h : Hw) : Hw := barCtl fab 0x01 0 [1, 0, BitVec.ofNat 8 (b2n fab), 0] h

/-- HELLO_REPEAT (R538). -/
def execHelloRepeat (fab : Bool) (s : State) : Out :=
  onHw (fun h =>
    let e := h.barEnd fab
    if e.sync && !e.hgot && !e.up then sendHello fab (h.setBarEnd fab { e with hsent := true }) else h) s

/-- BARRIER_SYNC (R538, R539): the end's receiver is synchronised; it sends HELLO, or, where the link slept, its held frames. -/
def execBarrierSync (fab : Bool) (s : State) : Out :=
  onHw (fun h =>
    let e := h.barEnd fab
    if e.up then barFill fab (h.setBarEnd fab { e with sync := true, asleep := false }) 8
    else if e.sync then h
    else
      let h1 := h.setBarEnd fab { BarEnd.down with sync := true, hsent := true }
      sendHello fab h1) s

/-- BARRIER_LINK_DOWN (R538): a loss of synchronisation at an end, unless the link sleeps (R539), or 16 sends without progress. -/
def execBarrierLinkDown (fab syncLost : Bool) (s : State) : Out :=
  onHw (wtEvent (fun h =>
    let e := h.barEnd fab
    if syncLost then
      if e.asleep then h
      else
        let h1 := barDown h
        h1.setBarEnd fab { h1.barEnd fab with sync := false }
    else if e.unacked.any (fun f => decide (16 ≤ f.sends)) then barDown h
    else h)) s

/-- ACK_FRAME (R536): an ACK of an ALARM or of sequenced frames, or a NAK. -/
def execAckFrame (fab alarm ok : Bool) (payload : List Byte) (s : State) : Out :=
  onHw (wtEvent (barCtlRecv fab ok 0x00 payload (fun h =>
    let seq := byteAt payload 0
    if alarm then
      if fab then { h with bc := { h.bc with alarms := h.bc.alarms.filter (fun a => a.1 != seq) } } else h
    else if bitAt (byteAt payload 1) 0 then barResend fab true (barAck fab seq h)
    else barAck fab seq h))) s

/-- BARRIER_RESEND_TIMEOUT (R536). -/
def execBarrierResendTimeout (fab : Bool) (s : State) : Out :=
  onHw (wtEvent (fun h => if (h.barEnd fab).up && !(h.barEnd fab).asleep then barResend fab false h else h)) s

/-- ALARM_REPEAT (R536). -/
def execAlarmRepeat (s : State) : Out := onHw (fun h => if h.bc.fab.up then repeatAlarms h else h) s

/-- PWR_REPEAT (R540): a report each 1 ms, while the channel is awake. -/
def execPwrRepeat (s : State) : Out :=
  onHw (fun h => if h.wt.on && h.wt.bar.up && !h.wt.bar.asleep then sendPwr 0 h else h) s

/-- STATUS_REPEAT (R540): the measured values are renewed and a STATUS frame sent. -/
def execStatusRepeat (tel : Telem) (s : State) : Out :=
  onHw (fun h => if h.wt.on then sendStatus { h with wt := { h.wt with tel := tel } } else h) s

/-- SLEEP (R539): Watchtower holds its frames and silences its lane. -/
def execSleep (ok : Bool) (payload : List Byte) (s : State) : Out :=
  onHw (barCtlRecv false ok 0x02 payload (fun h =>
    if h.wt.bar.up then { h with wt := { h.wt with bar := { h.wt.bar with asleep := true, sync := false } } } else h)) s

end Sys2Proof.Machine
end

