-- ==== Sys2Proof/Machine/Watchtower.lean ====
section
/-! DEFINITION. The feed side (R508 to R532): Watchtower's states, seating, inrush, electronic fuse, PFW and PGOOD, its
settings, the chassis management bus and the alarm contact, with the frames that reach Watchtower. -/
namespace Sys2Proof.Machine

/-! ### Helpers -/

/-- An update of Watchtower's state. -/
def onWt (f : WtState → WtState) (h : Hw) : Hw := { h with wt := f h.wt }

/-- R511: Watchtower is in RAMP or ON. -/
def WtState.live (w : WtState) : Bool := w.ws == 2 || w.ws == 3

/-- R513: both seating pins are low. -/
def WtState.seated (w : WtState) : Bool := w.seat1 && w.seat2

/-- Byte `i` of the settings in force (R527). -/
def WtState.setting (w : WtState) (i : Nat) : Nat := byteAt w.cfg i

/-- One of the status block's counters raised (R531): 0 insertions, 1 glitches, 2 fault shutdowns, 3 latches, 4 and 5 losses of
feed A and B, 6 rises of PFW. -/
def bump (i : Nat) (w : WtState) : WtState := { w with cnt := w.cnt.set i (satAdd 16 (w.cnt.getD i 0) 1) }

/-- R510, R517: the gate's drive. -/
def setGate (g : Nat) (h : Hw) : Hw := if h.wt.gate = g then h else (onWt (fun w => { w with gate := g }) h).emit (.gate g)

/-- R522: PFW rises for a cause, and its frame leaves. -/
def risePfw (cause : Nat) (h : Hw) : Hw :=
  if h.wt.pfw then h else sendPwr cause (onWt (fun w => bump 6 { w with pfw := true }) h)

/-- The gate is turned off; while PGOOD is 1 PFW rises (R520, R522). -/
def gateOff (cause : Nat) (h : Hw) : Hw :=
  let h1 := setGate 0 h
  if h1.wt.pgood then risePfw cause h1 else h1

/-- R512, R515, R517: RAMP is entered: the gate ramps unless an overvoltage holds it off or no feed is valid. -/
def startRamp (h : Hw) : Hw :=
  let w := h.wt
  let dry := !w.aOk && !w.bOk
  let h1 := onWt (fun w => { w with ws := 2, paused := dry }) h
  if w.ov || dry || w.rel then setGate 0 h1 else setGate 1 h1

/-- An EVENT frame (R540). -/
def sendEvent (code data : Nat) (h : Hw) : Hw := barSend false 0x12 [BitVec.ofNat 8 code, BitVec.ofNat 8 data] h

/-- R520: fault shutdown with a cause. -/
def faultShutdown (cause : Nat) (h : Hw) : Hw :=
  let h1 := gateOff 4 h
  onWt (fun w =>
    let n := min (w.retries + 1) 15
    let w1 := bump 2 { w with cause := cause, retries := n, ftmr := false, paused := false }
    let lim := bits (w1.setting 6) 0 4
    if lim ≠ 0 ∧ lim ≤ n then bump 3 { w1 with ws := 5, latched := true }
    else { w1 with ws := 4, retry := true }) h1

/-- The fabric side and the memories without power: only what the flash, the fuses and Watchtower hold stays (R497, R524). -/
def powerOff (m : Mach) : Mach :=
  let h := m.hw
  let w := { h.wt with conv := false, bar := BarEnd.down, regPend := false }
  { mem := { Mem.reset with flash := m.mem.flash },
    hw := { Hw.reset with out := h.out, free := h.free, wt := w, otp := h.otp } }

/-- An event at Watchtower that takes the supplies of the fabric side away. -/
def wtPowerOff (f : Hw → Hw) (m : Mach) : Mach :=
  let m1 := powerOff m
  { m1 with hw := wtEvent f { m1.hw with wt := { m1.hw.wt with bar := m.hw.wt.bar } } }

/-! ### States -/

/-- FEED_VALID_RISE (R511, R521): Watchtower starts in SEATWAIT, or in LATCHED where the latch was kept; `longOff` is the
hold-time element's reading of at least 1 s without power. -/
def execFeedValidRise (feedB longOff : Bool) (s : State) : Out :=
  onHw (wtEvent (fun h =>
    let w := h.wt
    if w.on then
      let h1 := onWt (fun w => if feedB then { w with bOk := true } else { w with aOk := true }) h
      if h1.wt.ws = 2 ∧ h1.wt.paused then startRamp h1 else h1
    else
      let keep := w.latched && !longOff
      let w1 := { WtState.off with
        on := true, aOk := !feedB, bOk := feedB, cfg := w.cfg, older := w.older,
        retries := if longOff then 0 else w.retries, latched := keep, ws := if keep then 5 else 0 }
      { h with wt := w1 })) s

/-- WATCHTOWER_STOP (R511, R531): VIN and VBUS are below 20 V: FEED-OFF. -/
def execWatchtowerStop (s : State) : Out :=
  onMach (fun m =>
    let w := m.hw.wt
    let m1 := powerOff m
    let w1 := { WtState.off with cfg := w.cfg, older := w.older, retries := w.retries, latched := w.latched }
    { m1 with hw := { m1.hw with wt := w1 } }) s

/-- SEATING_ASSERT (R512 row 8): both pins are low; SEATWAIT moves to DEBOUNCE. -/
def execSeatingAssert (s : State) : Out :=
  onHw (wtEvent (onWt (fun w =>
    if w.on then
      { w with seat1 := true, seat2 := true, rel := false, ws := if w.ws = 0 then 1 else w.ws }
    else w))) s

/-- DEBOUNCE_COMPLETE (R512 row 9, R514): SLOT_ID is sampled, an insertion counted, and the ramp starts. -/
def execDebounceComplete (slotPins : Nat) (s : State) : Out :=
  onHw (wtEvent (fun h =>
    if h.wt.ws = 1 ∧ h.wt.seated ∧ h.wt.on then
      startRamp (onWt (fun w => bump 0 { w with slot := slotPins % 32 }) h)
    else h)) s

/-- A seating pin taken high (R513). -/
def liftPin (pin2 : Bool) (w : WtState) : WtState := if pin2 then { w with seat2 := false } else { w with seat1 := false }

/-- SEATING_RELEASE_BEGIN (R512 rows 5 and 6, R513, R522): the first pin taken high begins the release; the other may follow in it. -/
def execSeatingReleaseBegin (pin2 : Bool) (s : State) : Out :=
  onHw (wtEvent (fun h =>
    let h1 := onWt (liftPin pin2) h
    if h.wt.seated then
      let h2 := onWt (fun w => { w with rel := true }) h1
      let h3 := risePfw 3 (if h2.wt.live then setGate 0 h2 else h2)
      if h3.wt.ws = 1 then onWt (fun w => { w with ws := 0 }) h3 else h3
    else h1)) s

/-- SEATING_GLITCH (R512 rows 8 and 10): a release shorter than 4,000 ticks ends. In SEATWAIT, which a release from DEBOUNCE has led
to, DEBOUNCE follows; in COOLDOWN a retry that waited for the pins starts. -/
def execSeatingGlitch (s : State) : Out :=
  onHw (wtEvent (fun h =>
    if h.wt.rel then
      let h1 := onWt (fun w => { w with seat1 := true, seat2 := true, rel := false }) h
      if h1.wt.live then sendEvent 3 0 (startRamp (onWt (bump 1) h1))
      else if h1.wt.ws = 0 then onWt (fun w => { w with ws := 1 }) h1
      else if h1.wt.ws = 4 ∧ h1.wt.retry = false ∧ h1.wt.trip = false then startRamp h1
      else h1
    else h)) s

/-- SEATING_REMOVAL (R512 row 1, R513): a release reaches 4,000 ticks. -/
def execSeatingRemoval (s : State) : Out :=
  onHw (wtEvent (fun h =>
    if h.wt.rel ∧ h.wt.ws ≠ 5 then
      onWt (fun w => { w with ws := 0, retry := false, ftmr := false, paused := false }) (setGate 0 h)
    else h)) s

/-- LATCH_CLEAR_REMOVAL (R512 row 2, R521): a release reaches 1 s: the latch and the retry count clear. -/
def execLatchClearRemoval (s : State) : Out :=
  onHw (wtEvent (onWt (fun w =>
    if w.rel then { w with retries := 0, latched := false, ws := if w.ws = 5 then 0 else w.ws } else w))) s

/-- CURRENT_LIMIT_REACHED (R519): the fault timer starts. -/
def execCurrentLimitReached (s : State) : Out :=
  onHw (onWt (fun w => if w.live && w.gate != 0 then { w with ftmr := true } else w)) s

/-- FAULT_TIMER_EXPIRY (R512 row 3, R519, R520). -/
def execFaultTimerExpiry (s : State) : Out :=
  onHw (wtEvent (fun h => if h.wt.live && h.wt.ftmr then faultShutdown 1 h else h)) s

/-- SHORT_CIRCUIT_TRIP (R519, R520). -/
def execShortCircuitTrip (s : State) : Out := onHw (wtEvent (fun h => if h.wt.live then faultShutdown 2 h else h)) s

/-- RAMPMAX_EXPIRY (R518, R520): the gate is not fully on RAMPMAX after the ramp began. -/
def execRampmaxExpiry (s : State) : Out :=
  onHw (wtEvent (fun h => if h.wt.ws = 2 ∧ !h.wt.paused then faultShutdown 3 h else h)) s

/-- PASS_THERMAL_TRIP (R520): COOLDOWN then also waits for the trip's release. -/
def execPassThermalTrip (s : State) : Out :=
  onHw (wtEvent (fun h => if h.wt.live then faultShutdown 4 (onWt (fun w => { w with trip := true }) h) else h)) s

/-- R512 row 12: the retry timer has expired, both pins are asserted and the thermal trip is released. -/
def tryRetry (h : Hw) : Hw :=
  if h.wt.ws = 4 ∧ !h.wt.retry ∧ h.wt.seated ∧ !h.wt.trip then startRamp h else h

/-- RETRY_TIMER_EXPIRY (R512 row 12). -/
def execRetryTimerExpiry (s : State) : Out :=
  onHw (wtEvent (fun h => if h.wt.ws = 4 then tryRetry (onWt (fun w => { w with retry := false }) h) else h)) s

/-- THERMAL_TRIP_RELEASE (R520). -/
def execThermalTripRelease (s : State) : Out :=
  onHw (wtEvent (fun h => tryRetry (onWt (fun w => { w with trip := false }) h))) s

/-- FEED_OVERVOLTAGE (R512 row 4, R515): the gate is off and held off in RAMP. -/
def execFeedOvervoltage (s : State) : Out :=
  onHw (wtEvent (fun h =>
    if h.wt.on && !h.wt.ov then
      let h1 := onWt (fun w => { w with ov := true }) h
      let h2 := if h1.wt.live then onWt (fun w => { w with ws := 2 }) (gateOff 5 h1) else h1
      sendEvent 6 0 h2
    else h)) s

/-- OVERVOLTAGE_CLEAR (R515). -/
def execOvervoltageClear (s : State) : Out :=
  onHw (wtEvent (fun h =>
    if h.wt.ov then
      let h1 := onWt (fun w => { w with ov := false }) h
      if h1.wt.ws = 2 then startRamp h1 else h1
    else h)) s

/-- RAMP_PAUSE (R512): no feed remains valid while RAMP runs. -/
def execRampPause (s : State) : Out :=
  onHw (wtEvent (fun h =>
    if h.wt.ws = 2 ∧ !h.wt.aOk ∧ !h.wt.bOk ∧ !h.wt.paused then
      let f := h.takeFree
      onWt (fun w => { w with paused := true }) (gateOff (f.1 % 9) f.2)
    else h)) s

/-- GATE_FULLY_ON (R510, R512 row 11). -/
def execGateFullyOn (s : State) : Out :=
  onHw (wtEvent (fun h => if h.wt.ws = 2 ∧ h.wt.gate = 1 then onWt (fun w => { w with ws := 3 }) (setGate 2 h) else h)) s

/-- PGOOD_RISE (R523, R524, R532): the converter is enabled, and the fabric side is held in feed power-on reset. -/
def execPgoodRise (s : State) : Out :=
  onHw (wtEvent (fun h =>
    if h.wt.gate = 2 ∧ !h.wt.pgood then
      let h1 := onWt (fun w => { w with pgood := true, conv := true, ftmr := false, swlvl := false, swNext := none }) h
      let h2 := { h1 with ck := if h1.ck.on then h1.ck else { CkState.off with on := true, por := true } }
      sendPwr 1 (h2.emit (.converter true))
    else h)) s

/-- PGOOD_FALL (R512 row 7, R523): PFW rises first where it is 0; in ON the gate is turned off and RAMP entered. DEDUCED: RAMP ramps from
there, unless R512 or R515 holds the gate off. -/
def execPgoodFall (undervoltage : Bool) (s : State) : Out :=
  onHw (wtEvent (fun h =>
    if h.wt.pgood ∧ (undervoltage ∨ h.wt.gate ≠ 2) then
      let c := if undervoltage then 6 else 7
      let h1 := risePfw c h
      let h2 := onWt (fun w => { w with pgood := false }) h1
      sendPwr c (if h2.wt.ws = 3 then startRamp (setGate 0 h2) else h2)
    else h)) s

/-- CONVERTER_DISABLE (R524): the fabric side loses its supplies. -/
def execConverterDisable (s : State) : Out :=
  onMach (fun m =>
    if m.hw.wt.conv && !m.hw.wt.pgood then
      wtPowerOff (fun h => (onWt (fun w => { w with bar := BarEnd.down }) h).emit (.converter false)) m
    else m) s

/-- PFW_RISE (R522): VBUS has been below the PFW threshold for 50 µs. -/
def execPfwRise (s : State) : Out := onHw (wtEvent (fun h => if h.wt.on then risePfw 2 h else h)) s

/-- PFW_FALL (R522): the gate is fully on, the module seated and VBUS above release for 4,000 ticks. -/
def execPfwFall (s : State) : Out :=
  onHw (wtEvent (fun h =>
    if h.wt.pfw ∧ h.wt.gate = 2 ∧ h.wt.seated then sendPwr 8 (onWt (fun w => { w with pfw := false }) h) else h)) s

/-- R516: bit `feedB` of FEEDMASK. -/
def maskedFeed (feedB : Bool) (w : WtState) : Bool := bitAt (w.setting 9) (b2n feedB)

/-- FEEDLOSS (R516, R531). -/
def execFeedloss (feedB : Bool) (s : State) : Out :=
  onHw (wtEvent (fun h =>
    if (if feedB then h.wt.bOk else h.wt.aOk) then
      let h1 := onWt (fun w => bump (4 + b2n feedB) (if feedB then { w with bOk := false } else { w with aOk := false })) h
      if maskedFeed feedB h1.wt ∧ h1.wt.pgood then sendEvent 1 (b2n feedB) h1 else h1
    else h)) s

/-- FEEDRESTORE (R516): a feed is valid again; a paused ramp runs on. -/
def execFeedrestore (feedB : Bool) (s : State) : Out :=
  onHw (wtEvent (fun h =>
    if h.wt.on ∧ !(if feedB then h.wt.bOk else h.wt.aOk) then
      let h1 := onWt (fun w => if feedB then { w with bOk := true } else { w with aOk := true }) h
      let h2 := if maskedFeed feedB h1.wt then sendEvent 2 (b2n feedB) h1 else h1
      if h2.wt.ws = 2 ∧ h2.wt.paused then startRamp h2 else h2
    else h)) s

/-- RETRY_COUNT_CLEAR (R521): 60 s of ON with PGOOD at 1. -/
def execRetryCountClear (s : State) : Out :=
  onHw (wtEvent (onWt (fun w => if w.ws = 3 ∧ w.pgood then { w with retries := 0 } else w))) s

/-! ### Chassis management bus -/

/-- The MCTP packets that Watchtower still holds (R530). -/
def mctpHeld (w : WtState) : Nat :=
  w.bar.unacked.countP (fun f => f.ftype == 0x14) + w.bar.wait.countP (fun f => f.1 == 0x14)

/-- SMBUS_MCTP_WRITE (R529, R530): a packet is buffered and forwarded, or NACKed. -/
def execSmbusMctpWrite (pec : Bool) (payload : List Byte) (s : State) : Out :=
  onHw (fun h =>
    if h.wt.on = false ∨ pec = false then h
    else if h.wt.bar.up = false ∨ 4 ≤ mctpHeld h.wt ∨ frameLenOk 0x14 payload.length = false then h.emit (.smbNack 0x0F)
    else barSend false 0x14 payload h) s

/-- SMBUS_STATUS_READ (R529, R531): answered in every state. -/
def execSmbusStatusRead (tel : Telem) (s : State) : Out :=
  onHw (fun h =>
    if h.wt.on then
      let h1 := onWt (fun w => { w with tel := tel }) h
      h1.emit (.smbRead 0xF0 (statusBlock h1.wt))
    else h) s

/-- SMBUS_RESET_REQUEST (R529, R530). -/
def execSmbusResetRequest (pec : Bool) (data : Nat) (s : State) : Out :=
  onHw (fun h => if h.wt.on ∧ pec ∧ data = 0xA5 ∧ h.wt.pgood ∧ h.wt.bar.up then barSend false 0x15 [] h else h) s

/-- SMBUS_REGISTER_REQUEST (R529, R530). -/
def execSmbusRegisterRequest (pec : Bool) (payload : List Byte) (s : State) : Out :=
  onHw (fun h =>
    if h.wt.on = false ∨ pec = false then h
    else if h.wt.bar.up = false ∨ h.wt.regPend ∨ payload.length ≠ 10 then h.emit (.smbNack 0xF2)
    else barSend false 0x16 payload (onWt (fun w => { w with regPend := true }) h)) s

/-- SMBUS_REGISTER_RESPONSE_READ (R529): the latest response, or status 0xFF. -/
def execSmbusRegisterResponseRead (s : State) : Out :=
  onHw (fun h =>
    if h.wt.on then h.emit (.smbRead 0xF3 (h.wt.regRsp.getD [0, 0xFF, 0, 0, 0, 0, 0])) else h) s

/-- SMBUS_CLOCK_LOW_TIMEOUT (R529): the bus is released. -/
def execSmbusClockLowTimeout (s : State) : Out := onHw (fun h => if h.wt.on then h.emit .smbRelease else h) s

/-- MCTPOUT_RETRY (R530): the write is tried again, at most three times, and then dropped. -/
def execMctpoutRetry (s : State) : Out :=
  onHw (fun h =>
    match h.wt.mout with
    | none => h
    | some (p, n) =>
      if n < 3 then (onWt (fun w => { w with mout := some (p, n + 1) }) h).emit (.smbWrite p)
      else onWt (fun w => { w with mout := none }) h) s

/-! ### Frames that reach Watchtower -/

/-- ALARM (R469, R471, R536, R540): acknowledged; acted on once: the pulse starts, or runs on. -/
def execAlarm (ok : Bool) (seq : Nat) (payload : List Byte) (s : State) : Out :=
  onHw (wtEvent (barCtlRecv false ok 0x20 payload (fun h =>
    let h1 := sendAck false seq false h
    if h1.wt.lastAlarm = some seq then h1
    else (onWt (fun w => { w with lastAlarm := some seq, pulse := true }) h1).fset F.FC_ALM_CTRL_PULSE 0 1))) s

/-- ALARM_PULSE_END (R470, R532): ALM_N follows SWLVL, with the level that waited. -/
def execAlarmPulseEnd (s : State) : Out :=
  onHw (wtEvent (fun h =>
    if h.wt.pulse then
      (onWt (fun w => { w with pulse := false, swlvl := w.swNext.getD w.swlvl, swNext := none }) h).fset
        F.FC_ALM_CTRL_PULSE 0 0
    else h)) s

/-- ALMLVL (R532): the copy of SWLVL, at once or when the pulse ends. -/
def execAlmlvl (ok : Bool) (seq : Nat) (payload : List Byte) (s : State) : Out :=
  onHw (wtEvent (barRecv false ok 0x21 seq payload true (onWt (fun w =>
    let v := bitAt (byteAt payload 0) 0
    if w.pulse then { w with swNext := some v } else { w with swlvl := v })))) s

/-- A settings byte range of R527: byte index, first and last value allowed. -/
def cfgRanges : List (Nat × Nat × Nat) :=
  [(0, 0, 1), (1, 25, 150), (2, 5, 40), (3, 1, 100), (6, 0, 15), (7, 64, 96), (8, 10, 250), (9, 0, 3), (10, 0, 0),
   (11, 0, 0), (12, 0, 0), (13, 0, 0)]

/-- R528: the first offending byte of a settings block, the CRC apart. -/
def cfgBad (b : List Byte) : Option Nat :=
  let rng := (cfgRanges.filter (fun r => !decide (r.2.1 ≤ byteAt b r.1 ∧ byteAt b r.1 ≤ r.2.2))).map Prod.fst
  let rtmr := leAt b 4 2
  let bad := rng ++ (if 10 ≤ rtmr ∧ rtmr ≤ 6000 then [] else [4]) ++
    (if byteAt b 0 = 0 ∧ byteAt b 8 * 2 * byteAt b 1 < 8200 then [8] else []) ++
    (if byteAt b 0 = 1 ∧ byteAt b 8 * byteAt b 2 < 800 then [8] else [])
  bad.foldl (fun m x => match m with
    | none => some x
    | some y => some (min x y)) none

/-- R528: the data byte of CFGREJ, if a SETCFG block is rejected. -/
def setcfgBad (b : List Byte) : Option Nat := if leAt b 14 2 ≠ crc16 (b.take 14) then some 14 else cfgBad b

/-- SETCFG (R528): stored in the older copy and answered with CFGOK and CFGRPT, or rejected with CFGREJ. -/
def execSetcfg (ok : Bool) (seq : Nat) (payload : List Byte) (s : State) : Out :=
  onHw (wtEvent (barRecv false ok 0x22 seq payload true (fun h =>
    match setcfgBad payload with
    | some i => sendEvent 5 i h
    | none =>
      let h1 := onWt (fun w => { w with cfg := payload, older := w.cfg }) h
      barSend false 0x13 payload (sendEvent 4 0 h1)))) s

/-- MCTPOUT (R530): Watchtower writes the packet as SMBus controller. -/
def execMctpout (ok : Bool) (seq : Nat) (payload : List Byte) (s : State) : Out :=
  onHw (wtEvent (barRecv false ok 0x23 seq payload true (fun h =>
    (onWt (fun w => { w with mout := some (payload, 0) }) h).emit (.smbWrite payload)))) s

/-- REGRSP (R529, R540): the register response is kept for command 0xF3. -/
def execRegrsp (ok : Bool) (seq : Nat) (payload : List Byte) (s : State) : Out :=
  onHw (wtEvent (barRecv false ok 0x24 seq payload true (onWt (fun w =>
    { w with regPend := false, regRsp := some payload })))) s

/-! ### Frames that reach the fabric end -/

/-- PWR (R526, R535, R540, R541): PGOOD and PFW follow; the first PWR with PGOOD 1 releases the feed power-on reset, and start-up
is asked for; PGOOD 0 holds every fabric-side domain in reset. -/
def execPwr (ok : Bool) (payload : List Byte) (s : State) : Out :=
  onMach (fun m =>
    let h := m.hw
    if h.bc.fab.sync = false ∨ h.ck.on = false then m
    else if ok = false ∨ frameLenOk 0x10 payload.length = false then m.onHw (checkFailed true)
    else if 9 ≤ byteAt payload 1 then m.onHw (fun h => h.fadd F.BC_BADFRM_VAL 0 1)
    else
      let pg := bitAt (byteAt payload 0) 0
      let pf := bitAt (byteAt payload 0) 1
      if pg then
        m.onHw (fun h =>
          let h1 := if pf && !h.flag F.BC_STAT_PFW 0 then h.fadd F.BC_PFWCNT_VAL 0 1 else h
          let h2 := (h1.fset F.BC_STAT_PGOOD 0 1).fset F.BC_STAT_PFW 0 (b2n pf)
          if h2.ck.por then { h2 with ck := { h2.ck with por := false, boot := some 0 } } else h2)
      else
        let m1 := wtPowerOff (onWt (fun w => { w with conv := h.wt.conv, bar := BarEnd.down })) m
        m1.onHw (fun h => { h with ck := { h.ck with on := true, por := true } })) s

/-- STATUS (R542): the telemetry registers follow. -/
def execStatus (ok : Bool) (payload : List Byte) (s : State) : Out :=
  onHw (barCtlRecv true ok 0x11 payload (fun h =>
    let b0 := byteAt payload 0
    let b1 := byteAt payload 1
    let h1 := ((h.fset F.BC_VFEED_VA 0 (leAt payload 4 2)).fset F.BC_VFEED_VB 0 (leAt payload 6 2)).fset
      F.BC_VBUS_VBUS 0 (leAt payload 8 2)
    let h2 := (h1.fset F.BC_VBUS_IBUS 0 (leAt payload 10 2)).fset F.BC_WSTAT_VAL 0 (leAt payload 0 4)
    let h3 := ((h2.fset F.BC_STAT_AVALID 0 b1).fset F.BC_STAT_BVALID 0 (b1 / 2)).fset F.BC_STAT_ALM 0 (b0 / 32)
    ((h3.fset F.FC_ALM_CTRL_ALM 0 (b0 / 32)).fset F.BC_STAT_SLOTID 0 (byteAt payload 2 / 4)).fset F.BC_STAT_WSTATE 0 b0)) s

/-- EVENT (R516, R540, R541, R543). -/
def execEvent (ok : Bool) (seq : Nat) (payload : List Byte) (s : State) : Out :=
  onHw (fun h =>
    let c := byteAt payload 0
    let d := byteAt payload 1
    barRecv true ok 0x12 seq payload (decide (1 ≤ c ∧ c ≤ 6)) (fun h =>
      if c = 1 then h.raise { code := 0x0F01, dom := domDevice, dinst := 0, addr := d }
      else if c = 4 then h.fset F.BC_WCFGSTAT_PEND 0 0
      else if c = 5 then
        ((h.fset F.BC_WCFGSTAT_PEND 0 0).fset F.BC_WCFGSTAT_REJ 0 1).fset F.BC_WCFGSTAT_REJBYTE 0 d
      else h) h) s

/-- CFGRPT (R540, R543). -/
def execCfgrpt (ok : Bool) (seq : Nat) (payload : List Byte) (s : State) : Out :=
  onHw (barRecv true ok 0x13 seq payload true (fun h => evalMatch { h with bc := { h.bc with report := some payload } })) s

/-- MCTPIN (R541): the packet goes to Turret. -/
def execMctpin (ok : Bool) (seq : Nat) (payload : List Byte) (s : State) : Out :=
  onHw (barRecv true ok 0x14 seq payload true (fun h => h.emit (.mctpIn payload))) s

/-- RSTREQ (R499, R541): a module reset with cause CHASSIS is asked for. -/
def execRstreq (ok : Bool) (seq : Nat) (payload : List Byte) (s : State) : Out :=
  onHw (barRecv true ok 0x15 seq payload true (fun h => { h with ck := { h.ck with modReq := some (h.ck.modReq.getD 5) } })) s

end Sys2Proof.Machine
end

