-- ==== Sys2Proof/Machine/Faults.lean ====
section
/-! DEFINITION. The narrow reset scopes (R497) and the fault collector: intake, capture, log, alarm, FAULT frames, reactions,
recovery and latching (R446 to R475), with the end of a tenant's quarantine (R62), which a TENANT domain's recovery waits
for. -/
namespace Sys2Proof.Machine

/-! ### Reset scopes -/

/-- The Port scope (R497, R460): the link is taken down with reason LOCAL and trains again; the port's counters clear; on a HOST
port every tenant of the VCS is reset. -/
def portReset (n : Nat) (h : Hw) : Hw :=
  let h1 := trainAgain n (takeDown n 9 h)
  let h2 := [F.FP_TRNCNT_VAL, F.FP_DOWNCNT_VAL, F.FP_CRCERR_VAL, F.FP_FECCORR_VAL, F.FP_IDEFAIL_VAL].foldl
    (fun h f => h.fset f n 0) h1
  if h2.role n = 1 then resetVcs n h2 else h2

/-- The Spire port scope (R497, R460): the port goes DOWN with reason LOCAL, its link state and counters clear, and it trains
again unless its domain holds it; a FAILED port stays FAILED (R424), and the attempts that have failed still count. -/
def spireReset (s : Nat) (h : Hw) : Hw :=
  let h1 := spireStop s 7 h
  let h2 := [F.SL_CRCERR_VAL, F.SL_LRETRY_VAL, F.SL_PDELAY_VAL, F.SL_PSTAT_PEER, F.SL_PSTAT_TXPS, F.SL_PSTAT_RXPS].foldl
    (fun h f => h.fset f s 0) (h1.setSlPort s { SlPort.fresh with fails := (h1.slPort s).fails })
  if h2.fget F.SL_PSTAT_STATE s = 4 then h2
  else h2.fset F.SL_PSTAT_STATE s
    (b2n (h2.flag F.SL_PCFG_EN s && !h2.flag F.SL_STKSTAT_SIDERR 0 && !h2.contained (didxOf domSpire s)))

/-- The Channel scope (R497): the counters, the scrubber's position and the count toward UELIM. -/
def channelReset (c : Nat) (h : Hw) : Hw :=
  let h1 := [F.DD_CECNT_VAL, F.DD_UECNT_VAL, F.DD_POISRD_VAL, F.DD_WRDROP_VAL, F.DD_SCRDROP_VAL, F.DD_LATE_VAL,
    F.DD_SCRPOS_LO_VAL, F.DD_SCRPOS_HI_VAL].foldl (fun h f => h.fset f c 0) h
  { h1 with dd := { h1.dd with ueTimes := Store.setD [] h1.dd.ueTimes c [] } }

/-! ### Domains -/

/-- The instance of the domain that a flat index names (R455). -/
def instOf (didx : Nat) : Nat :=
  match domOf didx with
  | 0 => 0
  | 1 => didx - 1
  | 2 => didx - 128
  | 3 => didx - 73
  | 4 => didx - 85
  | 5 => didx - 97
  | _ => didx - 114

/-- R459, R460: whether a domain offers CONTAIN and RESET-DOMAIN. -/
def offersContain (didx : Nat) : Bool :=
  match domOf didx with
  | 0 | 1 | 2 | 6 => true
  | 4 => decide (instOf didx < 4)
  | _ => false

/-- R459: the reaction set for a class in a domain: 0 LOG, 1 CONTAIN, 2 RESET-DOMAIN, 3 ESCALATE; what a domain does not offer
is applied as LOG. -/
def reactionOf (h : Hw) (didx cls : Nat) : Nat :=
  let d := domOf didx
  let r := if cls = 2 then h.fget F.FC_DCFG_REACT2 d else if cls = 3 then h.fget F.FC_DCFG_REACT3 d
    else if cls = 4 then h.fget F.FC_DCFG_REACT4 d else 0
  if (r = 1 ∨ r = 2) ∧ offersContain didx = false then 0 else r

/-- R460: the CONTAIN action of a domain that offers one. -/
def containDom (didx : Nat) (h : Hw) : Hw :=
  if offersContain didx then
    let h1 := h.setDom didx { h.dom didx with contain := true }
    match domOf didx with
    | 1 => takeDown (instOf didx) 9 h1
    | 4 => spireStop (instOf didx) 7 h1
    | _ => h1
  else h

/-- R460: a Spire port that is no longer held trains. -/
def spireRelease (s : Nat) (h : Hw) : Hw :=
  if h.fget F.SL_PSTAT_STATE s = 0 ∧ h.flag F.SL_PCFG_EN s ∧ !h.flag F.SL_STKSTAT_SIDERR 0 ∧ !h.contained (didxOf domSpire s) then h.fset F.SL_PSTAT_STATE s 1
  else h

/-- R460, R467: the CONTAIN action of a domain is lifted; an engine's FAILED bit clears. -/
def liftDom (didx : Nat) (h : Hw) : Hw :=
  let h1 := h.setDom didx { h.dom didx with contain := false }
  match domOf didx with
  | 4 => if instOf didx < 4 then spireRelease (instOf didx) h1 else h1
  | 6 => h1.fset F.DM_ENGSTAT_FAILED (instOf didx) 0
  | _ => h1

/-- R460: the RESET-DOMAIN action. On a PORT or a Spire port it ends a hold, since the link trains again. -/
def resetDom (didx : Nat) (m0 : Mach) : Mach :=
  let i := instOf didx
  let m := m0.onHw (fun h => h.setDom didx { h.dom didx with reset := offersContain didx })
  match domOf didx with
  | 0 => m.onHw (fun h => { h with ck := { h.ck with fabReq := some (h.ck.fabReq.getD 1) } })
  | 1 => m.onHw (fun h => portReset i (h.setDom didx { h.dom didx with contain := false }))
  | 2 => m.onHw (fun h => (askReset i h).2)
  | 4 => m.onHw (fun h => spireReset i (h.setDom didx { h.dom didx with contain := false }))
  | 6 => engineReturn i m
  | _ => m

/-- R461: ESCALATE: CONTAIN, and ESCALATED in DEVICE with the message's master, or a module reset in DEVICE itself. -/
def escalateDom (didx : Nat) (held : Bool) (master : Nat) (h : Hw) : Hw :=
  let h1 := if held then h else containDom didx h
  if didx = 0 then { h1 with ck := { h1.ck with modReq := some (h1.ck.modReq.getD 1) } }
  else h1.raise { code := 0x4203, dom := domDevice, dinst := 0, addr := didx, master := master }

/-- R460 to R462: reaction `r` applied in a domain; a HELD message takes no CONTAIN. -/
def applyReaction (didx r : Nat) (held : Bool) (master : Nat) (m : Mach) : Mach :=
  let m1 := m.onHw (fun h => h.setDom didx { h.dom didx with applied := max (h.dom didx).applied r })
  match r with
  | 1 => if held then m1 else m1.onHw (containDom didx)
  | 2 => resetDom didx m1
  | 3 => m1.onHw (escalateDom didx held master)
  | _ => m1

/-- R463, R464, R467: what a processed local message does to its domain. -/
def react (msg : FMsg) (m : Mach) : Mach :=
  let didx := didxOf msg.domain msg.dinst
  let cls := clsOf msg
  let held := msg.held == 1
  let r := reactionOf m.hw didx cls
  let d := m.hw.dom didx
  let start := fun (h : Hw) => h.setDom didx { h.dom didx with state := 1, timer := true, expired := false }
  if d.state = 2 then m
  else if d.state = 0 then
    if r = 0 ∧ held = false then m
    else applyReaction didx r held msg.master (m.onHw (fun h => start (h.setDom didx { d with applied := 0 })))
  else if 2 ≤ cls ∨ held then
    let m1 := m.onHw start
    if d.applied < r then applyReaction didx r held msg.master m1 else m1
  else m

/-- R465, R466: a domain leaves FAULT: RCNT, the recovery window, and OK or LATCHED. The audit runs in recovery of the DEVICE
domain where its conditions hold (R222). -/
def leaveFault (didx : Nat) (h : Hw) : Hw :=
  let d := h.dom didx
  let code := domOf didx
  let now := h.ck.recNs / 1000000
  let fresh := decide (d.wcnt = 0 ∨ h.fget F.FC_DCFG_WINDOW code * 1000 < now - d.wstart)
  let w := (if fresh then 0 else d.wcnt) + 1
  let lim := h.fget F.FC_DCFG_LIMIT code
  let d1 := { d with rcnt := min (d.rcnt + 1) 255, wcnt := w, wstart := if fresh then now else d.wstart, timer := false,
                     expired := false, reset := false }
  let src := fun (c : Nat) => FaultSrc.mk c code (instOf didx) d1.rcnt 0 0 0xFFFF 0
  if lim ≠ 0 ∧ lim ≤ w then (containDom didx (h.setDom didx { d1 with state := 2 })).raise (src 0x0202)
  else
    let h1 := if didx = 0 ∧ auditReady h then auditRun h else h
    (liftDom didx (h1.setDom didx { d1 with state := 0, applied := 0 })).raise (src 0x0201)

/-- R497: whether a reset sequence of the domain's unit runs. DEDUCED: that of a port, whose link is taken down and trained again, runs
until the link is up or can no longer train. -/
def seqRuns (h : Hw) (didx : Nat) : Bool :=
  let i := instOf didx
  match domOf didx with
  | 0 => h.ck.fabReq.isSome
  | 1 => !h.flag F.FP_LSTAT_UP i && mayTrain h i
  | 2 => ttState (h.ent i) ∈ ([3, 4, 5] : List Nat)
  | 4 => decide (i < 4) && h.fget F.SL_PSTAT_STATE i == 1
  | _ => false

/-- R465: whether a reset sequence that the domain has applied still runs. -/
def resetRuns (h : Hw) (didx : Nat) : Bool := (h.dom didx).reset && seqRuns h didx

/-- R465: the reset sequence that the domain has applied may have completed: then it no longer counts, and a domain whose quiet timer has
expired leaves FAULT. -/
def resetDone (didx : Nat) (h : Hw) : Hw :=
  if resetRuns h didx then h
  else
    let h1 := if (h.dom didx).reset then h.setDom didx { h.dom didx with reset := false } else h
    if (h.dom didx).state = 1 ∧ (h.dom didx).expired then leaveFault didx h1 else h1

/-- R465: what has happened to the links may have completed reset sequences. -/
def settleResets (h : Hw) : Hw := (h.fc.doms.filter (fun x => x.2.reset)).foldl (fun h x => resetDone x.1 h) h

/-- QUIET_TIMER_EXPIRY (R465). -/
def execQuietTimerExpiry (didx : Nat) (s : State) : Out :=
  onHw (fun h =>
    let d := h.dom didx
    if d.state = 1 ∧ d.timer then
      if resetRuns h didx then h.setDom didx { d with timer := false, expired := true } else leaveFault didx h
    else h) s

/-! ### Links, with the reset sequences that they complete -/

/-- HOST_PERST_ASSERT (R375): the link goes down and every tenant of the VCS is reset. -/
def execHostPerstAssert (port : Nat) (s : State) : Out :=
  onHw (fun h =>
    if h.role port = 1 then settleResets (resetVcs port (takeDown port 3 (h.fset F.FP_LSTAT_PERST port 1))) else h) s

/-- LINK_DOWN (R382, R383, R405): a link that was up goes down, or the training of a port ends with MODE, WIDTH or RATE. -/
def execLinkDown (port why : Nat) (s : State) : Out :=
  onHw (fun h =>
    if decide (1 ≤ why ∧ why ≤ 9) &&
        (h.flag F.FP_LSTAT_UP port || (decide (5 ≤ why ∧ why ≤ 7) && mayTrain h port)) then settleResets (linkDown port why h) else h) s

/-- LINK_UP. -/
def execLinkUp (port : Nat) (rate : RateSet) (width : LaneSet) (mode : ModeSet) (cxl : Bool) (mps : Nat) (s : State) : Out :=
  onHw (fun h => settleResets (linkUp port rate width mode cxl mps h)) s

/-- EQUALISATION_FAILURE (R380): the second failure in succession at a rate lowers FBRATE; below 2.5 GT/s the link stays
down with RATE. -/
def execEqualisationFailure (port rate : Nat) (s : State) : Out :=
  onHw (fun h =>
    if !mayTrain h port || decide (min (h.fget F.FP_PCFG_MAXRATE port) (h.fget F.FP_LSTAT_FBRATE port) < rate) then h
    else if Store.get? h.fp.eqFails port = some rate then
      let h1 := { h with fp := { h.fp with eqFails := Store.del h.fp.eqFails port } }
      if rate = 0 then settleResets (linkDown port 7 h1)
      else
        ((h1.fset F.FP_LSTAT_FBRATE port (rate - 1)).fadd F.FP_TRNCNT_VAL port 1).raise
          { code := 0x1401, dom := domPort, dinst := port, addr := rate - 1, unit := port, atype := 6 }
    else { h with fp := { h.fp with eqFails := Store.put h.fp.eqFails port rate } }) s

/-- FP_PCTRL_DISABLE. -/
def execFpPctrlDisable (_p : Path) (port : Nat) (v : Bool) (s : State) : Out := onHw (fun h => settleResets (pctrlDisable port v h)) s

/-- FP_PCTRL_TESTMODE. -/
def execFpPctrlTestmode (_p : Path) (port : Nat) (v : Bool) (s : State) : Out := onHw (fun h => settleResets (pctrlTest port v h)) s

/-- SPIRE_TRAINING. -/
def execSpireTraining (port peer peerPort nmod : Nat) (digest : PlanId) (delay : Nat) (s : State) : Out :=
  onHw (fun h => settleResets (spireTrain port peer peerPort nmod digest delay h)) s

/-- SPIRE_TRAINING_FAIL. -/
def execSpireTrainingFail (port : Nat) (lane : Bool) (s : State) : Out := onHw (fun h => settleResets (spireTrainFail port lane h)) s

/-! ### Intake and processing -/

/-- The 32 bytes of a fault message as a number (R446). -/
def packFault (m : FMsg) : Nat :=
  bits m.time 0 64 + bits m.addr 0 64 * 2 ^ 64 + bits m.code 0 16 * 2 ^ 128 + bits m.master 0 16 * 2 ^ 144 +
    bits m.srcunit 0 12 * 2 ^ 160 + bits m.atype 0 8 * 2 ^ 172 + bits m.domain 0 3 * 2 ^ 180 + bits m.held 0 1 * 2 ^ 183 +
    bits m.dinst 0 13 * 2 ^ 184 + bits m.origin 0 3 * 2 ^ 197 + bits m.remote 0 1 * 2 ^ 200 + bits m.seq 0 32 * 2 ^ 208

/-- A number stored in whole words of the scratchpad at an offset from 0x1000_0000, with valid ECC (R593). -/
def spStore (off v n : Nat) (m : Mach) : Mach :=
  { m with mem := { m.mem with
      sp := writeLE 0 m.mem.sp off v n
      spBad := Store.dropWhere m.mem.spBad (fun k => decide (off / 8 ≤ k ∧ k < (off + n) / 8)) } }

/-- R453: the position that the collector takes next: the highest class among the queue heads, from the rotating pointer on. -/
def nextQueue (h : Hw) : Option Nat :=
  let head := fun (p : Nat) => ((h.queue p).head?).map clsOf
  let top := ((List.range 17).filterMap head).foldl max 0
  rotFind (fun p => head p == some top) 17 h.fc.rot 17

/-- R454: a HELD message that waits outside a full queue takes the entry that has freed. -/
def refillQueue (p : Nat) (h : Hw) : Hw :=
  match h.fc.outside.find? (fun m => bits m.code 8 4 == p) with
  | some x =>
    if p < 16 ∧ (h.queue p).length < 8 then
      { h.setQueue p (h.queue p ++ [x]) with
        fc := { (h.setQueue p (h.queue p ++ [x])).fc with
                outside := removeFirst (fun m => bits m.code 8 4 == p) h.fc.outside } }
    else h
  | none => h

/-- R453: the head of queue `p` is taken, and the pointer moves past it. -/
def takeFault (p : Nat) (h : Hw) : Hw :=
  let h1 := h.setQueue p ((h.queue p).drop 1)
  refillQueue p { h1 with fc := { h1.fc with rot := (p + 1) % 17 } }

/-- The number of entries in the log ring (R472). -/
def logCount (h : Hw) : Nat := (h.fget F.FC_LOGWR_VAL 0 + 65536 - h.fget F.FC_LOGRD_VAL 0) % 65536

/-- R474, R565: a log entry due for the persistent log; while PFW is 1 the queue in B0 holds 1,024 of them. -/
def persistLater (x : FMsg) (h : Hw) : Hw :=
  if h.flag F.BC_STAT_PFW 0 ∧ 1024 ≤ h.fc.persist.length then h.fadd F.ID_PLOGLOST_VAL 0 1
  else { h with fc := { h.fc with persist := h.fc.persist ++ [x] } }

/-- R472 to R474: a message enters the log ring. -/
def logFault (x : FMsg) (m : Mach) : Mach :=
  let h := m.hw
  if clsOf x < h.fget F.FC_CTRL_LOGMIN 0 then m
  else
    let full := decide (1024 ≤ logCount h)
    if full ∧ !h.flag F.FC_CTRL_LOGWRAP 0 then m.onHw (fun h => h.fadd F.FC_LOGLOST_VAL 0 1)
    else
      let m1 := if full then
          m.onHw (fun h => (h.fset F.FC_LOGRD_VAL 0 (h.fget F.FC_LOGRD_VAL 0 + 1)).fadd F.FC_LOGLOST_VAL 0 1)
        else m
      let w := m1.hw.fget F.FC_LOGWR_VAL 0
      let m2 := spStore (0x400000 + 32 * (w % 1024)) (packFault x) 32 m1
      m2.onHw (fun h =>
        let h1 := h.fset F.FC_LOGWR_VAL 0 (w + 1)
        if h1.fget F.FC_CTRL_PERSMIN 0 ≤ clsOf x then persistLater x h1 else h1)

/-- R456, R458: the first-error capture of the collector and of the message's domain. -/
def captureFault (x : FMsg) (m : Mach) : Mach :=
  if clsOf x < m.hw.fget F.FC_CTRL_FEMIN 0 then m
  else
    let v := packFault x
    let m1 := if m.hw.flag F.FC_FESTAT_VALID 0 then m
      else m.onHw (fun h => ((List.range 8).foldl (fun h n => h.fset F.FC_FE_VAL n (bits v (32 * n) 32)) h).fset
        F.FC_FESTAT_VALID 0 1)
    let didx := didxOf x.domain x.dinst
    if (m1.hw.dom didx).fev then m1
    else (spStore (0x410000 + 32 * didx) v 32 m1).onHw (fun h => h.setDom didx { h.dom didx with fev := true })

/-- R469: the alarm. -/
def alarmFault (x : FMsg) (h : Hw) : Hw :=
  if clsOf x < h.fget F.FC_ALM_CTRL_ALMMIN 0 then h
  else if h.flag F.FC_ALM_CTRL_ARMED 0 then
    sendAlarm (h.fget F.FC_ALM_CTRL_MINWIDTH 0) (h.fset F.FC_ALM_CTRL_ARMED 0 0)
  else h.fadd F.FC_ALMSUP_VAL 0 1

/-- R475: a module that is not the acting master sends a FAULT frame for a message of class 2 or above. -/
def forwardFault (x : FMsg) (h : Hw) : Hw :=
  let am := actingMaster h
  if 2 ≤ clsOf x ∧ am ≠ h.sid then
    let y := { x with seq := 0, remote := 0 }
    submit am 4 (packFault y) (h.emit (.faultFrame am y))
  else h

/-- R447, R456 to R475: one message is processed, local or remote. -/
def processFault (x : FMsg) (remote : Bool) (m : Mach) : Mach :=
  let n := (m.hw.fc.seq + 1) % 2 ^ 32
  let y := { x with seq := n, remote := b2n remote }
  let m1 := m.onHw (fun h => { h with fc := { h.fc with seq := n } })
  if remote then logFault y (m1.onHw (fun h => h.fadd F.FC_REMCNT_VAL 0 1))
  else
    let m2 := captureFault y (m1.onHw (fun h => h.fadd F.FC_CNT_VAL (clsOf y) 1))
    react y ((logFault y m2).onHw (fun h => forwardFault y (alarmFault y h)))

/-- FAULT_PROCESS (R453): the collector takes one message. -/
def execFaultProcess (s : State) : Out :=
  onMach (fun m =>
    match nextQueue m.hw with
    | none => m
    | some p =>
      match (m.hw.queue p).head? with
      | none => m
      | some x => processFault x (p == 16) (m.onHw (takeFault p))) s

/-- REMOTE_FAULT_RECEIVE (R475, R654): a FAULT frame's message waits in the remote queue. -/
def execRemoteFaultReceive (m : FMsg) (s : State) : Out := onHw (fun h => h.enqueueFault 16 m) s

/-! ### Commands of software -/

/-- The domain that FC_DSEL selects (R455); none for a reserved index. -/
def selDom (h : Hw) : Option Nat :=
  let d := h.fget F.FC_DSEL_VAL 0
  if domOf d = 7 then none else some d

/-- RELEASE of FC_DCMD (R467): a LATCHED domain returns to OK. -/
def fcRelease (h : Hw) : Hw :=
  match selDom h with
  | some d =>
    if (h.dom d).state = 2 then liftDom d (h.setDom d { h.dom d with state := 0, applied := 0, wcnt := 0 }) else h
  | none => h

/-- FC_DCMD_RELEASE. -/
def execFcDcmdRelease (s : State) : Out := onHw fcRelease s

/-- REARM of FC_DCMD (R458). -/
def fcRearm (h : Hw) : Hw :=
  match selDom h with
  | some d => h.setDom d { h.dom d with fev := false }
  | none => h

/-- FC_DCMD_REARM. -/
def execFcDcmdRearm (s : State) : Out := onHw fcRearm s

/-- CLRCNT of FC_DCMD (R480). -/
def fcClrcnt (h : Hw) : Hw :=
  match selDom h with
  | some d => h.setDom d { h.dom d with rcnt := 0 }
  | none => h

/-- FC_DCMD_CLRCNT. -/
def execFcDcmdClrcnt (s : State) : Out := onHw fcClrcnt s

/-- FC_FESTAT_VALID_CLEAR (R456). -/
def execFcFestatValidClear (s : State) : Out := onHw (fun h => h.fset F.FC_FESTAT_VALID 0 0) s

/-- FC_ALM_ARM (R470). -/
def execFcAlmArm (s : State) : Out := onHw (fun h => h.fset F.FC_ALM_CTRL_ARMED 0 1) s

/-- SWLVL of FC_ALM_CTRL (R470, R532): the level is written and sent. -/
def almLevel (v : Nat) (h : Hw) : Hw := sendAlmlvl (h.fset F.FC_ALM_CTRL_SWLVL 0 v)

/-- FC_ALM_SWLVL_WRITE. -/
def execFcAlmSwlvlWrite (level : Bool) (s : State) : Out := onHw (almLevel (b2n level)) s

/-- A write of FC_LOGRD (R473): accepted within the entries held. -/
def logrdWrite (rd : Nat) (h : Hw) : Hw :=
  let old := h.fget F.FC_LOGRD_VAL 0
  if (rd % 65536 + 65536 - old) % 65536 ≤ logCount h then h.fset F.FC_LOGRD_VAL 0 rd else h

/-- FC_LOGRD_WRITE. -/
def execFcLogrdWrite (rd : Nat) (s : State) : Out := onHw (logrdWrite rd) s

/-! ### The end of a tenant's reset -/

/-- QUARANTINE_END (R62, R63, R161, R465, R468, R505): Q after Stop the reset or unbind ends; at the end of an unbind the TENANT
domain is OK with its counts at 0. -/
def execQuarantineEnd (tid : Nat) (s : State) : Out :=
  onMach (fun m =>
    let m1 := quarantineEnd tid m
    if ttState (m1.hw.ent tid) = 5 ∨ ttState (m.hw.ent tid) ≠ 5 then m1
    else m1.onHw (fun h =>
      let h1 := { h with
        hd := { h.hd with dead := h.hd.dead.map (fun d => { d with tids := d.tids.filter (· != tid) }) }
        ck := if h.ck.running = some tid then { h.ck with running := none } else h.ck }
      let h2 := if h.ck.running = some tid then h1.fset F.CK_RSTSTAT_BUSY 0 0 else h1
      if ttState (h2.ent tid) = 0 then h2.setDom (didxOf domTenant tid) Dom.ok
      else resetDone (didxOf domTenant tid) h2)) s

end Sys2Proof.Machine
end

