-- ==== Sys2Proof/Machine/Image.lean ====
section
/-! DEFINITION. The configuration flash and the image: CRC-32 (R412), the boot control block (R546, R547), counter records
(R563), the persistent fault log (R564), image headers, signatures and records (R548 to R556), verification (R558) and the
fields that an image sets (R551). -/
namespace Sys2Proof.Machine

/-! ### CRC-32 and flash access -/

/-- The bytes of a big-endian number. -/
def beNat (bs : List Byte) : Nat := bs.foldl (fun n b => n * 256 + b.toNat) 0

/-- `n` bytes of the flash from `a`. -/
def flashBytes (m : Mach) (a n : Nat) : List Byte := readBytes 0xFF m.mem.flash a n

/-- `n` bytes of the flash from `a` as a little-endian number. -/
def flashLE (m : Mach) (a n : Nat) : Nat := readLE 0xFF m.mem.flash a n

/-- `n` bytes of the flash programmed from `a`. -/
def flashPut (m : Mach) (a : Nat) (bs : List Byte) : Mach :=
  { m with mem := { m.mem with flash := writeBytes 0xFF m.mem.flash a bs } }

/-- The bytes from `a` to `a + n - 1` erased. -/
def flashErase (m : Mach) (a n : Nat) : Mach :=
  { m with mem := { m.mem with flash := Store.dropWhere m.mem.flash (fun k => decide (a ≤ k ∧ k < a + n)) } }

/-- Whether `n` bytes from `a` are all erased. -/
def flashErased (m : Mach) (a n : Nat) : Bool := !m.mem.flash.any (fun c => decide (a ≤ c.1 ∧ c.1 < a + n))

/-- Whether `n` bytes from `a` are all zero. -/
def flashZero (m : Mach) (a n : Nat) : Bool := (flashBytes m a n).all (fun b => b == 0)

/-- The records of 64 bytes from `a` on, below `a + n`, that hold a programmed byte, in order of address. -/
def programmed (m : Mach) (a n : Nat) : List Nat :=
  ((m.mem.flash.filter (fun c => decide (a ≤ c.1 ∧ c.1 < a + n))).map (fun c => a + (c.1 - a) / 64 * 64)).dedup

/-- Whether the CRC of the 64-byte record at `a` checks (R546, R563, R564). -/
def recOk (m : Mach) (a : Nat) : Bool := flashLE m (a + 60) 4 == crc32 (flashBytes m a 60)

/-- A 64-byte record: 60 bytes and their CRC. -/
def sealed (bs : List Byte) : List Byte := bs ++ toLE (crc32 bs) 4

/-! ### Boot control block -/

/-- The boot control block (R546): BSEQ, PREF and the slot states. -/
structure Bcb where
  seq : Nat
  pref : Nat
  stateA : Nat
  stateB : Nat

/-- Whether a copy of the block checks (R546, R547). -/
def bcbOk (m : Mach) (a : Nat) : Bool :=
  flashLE m a 4 == 0x42434254 && recOk m a && decide (flashLE m (a + 8) 1 ≤ 1)

/-- A slot state as the block holds it; 0x6 and above are BAD (R547). -/
def slotState (v : Nat) : Nat := if 6 ≤ v then 4 else v

/-- The copy of the block at `a`. -/
def bcbAt (m : Mach) (a : Nat) : Bcb :=
  ⟨flashLE m (a + 4) 4, flashLE m (a + 8) 1, slotState (flashLE m (a + 9) 1), slotState (flashLE m (a + 10) 1)⟩

/-- R547: the address of the copy in use. -/
def bcbCopy (m : Mach) : Option Nat :=
  match bcbOk m 0, bcbOk m 0x1000 with
  | true, true => some (if (bcbAt m 0x1000).seq > (bcbAt m 0).seq then 0x1000 else 0)
  | true, false => some 0
  | false, true => some 0x1000
  | false, false => none

/-- R547: the block in use; a fresh flash tries A and then B, each VALID; none where the block is inconsistent. -/
def bcbRead (m : Mach) : Option Bcb :=
  match bcbCopy m with
  | some a => some (bcbAt m a)
  | none => if flashErased m 0 0x2000 then some ⟨0, 0, 1, 1⟩ else none

/-- R547: an update writes BSEQ + 1 into the older copy. -/
def bcbWrite (b : Bcb) (m : Mach) : Mach :=
  let a := match bcbCopy m with
    | some 0 => 0x1000
    | _ => 0
  let bs := toLE 0x42434254 4 ++ toLE (b.seq + 1) 4 ++ toLE b.pref 1 ++ toLE b.stateA 1 ++ toLE b.stateB 1 ++
    List.replicate 49 0
  flashPut (flashErase m a 0x1000) a (sealed bs)

/-- The state of a slot. -/
def Bcb.state (b : Bcb) (slot : Nat) : Nat := if slot = 0 then b.stateA else b.stateB

/-- The state of a slot replaced. -/
def Bcb.setState (b : Bcb) (slot v : Nat) : Bcb := if slot = 0 then { b with stateA := v } else { b with stateB := v }

/-- ID_SLOTSTAT shows the block's states (R578). -/
def showSlots (b : Bcb) (h : Hw) : Hw := (h.fset F.ID_SLOTSTAT_STATEA 0 b.stateA).fset F.ID_SLOTSTAT_STATEB 0 b.stateB

/-- The block that an update starts from: the one in use, or where it is inconsistent one with the states that ID_SLOTSTAT
shows. -/
def bcbBase (m : Mach) : Bcb :=
  (bcbRead m).getD ⟨0, 0, m.hw.fget F.ID_SLOTSTAT_STATEA 0, m.hw.fget F.ID_SLOTSTAT_STATEB 0⟩

/-- ID_SLOTSTAT shows one slot's state. -/
def showSlot (slot v : Nat) (h : Hw) : Hw := h.fset (if slot = 0 then F.ID_SLOTSTAT_STATEA else F.ID_SLOTSTAT_STATEB) 0 v

/-- A slot's state changed in the block and in ID_SLOTSTAT. -/
def setSlotState (slot v : Nat) (m : Mach) : Mach := (bcbWrite ((bcbBase m).setState slot v) m).onHw (showSlot slot v)

/-- ID_SLOTSTAT shows the result of a slot's latest verification (R578). -/
def showWhy (slot why : Nat) (h : Hw) : Hw := h.fset (if slot = 0 then F.ID_SLOTSTAT_WHYA else F.ID_SLOTSTAT_WHYB) 0 why

/-! ### Counter records -/

/-- The programmed counter records (R563). -/
def counterRecs (m : Mach) : List Nat := programmed m 0x3800000 0x20000

/-- R563: the address of the latest counter record: the highest CSEQ among those whose CRC checks. -/
def counterLatest (m : Mach) : Option Nat :=
  ((counterRecs m).filter (recOk m)).foldl (fun best a => match best with
    | none => some a
    | some b => if flashLE m b 4 < flashLE m a 4 then some a else some b) none

/-- R563: whether some record is programmed and none checks. -/
def counterBroken (m : Mach) : Bool := !(counterRecs m).isEmpty && (counterLatest m).isNone

/-- INC, BOOTCNT and FALLBACKCNT of the latest record. -/
def counters (m : Mach) : Nat × Nat × Nat :=
  match counterLatest m with
  | some a => (flashLE m (a + 4) 2, flashLE m (a + 8) 4, flashLE m (a + 12) 2)
  | none => (0, 0, 0)

/-- R563: a record is appended; where its sector is full the other one is erased and used. -/
def counterAppend (inc boot fb : Nat) (m : Mach) : Mach :=
  let cseq := match counterLatest m with
    | some a => flashLE m a 4 + 1
    | none => 0
  let bs := sealed (toLE cseq 4 ++ toLE inc 2 ++ [0, 0] ++ toLE boot 4 ++ toLE fb 2 ++ List.replicate 46 0)
  let sect := match counterLatest m with
    | some a => if a < 0x3810000 then 0x3800000 else 0x3810000
    | none => 0x3800000
  let used := (counterRecs m).filter (fun a => decide (sect ≤ a ∧ a < sect + 0x10000))
  let next := used.foldl (fun n a => max n (a + 64)) sect
  if next < sect + 0x10000 then flashPut m next bs
  else
    let other := if sect = 0x3800000 then 0x3810000 else 0x3800000
    flashPut (flashErase m other 0x10000) other bs

/-! ### Persistent fault log -/

/-- The address of persistent log sector `i` (R545). -/
def plogSector (i : Nat) : Nat := 0x3820000 + 0x10000 * i

/-- A pair put into a list of pairs in rising order of the first. -/
def insertPair (x : Nat × Nat) : List (Nat × Nat) → List (Nat × Nat)
  | [] => [x]
  | y :: r => if x.1 ≤ y.1 then x :: y :: r else y :: insertPair x r

/-- The sectors in use, as (SSEQ, sector), oldest first (R564). -/
def plogSectors (m : Mach) : List (Nat × Nat) :=
  let used := (List.range 126).filter (fun i => !flashErased m (plogSector i) 64 && recOk m (plogSector i))
  (used.map (fun i => (flashLE m (plogSector i) 4, i))).foldr insertPair []

/-- The entries of a sector, in order. -/
def plogEntries (m : Mach) (i : Nat) : List Nat := programmed m (plogSector i + 64) 0xFFC0

/-- The entries held whose CRC checks, oldest first (R564). -/
def plogAll (m : Mach) : List Nat := (plogSectors m).flatMap (fun s => (plogEntries m s.2).filter (recOk m))

/-- R564, R565: one fault message is appended; where every sector is full the one with the lowest SSEQ is erased, and its
entries are counted as lost. -/
def plogAppend (x : FMsg) (m : Mach) : Mach :=
  let bs := sealed (toLE (packFault x) 32 ++ toLE (counters m).2.1 4 ++ List.replicate 24 0)
  let ss := plogSectors m
  let last := ss.getLast?
  let room := last.bind (fun s =>
    let next := (plogEntries m s.2).foldl (fun n a => max n (a + 64)) (plogSector s.2 + 64)
    if next < plogSector s.2 + 0x10000 then some next else none)
  match room with
  | some a => flashPut m a bs
  | none =>
    let sseq := (last.map (fun s => s.1 + 1)).getD 0
    let head := sealed (toLE sseq 4 ++ List.replicate 56 0)
    let free := (List.range 126).find? (fun i => !ss.any (fun s => s.2 == i))
    let i := free.getD ((ss.head?.map Prod.snd).getD 0)
    let lost := if free.isSome then 0 else (plogEntries m i).length
    let m1 := flashPut (flashPut (flashErase m (plogSector i) 0x10000) (plogSector i) head) (plogSector i + 64) bs
    m1.onHw (fun h => h.fadd F.ID_PLOGLOST_VAL 0 lost)

/-- ID_PLOGCNT shows the entries held (R577). -/
def showPlog (m : Mach) : Mach := m.onHw (fun h => h.fset F.ID_PLOGCNT_VAL 0 (plogAll m).length)

/-- PERSIST_LOG_WRITE (R474): Turret copies the oldest entry due to the flash, while PFW is 0 (R526). -/
def execPersistLogWrite (s : State) : Out :=
  onMach (fun m =>
    match m.hw.fc.persist with
    | [] => m
    | x :: rest =>
      if m.hw.flag F.BC_STAT_PFW 0 then m
      else showPlog (plogAppend x (m.onHw (fun h => { h with fc := { h.fc with persist := rest } })))) s

/-- PERSIST_QUEUE_FLUSH (R565): PFW has fallen, and the queued entries are written. -/
def execPersistQueueFlush (s : State) : Out :=
  onMach (fun m =>
    if m.hw.flag F.BC_STAT_PFW 0 then m
    else showPlog (m.hw.fc.persist.foldl (fun m x => plogAppend x m)
      (m.onHw (fun h => { h with fc := { h.fc with persist := [] } })))) s

/-! ### Image slots -/

/-- The address of slot A (0) or B (1) (R545). -/
def slotBase (slot : Nat) : Nat := if slot = 0 then 0x0800000 else 0x2000000

/-- A little-endian number of a slot's image. -/
def imgLE (m : Mach) (slot off n : Nat) : Nat := flashLE m (slotBase slot + off) n

/-- Bytes of a slot's image. -/
def imgBytes (m : Mach) (slot off n : Nat) : List Byte := flashBytes m (slotBase slot + off) n

/-- IMGLEN (R548). -/
def imgLen (m : Mach) (slot : Nat) : Nat := imgLE m slot 0x08 4
/-- CFGOFF (R548). -/
def cfgOff (m : Mach) (slot : Nat) : Nat := imgLE m slot 0x14 4
/-- CFGLEN (R548). -/
def cfgLen (m : Mach) (slot : Nat) : Nat := imgLE m slot 0x18 4
/-- FWSVN (R548). -/
def fwSvn (m : Mach) (slot : Nat) : Nat := imgLE m slot 0x20 2
/-- CFGSVN (R548). -/
def cfgSvn (m : Mach) (slot : Nat) : Nat := imgLE m slot 0x22 2

/-- R548: the header's own rules. -/
def headerOk (m : Mach) (slot : Nat) : Bool :=
  let n := imgLen m slot
  let fw := imgLE m slot 0x10 4
  imgLE m slot 0 4 == 0x494D4754 && imgLE m slot 4 2 == 1 && imgLE m slot 6 2 == 0 &&
  decide (n % 64 = 0 ∧ n ≤ 0x1800000) && imgLE m slot 0x0C 4 == 0x100 &&
  decide (fw % 64 = 0 ∧ 64 ≤ fw ∧ fw ≤ 4 * 2 ^ 20) && cfgOff m slot == 0x100 + fw &&
  decide (cfgLen m slot % 64 = 0) && n == cfgOff m slot + cfgLen m slot + 384 &&
  decide (fwSvn m slot ≤ 64 ∧ cfgSvn m slot ≤ 64 ∧ imgLE m slot 0x24 1 ≤ 3) &&
  flashZero m (slotBase slot + 0x25) 0x1B && flashZero m (slotBase slot + 0x48) 0xB8

/-- A signature block (R549): KEYSEL, public key bytes, and signature. -/
def sigAt (m : Mach) (slot off : Nat) : Nat × List Byte × Nat :=
  (imgLE m slot off 1, imgBytes m slot (off + 8) 64, beNat (imgBytes m slot (off + 72) 64))

/-- The firmware signature block. -/
def fwSig (m : Mach) (slot : Nat) : Nat × List Byte × Nat := sigAt m slot (imgLen m slot - 384)
/-- The configuration signature block. -/
def cfgSig (m : Mach) (slot : Nat) : Nat × List Byte × Nat := sigAt m slot (imgLen m slot - 192)

/-- The SM3 digest that the firmware signature covers (R549). -/
def fwDigest (m : Mach) (slot : Nat) : Nat := Config.sm3 (imgBytes m slot 0 (cfgOff m slot))

/-- The SM3 digest that the configuration signature covers (R549). -/
def cfgDigest (m : Mach) (slot : Nat) : Nat :=
  Config.sm3 (imgBytes m slot 0 256 ++ imgBytes m slot (cfgOff m slot) (cfgLen m slot))

/-- R557: whether customer slot `k` (1 to 4) is active. -/
def custActive (h : Hw) (k : Nat) : Bool := Store.getD 0 h.otp.ckHash k != 0 && !bitAt h.otp.ckRev (k - 1)

/-- A thermometer fuse burnt up to a count. -/
def burnTo (f n : Nat) : Nat := Nat.lor f (2 ^ n - 1)

/-- The hash of key `k`: the root key for 0, else customer slot `k`. -/
def keyHash (h : Hw) (k : Nat) : Nat := if k = 0 then Config.rootHash else Store.getD 0 h.otp.ckHash k

/-! ### Configuration records -/

/-- The records of a configuration part as (TYPE, offset of the value in the image, LEN), or none where R552's first row is
broken: `pos` is the place in the part, `len` its length. -/
def parseRecs (m : Mach) (slot base len pos : Nat) : Nat → Option (List (Nat × Nat × Nat))
  | 0 => none
  | fuel + 1 =>
    if len < pos + 8 then none
    else
      let t := imgLE m slot (base + pos) 2
      let n := imgLE m slot (base + pos + 4) 4
      let n8 := (n + 7) / 8 * 8
      if imgLE m slot (base + pos + 2) 2 ≠ 0 ∨ t = 0 ∨ 8 ≤ t ∨ len < pos + 8 + n8 then none
      else if !flashZero m (slotBase slot + base + pos + 8 + n) (n8 - n) then none
      else if t = 1 then
        (if n = 0 ∧ flashZero m (slotBase slot + base + pos + 8) (len - pos - 8) then some [] else none)
      else (parseRecs m slot base len (pos + 8 + n8) fuel).map (fun r => (t, base + pos + 8, n) :: r)

/-- The records of a slot's configuration part. -/
def imgRecs (m : Mach) (slot : Nat) : Option (List (Nat × Nat × Nat)) :=
  parseRecs m slot (cfgOff m slot) (cfgLen m slot) 0 (cfgLen m slot / 8)

/-- R601: the SP_RGN positions of master 0, of the owner of the bank, and past master 5 hold no register. -/
def spHole (i : Nat) : Bool :=
  let m := i / 8 % 8
  m == 0 || m == i / 64 || decide (6 ≤ m)

/-- The register and instance at a management address (R580). -/
def findReg (addr : Nat) : Option (Reg × Nat) :=
  (((blockRegs (addr / 2 ^ 20)).find? (fun r =>
    decide (r.addr ≤ addr) && decide ((addr - r.addr) % r.stride = 0) && decide ((addr - r.addr) / r.stride < r.count))).map
    (fun r => (r, (addr - r.addr) / r.stride))).filter (fun x => !(x.1.addr == R.SP_RGN.addr && spHole x.2))

/-- The bits of a register that an image may set: its IMG fields, without SL_STACK.NMOD and SL_PCFG.EN (R552). -/
def imgMask (r : Reg) : Nat :=
  ((r.flds.filter (fun f => f.img && f.id != F.SL_STACK_NMOD.id && f.id != F.SL_PCFG_EN.id)).map
    (fun f => (2 ^ f.width - 1) * 2 ^ f.lo)).sum

/-- The value that the image map gives instance `i` of a field; the image default where it names none (R551). -/
def imgGet (img : SMap Nat) (f : Fld) (i : Nat) : Nat := Store.getD (rstOf f i) img (fkey f i)

/-- R551: one REGSET entry sets the bits of its mask to its value; none where R552 makes the image inconsistent. -/
def regsetEntry (addr val mask : Nat) (img : SMap Nat) : Option (SMap Nat) :=
  match findReg addr with
  | none => if mask = 0 then some img else none
  | some (r, i) =>
    if Nat.land mask (imgMask r) ≠ mask then none
    else
      (r.flds.filter (fun f => f.img && bits mask f.lo f.width != 0)).foldl (fun acc f =>
        acc.bind (fun g =>
          let mk := bits mask f.lo f.width
          let v := Nat.lor (Nat.land (imgGet g f i) (2 ^ f.width - 1 - mk)) (Nat.land (bits val f.lo f.width) mk)
          if fieldOk f i v then some (Store.setD (rstOf f i) g (fkey f i) v) else none)) (some img)

/-- R550, R551: the `n` entries of a REGSET record. -/
def regsetRec (m : Mach) (slot off : Nat) (img : SMap Nat) : Nat → Option (SMap Nat)
  | 0 => some img
  | n + 1 =>
    (regsetEntry (imgLE m slot off 4) (imgLE m slot (off + 4) 4) (imgLE m slot (off + 8) 4) img).bind
      (fun g => regsetRec m slot (off + 12) g n)

/-- R554: the module count's code, if NMOD is 1, 2, 4 or 8. -/
def nmodCode (n : Nat) : Option Nat := ([(1, 0), (2, 1), (4, 2), (8, 3)] : List (Nat × Nat)).lookup n

/-- R429, R554: the ports that a module count uses, as a mask. -/
def planPorts (code : Nat) : Nat :=
  (((List.range 4).filter (fun s => (neighbour code 0 s).isSome)).map (fun s => 2 ^ s)).sum

/-- R554: whether a STACKPLAN value is laid out as it must be. -/
def planOk (m : Mach) (slot off n : Nat) : Bool :=
  n == 24 && flashZero m (slotBase slot + off + 2) 6 && flashZero m (slotBase slot + off + 16) 8 &&
  (match nmodCode (imgLE m slot off 1) with
   | some c => imgLE m slot (off + 1) 1 == planPorts c
   | none => false)

/-- The image map with the fields that STACKPLAN sets (R554). -/
def planMap (m : Mach) (slot off : Nat) (img : SMap Nat) : SMap Nat :=
  let c := (nmodCode (imgLE m slot off 1)).getD 0
  let en := imgLE m slot (off + 1) 1
  (List.range 4).foldl (fun g s => Store.setD 0 g (fkey F.SL_PCFG_EN s) (b2n (bitAt en s)))
    (Store.setD 0 img (fkey F.SL_STACK_NMOD 0) c)

/-- R554: SL_PLANDIG: the first 8 bytes of the digest, byte 0 lowest. -/
def planDigest (m : Mach) (slot off : Nat) : Nat :=
  let d := Config.sm3 (imgBytes m slot off 24)
  ((List.range 8).map (fun i => bits d (248 - 8 * i) 8 * 2 ^ (8 * i))).sum

/-- The BINDPOLICY values of a record, each 32 bytes as a number (R555). -/
def policyVals (m : Mach) (slot off : Nat) : Nat → List Nat
  | 0 => []
  | n + 1 => imgLE m slot off 32 :: policyVals m slot (off + 32) n

/-- R555: the fields of a policy: HOSTPORT and VPPB. -/
def polKey (p : Nat) : Nat × Nat := (bits p 0 8, bits p 8 8)

/-- R552, R555: the fields of a policy lie in their ranges. -/
def policyOk (img : SMap Nat) (p : Nat) : Bool :=
  let etlen := bits p 32 32
  decide (bits p 0 8 ≤ 71 ∧ bits p 8 8 ≤ 31) && decide (bits p 18 2 ≠ 3 ∧ bits p 21 3 = 0) &&
  decide (bits p 29 3 = 0 ∧ bits p 27 2 ≤ 2) &&
  decide (128 ≤ etlen ∧ etlen ≤ 2 ^ 25 ∧ etlen % 128 = 0) && decide (bits p 64 32 ≤ etlen) &&
  decide (bits p 96 32 < 2 ^ 20 ∧ bits p 132 4 = 0) &&
  decide (bits p 136 8 ≤ 64 ∧ bits p 144 16 + bits p 136 8 ≤ 65536) && decide (bits p 163 93 = 0) &&
  imgGet img F.FP_PCFG_ROLE (bits p 0 8) == 1

/-- R344, R347: whether WRITE would take a region descriptor. -/
def descOk (d : Nat) : Bool :=
  !decide (bits d 64 34 < bits d 30 34 ∨ bits d 10 20 ≠ 0 ∨ bits d 98 30 ≠ 0)

/-- The region descriptors of a record as (index, descriptor) (R550). -/
def regionVals (m : Mach) (slot off first : Nat) : Nat → List (Nat × Nat)
  | 0 => []
  | n + 1 => (first, imgLE m slot off 16) :: regionVals m slot (off + 16) (first + 1) n

/-- R556: whether a KEYPROV value keeps its rules, `signer` being the key that signed the configuration part. -/
def keyprovOk (m : Mach) (slot off n signer : Nat) : Bool :=
  let act := imgLE m slot off 1
  let k := imgLE m slot (off + 1) 1
  let hash := beNat (imgBytes m slot (off + 8) 32)
  let old := Store.getD 0 m.hw.otp.ckHash k
  n == 40 && decide (1 ≤ act ∧ act ≤ 2 ∧ 1 ≤ k ∧ k ≤ 4) && flashZero m (slotBase slot + off + 2) 6 &&
  (if act = 1 then old == 0 || old == hash else hash == 0 && k != signer)

/-- What a consistent configuration part gives: the IMG fields, the Watchtower settings, the offset of STACKPLAN's value, the
policies, the region descriptors and the KEYPROV values. -/
structure CfgPart where
  img : SMap Nat
  wt : Option (List Byte)
  plan : Option Nat
  pols : List Nat
  regions : List (Nat × Nat)
  keys : List Nat

/-- One record taken into what the part gives; none where R552 makes the image inconsistent. -/
def takeRec (m : Mach) (slot signer : Nat) (r : Nat × Nat × Nat) (c : CfgPart) : Option CfgPart :=
  let off := r.2.1
  let n := r.2.2
  match r.1 with
  | 2 => if n % 12 = 0 then (regsetRec m slot off c.img (n / 12)).map (fun g => { c with img := g }) else none
  | 3 =>
    if c.wt.isSome ∨ n ≠ 16 ∨ (cfgBad (imgBytes m slot off 16)).isSome then none
    else some { c with wt := some (imgBytes m slot off 16) }
  | 4 => if c.plan.isSome ∨ planOk m slot off n = false then none else some { c with plan := some off }
  | 5 => if n % 32 = 0 then some { c with pols := c.pols ++ policyVals m slot off (n / 32) } else none
  | 6 =>
    let vs := regionVals m slot (off + 4) (imgLE m slot off 4) ((n - 4) / 16)
    if 4 ≤ n ∧ (n - 4) % 16 = 0 ∧ vs.all (fun v => descOk v.2 && decide (v.1 < 65536)) then
      some { c with regions := c.regions ++ vs }
    else none
  | 7 => if keyprovOk m slot off n signer then some { c with keys := c.keys ++ [off] } else none
  | _ => none

/-- R552: the configuration part of a slot, or none where the image is inconsistent. -/
def cfgPart (m : Mach) (slot : Nat) : Option CfgPart :=
  let signer := (cfgSig m slot).1
  match imgRecs m slot with
  | none => none
  | some rs =>
    match rs.foldl (fun (acc : Option CfgPart) r => acc.bind (takeRec m slot signer r)) (some ⟨[], none, none, [], [], []⟩) with
    | none => none
    | some c =>
      let img := match c.plan with
        | some off => planMap m slot off c.img
        | none => c.img
      if fieldOk F.DD_TTSLEN_VAL 0 (imgGet img F.DD_TTSLEN_VAL 0) && c.pols.all (policyOk img) &&
          (c.pols.map polKey).dedup.length == c.pols.length then some { c with img := img }
      else none

/-- R558: verification of a slot; the reason code of R578, 0 for OK. `readOk`: no flash read of the slot fails. -/
def verifySlot (m : Mach) (slot : Nat) (readOk : Bool) : Nat :=
  let fs := fwSig m slot
  let cs := cfgSig m slot
  let k := cs.1
  if !headerOk m slot then 1
  else if !readOk then 8
  else if fs.1 ≠ 0 ∨ Config.sm3 fs.2.1 ≠ Config.rootHash ∨ Config.sm2Verify (beNat fs.2.1) (fwDigest m slot) fs.2.2 = false
    then 2
  else if fwSvn m slot < ones m.hw.otp.fwFuse then 3
  else if 4 < k ∨ (k = 0 ∧ [1, 2, 3, 4].any (custActive m.hw)) ∨ (0 < k ∧ custActive m.hw k = false) then 5
  else if Config.sm3 cs.2.1 ≠ keyHash m.hw k ∨ Config.sm2Verify (beNat cs.2.1) (cfgDigest m slot) cs.2.2 = false then 4
  else if cfgSvn m slot < ones m.hw.otp.cfgFuse then 6
  else if (cfgPart m slot).isNone then 7
  else 0

/-! ### What an image sets -/

/-- R19: Turret applies the active image's IMG fields. -/
def applyImg (h : Hw) : Hw := { h with regs := h.img.foldl (fun r (x : Nat × Nat) => Store.put r x.1 x.2) h.regs }

/-- Step 6 of R501: the IMG fields of the registers that the reset has reset; those that `keeps` names hold what software wrote. -/
def reapplyImg (keeps : Nat → Bool) (h : Hw) : Hw :=
  { h with regs := (h.img.filter (fun x => !keeps (x.1 / 65536))).foldl (fun r (x : Nat × Nat) => Store.put r x.1 x.2) h.regs }

/-- R344: Turret writes the region descriptors that the active image holds. -/
def applyRegions (h : Hw) : Hw :=
  { h with ag := { h.ag with desc := h.ag.img.foldl (fun d (x : Nat × Nat) => Store.setD 0 d x.1 x.2) h.ag.desc } }

/-- R551, R554, R561 step 6: the records of a slot's image are applied, and SETCFG is sent where MATCH is 0 (R544). -/
def applyCfg (c : CfgPart) (slot : Nat) (m : Mach) : Mach :=
  let dig := (c.plan.map (planDigest m slot)).getD 0
  let wt := fun (g : SMap Nat) => match c.wt with
    | some b => (List.range 4).foldl (fun g i => Store.setD 0 g (fkey F.BC_WCFG_VAL i) (leAt b (4 * i) 4)) g
    | none => g
  m.onHw (fun h =>
    let h1 := applyImg { h with img := wt c.img }
    let h2 := applyRegions { h1 with
      ag := { h1.ag with img := c.regions }
      bd := { h1.bd with policies := c.pols } }
    let h3 := evalMatch ((h2.fset F.SL_PLANDIG_LO_VAL 0 (bits dig 0 32)).fset F.SL_PLANDIG_HI_VAL 0 (bits dig 32 32))
    if c.wt.isSome ∧ !h3.flag F.BC_WCFGSTAT_MATCH 0 then sendSetcfg (wcfgBlock h3) h3 else h3)

/-- R183: the route entries of the local homes, Turret and the local Cupola. -/
def localRoutes (h : Hw) : Hw :=
  let put := fun (h : Hw) (i xp : Nat) =>
    { h with sw := { h.sw with routes := Store.setD 0 h.sw.routes i (1 + xp * 16) } }
  let h1 := (List.range 16).foldl (fun h i => put h (8 + i) (80 + i / 2)) h
  (List.range 4).foldl (fun h c => put h (0x19 + c) (88 + c)) (put h1 0x18 94)

end Sys2Proof.Machine
end

