-- ==== Sys2Proof/Machine/Clocks.lean ====
section
/-! DEFINITION. Clock domains (R482 to R485), standby and wake (R495, R496), and the requests for resets: the watchdog, clock
loss and CK_RSTCMD (R497 to R500, R505). The module and fabric resets themselves stand in Resets. -/
namespace Sys2Proof.Machine

/-! ### Domains -/

/-- HOLD (R504, R566). -/
def Hw.inHold (h : Hw) : Bool := h.fget F.CK_PWRSTAT_STATE 0 == 4

/-- STANDBY (R504). -/
def Hw.inStandby (h : Hw) : Bool := h.fget F.CK_PWRSTAT_STATE 0 == 2

/-- R390: whether a lane of octet `k` is under test. -/
def octetTested (h : Hw) (k : Nat) : Bool := (List.range 8).any (fun i => h.flag F.LT_CTRL_EN (8 * k + i))

/-- R390, R484, R485: the state of octet `k`'s OCLK: 0 RUN, 1 GATED, 3 STOPPED. A lane test ungates an octet without ports in use. -/
def oclkState (h : Hw) (k : Nat) : Nat :=
  let ports := octetPorts h k
  if h.flag F.FP_OCTCFG_FAILED k ∨ h.fp.octUnlocked.contains k then 3
  else if octetTested h k then 0
  else if Store.getD 0 h.fp.layout k = 0 ∨ ports.all (fun n => h.role n == 0) then 3
  else if ports.any (fun n => h.flag F.FP_LSTAT_UP n) then 0 else 1

/-- R484: the state of a domain while it is not asleep. -/
def awakeState (h : Hw) (d : Nat) : Nat :=
  if d < 4 then (if d ≠ 0 ∧ h.ck.unlocked then 3 else 0)
  else if d < 22 then oclkState h (d - 4)
  else if d < 34 then
    let st := h.fget F.DD_CHSTAT_STATE (d - 22)
    if st = 0 ∨ st = 2 ∨ h.inHold then 3 else 0
  else if h.flag F.SL_PCFG_EN (d - 34) = false ∨ h.fget F.SL_PSTAT_STATE (d - 34) = 4 ∨ h.inHold then 3
  else if h.fget F.SL_PSTAT_TXPS (d - 34) = 2 ∧ h.fget F.SL_PSTAT_RXPS (d - 34) = 2 then 1 else 0

/-- R483: the state of domain `d`: 0 RUN, 1 GATED, 2 ASLEEP, 3 STOPPED. A wake starts MCLK first, and the others at its step 3 (R496). -/
def domState (h : Hw) (d : Nat) : Nat :=
  let s := awakeState h d
  if d ≠ 0 ∧ s ≠ 3 ∧ (h.inStandby ∨ h.ck.asleep ∧ d ≠ 1) then 2 else s

/-- The frequency of octet `k`'s OCLK in MHz, rounded down (R482): the highest rate of its links that are up and its lanes under test. -/
def oclkMhz (h : Hw) (k : Nat) : Nat :=
  let ports := (octetPorts h k).map (fun n => if h.flag F.FP_LSTAT_UP n then h.fget F.FP_LSTAT_RATE n else 0)
  let lanes := (List.range 8).map (fun i => if h.flag F.LT_CTRL_EN (8 * k + i) then h.fget F.LT_CTRL_RATE (8 * k + i) else 0)
  let r := (ports ++ lanes).foldl max 0
  ([39, 78, 125, 250, 500, 1000] : List Nat).getD r 39

/-- R482, R507: the frequency of domain `d` in MHz; 0 while STOPPED. -/
def domFreq (h : Hw) (d : Nat) : Nat :=
  if domState h d = 3 then 0
  else if d < 4 then ([0, 400, 100, 1600] : List Nat).getD d 0
  else if d < 22 then oclkMhz h (d - 4)
  else if d < 34 then (if h.fget F.DD_STAT_RATE 0 = 2 then 1600 else 1400)
  else 1000

/-- R580: the domain that answers an access to a management address. -/
def addrDom (a : Nat) : Nat :=
  let b := a / 2 ^ 20
  let o := a % 2 ^ 20
  if b = 0 ∨ b = 1 ∨ b = 14 then 1
  else if b = 15 then 2
  else if b = 6 ∧ 0x1000 ≤ o ∧ o < 0x1400 ∧ 8 ≤ o % 0x100 ∧ o % 0x100 ≤ 0x13 then 34 + (o - 0x1000) / 0x100
  else if b = 13 ∧ o < 0xC0000 ∧ 0x10 ≤ o % 0x10000 ∧ o % 0x10000 ≤ 0x33 then 22 + o / 0x10000
  else 3

/-! ### Power states -/

/-- The code of a wake reason (R504). -/
def wakeCode (w : WakeWhy) : Nat :=
  match w with
  | .presence _ => 1 | .eidle _ => 2 | .spire _ => 3 | .barrier => 4 | .window => 5 | .turret => 6

/-- R390, R496: whether an event is one that wakes: presence and electrical idle of a port that is not UNUSED, the clock lane of a Spire
port with EN = 1. -/
def wakes (h : Hw) (w : WakeWhy) : Bool :=
  match w with
  | .presence n | .eidle n => h.role n != 0
  | .spire n => h.flag F.SL_PCFG_EN n
  | _ => true

/-- R495: every condition for entering STANDBY holds. -/
def standbyReady (h : Hw) : Bool :=
  h.flag F.CK_PWRCFG_SBEN 0 && h.fget F.CK_PWRSTAT_STATE 0 == 3 &&
  (List.range 72).all (fun n => !h.flag F.FP_LSTAT_UP n) && h.fp.grace.isEmpty &&
  (List.range 8).all (fun d => h.peerState d != 1) && (h.instsOf F.DM_RSTAT_BUSY).all (fun r => !h.flag F.DM_RSTAT_BUSY r) &&
  h.bd.tt.all (fun x => ttState x.2 != 3 && ttState x.2 != 4 && ttState x.2 != 5) &&
  h.fget F.SW_SPILLPG_VAL 0 == 0 && h.fc.doms.all (fun x => x.2.state != 1)

/-- A wake runs (R496, R504). -/
def startWake (why : WakeWhy) (h : Hw) : Hw :=
  (h.fset F.CK_PWRSTAT_STATE 0 6).fset F.CK_PWRSTAT_WAKEWHY 0 (wakeCode why)

/-- R539: SLEEP is sent and the fabric end's transmitter stops. -/
def sendSleep (h : Hw) : Hw :=
  if h.bc.fab.up then
    let h1 := barCtl true 0x02 0 [] h
    { h1 with bc := { h1.bc with fab := { h1.bc.fab with asleep := true, sync := false } } }
  else h

/-- STANDBY_ENTRY (R495, R496): HALT, self-refresh with every row closed, the clocks stop; a wake event at a step boundary stops the entry there and the
wake runs. -/
def execStandbyEntry (event : Option (Nat × WakeWhy)) (s : State) : Out :=
  onMach (fun m =>
    if standbyReady m.hw then
      let stop := event.filter (fun x => wakes m.hw x.2)
      let n := (stop.map Prod.fst).getD 4
      let m1 := if n < 2 then m else { m with mem := { m.mem with rows := [] } }
      m1.onHw (fun h =>
        let h1 := if 1 ≤ n then h.fset F.SW_CTRL_HALT 0 1 else h
        let h2 := if 2 ≤ n then { h1 with dd := { h1.dd with selfRefresh := true } } else h1
        let h3 := if 3 ≤ n then let x := sendSleep h2; { x with ck := { x.ck with asleep := true } } else h2
        match stop with
        | some (_, why) => startWake why h3
        | none => h3.fset F.CK_PWRSTAT_STATE 0 2)
    else m) s

/-- R496: a wake from STANDBY starts, and is counted. -/
def wakeUp (why : WakeWhy) (h : Hw) : Hw :=
  if h.inStandby ∧ wakes h why then (startWake why h).fadd F.CK_WAKECNT_VAL 0 1 else h

/-- STANDBY_WAKE (R496). -/
def execStandbyWake (why : WakeWhy) (s : State) : Out := onHw (wakeUp why) s

/-- PRSNT_CHANGE (R372, R390): of a port that is not UNUSED it wakes a module in STANDBY. -/
def execPrsntChange (port : Nat) (present dpcEnabled : Bool) (s : State) : Out :=
  onHw (fun h =>
    let h1 := settleResets (prsntChange port present dpcEnabled h)
    if h.flag F.FP_LSTAT_PRSNT port = present then h1 else wakeUp (.presence port) h1) s

/-- R496, R504: the core is ready: HALT clears, and the Spire ports that nothing holds begin training, as the fabric ports do by LINK_UP. -/
def wakeEnd (us : Nat) (h : Hw) : Hw :=
  let h0 := ((h.fset F.CK_PWRSTAT_STATE 0 3).fset F.CK_PWRSTAT_WAKEUS 0 us).fset F.SW_CTRL_HALT 0 0
  let h1 := (List.range 4).foldl (fun h s => spireRelease s h) h0
  { h1 with dd := { h1.dd with selfRefresh := false }, ck := { h1.ck with asleep := false } }

/-- Whether a path may command resets and wakes (R503, R505). -/
def ckMaster (p : Path) : Bool := p == .turret || p == .barrier

/-- WAKE of CK_PWRCMD (R503). -/
def pwrcmdWake (p : Path) (h : Hw) : Hw := if ckMaster p then wakeUp .turret h else h

/-- CK_PWRCMD_WAKE. -/
def execCkPwrcmdWake (p : Path) (s : State) : Out := onHw (pwrcmdWake p) s

/-! ### Requests for resets -/

/-- R498, R499: a module reset is asked for with a cause; one already asked for keeps its cause. -/
def askModule (cause : Nat) (h : Hw) : Hw := { h with ck := { h.ck with modReq := some (h.ck.modReq.getD cause) } }

/-- R498, R500: a fabric reset is asked for with a cause. -/
def askFabric (cause : Nat) (h : Hw) : Hw := { h with ck := { h.ck with fabReq := some (h.ck.fabReq.getD cause) } }

/-- WATCHDOG_EXPIRY (R499). -/
def execWatchdogExpiry (s : State) : Out := onHw (fun h => if h.ck.on then askModule 2 h else h) s

/-- CLOCK_LOCK_LOSS (R484, R499): CCLK, MCLK and BCLK stop, and a module reset follows. -/
def execClockLockLoss (s : State) : Out :=
  onHw (fun h => if h.ck.on then let x := askModule 3 h; { x with ck := { x.ck with unlocked := true } } else h) s

/-- RESULT of CK_RSTSTAT (R506). -/
def rstResult (r : Nat) (h : Hw) : Hw := h.fset F.CK_RSTSTAT_RESULT 0 r

/-- R498: a reset that covers every narrower one is asked for or runs. -/
def widerRuns (h : Hw) : Bool := h.ck.modReq.isSome || h.ck.fabReq.isSome

/-- R505: GO of CK_RSTCMD: DENIED, BUSY_REJECT, or the command with SCOPE and INST as written. -/
def rstGo (p : Path) (scope inst : Nat) (f : Mach → Mach) (m : Mach) : Mach :=
  if ckMaster p = false then m.onHw (rstResult 3)
  else if m.hw.flag F.CK_RSTSTAT_BUSY 0 then m.onHw (rstResult 2)
  else f (m.onHw (fun h => (h.fset F.CK_RSTCMD_SCOPE 0 scope).fset F.CK_RSTCMD_INST 0 inst))

/-- R498, R505: a narrower scope: BAD_FIELD outside its range; discarded with OK while a wider reset runs. -/
def rstNarrow (limit inst : Nat) (f : Mach → Mach) (m : Mach) : Mach :=
  if limit ≤ inst then m.onHw (rstResult 1)
  else if widerRuns m.hw then m.onHw (rstResult 0)
  else (f m).onHw (rstResult 0)

/-- SCOPE MODULE. -/
def rstModule (m : Mach) : Mach := m.onHw (fun h => (askModule 4 (rstResult 0 h)).fset F.CK_RSTSTAT_BUSY 0 1)

/-- SCOPE FABRIC. -/
def rstFabric (m : Mach) : Mach := m.onHw (fun h => (askFabric 3 (rstResult 0 h)).fset F.CK_RSTSTAT_BUSY 0 1)

/-- SCOPE PORT: a port that is absent or UNUSED is left as it is. -/
def rstPort (n : Nat) (m : Mach) : Mach := rstNarrow 72 n (fun m => m.onHw (fun h => if h.role n = 0 then h else portReset n h)) m

/-- SCOPE TENANT: BUSY until the tenant's reset has ended. -/
def rstTenant (t : Nat) (m : Mach) : Mach :=
  rstNarrow 8192 t (fun m => m.onHw (fun h =>
    let h1 := (askReset t h).2
    if seqRuns h1 (didxOf domTenant t) then { h1 with ck := { h1.ck with running := some t } }.fset F.CK_RSTSTAT_BUSY 0 1
    else h1)) m

/-- SCOPE CHANNEL: an ABSENT channel is left as it is. -/
def rstChannel (c : Nat) (m : Mach) : Mach :=
  rstNarrow 12 c (fun m => m.onHw (fun h => if h.fget F.DD_CHSTAT_STATE c = 0 then h else channelReset c h)) m

/-- SCOPE SPIRE. -/
def rstSpire (n : Nat) (m : Mach) : Mach := rstNarrow 4 n (fun m => m.onHw (spireReset n)) m

/-- SCOPE ENGINE. -/
def rstEngine (e : Nat) (m : Mach) : Mach := rstNarrow 8 e (engineReturn e) m

/-- CK_RSTCMD_MODULE (R499, R505). -/
def execCkRstcmdModule (p : Path) (s : State) : Out := onMach (rstGo p 0 0 rstModule) s
/-- CK_RSTCMD_FABRIC (R500, R505). -/
def execCkRstcmdFabric (p : Path) (s : State) : Out := onMach (rstGo p 1 0 rstFabric) s
/-- CK_RSTCMD_PORT (R497, R505). -/
def execCkRstcmdPort (p : Path) (inst : Nat) (s : State) : Out := onMach (rstGo p 2 inst (rstPort inst)) s
/-- CK_RSTCMD_TENANT (R497, R505). -/
def execCkRstcmdTenant (p : Path) (inst : Nat) (s : State) : Out := onMach (rstGo p 3 inst (rstTenant inst)) s
/-- CK_RSTCMD_CHANNEL (R497, R505). -/
def execCkRstcmdChannel (p : Path) (inst : Nat) (s : State) : Out := onMach (rstGo p 4 inst (rstChannel inst)) s
/-- CK_RSTCMD_SPIRE (R497, R505). -/
def execCkRstcmdSpire (p : Path) (inst : Nat) (s : State) : Out := onMach (rstGo p 5 inst (rstSpire inst)) s
/-- CK_RSTCMD_ENGINE (R497, R505). -/
def execCkRstcmdEngine (p : Path) (inst : Nat) (s : State) : Out := onMach (rstGo p 6 inst (rstEngine inst)) s

/-! ### Thermal sensors (R634 to R637) -/

/-- The thresholds of sensor `n` in °C: WARN and CRIT; none for the sensors without thresholds (R635). -/
def thermLimits (h : Hw) (n : Nat) : Option (Nat × Nat) :=
  if n ≤ 3 then some (h.fget F.CK_THCFG_TFPWARN 0, h.fget F.CK_THCFG_TFPCRIT 0)
  else if 7 ≤ n ∧ n ≤ 30 then some (h.fget F.CK_THCFG_DIMMWARN 0, h.fget F.CK_THCFG_DIMMCRIT 0)
  else none

/-- R635: a flag after a reading in 0.125 °C: set at or above its threshold, cleared at or below it less 5 °C. -/
def thermFlag (old : Bool) (lim : Nat) (t : Int) : Bool :=
  if (lim : Int) * 8 ≤ t then true else if t ≤ (lim : Int) * 8 - 40 then false else old

/-- THERMAL_SENSOR_READING (R634 to R636): a reading in 0.125 °C, two's complement, or an absent RDIMM. -/
def execThermalSensorReading (n temp : Nat) (present : Bool) (s : State) : Out :=
  onHw (fun h =>
    if 30 < n then h
    else if !present then
      [F.CK_TSEN_TEMP, F.CK_TSEN_VALID, F.CK_TSEN_WARN, F.CK_TSEN_CRIT].foldl (fun h f => h.fset f n 0) h
    else
      let v := temp % 4096
      let t : Int := if v < 2048 then v else (v : Int) - 4096
      let w := h.flag F.CK_TSEN_WARN n
      let c := h.flag F.CK_TSEN_CRIT n
      let r := match thermLimits h n with
        | some l => (thermFlag w l.1 t, thermFlag c l.2 t)
        | none => (false, false)
      let old := h.fget F.CK_TSEN_TEMP n
      let told : Int := if old < 2048 then old else (old : Int) - 4096
      let hot := decide (85 * 8 ≤ t)
      let wasHot := h.flag F.CK_TSEN_VALID n && decide (85 * 8 ≤ told)
      let h1 := (((h.fset F.CK_TSEN_TEMP n v).fset F.CK_TSEN_VALID n 1).fset F.CK_TSEN_WARN n (b2n r.1)).fset
        F.CK_TSEN_CRIT n (b2n r.2)
      let h2 := if r = (w, c) then h1 else h1.emit (.pldm (0x100 + n) r.1 r.2)
      if 7 ≤ n ∧ hot ≠ wasHot then h2.emit (.refresh n hot) else h2) s

/-- TFP_THERMAL_TRIP (R637): every fabric-side supply is off until the converter is disabled; Watchtower runs on. -/
def execTfpThermalTrip (s : State) : Out :=
  onMach (fun m =>
    if m.hw.ck.on then
      let w := m.hw.wt
      let m1 := wtPowerOff (onWt (fun x => { x with conv := w.conv, bar := BarEnd.down })) m
      m1.onHw (fun h => { h with ck := { h.ck with trip := true } }.emit .suppliesOff)
    else m) s

end Sys2Proof.Machine
end

