-- ==== Sys2Proof/Machine/Startup.lean ====
section
/-! DEFINITION. Start-up (R559 to R563), HOLD (R566 to R568), confirmation (R560), the load engine (R569 to R572), the CXL
Firmware Update commands (R573) and the SPDM responder (R574 to R576). -/
namespace Sys2Proof.Machine

/-! ### Choice of a slot (R559) -/

/-- What the choice of a slot has found so far: the machine with the verification results, the block, the slot chosen. -/
structure Choice where
  mach : Mach
  bcb : Bcb
  slot : Option Nat

/-- R559: MCAUSE of a reset that ends a trial: ESCALATE, WATCHDOG or CLOCKLOSS. -/
def endsTrial (cause : Nat) : Bool := cause == 1 || cause == 2 || cause == 3

/-- R559: one slot is tried, if none has been chosen; `readOk`: no flash read of it fails. -/
def trySlot (cause : Nat) (readOk : Bool) (slot : Nat) (c : Choice) : Choice :=
  let st := c.bcb.state slot
  if c.slot.isSome ∨ !(st == 1 || st == 2 || st == 3) then c
  else if st = 3 ∧ endsTrial cause then { c with bcb := c.bcb.setState slot 4 }
  else
    let why := verifySlot c.mach slot readOk
    let m1 := c.mach.onHw (showWhy slot why)
    if why = 0 then ⟨m1, if st = 2 then c.bcb.setState slot 3 else c.bcb, some slot⟩
    else ⟨m1, c.bcb.setState slot 4, none⟩

/-- R559: the preferred slot, then the other. -/
def chooseSlot (cause : Nat) (readA readB : Bool) (b : Bcb) (m : Mach) : Choice :=
  let rd := fun (s : Nat) => if s = 0 then readA else readB
  let o := 1 - b.pref
  trySlot cause (rd o) o (trySlot cause (rd b.pref) b.pref ⟨m, b, none⟩)

/-! ### Attestation values -/

/-- The `n` bytes of a number, big-endian. -/
def toBE (v n : Nat) : List Byte := (toLE v n).reverse

/-- R576, index 6: the digest of ROOTHASH, CKHASH1-4, CKREV, FWFUSE and CFGFUSE in that order. DESIGN CHOICE: hashes 32 bytes
big-endian, CKREV one byte, the fuses 8 bytes little-endian. -/
def hwDigest (h : Hw) : Nat :=
  Config.sm3 (toBE Config.rootHash 32 ++ [1, 2, 3, 4].flatMap (fun k => toBE (Store.getD 0 h.otp.ckHash k) 32) ++
    toLE h.otp.ckRev 1 ++ toLE h.otp.fwFuse 8 ++ toLE h.otp.cfgFuse 8)

/-- ID_SVN shows the fuse counts (R579). -/
def showFuses (h : Hw) : Hw :=
  (h.fset F.ID_SVN_FWFUSE 0 (ones h.otp.fwFuse)).fset F.ID_SVN_CFGFUSE 0 (ones h.otp.cfgFuse)

/-! ### HOLD and ACTIVE -/

/-- R566, R600: HOLD with a reason: ALMLVL with SWLVL 1, both CCIs refused. -/
def enterHold (why : Nat) (m : Mach) : Mach :=
  m.onHw (fun h =>
    let h1 := ((h.fset F.ID_BOOTSTAT_PHASE 0 5).fset F.ID_BOOTSTAT_HOLDWHY 0 why).fset F.CK_PWRSTAT_STATE 0 4
    let h2 := (h1.fset F.ID_MGCTRL_CCIMB 0 0).fset F.ID_MGCTRL_CCIMCTP 0 0
    let h3 := { h2 with ld := { h2.ld with meas := [0, 0, 0, 0, hwDigest h2] } }
    almLevel 1 (showFuses h3))

/-- R563: INC from the latest counter record, or from the random number generator where none is programmed. -/
def loadInc (m : Mach) : Mach :=
  if (counterLatest m).isSome then m.onHw (fun h => h.fset F.SL_STKSTAT_INC 0 (counters m).1)
  else m.onHw (fun h => h.takeFree.2.fset F.SL_STKSTAT_INC 0 h.takeFree.1)

/-- R559, R563: the slot booted is not the preferred one: PREF follows and IMGFALLBACK is raised. -/
def noteFallback (slot : Nat) (m : Mach) : Mach :=
  (bcbWrite { bcbBase m with pref := slot } m).onHw (fun h => (h.fset F.ID_BOOTSTAT_FALLBACK 0 1).raise
    { code := 0x0001, dom := domDevice, dinst := 0, addr := slot })

/-- R561 step 5: the registers of the running image and the digests that attestation reports. -/
def showImage (slot : Nat) (m : Mach) : Mach :=
  let meas := [fwDigest m slot, imgLE m slot 0x1C 4, fwSvn m slot + cfgSvn m slot * 65536, cfgDigest m slot, hwDigest m.hw]
  m.onHw (fun h =>
    let h1 := ((h.fset F.ID_FWVER_VAL 0 (imgLE m slot 0x1C 4)).fset F.ID_SVN_FWSVN 0 (fwSvn m slot)).fset
      F.ID_SVN_CFGSVN 0 (cfgSvn m slot)
    { showFuses h1 with ld := { h1.ld with meas := meas } })

/-- R561 steps 5 to 9 on a chosen slot. -/
def bootSlot (pops : List ChPop) (slot ms : Nat) (trial fb : Bool) (m : Mach) : Mach :=
  let m1 := showImage slot (loadInc (if fb then noteFallback slot m else m))
  let m2 := match cfgPart m1 slot with
    | some c => applyCfg c slot m1
    | none => m1
  let m3 := m2.onHw (fun h =>
    let h1 := (List.range 72).foldl (fun h n => restoreRate n h) (takeRoles (sampleLayout h))
    coreRates (localRoutes (stackReset h1.wt.slot (domeStart pops h1))))
  let old := counters m3
  let m4 := counterAppend (m3.hw.fget F.SL_STKSTAT_INC 0) ((old.2.1 + 1) % 2 ^ 32) ((old.2.2 + b2n fb) % 2 ^ 16) m3
  m4.onHw (fun h =>
    let h1 := boundAll (auditRun h)
    let h2 := ((h1.fset F.SW_CTRL_HALT 0 0).fset F.CK_PWRSTAT_STATE 0 3).fset F.ID_BOOTSTAT_PHASE 0 4
    let h3 := ((h2.fset F.ID_BOOTSTAT_ACTSLOT 0 slot).fset F.ID_BOOTSTAT_TRIAL 0 (b2n trial)).fset F.ID_BOOTSTAT_STARTMS 0
      (min ms 0xFFFF)
    h3)

/-- R561: start-up with MCAUSE `cause`. -/
def startUp (pops : List ChPop) (readA readB : Bool) (ms cause : Nat) (m : Mach) : Mach :=
  let m0 : Mach := { m with mem := { m.mem with sp := [], spBad := [] } }
  let m1 := showPlog (m0.onHw (fun h => { h.fset F.CK_RSTSTAT_MCAUSE 0 cause with ck := { h.ck with boot := none } }))
  match bcbRead m1 with
  | none => enterHold 2 m1
  | some b =>
    if counterBroken m1 then enterHold 3 (m1.onHw (showSlots b))
    else
      let c := chooseSlot cause readA readB b m1
      match c.slot with
      | none => enterHold 1 (c.mach.onHw (showSlots c.bcb))
      | some slot =>
        let same := decide (c.bcb.stateA = b.stateA ∧ c.bcb.stateB = b.stateB) && (bcbCopy m1).isSome
        let m2 := (if same then c.mach else bcbWrite c.bcb c.mach).onHw (showSlots c.bcb)
        bootSlot pops slot ms (c.bcb.state slot == 3) (slot != b.pref) m2

/-- START_UP (R561, R562): the start-up that was asked for runs, while PFW is 0. -/
def execStartUp (pops : List ChPop) (readA readB : Bool) (ms : Nat) (s : State) : Out :=
  onMach (fun m =>
    match m.hw.ck.boot with
    | some cause => if m.hw.flag F.BC_STAT_PFW 0 then m else startUp pops readA readB ms cause m
    | none => m) s

/-! ### Confirmation (R556, R560) -/

/-- R556: one KEYPROV action: BURN sets the fuses of a hash, REVOKE a bit of CKREV. -/
def keyAction (slot : Nat) (m : Mach) (off : Nat) : Mach :=
  let k := imgLE m slot (off + 1) 1
  let hash := beNat (imgBytes m slot (off + 8) 32)
  m.onHw (fun h =>
    let o := h.otp
    if imgLE m slot off 1 = 1 then
      { h with otp := { o with ckHash := Store.setD 0 o.ckHash k (Nat.lor (Store.getD 0 o.ckHash k) hash) } }
    else { h with otp := { o with ckRev := Nat.lor o.ckRev (2 ^ (k - 1)) } })

/-- SLOT_CONFIRMATION (R560): KEYPROV, the fuses, and the slot's state VALID, while PFW is 0. -/
def execSlotConfirmation (s : State) : Out :=
  onMach (fun m =>
    let h := m.hw
    if h.fget F.CK_PWRSTAT_STATE 0 = 3 ∧ h.flag F.ID_BOOTSTAT_TRIAL 0 ∧ !h.flag F.BC_STAT_PFW 0 then
      let slot := h.fget F.ID_BOOTSTAT_ACTSLOT 0
      let flags := imgLE m slot 0x24 1
      let m1 := ((cfgPart m slot).map (fun c => c.keys.foldl (keyAction slot) m)).getD m
      let m2 := m1.onHw (fun h =>
        let o := h.otp
        let o1 : Otp := { o with fwFuse := if bitAt flags 0 then burnTo o.fwFuse (fwSvn m slot) else o.fwFuse }
        let o2 : Otp := { o1 with cfgFuse := if bitAt flags 1 then burnTo o.cfgFuse (cfgSvn m slot) else o.cfgFuse }
        showFuses ({ h with otp := o2 }.fset F.ID_BOOTSTAT_TRIAL 0 0))
      setSlotState slot 1 m2
    else m) s

/-! ### The load engine (R569 to R572) -/

/-- RESULT of ID_LDSTAT (R579). -/
def ldResult (r : Nat) (h : Hw) : Hw := h.fset F.ID_LDSTAT_RESULT 0 r

/-- R602: the regions that open the load buffer to the window port and the barrier channel. DESIGN CHOICE: region 7 of each on
bank B0, granules 0x100 to 0x1FF. -/
def loadRegions (opened : Bool) (h : Hw) : Hw :=
  [31, 39].foldl (fun h i =>
    (((h.fset F.SP_RGN_BASE i (if opened then 0x100 else 0)).fset F.SP_RGN_LIMIT i (if opened then 0x1FF else 0)).fset
      F.SP_RGN_R i (b2n opened)).fset F.SP_RGN_W i (b2n opened)) h

/-- The session of the load registers (R569). -/
def setSession (x : Option Nat) (h : Hw) : Hw := { h with ld := { h.ld with session := x } }

/-- R570: whether BEGIN may name a slot: in HOLD either one; else not the running slot, and none while that is in TRIAL. -/
def beginOk (slot : Nat) (h : Hw) : Bool :=
  h.inHold || (h.fget F.ID_BOOTSTAT_ACTSLOT 0 != slot && !h.flag F.ID_BOOTSTAT_TRIAL 0)

/-- R570: the cases that end with BAD_STATE. -/
def ldBadState (op slot : Nat) (h : Hw) : Bool :=
  let opn := h.ld.session.isSome || h.ld.fw.isSome
  match op with
  | 1 => opn || !beginOk slot h
  | 2 | 3 | 4 => h.ld.session != some slot
  | 5 | 7 => opn
  | 6 => !(h.inHold && h.fget F.ID_BOOTSTAT_HOLDWHY 0 == 3)
  | _ => false

/-- R577: the offset and length outside their ranges, for the commands that use them. -/
def ldBadField (op : Nat) (h : Hw) : Bool :=
  let off := h.fget F.ID_LDOFF_VAL 0
  let len := h.fget F.ID_LDLEN_VAL 0
  let lenOk := decide (256 ≤ len ∧ len ≤ 1048576 ∧ len % 256 = 0)
  if 8 ≤ op then true
  else if op = 2 then !(lenOk && off % 256 == 0 && decide (off + len ≤ 0x1800000))
  else if op = 7 then !lenOk
  else false

/-- R571: whether a command erases or programs the flash. -/
def ldFlash (op : Nat) : Bool := op == 1 || op == 2 || op == 3 || op == 4 || op == 6

/-- The words of the scratchpad from an offset as Turret reads them (R593), as bytes. -/
def spFetch (off words : Nat) (m : Mach) : List Byte × Mach :=
  (List.range words).foldl (fun (x : List Byte × Mach) i =>
    let r := spWord ⟨0, 0x6000, off + 8 * i, .read, 8, 0, 0⟩ .good x.2
    (x.1 ++ toLE r.1.2 8, r.2)) ([], m)

/-- The erase or program of a command starts: BEGIN's slot becomes LOADING (R569, R571). -/
def ldBegun (op slot : Nat) (m : Mach) : Mach := if op = 1 then setSlotState slot 5 m else m

/-- R569 to R572: a command that is neither rejected nor denied starts; it waits while PFW is 1 if it writes the flash. -/
def ldStart (op slot : Nat) (m : Mach) : Mach :=
  let off := m.hw.fget F.ID_LDOFF_VAL 0
  let len := m.hw.fget F.ID_LDLEN_VAL 0
  let m1 := m.onHw (ldResult 0)
  match op with
  | 0 => m1
  | 5 =>
    if m.hw.fget F.ID_SLOTSTAT_STATEA 0 = 2 ∨ m.hw.fget F.ID_SLOTSTAT_STATEB 0 = 2 then m1.onHw (askModule 4) else m1
  | _ =>
    let b := if op = 2 then spFetch 0x100000 (len / 8) m1 else ([], m1)
    let m2 := b.2.onHw (fun h =>
      let h1 := { h with ld := { h.ld with run := some (op, slot, off, len), buf := b.1 } }.fset F.ID_LDSTAT_BUSY 0 1
      if op = 1 then loadRegions true (setSession (some slot) h1) else h1)
    if ldFlash op ∧ m2.hw.flag F.BC_STAT_PFW 0 then m2.onHw (fun h => h.fset F.ID_LDSTAT_PFWWAIT 0 1)
    else ldBegun op slot m2

/-- GO of ID_LDCMD (R569, R570). -/
def ldGo (p : Path) (op slot : Nat) (m : Mach) : Mach :=
  if p = .debug then m.onHw (ldResult 3)
  else if m.hw.flag F.ID_LDSTAT_BUSY 0 then m.onHw (ldResult 2)
  else
    let m1 := m.onHw (fun h => (h.fset F.ID_LDCMD_OP 0 op).fset F.ID_LDCMD_SLOT 0 slot)
    if ldBadField op m1.hw then m1.onHw (ldResult 1)
    else if ldBadState op slot m1.hw then m1.onHw (ldResult 4)
    else ldStart op slot m1

/-- ID_LDCMD_NOP (R569). -/
def execIdLdcmdNop (p : Path) (slot : Bool) (s : State) : Out := onMach (ldGo p 0 (b2n slot)) s
/-- BEGIN (R569). -/
def execLoadBegin (p : Path) (slot : Bool) (s : State) : Out := onMach (ldGo p 1 (b2n slot)) s
/-- WRITE (R569, R572). -/
def execLoadWrite (p : Path) (slot : Bool) (s : State) : Out := onMach (ldGo p 2 (b2n slot)) s
/-- COMMIT (R569). -/
def execLoadCommit (p : Path) (slot : Bool) (s : State) : Out := onMach (ldGo p 3 (b2n slot)) s
/-- ABORT (R569). -/
def execLoadAbort (p : Path) (slot : Bool) (s : State) : Out := onMach (ldGo p 4 (b2n slot)) s
/-- ACTIVATE (R568, R569). -/
def execLoadActivate (p : Path) (slot : Bool) (s : State) : Out := onMach (ldGo p 5 (b2n slot)) s
/-- PERSISTCLR (R568, R569). -/
def execLoadPersistclr (p : Path) (slot : Bool) (s : State) : Out := onMach (ldGo p 6 (b2n slot)) s
/-- PLOGREAD (R569). -/
def execLoadPlogread (p : Path) (slot : Bool) (s : State) : Out := onMach (ldGo p 7 (b2n slot)) s

/-- LOAD_PFW_WAIT_END (R571): PFW has fallen, and the waiting erase or program starts. -/
def execLoadPfwWaitEnd (s : State) : Out :=
  onMach (fun m =>
    match m.hw.ld.run with
    | some (op, slot, _, _) =>
      if m.hw.flag F.ID_LDSTAT_PFWWAIT 0 ∧ !m.hw.flag F.BC_STAT_PFW 0 then
        ldBegun op slot (m.onHw (fun h => h.fset F.ID_LDSTAT_PFWWAIT 0 0))
      else m
    | none => m) s

/-- A free number of bytes up to `n`: how far an erase or program came that the flash did not complete. -/
def freeLen (n : Nat) (m : Mach) : Nat × Mach :=
  let f := m.hw.takeFree
  (f.1 % (n + 1), { m with hw := f.2 })

/-- R579: FLASH_ERROR: the slot is left in LOADING. -/
def flashError (m : Mach) : Mach := m.onHw (ldResult 6)

/-- R569, R571: a slot that verifies becomes PENDING and preferred; in HOLD the module reset of R568 follows. -/
def commitSlot (slot : Nat) (m : Mach) : Mach :=
  let m1 := (bcbWrite { (bcbBase m).setState slot 2 with pref := slot } m).onHw (showSlot slot 2)
  if m1.hw.inHold then m1.onHw (askModule 4) else m1

/-- COMMIT ends (R569). -/
def commitEnd (slot : Nat) (ok readOk : Bool) (m : Mach) : Mach :=
  let why := verifySlot m slot readOk
  let m1 := m.onHw (fun h => showWhy slot why (loadRegions false h))
  if ok = false then flashError m1
  else if why = 0 then commitSlot slot (m1.onHw (setSession none))
  else (setSlotState slot 4 m1).onHw (ldResult 5)

/-- The persistent log entries of a PLOGREAD go to the buffer (R569). -/
def copyPlog (first n : Nat) (m : Mach) : Mach :=
  let es := ((plogAll m).drop first).take n
  iterN (fun i (x : Mach) => match es[i]? with
    | some a => spStore (0x100000 + 64 * i) (flashLE m a 64) 64 x
    | none => x) 0 es.length m

/-- The end of a load command's work (R569, R571, R579). -/
def ldFinish (op slot off len : Nat) (ok readOk : Bool) (m : Mach) : Mach :=
  match op with
  | 1 =>
    if ok then flashErase m (slotBase slot) 0x1800000
    else let f := freeLen 0x1800000 m; flashError (flashErase f.2 (slotBase slot) f.1)
  | 2 =>
    if ok then flashPut m (slotBase slot + off) m.hw.ld.buf
    else let f := freeLen len m; flashError (flashPut f.2 (slotBase slot + off) (m.hw.ld.buf.take f.1))
  | 3 => commitEnd slot ok readOk m
  | 4 =>
    let m1 := m.onHw (fun h => setSession none (loadRegions false h))
    if ok then setSlotState slot 0 m1 else flashError m1
  | 6 =>
    if ok then (flashErase m 0x3800000 0x20000).onHw (askModule 4)
    else let f := freeLen 0x20000 m; flashError (flashErase f.2 0x3800000 f.1)
  | 7 => copyPlog off (len / 64) m
  | _ => m

/-- LOAD_COMMAND_END (R569): BUSY clears. `ok`: the flash completed its erases and programs; `readOk`: no flash read of the slot
failed. -/
def execLoadCommandEnd (ok readOk : Bool) (s : State) : Out :=
  onMach (fun m =>
    match m.hw.ld.run with
    | some (op, slot, off, len) =>
      if m.hw.flag F.ID_LDSTAT_PFWWAIT 0 then m
      else (ldFinish op slot off len ok readOk m).onHw (fun h =>
        { h with ld := { h.ld with run := none, buf := [] } }.fset F.ID_LDSTAT_BUSY 0 0)
    | none => m) s

/-! ### CXL Firmware Update (R573) -/

/-- Whether Turret's firmware or its ROM loader answers: ACTIVE or HOLD. -/
def turretUp (h : Hw) : Bool := decide (4 ≤ h.fget F.ID_BOOTSTAT_PHASE 0)

/-- R567, R573: whether a CCI takes firmware update commands now: MCTP always, a switch mailbox in ACTIVE. -/
def fwPath (p : Path) (h : Hw) : Bool :=
  turretUp h && (match p with
    | .cciMctp => true
    | .cciMbox _ => h.fget F.CK_PWRSTAT_STATE 0 == 3
    | _ => false)

/-- The FWVER that Get FW Info shows for a slot: of a slot that can boot. -/
def fwRevision (slot : Nat) (m : Mach) : Nat :=
  let st := m.hw.fget (if slot = 0 then F.ID_SLOTSTAT_STATEA else F.ID_SLOTSTAT_STATEB) 0
  if 1 ≤ st ∧ st ≤ 3 then imgLE m slot 0x1C 4 else 0

/-- GET_FW_INFO (R573): slots supported, the active slot (0: none), the slot staged for activation (0: none), the revisions. -/
def execGetFwInfo (p : Path) (s : State) : Out :=
  onMach (fun m =>
    let h := m.hw
    if fwPath p h then
      let act := if h.inHold then 0 else h.fget F.ID_BOOTSTAT_ACTSLOT 0 + 1
      let stg := if h.fget F.ID_SLOTSTAT_STATEA 0 = 2 then 1 else if h.fget F.ID_SLOTSTAT_STATEB 0 = 2 then 2 else 0
      m.onHw (fun h => h.emit (.cciRsp p 0 [2, act, stg, fwRevision 0 m, fwRevision 1 m]))
    else m) s

/-- Whether two ranges of bytes overlap. -/
def overlaps (a n : Nat) (x : Nat × Nat) : Bool := decide (a < x.1 + x.2 ∧ x.1 < a + n)

/-- The Transfer FW sequence replaced. -/
def setFw (x : Option FwXfer) (m : Mach) : Mach := m.onHw (fun h => { h with ld := { h.ld with fw := x } })

/-- R573: a page of the slot is programmed, once its bytes are there, with 0xFF for the ones that are not. -/
def programPage (slot : Nat) (x : Mach × SMap Byte) (page : Nat) : Mach × SMap Byte :=
  let bs := (List.range 256).map (fun i => Store.getD 0xFF x.2 (256 * page + i))
  (flashPut x.1 (slotBase slot + 256 * page) bs, Store.dropWhere x.2 (fun k => k / 256 == page))

/-- R573: a part is staged, and every page that is complete is programmed. -/
def stagePart (fw : FwXfer) (start : Nat) (data : List Byte) (m : Mach) : Mach :=
  let part := writeMap fw.part start data
  let pages := (List.range ((start + data.length + 255) / 256 - start / 256)).map (start / 256 + ·)
  let full := pages.filter (fun g => (List.range 256).all (fun i => (Store.get? part (256 * g + i)).isSome))
  let r := full.foldl (programPage fw.slot) (m, part)
  setFw (some { fw with got := if data.isEmpty then fw.got else fw.got ++ [(start, data.length)], part := r.2 }) r.1
where
  /-- Bytes entered into the staged ones. -/
  writeMap (p : SMap Byte) (a : Nat) : List Byte → SMap Byte
    | [] => p
    | b :: r => writeMap (Store.put p a b) (a + 1) r

/-- R573: the End part: an incomplete last page is completed with 0xFF and programmed, and COMMIT follows. Answers the CXL return
code. -/
def endTransfer (readOk : Bool) (m : Mach) : Nat × Mach :=
  match m.hw.ld.fw with
  | none => (9, m)
  | some fw =>
    let last := (fw.got.foldl (fun a x => max a (x.1 + x.2)) 0 - 1) / 256
    let m1 := if fw.part.any (fun x => x.1 / 256 == last) then (programPage fw.slot (m, fw.part) last).1 else m
    let why := verifySlot m1 fw.slot readOk
    let m2 := setFw none (m1.onHw (showWhy fw.slot why))
    if why = 0 then (0, commitSlot fw.slot m2) else (10, setSlotState fw.slot 4 m2)

/-- R573: a part of the open sequence: out of the slot or overlapping, Invalid Input; else it is staged. -/
def takePart (offset : Nat) (data : List Byte) (m : Mach) : Nat × Mach :=
  match m.hw.ld.fw with
  | none => (9, m)
  | some fw =>
    let start := 128 * offset
    if 0x1800000 < start + data.length ∨ fw.got.any (overlaps start data.length) then (2, m)
    else (0, stagePart fw start data m)

/-- R573: the first part: BEGIN on the slot, then the part. -/
def beginTransfer (slot offset : Nat) (data : List Byte) (m : Mach) : Nat × Mach :=
  if m.hw.ld.fw.isSome then (8, m)
  else if slot ≠ 1 ∧ slot ≠ 2 then (11, m)
  else if beginOk (slot - 1) m.hw = false then (11, m)
  else if 0x1800000 < 128 * offset + data.length then (2, m)
  else
    let m1 := setSlotState (slot - 1) 5 m
    takePart offset data (setFw (some ⟨slot - 1, [], []⟩) (flashErase m1 (slotBase (slot - 1)) 0x1800000))

/-- R573: Transfer FW by action: 0 full, 1 initiate, 2 continue, 3 end, 4 abort. Answers the CXL return code. -/
def transferFw (action slot offset : Nat) (data : List Byte) (readOk : Bool) (m : Mach) : Nat × Mach :=
  let next := fun (r : Nat × Mach) => if r.1 = 0 then endTransfer readOk r.2 else r
  if m.hw.ld.session.isSome ∨ m.hw.ld.run.isSome ∨ m.hw.flag F.BC_STAT_PFW 0 then (6, m)
  else
    match action with
    | 0 => next (beginTransfer slot offset data m)
    | 1 => beginTransfer slot offset data m
    | 2 => takePart offset data m
    | 3 => next (takePart offset data m)
    | 4 =>
      match m.hw.ld.fw with
      | none => (9, m)
      | some fw => (0, setSlotState fw.slot 0 (setFw none m))
    | _ => (2, m)

/-- TRANSFER_FW (R573). -/
def execTransferFw (p : Path) (action slot offset : Nat) (data : List Byte) (readOk : Bool) (s : State) : Out :=
  onMach (fun m =>
    if fwPath p m.hw then
      let r := transferFw action slot offset data readOk m
      r.2.onHw (fun h => h.emit (.cciRsp p r.1 []))
    else m) s

/-- ACTIVATE_FW (R573): only at the next cold reset, and nothing beyond what COMMIT has marked. -/
def execActivateFw (p : Path) (online : Bool) (slot : Nat) (s : State) : Out :=
  onHw (fun h =>
    if fwPath p h then
      h.emit (.cciRsp p (if online then 3 else if slot ≠ 1 ∧ slot ≠ 2 then 11 else 0) [])
    else h) s

/-! ### SPDM (R574 to R576) -/

/-- R574, R576: whether an endpoint answers: 0 MCTP; 1 + p the DOE mailbox of HOST port p, not in HOLD. -/
def spdmUp (ep : Nat) (h : Hw) : Bool :=
  turretUp h && (ep == 0 || (!h.inHold && decide (ep ≤ 72) && h.role (ep - 1) == 1))

/-- The answer of an endpoint. -/
def spdmSend (ep code : Nat) (body : List Nat) (m : Mach) : Mach := m.onHw (fun h => h.emit (.spdm ep code body))

/-- ERROR with its code and data. PRESUMED: DSP0274. -/
def spdmError (ep code data : Nat) (m : Mach) : Mach := spdmSend ep 0x7F [code, data] m

/-- The certificate chain of a copy in the flash: its length stands in its first two bytes. PRESUMED: DSP0274. -/
def chainAt (m : Mach) (copy : Nat) : List Byte :=
  let a := 0x10000 + 0x8000 * copy
  flashBytes m a (min (flashLE m a 2) 0x8000)

/-- R575: the chain served: copy 0, or copy 1 where copy 0 fails, which is rewritten while PFW is 0. -/
def serveChain (m : Mach) : List Byte × Mach :=
  if Config.chainOk (chainAt m 0) then (chainAt m 0, m)
  else if m.hw.flag F.BC_STAT_PFW 0 then (chainAt m 1, m)
  else (chainAt m 1, flashPut (flashErase m 0x10000 0x8000) 0x10000 (flashBytes m 0x18000 0x8000))

/-- R575: a signature with IDKEY over the digest of the transcript, a free value, under a nonce of the key unit. -/
def spdmSign (h : Hw) : Nat × Hw :=
  let t := h.takeFree
  let k := t.2.takeFree
  (Config.sm2Sign (t.1 % 2 ^ 256) (k.1 % 2 ^ 256), k.2)

/-- A fresh nonce of 32 bytes and a signature. -/
def signedTail (m : Mach) : List Nat × Mach :=
  let n := m.hw.takeFree
  let g := spdmSign n.2
  ([n.1 % 2 ^ 256, g.1], { m with hw := g.2 })

/-- SPDM_GET_CERTIFICATE (R575): a portion of slot 0's chain with the length that remains. -/
def execSpdmGetCertificate (ep slot off len : Nat) (s : State) : Out :=
  onMach (fun m =>
    if spdmUp ep m.hw = false then m
    else if slot ≠ 0 then spdmError ep 1 0 m
    else
      let r := serveChain m
      if r.1.length ≤ off then spdmError ep 1 0 r.2
      else
        let part := (r.1.drop off).take len
        spdmSend ep 0x02 ([part.length, r.1.length - off - part.length] ++ part.map (fun b => b.toNat)) r.2) s

/-- SPDM_CHALLENGE (R575): the chain's digest, a fresh nonce and the signature. -/
def execSpdmChallenge (ep slot _nonce : Nat) (s : State) : Out :=
  onMach (fun m =>
    if spdmUp ep m.hw = false then m
    else if slot ≠ 0 then spdmError ep 1 0 m
    else
      let r := serveChain m
      let t := signedTail r.2
      spdmSend ep 0x03 (Config.sm3 r.1 :: t.1) t.2) s

/-- R576: the value of measurement index 7 now. -/
def debugMeas (h : Hw) : Nat :=
  h.fget F.ID_BOOTSTAT_PHASE 0 + 8 * h.fget F.ID_BOOTSTAT_ACTSLOT 0 + 16 * h.fget F.ID_BOOTSTAT_TRIAL 0 +
    32 * h.fget F.ID_BOOTSTAT_FALLBACK 0 + 256 * h.fget F.ID_BOOTSTAT_HOLDWHY 0 +
    65536 * h.fget F.DT_DBGSTAT_LEVEL 0 + 2 ^ 24 * h.fget F.DT_DBGSTAT_KEYCLASS 0

/-- R576: the measurement blocks present, as (index, DMTFSpecMeasurementValueType, value). -/
def measBlocks (h : Hw) : List (Nat × Nat × Nat) :=
  let v := fun (i : Nat) => h.ld.meas.getD i 0
  let run := [(2, 0x01, v 0), (3, 0x86, v 1), (4, 0x87, v 2), (5, 0x03, v 3)]
  [(1, 0x00, Config.romDigest)] ++ (if h.inHold then [] else run) ++ [(6, 0x02, v 4), (7, 0x85, debugMeas h)]

/-- SPDM_GET_MEASUREMENTS (R576): index 0 asks for the number of blocks, 0xFF for every block. -/
def execSpdmGetMeasurements (ep index _nonce : Nat) (sign : Bool) (s : State) : Out :=
  onMach (fun m =>
    if spdmUp ep m.hw = false then m
    else
      let bs := measBlocks m.hw
      let sel := if index = 0xFF then bs else bs.filter (fun b => b.1 == index)
      if sel.isEmpty ∧ index ≠ 0 then spdmError ep 1 0 m
      else
        let body := if index = 0 then [bs.length] else sel.flatMap (fun b => [b.1, b.2.1, b.2.2])
        if sign then let t := signedTail m; spdmSend ep 0x60 (body ++ t.1) t.2 else spdmSend ep 0x60 body m) s

/-- SPDM_KEY_EXCHANGE (R574, R576): a secured session of the endpoint opens, at most four; in HOLD KEY_EX is not offered. -/
def execSpdmKeyExchange (ep slot _exchange : Nat) (s : State) : Out :=
  onMach (fun m =>
    let n := Store.getD 0 m.hw.ld.sessions ep
    if spdmUp ep m.hw = false then m
    else if m.hw.inHold then spdmError ep 7 0xE4 m
    else if slot ≠ 0 then spdmError ep 1 0 m
    else if 4 ≤ n then spdmError ep 10 0 m
    else
      let m1 := m.onHw (fun h => { h with ld := { h.ld with sessions := Store.setD 0 h.ld.sessions ep (n + 1) } })
      let t := signedTail m1
      spdmSend ep 0x64 t.1 t.2) s

/-- SPDM_UNSUPPORTED_REQUEST (R574). -/
def execSpdmUnsupportedRequest (ep request : Nat) (s : State) : Out :=
  onMach (fun m => if spdmUp ep m.hw then spdmError ep 7 request m else m) s

end Sys2Proof.Machine
end

