-- ==== Sys2Proof/Machine/Debug.lean ====
section
/-! DEFINITION. Debug and test: the TAP's instructions (R640, R641), unlock (R644 to R648), the test multiplexer (R649), the
directory read path (R650) and the self-test (R651). -/
namespace Sys2Proof.Machine

/-- The word that the fields of instance `i` of a register hold. -/
def regWord (r : Reg) (i : Nat) (h : Hw) : Nat := (r.flds.map (fun f => h.fget f i * 2 ^ f.lo)).sum

/-! ### TAP instructions -/

/-- The TAP holds an instruction (R640). -/
def setIr (v : Nat) (h : Hw) : Hw := { h with dt := { h.dt with ir := v } }

/-- The TAP acts as BYPASS and sets IRERR (R640). -/
def tapError (v : Nat) (h : Hw) : Hw := ((setIr v h).fset F.DT_DBGSTAT_IRERR 0 1).emit (.tdo 1 0)

/-- The unlock level in effect (R644). -/
def Hw.level (h : Hw) : Nat := h.fget F.DT_DBGSTAT_LEVEL 0

/-- MAXLVL in effect: 2 in HOLD (R644). -/
def Hw.maxLevel (h : Hw) : Nat := if h.inHold then 2 else h.fget F.DT_CFG_MAXLVL 0

/-- TEST_LOGIC_RESET (R640): IDCODE is selected. -/
def execTestLogicReset (s : State) : Out := onHw (setIr 0x02) s

/-- EXTEST (R640, R641): the boundary register drives the pins in HOLD at level 2. -/
def execExtest (data : Nat) (s : State) : Out :=
  onHw (fun h =>
    if h.inHold ∧ h.level = 2 then
      { setIr 0 h with dt := { (setIr 0 h).dt with bsr := data } }.emit (.boundary data)
    else tapError 0 h) s

/-- SAMPLE_PRELOAD (R641): a sample captures the pins, a free value; a preload loads the boundary register. The shift out is of the
boundary register, whose length the BSDL file gives. -/
def execSamplePreload (sample : Bool) (data : Nat) (s : State) : Out :=
  onHw (fun h =>
    let h1 := setIr 1 h
    if sample then
      let f := h1.takeFree
      { f.2 with dt := { f.2.dt with bsr := f.1 } }.emit (.tdo 0 f.1)
    else { h1 with dt := { h1.dt with bsr := data } }) s

/-- IDCODE (R640, R652). -/
def execIdcode (s : State) : Out := onHw (fun h => (setIr 0x02 h).emit (.tdo 32 (h.fget F.DT_IDCODE_VAL 0))) s

/-- TAP_STATUS (R640). -/
def execTapStatus (s : State) : Out := onHw (fun h => (setIr 0x11 h).emit (.tdo 32 (regWord R.DT_DBGSTAT 0 h))) s

/-- BYPASS (R640): BYPASS, or a reserved instruction with IRERR. -/
def execBypass (instr : Nat) (s : State) : Out :=
  onHw (fun h =>
    if instr % 256 = 0xFF then (setIr 0xFF h).emit (.tdo 1 0)
    else if [0x00, 0x01, 0x02, 0x10, 0x11, 0x12, 0x13].contains (instr % 256) then h
    else tapError (instr % 256) h) s

/-! ### Test multiplexer -/

/-- R649: the level that a selection needs and the number of its instances (none: it has none); none where SIG is reserved. -/
def tmuxSig (sig : Nat) : Option (Nat × Option Nat) :=
  if sig ≤ 6 then some (1, none)
  else (([(7, 1, 72), (8, 1, 4), (9, 1, 1536), (10, 1, 17), (11, 1, 8), (12, 2, 8192)] : List (Nat × Nat × Nat)).find?
    (fun x => x.1 == sig)).map (fun x => (x.2.1, some x.2.2)) |>.orElse (fun _ => if sig = 13 then some (2, none) else none)

/-- The instance that a selection names: for SIG 0x0C the TID, with its upper bits in INSTHI (R653). -/
def Hw.tmuxInst (h : Hw) (n : Nat) : Nat := h.fget F.DT_TMUXSEL_INSTHI n * 2 ^ 11 + h.fget F.DT_TMUXSEL_INST n

/-- TMUXn is judged by the level in effect, and shows its selection or is held low with SELERR (R649). -/
def tmuxJudge (n : Nat) (h : Hw) : Hw :=
  let sig := h.fget F.DT_TMUXSEL_SIG n
  let inst := h.tmuxInst n
  let good := match tmuxSig sig with
    | some (lv, some k) => decide (lv ≤ h.level ∧ inst < k)
    | some (lv, none) => decide (lv ≤ h.level)
    | none => false
  (h.fset F.DT_TMUXSEL_SELERR n (b2n !good)).emit (.tmux n sig inst !good)

/-- A write of DT_TMUXSELn (R649). -/
def tmuxWrite (n w : Nat) (h : Hw) : Hw := tmuxJudge n (writeReg R.DT_TMUXSEL n w h)

/-- DESIGN CHOICE: a change of level judges again every selection but SIG 0 (R649 says neither when a selection is judged nor that a
level once passed keeps it). -/
def tmuxRejudge (h : Hw) : Hw :=
  ((List.range 8).filter (fun n => h.fget F.DT_TMUXSEL_SIG n != 0)).foldl (fun h n => tmuxJudge n h) h

/-- R649: whether the signal that TMUXn shows is high; none for a clock, the stack time, the running alarm pulse and the denial
pulse, which follow time. -/
def Hw.tmuxShow (h : Hw) (n : Nat) : Option Bool :=
  let i := h.tmuxInst n
  if h.flag F.DT_TMUXSEL_SELERR n then some false
  else match h.fget F.DT_TMUXSEL_SIG n with
    | 0 => some false
    | 5 => some (h.flag F.BC_STAT_PFW 0)
    | 6 => some (h.flag F.SW_CTRL_HALT 0)
    | 7 => some (h.flag F.FP_LSTAT_UP i)
    | 8 => some (h.slUp i)
    | 9 => some (h.eq i).spilling
    | 10 => some (h.hd.retry.any (fun x => h.servedBy x.1 == i && !x.2.isEmpty))
    | 11 => some (h.flag F.DM_ENGSTAT_BUSY i)
    | 12 => some (decide (3 ≤ ttState (h.ent i) ∧ ttState (h.ent i) ≤ 5))
    | _ => none

/-! ### Unlock -/

/-- A running verification ends without effect (R647). -/
def dropVerify (h : Hw) : Hw := { h with dt := { h.dt with verify := none } }.fset F.DT_DBGSTAT_VERIFY 0 0

/-- CHALLENGE (R645, R647): a fresh nonce with the serial number; all zeros during a lockout. -/
def execChallenge (s : State) : Out :=
  onHw (fun h =>
    let h1 := setIr 0x12 h
    if h1.flag F.DT_DBGSTAT_LOCKOUT 0 then h1.emit (.tdo 320 0)
    else
      let f := h1.takeFree
      let n := f.1 % 2 ^ 256
      let h2 := dropVerify f.2
      let serial := h2.fget F.ID_SERIAL_HI_VAL 0 * 2 ^ 32 + h2.fget F.ID_SERIAL_LO_VAL 0
      { h2 with dt := { h2.dt with nonce := some (n, h2.ck.recNs) } }.emit (.tdo 320 (serial * 2 ^ 256 + n))) s

/-- 60 s, the life of a nonce and of a failure's count (R646, R647). -/
def unlockWindow : Nat := 60000000000

/-- RESPONSE (R645 to R647): verification starts, and the nonce is used up; ignored during a lockout. -/
def execResponse (bits : Nat) (s : State) : Out :=
  onHw (fun h =>
    let h1 := setIr 0x13 h
    if h1.flag F.DT_DBGSTAT_LOCKOUT 0 then h1
    else
      let n := (h1.dt.nonce.filter (fun x => decide (h1.ck.recNs ≤ x.2 + unlockWindow))).map Prod.fst
      let h2 := { h1 with dt := { h1.dt with nonce := none } }
      if h2.flag F.DT_DBGSTAT_VERIFY 0 then h2
      else { h2 with dt := { h2.dt with verify := some ⟨n, bits % 2 ^ 1032⟩ } }.fset F.DT_DBGSTAT_VERIFY 0 1) s

/-- R645: the 42 bytes that the prober signs. DESIGN CHOICE: the nonce lowest byte first. -/
def unlockMsg (h : Hw) (nonce level keysel : Nat) : List Byte :=
  toLE nonce 32 ++ toLE (h.fget F.ID_SERIAL_HI_VAL 0 * 2 ^ 32 + h.fget F.ID_SERIAL_LO_VAL 0) 8 ++ toLE level 1 ++ toLE keysel 1

/-- R646: whether a verification passes. -/
def unlockPasses (h : Hw) (v : DtVerify) : Bool :=
  let level := bits v.bits 0 2
  let k := bits v.bits 2 3
  let key := bits v.bits 8 512
  match v.nonce with
  | none => false
  | some n =>
    decide (1 ≤ level ∧ level ≤ 2 ∧ level ≤ h.maxLevel) && decide (k ≤ 4) && (k == 0 || custActive h k) &&
      Config.sm3 (toBE key 64) == keyHash h k &&
      Config.sm2Verify key (Config.sm3 (unlockMsg h n level k)) (bits v.bits 520 512)

/-- UNLOCK_VERIFY_END (R646, R647): the level rises, or the failure counts toward a lockout. -/
def execUnlockVerifyEnd (s : State) : Out :=
  onHw (fun h =>
    match h.dt.verify with
    | none => h
    | some v =>
      let h1 := dropVerify h
      let level := bits v.bits 0 2
      if unlockPasses h1 v then
        tmuxRejudge ((h1.fset F.DT_DBGSTAT_LEVEL 0 level).fset F.DT_DBGSTAT_KEYCLASS 0 (if bits v.bits 2 3 = 0 then 1 else 2))
      else
        let fails := h1.dt.fails.filter (fun t => decide (h1.ck.recNs ≤ t + unlockWindow)) ++ [h1.ck.recNs]
        let h2 := ({ h1 with dt := { h1.dt with fails := fails } }.fadd F.DT_UNLFAIL_VAL 0 1).raise
          { code := 0x0E01, dom := domDevice, dinst := 0, addr := level }
        if 3 ≤ fails.length then h2.fset F.DT_DBGSTAT_LOCKOUT 0 1 else h2) s

/-- UNLOCK_LOCKOUT_END (R647). -/
def execUnlockLockoutEnd (s : State) : Out :=
  onHw (fun h =>
    if h.flag F.DT_DBGSTAT_LOCKOUT 0 then { h with dt := { h.dt with fails := [] } }.fset F.DT_DBGSTAT_LOCKOUT 0 0 else h) s

/-- RELOCK of DT_DBGCMD (R647). -/
def doRelock (h : Hw) : Hw := tmuxRejudge (((dropVerify h).fset F.DT_DBGSTAT_LEVEL 0 0).fset F.DT_DBGSTAT_KEYCLASS 0 0)

/-- RELOCK. -/
def execRelock (s : State) : Out := onHw doRelock s

/-- DT_TMUXSEL_WRITE (R649). -/
def execDtTmuxselWrite (n : Nat) (data : Word) (s : State) : Out :=
  onHw (fun h => if n < 8 then tmuxWrite n data.toNat h else h) s

/-! ### Directory read path -/

/-- A directory entry in the layout of R103. -/
def packDir (la : Nat) (e : DirEnt) : Nat :=
  1 + e.st * 2 + b2n e.pin * 2 ^ 3 + b2n e.fmt * 2 ^ 4 + bits la 18 19 * 2 ^ 5 + e.owner * 2 ^ 24 + e.txn * 2 ^ 27 +
    e.hold * 2 ^ 36

/-- The entry that physical slice, set and way hold (R101, R102). -/
def dirAt (h : Hw) (slice set way : Nat) : Nat :=
  match h.hd.dir.find? (fun (x : Nat × DirEnt) =>
    h.servedBy (sliceOf x.1) == slice && dirSet x.1 == set && x.2.way == way) with
  | some x => packDir x.1 x.2
  | none => 0

/-- A write of DT_DIRSEL (R650). -/
def dirselWrite (w : Nat) (h : Hw) : Hw :=
  let h1 := writeReg R.DT_DIRSEL 0 w h
  let slice := h1.fget F.DT_DIRSEL_SLICE 0
  let show_ := fun (v : Nat) (h : Hw) => (h.fset F.DT_DIRDATA_LO_VAL 0 v).fset F.DT_DIRDATA_HI_VAL 0 (v / 2 ^ 32)
  if h1.level = 2 ∧ slice ≤ 16 then
    if bitAt h1.dt.spoiled 2 then let f := h1.takeFree; show_ (f.1 % 2 ^ 64) f.2
    else show_ (dirAt h1 slice (h1.fget F.DT_DIRSEL_SET 0) (h1.fget F.DT_DIRSEL_WAY 0)) h1
  else (show_ 0 h1).fset F.DT_DBGSTAT_IRERR 0 1

/-- DT_DIRSEL_WRITE (R650). -/
def execDtDirselWrite (data : Word) (s : State) : Out := onHw (dirselWrite data.toNat) s

/-! ### Self-test -/

/-- A table of `n` free values of `w` bits, in the canonical form of a table that lists no zero. -/
def freeTable (n w : Nat) (h : Hw) : SMap Nat × Hw :=
  (((List.range n).map (fun i => (i, Config.freeNat (h.free + i) % 2 ^ w))).filter (fun x => x.2 != 0),
   { h with free := h.free + n })

/-- R651: the contents of the arrays that a run tests are destroyed: the route table and the region descriptors hold free values,
the directory reads as one, and the other arrays of a module in HOLD hold nothing. -/
def spoil (targets : Nat) (h : Hw) : Hw :=
  let h1 := { h with dt := { h.dt with spoiled := Nat.lor h.dt.spoiled targets } }
  let h2 := if bitAt targets 4 then
      let f := freeTable 16384 64 h1
      { f.2 with sw := { f.2.sw with routes := f.1 } }
    else h1
  if bitAt targets 5 then
    let f := freeTable 65536 128 h2
    { f.2 with ag := { f.2.ag with desc := f.1 } }
  else h2

/-- GO of DT_BISTCMD (R651): in HOLD, from Turret or from the debug master at level 1 or above. -/
def bistGo (p : Path) (targets : Nat) (h : Hw) : Hw :=
  let h1 := h.fset F.DT_BISTCMD_TARGET 0 targets
  if h.inHold ∧ (p = .turret ∨ (p = .debug ∧ 1 ≤ h.level)) ∧ !h.flag F.DT_BISTSTAT_BUSY 0 then
    let t := h1.fget F.DT_BISTCMD_TARGET 0
    let h2 := spoil t { h1 with dt := { h1.dt with bist := some t } }
    ((h2.fset F.DT_BISTSTAT_BUSY 0 1).fset F.DT_BISTSTAT_RESULT 0 0).fset F.DT_BISTSTAT_FAILMAP 0 0
  else h1.fset F.DT_BISTSTAT_RESULT 0 2

/-- DT_BISTCMD_GO (R651). -/
def execDtBistcmdGo (p : Path) (targets : Nat) (s : State) : Out := onHw (bistGo p targets) s

/-- BIST_END (R651): `failed` is the map of the targets that failed. -/
def execBistEnd (failed : Nat) (s : State) : Out :=
  onHw (fun h =>
    match h.dt.bist with
    | none => h
    | some t =>
      let bad := Nat.land failed t
      let h1 := { h with dt := { h.dt with bist := none } }.fset F.DT_BISTSTAT_BUSY 0 0
      (h1.fset F.DT_BISTSTAT_RESULT 0 (b2n (bad != 0))).fset F.DT_BISTSTAT_FAILMAP 0 bad) s

end Sys2Proof.Machine
end

