-- ==== Sys2Proof/Machine/Access.lean ====
section
/-! DEFINITION. Management access: what a register reads as, the effect of a write of each register (R13 to R20), the gate of the
clock domains (R488 to R494), the window port (R586 to R592), and the paths that reach them: the barrier's register requests
(R584), the vendor CCI commands (R585) and DBGACC (R642). -/
namespace Sys2Proof.Machine

/-! ### Reading a register -/

/-- The logical slices that a physical slice serves. -/
def slicesOf (h : Hw) (phys : Nat) : List Nat := (List.range 16).filter (fun l => h.servedBy l == phys)

/-- A field of the domain that FC_DSEL selects; 0 for a reserved index (R455, R480). -/
def selField (h : Hw) (f : Dom → Nat) : Nat :=
  match selDom h with
  | some d => f (h.dom d)
  | none => 0

/-- What a field reads as: for the fields that show other state that state, else the value held. -/
def liveField (h : Hw) (f : Fld) (i : Nat) : Nat :=
  if f.id = F.SW_FREE_VAL.id then h.freeCells
  else if f.id = F.SW_QSTAT_ONCHIP.id then cellsOf (h.eq i).head + cellsOf (h.eq i).stage
  else if f.id = F.SW_QSTAT_SPILLING.id then b2n (h.eq i).spilling
  else if f.id = F.SW_QSTAT_DOMENE.id then b2n !(h.eq i).dome.isEmpty
  else if f.id = F.FC_STAT_LOGFULL.id then b2n (decide (1024 ≤ logCount h))
  else if f.id = F.FC_DSTAT_STATE.id then selField h (fun d => d.state)
  else if f.id = F.FC_DSTAT_APPLIED.id then selField h (fun d => d.applied)
  else if f.id = F.FC_DSTAT_FEV.id then selField h (fun d => b2n d.fev)
  else if f.id = F.FC_DSTAT_RCNT.id then selField h (fun d => d.rcnt)
  else if f.id = F.FC_DSTAT_WCNT.id then selField h (fun d => d.wcnt)
  else if f.id = F.CK_LTIME_LO_VAL.id then h.ck.ltime
  else if f.id = F.CK_LTIME_HI_VAL.id then h.ck.ltime / 2 ^ 32
  else if f.id = F.SL_TIME_LO_VAL.id then h.stime
  else if f.id = F.SL_TIME_HI_VAL.id then h.stime / 2 ^ 32
  else if f.id = F.CK_DOMSTAT_STATE.id then (if i = 0 then 0 else domState h i)
  else if f.id = F.CK_DOMSTAT_FREQ.id then domFreq h i
  else if f.id = F.TS_SHCRED_VAL.id then (Int.tdiv (h.cred i) 16000 % 2 ^ 32).toNat
  else if f.id = F.TS_DEFICIT_VAL.id then h.deficit i
  else if f.id = F.BD_TTSTAT_STATE.id then ttState (h.ent (h.fget F.BD_TTCMD_TID 0))
  else if f.id = F.HD_SLSTAT_RQDEPTH.id then ((slicesOf h i).map (fun l => (h.retryQ l).length)).sum
  else if f.id = F.HD_SLSTAT_OPEN.id then (h.hd.txns.filter (fun x => (slicesOf h i).contains (x.1 / 64))).length
  else if f.id = F.DT_CFG_MAXLVL.id then h.maxLevel
  else h.fget f i

/-- R18: what a read of a field returns: WO and W1S fields read 0. -/
def fldRead (h : Hw) (f : Fld) (i : Nat) : Nat :=
  match f.acc with
  | .wo | .w1s => 0
  | _ => liveField h f i % 2 ^ f.width

/-- R16, R18: the word that a register reads as; reserved bits read 0. -/
def readWord (r : Reg) (i : Nat) (h : Hw) : Nat := (r.flds.map (fun f => fldRead h f i * 2 ^ f.lo)).sum

/-- R18: the RC fields of a register are cleared after a read. -/
def clearRc (r : Reg) (i : Nat) (h : Hw) : Hw :=
  let h1 := r.flds.foldl (fun h f => if f.acc = .rc then h.fset f i 0 else h) h
  if r.addr = R.LT_ERRCNT.addr then h1.fset F.LT_STAT_SAT i 0 else h1

/-- The _LO registers of the 64-bit pairs (R20); each _HI lies 4 bytes above. -/
def loRegs : List Reg :=
  [R.ID_SERIAL_LO, R.WIN_ADDR_LO, R.CK_LTIME_LO, R.LT_UPAT_LO, R.LT_BITCNT_LO, R.SL_PLANDIG_LO, R.SL_TIME_LO,
   R.SW_RTDATA_LO, R.AG_VADDR_LO, R.DM_RBASE_LO, R.DD_SCRPOS_LO, R.DT_DIRDATA_LO]

/-- Whether a register is the low half of a pair. -/
def isLo (r : Reg) : Bool := loRegs.any (fun l => l.addr == r.addr)

/-- Whether a register is the high half of a pair. -/
def isHi (r : Reg) : Bool := loRegs.any (fun l => l.addr + 4 == r.addr)

/-- R15, R18, R20: the read of a register block at an address: its word; a read of _LO captures _HI, and the next read of _HI
returns the capture. -/
def regRead (addr : Nat) (h : Hw) : Nat × Hw :=
  match findReg addr with
  | none => (0, h)
  | some (r, i) =>
    let w := readWord r i h
    let h1 := clearRc r i h
    if isLo r then
      let hi := ((findReg (addr + 4)).map (fun x => readWord x.1 x.2 h)).getD 0
      (w, { h1 with mg := { h1.mg with shadow := Store.put h1.mg.shadow (addr + 4) hi } })
    else if isHi r then
      match Store.get? h.mg.shadow addr with
      | some v => (v, { h1 with mg := { h1.mg with shadow := Store.del h1.mg.shadow addr } })
      | none => (w, h1)
    else (w, h1)

/-! ### The window port's own registers -/

/-- Whether a burst runs (R600). -/
def Hw.winBusy (h : Hw) : Bool := h.flag F.WIN_CTRL_BUSY 0

/-- R590: a write of a window register discards a staged half. -/
def dropHalf (h : Hw) : Hw := { h with mg := { h.mg with half := none } }

/-- A WIN_DATA access ends with status OK. -/
def winAnswer (x : WinAcc) (data : Nat) (h : Hw) : Hw :=
  match x.src with
  | .cmd => h.emit (.mgmt x.path x.write 0 data)
  | .regreq =>
    let h1 := { h with bc := { h.bc with reqs := h.bc.reqs.drop 1 } }
    barSend true 0x24 ([BitVec.ofNat 8 (byteAt (h.bc.reqs.headD []) 1), 0] ++ toLE data 4 ++ [0]) h1
  | .cci => h.emit (.cciRsp x.path 0 ([0, 0, 0, 0] ++ if x.write then [] else (toLE data 4).map (fun b => b.toNat)))
  | .tap => { h with dt := { h.dt with res := (0, data) } }

/-- R591, R592: ABORT while BUSY is 1: no later beat is issued, and reads that wait for a word that is never staged end with 0. -/
def winAbort (h : Hw) : Hw :=
  match h.mg.burst with
  | none => h
  | some b =>
    let dead := fun (x : WinAcc) => decide (b.issued ≤ x.word / b.wpb)
    let h1 := { h with mg := { h.mg with burst := some { b with beats := b.issued },
                                         waiting := h.mg.waiting.filter (fun x => !dead x) } }
    (h.mg.waiting.filter dead).foldl (fun h x => winAnswer x 0 h) h1

/-- R590 to R592: a write of WIN_CTRL. -/
def winCtrlWrite (p : Path) (w : Nat) (h : Hw) : Hw :=
  if h.winBusy then (if fldOf F.WIN_CTRL_ABORT w = 1 then winAbort h else h)
  else
    let h1 := writeReg R.WIN_CTRL 0 w { h with mg := { h.mg with half := none, burst := none } }
    let n := h1.fget F.WIN_CTRL_BURST 0
    if fldOf F.WIN_CTRL_START w = 1 ∧ n ≠ 0 then
      let dir := h1.flag F.WIN_CTRL_DIR 0
      let h2 := (h1.fset F.WIN_CTRL_STATUS 0 0).fset F.WIN_CTRL_ERRBEAT 0 0
      let b := Burst.mk dir (n + 1) (h1.fget F.WIN_CTRL_SIZE 0 + 1) 0 0 0 0 p
      { h2 with mg := { h2.mg with burst := some b } }.fset F.WIN_CTRL_BUSY 0 (b2n !dir)
    else h1

/-! ### Writing a register -/

/-- Whether a pair takes a write of one of its halves at instance `i` (R303, R408, R592); the pairs that software only reads do not. -/
def pairTakes (p : Path) (lo : Nat) (i : Nat) (h : Hw) : Bool :=
  if lo = R.WIN_ADDR_LO.addr then !h.winBusy
  else if lo = R.LT_UPAT_LO.addr then !h.flag F.LT_CTRL_EN i
  else if lo = R.DM_RBASE_LO.addr then p == .turret && !h.flag F.DM_RCFG_EN i
  else lo == R.SW_RTDATA_LO.addr

/-- R20: a write of _LO stages the low half; a staged half of the window port is discarded (R590). -/
def stageLo (p : Path) (r : Reg) (addr i w : Nat) (h : Hw) : Hw :=
  if pairTakes p r.addr i h then
    let h1 := { h with mg := { h.mg with staged := Store.put h.mg.staged addr w } }
    if r.addr = R.WIN_ADDR_LO.addr then dropHalf h1 else h1
  else h

/-- R20: a write of _HI commits the staged _LO and the written _HI as one update; with none staged the _LO is kept. -/
def commitHi (p : Path) (r : Reg) (addr i w : Nat) (h : Hw) : Hw :=
  if pairTakes p (r.addr - 4) i h then
    let h1 := match Store.get? h.mg.staged (addr - 4), findReg (addr - 4) with
      | some v, some (l, j) => writeReg l j v { h with mg := { h.mg with staged := Store.del h.mg.staged (addr - 4) } }
      | _, _ => h
    let h2 := writeReg r i w h1
    if r.addr = R.WIN_ADDR_HI.addr then dropHalf h2 else h2
  else h

/-- A register that takes writes from Turret alone. -/
def turretOnly (p : Path) (r : Reg) (i w : Nat) (h : Hw) : Hw := if p = .turret then writeReg r i w h else h

/-- Writes in block ID (R577, R599). -/
def writeId (p : Path) (r : Reg) (i w : Nat) (m : Mach) : Mach :=
  if r.addr = R.WIN_CTRL.addr then m.onHw (winCtrlWrite p w)
  else if r.addr = R.ID_MGCTRL.addr then (if m.hw.inHold then m else m.onHw (turretOnly p r i w))
  else if r.addr = R.ID_LDCMD.addr ∧ fldOf F.ID_LDCMD_GO w = 1 then
    ldGo p (fldOf F.ID_LDCMD_OP w) (fldOf F.ID_LDCMD_SLOT w) m
  else m.onHw (writeReg r i w)

/-- GO of CK_RSTCMD by its SCOPE (R505). -/
def rstCmd (p : Path) (scope inst : Nat) (m : Mach) : Mach :=
  rstGo p scope inst (match scope with
    | 0 => rstModule
    | 1 => rstFabric
    | 2 => rstPort inst
    | 3 => rstTenant inst
    | 4 => rstChannel inst
    | 5 => rstSpire inst
    | 6 => rstEngine inst
    | _ => fun m => m.onHw (rstResult 1)) m

/-- R639: CK_THCFG takes a write from Turret that leaves no CRIT below its WARN. -/
def thcfgWrite (p : Path) (w : Nat) (h : Hw) : Hw :=
  let h1 := turretOnly p R.CK_THCFG 0 w h
  if h1.fget F.CK_THCFG_TFPCRIT 0 < h1.fget F.CK_THCFG_TFPWARN 0 ∨
      h1.fget F.CK_THCFG_DIMMCRIT 0 < h1.fget F.CK_THCFG_DIMMWARN 0 then h
  else h1

/-- Writes in block CK (R502 to R507, R638). -/
def writeCk (p : Path) (r : Reg) (i w : Nat) (m : Mach) : Mach :=
  if r.addr = R.CK_PWRCMD.addr then (if fldOf F.CK_PWRCMD_WAKE w = 1 then m.onHw (pwrcmdWake p) else m)
  else if r.addr = R.CK_RSTCMD.addr ∧ fldOf F.CK_RSTCMD_GO w = 1 then
    rstCmd p (fldOf F.CK_RSTCMD_SCOPE w) (fldOf F.CK_RSTCMD_INST w) m
  else if r.addr = R.CK_THCFG.addr then m.onHw (thcfgWrite p w)
  else m.onHw (writeReg r i w)

/-- FC_ALM_CTRL (R470, R479): a changed SWLVL is sent, and ARM arms the alarm. -/
def almCtrlWrite (w : Nat) (h : Hw) : Hw :=
  let old := h.fget F.FC_ALM_CTRL_SWLVL 0
  let h1 := writeReg R.FC_ALM_CTRL 0 w h
  let h2 := if fldOf F.FC_ALM_CTRL_ARM w = 1 then h1.fset F.FC_ALM_CTRL_ARMED 0 1 else h1
  if h2.fget F.FC_ALM_CTRL_SWLVL 0 = old then h2 else almLevel (fldOf F.FC_ALM_CTRL_SWLVL w) h2

/-- FC_DCMD (R480): RELEASE, REARM and CLRCNT. -/
def dcmdWrite (w : Nat) (h : Hw) : Hw :=
  let h1 := if fldOf F.FC_DCMD_RELEASE w = 1 then fcRelease h else h
  let h2 := if fldOf F.FC_DCMD_REARM w = 1 then fcRearm h1 else h1
  if fldOf F.FC_DCMD_CLRCNT w = 1 then fcClrcnt h2 else h2

/-- Writes in block FC (R476 to R480). -/
def writeFc (r : Reg) (i w : Nat) (h : Hw) : Hw :=
  if r.addr = R.FC_ALM_CTRL.addr then almCtrlWrite w h
  else if r.addr = R.FC_DCMD.addr then dcmdWrite w h
  else if r.addr = R.FC_LOGRD.addr then logrdWrite w h
  else writeReg r i w h

/-- SL_PCFG (R424, R425): EN and RETRAIN take effect on the port. DEDUCED: clearing EN takes the port down, and setting it trains a
port that is DOWN. -/
def slPcfgWrite (s w : Nat) (h : Hw) : Hw :=
  let was := h.flag F.SL_PCFG_EN s
  let h1 := writeReg R.SL_PCFG s w h
  let now := h1.flag F.SL_PCFG_EN s
  let h2 := if was && !now then
      (if h1.fget F.SL_PSTAT_STATE s = 3 then h1 else spireStop s 7 h1)
    else if !was && now then spireRelease s h1
    else h1
  if fldOf F.SL_PCFG_RETRAIN w = 1 then spireRetrain s h2 else h2

/-- GO of SW_RTCMD by its OP (R229). -/
def rtCmd (p : Path) (i op : Nat) (h : Hw) : Hw :=
  rtGo (fun h =>
    let h1 := setRtcmd i op h
    match op with
    | 0 => rtResult 0 h1
    | 1 => rtRead i h1
    | 2 => rtUpdate p i false h1
    | _ => rtUpdate p i true h1) h

/-- Writes in block SW (R211, R222, R226 to R229). -/
def writeSw (p : Path) (r : Reg) (i w : Nat) (h : Hw) : Hw :=
  if r.addr = R.SW_CTRL.addr then
    let h1 := writeReg r i w h
    if h1.flag F.SW_CTRL_SPEN 0 ∧ !h.flag F.SW_CTRL_SPEN 0 then checkSpill h1 else h1
  else if r.addr = R.SW_SPILLFIRST.addr ∨ r.addr = R.SW_SPILLCNT.addr then
    (if h.flag F.SW_CTRL_SPEN 0 ∨ h.fget F.SW_SPILLPG_VAL 0 ≠ 0 then h else writeReg r i w h)
  else if r.addr = R.SW_BUFCFG.addr ∨ r.addr = R.SW_SPILLCFG.addr then boundAll (writeReg r i w h)
  else if r.addr = R.SW_RTCMD.addr ∧ fldOf F.SW_RTCMD_GO w = 1 then
    rtCmd p (fldOf F.SW_RTCMD_RIDX w) (fldOf F.SW_RTCMD_OP w) h
  else if r.addr = R.SW_AUDCTRL.addr then
    (if fldOf F.SW_AUDCTRL_GO w = 0 then h
     else if auditReady h then h.fset F.SW_AUDSTAT_BUSY 0 1 else h.fset F.SW_AUDSTAT_RESULT 0 3)
  else writeReg r i w h

/-- Writes in block TS (R239, R246, R254 to R256). -/
def writeTs (r : Reg) (i w : Nat) (h : Hw) : Hw :=
  if r.addr = R.TS_PACE.addr then writeField i w (rateWrite i (fldOf F.TS_PACE_RATE w) h) F.TS_PACE_TQ
  else if r.addr = R.TS_SHCFG.addr then shaperWrite i false w h
  else if r.addr = R.TS_SHLIM.addr then shaperWrite i true w h
  else if r.addr = R.TS_PORTCFG.addr then boundSet i (writeReg r i w h)
  else writeReg r i w h

/-- GO of BD_TTCMD by its OP (R73 to R75). -/
def ttCmd (p : Path) (t op : Nat) (m : Mach) : Mach :=
  ttGo p t op (match op with
    | 0 => fun m => m.onHw (ttResult 0)
    | 1 => fun m => m.onHw (fun h => ttResult 0 (stageEnt (h.ent t) h))
    | 2 => fun m => m.onHw (ttWrite t)
    | 3 => ttBind t
    | 4 => fun m => m.onHw (ttAsk askReset t)
    | 5 => fun m => m.onHw (ttUnbind t)
    | _ => fun m => m.onHw (ttResult 2)) m

/-- Writes in block BD (R67, R72 to R76). -/
def writeBd (p : Path) (r : Reg) (i w : Nat) (m : Mach) : Mach :=
  if r.addr = R.BD_TTCMD.addr ∧ fldOf F.BD_TTCMD_GO w = 1 then ttCmd p (fldOf F.BD_TTCMD_TID w) (fldOf F.BD_TTCMD_OP w) m
  else if r.addr = R.BD_TDRAIN.addr then (if fldOf F.BD_TDRAIN_ARM w = 1 then m.onHw (fun h => h.armDrain i) else m)
  else m.onHw (writeReg r i w)

/-- GO of AG_RDCMD by its OP (R347, R364). -/
def rdCmd (p : Path) (idx op : Nat) (h : Hw) : Hw :=
  rdGo (fun h =>
    let h1 := setRdcmd idx op h
    match op with
    | 0 => rdResult 0 h1
    | 1 => rdRead idx h1
    | 2 => rdWrite p idx h1
    | _ => rdResult 1 h1) h

/-- Writes in block AG (R361 to R364). -/
def writeAg (p : Path) (r : Reg) (i w : Nat) (h : Hw) : Hw :=
  if r.addr = R.AG_SYSSET.addr then syssetWrite p w h
  else if r.addr = R.AG_SYSDEF.addr ∨ r.addr = R.AG_TDEF.addr then turretOnly p r i w h
  else if r.addr = R.AG_RDCMD.addr ∧ fldOf F.AG_RDCMD_GO w = 1 then rdCmd p (fldOf F.AG_RDCMD_IDX w) (fldOf F.AG_RDCMD_OP w) h
  else writeReg r i w h

/-- Writes in blocks DM and DD (R265, R303, R330). -/
def writeDm (p : Path) (r : Reg) (i w : Nat) (m : Mach) : Mach :=
  if r.addr = R.DM_RCFG.addr then rcfgWrite p i w m
  else if r.addr = R.DM_RTAIL.addr then doorbell p i w m
  else if r.addr = R.DD_CFG.addr then
    m.onHw (fun h =>
      let h1 := writeReg r i w h
      if h1.fget F.DD_CFG_PERIOD 0 = h.fget F.DD_CFG_PERIOD 0 then h1 else recomputeScrub h1)
  else m.onHw (writeReg r i w)

/-- Writes in block DT (R647 to R653). -/
def writeDt (p : Path) (r : Reg) (i w : Nat) (h : Hw) : Hw :=
  if r.addr = R.DT_CFG.addr then turretOnly p r i w h
  else if r.addr = R.DT_DBGCMD.addr then (if fldOf F.DT_DBGCMD_RELOCK w = 1 then doRelock h else h)
  else if r.addr = R.DT_TMUXSEL.addr then tmuxWrite i w h
  else if r.addr = R.DT_DIRSEL.addr then dirselWrite w h
  else if r.addr = R.DT_BISTCMD.addr ∧ fldOf F.DT_BISTCMD_GO w = 1 then bistGo p (fldOf F.DT_BISTCMD_TARGET w) h
  else writeReg r i w h

/-- R543, R544: a write of BC_WCFG0-3 from Turret; bytes 14 and 15 are ignored, and a write of BC_WCFG3 sends SETCFG. -/
def wcfgWrite (p : Path) (i w : Nat) (h : Hw) : Hw :=
  if p = .turret then
    let d := definedBits R.BC_WCFG i w
    let v := if i = 3 then bits (h.fget F.BC_WCFG_VAL 3) 16 16 * 2 ^ 16 + bits d 0 16 else d
    let h1 := evalMatch (h.fset F.BC_WCFG_VAL i v)
    if i = 3 then sendSetcfg (wcfgBlock h1) h1 else h1
  else h

/-- BC_WCFG3_WRITE (R544). -/
def execBcWcfg3Write (p : Path) (data : Word) (s : State) : Out := onHw (wcfgWrite p 3 data.toNat) s

/-- R15 to R20: the write of a register block at an address; an address without a register ignores it. -/
def regWrite (p : Path) (addr w : Nat) (m : Mach) : Mach :=
  match findReg addr with
  | none => m
  | some (r, i) =>
    if isLo r then m.onHw (stageLo p r addr i w)
    else if isHi r then m.onHw (commitHi p r addr i w)
    else
      match r.addr / 2 ^ 20 with
      | 0 => writeId p r i w m
      | 1 => writeCk p r i w m
      | 2 => m.onHw (writeFc r i w)
      | 3 => m.onHw (turretOnly p r i w)
      | 4 => m.onHw (fun h => if r.addr = R.FP_PCTRL.addr then settleResets (pctrlWrite i w h)
          else if r.addr = R.FP_PCFG.addr then pcfgWrite i w h else writeReg r i w h)
      | 5 => m.onHw (fun h => if r.addr = R.LT_CTRL.addr then ltCtrl i w h
          else if r.addr = R.LT_INJ.addr then ltInj i w h else writeReg r i w h)
      | 6 => m.onHw (fun h => if r.addr = R.SL_PCFG.addr then settleResets (slPcfgWrite i w h) else writeReg r i w h)
      | 7 => m.onHw (writeSw p r i w)
      | 8 => m.onHw (writeTs r i w)
      | 9 => writeBd p r i w m
      | 10 => m.onHw (writeAg p r i w)
      | 11 => m.onHw (fun h => if r.addr = R.HD_RBCTRL.addr then rbctrlWrite p w h else writeReg r i w h)
      | 12 | 13 => writeDm p r i w m
      | 14 => m.onHw (writeDt p r i w)
      | _ => m.onHw (fun h => if r.addr = R.BC_WCFG.addr then wcfgWrite p i w h else writeReg r i w h)

/-! ### One access, past the gate -/

/-- What lies at a management address (R580): 1 a register block, 2 the scratchpad or an alias, 0 nothing. -/
def addrKind (a : Nat) : Nat :=
  if a < 0x1000000 then 1
  else if 0x10 ≤ a / 0x1000000 ∧ a / 0x1000000 ≤ 0x12 ∧ a % 0x1000000 < 0x800000 then 2
  else 0

/-- The scratchpad master of a path (R594). -/
def spMaster (a : PendAcc) : Nat :=
  if a.win then 3
  else match a.path with
    | .turret => 0 | .debug => 3 | .barrier => 4 | _ => 5

/-- The scratchpad access that a management access makes (R589, R597). -/
def spReqOf (a : PendAcc) : SpReq :=
  let op := if a.write then (match a.addr / 0x1000000 with
      | 0x11 => SpOp.set
      | 0x12 => SpOp.clr
      | _ => SpOp.write)
    else SpOp.read
  ⟨spMaster a, pathMaster a.path, a.addr % 0x1000000, op, a.size, 0xFF, a.data⟩

/-- R14, R15, R595: the status of an access that no block takes; 0 where a block does. -/
def preStatus (a : PendAcc) : Nat :=
  match addrKind a.addr with
  | 0 => 2
  | 1 => if a.size = 4 ∧ a.addr % 4 = 0 then 0 else 1
  | _ => if spSizeOk (spReqOf a) then 0 else 1

/-- An access that its domain answers, WIN_DATA apart: status, data and effect. -/
def performPlain (a : PendAcc) (m : Mach) : (Nat × Nat) × Mach :=
  if addrKind a.addr = 2 then spNow (spReqOf a) m
  else if a.write then ((0, 0), regWrite a.path a.addr a.data m)
  else
    let m1 := if (findReg a.addr).any (fun x => x.1.addr == R.DM_RSTAT.addr) then setMigwait m else m
    let r := regRead a.addr m1.hw
    ((0, r.1), { m1 with hw := r.2 })

/-! ### The ends of accesses -/

/-- R581: the end of an access of a path: its status, and its data where the status is OK. -/
def answer (a : PendAcc) (st data : Nat) (m : Mach) : Mach :=
  let d := if st = 0 ∧ !a.write then data else 0
  m.onHw (fun h =>
    match a.src with
    | .cmd => h.emit (.mgmt a.path a.write st d)
    | .regreq =>
      let h1 := { h with bc := { h.bc with reqs := h.bc.reqs.drop 1 } }
      barSend true 0x24 ([BitVec.ofNat 8 (byteAt (h.bc.reqs.headD []) 1), BitVec.ofNat 8 st] ++ toLE d 4 ++ [0]) h1
    | .cci => h.emit (.cciRsp a.path 0 ([st, 0, 0, 0] ++ if a.write then [] else (toLE d 4).map (fun b => b.toNat)))
    | .tap => { h with dt := { h.dt with res := (st, d) } })

/-- The window port's access to its staging area in B3 (R591): the offset of a WIN_DATA word. -/
def stageOff (b : Burst) (word : Nat) : Nat := 0x600000 + (if b.wpb = 2 then 4 * word else 8 * word)

/-- A read of the staging area. -/
def stageRead (off size : Nat) (p : Path) (m : Mach) : Nat × Mach :=
  let r := spNow ⟨3, pathMaster p, off, .read, size, 0xFF, 0⟩ m
  (r.1.2, r.2)

/-- A write of the staging area. -/
def stageWrite (off size v : Nat) (p : Path) (m : Mach) : Mach := (spNow ⟨3, pathMaster p, off, .write, size, 0xFF, v⟩ m).2

/-- R591: the WIN_DATA reads whose word is staged are answered. -/
def serveWaiting (m : Mach) : Mach :=
  match m.hw.mg.burst with
  | none => m
  | some b =>
    let ready := fun (x : WinAcc) => decide (x.word / b.wpb < b.ended)
    let m1 := m.onHw (fun h => { h with mg := { h.mg with waiting := h.mg.waiting.filter (fun x => !ready x) } })
    (m.hw.mg.waiting.filter ready).foldl (fun m x =>
      let r := stageRead (stageOff b x.word) 4 x.path m
      r.2.onHw (winAnswer x r.1)) m1

/-- R590, R591, R23: the end of a beat, whose tag takes the next generation: in single mode its WIN_DATA access completes; in a burst a read is staged, the first status other
than OK is kept with the beat's index, and BUSY falls with the last beat. -/
def endBeat (st data : Nat) (m : Mach) : Mach :=
  match m.hw.mg.beat with
  | none => m
  | some b =>
    let d := if st = 0 ∧ !b.write then data else 0
    let m1 := m.onHw (fun h =>
      let h1 := if h.tagOpen .ck beatTag then h.closeTag .ck beatTag else h
      { h1 with mg := { h1.mg with beat := none } })
    match b.acc with
    | some src =>
      m1.onHw (fun h =>
        let h1 := h.fset F.WIN_CTRL_STATUS 0 st
        let h2 := if b.size = 8 ∧ !b.write then { h1 with mg := { h1.mg with half := some (false, bits d 32 32) } } else h1
        winAnswer ⟨b.path, src, b.write, 0, 0⟩ (bits d 0 32) h2)
    | none =>
      match m.hw.mg.burst with
      | none => m1
      | some u =>
        let m2 := if b.write then m1 else stageWrite (0x600000 + 8 * b.idx) b.size d b.path m1
        let u1 := { u with ended := u.ended + 1 }
        serveWaiting (m2.onHw (fun h =>
          let h1 := { h with mg := { h.mg with burst := some u1 } }
          let h2 := if st ≠ 0 ∧ h1.fget F.WIN_CTRL_STATUS 0 = 0 then
              (h1.fset F.WIN_CTRL_STATUS 0 st).fset F.WIN_CTRL_ERRBEAT 0 b.idx
            else h1
          if u1.beats ≤ u1.ended then h2.fset F.WIN_CTRL_BUSY 0 0 else h2))

/-- The end of an access: of a path, or of the window beat that it carries. -/
def finish (a : PendAcc) (st data : Nat) (m : Mach) : Mach := if a.win then endBeat st data m else answer a st data m

/-! ### The gate of the clock domains -/

/-- R492, R494: an access ended with RESET_ABORT is counted and reported. -/
def countAbort (a : PendAcc) (h : Hw) : Hw :=
  (h.fadd F.CK_RABORTCNT_VAL 0 1).raise
    { code := 0x0102, dom := domDevice, dinst := 0, addr := a.addr, atype := 5, master := pathMaster a.path }

/-- R583: the CCIs are one path. -/
def lane (p : Path) : Nat :=
  match p with
  | .turret => 0 | .debug => 1 | .barrier => 2 | _ => 3

/-- R494: the tag of an access on its way through a crossing: one for each path, and one for the window port's beat. -/
def accTag (a : PendAcc) : Nat := if a.win then 4 else lane a.path

/-- An access waits for its domain, and its tag for the answer. -/
def pendAcc (a : PendAcc) (h : Hw) : Hw :=
  { h with mg := { h.mg with pend := h.mg.pend ++ [a] } }.openTag .ck (accTag a)

/-- The pending accesses that satisfy `p`, in order, and the machine without them: their tags take the next generation (R23). -/
def takePend (p : PendAcc → Bool) (m : Mach) : List PendAcc × Mach :=
  let l := m.hw.mg.pend.filter p
  (l, m.onHw (fun h => l.foldl (fun h a => h.closeTag .ck (accTag a))
    { h with mg := { h.mg with pend := h.mg.pend.filter (fun a => !p a) } }))

/-- Whether domain `d` answers now (R483, R496): not stopped, not asleep, and while a wake runs only MCLK's own registers. -/
def domAnswers (h : Hw) (d : Nat) : Bool :=
  domState h d != 3 && domState h d != 2 && (h.fget F.CK_PWRSTAT_STATE 0 != 6 || d == 1)

/-- R490: whether an access is one of the window port: its beat, or an access to WIN_DATA. -/
def winAccess (a : PendAcc) : Bool := a.win || a.addr == R.WIN_DATA.addr

/-- R488 to R492: the gate: RESET_ABORT under a notice; DOMAIN_ASLEEP, or a wake; a wait for a domain that does not answer. -/
def gateAcc (perf : PendAcc → Mach → Mach) (a : PendAcc) (m : Mach) : Mach :=
  if m.hw.flag F.CK_DOMSTAT_NOTICE a.dom then finish a 5 0 (m.onHw (countAbort a))
  else if m.hw.inStandby ∧ domState m.hw a.dom = 2 then
    (if a.wake then
       m.onHw (fun h => pendAcc a (wakeUp (if winAccess a && h.flag F.WIN_CTRL_WAKE 0 then .window else .turret) h))
     else if a.path = .barrier ∧ !a.win then m.onHw (fun h => pendAcc a (wakeUp .barrier h))
     else finish a 4 0 (m.onHw (fun h => h.fadd F.CK_ASLEEPCNT_VAL 0 1)))
  else if domAnswers m.hw a.dom then perf a m
  else m.onHw (pendAcc a)

/-! ### Beats to memory -/

/-- The GPA of a beat to Dome or the pool (R342, R586). -/
def beatGpa (h : Hw) (b : Beat) : Nat := if b.space = 1 then h.sid * 2 ^ 43 + b.addr else b.addr

/-- The master of a beat to memory (R588). -/
def beatMaster (p : Path) : Nat := if p = .turret then 0x6000 else 0x8000

/-- The bytes of a beat's line that it covers. -/
def beatEn (b : Beat) : Nat := (2 ^ b.size - 1) * 2 ^ (b.addr % 64)

/-- The message by which a beat reaches the Cupola. -/
def winMsg (b : Beat) : Msg := { ing := 94, cls := .internal, len := b.size }

/-- R78, R127, R588: a beat leaves as a non-caching request: to the line's queue at this module's home, or to the Cupola for a
remote home (R80). -/
def sendBeat (b : Beat) (m : Mach) : Mach :=
  let g := beatGpa m.hw b
  let data := b.data % 2 ^ (8 * b.size) * 2 ^ (8 * (b.addr % 64))
  let m1 := m.onHw (fun h => h.openTag .ck beatTag)
  let gen := m1.hw.tagGen .ck beatTag
  if g / 2 ^ 43 = m.hw.sid then
    homeEffect (arrive { agent := 1024, kind := if b.write then .ncWrite else .ncRead, la := g % 2 ^ 43 / 64, tag := gen, unit := 2,
                         data := data, en := beatEn b }) m1
  else
    cuIn { msg := winMsg b, own := false, caching := false, wantData := !b.write, write := b.write, gla := g / 64,
           data := data, en := beatEn b, mv := 2, unit := 2, tag := gen } m1

/-- R588, R643: a beat to Dome or the pool: judged by the unlock level and the guard, then it leaves and waits for its answer. -/
def memBeat (b : Beat) (m : Mach) : Mach :=
  let h := m.hw
  let g := beatGpa h b
  let home := g / 2 ^ 43
  if b.path ≠ .turret ∧ h.level = 0 then endBeat 6 0 (m.onHw (fun h => h.fadd F.DT_DENYCNT_VAL 0 1))
  else if b.space = 1 ∧ (!h.flag F.DD_STAT_READY 0 ∨ h.fget F.DD_DOMEEXT_VAL 0 * 2 ^ 21 ≤ b.addr) then endBeat 2 0 m
  else
    match guardAccess { tid := none, addr := g, len := b.size, priv := true, needs := if b.write then [.w] else [.r],
                        master := beatMaster b.path } h with
    | (some _, h1) => endBeat 6 0 { m with hw := h1 }
    | (none, h1) =>
      let m1 : Mach := { m with hw := h1 }
      if home ≠ h1.sid ∧ h1.peerState home ≠ 1 then endBeat 8 0 m1 else sendBeat b m1

/-- R489, R589, R643: a beat past its gate. One to WIN_DATA itself, which the beat keeps busy, is never answered, so it ends with
DOMAIN_TIMEOUT. -/
def performWin (a : PendAcc) (m : Mach) : Mach :=
  match m.hw.mg.beat with
  | none => m
  | some b =>
    if b.space ≠ 0 then memBeat b m
    else if a.path = .debug ∧ a.write ∧ m.hw.level = 0 then
      endBeat 6 0 (m.onHw (fun h => h.fadd F.DT_DENYCNT_VAL 0 1))
    else if a.addr = R.WIN_DATA.addr then m.onHw (pendAcc a)
    else
      let r := performPlain a m
      finish a r.1.1 r.1.2 r.2

/-- The number of address bits of a space (R586); none for the reserved ones. -/
def spaceBits (s : Nat) : Option Nat := ([(0, 32), (1, 43), (2, 46)] : List (Nat × Nat)).lookup s

/-- R586, R587: a beat is issued at WIN_ADDR, which advances where INC is 1. DESIGN CHOICE (log entry 110): of two errors, a reserved
space or an address above the space's width ends a beat UNMAPPED first, a misaligned address SIZE_ERROR next, and a target that does not
exist UNMAPPED last. -/
def issueBeat (idx : Nat) (p : Path) (write : Bool) (size data : Nat) (acc : Option AccSrc) (m : Mach) : Mach :=
  let h := m.hw
  let addr := h.fget F.WIN_ADDR_HI_ADDR 0 * 2 ^ 32 + h.fget F.WIN_ADDR_LO_VAL 0
  let space := h.fget F.WIN_ADDR_HI_SPACE 0
  let b : Beat := ⟨idx, space, addr, size, write, data, p, acc, none⟩
  let wake := p == .turret || h.flag F.WIN_CTRL_WAKE 0
  let m1 := m.onHw (fun h =>
    let h1 := { h with mg := { h.mg with beat := some b } }
    if h1.flag F.WIN_CTRL_INC 0 then
      (h1.fset F.WIN_ADDR_LO_VAL 0 (addr + size)).fset F.WIN_ADDR_HI_ADDR 0 ((addr + size) / 2 ^ 32)
    else h1)
  let pa : PendAcc := ⟨p, acc.getD .cmd, write, addr, size, data, if space = 0 ∧ addrKind addr = 1 then addrDom addr else 3,
    wake, true⟩
  if (spaceBits space).all (fun n => decide (2 ^ n ≤ addr)) then endBeat 2 0 m1
  else if addr % size ≠ 0 then endBeat 1 0 m1
  else if space = 0 ∧ preStatus pa ≠ 0 then endBeat (preStatus pa) 0 m1
  else gateAcc performWin pa m1

/-! ### WIN_DATA -/

/-- R590: a WIN_DATA access in single mode. -/
def serveSingle (x : WinAcc) (m : Mach) : Mach :=
  let wide := m.hw.flag F.WIN_CTRL_SIZE 0
  let clear := fun (m : Mach) => m.onHw (fun h => (dropHalf h).fset F.WIN_CTRL_STATUS 0 0)
  match wide, x.write, m.hw.mg.half with
  | true, false, some (false, hi) => m.onHw (fun h => winAnswer x hi (dropHalf h))
  | true, true, some (true, lo) => issueBeat 0 x.path true 8 (lo + x.data * 2 ^ 32) (some x.src) (clear m)
  | true, true, _ => m.onHw (fun h => winAnswer x 0 { h with mg := { h.mg with half := some (true, x.data) } })
  | w, wr, _ => issueBeat 0 x.path wr (if w then 8 else 4) x.data (some x.src) (clear m)

/-- R591: a WIN_DATA access while BURST is not 0. -/
def serveBurst (x : WinAcc) (m : Mach) : Mach :=
  match m.hw.mg.burst with
  | none => m.onHw (winAnswer x 0)
  | some b =>
    if x.write then
      if b.write = false ∨ m.hw.winBusy ∨ b.beats * b.wpb ≤ b.filled then m.onHw (winAnswer x 0)
      else
        let m1 := stageWrite (stageOff b b.filled) 4 x.data x.path m
        let b1 := { b with filled := b.filled + 1 }
        m1.onHw (fun h =>
          let h1 := winAnswer x 0 { h with mg := { h.mg with burst := some b1 } }
          if b1.filled = b1.beats * b1.wpb then h1.fset F.WIN_CTRL_BUSY 0 1 else h1)
    else if b.write ∨ b.beats * b.wpb ≤ b.rdpos then m.onHw (winAnswer x 0)
    else
      serveWaiting (m.onHw (fun h => { h with mg := { h.mg with
        burst := some { b with rdpos := b.rdpos + 1 }, waiting := h.mg.waiting ++ [{ x with word := b.rdpos }] } }))

/-- A WIN_DATA access of a path. -/
def winData (x : WinAcc) (m : Mach) : Mach :=
  if m.hw.fget F.WIN_CTRL_BURST 0 ≠ 0 then serveBurst x m
  else if m.hw.mg.beat.isSome then m.onHw (fun h => { h with mg := { h.mg with queue := h.mg.queue ++ [x] } })
  else serveSingle x m

/-! ### Accesses of a path -/

/-- An access past its gate. -/
def perform (a : PendAcc) (m : Mach) : Mach :=
  if a.win then performWin a m
  else if a.addr = R.WIN_DATA.addr then winData ⟨a.path, a.src, a.write, a.data, 0⟩ m
  else
    let r := performPlain a m
    finish a r.1.1 r.1.2 r.2

/-- R583: whether a path has an access outstanding. -/
def busyPath (p : Path) (h : Hw) : Bool :=
  let same := fun (q : Path) => lane q == lane p
  h.mg.pend.any (fun a => !a.win && same a.path) || h.mg.beat.any (fun b => b.acc.isSome && same b.path) ||
    h.mg.waiting.any (fun x => same x.path) || h.mg.queue.any (fun x => same x.path)

/-- An access of a path is issued (R14, R15, R490: Turret's carry the wake attribute, and while WIN_CTRL.WAKE is 1 those to WIN_DATA). -/
def startAcc (p : Path) (src : AccSrc) (write : Bool) (addr size data : Nat) (m : Mach) : Mach :=
  let wake := p == .turret || addr == R.WIN_DATA.addr && m.hw.flag F.WIN_CTRL_WAKE 0
  let a : PendAcc := ⟨p, src, write, addr, size, data, if addrKind addr = 1 then addrDom addr else 3, wake, false⟩
  if preStatus a ≠ 0 then finish a (preStatus a) 0 m else gateAcc perform a m

/-- What the interconnect and the window port do next of themselves: the next beat of a burst, a WIN_DATA access that waited for a
beat, or the next register request (R584, R590, R591). -/
def mgNext (m : Mach) : Option Mach :=
  let mg := m.hw.mg
  let next := fun (_ : Unit) =>
    match m.hw.bc.reqs with
    | [] => none
    | q :: _ =>
      if busyPath .barrier m.hw then none
      else some (startAcc .barrier .regreq (byteAt q 0 == 1) (leAt q 2 4) 4 (leAt q 6 4) m)
  if mg.beat.isSome then next ()
  else
    match mg.burst, mg.queue with
    | some b, q =>
      if m.hw.winBusy ∧ b.issued < b.beats then
        let size := 4 * b.wpb
        let d := if b.write then stageRead (0x600000 + 8 * b.issued) size b.path m else (0, m)
        some (issueBeat b.issued b.path b.write size d.1 none
          (d.2.onHw (fun h => { h with mg := { h.mg with burst := some { b with issued := b.issued + 1 } } })))
      else
        match q with
        | x :: r => some (winData x (m.onHw (fun h => { h with mg := { h.mg with queue := r } })))
        | [] => next ()
    | none, x :: r => some (winData x (m.onHw (fun h => { h with mg := { h.mg with queue := r } })))
    | none, [] => next ()

/-- `mgNext` until nothing is left to do. -/
def mgLoop (m : Mach) : Nat → Mach
  | 0 => m
  | n + 1 =>
    match mgNext m with
    | some m1 => mgLoop m1 n
    | none => m

/-- `mgLoop` with room for a whole burst after each register request and each waiting access. -/
def mgRun (m : Mach) : Mach := mgLoop m (300 * (m.hw.bc.reqs.length + m.hw.mg.queue.length + 2))

/-- A path's access with all that follows; a path with an access outstanding issues none (R583). -/
def access (p : Path) (src : AccSrc) (write : Bool) (addr size data : Nat) (m : Mach) : Mach :=
  if busyPath p m.hw then m else mgRun (startAcc p src write addr size data m)

/-- R585, R600: what ID_MGCTRL allows a CCI: 0 nothing, 1 reads, 2 reads and writes. -/
def cciMode (p : Path) (h : Hw) : Nat :=
  match p with
  | .cciMctp => h.fget F.ID_MGCTRL_CCIMCTP 0
  | .cciMbox _ => h.fget F.ID_MGCTRL_CCIMB 0
  | _ => 0

/-- R582: what a path reaches: the debug master the window port registers, a CCI what ID_MGCTRL allows it, Turret and the barrier
channel all of management space. -/
def pathReaches (p : Path) (write : Bool) (addr : Nat) (h : Hw) : Bool :=
  match p with
  | .debug => decide (R.WIN_ADDR_LO.addr ≤ addr ∧ addr < R.WIN_DATA.addr + 4)
  | .cciMctp | .cciMbox _ => decide (b2n write < cciMode p h)
  | _ => true

/-- An access that a command names: none where its path does not reach the address. -/
def pathAccess (p : Path) (write : Bool) (addr size data : Nat) (m : Mach) : Mach :=
  if pathReaches p write addr m.hw then access p .cmd write addr size data m else m

/-! ### The commands -/

/-- REGISTER_WRITE (R13 to R18). -/
def execRegisterWrite (p : Path) (addr size : Nat) (data : Word) (s : State) : Out :=
  onMach (pathAccess p true addr size data.toNat) s

/-- RC_FIELD_READ (R13 to R18). -/
def execRcFieldRead (p : Path) (addr size : Nat) (s : State) : Out := onMach (pathAccess p false addr size 0) s

/-- LO_REGISTER_READ (R20). -/
def execLoRegisterRead (p : Path) (addr size : Nat) (s : State) : Out := onMach (pathAccess p false addr size 0) s

/-- LO_REGISTER_WRITE (R20). -/
def execLoRegisterWrite (p : Path) (addr size : Nat) (data : Word) (s : State) : Out :=
  onMach (pathAccess p true addr size data.toNat) s

/-- HI_REGISTER_WRITE (R20). -/
def execHiRegisterWrite (p : Path) (addr size : Nat) (data : Word) (s : State) : Out :=
  onMach (pathAccess p true addr size data.toNat) s

/-- WIN_DATA_READ (R590, R591). -/
def execWinDataRead (p : Path) (s : State) : Out := onMach (pathAccess p false R.WIN_DATA.addr 4 0) s

/-- WIN_DATA_WRITE (R590, R591). -/
def execWinDataWrite (p : Path) (data : Word) (s : State) : Out :=
  onMach (pathAccess p true R.WIN_DATA.addr 4 data.toNat) s

/-- WIN_CTRL_START (R591): a write of WIN_CTRL with START at 1. -/
def execWinCtrlStart (p : Path) (data : Word) (s : State) : Out :=
  onMach (pathAccess p true R.WIN_CTRL.addr 4 (Nat.lor data.toNat 0x10)) s

/-- WIN_CTRL_ABORT (R592): a write of WIN_CTRL with ABORT at 1 that leaves the other fields as they are. -/
def execWinCtrlAbort (p : Path) (s : State) : Out :=
  onMach (fun m => pathAccess p true R.WIN_CTRL.addr 4 (Nat.lor (readWord R.WIN_CTRL 0 m.hw) 0x20) m) s

/-- Whether a beat waits for an answer from memory, or for none at all. -/
def beatWaits (h : Hw) : Bool := h.mg.beat.isSome && !h.mg.pend.any (fun a => a.win)

/-- WINDOW_BEAT_END (R588): the answer to beat `idx`, to Dome or the pool, has come: a read of poison, or a write that the line's
poison has discarded, ends POISONED. -/
def execWindowBeatEnd (idx : Nat) (s : State) : Out :=
  onMach (fun m =>
    match m.hw.mg.beat.filter (fun b => b.idx == idx) with
    | none => m
    | some b =>
      match b.res with
      | none => m
      | some d => mgRun (if d.2 then endBeat 8 0 m else endBeat 0 (bits d.1 (8 * (b.addr % 64)) (8 * b.size)) m)) s

/-- WINDOW_BEAT_TIMEOUT (R588): 20 µs without an answer. -/
def execWindowBeatTimeout (s : State) : Out := onMach (fun m => if beatWaits m.hw then mgRun (endBeat 3 0 m) else m) s

/-- DOMAIN_TIMEOUT (R489, R491): the access of a path that has waited longest ends. -/
def execDomainTimeout (p : Path) (s : State) : Out :=
  onMach (fun m =>
    match m.hw.mg.pend.find? (fun a => lane a.path == lane p) with
    | none => m
    | some a =>
      let m1 := (takePend (· == a) m).2.onHw (fun h =>
        (h.fadd F.CK_DTMOCNT_VAL 0 1).raise
          { code := 0x0101, dom := domDevice, dinst := 0, addr := a.addr, atype := 5, master := pathMaster a.path })
      mgRun (finish a 3 0 m1)) s

/-- R494: pending accesses end with RESET_ABORT. -/
def abortPend (p : PendAcc → Bool) (m : Mach) : Mach :=
  let x := takePend p m
  x.1.foldl (fun m a => finish a 5 0 (m.onHw (countAbort a))) x.2

/-- R494: what has crossed to or from the side of domain `d` in part is lost as if its links had gone down: the messages half received on
a port of it and half sent to one; for CCLK those of every port. -/
def flushSide (d : Nat) (h : Hw) : Hw :=
  let cut := fun (h : Hw) (eg : Nat) => cutTx eg (badOpen eg h)
  if d = 3 then ((List.range 72).filter (fun n => h.portWidth n != 0) ++ [72, 74, 76, 78]).foldl cut h
  else if 4 ≤ d ∧ d < 22 then (octetPorts h (d - 4)).foldl cut h
  else if 34 ≤ d then cut h (72 + 2 * (d - 34))
  else h

/-- R215, R494: the reads of channel `c` that have not been answered are discarded: each ends with an error, which the home takes as poison,
and its tag takes the next generation. -/
def flushReads (c : Nat) (m : Mach) : Mach :=
  let las := ((m.hw.hd.txns.filter (fun x => x.2.reading)).map (fun x => x.2.req.la)).filter
    (fun la => (domeMap m.hw (la * 64)).prim == c)
  las.foldl (fun m la =>
    homeRead la (0, true) (m.onHw (fun h => h.closeTag (.dd c) (ddTag (la * 64) (h.homeMaster (la * 64)))))) m

/-- RESET_NOTICE (R494): the other side of a crossing takes the notice of domain `d`: pending accesses to it end with RESET_ABORT,
messages on their way through it are cut, and new crossings are refused. -/
def execResetNotice (d : Nat) (s : State) : Out :=
  onMach (fun m =>
    if 38 ≤ d then m
    else
      let m1 := abortPend (fun a => a.dom == d)
        (m.onHw (fun h => (h.fset F.CK_DOMSTAT_NOTICE d 1).fset F.CK_DOMSTAT_RST d 1))
      let m2 := m1.onHw (flushSide d)
      mgRun (if 22 ≤ d ∧ d < 34 then flushReads (d - 22) m2 else m2)) s

/-- RESET_READY (R494): the side that was in reset is ready, and NOTICE clears. -/
def execResetReady (d : Nat) (s : State) : Out :=
  onMach (fun m =>
    if 38 ≤ d then m else m.onHw (fun h => (h.fset F.CK_DOMSTAT_NOTICE d 0).fset F.CK_DOMSTAT_RST d 0)) s

/-- WAKE_COMPLETE (R491, R496, R504): the core is ready, and the accesses that waited for it complete. -/
def execWakeComplete (us : Nat) (s : State) : Out :=
  onMach (fun m =>
    if m.hw.fget F.CK_PWRSTAT_STATE 0 = 6 then
      let x := takePend (fun a => domAnswers (wakeEnd us m.hw) a.dom) (m.onHw (wakeEnd us))
      mgRun (x.1.foldl (fun m a => perform a m) x.2)
    else m) s

/-- REGREQ (R540, R584): a register request joins those that wait for the barrier channel. -/
def execRegreq (ok : Bool) (seq : Nat) (payload : List Byte) (s : State) : Out :=
  onMach (fun m => mgRun (m.onHw (barRecv true ok 0x16 seq payload (decide (byteAt payload 0 ≤ 1)) (fun h =>
    { h with bc := { h.bc with reqs := h.bc.reqs ++ [payload] } })))) s

/-- Whether a path is a CCI. -/
def isCci (p : Path) : Bool := lane p == 3

/-- R585: a vendor command: refused, of the wrong length, or the access. CXL return codes PRESUMED: 3 Unsupported, 0x16 Invalid
Payload Length. -/
def cciAccess (p : Path) (write : Bool) (payload : List Byte) (m : Mach) : Mach :=
  if isCci p = false ∨ busyPath p m.hw then m
  else if cciMode p m.hw < 1 + b2n write then m.onHw (fun h => h.emit (.cciRsp p 3 []))
  else if payload.length ≠ 4 + 4 * b2n write then m.onHw (fun h => h.emit (.cciRsp p 0x16 []))
  else access p .cci write (leAt payload 0 4) 4 (leAt payload 4 4) m

/-- ONAMENEX_REGISTER_READ (R585). -/
def execOnamenexRegisterRead (p : Path) (payload : List Byte) (s : State) : Out := onMach (cciAccess p false payload) s

/-- ONAMENEX_REGISTER_WRITE (R585). -/
def execOnamenexRegisterWrite (p : Path) (payload : List Byte) (s : State) : Out := onMach (cciAccess p true payload) s

/-- DBGACC (R642): Capture-DR shifts out the result of the latest access; Update-DR issues an access to a window register, or sets IGN
while one has not ended. -/
def execDbgacc (update : Bool) (bits : Nat) (s : State) : Out :=
  onMach (fun m =>
    let m1 := m.onHw (setIr 0x10)
    let busy := busyPath .debug m1.hw
    let op := bits % 4
    if !update then
      let r := m1.hw.dt.res
      m1.onHw (fun h => h.emit (.tdo 41 (if busy then 2 ^ 40 else r.1 + r.2 * 2 ^ 8)))
    else if busy then m1.onHw (fun h => h.fset F.DT_DBGSTAT_IGN 0 1)
    else if op = 1 ∨ op = 2 then access .debug .tap (op == 2) (0x100 + 4 * (bits / 4 % 4)) 4 (bits / 16 % 2 ^ 32) m1
    else m1) s

end Sys2Proof.Machine
end

