-- ==== Sys2Proof/Machine/Resets.lean ====
section
/-! DEFINITION. The module reset (R497 to R499, R468) and the fabric reset (R500, R501, R304, R563), and the match of a response
against its internal tag (R23, R31). -/
namespace Sys2Proof.Machine

/-! ### Internal tags -/

/-- R31: whether a response to a tenant's tag (TID * 2^32 + request) matches: an outstanding request, the current TGEN. -/
def tenantTagOk (r : TagRsp) (h : Hw) : Bool :=
  let t := r.tag / 2 ^ 32
  let q := r.tag % 2 ^ 32
  r.gen == ttGen (h.ent t) && !h.bd.abandoned.contains (t, q) &&
    (h.bd.reads.any (fun x => x.tid == t && x.rid == q) || h.bd.writes.any (fun x => x.tid == t && x.wid == q))

/-- R23, R31, R327: whether a response matches its tag: the tag awaits one, of its present generation. A Dome channel's tag awaits
one as long as its read has not timed out. -/
def tagMatches (r : TagRsp) (h : Hw) : Bool :=
  match r.blk with
  | .bd => tenantTagOk r h
  | .dd c => r.gen == h.tagGen (.dd c) r.tag
  | b => h.tagOpen b r.tag && r.gen == h.tagGen b r.tag

/-- R31: an abandoned tag whose response has come is forgotten. -/
def forgetTag (r : TagRsp) (h : Hw) : Hw :=
  match r.blk with
  | .bd => { h with bd := { h.bd with abandoned := h.bd.abandoned.erase (r.tag / 2 ^ 32, r.tag % 2 ^ 32) } }
  | _ => h

/-- R494: the answer of a crossing ends the access that waits for it. -/
def crossAnswered (tag : Nat) (m : Mach) : Mach :=
  let x := takePend (fun a => accTag a == tag) m
  mgRun (x.1.foldl (fun m a => perform a m) x.2)

/-- INTERNAL_RESPONSE (R23, R31, R494): a response that matches goes to its block, where that of a crossing ends its access; any
other is discarded and counted. -/
def execInternalResponse (r : TagRsp) (s : State) : Out :=
  onMach (fun m =>
    if tagMatches r m.hw then
      let m1 := m.onHw (fun h => h.emit (.tagRsp r true))
      if r.blk = .ck then crossAnswered r.tag m1 else m1
    else m.onHw (fun h => ((forgetTag r h).countLate r.blk).emit (.tagRsp r false))) s

/-! ### Module reset -/

/-- R497, R499: every fabric-side domain is reset and start-up is asked for with the cause; flash, fuses and Watchtower stay, and the
barrier channel's link goes down. The TAP's shift registers are clocked by the prober and stay. -/
def moduleReset (cause : Nat) (m : Mach) : Mach :=
  let h := m.hw
  let ck : CkState := { CkState.off with
    on := true, trip := h.ck.trip, por := h.ck.por, boot := if h.ck.por then none else some cause }
  let h1 : Hw := { Hw.reset with
    out := h.out, free := h.free, otp := h.otp, wt := (barDown h).wt, ck := ck,
    dt := { DtState.idle with ir := h.dt.ir, bsr := h.dt.bsr } }
  { mem := { Mem.reset with flash := m.mem.flash }
    hw := (h1.fset F.CK_RSTSTAT_MCAUSE 0 cause).fset F.CK_RSTSTAT_FCAUSE 0 4 }

/-- MODULE_RESET (R499): the module reset that was asked for. -/
def execModuleReset (s : State) : Out :=
  onMach (fun m => match m.hw.ck.modReq with
    | some cause => moduleReset cause m
    | none => m) s

/-! ### Fabric reset (R501) -/

/-- Step 1: HALT; every fabric and Spire link down with reason LOCAL. -/
def resetLinks (h : Hw) : Hw :=
  let h1 := h.fset F.SW_CTRL_HALT 0 1
  let h2 := (List.range 72).foldl (fun h n => if h.flag F.FP_LSTAT_UP n then takeDown n 9 h else h) h1
  (List.range 4).foldl (fun h s => if h.slUp s then spireDown s 7 h else h) h2

/-- Step 2: the unbind steps of R62 on one tenant. Its links are down, so no line waits for a back-invalidation. -/
def resetTenant (m : Mach) (t : Nat) : Mach :=
  let m1 := startAbort t m
  let m2 := m1.onHw (fun h =>
    let h1 := paceClear t (freeQueued t h)
    { h1 with bd := { h1.bd with xc := Store.dropWhere h1.bd.xc (fun k => k / 2 ^ 26 == t) } })
  unbindEnd t m2

/-- Step 2: every tenant that is not FREE. -/
def resetTenants (m : Mach) : Mach := (m.hw.tidsWhere (fun e => ttState e != 0)).foldl resetTenant m

/-- The collector takes the messages that wait, at most `n`. -/
def drainFaults (m : Mach) : Nat → Mach
  | 0 => m
  | n + 1 =>
    match nextQueue m.hw with
    | none => m
    | some p =>
      match (m.hw.queue p).head? with
      | none => m
      | some x => drainFaults (processFault x (p == 16) (m.onHw (takeFault p))) n

/-- R497: whether a fabric reset keeps field `id`: the registers in MCLK and BCLK (blocks 0, 1, 14 and 15), sticky fields, Dome
training, the plan digest and INC. -/
def keepsField (id : Nat) : Bool :=
  let within := fun (b : Nat) => decide ((blockIds b).1 ≤ id ∧ id < (blockIds b).2)
  within 0 || within 1 || within 14 || within 15 ||
  ([F.FC_ALM_CTRL_SWLVL, F.FC_ALM_CTRL_ARMED, F.FC_ALM_CTRL_PULSE, F.FC_ALM_CTRL_ALM, F.FC_STAT_LOSTHI, F.FC_LOGWR_VAL,
    F.FC_LOGRD_VAL, F.FC_FE_VAL, F.FC_FESTAT_VALID, F.DD_CHSTAT_STATE, F.DD_CHSTAT_REASON, F.DD_CHSTAT_DPC2, F.DD_CHSTAT_X8,
    F.DD_CHSTAT_RANKS, F.DD_CHCAP_VAL, F.DD_SCRINTV_VAL, F.DD_STAT_READY, F.DD_STAT_MODE, F.DD_STAT_RATE, F.DD_STAT_GRPUSE,
    F.DD_STAT_TTSRED, F.DD_DOMEEXT_VAL, F.DD_TTSFIRST_VAL, F.DD_GRPBASE_VAL, F.DD_GRPEXT_VAL, F.SL_PLANDIG_LO_VAL,
    F.SL_PLANDIG_HI_VAL, F.SL_STKSTAT_INC].map Fld.id).contains id

/-- R468: the fault state of a domain after a fabric reset: DEVICE keeps it, the others keep RCNT. -/
def domAfter (didx : Nat) (d : Dom) : Dom := if didx = 0 then d else { Dom.ok with rcnt := d.rcnt }

/-- R23: the tags of the blocks in CCLK that await a response close. -/
def closeTags (h : Hw) : Hw := h.closeWhere (fun k => k / 2 ^ 64 != tagBase .ck)

/-- Steps 3 and 4: every queue, cell and page is free, and the blocks in CCLK, OCLK and SCLK return to their reset state. -/
def resetBlocks (h : Hw) : Hw :=
  let doms := (h.fc.doms.map (fun x => (x.1, domAfter x.1 x.2))).filter (fun x => x.2 != Dom.ok)
  let h1 := closeTags h
  { h1 with
    regs := h.regs.filter (fun x => keepsField (x.1 / 65536))
    fc := { h.fc with queues := [], outside := [], rot := 0, doms := doms }
    sp := ⟨[], []⟩
    dd := { h.dd with ueTimes := [] }
    bd := { h.bd with xc := [], miss := [], writes := [], reads := [], abandoned := [], seqs := [], flush := [], adds := [],
                      rels := [], allocs := [] }
    sw := { Hw.reset.sw with leak := h.sw.leak, dup := h.sw.dup, pgLeak := h.sw.pgLeak, pgDup := h.sw.pgDup }
    ts := Hw.reset.ts
    fp := { Hw.reset.fp with refOk := h.fp.refOk, octUnlocked := h.fp.octUnlocked }
    hd := Hw.reset.hd
    cu := Hw.reset.cu
    dm := { Hw.reset.dm with zero := h.dm.zero } }

/-- Step 6: Turret re-applies the IMG fields, with DD_SCRINTV for the PERIOD that this gives (R330), and the image's region descriptors
(R344), samples OCTMODE and the stack ID, and increments INC; the local route entries are written again. Stack time restarts where no peer
was ALIVE (`solo`). -/
def resetSample (solo : Bool) (h : Hw) : Hw :=
  let h1 := sampleLayout (recomputeScrub (applyRegions (reapplyImg keepsField { h with sw := { h.sw with routes := [] } })))
  let spen := h1.flag F.DD_STAT_READY 0 && h1.fget F.DD_STAT_GRPUSE 0 != 0
  let h1 := if spen then checkSpill h1 else h1.fset F.SW_CTRL_SPEN 0 0
  let h2 := stackReset h1.wt.slot ((List.range 72).foldl (fun h n => restoreRate n h) (takeRoles h1))
  boundAll (coreRates (localRoutes { h2 with stime := if solo then 0 else h.stime }))

/-- Steps 6 and 7, and what CK records: local time restarts, the recovery clock runs on by the time the reset took (R466). -/
def resetFinish (cause ms : Nat) (h : Hw) : Hw :=
  let h1 := ((h.fset F.CK_RSTSTAT_FCAUSE 0 cause).fadd F.CK_RSTSTAT_FCNT 0 1).fset F.CK_RSTSTAT_BUSY 0 0
  let h2 := { h1 with ck := { h1.ck with fabReq := none, running := none, ltime := 0, recNs := h1.ck.recNs + ms * 1000000 } }
  resetDone 0 (if h2.inHold then h2 else h2.fset F.SW_CTRL_HALT 0 0)

/-- R494: what the other side of the crossings into CCLK, OCLK, DCLK and SCLK had waiting ends with RESET_ABORT. -/
def resetCrossings (m : Mach) : Mach :=
  let m1 := abortPend (fun a => decide (3 ≤ a.dom)) m
  mgRun (match m1.hw.mg.beat with
    | some b =>
      if beatWaits m1.hw then
        endBeat 5 0 (m1.onHw (countAbort ⟨b.path, b.acc.getD .cmd, b.write, b.addr, b.size, b.data, 3, false, true⟩))
      else m1
    | none => m1)

/-- A fabric reset with its cause; `ms` is how long it took. -/
def fabricReset (cause ms : Nat) (m : Mach) : Mach :=
  let solo := ((List.range 8).filter (fun d => m.hw.peerState d == 1)).isEmpty
  let m1 := drainFaults (resetTenants (dmFabricReset (m.onHw resetLinks))) 512
  let m2 := m1.onHw (fun h => resetSample solo (auditRun (resetBlocks h)))
  let old := counters m2
  let m3 := if m2.hw.inHold then m2
    else counterAppend (m2.hw.fget F.SL_STKSTAT_INC 0) old.2.1 old.2.2 m2
  resetCrossings (m3.onHw (resetFinish cause ms))

/-- FABRIC_RESET (R500, R501): the fabric reset that was asked for; a module reset takes it over (R498), and it waits for the end of
PFW, since its counter record cannot be written before (R562, R571). -/
def execFabricReset (ms : Nat) (s : State) : Out :=
  onMach (fun m => match m.hw.ck.fabReq with
    | some cause => if m.hw.ck.modReq.isSome ∨ m.hw.flag F.BC_STAT_PFW 0 then m else fabricReset cause ms m
    | none => m) s

end Sys2Proof.Machine
end

