-- ==== Sys2Proof/Machine/Dispatch.lean ====
section
/-! DEFINITION. What each command does: one arm per constructor, each a direct call of its meaning. -/
namespace Sys2Proof.Machine

/-- The effect of a command on everything but the queue of waiting commands. -/
def exec (i : Instr) (s : State) : Host.Outcome State Fault Refusal :=
  match i with
  | .registerWrite p addr size data => Sys2Proof.Machine.execRegisterWrite p addr size data s
  | .rcFieldRead p addr size => Sys2Proof.Machine.execRcFieldRead p addr size s
  | .loRegisterRead p addr size => Sys2Proof.Machine.execLoRegisterRead p addr size s
  | .loRegisterWrite p addr size data => Sys2Proof.Machine.execLoRegisterWrite p addr size data s
  | .hiRegisterWrite p addr size data => Sys2Proof.Machine.execHiRegisterWrite p addr size data s
  | .internalResponse r => Sys2Proof.Machine.execInternalResponse r s
  | .bdTtcmdNop p tid => Sys2Proof.Machine.execBdTtcmdNop p tid s
  | .bdTtcmdRead p tid => Sys2Proof.Machine.execBdTtcmdRead p tid s
  | .bdTtcmdWrite p tid => Sys2Proof.Machine.execBdTtcmdWrite p tid s
  | .bdTtcmdBind p tid => Sys2Proof.Machine.execBdTtcmdBind p tid s
  | .bdTtcmdReset p tid => Sys2Proof.Machine.execBdTtcmdReset p tid s
  | .bdTtcmdUnbind p tid => Sys2Proof.Machine.execBdTtcmdUnbind p tid s
  | .queuedCommandStart => Sys2Proof.Machine.execQueuedCommandStart s
  | .bindVppb port vppb phys ldid => Sys2Proof.Machine.execBindVppb port vppb phys ldid s
  | .unbindVppb port vppb => Sys2Proof.Machine.execUnbindVppb port vppb s
  | .policyBind port => Sys2Proof.Machine.execPolicyBind port s
  | .secondaryBusReset port vppb => Sys2Proof.Machine.execSecondaryBusReset port vppb s
  | .hotReset port => Sys2Proof.Machine.execHotReset port s
  | .initiateDynamicCapacityAdd r => Sys2Proof.Machine.execInitiateDynamicCapacityAdd r s
  | .addDynamicCapacityResponse tid accepted => Sys2Proof.Machine.execAddDynamicCapacityResponse tid accepted s
  | .addTimeout tid tag => Sys2Proof.Machine.execAddTimeout tid tag s
  | .releaseDynamicCapacity tid list => Sys2Proof.Machine.execReleaseDynamicCapacity tid list s
  | .initiateDynamicCapacityRelease tid list forced => Sys2Proof.Machine.execInitiateDynamicCapacityRelease tid list forced s
  | .releaseDrainDone tid => Sys2Proof.Machine.execReleaseDrainDone tid s
  | .releaseDrainTimeout tid => Sys2Proof.Machine.execReleaseDrainTimeout tid s
  | .releaseBiDone tid eidx => Sys2Proof.Machine.execReleaseBiDone tid eidx s
  | .releaseMigrationWaitEnd tid eidx => Sys2Proof.Machine.execReleaseMigrationWaitEnd tid eidx s
  | .extentZeroDone ext => Sys2Proof.Machine.execExtentZeroDone ext s
  | .tenantDrainEnd tid => Sys2Proof.Machine.execTenantDrainEnd tid s
  | .tenantDrainTimeout tid => Sys2Proof.Machine.execTenantDrainTimeout tid s
  | .tenantAbortEnd tid => Sys2Proof.Machine.execTenantAbortEnd tid s
  | .tenantFlushEnd tid => Sys2Proof.Machine.execTenantFlushEnd tid s
  | .quarantineEnd tid => Sys2Proof.Machine.execQuarantineEnd tid s
  | .bdTdrainArm tid => Sys2Proof.Machine.execBdTdrainArm tid s
  | .writeVisible tid wid => Sys2Proof.Machine.execWriteVisible tid wid s
  | .messageIngress m => Sys2Proof.Machine.execMessageIngress m s
  | .cxlMemM2sRequest port vppb m => Sys2Proof.Machine.execCxlMemM2sRequest port vppb m s
  | .translationCacheFill tid eidx dec mirrorDec => Sys2Proof.Machine.execTranslationCacheFill tid eidx dec mirrorDec s
  | .homeHostRequest m op gpa data en rivals => Sys2Proof.Machine.execHomeHostRequest m op gpa data en rivals s
  | .homeRdshared m rivals => Sys2Proof.Machine.execHomeRdshared m rivals s
  | .homeRdown m rivals => Sys2Proof.Machine.execHomeRdown m rivals s
  | .homeUpgrade m rivals => Sys2Proof.Machine.execHomeUpgrade m rivals s
  | .homeWbdirty m rivals => Sys2Proof.Machine.execHomeWbdirty m rivals s
  | .homeWbclean m rivals => Sys2Proof.Machine.execHomeWbclean m rivals s
  | .homeEvict m rivals => Sys2Proof.Machine.execHomeEvict m rivals s
  | .homeSnoopAck m => Sys2Proof.Machine.execHomeSnoopAck m s
  | .homeInvack m => Sys2Proof.Machine.execHomeInvack m s
  | .homeDatam m => Sys2Proof.Machine.execHomeDatam m s
  | .homeDatao m => Sys2Proof.Machine.execHomeDatao m s
  | .homeBirsp port tid addr r => Sys2Proof.Machine.execHomeBirsp port tid addr r s
  | .homeCompletionAck m => Sys2Proof.Machine.execHomeCompletionAck m s
  | .biconflict port tid addr => Sys2Proof.Machine.execBiconflict port tid addr s
  | .bisnpTimeout port tid addr => Sys2Proof.Machine.execBisnpTimeout port tid addr s
  | .fenceReceive m => Sys2Proof.Machine.execFenceReceive m s
  | .fenceAckSend src txn => Sys2Proof.Machine.execFenceAckSend src txn s
  | .cupolaSnpshared m => Sys2Proof.Machine.execCupolaSnpshared m s
  | .cupolaSnpinv m => Sys2Proof.Machine.execCupolaSnpinv m s
  | .cupolaSnpfwdshared m => Sys2Proof.Machine.execCupolaSnpfwdshared m s
  | .cupolaSnpfwdown m => Sys2Proof.Machine.execCupolaSnpfwdown m s
  | .cupolaHostBirsp port tid addr r => Sys2Proof.Machine.execCupolaHostBirsp port tid addr r s
  | .cupolaDatas m => Sys2Proof.Machine.execCupolaDatas m s
  | .cupolaDatae m => Sys2Proof.Machine.execCupolaDatae m s
  | .cupolaDatam m => Sys2Proof.Machine.execCupolaDatam m s
  | .cupolaAck m => Sys2Proof.Machine.execCupolaAck m s
  | .cupolaRetry m => Sys2Proof.Machine.execCupolaRetry m s
  | .retryBackoffExpire rec => Sys2Proof.Machine.execRetryBackoffExpire rec s
  | .tenureHoldEnd rec => Sys2Proof.Machine.execTenureHoldEnd rec s
  | .cupolaHostSharedRead m gpa wantData => Sys2Proof.Machine.execCupolaHostSharedRead m gpa wantData s
  | .cupolaHostOwnershipRead m gpa wantData => Sys2Proof.Machine.execCupolaHostOwnershipRead m gpa wantData s
  | .cupolaNoncachingRead m gpa => Sys2Proof.Machine.execCupolaNoncachingRead m gpa s
  | .cupolaNoncachingWrite m op gpa data en => Sys2Proof.Machine.execCupolaNoncachingWrite m op gpa data en s
  | .reclaimWalkStart => Sys2Proof.Machine.execReclaimWalkStart s
  | .reclaimSetStep slice => Sys2Proof.Machine.execReclaimSetStep slice s
  | .reclaimWalkEnd => Sys2Proof.Machine.execReclaimWalkEnd s
  | .hdDeadClear agent => Sys2Proof.Machine.execHdDeadClear agent s
  | .sliceFailure slice => Sys2Proof.Machine.execSliceFailure slice s
  | .hdRbctrlGo p data => Sys2Proof.Machine.execHdRbctrlGo p data s
  | .sliceTakeover => Sys2Proof.Machine.execSliceTakeover s
  | .rebuildLine la => Sys2Proof.Machine.execRebuildLine la s
  | .rebuildEnd => Sys2Proof.Machine.execRebuildEnd s
  | .swRtcmdNop p ridx => Sys2Proof.Machine.execSwRtcmdNop p ridx s
  | .swRtcmdRead p ridx => Sys2Proof.Machine.execSwRtcmdRead p ridx s
  | .swRtcmdUpdate p ridx => Sys2Proof.Machine.execSwRtcmdUpdate p ridx s
  | .swRtcmdUpdateRevoke p ridx => Sys2Proof.Machine.execSwRtcmdUpdateRevoke p ridx s
  | .routeUpdateComplete => Sys2Proof.Machine.execRouteUpdateComplete s
  | .matchingSlot => Sys2Proof.Machine.execMatchingSlot s
  | .egressSelect xp credit ecc => Sys2Proof.Machine.execEgressSelect xp credit ecc s
  | .ageingCheck => Sys2Proof.Machine.execAgeingCheck s
  | .spillWrite w => Sys2Proof.Machine.execSpillWrite w s
  | .spillRefillRead qid => Sys2Proof.Machine.execSpillRefillRead qid s
  | .spillReadAnswer qid ans => Sys2Proof.Machine.execSpillReadAnswer qid ans s
  | .spillRelink qid => Sys2Proof.Machine.execSpillRelink qid s
  | .spillReadTimeout qid => Sys2Proof.Machine.execSpillReadTimeout qid s
  | .multicastLegDone mid qid => Sys2Proof.Machine.execMulticastLegDone mid qid s
  | .multicastCreditTimeout qid => Sys2Proof.Machine.execMulticastCreditTimeout qid s
  | .swAudctrlGo => Sys2Proof.Machine.execSwAudctrlGo s
  | .auditEnd => Sys2Proof.Machine.execAuditEnd s
  | .shaperSlotBoundary => Sys2Proof.Machine.execShaperSlotBoundary s
  | .shaperConfigWrite qid limits data => Sys2Proof.Machine.execShaperConfigWrite qid limits data s
  | .pacingRelease port => Sys2Proof.Machine.execPacingRelease port s
  | .pacingWheelTick => Sys2Proof.Machine.execPacingWheelTick s
  | .tsPaceRateWrite tid rate => Sys2Proof.Machine.execTsPaceRateWrite tid rate s
  | .samplerCapture => Sys2Proof.Machine.execSamplerCapture s
  | .dmRtailDoorbell p ring data => Sys2Proof.Machine.execDmRtailDoorbell p ring data s
  | .dmDispatch => Sys2Proof.Machine.execDmDispatch s
  | .copy eng => Sys2Proof.Machine.execCopy eng s
  | .fill eng => Sys2Proof.Machine.execFill eng s
  | .verify eng => Sys2Proof.Machine.execVerify eng s
  | .migrateStart eng => Sys2Proof.Machine.execMigrateStart eng s
  | .migrateAbandon eng => Sys2Proof.Machine.execMigrateAbandon eng s
  | .dmFence ring => Sys2Proof.Machine.execDmFence ring s
  | .dmFenceSatisfied ring => Sys2Proof.Machine.execDmFenceSatisfied ring s
  | .dmWindowReadsDone eng ring => Sys2Proof.Machine.execDmWindowReadsDone eng ring s
  | .dmWindowCommit eng => Sys2Proof.Machine.execDmWindowCommit eng s
  | .dmRcfgWrite p ring data => Sys2Proof.Machine.execDmRcfgWrite p ring data s
  | .dmEngineFailure eng => Sys2Proof.Machine.execDmEngineFailure eng s
  | .migrationLineLock eng => Sys2Proof.Machine.execMigrationLineLock eng s
  | .migrationLockRetry => Sys2Proof.Machine.execMigrationLockRetry s
  | .migrationLineCopied eng line => Sys2Proof.Machine.execMigrationLineCopied eng line s
  | .migrationCommit rec timedOut => Sys2Proof.Machine.execMigrationCommit rec timedOut s
  | .domeInitComplete => Sys2Proof.Machine.execDomeInitComplete s
  | .domeReadComplete off rd dec mirrorDec wrSince => Sys2Proof.Machine.execDomeReadComplete off rd dec mirrorDec wrSince s
  | .domeWrite off data master w cmdFail => Sys2Proof.Machine.execDomeWrite off data master w cmdFail s
  | .domePartialWrite off data en master w dec => Sys2Proof.Machine.execDomePartialWrite off data en master w dec s
  | .domeMetadataWrite off hint dec => Sys2Proof.Machine.execDomeMetadataWrite off hint dec s
  | .domeReadTimeout off master => Sys2Proof.Machine.execDomeReadTimeout off master s
  | .scrubRead ch dec wrSince => Sys2Proof.Machine.execScrubRead ch dec wrSince s
  | .ddCfgWrite p data => Sys2Proof.Machine.execDdCfgWrite p data s
  | .agRdcmdNop p idx => Sys2Proof.Machine.execAgRdcmdNop p idx s
  | .agRdcmdRead p idx => Sys2Proof.Machine.execAgRdcmdRead p idx s
  | .agRdcmdWrite p idx => Sys2Proof.Machine.execAgRdcmdWrite p idx s
  | .agVinfoValidClear => Sys2Proof.Machine.execAgVinfoValidClear s
  | .agSyssetWrite p data => Sys2Proof.Machine.execAgSyssetWrite p data s
  | .prsntChange port present dpcEnabled => Sys2Proof.Machine.execPrsntChange port present dpcEnabled s
  | .downPerstRelease port => Sys2Proof.Machine.execDownPerstRelease port s
  | .hostPerstAssert port => Sys2Proof.Machine.execHostPerstAssert port s
  | .linkUp port rate width mode cxl mps => Sys2Proof.Machine.execLinkUp port rate width mode cxl mps s
  | .equalisationFailure port rate => Sys2Proof.Machine.execEqualisationFailure port rate s
  | .linkDown port why => Sys2Proof.Machine.execLinkDown port why s
  | .octetPllUnlock octet => Sys2Proof.Machine.execOctetPllUnlock octet s
  | .octetRelock octet ok => Sys2Proof.Machine.execOctetRelock octet ok s
  | .hostGraceExpiry port => Sys2Proof.Machine.execHostGraceExpiry port s
  | .l0sEntry port rx => Sys2Proof.Machine.execL0sEntry port rx s
  | .l0sExit port rx => Sys2Proof.Machine.execL0sExit port rx s
  | .l0pEntry port width partner => Sys2Proof.Machine.execL0pEntry port width partner s
  | .l0pExit port partner => Sys2Proof.Machine.execL0pExit port partner s
  | .l1Request port aspm => Sys2Proof.Machine.execL1Request port aspm s
  | .l1Exit port partner => Sys2Proof.Machine.execL1Exit port partner s
  | .ideKmKeyProgram port stream kind go => Sys2Proof.Machine.execIdeKmKeyProgram port stream kind go s
  | .ideIntegrityFailure port stream => Sys2Proof.Machine.execIdeIntegrityFailure port stream s
  | .fpPctrlRetrain p port => Sys2Proof.Machine.execFpPctrlRetrain p port s
  | .fpPctrlResetfb p port => Sys2Proof.Machine.execFpPctrlResetfb p port s
  | .fpPctrlDisable p port v => Sys2Proof.Machine.execFpPctrlDisable p port v s
  | .fpPctrlTestmode p port v => Sys2Proof.Machine.execFpPctrlTestmode p port v s
  | .ltCtrlWrite p lane data => Sys2Proof.Machine.execLtCtrlWrite p lane data s
  | .ltInjOne p lane data => Sys2Proof.Machine.execLtInjOne p lane data s
  | .checkerLock lane => Sys2Proof.Machine.execCheckerLock lane s
  | .checkerLoseLock lane => Sys2Proof.Machine.execCheckerLoseLock lane s
  | .refclkWindow group inRange => Sys2Proof.Machine.execRefclkWindow group inRange s
  | .spireFlitReceive port ftype fseq aseq av rest => Sys2Proof.Machine.execSpireFlitReceive port ftype fseq aseq av rest s
  | .spireNakReceive port aseq => Sys2Proof.Machine.execSpireNakReceive port aseq s
  | .spireReplayTimeout port => Sys2Proof.Machine.execSpireReplayTimeout port s
  | .spireFrameForward port f => Sys2Proof.Machine.execSpireFrameForward port f s
  | .spireFrameDeliver port f ecrcOk => Sys2Proof.Machine.execSpireFrameDeliver port f ecrcOk s
  | .spireAckReceive src ackseq => Sys2Proof.Machine.execSpireAckReceive src ackseq s
  | .spireAckSend peer => Sys2Proof.Machine.execSpireAckSend peer s
  | .spireRetransmitTimeout peer tseq => Sys2Proof.Machine.execSpireRetransmitTimeout peer tseq s
  | .spirePortDown port why => Sys2Proof.Machine.execSpirePortDown port why s
  | .spireTraining port peer peerPort nmod digest delay => Sys2Proof.Machine.execSpireTraining port peer peerPort nmod digest delay s
  | .spireTrainingFail port lane => Sys2Proof.Machine.execSpireTrainingFail port lane s
  | .slPcfgRetrain p port => Sys2Proof.Machine.execSlPcfgRetrain p port s
  | .heartbeatSend => Sys2Proof.Machine.execHeartbeatSend s
  | .heartbeatReceive src inc => Sys2Proof.Machine.execHeartbeatReceive src inc s
  | .heartbeatTimeout peer => Sys2Proof.Machine.execHeartbeatTimeout peer s
  | .joinSend => Sys2Proof.Machine.execJoinSend s
  | .joinReceive src inc ackinc ackincv => Sys2Proof.Machine.execJoinReceive src inc ackinc ackincv s
  | .fenceoutReceive src inc => Sys2Proof.Machine.execFenceoutReceive src inc s
  | .timeSend => Sys2Proof.Machine.execTimeSend s
  | .timeReceive port time depth => Sys2Proof.Machine.execTimeReceive port time depth s
  | .tsyncTimeout => Sys2Proof.Machine.execTsyncTimeout s
  | .spireSleepS1 port rx => Sys2Proof.Machine.execSpireSleepS1 port rx s
  | .spireSleepS2 port rx => Sys2Proof.Machine.execSpireSleepS2 port rx s
  | .spireSleepExit port rx => Sys2Proof.Machine.execSpireSleepExit port rx s
  | .allocClaim src tag first cnt => Sys2Proof.Machine.execAllocClaim src tag first cnt s
  | .allocInc src tag first cnt => Sys2Proof.Machine.execAllocInc src tag first cnt s
  | .allocDec src tag first cnt => Sys2Proof.Machine.execAllocDec src tag first cnt s
  | .allocUnclaim src tag first cnt => Sys2Proof.Machine.execAllocUnclaim src tag first cnt s
  | .allocAnswer src tag result => Sys2Proof.Machine.execAllocAnswer src tag result s
  | .faultProcess => Sys2Proof.Machine.execFaultProcess s
  | .remoteFaultReceive m => Sys2Proof.Machine.execRemoteFaultReceive m s
  | .quietTimerExpiry didx => Sys2Proof.Machine.execQuietTimerExpiry didx s
  | .fcDcmdRelease => Sys2Proof.Machine.execFcDcmdRelease s
  | .fcDcmdRearm => Sys2Proof.Machine.execFcDcmdRearm s
  | .fcDcmdClrcnt => Sys2Proof.Machine.execFcDcmdClrcnt s
  | .fcFestatValidClear => Sys2Proof.Machine.execFcFestatValidClear s
  | .fcAlmArm => Sys2Proof.Machine.execFcAlmArm s
  | .fcAlmSwlvlWrite level => Sys2Proof.Machine.execFcAlmSwlvlWrite level s
  | .fcLogrdWrite rd => Sys2Proof.Machine.execFcLogrdWrite rd s
  | .persistLogWrite => Sys2Proof.Machine.execPersistLogWrite s
  | .persistQueueFlush => Sys2Proof.Machine.execPersistQueueFlush s
  | .domainTimeout p => Sys2Proof.Machine.execDomainTimeout p s
  | .resetNotice d => Sys2Proof.Machine.execResetNotice d s
  | .resetReady d => Sys2Proof.Machine.execResetReady d s
  | .standbyEntry stop => Sys2Proof.Machine.execStandbyEntry stop s
  | .standbyWake why => Sys2Proof.Machine.execStandbyWake why s
  | .wakeComplete us => Sys2Proof.Machine.execWakeComplete us s
  | .moduleReset => Sys2Proof.Machine.execModuleReset s
  | .fabricReset ms => Sys2Proof.Machine.execFabricReset ms s
  | .watchdogExpiry => Sys2Proof.Machine.execWatchdogExpiry s
  | .clockLockLoss => Sys2Proof.Machine.execClockLockLoss s
  | .ckRstcmdModule p => Sys2Proof.Machine.execCkRstcmdModule p s
  | .ckRstcmdFabric p => Sys2Proof.Machine.execCkRstcmdFabric p s
  | .ckRstcmdPort p inst => Sys2Proof.Machine.execCkRstcmdPort p inst s
  | .ckRstcmdTenant p inst => Sys2Proof.Machine.execCkRstcmdTenant p inst s
  | .ckRstcmdChannel p inst => Sys2Proof.Machine.execCkRstcmdChannel p inst s
  | .ckRstcmdSpire p inst => Sys2Proof.Machine.execCkRstcmdSpire p inst s
  | .ckRstcmdEngine p inst => Sys2Proof.Machine.execCkRstcmdEngine p inst s
  | .ckPwrcmdWake p => Sys2Proof.Machine.execCkPwrcmdWake p s
  | .feedValidRise feedB longOff => Sys2Proof.Machine.execFeedValidRise feedB longOff s
  | .watchtowerStop => Sys2Proof.Machine.execWatchtowerStop s
  | .seatingAssert => Sys2Proof.Machine.execSeatingAssert s
  | .debounceComplete slotPins => Sys2Proof.Machine.execDebounceComplete slotPins s
  | .seatingReleaseBegin pin2 => Sys2Proof.Machine.execSeatingReleaseBegin pin2 s
  | .seatingGlitch => Sys2Proof.Machine.execSeatingGlitch s
  | .seatingRemoval => Sys2Proof.Machine.execSeatingRemoval s
  | .latchClearRemoval => Sys2Proof.Machine.execLatchClearRemoval s
  | .currentLimitReached => Sys2Proof.Machine.execCurrentLimitReached s
  | .faultTimerExpiry => Sys2Proof.Machine.execFaultTimerExpiry s
  | .shortCircuitTrip => Sys2Proof.Machine.execShortCircuitTrip s
  | .passThermalTrip => Sys2Proof.Machine.execPassThermalTrip s
  | .rampmaxExpiry => Sys2Proof.Machine.execRampmaxExpiry s
  | .retryTimerExpiry => Sys2Proof.Machine.execRetryTimerExpiry s
  | .thermalTripRelease => Sys2Proof.Machine.execThermalTripRelease s
  | .feedOvervoltage => Sys2Proof.Machine.execFeedOvervoltage s
  | .overvoltageClear => Sys2Proof.Machine.execOvervoltageClear s
  | .gateFullyOn => Sys2Proof.Machine.execGateFullyOn s
  | .pgoodRise => Sys2Proof.Machine.execPgoodRise s
  | .pgoodFall undervoltage => Sys2Proof.Machine.execPgoodFall undervoltage s
  | .converterDisable => Sys2Proof.Machine.execConverterDisable s
  | .pfwRise => Sys2Proof.Machine.execPfwRise s
  | .pfwFall => Sys2Proof.Machine.execPfwFall s
  | .feedloss feedB => Sys2Proof.Machine.execFeedloss feedB s
  | .feedrestore feedB => Sys2Proof.Machine.execFeedrestore feedB s
  | .retryCountClear => Sys2Proof.Machine.execRetryCountClear s
  | .smbusMctpWrite pec payload => Sys2Proof.Machine.execSmbusMctpWrite pec payload s
  | .smbusStatusRead tel => Sys2Proof.Machine.execSmbusStatusRead tel s
  | .smbusResetRequest pec data => Sys2Proof.Machine.execSmbusResetRequest pec data s
  | .smbusRegisterRequest pec payload => Sys2Proof.Machine.execSmbusRegisterRequest pec payload s
  | .smbusRegisterResponseRead => Sys2Proof.Machine.execSmbusRegisterResponseRead s
  | .smbusClockLowTimeout => Sys2Proof.Machine.execSmbusClockLowTimeout s
  | .mctpoutRetry => Sys2Proof.Machine.execMctpoutRetry s
  | .ackFrame fab alarm ok payload => Sys2Proof.Machine.execAckFrame fab alarm ok payload s
  | .hello fab ok payload => Sys2Proof.Machine.execHello fab ok payload s
  | .sleep ok payload => Sys2Proof.Machine.execSleep ok payload s
  | .pwr ok payload => Sys2Proof.Machine.execPwr ok payload s
  | .status ok payload => Sys2Proof.Machine.execStatus ok payload s
  | .event ok seq payload => Sys2Proof.Machine.execEvent ok seq payload s
  | .cfgrpt ok seq payload => Sys2Proof.Machine.execCfgrpt ok seq payload s
  | .mctpin ok seq payload => Sys2Proof.Machine.execMctpin ok seq payload s
  | .rstreq ok seq payload => Sys2Proof.Machine.execRstreq ok seq payload s
  | .regreq ok seq payload => Sys2Proof.Machine.execRegreq ok seq payload s
  | .alarm ok seq payload => Sys2Proof.Machine.execAlarm ok seq payload s
  | .almlvl ok seq payload => Sys2Proof.Machine.execAlmlvl ok seq payload s
  | .setcfg ok seq payload => Sys2Proof.Machine.execSetcfg ok seq payload s
  | .mctpout ok seq payload => Sys2Proof.Machine.execMctpout ok seq payload s
  | .regrsp ok seq payload => Sys2Proof.Machine.execRegrsp ok seq payload s
  | .barrierResendTimeout fab => Sys2Proof.Machine.execBarrierResendTimeout fab s
  | .alarmRepeat => Sys2Proof.Machine.execAlarmRepeat s
  | .pwrRepeat => Sys2Proof.Machine.execPwrRepeat s
  | .statusRepeat tel => Sys2Proof.Machine.execStatusRepeat tel s
  | .helloRepeat fab => Sys2Proof.Machine.execHelloRepeat fab s
  | .barrierSync fab => Sys2Proof.Machine.execBarrierSync fab s
  | .barrierLinkDown fab syncLost => Sys2Proof.Machine.execBarrierLinkDown fab syncLost s
  | .alarmPulseEnd => Sys2Proof.Machine.execAlarmPulseEnd s
  | .bcWcfg3Write p data => Sys2Proof.Machine.execBcWcfg3Write p data s
  | .startUp pops readA readB ms => Sys2Proof.Machine.execStartUp pops readA readB ms s
  | .slotConfirmation => Sys2Proof.Machine.execSlotConfirmation s
  | .idLdcmdNop p slot => Sys2Proof.Machine.execIdLdcmdNop p slot s
  | .loadBegin p slot => Sys2Proof.Machine.execLoadBegin p slot s
  | .loadWrite p slot => Sys2Proof.Machine.execLoadWrite p slot s
  | .loadCommit p slot => Sys2Proof.Machine.execLoadCommit p slot s
  | .loadAbort p slot => Sys2Proof.Machine.execLoadAbort p slot s
  | .loadActivate p slot => Sys2Proof.Machine.execLoadActivate p slot s
  | .loadPersistclr p slot => Sys2Proof.Machine.execLoadPersistclr p slot s
  | .loadPlogread p slot => Sys2Proof.Machine.execLoadPlogread p slot s
  | .loadPfwWaitEnd => Sys2Proof.Machine.execLoadPfwWaitEnd s
  | .getFwInfo p => Sys2Proof.Machine.execGetFwInfo p s
  | .transferFw p action slot offset data readOk => Sys2Proof.Machine.execTransferFw p action slot offset data readOk s
  | .activateFw p online slot => Sys2Proof.Machine.execActivateFw p online slot s
  | .spdmGetCertificate ep slot off len => Sys2Proof.Machine.execSpdmGetCertificate ep slot off len s
  | .spdmChallenge ep slot nonce => Sys2Proof.Machine.execSpdmChallenge ep slot nonce s
  | .spdmGetMeasurements ep index nonce sign => Sys2Proof.Machine.execSpdmGetMeasurements ep index nonce sign s
  | .spdmKeyExchange ep slot exchange => Sys2Proof.Machine.execSpdmKeyExchange ep slot exchange s
  | .spdmUnsupportedRequest ep request => Sys2Proof.Machine.execSpdmUnsupportedRequest ep request s
  | .winDataRead p => Sys2Proof.Machine.execWinDataRead p s
  | .winDataWrite p data => Sys2Proof.Machine.execWinDataWrite p data s
  | .winCtrlStart p data => Sys2Proof.Machine.execWinCtrlStart p data s
  | .winCtrlAbort p => Sys2Proof.Machine.execWinCtrlAbort p s
  | .windowBeatEnd idx => Sys2Proof.Machine.execWindowBeatEnd idx s
  | .windowBeatTimeout => Sys2Proof.Machine.execWindowBeatTimeout s
  | .onamenexRegisterRead p payload => Sys2Proof.Machine.execOnamenexRegisterRead p payload s
  | .onamenexRegisterWrite p payload => Sys2Proof.Machine.execOnamenexRegisterWrite p payload s
  | .scratchpadPortBAccess bank reqs portA ecc => Sys2Proof.Machine.execScratchpadPortBAccess bank reqs portA ecc s
  | .scratchpadWaitServe bank portA ecc => Sys2Proof.Machine.execScratchpadWaitServe bank portA ecc s
  | .bitSetAliasWrite r ecc => Sys2Proof.Machine.execBitSetAliasWrite r ecc s
  | .bitClearAliasWrite r ecc => Sys2Proof.Machine.execBitClearAliasWrite r ecc s
  | .thermalSensorReading n temp present => Sys2Proof.Machine.execThermalSensorReading n temp present s
  | .tfpThermalTrip => Sys2Proof.Machine.execTfpThermalTrip s
  | .testLogicReset => Sys2Proof.Machine.execTestLogicReset s
  | .extest data => Sys2Proof.Machine.execExtest data s
  | .samplePreload sample data => Sys2Proof.Machine.execSamplePreload sample data s
  | .idcode => Sys2Proof.Machine.execIdcode s
  | .dbgacc update bits => Sys2Proof.Machine.execDbgacc update bits s
  | .tapStatus => Sys2Proof.Machine.execTapStatus s
  | .challenge => Sys2Proof.Machine.execChallenge s
  | .response bits => Sys2Proof.Machine.execResponse bits s
  | .bypass instr => Sys2Proof.Machine.execBypass instr s
  | .unlockVerifyEnd => Sys2Proof.Machine.execUnlockVerifyEnd s
  | .unlockLockoutEnd => Sys2Proof.Machine.execUnlockLockoutEnd s
  | .relock => Sys2Proof.Machine.execRelock s
  | .dtTmuxselWrite n data => Sys2Proof.Machine.execDtTmuxselWrite n data s
  | .dtDirselWrite data => Sys2Proof.Machine.execDtDirselWrite data s
  | .dtBistcmdGo p targets => Sys2Proof.Machine.execDtBistcmdGo p targets s
  | .bistEnd failed => Sys2Proof.Machine.execBistEnd failed s
  | .hostPerstRelease port => Sys2Proof.Machine.execHostPerstRelease port s
  | .rampPause => Sys2Proof.Machine.execRampPause s
  | .loadCommandEnd ok readOk => Sys2Proof.Machine.execLoadCommandEnd ok readOk s

end Sys2Proof.Machine
end

