-- ==== Sys2Proof/Machine/Indicators.lean ====
section
/-! DEFINITION. The indicators of the faceplate and of the Spire connectors (R621, R622): what each shows in a state. They are outputs
that follow the state within 20 ms and that nothing reads, so no command computes them. -/
namespace Sys2Proof.Machine

/-- What an indicator shows (R621): blinking is 1 Hz at a 50% duty cycle (R622). -/
inductive Disp where
  | off | greenOn | greenBlink | amberOn | amberBlink
  deriving DecidableEq, Repr

/-- PWR, green, driven by Watchtower: the first row of R621 that matches. -/
def pwrShow (w : WtState) : Disp :=
  if w.on && w.ws == 5 then .off
  else if w.on && w.pgood then .greenOn
  else if w.on && (w.ws == 1 || w.ws == 2 || w.ws == 4) then .greenBlink
  else .off

/-- ALM, amber, driven by Watchtower: on while ALM_N is low (R532). -/
def almShow (w : WtState) : Disp := if w.alm then .amberOn else .off

/-- Whether a domain is LATCHED (R466). -/
def anyLatched (h : Hw) : Bool := h.fc.doms.any (fun x => x.2.state == 2)

/-- STAT, green and amber, driven by Turret. DESIGN CHOICE: while the module enters or leaves STANDBY, for which R621 has no row, it
shows what STANDBY shows. -/
def statShow (h : Hw) : Disp :=
  match h.fget F.CK_PWRSTAT_STATE 0 with
  | 4 => .amberBlink
  | 3 => if anyLatched h then .amberOn else .greenOn
  | 2 | 5 | 6 => .greenBlink
  | _ => .off

/-- LNKs of a Spire connector, green and amber, driven by Turret, from the AON domain in STANDBY. -/
def lnkShow (h : Hw) (s : Nat) : Disp :=
  match h.fget F.SL_PSTAT_STATE s with
  | 3 | 4 => .amberOn
  | 2 => if h.fget F.SL_PSTAT_TXPS s ≠ 0 ∨ h.fget F.SL_PSTAT_RXPS s ≠ 0 then .greenBlink else .greenOn
  | _ => .off

/-- The seven indicators: PWR, ALM, STAT and LNK0 to LNK3. -/
def Hw.indicators (h : Hw) : List Disp := [pwrShow h.wt, almShow h.wt, statShow h] ++ [0, 1, 2, 3].map (lnkShow h)

end Sys2Proof.Machine
end

