-- ==== Sys2Proof/Safety.lean ====
section
/-! DEFINITION. What a safe step is, and the invariants that statements use: the canonical form of the memories and tables. -/
namespace Sys2Proof.Machine

/-- The step of `s` ends in a next state. -/
def State.steps (s : State) : Prop := ∃ t, step s = .next t

/-- The memories, with the attributes of Dome's lines and the error marks of the scratchpad's words, are in their canonical form:
addresses strictly rising, and no entry equal to what an unlisted one reads as. -/
def Mem.wf (m : Mem) : Bool :=
  Store.wf 0 m.dome && Store.wf LineAttr.clean m.lines && Store.wf 0 m.sp && Store.wf 0 m.spBad && Store.wf 0xFF m.flash

/-- What the memories store: all of them but which rows of the DRAM banks are open (R319). -/
def Mem.stored (m : Mem) : Mem := { m with rows := [] }

/-- Both copies of the line at Dome offset `o` can be read and written, and Dome's bytes hold all of it: it lies past the records and heads
of the store (R316), and no entry of the reverse map (R117) lies in it. -/
def Mach.wholeLine (m : Mach) (o : Nat) : Prop :=
  let p := domeMap m.hw o
  m.hw.storeWord (o / 64 * 64) = none ∧ m.hw.revIn o = [] ∧ m.copyGood p.prim p.addr = true ∧
  ∀ c, p.mirror = some c → m.copyGood c p.addr = true

/-- The commands that stop the machine in some state: the events that R89, R139, R140 and R146 say cannot occur there. -/
def mayStop : Instr → Bool
  | .homeUpgrade _ _ | .homeSnoopAck _ | .homeInvack _ | .homeDatam _ | .homeDatao _ | .homeCompletionAck _ => true
  | .cupolaSnpshared _ | .cupolaSnpinv _ | .cupolaSnpfwdshared _ | .cupolaSnpfwdown _ => true
  | .cupolaDatas _ | .cupolaDatae _ | .cupolaDatam _ | .cupolaAck _ | .cupolaRetry _ => true
  | _ => false

/-- The command `c` answers a next state in `s`. -/
def Runs (c : Instr) (s : State) : Prop := ∃ t, exec c s = .next t

/-- The command `c` runs in `s`: `exec` answers a next state, with the queue as it was, and the machine then satisfies `P`. -/
def Completes (c : Instr) (s : State) (P : Mach → Prop) : Prop :=
  ∃ t, exec c s = .next t ∧ t.pending = s.pending ∧ P t.mach

/-- The frame of a command on registers: `b` differs from `a` in the register file alone, and there in the listed fields alone. -/
def OnlyFields (ks : List (Fld × Nat)) (a b : Mach) : Prop :=
  (∃ r, b = { a with hw := { a.hw with regs := r } }) ∧
  ∀ (g : Fld) (j : Nat), (∀ k ∈ ks, fkey k.1 k.2 ≠ fkey g j) → b.hw.fget g j = a.hw.fget g j

/-- Every field of the register file but the listed ones reads as before. -/
def FieldsKept (ks : List (Fld × Nat)) (a b : Mach) : Prop :=
  ∀ (g : Fld) (j : Nat), (∀ k ∈ ks, fkey k.1 k.2 ≠ fkey g j) → b.hw.fget g j = a.hw.fget g j

/-- No management access, window beat or burst, and no register request of the barrier, is in progress. -/
def Hw.mgQuiet (h : Hw) : Prop :=
  h.mg.pend = [] ∧ h.mg.beat = none ∧ h.mg.burst = none ∧ h.mg.waiting = [] ∧ h.mg.queue = [] ∧ h.bc.reqs = []

/-- The clock domain `d` answers accesses: no reset notice stands, and it is neither stopped nor asleep. -/
def Hw.answers (h : Hw) (d : Nat) : Prop := h.flag F.CK_DOMSTAT_NOTICE d = false ∧ domAnswers h d = true

/-- The home has no transaction, no retry queue, no release, no held, competing, waiting or unaccepted request, and no slice in failure. -/
def Hw.homeIdle (h : Hw) : Prop :=
  h.hd.txns = [] ∧ h.hd.retry = [] ∧ h.hd.rel = [] ∧ h.hd.held = [] ∧ h.hd.next = [] ∧ h.hd.failing = [] ∧ h.hd.contest = [] ∧
  h.hd.unacc = [] ∧ h.hd.portQ = []

/-- The slot at HEAD of ring `r` takes a write at once: a slot of the scratchpad, or one of Dome whose line waits for nothing at its home. -/
def Mach.slotOpen (m : Mach) (r : Nat) : Prop :=
  let o := m.hw.slotAddr r + 0x40
  m.hw.fget F.DM_RCFG_LOC r = 0 ∨
    (m.hw.homeIdle ∧ m.hw.fget F.HD_SLSTAT_ROLE 16 ≠ 2 ∧ m.hw.dirEnt (o / 64) = none ∧ m.wholeLine o)

/-- No fault domain has applied a reset that it still waits for (R465). -/
def Hw.noResets (h : Hw) : Prop := ∀ x ∈ h.fc.doms, x.2.reset = false

/-- No message is inside the switch core: none waits for translation or pacing, in a VOQ or an egress queue, or is being sent. -/
def Hw.noMessages (h : Hw) : Prop :=
  h.sw.voq = [] ∧ h.sw.eqs = [] ∧ h.sw.inTx = [] ∧ h.sw.sending = [] ∧ h.ts.pq = [] ∧ h.ts.waiting = [] ∧ h.bd.miss = []

/-- The Cupola has no record, host step or held request. -/
def Hw.cuIdle (h : Hw) : Prop := h.cu.recs = [] ∧ h.cu.steps = [] ∧ h.cu.held = []

/-- The fault queue of position `p` has gained one message at its end, with this code, domain and instance. -/
def Gained (p code dom dinst : Nat) (a b : Mach) : Prop :=
  ∃ f : FMsg, b.hw.queue p = a.hw.queue p ++ [f] ∧ f.code = code ∧ f.domain = dom ∧ f.dinst = dinst

/-- A Spire port can send a frame at once: it is UP and has room for one more unacknowledged flit (R412). -/
def Hw.portReady (h : Hw) (q : Nat) : Prop := h.slUp q = true ∧ (h.slPort q).unacked.length < 256

end Sys2Proof.Machine
end

