-- ==== Sys2Proof/Certificates/Slice0/Obligations.lean ====
section
/-! DEFINITION. The statements about the machine, for the provers: what every command does, the state after reset, the
invariant that every step keeps, and where the machine stops. -/
open Sys2Proof Sys2Proof.Machine

/-! ### The machine as a whole -/

/-- For every command and state: the step of a state with that command at the front of its queue is `exec` of the command on the
state with the queue's rest; on an empty queue the block idles (DESIGN CHOICE, log entry 1). -/
def Obligations.StepRunsFront : Prop :=
  ∀ (c : Instr) (s : State), step { s with pending := c :: s.pending } = exec c s ∧ step { s with pending := [] } = .next { s with pending := [] }

/-- R19, R495: the state after reset is FEED-OFF: no command waits, every register field holds its reset value, the memories are
in their canonical form, and neither Watchtower nor the fabric side runs. -/
def Obligations.ResetState : Prop :=
  State.reset.pending = [] ∧ State.reset.mach.mem.wf = true ∧ (∀ f i, State.reset.mach.hw.fget f i = rstOf f i) ∧
  State.reset.mach.hw.wt.on = false ∧ State.reset.mach.hw.ck.on = false ∧ State.reset.mach.hw.out = []

/-- Every step keeps the canonical form of the memories: Dome, its line attributes, the scratchpad, its error marks and the
flash. -/
def Obligations.StepKeepsMemWf : Prop :=
  ∀ (s t : State), s.mach.mem.wf = true → step s = .next t → t.mach.mem.wf = true

/-- R89, R139, R140, R146: an event that the coherence tables say cannot occur in the state it meets stops the machine with the
fault that names its rule. Nothing else stops it: every command but HOME_UPGRADE, the answers HOME_SNOOP_ACK, HOME_INVACK,
HOME_DATAM, HOME_DATAO and HOME_COMPLETION_ACK, the four snoops and the five responses of a Cupola answers a next state in every
state, with every operand; each of those answers one wherever its table does not say that it cannot occur. -/
def Obligations.EventsThatCannotOccurStop : Prop :=
  (∀ (s : State) (m : Coh) (rivals : List Nat) (k : Nat) (c : CuRec) (l : CuLine) (e : DirEnt) (t : HTxn), let h := s.mach.hw
    let stops := fun (i : Instr) (rule : Nat) => exec i s = .fault (.cannotOccur rule)
    namesReserved m = false →
    (h.dirEnt (m.laddr % 2 ^ 37) = some e → h.txnOf (m.laddr % 2 ^ 37) = none → e.st = 2 →
      inHold e.fmt e.hold (codeOf m.src) = true → stops (.homeUpgrade m rivals) 89) ∧
    (h.isDead m.src = false →
      (h.cu.recs = [] → h.cu.steps = [] → h.cuLine m.laddr = some l → l.st ≤ 1 →
        ∀ i ∈ ([.cupolaSnpshared m, .cupolaSnpfwdshared m, .cupolaSnpfwdown m] : List Instr), stops i 139) ∧
      (m.txn % 1024 = k → Store.get? h.cu.recs k = some c → h.tagGen .cu k = m.txn / 1024 % 16 →
        (c.tr = .isW → stops (.cupolaDatam m) 140) ∧ (c.tr = .imW → stops (.cupolaDatas m) 140) ∧
        (c.tr = .th → stops (.cupolaAck m) 140 ∧ stops (.cupolaRetry m) 140) ∧
        (c.tr = .gr → stops (.cupolaRetry m) 140 ∧ (c.part = none → stops (.cupolaAck m) 140) ∧
          (c.ack = false → ∀ i ∈ ([.cupolaDatas m, .cupolaDatae m, .cupolaDatam m] : List Instr), stops i 140))) ∧
      (m.txn % 1024 = k → Store.get? h.hd.txns k = some t → h.tagGen .hd k = m.txn / 1024 % 16 → t.phase = .gnt →
        ∀ i ∈ ([.homeSnoopAck m, .homeInvack m, .homeDatam m, .homeDatao m] : List Instr), stops i 146) ∧
      (h.txnOf (m.laddr % 2 ^ 37) = some (k, t) → t.phase ≠ .gnt → stops (.homeCompletionAck m) 146))) ∧
  (∀ (c : Instr) (s : State), mayStop c = false → Completes c s (fun _ => True)) ∧
  (∀ (s : State) (m : Coh) (rivals : List Nat), let h := s.mach.hw
    let runs := fun (i : Instr) => Completes i s (fun _ => True)
    let away := namesReserved m = true ∨ h.isDead m.src = true
    let hd := fun (ok : HPhase → Prop) => away ∨ ∀ t, Store.get? h.hd.txns (m.txn % 1024) = some t →
      h.tagGen .hd (m.txn % 1024) = m.txn / 1024 % 16 → ok t.phase
    let cu := fun (ok : CuRec → Prop) => away ∨ ∀ c, Store.get? h.cu.recs (m.txn % 1024) = some c →
      h.tagGen .cu (m.txn % 1024) = m.txn / 1024 % 16 → ok c
    (namesReserved m = true ∨ upgradeBad h m = false → runs (.homeUpgrade m rivals)) ∧
    (∀ i ∈ ([.homeSnoopAck m, .homeDatao m] : List Instr), hd (fun p => p = .snp) → runs i) ∧
    (∀ i ∈ ([.homeInvack m, .homeDatam m] : List Instr), hd (fun p => p ≠ .gnt) → runs i) ∧
    (away ∨ (∀ k t, h.txnOf (m.laddr % 2 ^ 37) = some (k, t) → t.phase = .gnt) → runs (.homeCompletionAck m)) ∧
    (∀ x ∈ ([(.cupolaSnpshared m, 0x08), (.cupolaSnpinv m, 0x09), (.cupolaSnpfwdshared m, 0x0A), (.cupolaSnpfwdown m, 0x0B)] :
        List (Instr × Nat)),
      away ∨ (h.cuStepOf m.laddr).isSome = true ∨ snoopBad x.2 m h = false → runs x.1) ∧
    (∀ x ∈ ([(.cupolaDatas m, [.isW]), (.cupolaDatae m, [.isW, .imW]), (.cupolaDatam m, [.imW])] : List (Instr × List CuTr)),
      cu (fun c => c.tr ∈ x.2 ∨ (c.tr = .gr ∧ c.ack = true)) → runs x.1) ∧
    (cu (fun c => c.tr ≠ .th ∧ (c.tr = .gr → c.part ≠ none)) → runs (.cupolaAck m)) ∧
    (cu (fun c => c.tr ≠ .gr ∧ c.tr ≠ .th) → runs (.cupolaRetry m)))

/-- R264: a write of the context area or the completion record of a slot by a master other than the data mover is discarded, is
answered OK and is counted in DM_CTXWR, and the discard of a tenant's marked write sets LOSS (R68); the data mover's is stored.
-/
def Obligations.SlotAreasTakeOnlyTheDataMover : Prop :=
  ∀ (s : State) (off data en master : Nat) (w : Option (Nat × Nat)) (fail : WrFails) (dec : CopyErrs) (r : SpReq), let h := s.mach.hw
    let p := domeMap h off
    let lost := fun (ks : List (Fld × Nat)) (m : Mach) => m.mem = s.mach.mem ∧
      m.hw.fget F.DM_CTXWR_VAL 0 = min (h.fget F.DM_CTXWR_VAL 0 + 1) (2 ^ 32 - 1) ∧
      FieldsKept ((F.DM_CTXWR_VAL, 0) :: ks) s.mach m
    let discarded := lost []
    let ofTenant := fun (m : Mach) => lost (w.toList.map (fun x => (F.BD_TDRAIN_LOSS, x.1))) m ∧ m.hw.out = h.out ∧
      ∀ x ∈ w, h.bd.writes.any (fun r => r.tid == x.1 && r.wid == x.2 && r.marked) = true →
        m.hw.fget F.BD_TDRAIN_LOSS x.1 = 1
    let word := r.off / 8
    let old := readLE 0 s.mach.mem.sp (8 * word) 8
    let mask := byteMask (spEnables r)
    let d := Nat.land (r.data % 2 ^ (8 * r.size) * 2 ^ (8 * (r.off % 8)) % 2 ^ 64) mask
    (h.inDmArea 1 off = true →
      (master / 2 ^ 13 ≠ 2 → (∀ x ∈ w, x.1 < 8192) →
        Completes (.domeWrite off data master w fail) s ofTenant ∧
        Completes (.domePartialWrite off data en master w dec) s ofTenant) ∧
      (master / 2 ^ 13 = 2 → h.chFailed p.prim = false → p.mirror = none →
        Completes (.domeWrite off data master none ⟨false, false⟩) s (fun m => m.line off = data % 2 ^ 512 ∧ m.hw = h))) ∧
    (h.inDmArea 0 (r.off % 0x200000) = true → r.off / 0x200000 = 1 → h.sp.wait = [] → spCheck h r = 0 →
      (r.op = .write → r.master < 6 → r.master ≠ 1 → Completes (.scratchpadPortBAccess 1 [r] none .good) s (fun m =>
        discarded m ∧ m.hw.out = .spDone r.master 0 0 :: h.out)) ∧
      (r.op = .write → r.master = 1 → Store.getD 0 s.mach.mem.spBad word = 0 →
        Completes (.scratchpadPortBAccess 1 [] (some r) .good) s (fun m =>
          readLE 0 m.mem.sp (8 * word) 8 = (old - Nat.land old mask + d) % 2 ^ 64 ∧ m.hw.regs = h.regs)) ∧
      (r.master < 6 → r.master ≠ 1 →
        (r.op = .set → Completes (.bitSetAliasWrite r .good) s (fun m => discarded m ∧ m.hw.out = .spDone r.master 0 0 :: h.out)) ∧
        (r.op = .clr → Completes (.bitClearAliasWrite r .good) s (fun m =>
          discarded m ∧ m.hw.out = .spDone r.master 0 0 :: h.out))))

/-- R352: a part that matches no descriptor of its set: a privileged one passes exactly when the default map, AG_TDEF of its
tenant or AG_SYSDEF, holds every permission it needs; a user one is denied. -/
def Obligations.GuardDefaultMapDecides : Prop :=
  ∀ (h : Hw) (g : GReq) (addr : Nat),
    firstMatch h (if g.tid.isSome then 0 else 1) addr (h.setOf g.tid).1 (h.setOf g.tid).2 = none →
    (g.priv = true → (checkPart h g addr = none ↔ ∀ p ∈ g.needs, match g.tid, p with
      | some t, .r => h.flag F.AG_TDEF_R t = true
      | some t, .w => h.flag F.AG_TDEF_W t = true
      | some t, .x => h.flag F.AG_TDEF_X t = true
      | none, .r => h.flag F.AG_SYSDEF_R 0 = true
      | none, .w => h.flag F.AG_SYSDEF_W 0 = true
      | none, .x => h.flag F.AG_SYSDEF_X 0 = true)) ∧
    (g.priv = false → (checkPart h g addr).isSome = true)

/-! ### The tenant table (R73 to R76) -/

/-- R73: NOP and READ of BD_TTCMD: NOP from Turret, READ from every path; READ copies the tenant's entry into BD_TTDATA0-3. R47,
R73, R74: WRITE of a BOUND entry takes HOSTPRIV, RGBASE and RGCNT from BD_TTDATA0-3 and nothing else; BIND makes the staged
entry BOUND with TGEN advanced by one modulo 16 and the tenant's fault domain OK. R75: GO of BD_TTCMD while BUSY is 1 sets
RESULT BUSY_REJECT and changes nothing else; an OP other than READ from a master other than Turret ends with DENIED and changes
no entry. -/
def Obligations.TtcmdCommandsComplete : Prop :=
  (∀ (s : State) (p : Path) (tid : Nat), tid < 8192 → s.mach.hw.flag F.BD_TTSTAT_BUSY 0 = false →
    Completes (.bdTtcmdNop .turret tid) s (fun m =>
      m.hw.fget F.BD_TTSTAT_RESULT 0 = 0 ∧ m.hw.fget F.BD_TTCMD_TID 0 = tid ∧ m.hw.fget F.BD_TTCMD_OP 0 = 0 ∧
      OnlyFields [(F.BD_TTCMD_TID, 0), (F.BD_TTCMD_OP, 0), (F.BD_TTSTAT_RESULT, 0)] s.mach m) ∧
    Completes (.bdTtcmdRead p tid) s (fun m =>
      m.hw.fget F.BD_TTDATA0_VAL 0 = bits (s.mach.hw.ent tid) 0 32 ∧
      m.hw.fget F.BD_TTDATA1_VAL 0 = bits (s.mach.hw.ent tid) 32 32 ∧
      m.hw.fget F.BD_TTDATA2_VAL 0 = bits (s.mach.hw.ent tid) 64 32 ∧
      m.hw.fget F.BD_TTDATA3_VAL 0 = bits (s.mach.hw.ent tid) 96 32 ∧ m.hw.fget F.BD_TTSTAT_RESULT 0 = 0 ∧
      OnlyFields [(F.BD_TTCMD_TID, 0), (F.BD_TTCMD_OP, 0), (F.BD_TTSTAT_RESULT, 0), (F.BD_TTDATA0_VAL, 0),
        (F.BD_TTDATA1_VAL, 0), (F.BD_TTDATA2_VAL, 0), (F.BD_TTDATA3_VAL, 0)] s.mach m)) ∧
  (∀ (s : State) (tid : Nat), tid < 8192 → s.mach.hw.flag F.BD_TTSTAT_BUSY 0 = false →
    (writeCheck s.mach.hw tid (stagedEnt s.mach.hw) = none →
      Completes (.bdTtcmdWrite .turret tid) s (fun m =>
        let old := s.mach.hw.ent tid
        let new := m.hw.ent tid
        bits new 3 1 = bits (stagedEnt s.mach.hw) 3 1 ∧ ttRgbase new = ttRgbase (stagedEnt s.mach.hw) ∧
        ttRgcnt new = ttRgcnt (stagedEnt s.mach.hw) ∧ bits new 0 3 = bits old 0 3 ∧ bits new 4 92 = bits old 4 92 ∧
        (∀ u, u ≠ tid → m.hw.ent u = s.mach.hw.ent u) ∧ m.hw.fget F.BD_TTSTAT_RESULT 0 = 0 ∧ m.mem = s.mach.mem)) ∧
    (s.mach.hw.contained 0 = false → bindCheck s.mach.hw tid (stagedEnt s.mach.hw) = none →
      Completes (.bdTtcmdBind .turret tid) s (fun m =>
        ttState (m.hw.ent tid) = 2 ∧ ttGen (m.hw.ent tid) = (ttGen (s.mach.hw.ent tid) + 1) % 16 ∧
        ttPort (m.hw.ent tid) = ttPort (stagedEnt s.mach.hw) ∧ ttKind (m.hw.ent tid) = ttKind (stagedEnt s.mach.hw) ∧
        (∀ u, u ≠ tid → m.hw.ent u = s.mach.hw.ent u) ∧ m.hw.dom (didxOf domTenant tid) = Dom.ok ∧
        m.hw.fget F.BD_TTSTAT_RESULT 0 = 0))) ∧
  (∀ (s : State) (p : Path) (tid : Nat) (c : Instr),
    c ∈ ([.bdTtcmdNop p tid, .bdTtcmdRead p tid, .bdTtcmdWrite p tid, .bdTtcmdBind p tid, .bdTtcmdReset p tid,
      .bdTtcmdUnbind p tid] : List Instr) →
    (s.mach.hw.flag F.BD_TTSTAT_BUSY 0 = true →
      Completes c s (fun m => m.hw.fget F.BD_TTSTAT_RESULT 0 = 3 ∧ OnlyFields [(F.BD_TTSTAT_RESULT, 0)] s.mach m)) ∧
    (s.mach.hw.flag F.BD_TTSTAT_BUSY 0 = false → p ≠ .turret → c ≠ .bdTtcmdRead p tid →
      Completes c s (fun m => m.hw.fget F.BD_TTSTAT_RESULT 0 = 4 ∧
        OnlyFields [(F.BD_TTCMD_TID, 0), (F.BD_TTCMD_OP, 0), (F.BD_TTSTAT_RESULT, 0)] s.mach m)))

/-- R61 to R65: a reset or an unbind of a BOUND tenant, a secondary bus reset of the vPPB it is bound to, and a hot reset of its
host port start the sequence: STATE becomes STOPPING; the other tenants' entries stay. R67 to R69: ARM clears LOSS, and VIS
where a write of the tenant accepted so far is still to become visible; a write of a tenant that becomes visible lowers OUT, a
non-posted one apart, and sets VIS when no other write under the mark is still to become visible. -/
def Obligations.TenantResetsStartAndDrainMarksFollow : Prop :=
  (∀ (s : State) (tid port vppb : Nat), tid < 8192 → ttState (s.mach.hw.ent tid) = 2 →
    (s.mach.hw.flag F.BD_TTSTAT_BUSY 0 = false →
      Completes (.bdTtcmdReset .turret tid) s (fun m =>
        ttState (m.hw.ent tid) = 3 ∧ (m.hw.seq tid).map TSeq.unbind = some false ∧ m.hw.fget F.BD_TTSTAT_RESULT 0 = 0 ∧
        (∀ u, u ≠ tid → m.hw.ent u = s.mach.hw.ent u) ∧ m.mem = s.mach.mem)) ∧
    (s.mach.hw.flag F.BD_TTSTAT_BUSY 0 = false → s.mach.hw.contained 0 = false →
      Completes (.bdTtcmdUnbind .turret tid) s (fun m =>
        ttState (m.hw.ent tid) = 3 ∧ (m.hw.seq tid).map TSeq.unbind = some true ∧ m.hw.fget F.BD_TTSTAT_RESULT 0 = 0 ∧
        (∀ u, u ≠ tid → m.hw.ent u = s.mach.hw.ent u) ∧ m.mem = s.mach.mem)) ∧
    (s.mach.hw.tenantAt port vppb = some tid →
      Completes (.secondaryBusReset port vppb) s (fun m =>
        ttState (m.hw.ent tid) = 3 ∧ (∀ u, u ≠ tid → m.hw.ent u = s.mach.hw.ent u) ∧ m.mem = s.mach.mem)) ∧
    (tid ∈ s.mach.hw.tidsWhere (fun e => ttState e != 0 && ttPort e == port) →
      Completes (.hotReset port) s (fun m => ttState (m.hw.ent tid) = 3 ∧
        (∀ u, u ∉ s.mach.hw.tidsWhere (fun e => ttState e != 0 && ttPort e == port) → m.hw.ent u = s.mach.hw.ent u) ∧
        m.mem = s.mach.mem))) ∧
  (∀ (s : State) (tid wid : Nat), tid < 8192 →
    Completes (.bdTdrainArm tid) s (fun m =>
      m.hw.fget F.BD_TDRAIN_LOSS tid = 0 ∧
      m.hw.fget F.BD_TDRAIN_VIS tid = (if s.mach.hw.bd.writes.any (fun w => w.tid == tid && !w.visible) then 0 else 1) ∧
      FieldsKept [(F.BD_TDRAIN_LOSS, tid), (F.BD_TDRAIN_VIS, tid)] s.mach m ∧ m.mem = s.mach.mem) ∧
    (∀ x, s.mach.hw.bd.writes.find? (fun w => w.tid == tid && w.wid == wid && !w.visible) = some x →
      Completes (.writeVisible tid wid) s (fun m =>
        m.hw.fget F.BD_TDRAIN_VIS tid = (if s.mach.hw.bd.writes.any (fun w => w.tid == tid && w.marked && !w.visible && w.wid != wid)
          then s.mach.hw.fget F.BD_TDRAIN_VIS tid else 1) ∧
        m.hw.fget F.BD_TDRAIN_OUT tid =
          (if x.np then s.mach.hw.fget F.BD_TDRAIN_OUT tid else (s.mach.hw.fget F.BD_TDRAIN_OUT tid - 1) % 2 ^ 20) ∧
        FieldsKept [(F.BD_TDRAIN_OUT, tid), (F.BD_TDRAIN_VIS, tid)] s.mach m ∧ m.mem = s.mach.mem)))

/-- R62: the steps of a sequence: STOPPING ends with ABORTING when the drain counter is 0 or DRNTMO expires, the flush step
starts when no job of the tenant is left, QUARANTINE follows it, and at its end a reset leaves the tenant BOUND with TGEN
advanced. -/
def Obligations.TenantSequenceSteps : Prop :=
  ∀ (s : State) (tid : Nat) (q : TSeq),
    let h := s.mach.hw
    (ttState (h.ent tid) = 3 → h.fget F.BD_TDRAIN_OUT tid = 0 → h.dm.jobs.any (fun x => jobNames tid x.2.desc) = false →
      (∀ x ∈ h.bd.miss, x.tid ≠ some tid) →
      Completes (.tenantDrainEnd tid) s (fun m => ttState (m.hw.ent tid) = 4 ∧ m.hw.fget F.BD_TDRAIN_OUT tid = 0)) ∧
    (ttState (h.ent tid) = 3 → h.dm.jobs.any (fun x => jobNames tid x.2.desc) = false →
      (∀ x ∈ h.bd.miss, x.tid ≠ some tid) →
      Completes (.tenantDrainTimeout tid) s (fun m => ttState (m.hw.ent tid) = 4 ∧ m.hw.fget F.BD_TDRAIN_OUT tid = 0)) ∧
    (ttState (h.ent tid) = 4 → (h.seq tid).any (fun q => !q.flushing) = true →
      h.dm.jobs.any (fun x => jobNames tid x.2.desc) = false →
      Completes (.tenantAbortEnd tid) s (fun m => ttState (m.hw.ent tid) = 4 ∧ (m.hw.seq tid).any (fun q => q.flushing) = true ∧
        ∀ e, e < 2 ^ 26 → m.hw.cached tid e = none)) ∧
    (ttState (h.ent tid) = 4 → (h.seq tid).any (fun q => q.flushing) = true →
      h.bd.flush.any (fun x => x.2.1 == tid) = false →
      Completes (.tenantFlushEnd tid) s (fun m => ttState (m.hw.ent tid) = 5 ∧
        (∀ u, u ≠ tid → m.hw.ent u = h.ent u) ∧ m.mem = s.mach.mem)) ∧
    (ttState (h.ent tid) = 5 → h.seq tid = some q → q.unbind = false →
      Completes (.quarantineEnd tid) s (fun m => ttState (m.hw.ent tid) = 2 ∧
        ttGen (m.hw.ent tid) = (ttGen (h.ent tid) + 1) % 16 ∧ (∀ u, u ≠ tid → m.hw.ent u = h.ent u) ∧ m.hw.seq tid = none)) ∧
    (ttState (h.ent tid) = 5 → h.seq tid = some q → q.unbind = true → tenantMigrating s.mach tid = false →
      Completes (.quarantineEnd tid) s (fun m => ttState (m.hw.ent tid) = 0 ∧ ttGen (m.hw.ent tid) = ttGen (h.ent tid) ∧
        m.hw.dom (didxOf domTenant tid) = Dom.ok))

/-! ### The fabric manager's commands and dynamic capacity (R44 to R60) -/

/-- R44, R311: a command of the fabric manager, or a policy bind, that arrives while a tenant table command runs or another one
that may start waits, and a policy bind that arrives before READY, joins the end of Turret's queue and changes nothing else.
R44, R45, R46, R61: with no command running or waiting, Bind vPPB of a downstream port binds the lowest FREE TID, Unbind vPPB
starts the unbind of the tenant bound there, and when BUSY is 0 the oldest waiting command leaves the queue and runs. -/
def Obligations.FabricManagerCommandsComplete : Prop :=
  (∀ (s : State) (port vppb phys ldid tid : Nat) (r : AddReq) (l : List (Nat × Nat)) (forced : Bool) (x : Instr × FmCmd),
    x ∈ ([(.bindVppb port vppb phys ldid, .bind port vppb phys ldid), (.unbindVppb port vppb, .unbind port vppb),
      (.policyBind port, .policy port 0), (.initiateDynamicCapacityAdd r, .add r),
      (.initiateDynamicCapacityRelease tid l forced, .release tid l forced)] : List (Instr × FmCmd)) →
    s.mach.hw.flag F.BD_TTSTAT_BUSY 0 = true ∨ (s.mach.hw.flag F.DD_STAT_READY 0 = false ∧ x.2 = .policy port 0) ∨
      s.mach.hw.bd.cmdq.any s.mach.hw.cmdReady = true →
    Completes x.1 s (fun m => m = s.mach.onHw (fun h => { h with bd := { h.bd with cmdq := h.bd.cmdq ++ [x.2] } }))) ∧
  (∀ (s : State) (port vppb phys t : Nat) (rest : List FmCmd), let h := s.mach.hw;
    (h.flag F.BD_TTSTAT_BUSY 0 = false → h.contained 0 = false →
      (h.bd.cmdq = [] → port ≤ 71 → vppb ≤ 31 → phys ≤ 71 → freeTid h 0 8192 = some t →
        bindCheck h t (2 * 2 ^ 5 + port * 2 ^ 7 + vppb * 2 ^ 14 + phys * 2 ^ 23) = none →
        Completes (.bindVppb port vppb phys 0xFFFF) s (fun m =>
          ttState (m.hw.ent t) = 2 ∧ ttKind (m.hw.ent t) = 2 ∧ ttPort (m.hw.ent t) = port ∧ ttVppb (m.hw.ent t) = vppb ∧
          ttDs (m.hw.ent t) = phys ∧ ttGen (m.hw.ent t) = (ttGen (h.ent t) + 1) % 16 ∧ (∀ u, u ≠ t → m.hw.ent u = h.ent u) ∧
          m.hw.out = .fmDone (.bind port vppb phys 0xFFFF) 0 :: .vppb port vppb true :: h.out ∧ m.mem = s.mach.mem)) ∧
      (h.bd.cmdq = [] → h.tenantAt port vppb = some t → ttState (h.ent t) = 2 →
        Completes (.unbindVppb port vppb) s (fun m =>
          ttState (m.hw.ent t) = 3 ∧ (m.hw.seq t).map TSeq.unbind = some true ∧ (∀ u, u ≠ t → m.hw.ent u = h.ent u) ∧
          m.hw.out = .fmDone (.unbind port vppb) 0 :: h.out ∧ m.mem = s.mach.mem)) ∧
      (h.bd.cmdq = .unbind port vppb :: rest → h.tenantAt port vppb = some t → ttState (h.ent t) = 2 →
        Completes .queuedCommandStart s (fun m =>
          m.hw.bd.cmdq = rest ∧ ttState (m.hw.ent t) = 3 ∧ m.hw.out = .fmDone (.unbind port vppb) 0 :: h.out ∧
          m.mem = s.mach.mem))))

/-- R44, R45, R47, R555: when a host port trains, its policy record binds a pool LD instance with the fields of the record. -/
def Obligations.PolicyBindCompletes : Prop :=
  ∀ (s : State) (port rec t b : Nat), let h := s.mach.hw
    let vppb := bits rec 8 5
    h.flag F.BD_TTSTAT_BUSY 0 = false → h.bd.cmdq = [] → h.contained 0 = false → h.flag F.DD_STAT_READY 0 = true →
    h.fget F.DD_STAT_GRPUSE 0 ≠ 0 → h.bd.policies = [rec] → bits rec 0 7 = port →
    bitAt rec 20 = false → bits rec 18 2 = 0 → h.tenantAt port vppb = none → freeTid h 0 8192 = some t →
    (placeTable t (bits rec 32 26) h).1 = some b → bindCheck h t (polEntry rec port vppb b) = none →
    Completes (.policyBind port) s (fun m =>
      ttState (m.hw.ent t) = 2 ∧ ttKind (m.hw.ent t) = 0 ∧ ttPort (m.hw.ent t) = port ∧ ttVppb (m.hw.ent t) = vppb ∧
      ttEtlen (m.hw.ent t) = bits rec 32 26 ∧ ttRgbase (m.hw.ent t) = bits rec 144 16 ∧
      ttRgcnt (m.hw.ent t) = bits rec 136 7 ∧ ttGen (m.hw.ent t) = (ttGen (h.ent t) + 1) % 16 ∧
      (∀ u, u ≠ t → m.hw.ent u = h.ent u) ∧ m.hw.fget F.TS_PACE_TQ t = bits rec 128 4 ∧
      m.hw.fget F.AG_TDEF_R t = bits rec 160 1)

/-- R49 to R53: an add of one extent that this module can back writes the entry with PEND 1 and V 0, takes the lowest free
extent with BINDCNT 1, and raises the Add Capacity event. R54, R55: the host's answer, or its want, decides an add of one
extent: an accepted record has V set and PEND cleared; one not accepted has PEND cleared and the backing's BINDCNT lowered, and
on the time-out that outcome is reported. -/
def Obligations.AddCapacityCompletes : Prop :=
  (∀ (s : State) (r : AddReq) (grp e x : Nat) (rest : List Nat), let h := s.mach.hw;
    h.flag F.BD_TTSTAT_BUSY 0 = false → h.bd.cmdq = [] → h.contained 0 = false → ttState (h.ent r.tid) = 2 →
    ttKind (h.ent r.tid) = 0 → r.policy ≤ 2 → h.sid < 8 → r.home = some (h.sid, grp) → chooseIdx s.mach r = .ok [e] →
    localFree h grp = x :: rest → h.domeExt ≤ 2 ^ 22 → (∀ y, y < h.domeExt → s.mach.recPoison y = false) →
    s.mach.wholeLine (etAddr (h.ent r.tid) e) →
    Completes (.initiateDynamicCapacityAdd r) s (fun m =>
      etV (m.et r.tid e) = false ∧ etPend (m.et r.tid e) = true ∧ etGext (m.et r.tid e) = h.sid * 2 ^ 22 + x ∧
      m.hw.arec x = ⟨1, false, false, false⟩ ∧ (∀ y, y ≠ x → m.hw.arec y = h.arec y) ∧ m.hw.bd.tt = h.bd.tt ∧
      m.hw.out = .fmAdd r.tid r.tag 0 :: .addCapacity r.tid [⟨r.tag, e, 1⟩] :: h.out ∧ m.mem.sp = s.mach.mem.sp ∧
      m.mem.flash = s.mach.mem.flash ∧
      ∀ a, a < etAddr (h.ent r.tid) e ∨ etAddr (h.ent r.tid) e + 16 ≤ a →
        Store.getD 0 m.mem.dome a = Store.getD 0 s.mach.mem.dome a)) ∧
  (∀ (s : State) (a : AddRec) (r : AddExt) (x : PendExt), let h := s.mach.hw;
    let there := etAddr (h.ent a.tid) x.eidx;
    let local_ := x.gext % 2 ^ 22;
    let refused := fun (m : Mach) =>
      etPend (m.et a.tid x.eidx) = false ∧ etV (m.et a.tid x.eidx) = etV (s.mach.et a.tid x.eidx) ∧
      (m.hw.arec local_).cnt = ((h.arec local_).cnt - 1) % 2 ^ 16 ∧ m.hw.bd.adds = [] ∧ m.hw.bd.tt = h.bd.tt ∧
      ∀ b, b < there ∨ there + 16 ≤ b → Store.getD 0 m.mem.dome b = Store.getD 0 s.mach.mem.dome b;
    h.bd.adds = [a] → a.records = [r] → a.exts = [x] → r.start = x.eidx → r.len = 1 → s.mach.wholeLine there →
    Completes (.addDynamicCapacityResponse a.tid [(r.tag, r.start * 2 ^ 21, r.len * 2 ^ 21)]) s (fun m =>
      etV (m.et a.tid x.eidx) = true ∧ etPend (m.et a.tid x.eidx) = false ∧
      etGext (m.et a.tid x.eidx) = etGext (s.mach.et a.tid x.eidx) ∧ m.hw.bd.adds = [] ∧ m.hw.bd.alloc = h.bd.alloc ∧
      ∀ b, b < there ∨ there + 16 ≤ b → Store.getD 0 m.mem.dome b = Store.getD 0 s.mach.mem.dome b) ∧
    (x.gext / 2 ^ 22 = h.sid → Completes (.addDynamicCapacityResponse a.tid []) s refused) ∧
    (x.gext / 2 ^ 22 = h.sid → Completes (.addTimeout a.tid a.tag) s (fun m =>
      refused m ∧ m.hw.out = .dcTimeout a.tid a.tag :: h.out)))

/-- R56, R57, R60: the host's release and the fabric manager's forced one clear V, drop the cached entry and arm the drain mark;
without the flag the fabric manager's release only raises the Release Capacity event. R57 to R60: the later steps of a release:
the drain's end starts step 3 of every waiting release of the tenant, a drain time-out does so with an information fault, step 4
lowers BINDCNT at this module and sets DIRTY at 0, a release that waited for a migration goes on with GEXT, and the report of
the zeroing FILL's end clears DIRTY. -/
def Obligations.ReleaseCompletes : Prop :=
  (∀ (s : State) (t e : Nat) (l : List (Nat × Nat)), let h := s.mach.hw;
    let there := etAddr (h.ent t) e;
    let released := fun (m : Mach) =>
      etV (m.et t e) = false ∧ m.hw.cached t e = none ∧ m.hw.fget F.BD_TDRAIN_LOSS t = 0 ∧
      m.hw.bd.rels = h.bd.rels ++ [⟨t, e, etGext (s.mach.et t e), 1⟩] ∧ m.hw.bd.tt = h.bd.tt ∧
      ∀ b, b < there ∨ there + 16 ≤ b → Store.getD 0 m.mem.dome b = Store.getD 0 s.mach.mem.dome b;
    t < 8192 → releaseCheck s.mach t l = .ok [e] → etMst (s.mach.et t e) = 0 → s.mach.wholeLine there →
    Completes (.releaseDynamicCapacity t l) s (fun m => released m ∧ m.hw.out = .hostCci t 0 :: h.out) ∧
    (h.flag F.BD_TTSTAT_BUSY 0 = false → h.bd.cmdq = [] → h.contained 0 = false →
      Completes (.initiateDynamicCapacityRelease t l true) s (fun m =>
        released m ∧ m.hw.out = .fmDone (.release t l true) 0 :: h.out) ∧
      Completes (.initiateDynamicCapacityRelease t l false) s (fun m =>
        m = s.mach.onHw (fun h => (h.emit (.relCapacity t l)).emit (.fmDone (.release t l false) 0))))) ∧
  (∀ (s : State) (t e ext : Nat) (r : RelRec), let h := s.mach.hw;
    let moved := h.bd.rels.map (fun r => if r.tid == t && r.step == 1 then { r with step := 2 } else r);
    (h.bd.rels.any (fun r => r.tid == t && r.step == 1) = true →
      (h.fget F.BD_TDRAIN_VIS t = 1 → Completes (.releaseDrainDone t) s (fun m =>
        m.hw.bd.rels = moved ∧ m.hw.regs = h.regs ∧ m.hw.bd.tt = h.bd.tt ∧ m.mem = s.mach.mem)) ∧
      ((h.queue 8).length < 8 → Completes (.releaseDrainTimeout t) s (fun m =>
        m.hw.bd.rels = moved ∧ m.hw.regs = h.regs ∧ m.mem = s.mach.mem ∧
        Gained 8 0x0802 2 t s.mach m))) ∧
    (h.bd.rels.find? (fun r => r.tid == t && r.eidx == e && r.step == 2) = some r →
      h.bd.flush.any (fun (x : Nat × Nat × Nat × Nat) => x.2.1 == t && x.2.2.1 == e) = false → r.gext / 2 ^ 22 = h.sid →
      Completes (.releaseBiDone t e) s (fun m =>
        m.hw.bd.rels = h.bd.rels.erase r ∧ (m.hw.arec (r.gext % 2 ^ 22)).cnt = ((h.arec (r.gext % 2 ^ 22)).cnt - 1) % 2 ^ 16 ∧
        ((h.arec (r.gext % 2 ^ 22)).cnt = 1 → h.extFailed (r.gext % 2 ^ 22) = false →
          (m.hw.arec (r.gext % 2 ^ 22)).dirty = true ∧ (r.gext % 2 ^ 22) ∈ m.hw.dm.zero) ∧
        m.hw.bd.tt = h.bd.tt ∧ m.mem = s.mach.mem)) ∧
    (h.bd.rels.find? (fun r => r.tid == t && r.eidx == e && r.step == 0) = some r → etMst (s.mach.et t e) = 0 →
      s.mach.wholeLine (etAddr (h.ent t) e) →
      Completes (.releaseMigrationWaitEnd t e) s (fun m =>
        m.hw.bd.rels = h.bd.rels.erase r ++ [⟨t, e, etGext (s.mach.et t e), 1⟩] ∧ etV (m.et t e) = false ∧
        m.hw.cached t e = none ∧ m.hw.bd.tt = h.bd.tt)) ∧
    (ext ∈ h.dm.zero → ext ∈ h.dm.zeroed → Completes (.extentZeroDone ext) s (fun m =>
      m.hw.dm.zero = h.dm.zero.erase ext ∧ m.hw.dm.zeroed = h.dm.zeroed.erase ext ∧ (m.hw.arec ext).dirty = false ∧
      (m.hw.arec ext).cnt = (h.arec ext).cnt % 2 ^ 16 ∧ (∀ y, y ≠ ext → m.hw.arec y = h.arec y) ∧ m.hw.regs = h.regs ∧
      m.mem = s.mach.mem)))

/-- R655: an ALLOC request from an ALIVE peer is answered: CLAIM takes a run of free extents or refuses all of it, INC raises
BINDCNT and sets SHARED, DEC lowers it with zeroing at 0, UNCLAIM frees a claimed extent at once; an answer ends its request. A
CLAIM whose record reads as poison from both copies is refused, and its extent counts as FAILED (R38). -/
def Obligations.AllocCommandsComplete : Prop :=
  ∀ (s : State) (src tag e res : Nat) (q : AllocReq), let h := s.mach.hw
    let same := fun (m : Mach) => (∀ y, y ≠ e → m.hw.arec y = h.arec y) ∧ m.hw.bd.tt = h.bd.tt ∧ m.mem = s.mach.mem
    bitAt (h.fget F.SL_STKSTAT_ALIVE 0) src = true →
    (h.extFree e = true → s.mach.recPoison e = false → Completes (.allocClaim src tag e 1) s (fun m =>
      m.hw.arec e = ⟨1, false, false, false⟩ ∧ same m ∧ .alloc src 0xF 0 tag e 1 ∈ m.hw.out)) ∧
    (h.extFree e = false → s.mach.recPoison e = false → Completes (.allocClaim src tag e 1) s (fun m =>
      m.hw.bd = h.bd ∧ m.mem = s.mach.mem ∧ .alloc src 0xF 1 tag e 1 ∈ m.hw.out)) ∧
    Completes (.allocInc src tag e 1) s (fun m =>
      m.hw.arec e = { h.arec e with cnt := ((h.arec e).cnt + 1) % 2 ^ 16, shared := true } ∧ same m ∧
      .alloc src 0xF 0 tag e 1 ∈ m.hw.out) ∧
    (2 ≤ (h.arec e).cnt → Completes (.allocDec src tag e 1) s (fun m =>
      m.hw.arec e = { h.arec e with cnt := ((h.arec e).cnt - 1) % 2 ^ 16 } ∧ same m ∧ .alloc src 0xF 0 tag e 1 ∈ m.hw.out)) ∧
    ((h.arec e).cnt = 1 → h.extFailed e = false → Completes (.allocDec src tag e 1) s (fun m =>
      m.hw.arec e = { h.arec e with cnt := 0, dirty := true } ∧ e ∈ m.hw.dm.zero ∧ same m)) ∧
    ((h.arec e).cnt = 1 → Completes (.allocUnclaim src tag e 1) s (fun m =>
      m.hw.arec e = { h.arec e with cnt := 0 } ∧ m.hw.dm.zero = h.dm.zero ∧ same m)) ∧
    (h.bd.allocs.find? (fun q => q.dest == src && q.tag == tag) = some q → q.op = 3 → q.tid < 8192 →
      Completes (.allocAnswer src tag res) s (fun m =>
        m.hw.bd.allocs = h.bd.allocs.erase q ∧
        m.hw.bd.rels = removeFirst (fun r => r.tid == q.tid && r.gext == q.gext && r.step == 3) h.bd.rels ∧
        m.hw.regs = h.regs ∧ m.mem = s.mach.mem)) ∧
    (s.mach.recPoison e = true → Completes (.allocClaim src tag e 1) s (fun m =>
      (m.hw.arec e).failed = true ∧ (m.hw.arec e).cnt = (h.arec e).cnt % 2 ^ 16 ∧ same m ∧ .alloc src 0xF 1 tag e 1 ∈ m.hw.out))

/-! ### Management access (R13 to R20, R488 to R494, R584 to R592, R642) -/

/-- R13 to R18: a register write sets the RW fields of the register, a reserved encoding excepted, and a register read answers
the register's word and clears its RC fields; shown on BD_CTRL and BD_XCMISS, for every path that reaches them and whose domain
answers. An access to what its path does not reach (R582) is none. R20: a read of _LO captures _HI, whose next read returns the
capture; a write of _LO is staged without effect, and the write of _HI commits both halves, of SW_RTDATA_LO less the bits that
R182 reserves in a route entry (R16). -/
def Obligations.RegisterAndWidePairAccessesComplete : Prop :=
  (∀ (s : State) (p : Path) (data : Word), let h := s.mach.hw;
    (h.mgQuiet → h.answers 3 → pathReaches p true R.BD_CTRL.addr h = true →
    Completes (.registerWrite p R.BD_CTRL.addr 4 data) s (fun m =>
      m.hw.fget F.BD_CTRL_ADDTMO 0 = (if bits data.toNat 0 16 = 0 then h.fget F.BD_CTRL_ADDTMO 0 else bits data.toNat 0 16) ∧
      m.hw.fget F.BD_CTRL_DRNTMO 0 = (if bits data.toNat 16 8 = 0 then h.fget F.BD_CTRL_DRNTMO 0 else bits data.toNat 16 8) ∧
      m.hw.out = .mgmt p true 0 0 :: h.out ∧ m.mem = s.mach.mem ∧
      FieldsKept [(F.BD_CTRL_ADDTMO, 0), (F.BD_CTRL_DRNTMO, 0)] s.mach m)) ∧
    (h.mgQuiet → h.answers 3 → pathReaches p false R.BD_XCMISS.addr h = true →
    Completes (.rcFieldRead p R.BD_XCMISS.addr 4) s (fun m =>
      m.hw.out = .mgmt p false 0 (h.fget F.BD_XCMISS_VAL 0 % 2 ^ 32) :: h.out ∧ m.hw.fget F.BD_XCMISS_VAL 0 = 0 ∧
      m.mem = s.mach.mem ∧ FieldsKept [(F.BD_XCMISS_VAL, 0)] s.mach m)) ∧
    (∀ (addr size : Nat),
      (pathReaches p true addr h = false → ∀ i ∈ ([.registerWrite p addr size data, .loRegisterWrite p addr size data,
        .hiRegisterWrite p addr size data] : List Instr), Completes i s (fun m => m = s.mach)) ∧
      (pathReaches p false addr h = false → ∀ i ∈ ([.rcFieldRead p addr size, .loRegisterRead p addr size] : List Instr),
        Completes i s (fun m => m = s.mach)))) ∧
  (∀ (s : State) (p : Path) (data : Word) (v : Nat), let h := s.mach.hw;
    h.mgQuiet →
    (h.answers 1 → pathReaches p false R.CK_LTIME_LO.addr h = true → pathReaches p false R.CK_LTIME_HI.addr h = true →
      Completes (.loRegisterRead p R.CK_LTIME_LO.addr 4) s (fun m =>
        m.hw.out = .mgmt p false 0 (h.ck.ltime % 2 ^ 32) :: h.out ∧
        Store.get? m.hw.mg.shadow R.CK_LTIME_HI.addr = some (h.ck.ltime / 2 ^ 32 % 2 ^ 32) ∧ m.hw.regs = h.regs ∧
        m.mem = s.mach.mem) ∧
      (Store.get? h.mg.shadow R.CK_LTIME_HI.addr = some v →
        Completes (.rcFieldRead p R.CK_LTIME_HI.addr 4) s (fun m =>
          m.hw.out = .mgmt p false 0 v :: h.out ∧ Store.get? m.hw.mg.shadow R.CK_LTIME_HI.addr = none))) ∧
    (h.answers 3 → pathReaches p true R.SW_RTDATA_LO.addr h = true → pathReaches p true R.SW_RTDATA_HI.addr h = true →
      Completes (.loRegisterWrite p R.SW_RTDATA_LO.addr 4 data) s (fun m =>
        Store.get? m.hw.mg.staged R.SW_RTDATA_LO.addr = some data.toNat ∧ m.hw.regs = h.regs ∧
        m.hw.out = .mgmt p true 0 0 :: h.out ∧ m.mem = s.mach.mem) ∧
      (Store.get? h.mg.staged R.SW_RTDATA_LO.addr = some v →
        Completes (.hiRegisterWrite p R.SW_RTDATA_HI.addr 4 data) s (fun m =>
          m.hw.fget F.SW_RTDATA_LO_VAL 0 = (v &&& 0x01FFFFF3) % 2 ^ 32 ∧ m.hw.fget F.SW_RTDATA_HI_VAL 0 = data.toNat ∧
          Store.get? m.hw.mg.staged R.SW_RTDATA_LO.addr = none ∧ m.hw.out = .mgmt p true 0 0 :: h.out ∧
          m.mem = s.mach.mem ∧ FieldsKept [(F.SW_RTDATA_LO_VAL, 0), (F.SW_RTDATA_HI_VAL, 0)] s.mach m))))

/-- R590 to R592: START begins a burst of BURST + 1 beats, ABORT lets no further beat be issued, and in 8-byte single mode the
first write stages the low half and the second read returns the high half. R588 to R590: the answer that memory has given to a
beat of a single access ends it: with STATUS 0 and a read's data, or POISONED without data; in 8-byte mode the upper half of a
read waits for the second access; 20 µs without an answer end the beat with STATUS TIMEOUT and no data. Before its answer has
come, a beat does not end; nor does the answer to another beat end it. -/
def Obligations.WindowPortCompletes : Prop :=
  (∀ (s : State) (p : Path) (data : Word) (hi : Nat) (b : Burst) (x : Beat), let h := s.mach.hw;
    let w := Nat.lor data.toNat 0x10;
    h.answers 1 →
    (h.mgQuiet → pathReaches p true R.WIN_CTRL.addr h = true → h.winBusy = false → fldOf F.WIN_CTRL_BURST w ≠ 0 →
      fldOf F.WIN_CTRL_DIR w = 1 →
      Completes (.winCtrlStart p data) s (fun m =>
        m.hw.mg.burst = some ⟨true, fldOf F.WIN_CTRL_BURST w + 1, fldOf F.WIN_CTRL_SIZE w + 1, 0, 0, 0, 0, p⟩ ∧
        m.hw.fget F.WIN_CTRL_STATUS 0 = 0 ∧ m.hw.out = .mgmt p true 0 0 :: h.out ∧ m.mem = s.mach.mem)) ∧
    (h.mg.pend = [] → h.mg.beat = some x → x.acc = none → h.mg.burst = some b → h.mg.waiting = [] → h.mg.queue = [] →
      h.bc.reqs = [] → h.winBusy = true → pathReaches p true R.WIN_CTRL.addr h = true →
      Completes (.winCtrlAbort p) s (fun m =>
        m.hw.mg.burst = some { b with beats := b.issued } ∧ m.hw.regs = h.regs ∧ m.hw.out = .mgmt p true 0 0 :: h.out ∧
        m.mem = s.mach.mem)) ∧
    (h.mgQuiet → h.fget F.WIN_CTRL_BURST 0 = 0 → h.fget F.WIN_CTRL_SIZE 0 = 1 →
      (h.mg.half = none → pathReaches p true R.WIN_DATA.addr h = true → Completes (.winDataWrite p data) s (fun m =>
        m.hw.mg.half = some (true, data.toNat) ∧ m.hw.out = .mgmt p true 0 0 :: h.out ∧ m.hw.regs = h.regs ∧
        m.mem = s.mach.mem)) ∧
      (h.mg.half = some (false, hi) → pathReaches p false R.WIN_DATA.addr h = true → Completes (.winDataRead p) s (fun m =>
        m.hw.mg.half = none ∧ m.hw.out = .mgmt p false 0 hi :: h.out ∧ m.hw.regs = h.regs ∧ m.mem = s.mach.mem)))) ∧
  (∀ (s : State) (x : Beat) (v : Nat) (poison : Bool) (n : Nat), let h := s.mach.hw;
    let word := fun (n : Nat) => bits v (8 * (x.addr % 64) + 32 * n) 32;
    h.mg.pend = [] → h.mg.beat = some x → x.acc = some .cmd → h.mg.burst = none → h.mg.waiting = [] → h.mg.queue = [] →
    h.bc.reqs = [] →
    (x.res = some (v, poison) →
      (x.size = 4 → Completes (.windowBeatEnd x.idx) s (fun m =>
        m.hw.mg.beat = none ∧ m.hw.fget F.WIN_CTRL_STATUS 0 = (if poison then 8 else 0) ∧
        m.hw.out = .mgmt x.path x.write 0 (if poison ∨ x.write = true then 0 else word 0) :: h.out ∧ m.mem = s.mach.mem ∧
        FieldsKept [(F.WIN_CTRL_STATUS, 0)] s.mach m)) ∧
      (x.size = 8 → x.write = false → poison = false → Completes (.windowBeatEnd x.idx) s (fun m =>
        m.hw.mg.beat = none ∧ m.hw.mg.half = some (false, word 1) ∧ m.hw.out = .mgmt x.path false 0 (word 0) :: h.out ∧
        m.mem = s.mach.mem ∧ FieldsKept [(F.WIN_CTRL_STATUS, 0)] s.mach m))) ∧
    (x.res = none → Completes (.windowBeatEnd x.idx) s (fun m => m = s.mach)) ∧
    (n ≠ x.idx → Completes (.windowBeatEnd n) s (fun m => m = s.mach)) ∧
    (x.size = 4 → Completes .windowBeatTimeout s (fun m =>
      m.hw.mg.beat = none ∧ m.hw.fget F.WIN_CTRL_STATUS 0 = 3 ∧ m.hw.out = .mgmt x.path x.write 0 0 :: h.out ∧
      m.mem = s.mach.mem ∧ FieldsKept [(F.WIN_CTRL_STATUS, 0)] s.mach m)))

/-- R489, R491, R494, R496: the end of a waiting access by time-out (DOMAIN_TIMEOUT, counted and reported) and by a reset notice
(RESET_ABORT, counted), the end of a notice, and the end of a wake, after which the Spire ports that nothing holds train. R23,
R31: a response to an internal tag that awaits it with the tag's present generation is accepted; any other one is discarded and
counted in the late counter of its block: for the switch, the home, the Cupola, the data mover, the crossings, each Dome
channel, and a tenant's request, whose generation is its TGEN. -/
def Obligations.DomainEventsAndInternalResponsesComplete : Prop :=
  (∀ (s : State) (a : PendAcc) (d us : Nat), let h := s.mach.hw;
    (h.mg.pend = [a] → a.win = false → a.src = .cmd → h.mg.beat = none → h.mg.burst = none → h.mg.waiting = [] →
      h.mg.queue = [] → h.bc.reqs = [] → (h.queue 1).length < 8 →
      Completes (.domainTimeout a.path) s (fun m =>
        m.hw.mg.pend = [] ∧ m.hw.out = .mgmt a.path a.write 3 0 :: h.out ∧
        m.hw.fget F.CK_DTMOCNT_VAL 0 = min (h.fget F.CK_DTMOCNT_VAL 0 + 1) (2 ^ F.CK_DTMOCNT_VAL.width - 1) ∧
        (m.hw.queue 1).length = (h.queue 1).length + 1 ∧ m.mem = s.mach.mem ∧
        FieldsKept [(F.CK_DTMOCNT_VAL, 0)] s.mach m) ∧
      (a.dom < 4 → Completes (.resetNotice a.dom) s (fun m =>
        m.hw.mg.pend = [] ∧ m.hw.out = .mgmt a.path a.write 5 0 :: h.out ∧ m.hw.fget F.CK_DOMSTAT_NOTICE a.dom = 1 ∧
        m.hw.fget F.CK_DOMSTAT_RST a.dom = 1 ∧
        m.hw.fget F.CK_RABORTCNT_VAL 0 = min (h.fget F.CK_RABORTCNT_VAL 0 + 1) (2 ^ F.CK_RABORTCNT_VAL.width - 1) ∧
        m.mem = s.mach.mem))) ∧
    (d < 38 → Completes (.resetReady d) s (fun m =>
      m.hw.fget F.CK_DOMSTAT_NOTICE d = 0 ∧ m.hw.fget F.CK_DOMSTAT_RST d = 0 ∧
      OnlyFields [(F.CK_DOMSTAT_NOTICE, d), (F.CK_DOMSTAT_RST, d)] s.mach m)) ∧
    (h.mgQuiet → h.fget F.CK_PWRSTAT_STATE 0 = 6 → Completes (.wakeComplete us) s (fun m =>
      m.hw.fget F.CK_PWRSTAT_STATE 0 = 3 ∧ m.hw.fget F.CK_PWRSTAT_WAKEUS 0 = us % 2 ^ F.CK_PWRSTAT_WAKEUS.width ∧
      m.hw.fget F.SW_CTRL_HALT 0 = 0 ∧ m.hw.dd.selfRefresh = false ∧ m.hw.ck.asleep = false ∧ m.mem = s.mach.mem ∧
      (∀ p < 4, m.hw.fget F.SL_PSTAT_STATE p =
        if h.fget F.SL_PSTAT_STATE p = 0 ∧ h.flag F.SL_PCFG_EN p ∧ !h.flag F.SL_STKSTAT_SIDERR 0 ∧ !h.contained (didxOf domSpire p) then 1
        else h.fget F.SL_PSTAT_STATE p) ∧
      FieldsKept [(F.CK_PWRSTAT_STATE, 0), (F.CK_PWRSTAT_WAKEUS, 0), (F.SW_CTRL_HALT, 0), (F.SL_PSTAT_STATE, 0), (F.SL_PSTAT_STATE, 1),
        (F.SL_PSTAT_STATE, 2), (F.SL_PSTAT_STATE, 3)] s.mach m))) ∧
  (∀ (s : State) (r : TagRsp) (c : Nat), let h := s.mach.hw;
    let tid := r.tag / 2 ^ 32;
    let req := r.tag % 2 ^ 32;
    let known := h.bd.reads.any (fun x => x.tid == tid && x.rid == req) || h.bd.writes.any (fun x => x.tid == tid && x.wid == req);
    let taken := Completes (.internalResponse r) s (fun m => m = s.mach.onHw (fun h => h.emit (.tagRsp r true)));
    let late := fun (f : Fld) (i : Nat) => Completes (.internalResponse r) s (fun m =>
      m.hw.fget f i = min (h.fget f i + 1) (2 ^ f.width - 1) ∧ m.hw.out = .tagRsp r false :: h.out ∧ m.mem = s.mach.mem ∧
      FieldsKept [(f, i)] s.mach m);
    (∀ x ∈ ([(.sw, F.SW_LATE_VAL), (.hd, F.HD_LATE_VAL), (.cu, F.CU_LATE_VAL), (.dm, F.DM_LATE_VAL), (.ck, F.CK_LATE_VAL)] :
        List (TagBlk × Fld)), r.blk = x.1 →
      (h.tagOpen x.1 r.tag = true → r.gen = h.tagGen x.1 r.tag → x.1 ≠ .ck → taken) ∧
      (h.tagOpen x.1 r.tag = false ∨ r.gen ≠ h.tagGen x.1 r.tag → late x.2 0)) ∧
    (r.blk = .dd c → c < 12 →
      (r.gen = h.tagGen (.dd c) r.tag → taken) ∧ (r.gen ≠ h.tagGen (.dd c) r.tag → late F.DD_LATE_VAL c)) ∧
    (r.blk = .bd →
      (r.gen = ttGen (h.ent tid) → h.bd.abandoned.contains (tid, req) = false → known = true → taken) ∧
      (r.gen ≠ ttGen (h.ent tid) ∨ h.bd.abandoned.contains (tid, req) = true ∨ known = false → late F.BD_LATE_VAL 0)))

/-- R540, R544, R584, R585, R642: the other ways to a register: a REGREQ of the barrier channel is performed and answered by
REGRSP, a vendor CCI command is performed where ID_MGCTRL allows it and refused where not, DBGACC accesses the window registers,
and a write of BC_WCFG3 from Turret sends SETCFG (R16, R527: bytes 12 and 13 are reserved and read 0, and the fabric end keeps
14 and 15). -/
def Obligations.OtherAccessPathsComplete : Prop :=
  ∀ (s : State) (p : Path) (seq bits_ : Nat) (payload : List Byte) (data : Word), let h := s.mach.hw
    let v := h.fget F.BD_XCMISS_VAL 0 % 2 ^ 32
    (h.mgQuiet → h.answers 3 → leAt payload 2 4 = R.BD_XCMISS.addr → byteAt payload 0 = 0 → payload.length = 10 →
      h.bc.fab.sync = true → h.bc.fab.up = true → h.bc.fab.asleep = false → h.bc.fab.unacked = [] → h.bc.fab.wait = [] →
      h.bc.fab.rx = seq →
      Completes (.regreq true seq payload) s (fun m =>
        m.hw.bc.reqs = [] ∧ m.hw.fget F.BD_XCMISS_VAL 0 = 0 ∧ m.hw.bc.fab.rx = (seq + 1) % 256 ∧
        m.hw.out.head? = some (.barrier false 0x24 h.bc.fab.tx
          ([BitVec.ofNat 8 (byteAt payload 1), 0] ++ toLE v 4 ++ [0])) ∧ m.mem = s.mach.mem ∧
        FieldsKept [(F.BD_XCMISS_VAL, 0)] s.mach m)) ∧
    (h.mgQuiet → h.answers 3 → isCci p = true →
      (1 ≤ cciMode p h → payload.length = 4 → leAt payload 0 4 = R.BD_XCMISS.addr →
        Completes (.onamenexRegisterRead p payload) s (fun m =>
          m.hw.out = .cciRsp p 0 ([0, 0, 0, 0] ++ (toLE v 4).map (fun b => b.toNat)) :: h.out ∧
          m.hw.fget F.BD_XCMISS_VAL 0 = 0 ∧ m.mem = s.mach.mem ∧ FieldsKept [(F.BD_XCMISS_VAL, 0)] s.mach m)) ∧
      (2 ≤ cciMode p h → payload.length = 8 → leAt payload 0 4 = R.BD_CTRL.addr → bits (leAt payload 4 4) 0 16 ≠ 0 →
        Completes (.onamenexRegisterWrite p payload) s (fun m =>
          m.hw.out = .cciRsp p 0 [0, 0, 0, 0] :: h.out ∧
          m.hw.fget F.BD_CTRL_ADDTMO 0 = bits (leAt payload 4 4) 0 16 ∧ m.mem = s.mach.mem ∧
          FieldsKept [(F.BD_CTRL_ADDTMO, 0), (F.BD_CTRL_DRNTMO, 0)] s.mach m)) ∧
      (cciMode p h = 0 → Completes (.onamenexRegisterRead p payload) s (fun m =>
        m = s.mach.onHw (fun h => h.emit (.cciRsp p 3 []))))) ∧
    (h.mgQuiet → Completes (.dbgacc false bits_) s (fun m =>
      m = s.mach.onHw (fun h => (setIr 0x10 h).emit (.tdo 41 (h.dt.res.1 + h.dt.res.2 * 2 ^ 8))))) ∧
    (h.mgQuiet → h.answers 1 → bits_ % 16 = 1 → Completes (.dbgacc true bits_) s (fun m =>
      m.hw.dt.ir = 0x10 ∧ m.hw.dt.res = (0, h.fget F.WIN_ADDR_LO_VAL 0 % 2 ^ 32) ∧ m.hw.regs = h.regs ∧
      m.mem = s.mach.mem)) ∧
    (h.bc.fab.up = false → Completes (.bcWcfg3Write .turret data) s (fun m =>
      m.hw.fget F.BC_WCFG_VAL 3 = bits (h.fget F.BC_WCFG_VAL 3) 16 16 * 2 ^ 16 ∧
      m.hw.fget F.BC_WCFGSTAT_PEND 0 = 1 ∧ m.hw.bc.setcfg = some (wcfgBlock m.hw) ∧ m.mem = s.mach.mem ∧
      FieldsKept [(F.BC_WCFG_VAL, 3), (F.BC_WCFGSTAT_PEND, 0), (F.BC_WCFGSTAT_MATCH, 0)] s.mach m)) ∧
    (p ≠ .turret → Completes (.bcWcfg3Write p data) s (fun m => m = s.mach))

/-! ### Internal tags and resets (R23, R31, R497 to R501) -/

/-- R497 to R501: a module reset that was asked for returns every register field to its reset value but for the causes it
records, empties Dome and the scratchpad, keeps the flash and asks for a start-up; a fabric reset records its cause and restarts
local time. -/
def Obligations.ResetsComplete : Prop :=
  ∀ (s : State) (c ms : Nat), let h := s.mach.hw
    (h.ck.modReq = some c → Completes .moduleReset s (fun m =>
      m.hw.fget F.CK_RSTSTAT_MCAUSE 0 = c % 2 ^ F.CK_RSTSTAT_MCAUSE.width ∧ m.hw.fget F.CK_RSTSTAT_FCAUSE 0 = 4 ∧
      (∀ (g : Fld) (j : Nat), fkey g j ≠ fkey F.CK_RSTSTAT_MCAUSE 0 → fkey g j ≠ fkey F.CK_RSTSTAT_FCAUSE 0 →
        m.hw.fget g j = rstOf g j) ∧
      m.mem.dome = [] ∧ m.mem.sp = [] ∧ m.mem.flash = s.mach.mem.flash ∧ m.hw.otp = h.otp ∧ m.hw.bd.tt = [] ∧
      m.hw.ck.modReq = none ∧ (h.ck.por = false → m.hw.ck.boot = some c))) ∧
    (h.ck.fabReq = some c → h.ck.modReq = none → h.flag F.BC_STAT_PFW 0 = false → h.mgQuiet →
      Completes (.fabricReset ms) s (fun m =>
        m.hw.ck.fabReq = none ∧ m.hw.ck.ltime = 0 ∧ m.hw.fget F.CK_RSTSTAT_FCAUSE 0 = c % 2 ^ F.CK_RSTSTAT_FCAUSE.width ∧
        m.hw.fget F.CK_RSTSTAT_BUSY 0 = 0 ∧ m.hw.sw.voq = [] ∧ m.hw.bd.writes = []))

/-! ### Ingress (R40 to R42, R179 to R186, R657) -/

/-- R179, R181, R184, R191: a message that is no request resolves its route, by the index its sending block names or by the bus
map of its VCS, and joins the VOQ with the entry's epoch and its ingress time; where the entry is invalid or names a multicast
group it is dropped. R194: a BIRsp of a port at which a pool request waits for its table read waits behind it. R42, R315: the
table read of a translation cache miss returns: an entry with V is cached, and the request that missed on it goes on. -/
def Obligations.IngressAndTranslationComplete : Prop :=
  (∀ (s : State) (m : Msg) (i : Nat), let h := s.mach.hw;
    let p := queueSet h m.ing;
    let m' := { m with ing := p, itime := h.itime, part := false };
    let eg := queueSet h (egressOf h i);
    let x : EMsg := { msg := m', q := queueOf h m' eg, eg := eg, ridx := i, epoch := rtEpoch (h.route i), itime := h.itime, got := 0, total := cellCount m.len, bad := false, mc := none, gone := false };
    isRequest m.cls = false → m.tid = none → m.ide = none → m.bad = false → (p < 72 → h.flag F.FP_PCFG_IDEREQ p = false) →
    tailOpen h p m.rid = false → i < 16384 → (eg < 72 → h.flag F.FP_PCFG_IDEREQ eg = false) →
    (m.dest = .named (some i) ∨ ∃ n, m.dest = .bus n ∧ Store.get? h.sw.idMap (p * 256 + n) = some i) →
    (bits (h.route i) 0 2 = 1 → (m.cls = .birsp → ∀ y ∈ h.bd.miss, y.ing ≠ p) → Completes (.messageIngress m) s (fun t =>
      t.hw.sw.voq = h.sw.voq ++ [x] ∧
      t.hw.regs = h.regs ∧ t.hw.out = h.out ∧ t.hw.bd = h.bd ∧ t.mem = s.mach.mem)) ∧
    (bits (h.route i) 0 2 ≠ 1 → m.cls ≠ .internal → (m.cls = .birsp → ∀ y ∈ h.bd.miss, y.ing ≠ p) →
      Completes (.messageIngress m) s (fun t =>
        t.hw.sw.voq = h.sw.voq ∧ t.hw.regs = h.regs ∧ t.hw.out = .rsp m.rid .dropped :: h.out ∧ t.hw.bd = h.bd ∧
        t.mem = s.mach.mem)) ∧
    (m.cls = .birsp → (∃ y ∈ h.bd.miss, y.ing = p) → Completes (.messageIngress m) s (fun t =>
      t.hw.bd.miss = h.bd.miss ++ [m'] ∧ t.hw.sw = h.sw ∧ t.hw.regs = h.regs ∧ t.hw.out = h.out ∧ t.mem = s.mach.mem))) ∧
  (∀ (s : State) (t e : Nat) (x : Msg) (q : MemReq), let h := s.mach.hw;
    let p := domeMap h (etAddr (h.ent t) e);
    h.bd.miss = [x] → x.tid = some t → x.req = some q → q.addr / 2 ^ 21 = e → h.chFailed p.prim = false →
    (s.mach.attr p.prim p.addr).poison = false →
    Completes (.translationCacheFill t e .good .good) s (fun m =>
      m.hw.bd.miss = [] ∧ (etV (s.mach.et t e) = true → ttState (h.ent t) ≠ 4 → ttState (h.ent t) ≠ 5 → m.hw.cached t e = some (s.mach.et t e)) ∧ m.hw.bd.tt = h.bd.tt ∧
      m.mem.stored = s.mach.mem.stored))

/-- R40, R41, R62, R67, R215, R657: a read of a pool tenant that hits the translation cache and is granted is counted and routed
to the GPA of its entry; one at or beyond ETLEN is counted and ends with poison, whose message enters the VOQ, and a fault in
the tenant's domain; a read of a tenant that is not BOUND, and a request of an unbound vPPB of a host port, end with poison,
counted in BD_STOPREJ. -/
def Obligations.PoolRequestsComplete : Prop :=
  ∀ (s : State) (port vppb t x gpa : Nat) (m : Msg) (q : MemReq), let h := s.mach.hw
    let q' := { q with tid := t }
    let poisoned := fun (m' : Mach) => m'.hw.out = .rsp m.rid .poison :: h.out ∧ m'.mem = s.mach.mem ∧
      ∃ e : EMsg, m'.hw.sw.voq = h.sw.voq ++ [e] ∧ e.rsp = some ⟨.poison, none⟩ ∧ e.eg = port ∧ e.msg.rid = m.rid ∧
        e.msg.tag = m.tag
    let refused := fun (m' : Mach) => poisoned m' ∧
      m'.hw.fget F.BD_STOPREJ_VAL 0 = min (h.fget F.BD_STOPREJ_VAL 0 + 1) (2 ^ 32 - 1) ∧ m'.hw.fc = h.fc ∧
      FieldsKept [(F.BD_STOPREJ_VAL, 0)] s.mach m'
    port < 72 → xpOwner h port = port → h.flag F.FP_PCFG_IDEREQ port = false → m.cls = .memReqD → m.ide = none →
    m.bad = false → m.req = some q → q.kind = .memRd → tailOpen h port m.rid = false →
    (h.tenantAt port vppb = some t → t < 8192 → ttState (h.ent t) = 2 → ttPort (h.ent t) = port → ttKind (h.ent t) = 0 →
      h.contained (didxOf domTenant t) = false → h.fget F.BD_TDRAIN_OUT t < 2 ^ 20 - 1 →
      (∀ y ∈ h.bd.miss, y.ing ≠ port) →
      (q.addr / 2 ^ 21 < ttEtlen (h.ent t) → h.cached t (q.addr / 2 ^ 21) = some x → xlateEntry x q.addr false = some gpa →
        firstDenial (guardParts h (tenantGReq h q')) = none → bits (h.route (poolRoute h gpa % 16384)) 0 2 = 1 →
        (queueSet h (egressOf h (poolRoute h gpa % 16384)) < 72 →
          h.flag F.FP_PCFG_IDEREQ (queueSet h (egressOf h (poolRoute h gpa % 16384))) = false) →
        paceRate h t = 0 → h.pq t = [] → (∀ y ∈ h.ts.waiting, y.msg.tid ≠ some t) →
        Completes (.cxlMemM2sRequest port vppb m) s (fun m' =>
          m'.hw.out = .routed q.rid gpa :: h.out ∧ m'.hw.sw.voq.length = h.sw.voq.length + 1 ∧
          m'.hw.fget F.BD_TDRAIN_OUT t = h.fget F.BD_TDRAIN_OUT t + 1 ∧
          m'.hw.bd.reads = h.bd.reads ++ [{ tid := t, rid := m.rid, rsp := .poison, tc := m.tc }] ∧ m'.mem = s.mach.mem ∧
          FieldsKept [(F.BD_TDRAIN_OUT, t)] s.mach m')) ∧
      (ttEtlen (h.ent t) ≤ q.addr / 2 ^ 21 → (h.queue 8).length < 8 → Completes (.cxlMemM2sRequest port vppb m) s (fun m' =>
        poisoned m' ∧ m'.hw.fget F.BD_TDRAIN_OUT t = h.fget F.BD_TDRAIN_OUT t + 1 ∧
        ∃ f : FMsg, m'.hw.queue 8 = h.queue 8 ++ [f] ∧ f.code = 0x2801 ∧ f.domain = 2 ∧ f.dinst = t ∧
          f.addr = q.addr % 2 ^ 64))) ∧
    (h.tenantAt port vppb = none → h.role port = 1 → Completes (.cxlMemM2sRequest port vppb m) s refused) ∧
    (h.tenantAt port vppb = some t → ttState (h.ent t) ≠ 0 → ttState (h.ent t) ≠ 2 → ttPort (h.ent t) = port →
      Completes (.cxlMemM2sRequest port vppb m) s refused)

/-! ### The switch core (R182 to R223) -/

/-- R187, R190, R229: the route table commands: NOP and READ from every path; UPDATE and UPDATE-REVOKE from Turret write V, MC,
TARGET, ALTV and ALT (0 from entry 8 on, R182) and advance EPOCH, a REVOKE raises RFLOOR to it, and BUSY stays until the update
completes; another master is DENIED, and a command while BUSY is 1 is rejected. -/
def Obligations.RouteCommandsComplete : Prop :=
  ∀ (s : State) (p : Path) (i : Nat), i < 16384 → let h := s.mach.hw
    let lo := h.fget F.SW_RTDATA_LO_VAL 0
    let written := fun (m : Mach) =>
      bits (m.hw.route i) 0 2 = bits lo 0 2 ∧ rtTarget (m.hw.route i) = rtTarget lo ∧
      bits (m.hw.route i) 17 7 = (if i < 8 then bits lo 17 7 else 0) ∧ bits (m.hw.route i) 24 1 = bits lo 24 1 ∧
      rtEpoch (m.hw.route i) = (rtEpoch (h.route i) + 1) % 65536 ∧ (∀ j, j ≠ i → m.hw.route j = h.route j) ∧
      m.hw.fget F.SW_RTSTAT_BUSY 0 = 1 ∧ m.hw.fget F.SW_RTSTAT_RESULT 0 = 0 ∧ m.hw.bd = h.bd ∧ m.mem = s.mach.mem
    (h.flag F.SW_RTSTAT_BUSY 0 = false →
      Completes (.swRtcmdNop p i) s (fun m => m.hw.fget F.SW_RTSTAT_RESULT 0 = 0 ∧
        OnlyFields [(F.SW_RTCMD_RIDX, 0), (F.SW_RTCMD_OP, 0), (F.SW_RTSTAT_RESULT, 0)] s.mach m) ∧
      Completes (.swRtcmdRead p i) s (fun m => m.hw.fget F.SW_RTSTAT_RESULT 0 = 0 ∧
        m.hw.fget F.SW_RTDATA_LO_VAL 0 = bits (h.route i) 0 32 ∧ m.hw.fget F.SW_RTDATA_HI_VAL 0 = bits (h.route i) 32 32 ∧
        OnlyFields [(F.SW_RTCMD_RIDX, 0), (F.SW_RTCMD_OP, 0), (F.SW_RTSTAT_RESULT, 0), (F.SW_RTDATA_LO_VAL, 0),
          (F.SW_RTDATA_HI_VAL, 0)] s.mach m) ∧
      (rtFieldOk i lo = true →
        Completes (.swRtcmdUpdate .turret i) s (fun m => written m ∧ rtFloor (m.hw.route i) = rtFloor (h.route i)) ∧
        Completes (.swRtcmdUpdateRevoke .turret i) s (fun m =>
          written m ∧ rtFloor (m.hw.route i) = (rtEpoch (h.route i) + 1) % 65536)) ∧
      (p ≠ .turret → Completes (.swRtcmdUpdate p i) s (fun m => m.hw.fget F.SW_RTSTAT_RESULT 0 = 3 ∧
        OnlyFields [(F.SW_RTCMD_RIDX, 0), (F.SW_RTCMD_OP, 0), (F.SW_RTSTAT_RESULT, 0)] s.mach m))) ∧
    (h.flag F.SW_RTSTAT_BUSY 0 = true → Completes (.swRtcmdUpdate p i) s (fun m =>
      m.hw.fget F.SW_RTSTAT_RESULT 0 = 2 ∧ OnlyFields [(F.SW_RTSTAT_RESULT, 0)] s.mach m)) ∧
    Completes .routeUpdateComplete s (fun m =>
      m.hw.fget F.SW_RTSTAT_BUSY 0 = 0 ∧ OnlyFields [(F.SW_RTSTAT_BUSY, 0)] s.mach m)

/-- R192, R193, R195, R202: in a slot with HALT at 0 and cells free, the one message that waits between two internal blocks
crosses through one of its block's crossbar ports: its cell is linked into its egress queue, the buffer holds one cell more, and
its credits return. R197, R198, R213, R214, R234: the egress of a block port sends the message at the head of its strict queue,
or the response that Terroth made, and frees its cells; where a cell of it has an uncorrectable error it is discarded as BAD; a
queue head older than its class limit is discarded and counted, with its requester's response. -/
def Obligations.MatchingAndEgressComplete : Prop :=
  (∀ (s : State) (e : EMsg), let h := s.mach.hw;
    let qid := 16 * e.eg + e.q;
    h.flag F.SW_CTRL_HALT 0 = false → 1 ≤ h.fget F.SW_CTRL_ITERS 0 → h.fget F.SW_CTRL_ITERS 0 ≤ 3 → h.sw.voq = [e] →
    80 ≤ e.msg.ing → e.msg.ing < 95 → 80 ≤ e.eg → e.eg < 95 → e.q < 16 → e.got = 0 → e.total = 1 → e.msg.tail = true →
    e.gone = false → e.legs = [] → h.fget F.SW_BUFCFG_SRESV 0 < h.freeCells → h.flag F.SW_CTRL_SPEN 0 = false →
    (h.eq qid).spilling = false →
    Completes .matchingSlot s (fun m =>
      m.hw.sw.voq = [] ∧ m.hw.sw.used = h.sw.used + 1 ∧
      (∃ i ∈ xpsOf h (xpOwner h e.msg.ing),
        (m.hw.eq qid).head = (h.eq qid).head ++ [{ e with got := 1, srcxp := e.srcxp ++ [i] }]) ∧
      (∀ k, k ≠ qid → m.hw.eq k = h.eq k) ∧ m.hw.out = .credits e.msg.ing e.msg.rid :: h.out ∧ m.hw.bd = h.bd ∧
      m.mem = s.mach.mem)) ∧
  (∀ (s : State) (xp : Nat) (credit : List MsgCls) (e : EMsg) (qid : Nat) (q : EQ), let h := s.mach.hw;
    (80 ≤ xp → xp < 96 → h.sw.inTx = [] → (h.eq (16 * xp)).head = [e] →
      (∀ k, k < 16 → 1 ≤ k → (h.eq (16 * xp + k)).head = []) → e.eg = xp → e.got = e.total → e.msg.tail = true →
      e.mc = none → e.msg.tid = none → discardRule h e = none → credit.contains e.msg.cls = true →
      slopeOf h (16 * xp) = 0 →
      Completes (.egressSelect xp credit ⟨.good, .good⟩) s (fun m =>
        (m.hw.eq (16 * xp)).head = [] ∧ m.hw.sw.used = h.sw.used - e.got ∧
        (∀ r, e.rsp = some r → m.hw.out = .reply xp e.msg.rid r e.msg.tag :: h.out) ∧
        (e.rsp = none → m.hw.out = .msgOut xp e.msg.rid false :: h.out) ∧
        m.hw.regs = h.regs ∧ m.hw.bd = h.bd ∧ m.mem = s.mach.mem) ∧
      Completes (.egressSelect xp credit ⟨.ue, .good⟩) s (fun m =>
        (m.hw.eq (16 * xp)).head = [] ∧ m.hw.sw.used = h.sw.used - e.got ∧
        m.hw.fget F.SW_BADDROP_VAL 0 = min (h.fget F.SW_BADDROP_VAL 0 + 1) (2 ^ 32 - 1) ∧ m.mem = s.mach.mem)) ∧
    (h.sw.eqs = [(qid, q)] → q.head = [e] → aged h e = true → e.mc = none → e.msg.tid = none → e.rsp = none →
      Completes .ageingCheck s (fun m =>
        (m.hw.eq qid).head = [] ∧ m.hw.sw.used = h.sw.used - e.got ∧
        m.hw.fget F.SW_AGEDROP_VAL 0 = min (h.fget F.SW_AGEDROP_VAL 0 + 1) (2 ^ 32 - 1) ∧
        m.hw.out = .rsp e.msg.rid (discardRsp e.msg.cls) :: h.out ∧ m.mem = s.mach.mem ∧
        FieldsKept [(F.SW_AGEDROP_VAL, 0)] s.mach m)))

/-- R204, R205, R207 to R209, R221: the spill engine: the oldest complete message of STAGE moves to DOME with its cell and
descriptor in the queue's page and its bandwidth charged; a refill read of DOME is started; its answer, or its time-out, brings
the message back to HEAD (BAD after a time-out, or where a cell read is poison); an answer of another generation, or with no
read outstanding, is counted as late; and with DOME empty, STAGE is relinked into HEAD on-chip. -/
def Obligations.SpillCompletes : Prop :=
  ∀ (s : State) (qid gen : Nat) (e : EMsg) (pg w r : Nat), let h := s.mach.hw
    let q := h.eq qid
    (q.stage = [e] → spillReady h q = true → e.total = 1 → q.pages.getLast? = some (pg, w, r) → w < 7680 → e.mc = none →
      s.mach.wholeLine (descAddr pg w) → (∀ j, j < 4 → s.mach.wholeLine (cellAddr pg w + 64 * j)) →
      Completes (.spillWrite ⟨qid, .good⟩) s (fun m =>
        (m.hw.eq qid).stage = [] ∧ (m.hw.eq qid).dome = q.dome ++ [{ e with spill := (pg, w, q.wseq) }] ∧ (m.hw.eq qid).wseq = (q.wseq + 1) % 2 ^ 24 ∧
        m.hw.sw.used = h.sw.used - e.got ∧ m.hw.sw.tokens = h.sw.tokens - cellCharge ∧
        readLE 0 m.mem.dome (descAddr pg w) 16 = cellDesc e 0 q.wseq % 2 ^ 128 ∧
        m.mem.sp = s.mach.mem.sp ∧ m.mem.flash = s.mach.mem.flash ∧
        ∀ a, a < descAddr pg w ∨ descAddr pg w + 16 ≤ a → a < cellAddr pg w ∨ cellAddr pg w + 256 ≤ a →
          Store.getD 0 m.mem.dome a = Store.getD 0 s.mach.mem.dome a)) ∧
    (q.dome.head? = some e → cellsOf q.head < 64 → q.reading = false → min (e.total * cellCharge) (256 * 160000) ≤ h.sw.tokens →
      Completes (.spillRefillRead qid) s (fun m =>
        (m.hw.eq qid).reading = true ∧ m.hw.tagOpen .sw qid = true ∧
        m.hw.sw.tokens = h.sw.tokens - e.total * cellCharge ∧ m.hw.regs = h.regs ∧ m.mem = s.mach.mem)) ∧
    (q.reading = true → q.dome = [e] → e.gone = false → e.bad = false →
      (let c := scanCells q.pages (some e.spill.1) e.spill.2.1 q.rseq e.total ⟨false, none, s.mach⟩
       c.seqErr = none → gen = h.tagGen .sw qid → Completes (.spillReadAnswer qid ⟨gen, false⟩) s (fun m =>
        (m.hw.eq qid).head = q.head ++ [{ e with bad := c.bad }] ∧ (m.hw.eq qid).dome = [] ∧ (m.hw.eq qid).reading = false ∧
        m.hw.sw.used = h.sw.used + e.total ∧ m.hw.tagOpen .sw qid = false ∧ m.mem.dome = s.mach.mem.dome)) ∧
      Completes (.spillReadTimeout qid) s (fun m =>
        (m.hw.eq qid).head = q.head ++ [{ e with bad := true }] ∧ (m.hw.eq qid).dome = [] ∧
        (m.hw.eq qid).reading = false ∧ m.hw.tagGen .sw qid = (h.tagGen .sw qid + 1) % 16 ∧ m.mem = s.mach.mem)) ∧
    (q.reading = false ∨ gen ≠ h.tagGen .sw qid → Completes (.spillReadAnswer qid ⟨gen, false⟩) s (fun m =>
      m.hw.fget F.SW_LATE_VAL 0 = min (h.fget F.SW_LATE_VAL 0 + 1) (2 ^ 32 - 1) ∧
      OnlyFields [(F.SW_LATE_VAL, 0)] s.mach m)) ∧
    (q.spilling = true → q.dome = [] → q.reading = false → q.stage = [e] → cellsOf q.head < 64 →
      Completes (.spillRelink qid) s (fun m =>
        (m.hw.eq qid).head = q.head ++ [e] ∧ (m.hw.eq qid).stage = [] ∧ (m.hw.eq qid).spilling = false ∧
        m.hw.regs = h.regs ∧ m.hw.out = h.out ∧ m.mem = s.mach.mem))

/-- R218, R219: a multicast leg that is done counts LEGS down, and the cells are freed with the last; a leg without posted
credit drops its copy and counts it. R222, R223: the leaked-buffer audit starts only with HALT at 1 and every queue empty, and
ends with the free lists rebuilt, the cells that a pacing queue, a port that sends or a multicast holds kept, and the leaks
counted. -/
def Obligations.MulticastAndAuditComplete : Prop :=
  (∀ (s : State) (mid qid n c : Nat) (e : EMsg) (rest : List EMsg), let h := s.mach.hw;
    Store.get? h.sw.legs mid = some (n, c) →
    (h.sw.sending.contains (mid, qid) = true → Store.get? h.sw.inTx (qid / 16) = none → Completes (.multicastLegDone mid qid) s (fun m =>
      m.hw.sw.sending = h.sw.sending.erase (mid, qid) ∧
      (2 ≤ n → Store.get? m.hw.sw.legs mid = some (n - 1, c) ∧ m.hw.sw.used = h.sw.used) ∧
      (n = 1 → Store.get? m.hw.sw.legs mid = none ∧ m.hw.sw.used = h.sw.used - c) ∧ m.hw.regs = h.regs ∧
      m.mem = s.mach.mem)) ∧
    ((h.eq qid).head = e :: rest → e.leg ≠ 0 → e.mc = some mid → 2 ≤ n → e.eg < 65536 →
      Completes (.multicastCreditTimeout qid) s (fun m =>
        (m.hw.eq qid).head = rest ∧ Store.get? m.hw.sw.legs mid = some (n - 1, c) ∧
        m.hw.fget F.SW_MCDROP_VAL e.eg = min (h.fget F.SW_MCDROP_VAL e.eg + 1) (2 ^ 32 - 1) ∧ m.mem = s.mach.mem))) ∧
  (∀ (s : State), let h := s.mach.hw;
    (auditReady h = true → Completes .swAudctrlGo s (fun m =>
      m.hw.fget F.SW_AUDSTAT_BUSY 0 = 1 ∧ OnlyFields [(F.SW_AUDSTAT_BUSY, 0)] s.mach m)) ∧
    (auditReady h = false → Completes .swAudctrlGo s (fun m =>
      m.hw.fget F.SW_AUDSTAT_RESULT 0 = 3 ∧ OnlyFields [(F.SW_AUDSTAT_RESULT, 0)] s.mach m)) ∧
    (h.flag F.SW_AUDSTAT_BUSY 0 = true → h.sw.dup = none → h.sw.pgDup = none → Completes .auditEnd s (fun m =>
      let held := heldCells h
      let n := h.sw.leak + (h.sw.used - held) + h.sw.pgLeak
      m.hw.fget F.SW_AUDSTAT_BUSY 0 = 0 ∧ m.hw.fget F.SW_AUDSTAT_RESULT 0 = (if n = 0 then 0 else 1) ∧
      m.hw.fget F.SW_AUDLEAK_VAL 0 = min (h.fget F.SW_AUDLEAK_VAL 0 + n) (2 ^ 32 - 1) ∧
      m.hw.sw.leak = 0 ∧ m.hw.sw.used = held ∧ m.hw.freeCells = 65536 - held ∧ m.mem = s.mach.mem)))

/-! ### Traffic scheduling (R234 to R254) -/

/-- R237 to R239: at a slot boundary a shaper whose queue was non-empty gains five times the slope in force within its limits; a
write of its limits leaves the settings in force and the credit until the boundary that ends its slot, after which they take
effect with the credit clamped to them. R241 to R246, R252, R253, R486: the pacer releases the request of the tenant it serves
to the VOQ and, with a rate, advances E by the request's length over the rate; a RATE write leaves the rate in force until the
end of the tick, which computes E again; a tick advances local and stack time by 10 ns outside STANDBY; and the sampler keeps
the greatest depth of a queue. -/
def Obligations.ShapingAndPacingComplete : Prop :=
  (∀ (s : State) (qid : Nat) (data : Word) (credit : List MsgCls) (ecc late : Ecc), let h := s.mach.hw;
    let slope := slopeOf h qid;
    let limit := fun (cap floor : Nat) => max (-(16000 * (floor : Int))) (min (16000 * (cap : Int)) (h.cred qid));
    (sortNats (h.instsOf F.TS_SHCFG_ISLOPE ++ h.ts.cred.map Prod.fst ++ h.ts.shOld.map Prod.fst) = [qid] → h.ts.shNew = [] →
      Completes .shaperSlotBoundary s (fun m =>
      (slope = 0 → m.hw.cred qid = 0) ∧
      (slope ≠ 0 → h.ts.held.contains qid = true → m.hw.cred qid = clampCred h qid (h.cred qid + 5 * slope)) ∧
      m.hw.ts.shNew = h.ts.shOld.map Prod.fst ∧
      m.hw.ts.held = (h.sw.eqs.filter (fun x => x.2.nonEmpty)).map Prod.fst ∧ m.hw.sw = h.sw ∧ m.mem = s.mach.mem)) ∧
    (qid < 1536 → h.ts.shNew.contains qid = false → Completes (.shaperConfigWrite qid true data) s (fun m =>
      m.hw.fget F.TS_SHLIM_CAP qid = bits data.toNat 0 16 ∧ m.hw.fget F.TS_SHLIM_FLOOR qid = bits data.toNat 16 16 ∧
      shaperOf m.hw qid = shaperOf h qid ∧ m.hw.cred qid = h.cred qid ∧ m.hw.sw = h.sw ∧ m.mem = s.mach.mem)) ∧
    (h.ts.shNew = [qid] → (Store.get? h.sw.inTx (qid / 16)).isSome = true →
      Completes (.egressSelect (qid / 16) credit ⟨ecc, late⟩) s (fun m =>
        shaperOf m.hw qid = (h.fget F.TS_SHCFG_ISLOPE qid, h.fget F.TS_SHLIM_CAP qid, h.fget F.TS_SHLIM_FLOOR qid) ∧
        m.hw.cred qid = (if h.fget F.TS_SHCFG_ISLOPE qid = 0 then 0
          else limit (h.fget F.TS_SHLIM_CAP qid) (h.fget F.TS_SHLIM_FLOOR qid)) ∧
        m.hw.ts.shNew = [] ∧ m.hw.sw = h.sw ∧ m.hw.regs = h.regs ∧ m.mem = s.mach.mem))) ∧
  (∀ (s : State) (port t rate old qid : Nat) (e : EMsg) (q : EQ), let h := s.mach.hw;
    (paceNext h port = some t → h.pq t = [e] → h.ts.waiting = [] → Completes (.pacingRelease port) s (fun m =>
      m.hw.pq t = [] ∧ m.hw.sw.voq = h.sw.voq ++ [e] ∧ m.hw.sw.used = h.sw.used - e.total ∧
      (paceRate h t ≠ 0 → Store.getD 0 m.hw.ts.e t =
        max (Store.getD 0 h.ts.e t) (h.ts.tick * 10000) + e.msg.len * 8000000 / paceRate h t) ∧
      (paceRate h t = 0 → m.hw.ts.e = h.ts.e ∧ m.hw.regs = h.regs) ∧ m.hw.out = h.out ∧ m.mem = s.mach.mem)) ∧
    (t < 8192 → 1 ≤ rate → rate ≤ 1000000 → Completes (.tsPaceRateWrite t rate) s (fun m =>
      m.hw.fget F.TS_PACE_RATE t = rate ∧ paceRate m.hw t = paceRate h t ∧ m.hw.ts.e = h.ts.e ∧
      (Store.get? m.hw.ts.rateOld t).isSome = true ∧ m.hw.sw = h.sw ∧ m.mem = s.mach.mem ∧
      FieldsKept [(F.TS_PACE_RATE, t)] s.mach m)) ∧
    (h.fget F.CK_PWRSTAT_STATE 0 ≠ 2 → h.sl.slew = 0 → h.cu.held = [] → h.ts.waiting = [] → Completes .pacingWheelTick s (fun m =>
      m.hw.ck.ltime = h.ck.ltime + 10 ∧ m.hw.stime = (h.stime + 10) % 2 ^ 64 ∧ m.hw.ts.tick = h.ts.tick + 1 ∧
      (h.ts.rateOld = [(t, old)] → m.hw.ts.rateOld = [] ∧
        (h.fget F.TS_PACE_RATE t ≠ 0 → Store.getD 0 m.hw.ts.e t =
          Store.getD 0 h.ts.s t + Store.getD 0 h.ts.l t * 8000000 / h.fget F.TS_PACE_RATE t)) ∧
      m.mem = s.mach.mem)) ∧
    (h.fget F.CK_PWRSTAT_STATE 0 = 2 → Completes .pacingWheelTick s (fun m => m = s.mach)) ∧
    (h.flag F.TS_CTRL_SAMPEN 0 = true → h.flag F.TS_CTRL_FREEZE 0 = false → h.sw.eqs = [(qid, q)] → qid < 1536 →
      Completes .samplerCapture s (fun m =>
        m.hw.fget F.TS_QMAX_VAL qid = max (h.fget F.TS_QMAX_VAL qid)
          (cellsOf q.head + cellsOf q.stage + (q.dome.map (fun e => e.total)).sum) % 2 ^ 32 ∧
        m.hw.sw = h.sw ∧ m.hw.ts = h.ts ∧ m.mem = s.mach.mem)))

/-! ### The data mover (R261 to R304) -/

/-- R265: a write to DM_RTAIL at most 2^SIZE and at least the old count above HEAD moves TAIL; any other is ignored, sets
DM_RSTAT.DBERR, counts in DM_DBERR and raises an information fault in the DEVICE domain. A dispatch starts the job of the one
pending ring on the lowest free engine, or, with no ring enabled, the FILL at priority 7 that zeroes a released extent (R57);
DM_RCFG takes writes from Turret alone and, while EN is 0, sets its fields. -/
def Obligations.MoverDispatchCompletes : Prop :=
  ∀ (s : State) (p : Path) (r e x : Nat) (data : Word), r < 1024 → let h := s.mach.hw
    let d := slotRead r 0 64 s.mach
    let t := data.toNat % 65536
    let n := (t + 65536 - h.dmHead r) % 65536
    (n ≤ 2 ^ h.fget F.DM_RCFG_SIZE r → h.dmCount r ≤ n → Completes (.dmRtailDoorbell p r data) s (fun m =>
      m.hw.fget F.DM_RTAIL_VAL r = t ∧
      (freeEng h = some e → (∀ x ∈ h.dm.jobs, x.2.phase = .draining → x.2.eng = none) → (∃ regs, m = { s.mach with hw := { h with regs := regs } }) ∧
        ∀ (g : Fld) (i : Nat), fkey g i ≠ fkey F.DM_RTAIL_VAL r →
          (∀ q, q < 65536 → fkey g i ≠ fkey F.DM_RSTAT_MIGWAIT q) → m.hw.fget g i = h.fget g i))) ∧
    (2 ^ h.fget F.DM_RCFG_SIZE r < n ∨ n < h.dmCount r → Completes (.dmRtailDoorbell p r data) s (fun m =>
      m.hw.fget F.DM_RTAIL_VAL r = h.fget F.DM_RTAIL_VAL r ∧ m.hw.fget F.DM_RSTAT_DBERR r = 1 ∧
      m.hw.fget F.DM_DBERR_VAL 0 = min (h.fget F.DM_DBERR_VAL 0 + 1) (2 ^ 32 - 1) ∧ m.mem = s.mach.mem ∧
      ((h.queue 12).length < 8 → Gained 12 0x0C01 domDevice 0 s.mach m))) ∧
    (freeEng h = some e → activeRings h = [r, ownRing] → h.zeroNext = none → h.fget F.DM_RCFG_PRIO r ≤ 7 → pendingRing s.mach r = true → h.job r = none →
      descStatus h r d = none → s.mach.slotOpen r → Completes .dmDispatch s (fun m =>
        m.hw.job r = some (DmJob.fresh d (some e) .idle) ∧ (∀ q, q ≠ r → m.hw.job q = h.job q) ∧
        m.hw.fget F.DM_ENGSTAT_BUSY e = 1 ∧ m.hw.fget F.DM_ENGSTAT_RING e = r ∧ m.hw.fget F.DM_RSTAT_BUSY r = 1 ∧
        m.hw.bd = h.bd ∧ m.hw.out = h.out ∧
        ∀ a, a ≠ h.slotAddr r + 0x60 → Store.getD 0 m.mem.sp a = Store.getD 0 s.mach.mem.sp a ∧
          Store.getD 0 m.mem.dome a = Store.getD 0 s.mach.mem.dome a)) ∧
    (freeEng h = some e → activeRings h = [ownRing] → h.zeroNext = some x → h.job ownRing = none →
      Completes .dmDispatch s (fun m =>
        m.hw.job ownRing = some (DmJob.fresh (headDesc ownRing s.mach) (some e) .idle) ∧ m.hw.fget F.DM_ENGSTAT_BUSY e = 1 ∧
        m.hw.fget F.DM_ENGSTAT_PRIO e = 7 ∧ m.hw.bd = h.bd ∧ m.hw.out = h.out ∧ m.mem = s.mach.mem)) ∧
    (p ≠ .turret → h.hd.held = [] → Completes (.dmRcfgWrite p r data) s (fun m => m = s.mach)) ∧
    (h.hd.held = [] → h.flag F.DM_RCFG_EN r = false → data.toNat % 2 = 0 → 1 ≤ bits data.toNat 4 4 → bits data.toNat 4 4 ≤ 12 →
      Completes (.dmRcfgWrite .turret r data) s (fun m =>
        m.hw.flag F.DM_RCFG_EN r = false ∧ m.hw.fget F.DM_RCFG_LOC r = bits data.toNat 1 1 ∧
        m.hw.fget F.DM_RCFG_OWNER r = bits data.toNat 2 1 ∧ m.hw.fget F.DM_RCFG_PRIV r = bits data.toNat 3 1 ∧
        m.hw.fget F.DM_RCFG_SIZE r = bits data.toNat 4 4 ∧ m.hw.fget F.DM_RCFG_PRIO r = bits data.toNat 8 3 ∧
        m.hw.fget F.DM_RCFG_Q r = bits data.toNat 12 4 ∧ m.hw.fget F.DM_RCFG_TID r = bits data.toNat 16 13 ∧
        OnlyFields [(F.DM_RCFG_LOC, r), (F.DM_RCFG_OWNER, r), (F.DM_RCFG_PRIV, r), (F.DM_RCFG_SIZE, r),
          (F.DM_RCFG_PRIO, r), (F.DM_RCFG_Q, r), (F.DM_RCFG_TID, r)] s.mach m))

/-- R57, R262, R267, R270, R276, R277, R282, R283, R287: a window of COPY, FILL or VERIFY over one line begins: its reads leave
for the line's queue at the local home, where the destination line needs no ownership ahead of its write; with every read
returned a FILL writes its line, and a VERIFY against PATTERN finds no mismatch, or stops the window at its first byte or at
poison; while an answer or a write is outstanding the window waits; a commit advances the job, and at its end the slot takes the
completion record, HEAD advances and the engine is free. -/
def Obligations.MoverWindowsComplete : Prop :=
  ∀ (s : State) (e r i k : Nat) (j : DmJob) (a : DmAcc), let h := s.mach.hw
    let d := j.desc
    let sa := dSrc d
    let da := dDst d
    let len := dLen d
    let guard := fun (x : Nat) (need : Perm) =>
      ({ tid := none, addr := x, len := len, priv := true, needs := [need], master := 0x4000 + r } : GReq)
    let may := fun (x : Nat) (need : Perm) => firstDenial (guardParts h (guard x need)) = none
    let srcAcc : DmAcc := ⟨r, .src, 0, len, sa, .out, 0, 0, false, false⟩
    let ownAcc : DmAcc := ⟨r, .own, 0, len, da, .done, 0, 0, false, false⟩
    let begun := fun (accs : List (Nat × DmAcc)) (m : Mach) => m.hw.job r = some { j with phase := .reading, winLen := len } ∧
      m.hw.dm.accs = accs ∧ m.hw.regs = h.regs ∧ m.hw.bd = h.bd ∧ m.mem = s.mach.mem
    let reads := fun (m : Mach) => ∃ tx, m.hw.hd.txns = [(64 * sliceOf (sa % 2 ^ 43 / 64), tx)] ∧ tx.req.kind = .ncRead ∧
      tx.req.la = sa % 2 ^ 43 / 64 ∧ tx.reading = true
    let found := bits a.data (8 * (a.gpa % 64)) (8 * len)
    let ended := fun (j' : DmJob) (m : Mach) => m = s.mach.onHw (fun h => (dropAccs r 0 h).setJob r j')
    h.ringOn e = some (r, j) → h.job r = some j → r < 1024 → e < 8 → h.hd.held = [] →
    (j.phase = .idle → j.doneB = 0 → 0 < len → h.dm.accs = [] →
      (dOpc d = 1 → dDasel d = 1 → da % 64 + len ≤ 64 → da / 2 ^ 43 = h.sid → may da .w → dstLost da h = false →
        Completes (.fill e) s (fun m => begun [(h.dm.seq, ownAcc)] m ∧ m.hw.hd = h.hd)) ∧
      (h.homeIdle → h.fget F.HD_SLSTAT_ROLE 16 ≠ 2 → dSasel d = 1 → sa % 64 + len ≤ 64 → sa / 2 ^ 43 = h.sid →
        h.dirEnt (sa % 2 ^ 43 / 64) = none → may sa .r →
        (dOpc d = 3 → dPat d = true → Completes (.verify e) s (fun m => begun [(h.dm.seq, srcAcc)] m ∧ reads m)) ∧
        (dOpc d = 0 → dDasel d = 1 → da % 64 + len ≤ 64 → da / 2 ^ 43 = h.sid → may da .w → dstLost da h = false →
          Completes (.copy e) s (fun m => begun [(h.dm.seq, srcAcc), (h.dm.seq + 1, ownAcc)] m ∧ reads m)))) ∧
    (h.ringAccs r = [(k, a)] → j.phase = .reading → j.doneB = 0 → a.off = 0 → a.len = len → 0 < len →
      (a.st = .out → Completes (.dmWindowReadsDone e r) s (fun m => m = s.mach)) ∧
      (a.st = .done → dOpc d = 3 → dPat d = true → a.use = .src → sa % 64 + len ≤ 64 → j.winLen = len →
        (a.poison = true → Completes (.dmWindowReadsDone e r) s
          (ended { j with phase := .writing, winLen := 0, stop := some (4, sa, 0) })) ∧
        (a.poison = false → firstDiff found (patBytes (dPattern d) sa len) 0 len = none →
          Completes (.dmWindowReadsDone e r) s (ended { j with phase := .writing })) ∧
        (a.poison = false → firstDiff found (patBytes (dPattern d) sa len) 0 len = some i →
          Completes (.dmWindowReadsDone e r) s
            (ended { j with phase := .writing, winLen := i, stop := some (1, sa + i, 0) }))) ∧
      (let la := a.gpa % 2 ^ 43 / 64; a.st = .done → dOpc d = 1 → a.use = .own → a.poison = false → a.xl = false → len = 64 →
        j.winLen = 64 → da % 64 = 0 → a.gpa % 64 = 0 → a.gpa / 2 ^ 43 = h.sid → h.dm.accs = [(k, a)] → h.homeIdle →
        h.fget F.HD_SLSTAT_ROLE 16 ≠ 2 → h.dirEnt la = none → h.storeWord (lineOff la) = none →
        h.revIn (lineOff la) = [] → h.chFailed (domeMap h (lineOff la)).prim = false →
        Completes (.dmWindowReadsDone e r) s (fun m => m.hw.job r = some { j with phase := .writing } ∧
          m.line (lineOff la) = patBytes (dPattern d) da 64 ∧ (∃ y, m.hw.dm.accs = [y] ∧ y.2.use = .write ∧ y.2.st = .done) ∧
          m.hw.hd.txns = [] ∧ m.hw.bd = h.bd ∧ ∀ b, b < lineOff la ∨ lineOff la + 64 ≤ b →
            Store.getD 0 m.mem.dome b = Store.getD 0 s.mach.mem.dome b))) ∧
    (j.phase = .writing →
      (h.ringAccs r = [(k, a)] → a.st = .out → Completes (.dmWindowCommit e) s (fun m => m = s.mach)) ∧
      ((∀ x ∈ h.ringAccs r, x.2.st = .done) → j.stop = none →
        (j.doneB + j.winLen ≠ len → j.abort = false → j.marked = none → r = ownRing ∨ s.mach.slotOpen r →
          Completes (.dmWindowCommit e) s (fun m =>
            m.hw.job r = some { j with doneB := j.doneB + j.winLen, winLen := 0, phase := .idle, stop := none } ∧
            m.hw.ringAccs r = [] ∧ m.hw.regs = h.regs ∧ m.hw.bd = h.bd ∧
            (h.fget F.DM_RCFG_LOC r = 0 → m.mem.lines = s.mach.mem.lines ∧ m.mem.dome = s.mach.mem.dome))) ∧
        (j.doneB + j.winLen = len → h.fget F.DM_RCFG_LOC r = 0 → Completes (.dmWindowCommit e) s (fun m =>
          m.hw.job r = none ∧ m.hw.fget F.DM_RHEAD_VAL r = (h.dmHead r + 1) % 65536 ∧
          m.hw.fget F.DM_ENGSTAT_BUSY e = 0 ∧ m.hw.fget F.DM_RSTAT_BUSY r = 0 ∧
          readLE 0 m.mem.sp (h.slotAddr r + 0x60) 32 =
            1 + len * 2 ^ 32 + dUser d * 2 ^ 128 + min j.pois 0xFFFF * 2 ^ 224 ∧
          m.mem.dome = s.mach.mem.dome ∧
          ∀ x, x < h.slotAddr r + 0x40 ∨ h.slotAddr r + 0x80 ≤ x → Store.getD 0 m.mem.sp x = Store.getD 0 s.mach.mem.sp x))))

/-- R285, R287, R288: an engine that fails returns its job to its ring as pre-empted; a FENCE at the head of its ring starts and
waits for the peers that the ring's jobs have sent to; while one has still to answer it waits, and when it is satisfied it
completes with DONE. -/
def Obligations.MoverFailuresAndFencesComplete : Prop :=
  ∀ (s : State) (e r : Nat) (j : DmJob), r < 1024 → let h := s.mach.hw
    let d := slotRead r 0 64 s.mach
    (e < 8 → h.flag F.DM_ENGSTAT_FAILED e = false → h.ringOn e = some (r, j) → j.phase = .idle → j.abort = false → h.hd.held = [] →
      (h.queue 12).length < 8 → Completes (.dmEngineFailure e) s (fun m =>
        m.hw.job r = some { j with eng := none, marked := none, winLen := 0, stop := none, phase := .idle } ∧
        m.hw.fget F.DM_ENGSTAT_FAILED e = 1 ∧ m.hw.fget F.DM_ENGSTAT_BUSY e = 0 ∧ m.hw.fget F.DM_RSTAT_PREEMPTED r = 1 ∧
        m.hw.fget F.DM_FAILOVER_VAL 0 = min (h.fget F.DM_FAILOVER_VAL 0 + 1) (2 ^ 32 - 1) ∧
        (∃ f : FMsg, m.hw.queue 12 = h.queue 12 ++ [f] ∧ f.code = 0x0C02 ∧ f.domain = 6 ∧ f.dinst = e ∧ f.held = 1) ∧
        m.mem = s.mach.mem)) ∧
    (h.flag F.DM_RCFG_EN r = true → h.dmCount r ≠ 0 → h.job r = none → dOpc d = 4 → descStatus h r d = none →
      s.mach.slotOpen r → Completes (.dmFence r) s (fun m =>
        m.hw.job r = some { DmJob.fresh d none .fence with
          peers := (List.range 8).filter (fun s => bitAt (Store.getD 0 h.dm.sent r) s) } ∧
        m.hw.fget F.DM_RSTAT_BUSY r = 1 ∧ m.mem.flash = s.mach.mem.flash)) ∧
    (h.job r = some j → j.phase = .fence → j.peers.any (fun q => h.isDead (cupAgent q)) = false → j.peers ≠ [] →
      Completes (.dmFenceSatisfied r) s (fun m => m = s.mach)) ∧
    (h.job r = some j → j.phase = .fence → j.eng = none → j.peers = [] → s.mach.slotOpen r →
      (dWv j.desc = true → (h.dmHead (dWring j.desc) + 65536 - dWidx j.desc) % 65536 < 32768) →
      Completes (.dmFenceSatisfied r) s (fun m =>
        m.hw.job r = none ∧ m.hw.fget F.DM_RHEAD_VAL r = (h.dmHead r + 1) % 65536 ∧ m.hw.fget F.DM_RSTAT_BUSY r = 0 ∧
        m.hw.tagOpen .dm r = false ∧ m.hw.bd = h.bd ∧ m.hw.out = h.out))

/-- R289 to R293, R297, R299: MIGRATE START takes the lowest record and makes the mapping entry MIGRATING at WMARK 0, its
destination taking BINDCNT of the source; a line is locked by a transaction of its own; a line whose lock has every answer is
written to the destination and advances WMARK; when every tenant has drained, the entry switches to the destination and the
record is free; ABANDON of a held record with no line copied starts its drain. -/
def Obligations.MigrationCompletes : Prop :=
  ∀ (s : State) (e r n t x w line k v : Nat) (j : DmJob) (q : HReq) (tx : HTxn), let h := s.mach.hw
    let src := bits (dSrc j.desc) 0 25
    let dst := bits (dDst j.desc) 0 25
    let there := etAddr (h.ent t) x
    let others := fun (m : Mach) => m.hw.bd.tt = h.bd.tt ∧
      ∀ b, b < there ∨ there + 16 ≤ b → Store.getD 0 m.mem.dome b = Store.getD 0 s.mach.mem.dome b
    (h.ringOn e = some (r, j) → h.job r = some j → r < 1024 → dOpc j.desc = 2 → h.hd.held = [] →
      (dMigop j.desc = 0 → j.phase = .idle → migChecks src dst s.mach = none → h.migFind (src % 2 ^ 22) dst = none →
        h.migFree = some n → dst / 2 ^ 22 = h.sid → h.mapsOf (h.sid * 2 ^ 22 + src % 2 ^ 22) = [(t, x)] →
        (h.revInsert dst t x).mapsOf (h.sid * 2 ^ 22 + src % 2 ^ 22) = [(t, x)] → s.mach.wholeLine there →
        (h.storeFirst * 2 ^ 21 + 16 * h.revPlace) / 64 ≠ there / 64 →
        Completes (.migrateStart e) s (fun m =>
          m.hw.fget F.DM_MIGSRC_V n = 1 ∧ m.hw.fget F.DM_MIGSRC_SRCEXT n = src % 2 ^ 22 ∧
          m.hw.fget F.DM_MIGDST_DSTGEXT n = dst ∧ m.hw.fget F.DM_MIGPOS_WMARK n = 0 ∧ m.hw.fget F.DM_MIGPOS_STATE n = 0 ∧
          etMst (m.et t x) = 1 ∧ etNgext (m.et t x) = dst ∧ etWmark (m.et t x) = 0 ∧
          (m.hw.arec (dst % 2 ^ 22)).cnt = (h.arec (src % 2 ^ 22)).cnt % 2 ^ 16 ∧
          m.hw.job r = some { j with phase := .copying, mig := some n, doneB := 0 } ∧ others m)) ∧
      (dMigop j.desc = 1 → j.phase = .idle → h.migFind (bits (dSrc j.desc) 0 22) dst = some n →
        h.fget F.DM_MIGPOS_STATE n = 0 → h.fget F.DM_MIGPOS_WMARK n = 0 → h.dm.jobs.any (fun y => y.2.mig == some n && y.2.eng.isSome) = false →
        h.homeIdle → h.hd.locks = [] → n < 8 → (∀ y ∈ h.mapsOf (h.migSrc n), y.1 < 8192) →
        Completes (.migrateAbandon e) s (fun m =>
          m.hw.fget F.DM_MIGPOS_STATE n = 3 ∧
          m.hw.job r = some { j with phase := .draining, mig := some n, pois := 0, doneB := 0 } ∧ m.hw.bd.tt = h.bd.tt ∧
          m.mem.sp = s.mach.mem.sp)) ∧
      (j.phase = .copying → j.mig = some n → n < 8 →
        let la := h.fget F.DM_MIGSRC_SRCEXT n * 2 ^ 15 + line
        let dla := h.fget F.DM_MIGDST_DSTGEXT n % 2 ^ 22 * 2 ^ 15 + line
        (nextLock h n = some line → h.homeIdle → h.fget F.HD_SLSTAT_ROLE 16 ≠ 2 → h.dirEnt la = none →
          freeWay (h.setEnts (sliceOf la) (dirSet la)) [] = some w →
          Completes (.migrationLineLock e) s (fun m => ∃ k tx, m.hw.hd.txns = [(k, tx)] ∧ tx.req.kind = .lock ∧
            tx.req.la = la ∧ tx.reading = true ∧ m.hw.hd.locks = h.hd.locks ∧ m.hw.bd = h.bd ∧ m.hw.dm = h.dm ∧
            m.mem.dome = s.mach.mem.dome)) ∧
        (h.hd.txns = [(k, tx)] → h.hd.retry = [] → h.hd.rel = [] → h.hd.next = [] → h.hd.failing = [] → h.dm.accs = [] →
          h.fget F.HD_SLSTAT_ROLE 16 ≠ 2 → h.fget F.DM_MIGSRC_SRCEXT n < 2 ^ 22 → tx.req.kind = .lock → tx.phase = .snp → tx.req.la = la → line < 32767 →
          h.fget F.DM_MIGPOS_WMARK n = line → (line + 1) % 64 ≠ 0 → tx.snps = [] → tx.bis = [] → tx.data = some (v, false) →
          tx.reading = false → tx.next = none → Store.getD [] h.dm.copied n = [] →
          h.fget F.DM_MIGDST_DSTGEXT n / 2 ^ 22 = h.sid → dla ≠ la → h.dirEnt dla = none → h.storeWord (lineOff dla) = none →
          h.revIn (lineOff dla) = [] → j.abort = false → j.stop = none →
          dstLost (h.fget F.DM_MIGDST_DSTGEXT n * 2 ^ 21 + line * 64) h = false →
          Completes (.migrationLineCopied e line) s (fun m =>
            m.hw.fget F.DM_MIGPOS_WMARK n = line + 1 ∧ m.hw.hd.txns = [] ∧ m.hw.dirEnt la = none ∧
            m.line (lineOff dla) = v % 2 ^ 512 ∧ m.hw.job r = some { j with doneB := (line + 1) * 64 } ∧ m.mem.sp = s.mach.mem.sp ∧ m.hw.bd.tt = h.bd.tt)))) ∧
    (h.flag F.DM_MIGSRC_V n = true → h.fget F.DM_MIGPOS_STATE n = 1 → n < 8 → h.mapsOf (h.migSrc n) = [(t, x)] →
      h.flag F.BD_TDRAIN_VIS t = true → h.fget F.DM_MIGPOS_RING n = r → r < 1024 → h.fget F.DM_RCFG_LOC r = 0 →
      h.fget F.DM_MIGDST_DSTGEXT n < 2 ^ 25 → h.dm.jobs = [(r, j)] → j.mig = some n → dMigop j.desc = 0 → j.phase = .draining →
      j.eng = none → s.mach.wholeLine there →
      Completes (.migrationCommit n false) s (fun m =>
        etGext (m.et t x) = h.fget F.DM_MIGDST_DSTGEXT n ∧ etMst (m.et t x) = 0 ∧ m.hw.flag F.DM_MIGSRC_V n = false ∧
        m.hw.job r = none ∧ others m)) ∧
    (h.homeIdle → h.fget F.HD_SLSTAT_ROLE 16 ≠ 2 → h.hd.locks = [q] → q.kind = .lock → q.xl = false → h.dirEnt q.la = none →
      freeWay (h.setEnts (sliceOf q.la) (dirSet q.la)) [] = some w → Completes .migrationLockRetry s (fun m =>
        m.hw.hd.locks = [] ∧ (∃ k tx, m.hw.hd.txns = [(k, tx)] ∧ tx.req = q ∧ tx.reading = true) ∧ m.hw.bd = h.bd ∧
        m.hw.dm = h.dm ∧ m.mem.dome = s.mach.mem.dome))

/-! ### The home (R77 to R147) -/

/-- R86, R89, R90, R107, R115: a request for a line that the directory does not list takes a way, pins the entry, sets the
line's hint and reads Dome; an Upgrade of the only sharer is granted in X; a host's full write of an unlisted line is stored and
answered. -/
def Obligations.HomeRequestsComplete : Prop :=
  ∀ (s : State) (m : Coh) (x : Msg) (t gpa data w : Nat) (e : DirEnt), let h := s.mach.hw
    let la := m.laddr % 2 ^ 37
    let opened := fun (la : Nat) (r : HReq) (m' : Mach) =>
      (∃ tx, m'.hw.hd.txns = [(64 * sliceOf la, tx)] ∧ tx.req = r ∧ tx.phase = .snp ∧ tx.reading = true) ∧
      m'.hw.dirEnt la = some (DirEnt.fresh w 0) ∧ m'.mem.dome = s.mach.mem.dome ∧ m'.hw.bd = h.bd ∧ m'.hw.out = h.out ∧
      (h.chFailed (domeMap h (lineOff la)).prim = false → m'.hw.regs = h.regs ∧
        readHint m' (lineOff la) = !h.plainLine (lineOff la))
    h.homeIdle → h.fget F.HD_SLSTAT_ROLE 16 ≠ 2 →
    (namesReserved m = false → h.isDead m.src = false →
      (h.dirEnt la = none → freeWay (h.setEnts (sliceOf la) (dirSet la)) [] = some w →
        Completes (.homeRdshared m []) s (opened la (cupReq .cShared m)) ∧
        Completes (.homeRdown m []) s (opened la (cupReq .cOwn m)) ∧
        Completes (.homeUpgrade m []) s (opened la (cupReq .cOwn m))) ∧
      (h.dirEnt la = some e → e.st = 1 → e.fmt = false → m.src % 128 = 72 → m.src < 1024 →
        e.hold = packPtrs [codeOf m.src] → Completes (.homeUpgrade m []) s (fun m' =>
          (∃ tx, m'.hw.hd.txns = [(64 * sliceOf la, tx)] ∧ tx.req = cupReq .cUpgrade m ∧ tx.phase = .gnt ∧
            tx.tgt = e.mkX (codeOf m.src)) ∧
          (∃ a : Coh, Emit.coh m.src 0x14 a ∈ m'.hw.out ∧ a.txn = m.txn) ∧ m'.mem = s.mach.mem))) ∧
    (let la := gpa % 2 ^ 43 / 64; gpa / 2 ^ 43 % 8 = h.sid → h.isDead (h.agentOf x.ing) = false →
      h.dirEnt la = none → x.tid = some t → h.belowMark la = false →
      (ttHdmDb (h.ent t) = true → freeWay (h.setEnts (sliceOf la) (dirSet la)) [] = some w →
        Completes (.homeHostRequest x .rdAny gpa 0 0 []) s (opened la (hostReq h x .hOwn la 0 0)) ∧
        Completes (.homeHostRequest x .rdShared gpa 0 0 []) s (opened la (hostReq h x .hShared la 0 0))) ∧
      (h.inDmArea 1 (lineOff la) = false → h.storeWord (lineOff la) = none → h.revIn (lineOff la) = [] →
        h.chFailed (domeMap h (lineOff la)).prim = false →
        Completes (.homeHostRequest x .wrAny gpa data (2 ^ 64 - 1) []) s (fun m' =>
          m'.hw.hd.txns = [] ∧ m'.line (lineOff la) = data % 2 ^ 512 ∧ m'.hw.out = .s2m x.ing x.rid 3 none :: h.out ∧
          m'.hw.dirEnt la = none ∧
          ∀ a, a < lineOff la ∨ lineOff la + 64 ≤ a → Store.getD 0 m'.mem.dome a = Store.getD 0 s.mach.mem.dome a)))

/-- R88, R100, R130, R143, R145: a release of the recorded holder frees the entry, a WbDirty with its line written; one of a
sender that the directory does not record is stale; each is acknowledged. The requester's Ack closes its transaction. A Fence
waits until the messages before it are delivered and accepted, and is then answered; a BIConflict is answered. -/
def Obligations.HomeReleasesComplete : Prop :=
  ∀ (s : State) (m : Coh) (k port tid addr src txn tseq : Nat) (t : HTxn) (e : DirEnt) (f : Nat × Nat × Nat), let h := s.mach.hw
    let la := m.laddr % 2 ^ 37
    let acked := fun (dst txn : Nat) (m' : Mach) => ∃ a : Coh, Emit.coh dst 0x14 a ∈ m'.hw.out ∧ a.txn = txn
    (namesReserved m = false → h.isDead m.src = false →
      (h.homeIdle →
        (∀ c ∈ ([.homeWbdirty m [], .homeWbclean m [], .homeEvict m []] : List Instr), h.dirEnt la = none →
          Completes c s (fun m' => m'.hw.fget F.HD_STALE_VAL 0 = min (h.fget F.HD_STALE_VAL 0 + 1) (2 ^ 32 - 1) ∧
            acked m.src m.txn m' ∧ m'.hw.hd = h.hd ∧ m'.mem = s.mach.mem)) ∧
        (h.dirEnt la = some e → e.fmt = false → m.src % 128 = 72 → m.src < 1024 → e.hold = packPtrs [codeOf m.src] →
          (e.st = 2 → m.poison = false → h.inDmArea 1 (lineOff la) = false → h.storeWord (lineOff la) = none → h.revIn (lineOff la) = [] →
            h.chFailed (domeMap h (lineOff la)).prim = false →
            Completes (.homeWbdirty m []) s (fun m' => m'.hw.dirEnt la = none ∧ m'.line (lineOff la) = m.data % 2 ^ 512 ∧
              acked m.src m.txn m' ∧ ∀ a, a < lineOff la ∨ lineOff la + 64 ≤ a →
                Store.getD 0 m'.mem.dome a = Store.getD 0 s.mach.mem.dome a)) ∧
          (e.st = 2 → Completes (.homeWbclean m []) s (fun m' =>
            m'.hw.dirEnt la = none ∧ acked m.src m.txn m' ∧ m'.mem.dome = s.mach.mem.dome)) ∧
          (e.st = 1 → Completes (.homeEvict m []) s (fun m' =>
            m'.hw.dirEnt la = none ∧ acked m.src m.txn m' ∧ m'.mem.dome = s.mach.mem.dome)))) ∧
      (h.hd.txns = [(k, t)] → t.req.la = la → t.phase = .gnt → t.req.agent = m.src → t.req.tag = m.txn → t.tgt.st ≠ 0 →
        t.next = none → h.hd.retry = [] → h.hd.rel = [] → h.hd.held = [] → h.hd.next = [] →
        Completes (.homeCompletionAck m) s (fun m' => m'.hw.hd.txns = [] ∧
          m'.hw.dirEnt la = some { t.tgt with pin := false, txn := 0 } ∧ m'.hw.tagOpen .hd k = false ∧
          m'.hw.regs = h.regs ∧ m'.hw.out = h.out ∧ m'.mem = s.mach.mem)) ∧
      Completes (.fenceReceive ⟨m, tseq⟩) s (fun m' =>
        m' = s.mach.onHw (fun h => { h with hd := { h.hd with fences := h.hd.fences ++ [(m.src, m.txn, tseq)] } }))) ∧
    (h.hd.fences.find? (fun x => x.1 == src && x.2.1 == txn) = some f →
      (fenceMet h src f.2.2 = true → Completes (.fenceAckSend src txn) s (fun m' =>
        m'.hw.hd = { h.hd with fences := removeFirst (· == f) h.hd.fences } ∧ acked src txn m' ∧ m'.mem = s.mach.mem)) ∧
      (fenceMet h src f.2.2 = false → Completes (.fenceAckSend src txn) s (fun m' => m' = s.mach))) ∧
    Completes (.biconflict port tid addr) s (fun m' => m' = s.mach.onHw (fun h => h.emit (.biConflictAck port tid addr)))

/-- R23, R118, R139, R146, R159, R315, R326, R327: an answer of a snooped Cupola, or of a back-invalidated host, is taken into
its transaction, which waits on for the others; a Dome read's data answers the request that waited for it, a CXL.io read of one
line with one completion; data of an earlier generation is late; a read that times out fails its channel, and of the store is
answered from the mirror. -/
def Obligations.HomeAnswersComplete : Prop :=
  ∀ (s : State) (m : Coh) (k port tid addr off master gen c2 : Nat) (e2 : LineErr) (t : HTxn) (x : Msg) (q : MemReq), let h := s.mach.hw
    let c := m.src / 128
    let p := domeMap h off
    (h.hd.txns = [(k, t)] → h.hd.retry = [] → h.hd.rel = [] → h.hd.held = [] → h.hd.next = [] →
      (namesReserved m = false → h.isDead m.src = false → m.txn % 1024 = k → h.tagGen .hd k = m.txn / 1024 % 16 →
        m.src % 128 = 72 → t.phase = .snp → t.snps.contains c = true → t.snps.any (· != c) = true →
        let t1 : HTxn := { t with snps := t.snps.filter (· != c) }
        let takes := fun (t2 : HTxn) (m' : Mach) => m' = s.mach.onHw (fun h => h.setTxn k t2)
        (m.owned = false → Completes (.homeSnoopAck m) s (takes { t1 with tgt := t.tgt.add (72 + c) })) ∧
        (m.owned = true → Completes (.homeSnoopAck m) s (takes { t1 with tgt := { t.tgt with st := 3, owner := c } })) ∧
        Completes (.homeInvack m) s (takes { t1 with tgt := t.tgt.rem (72 + c) }) ∧
        (t.req.kind = .hOwn → Completes (.homeDatam m) s
          (takes { t1 with tgt := t.tgt.rem (72 + c), data := some (m.data, m.poison) })) ∧
        Completes (.homeDatao m) s
          (takes { t1 with tgt := { t.tgt with st := 3, owner := c }, data := some (m.data, m.poison) })) ∧
      (h.isDead (h.agentOf port) = false → t.bis.contains (port, tid, addr / 2 ^ 21) = true → t.req.la % 2 ^ 15 = addr / 64 % 2 ^ 15 →
        t.bis.any (fun b => b.1 == port && !(b.2.1 == tid && b.2.2 == addr / 2 ^ 21)) = true →
        Completes (.homeBirsp port tid addr .i) s (fun m' => m' = s.mach.onHw (fun h => h.setTxn k
          { t with bis := t.bis.filter (fun b => !(b.1 == port && b.2.1 == tid && b.2.2 == addr / 2 ^ 21)),
                   seen := Store.put t.seen port (Store.getD 0 t.seen port) }))) ∧
      (t.req.la = off / 64 → t.reading = true → t.phase = .snp → t.snps = [] → t.bis = [] → t.req.kind = .ncRead →
        h.isDead t.req.agent = false → t.src.st = 0 → t.tgt.st = 0 → t.next = none → h.chFailed p.prim = false →
        (s.mach.attr p.prim p.addr).poison = false → gen % 16 = h.tagGen (.dd p.prim) (ddTag off master) → t.req.unit = 0 →
        t.req.msg = some x →
        let answers := fun (e : Emit) => Completes (.domeReadComplete off ⟨master, gen⟩ .good .good false) s (fun m' =>
          m'.hw.hd.txns = [] ∧ m'.mem.stored = s.mach.mem.stored ∧ m'.hw.regs = h.regs ∧
          m'.hw.out = e :: .domeData off master false (s.mach.line off) :: h.out);
        (x.cls ≠ .ioNp ∨ x.req = none → answers (.s2m x.ing t.req.tag 3 (some (s.mach.line off, false)))) ∧
        (x.cls = .ioNp → x.req = some q → h.hd.io = [] → ioLines q = 1 → ioAddr q (lineOff (off / 64)) = q.addr / 64 * 64 →
          answers (.ioCpl x.ing x.rid (q.addr / 64 * 64) 1 (s.mach.line off) false)))) ∧
    (gen % 16 ≠ h.tagGen (.dd p.prim) (ddTag off master) → Completes (.domeReadComplete off ⟨master, gen⟩ .good .good false) s
      (fun m' => m' = s.mach.onHw (fun h => h.fadd F.DD_LATE_VAL p.prim 1))) ∧
    (h.hd.txns = [] → h.chFailed p.prim = false → (s.mach.attr p.prim p.addr).poison = false →
      gen % 16 = h.tagGen (.dd p.prim) (ddTag off master) →
      Completes (.domeReadComplete off ⟨master, gen⟩ .good .good false) s (fun m' =>
        m'.hw = h.emit (.domeData off master false (s.mach.line off)) ∧ m'.mem.stored = s.mach.mem.stored)) ∧
    (h.hd.txns = [] → h.chActive p.prim = true →
      let failed := fun (m' : Mach) => m'.hw.fget F.DD_CHSTAT_STATE p.prim = 3 ∧
        m'.hw.fget F.DD_UECNT_VAL p.prim = min (h.fget F.DD_UECNT_VAL p.prim + 1) (2 ^ 32 - 1) ∧
        m'.mem.dome = s.mach.mem.dome ∧
        m'.hw.tagGen (.dd p.prim) (ddTag off master) = (h.tagGen (.dd p.prim) (ddTag off master) + 1) % 16
      (p.mirror = none → Completes (.domeReadTimeout off ⟨master, e2⟩) s (fun m' =>
        failed m' ∧ m'.hw.out = .domeData off master true 0 :: h.out)) ∧
      (p.mirror = some c2 → c2 ≠ p.prim → h.chFailed c2 = false → (s.mach.attr c2 p.addr).poison = false →
        Completes (.domeReadTimeout off ⟨master, .good⟩) s (fun m' =>
          failed m' ∧ m'.hw.out = .domeData off master false (m'.line off) :: h.out)))

/-! ### The Cupola (R113 to R142) -/

/-- R139, R141: with nothing open on its line, a snoop of a line that this module does not hold, or holds in E or M with no host
holder, is answered and its copy kept or dropped as the snoop asks; a local request hits a line held in M with no host holder.
-/
def Obligations.CupolaLinesComplete : Prop :=
  ∀ (s : State) (m : Coh) (x : Msg) (op : HostOp) (gpa data : Nat) (l : CuLine), let h := s.mach.hw
    let answered := fun (opc : Nat) (m' : Mach) =>
      (∃ a : Coh, Emit.coh m.src opc a ∈ m'.hw.out ∧ a.txn = m.txn ∧ a.laddr = m.laddr) ∧ m'.hw.hd = h.hd ∧ m'.mem = s.mach.mem
    let hit := fun (mv : Nat) (d : Option (Nat × Bool)) (m' : Mach) =>
      m'.hw.out = .s2m x.ing x.rid mv d :: h.out ∧ m'.hw.fget F.CU_HIT_VAL 0 = min (h.fget F.CU_HIT_VAL 0 + 1) (2 ^ 32 - 1) ∧
      m'.hw.cu.recs = [] ∧ m'.hw.hd = h.hd ∧ m'.mem = s.mach.mem
    h.cu.recs = [] → h.cu.steps = [] → h.cu.held = [] →
    (namesReserved m = false → h.isDead m.src = false →
      (h.cuLine m.laddr = none → Completes (.cupolaSnpinv m) s (fun m' => answered 0x15 m' ∧ m'.hw.cu = h.cu)) ∧
      (h.cuLine m.laddr = some l → l.fmt = false → l.hold = 0 →
        let kept := fun (opc st : Nat) (m' : Mach) => answered opc m' ∧ m'.hw.cuLine m.laddr = some { l with st := st }
        let dropped := fun (opc : Nat) (m' : Mach) => answered opc m' ∧ m'.hw.cuLine m.laddr = none
        (l.st = 2 →
          Completes (.cupolaSnpshared m) s (kept 0x14 1) ∧ Completes (.cupolaSnpinv m) s (dropped 0x15) ∧
          Completes (.cupolaSnpfwdshared m) s (kept 0x14 1) ∧ Completes (.cupolaSnpfwdown m) s (dropped 0x15)) ∧
        (l.st = 4 →
          Completes (.cupolaSnpshared m) s (kept 0x13 3) ∧ Completes (.cupolaSnpinv m) s (dropped 0x12) ∧
          Completes (.cupolaSnpfwdshared m) s (kept 0x14 3) ∧ Completes (.cupolaSnpfwdown m) s (dropped 0x15)))) ∧
    (let gla := gpa % 2 ^ 46 / 64;
      gpa / 2 ^ 43 % 8 ≠ h.sid → h.portHeld x.ing = false → h.isDead (h.agentOf x.ing) = false → (x.cls ≠ .ioNp ∨ x.req = none) →
      h.cuLine gla = some l → l.fmt = false → l.hold = 0 → l.hostA = false → l.st = 4 → x.ing < 72 →
      (∀ t ∈ x.tid, t < 8192) →
      h.isDead (cupAgent (homeOf gla)) = false →
      Completes (.cupolaHostSharedRead x gpa true) s (fun m' => hit 1 (some (l.data, l.poison)) m' ∧
        m'.hw.cuLine gla = some { l with hold := packPtrs [x.ing] }) ∧
      Completes (.cupolaHostOwnershipRead x gpa true) s (fun m' => hit 2 (some (l.data, l.poison)) m' ∧
        m'.hw.cuLine gla = some { l with hold := packPtrs [x.ing], hostA := true }) ∧
      Completes (.cupolaNoncachingRead x gpa) s (fun m' => hit 3 (some (l.data, l.poison)) m' ∧
        m'.hw.cuLine gla = some l) ∧
      Completes (.cupolaNoncachingWrite x op gpa data (2 ^ 64 - 1)) s (fun m' => hit 3 none m' ∧
        m'.hw.cuLine gla = some { l with data := data % 2 ^ 512, poison := false }))

/-- R113, R118, R120, R130, R140: the data and the Ack of a grant are taken in either order, and together install the line and
close a record that holds S; a Retry starts the back-off, whose end sends the request again; the tenure hold's end closes its
record; a BIRsp answers its BISnp of a host step; a peer's Ack to a Fence of the data mover removes it from those awaited. -/
def Obligations.CupolaAnswersComplete : Prop :=
  ∀ (s : State) (m : Coh) (k port tid addr : Nat) (c : CuRec) (st : CuStep) (d : Nat) (q : Bool) (j : DmJob), let h := s.mach.hw
    let e := addr / 2 ^ 21
    let b := (port, tid, e)
    (namesReserved m = false → h.isDead m.src = false → m.txn % 1024 = k → Store.get? h.cu.recs k = some c →
      h.tagGen .cu k = m.txn / 1024 % 16 →
      (let part := fun (v : Nat) (m' : Mach) => m' = s.mach.onHw (fun h =>
          h.setCuRec k { c with tr := .gr, part := some (v, m.data, m.poison) });
        (c.tr = .isW → Completes (.cupolaDatas m) s (part 1) ∧ Completes (.cupolaDatae m) s (part 2)) ∧
        (c.tr = .imW → Completes (.cupolaDatae m) s (part 2) ∧ Completes (.cupolaDatam m) s (part 4))) ∧
      (c.tr = .isW ∨ c.tr = .imW → Completes (.cupolaAck m) s (fun m' => m' = s.mach.onHw (fun h =>
        h.setCuRec k { c with tr := .gr, ack := true }))) ∧
      (c.tr = .gr → c.part = some (1, d, q) → c.waiting = [] → h.cu.held = [] → Completes (.cupolaAck m) s (fun m' =>
        Store.get? m'.hw.cu.recs k = none ∧ m'.hw.tagOpen .cu k = false ∧
        (m'.hw.cuLine c.gla).map (fun l => (l.st, l.data, l.poison)) = some (1, d, q) ∧ m'.hw.hd = h.hd ∧
        m'.mem = s.mach.mem)) ∧
      (c.tr = .isW ∨ c.tr = .imW ∨ c.tr = .smW → Completes (.cupolaRetry m) s (fun m' => m' = s.mach.onHw (fun h =>
        (h.setCuRec k { c with backoff := true, retries := c.retries + 1 }).fadd F.CU_RETRYRX_VAL 0 1)))) ∧
    (Store.get? h.cu.recs k = some c →
      (c.backoff = true → Completes (.retryBackoffExpire k) s (fun m' =>
        Store.get? m'.hw.cu.recs k = some { c with backoff := false } ∧ m'.hw.cu.lines = h.cu.lines ∧
        (∃ a : Coh, Emit.coh (cupAgent (homeOf c.gla)) c.opc a ∈ m'.hw.out ∧ a.txn = h.cuTag k ∧ a.laddr = c.gla ∧
          a.starve = decide (c.opc ≤ 2 ∧ h.fget F.CU_CTRL_STARVN 0 ≤ c.retries)) ∧ m'.mem = s.mach.mem)) ∧
      (c.tr = .th → c.parked = [] → h.cu.held = [] → Completes (.tenureHoldEnd k) s (fun m' =>
        Store.get? m'.hw.cu.recs k = none ∧ m'.hw.tagOpen .cu k = false ∧ m'.hw.cu.lines = h.cu.lines ∧
        m'.hw.out = h.out ∧ m'.hw.regs = h.regs ∧ m'.mem = s.mach.mem))) ∧
    (h.isDead (h.agentOf port) = false → h.cu.steps = [st] → st.gla % 2 ^ 15 = addr / 64 % 2 ^ 15 → st.bis.contains b = true →
      st.bis.any (fun y => y.1 == port && !(y.2.1 == tid && y.2.2 == e)) = true →
      Completes (.cupolaHostBirsp port tid addr .i) s (fun m' => m' = s.mach.onHw (fun h => { h with cu := { h.cu with
        steps := [{ st with bis := st.bis.filter (fun y => !(y.1 == port && y.2.1 == tid && y.2.2 == e)),
                            seen := Store.put st.seen port (Store.getD 0 st.seen port) }] } }))) ∧
    (namesReserved m = false → h.isDead m.src = false → m.txn % 1024 = k → Store.get? h.cu.recs k = none → h.job k = some j →
      j.phase = .fence → h.tagOpen .dm k = true → h.tagGen .dm k = m.txn / 1024 % 16 → j.peers.contains (m.src / 128) = true →
      Completes (.cupolaAck m) s (fun m' => m' = s.mach.onHw (fun h => { h with dm := { h.dm with
        jobs := Store.put h.dm.jobs k { j with peers := j.peers.erase (m.src / 128) } } })))

/-! ### Reclaim and rebuild (R151 to R174) -/

/-- R155 to R158, R161: the reclaim walk starts over every dead agent not yet reclaimed, passes a set that names none of them,
and ends with one RECLAIM message for each; a reclaimed host port that is up again is dead no longer. -/
def Obligations.ReclaimCompletes : Prop :=
  ∀ (s : State) (l a : Nat) (d : DeadRec), let h := s.mach.hw
    let pos := Store.getD 0 h.hd.walk l
    (h.flag F.HD_RCLSTAT_BUSY 0 = false → h.hd.dead.any (fun x => !x.done) = true →
      Completes .reclaimWalkStart s (fun m => m.hw.flag F.HD_RCLSTAT_BUSY 0 = true ∧ m.hw.flag F.HD_RCLSTAT_PEND 0 = false ∧
        m.hw.fget F.HD_RCLSTAT_SET 0 = 0 ∧ m.hw.hd.walk = [] ∧
        m.hw.hd.dead = h.hd.dead.map (fun x => if x.done then x else { x with walking := true, pois := 0 }) ∧
        FieldsKept [(F.HD_RCLSTAT_BUSY, 0), (F.HD_RCLSTAT_PEND, 0), (F.HD_RCLSTAT_SET, 0)] s.mach m ∧ m.mem = s.mach.mem)) ∧
    (h.flag F.HD_RCLSTAT_BUSY 0 = true → h.hd.held = [] → l < 16 → pos < 16384 * 16 → h.setEnts l (pos / 16) = [] →
      Completes (.reclaimSetStep l) s (fun m => Store.getD 0 m.hw.hd.walk l = pos / 16 * 16 + 16 ∧ m.hw.hd.dir = h.hd.dir ∧
        FieldsKept [(F.HD_RCLSTAT_SET, 0)] s.mach m ∧ m.mem = s.mach.mem)) ∧
    (h.flag F.HD_RCLSTAT_BUSY 0 = true → h.flag F.HD_RCLSTAT_PEND 0 = false →
      (List.range 16).all (fun l => decide (16384 * 16 ≤ Store.getD 0 h.hd.walk l)) = true → h.hd.dead = [d] →
      d.walking = true → (h.queue 10).length < 8 → d.agent % 128 = 72 →
      Completes .reclaimWalkEnd s (fun m => m.hw.flag F.HD_RCLSTAT_BUSY 0 = false ∧
        m.hw.hd.dead = [{ d with walking := false, done := true }] ∧ Gained 10 0x3A02 4 (4 + d.agent / 128) s.mach m ∧
        FieldsKept [(F.HD_RCLSTAT_BUSY, 0)] s.mach m ∧ m.mem = s.mach.mem)) ∧
    (h.hd.dead = [d] → d.agent = a → d.done = true → d.tids = [] → a % 128 < 72 → a < 1024 →
      h.flag F.FP_LSTAT_UP (a % 128) = true → Completes (.hdDeadClear a) s (fun m =>
        m.hw.isDead a = false ∧ m.hw.hd.dead = [] ∧ FieldsKept [(F.HD_DEAD_VAL, a / 32)] s.mach m ∧ m.mem = s.mach.mem))

/-- R162 to R169, R173: a failed slice awaits its takeover by the spare one, or GO asks for it; DS16 then serves its lines with
an empty directory and rebuilds; a line whose hint is set is asked of every live Cupola; the walk passes extents that nothing
binds; and at the end of Dome the rebuild is done. R169: a spare that fails while a slice awaits its takeover leaves that slice
failed for good. -/
def Obligations.RebuildCompletes : Prop :=
  ∀ (s : State) (p l la c : Nat) (data : Word), let h := s.mach.hw
    (h.fget F.HD_SLSTAT_ROLE 16 = 1 →
      (h.hd.failing = [] →
        (p < 16 → h.fget F.HD_SLSTAT_ROLE p ≠ 3 → Completes (.sliceFailure p) s (fun m =>
          m = s.mach.onHw (fun h => { h with hd := { h.hd with failing := [p], rbDead := unreclaimed p h } }))) ∧
        (bitAt data.toNat 31 = true → Completes (.hdRbctrlGo .turret data) s (fun m =>
          m.hw.hd = { h.hd with failing := [bits data.toNat 8 4], rbDead := unreclaimed (bits data.toNat 8 4) h } ∧
          m.hw.fget F.HD_RBCTRL_LSLICE 0 = bits data.toNat 8 4 ∧
          FieldsKept [(F.HD_RBCTRL_BW, 0), (F.HD_RBCTRL_LSLICE, 0)] s.mach m ∧ m.mem = s.mach.mem))) ∧
      (h.hd.failing = [] → (h.queue 10).length < 8 → Completes (.sliceFailure 16) s (fun m =>
        m.hw.fget F.HD_SLSTAT_ROLE 16 = 3 ∧ Gained 10 0x1A06 5 16 s.mach m ∧ m.hw.hd = h.hd ∧ m.mem = s.mach.mem)) ∧
      (h.hd.failing = [l] → l < 16 → (h.queue 10).length < 7 → Completes (.sliceFailure 16) s (fun m =>
        m.hw.fget F.HD_SLSTAT_ROLE 16 = 3 ∧ m.hw.fget F.HD_SLSTAT_ROLE l = 3 ∧
        (∃ f g : FMsg, m.hw.queue 10 = h.queue 10 ++ [f, g] ∧ f.code = 0x1A06 ∧ f.domain = 5 ∧ f.dinst = 16 ∧ g.code = 0x4A05 ∧
          g.domain = domDevice) ∧ m.hw.hd = { h.hd with failing := [] } ∧ m.mem = s.mach.mem))) ∧
    (h.hd.failing = [l] → l < 16 → h.hd.txns = [] → h.hd.retry = [] → h.hd.held = [] → h.hd.next = [] →
      (h.queue 10).length < 8 → Completes .sliceTakeover s (fun m =>
        m.hw.fget F.HD_SLSTAT_ROLE l = 3 ∧ m.hw.fget F.HD_SLSTAT_ROLE 16 = 2 ∧ m.hw.fget F.HD_SLSTAT_LSLICE 16 = l ∧
        m.hw.flag F.HD_RBSTAT_BUSY 0 = true ∧ m.hw.hd.failing = [] ∧ m.hw.hd.rbPos = 0 ∧
        (∀ a, m.hw.dirEnt a = if sliceOf a = l then none else h.dirEnt a) ∧ Gained 10 0x2A03 5 l s.mach m ∧
        m.mem = s.mach.mem)) ∧
    (h.fget F.HD_SLSTAT_ROLE 16 = 2 →
      (let e := h.hd.rbPos / 2 ^ 15; h.hd.held = [] → e < h.domeExt → (h.arec e).cnt = 0 → Completes (.rebuildLine none) s (fun m =>
        m.hw.hd = { h.hd with rbPos := nextBound h (e + 1) * 2 ^ 15 } ∧
        OnlyFields [(F.HD_RBSTAT_EXT, 0)] s.mach { m with hw := { m.hw with hd := h.hd } })) ∧
      (h.homeIdle → needsRebuild s.mach la = true → c < 8 → c ≠ h.sid → bitAt (h.fget F.SL_STKSTAT_ALIVE 0) c = true →
        h.isDead (cupAgent c) = false → Completes (.rebuildLine (some la)) s (fun m =>
          (∃ t, m.hw.hd.txns = [(64 * sliceOf la, t)] ∧ t.phase = .rbd ∧ t.req.la = la ∧ c ∈ t.snps) ∧
          (∃ x : Coh, Emit.coh (cupAgent c) 0x09 x ∈ m.hw.out) ∧ m.hw.hd.dir = h.hd.dir ∧ m.mem.stored = s.mach.mem.stored)) ∧
      (h.domeExt ≤ h.hd.rbPos / 2 ^ 15 → h.hd.txns = [] → (h.queue 10).length < 8 → Completes .rebuildEnd s (fun m =>
        m.hw.fget F.HD_SLSTAT_ROLE 16 = 0 ∧ m.hw.flag F.HD_RBSTAT_BUSY 0 = false ∧ Gained 10 0x0A04 5 16 s.mach m ∧
        FieldsKept [(F.HD_SLSTAT_ROLE, 16), (F.HD_RBSTAT_BUSY, 0)] s.mach m ∧ m.hw.hd = h.hd ∧ m.mem = s.mach.mem)))

/-! ### Spire (R411 to R443) -/

/-- R412 to R415, R424, R425, R442, R443, R445, R621: a DATA flit in sequence with its CRC is accepted, and frees the flits that
its ASEQ covers; one that fails its CRC, or is out of sequence, is discarded whole with one NAK; a NAK frees what it covers and
the rest of the replay buffer is sent again, as it is when the oldest flit times out, the eighth time after a retrain; a port
trains, checks its neighbour, goes down, is retrained, its directions sleep and wake, and its LNK indicator follows. -/
def Obligations.SpireLinkCompletes : Prop :=
  ∀ (s : State) (q ft fseq aseq n : Nat) (f : SlFrame) (rest : List (Nat × Nat × SlFrame)) (t : FlitRest) (p : Path) (av rx : Bool)
    (peer nmod delay : Nat) (id : PlanId), q < 4 →
    let h := s.mach.hw
    let l := h.slPort q
    let seen := if l.av then l.last else 0
    let freed := match l.unacked.findIdx? (fun x => x.1 == aseq) with
      | none => l.unacked
      | some i => l.unacked.drop (i + 1)
    let l1 := if av then { l with unacked := freed } else l
    let good := fun (ft : Nat) => t.crc = flitCrc ft fseq aseq av t.payload
    let refused := fun (m : Mach) =>
      m.hw.slPort q = { l with nak := true } ∧
      m.hw.out = (if l.nak then [] else [.flit q (flitWord 2 0 l.last true 0), .nak q l.last]) ++ h.out ∧
      FieldsKept [(F.SL_CRCERR_VAL, q)] s.mach m ∧ m.mem = s.mach.mem
    let replayed := fun (l' : SlPort) (m : Mach) =>
      m.hw.slPort q = l' ∧
      m.hw.out = l'.unacked.foldl (fun o y => .flit q (flitWord 0 y.1 seen l.av (frameWord y.2.2)) :: o) (.replay q fseq :: h.out) ∧
      m.hw.fget F.SL_LRETRY_VAL q = min (h.fget F.SL_LRETRY_VAL q + 1) (2 ^ 32 - 1) ∧
      ((h.queue 5).length < 8 → Gained 5 0x1501 4 q s.mach m) ∧ m.mem = s.mach.mem
    (h.slUp q = true →
      (fseq = (l.last + 1) % 1024 → good 0 → Completes (.spireFlitReceive q 0 fseq aseq av t) s (fun m =>
        (m.hw.slPort q).last = fseq ∧ (m.hw.slPort q).av = true ∧ (m.hw.slPort q).nak = false ∧ m.mem = s.mach.mem ∧
        (l.txq = [] → m.hw.slPort q = { l1 with last := fseq, av := true, nak := false } ∧ m.hw.regs = h.regs ∧
          m.hw.out = (if h.fget F.SL_PSTAT_TXPS q = 0 then [.flit q (flitWord 1 0 fseq true 0)] else []) ++ h.out))) ∧
      (fseq ≠ (l.last + 1) % 1024 → good 0 → Completes (.spireFlitReceive q 0 fseq aseq av t) s (fun m =>
        refused m ∧ m.hw.fget F.SL_CRCERR_VAL q = h.fget F.SL_CRCERR_VAL q)) ∧
      (ft = 3 ∨ ¬ good ft → Completes (.spireFlitReceive q ft fseq aseq av t) s (fun m =>
        refused m ∧ m.hw.fget F.SL_CRCERR_VAL q = min (h.fget F.SL_CRCERR_VAL q + 1) (2 ^ 32 - 1))) ∧
      (ft = 1 ∨ ft = 2 → good ft → l.txq = [] → Completes (.spireFlitReceive q ft fseq aseq av t) s (fun m =>
        m.hw.slPort q = l1 ∧ m.hw.out = h.out ∧ m.hw.regs = h.regs ∧ m.mem = s.mach.mem)) ∧
      (freed = [] → l.txq = [] → Completes (.spireNakReceive q aseq) s (fun m =>
        m.hw.slPort q = { l with unacked := [] } ∧ m.hw.out = h.out ∧ m.hw.regs = h.regs ∧ m.mem = s.mach.mem)) ∧
      (freed = (fseq, n, f) :: rest → n < 7 → l.txq = [] → Completes (.spireNakReceive q aseq) s
        (replayed { l with unacked := (fseq, n + 1, f) :: rest })) ∧
      (l.unacked = [] → Completes (.spireReplayTimeout q) s (fun m => m = s.mach)) ∧
      (l.unacked = (fseq, n, f) :: rest →
        (n < 7 → Completes (.spireReplayTimeout q) s (fun m =>
          replayed { l with unacked := (fseq, n + 1, f) :: rest } m ∧ FieldsKept [(F.SL_LRETRY_VAL, q)] s.mach m)) ∧
        (n = 7 → Completes (.spireReplayTimeout q) s (fun m =>
          replayed { l with unacked := (fseq, 8, f) :: rest, retry := true } m ∧ m.hw.fget F.SL_PSTAT_STATE q = 1))) ∧
      (1 ≤ n → n < 8 → Completes (.spirePortDown q n) s (fun m =>
        m.hw.slUp q = false ∧ m.hw.fget F.SL_PSTAT_DOWNWHY q = n ∧ m.hw.slPort q = { SlPort.fresh with fails := l.fails } ∧
        m.mem = s.mach.mem ∧ (h.sl.peers = [] → h.noMessages → (h.queue 5).length < 8 →
          Gained 5 0x1509 4 q s.mach m ∧ m.hw.out = h.out))) ∧
      (h.fget (sleepFld rx) q = 0 → h.flag F.SL_PCFG_S1EN q = true → l.unacked = [] →
        Completes (.spireSleepS1 q rx) s (fun m => m.hw.fget (sleepFld rx) q = 1 ∧ lnkShow m.hw q = .greenBlink ∧ OnlyFields [(sleepFld rx, q)] s.mach m)) ∧
      (h.fget (sleepFld rx) q = 1 → h.flag F.SL_PCFG_S2EN q = true → h.flag F.SL_PSTAT_TIMEDN q = false →
        Completes (.spireSleepS2 q rx) s (fun m => m.hw.fget (sleepFld rx) q = 2 ∧ OnlyFields [(sleepFld rx, q)] s.mach m))) ∧
    Completes (.spireSleepExit q rx) s (fun m =>
      m.hw.fget (sleepFld rx) q = 0 ∧ OnlyFields [(sleepFld rx, q)] s.mach m) ∧
    (h.noResets → spireMayTrain h q = true → peer < 8 → delay < 65536 →
      (stackCheck h q peer q nmod id.digest = none → l.retry = false →
        Completes (.spireTraining q peer q nmod id delay) s (fun m =>
          m.hw.slUp q = true ∧ m.hw.fget F.SL_PSTAT_PEER q = peer ∧ m.hw.fget F.SL_PDELAY_VAL q = delay ∧
          m.hw.slPort q = { SlPort.fresh with fails := l.fails } ∧ m.mem = s.mach.mem ∧
          m.hw.out = .ident h.sid q (h.fget F.SL_STACK_NMOD 0) (h.fget F.SL_PLANDIG_LO_VAL 0 + 2 ^ 32 * h.fget F.SL_PLANDIG_HI_VAL 0)
            (h.fget F.SL_STKSTAT_INC 0) :: h.out ∧
          (h.fget F.SL_PSTAT_TXPS q = 0 → h.fget F.SL_PSTAT_RXPS q = 0 → lnkShow m.hw q = .greenOn))) ∧
      (stackCheck h q peer q nmod id.digest = some n → l.retry = false → n < 16 → (h.queue 5).length < 8 →
        Completes (.spireTraining q peer q nmod id delay) s (fun m =>
          m.hw.fget F.SL_PSTAT_STATE q = 3 ∧ lnkShow m.hw q = .amberOn ∧ m.hw.fget F.SL_PSTAT_DOWNWHY q = n ∧ Gained 5 0x3505 4 q s.mach m ∧
          m.hw.sl = h.sl ∧ m.mem = s.mach.mem)) ∧
      (l.fails = [] → l.retry = false →
        ((h.queue 5).length < 8 → Completes (.spireTrainingFail q true) s (fun m =>
          m.hw.fget F.SL_PSTAT_STATE q = 0 ∧ m.hw.fget F.SL_PSTAT_DOWNWHY q = 4 ∧ Gained 5 0x1509 4 q s.mach m ∧
          m.hw.slPort q = { SlPort.fresh with fails := [h.ck.ltime] } ∧
          FieldsKept [(F.SL_PSTAT_STATE, q), (F.SL_PSTAT_DOWNWHY, q)] s.mach m ∧ m.mem = s.mach.mem)) ∧
        Completes (.spireTrainingFail q false) s (fun m =>
          m.hw.fget F.SL_PSTAT_STATE q = 1 ∧ m.hw.slPort q = { SlPort.fresh with fails := [h.ck.ltime] } ∧
          FieldsKept [(F.SL_PSTAT_STATE, q)] s.mach m ∧ m.mem = s.mach.mem))) ∧
    (h.fget F.SL_PSTAT_STATE q = 0 ∨ h.fget F.SL_PSTAT_STATE q = 3 → h.flag F.SL_PCFG_EN q = true →
      h.flag F.SL_STKSTAT_SIDERR 0 = false → h.contained (didxOf domSpire q) = false → Completes (.slPcfgRetrain p q) s (fun m =>
        m.hw.fget F.SL_PSTAT_STATE q = 1 ∧ OnlyFields [(F.SL_PSTAT_STATE, q)] s.mach m))

/-- R417 to R423, R432 to R440: frames are forwarded, delivered in order and acknowledged, discarded where their ECRC fails or
BAD is 1, sent again on a time-out; HEARTBEAT, JOIN, FENCEOUT and TIME frames leave on the route in force and are taken; a
silent peer, or a host that leaves a back-invalidation unanswered, is declared dead. -/
def Obligations.SpireFramesComplete : Prop :=
  ∀ (s : State) (q d inc time depth port tid addr ecrc : Nat) (f : SlFrame) (x : Nat × SlFrame × Nat), let h := s.mach.hw
    let p := h.slPeer d
    let sid := h.sid
    let quiet := h.homeIdle ∧ h.cuIdle
    let sent := fun (f : SlFrame) (m : Mach) =>
      let l := h.slPort q
      m.hw.out = .flit q (flitWord 0 l.fseq (if l.av then l.last else 0) l.av (frameWord f)) :: .frame q l.fseq f :: h.out ∧
      m.hw.hd = h.hd ∧ m.mem = s.mach.mem
    sid < 8 → d < 8 →
    (h.slRoute d = some q → h.portReady q →
      (f.dst = d → d ≠ sid → f.src ≠ sid → f.hops < 3 → Completes (.spireFrameForward 0 f) s (fun m =>
        sent { f with hops := f.hops + 1 } m ∧ m.hw.sl.peers = h.sl.peers)) ∧
      (h.peerState d = 1 → p.ackDue = true → Completes (.spireAckSend d) s (fun m =>
        sent ⟨d, sid, 1, 1, 0, p.nexp, true, false, 0⟩ m ∧ (m.hw.slPeer d).ackDue = false)) ∧
      (h.peerState d = 1 → p.unfreed = [x] → x.2.1.dst = d → x.2.1.ftype ≠ 3 → Completes (.spireRetransmitTimeout d x.1) s (fun m =>
        sent { x.2.1 with hops := x.2.1.hops + 1, ackseq := p.nexp, ackv := true } m ∧
        (m.hw.slPeer d).unfreed = [(x.1, x.2.1, q)] ∧
        m.hw.fget F.SL_REPLAY_VAL 0 = min (h.fget F.SL_REPLAY_VAL 0 + 1) (2 ^ 32 - 1))) ∧
      (h.flag F.SL_STKSTAT_SIDERR 0 = false → planPeers h = [d] →
        Completes .heartbeatSend s
          (sent ⟨d, sid, 1, 2, 0, p.nexp, true, false, h.fget F.SL_STKSTAT_INC 0 + sid * 2 ^ 16⟩) ∧
        (h.peerState d = 0 → p.joinInc = none → Completes .joinSend s
          (sent ⟨d, sid, 1, 5, 0, p.nexp, true, false, h.fget F.SL_STKSTAT_INC 0⟩))) ∧
      (h.peerState d = 2 → h.fget F.SL_PEERSTAT_INC d = inc → p.fenceAt = none → Completes (.heartbeatReceive d inc) s (fun m =>
        sent ⟨d, sid, 1, 6, 0, p.nexp, true, false, inc⟩ m ∧ (m.hw.slPeer d).fenceAt = some h.ck.ltime)) ∧
      (h.peerState d = 0 → inc < 65536 → Completes (.joinReceive d inc (h.fget F.SL_STKSTAT_INC 0) true) s (fun m =>
        m.hw.peerState d = 1 ∧ m.hw.fget F.SL_PEERSTAT_INC d = inc ∧
        m.hw.slPeer d = { SlPeer.fresh with joinInc := some inc } ∧ m.hw.hd = h.hd ∧ m.mem = s.mach.mem)) ∧
      (h.fget F.SL_STKSTAT_MASTER 0 = d → d ≠ sid → depth < 255 → h.sl.synced = false →
        h.peerState (h.fget F.SL_PSTAT_PEER q) = 1 →
        Completes (.timeReceive q time depth) s (fun m => m.hw.stime = (time + h.fget F.SL_PDELAY_VAL q / 32) % 2 ^ 64 ∧
          m.hw.flag F.SL_STKSTAT_TSYNC 0 = true ∧ m.hw.sl = { h.sl with depth := depth + 1, synced := true, slew := 0 } ∧
          FieldsKept [(F.SL_STKSTAT_TSYNC, 0)] s.mach m ∧ m.mem = s.mach.mem))) ∧
    (f.dst = sid → f.src = d →
      (ecrc ≠ frameEcrc f → Completes (.spireFrameDeliver port f ecrc) s (fun m =>
        m.hw.fget F.SL_ECRCERR_VAL 0 = min (h.fget F.SL_ECRCERR_VAL 0 + 1) (2 ^ 32 - 1) ∧
        FieldsKept [(F.SL_ECRCERR_VAL, 0)] s.mach m ∧ m.hw.sl = h.sl ∧ m.hw.out = h.out ∧ m.mem = s.mach.mem)) ∧
      (ecrc = frameEcrc f → f.bad = true → Completes (.spireFrameDeliver port f ecrc) s (fun m =>
        m.hw.fget F.SW_BADDROP_VAL 0 = min (h.fget F.SW_BADDROP_VAL 0 + 1) (2 ^ 32 - 1) ∧
        OnlyFields [(F.SW_BADDROP_VAL, 0)] s.mach m))) ∧
    (f.dst = sid → f.src = d → f.bad = false →
      (f.ftype = 2 → (h.peerState d = 1 → f.ackv = false) → Completes (.spireFrameDeliver port f (frameEcrc f)) s (fun m =>
        m = s.mach.onHw (fun h => h.emit (.deliver d 2 f.body)))) ∧
      (f.ftype = 4 → h.peerState d = 1 → f.ackv = false → p.got = [] → p.nexp < 2 ^ 24 → f.tseq = p.nexp →
        Completes (.spireFrameDeliver port f (frameEcrc f)) s (fun m =>
          m.hw.slPeer d = { p with nexp := (p.nexp + 1) % 2 ^ 24, ackDue := true } ∧
          m.hw.out = .deliver d 4 f.body :: h.out ∧ m.hw.regs = h.regs ∧ m.mem = s.mach.mem))) ∧
    (h.peerState d = 1 → p.unfreed = [x] → p.wait = [] → x.1 < 2 ^ 24 → p.nsend = (x.1 + 1) % 2 ^ 24 →
      Completes (.spireAckReceive d ((x.1 + 1) % 2 ^ 24)) s (fun m =>
        m = s.mach.onHw (fun h => h.setSlPeer d { p with unfreed := [], old := p.nsend }))) ∧
    (h.peerState d = 1 → quiet → h.cu.lines = [] → h.bd.allocs = [] → Completes (.heartbeatTimeout d) s (fun m =>
      m.hw.peerState d = 2 ∧ m.hw.isDead (cupAgent d) = true ∧ m.hw.hd.dir = h.hd.dir ∧ m.mem = s.mach.mem)) ∧
    (h.peerState d = 2 → d < sid → (h.queue 5).length < 8 → Completes (.fenceoutReceive d inc) s (fun m =>
      m.hw.ck.fabReq = some (h.ck.fabReq.getD 2) ∧ Gained 5 0x3507 4 (4 + d) s.mach m ∧ m.hw.regs = h.regs ∧
      m.mem = s.mach.mem)) ∧
    (h.portReady 0 → h.slUp 1 = false → h.slUp 2 = false → h.slUp 3 = false → h.fget F.SL_PSTAT_PEER 0 = d → q = 0 →
      Completes .timeSend s
        (sent ⟨d, sid, 1, 3, 0, p.nexp, true, false, h.stime % 2 ^ 64 + timeDepth h * 2 ^ 64⟩)) ∧
    Completes .tsyncTimeout s (fun m =>
      m.hw.flag F.SL_STKSTAT_TSYNC 0 = false ∧ OnlyFields [(F.SL_STKSTAT_TSYNC, 0)] s.mach m) ∧
    (h.bd.flush.contains (port, tid, addr / 2 ^ 21, addr % 2 ^ 21 / 64) = true → quiet → port < 72 →
      h.flag F.FP_LSTAT_UP port = false → h.isDead (h.agentOf port) = false → Completes (.bisnpTimeout port tid addr) s (fun m =>
        m.hw.isDead (h.agentOf port) = true ∧ (∃ r, m.hw.hd.dead = r ++ [⟨h.agentOf port, false, false, 0,
          h.tidsWhere (fun e => ttState e != 0 && ttPort e == port)⟩]) ∧ m.hw.hd.dir = h.hd.dir ∧
        m.hw.bd = h.bd ∧ m.mem = s.mach.mem))

/-! ### Fabric ports and lanes (R366 to R408) -/

/-- R372 to R383, R151: presence, its loss on a DOWN port whose link was lost, PERST_N and the reference clock; a link comes up
at the highest common rate, the widest width of its good lanes and the first link mode that both take, and goes down with its
reason; equalisation failures lower FBRATE; an octet loses and regains lock; a host port whose grace time ends is declared dead.
-/
def Obligations.PortEventsComplete : Prop :=
  ∀ (s : State) (n rate width mode mps why oct : Nat) (r : RateSet) (l : LaneSet) (ms : ModeSet) (cxl dpc sbr : Bool), n < 72 →
    let h := s.mach.hw
    let off := fun (m : Mach) => m.hw.flag F.FP_LSTAT_UP n = false ∧ m.hw.fget F.FP_LSTAT_RATE n = 0 ∧
      m.hw.fget F.FP_LSTAT_WIDTH n = 0
    h.noResets →
    (h.role n = 1 →
      (h.flag F.FP_LSTAT_PRSNT n = false → h.inStandby = false → h.fget F.FP_PCFG_MAXRATE n ≤ 5 → Completes (.prsntChange n true dpc) s (fun m =>
        m.hw.flag F.FP_LSTAT_PRSNT n = true ∧ m.hw.fget F.FP_LSTAT_FBRATE n = h.fget F.FP_PCFG_MAXRATE n ∧
        m.hw.fp.stay = Store.del h.fp.stay n ∧ m.hw.out = h.out ∧
        FieldsKept [(F.FP_LSTAT_PRSNT, n), (F.FP_LSTAT_FBRATE, n)] s.mach m ∧ m.mem = s.mach.mem)) ∧
      (h.flag F.FP_LSTAT_UP n = false → h.tidsWhere (fun e => ttState e != 0 && ttPort e == n) = [] →
        Completes (.hostPerstAssert n) s (fun m =>
          m.hw.flag F.FP_LSTAT_PERST n = true ∧ OnlyFields [(F.FP_LSTAT_PERST, n)] s.mach m)) ∧
      Completes (.hostPerstRelease n) s (fun m =>
        m.hw.flag F.FP_LSTAT_PERST n = false ∧ OnlyFields [(F.FP_LSTAT_PERST, n)] s.mach m) ∧
      (h.flag F.FP_LSTAT_UP n = true → h.noMessages → 1 ≤ why → why ≤ 4 →
        h.fp.grace.contains n = false → (h.queue 4).length < 8 → Completes (.linkDown n why) s (fun m =>
          off m ∧ m.hw.fget F.FP_LSTAT_DOWNWHY n = why ∧
          m.hw.fget F.FP_DOWNCNT_VAL n = min (h.fget F.FP_DOWNCNT_VAL n + 1) (2 ^ 32 - 1) ∧
          Gained 4 (if why = 2 ∨ why = 4 then 0x2402 else 0x0403) 1 n s.mach m ∧ m.hw.fp.grace = h.fp.grace ++ [n] ∧
          m.hw.bd = h.bd ∧ m.mem = s.mach.mem)) ∧
      (h.fp.grace.contains n = true → h.tidsWhere (fun e => ttState e != 0 && ttPort e == n) = [] → h.homeIdle → h.cuIdle →
        h.sid < 8 → Completes (.hostGraceExpiry n) s (fun m =>
          m.hw.isDead (h.agentOf n) = true ∧ m.hw.fp.grace = h.fp.grace.filter (· != n) ∧ m.hw.hd.dir = h.hd.dir ∧
          m.hw.bd = h.bd ∧ m.mem = s.mach.mem))) ∧
    (h.role n = 2 → h.flag F.FP_LSTAT_PERST n = true → h.flag F.FP_LSTAT_PRSNT n = true →
      (h.flag F.FP_LSTAT_UP n = false → h.fget F.FP_LSTAT_DOWNWHY n = 2 → h.inStandby = false →
        Completes (.prsntChange n false true) s (fun m =>
          m.hw.flag F.FP_LSTAT_PRSNT n = false ∧ m.hw.fget F.FP_LSTAT_DOWNWHY n = 4 ∧ n ∈ m.hw.fp.dpc ∧
          m.hw.out = .presence n false :: h.out ∧ m.hw.bd = h.bd ∧
          FieldsKept [(F.FP_LSTAT_PRSNT, n), (F.FP_LSTAT_FBRATE, n), (F.FP_LSTAT_DOWNWHY, n)] s.mach m ∧ m.mem = s.mach.mem)) ∧
      (h.fp.refOk.contains (n / 8) = true → (sbr = false → n ∉ h.fp.sbr) → (dpc = false → n ∉ h.fp.dpc) →
        Completes (.downPerstRelease ⟨n, sbr, dpc⟩) s (fun m =>
          m.hw.flag F.FP_LSTAT_PERST n = false ∧ m.hw.out = .perst n false :: h.out ∧ n ∉ m.hw.fp.sbr ∧ n ∉ m.hw.fp.dpc ∧
          FieldsKept [(F.FP_LSTAT_PERST, n)] s.mach m ∧ m.mem = s.mach.mem)) ∧
      (sbr = false → n ∈ h.fp.sbr → Completes (.downPerstRelease ⟨n, sbr, dpc⟩) s (fun m =>
        m.hw.regs = h.regs ∧ m.hw.out = h.out ∧ m.mem = s.mach.mem))) ∧
    (h.fp.refOk.contains oct = false → Completes (.refclkWindow oct true) s (fun m =>
      m = s.mach.onHw (fun h => { h with fp := { h.fp with refOk := h.fp.refOk ++ [oct] } }))) ∧
    (mayTrain h n = true → trainRate h n r = some rate → trainWidth h n l = some width → trainMode h n rate ms cxl = some mode →
      Completes (.linkUp n r l ms cxl mps) s (fun m =>
        m.hw.flag F.FP_LSTAT_UP n = true ∧ m.hw.fget F.FP_LSTAT_RATE n = rate ∧ m.hw.fget F.FP_LSTAT_WIDTH n = width ∧
        m.hw.fget F.FP_LSTAT_MODE n = mode ∧ m.hw.flag F.FP_LSTAT_CXL n = cxl ∧
        m.hw.fp.grace = h.fp.grace.filter (· != n) ∧
        m.hw.out = .linkCaps n (if mode = 0 then 14 else 10) 4096 4096 1000 8000 true :: h.out ∧ m.hw.bd = h.bd ∧
        m.mem = s.mach.mem)) ∧
    (mayTrain h n = true → rate ≤ h.fget F.FP_PCFG_MAXRATE n → rate ≤ h.fget F.FP_LSTAT_FBRATE n →
      Store.get? h.fp.eqFails n = none → Completes (.equalisationFailure n rate) s (fun m =>
      m = s.mach.onHw (fun h => { h with fp := { h.fp with eqFails := Store.put h.fp.eqFails n rate } }))) ∧
    (mayTrain h n = true → rate ≤ h.fget F.FP_PCFG_MAXRATE n → rate ≤ h.fget F.FP_LSTAT_FBRATE n →
      Store.get? h.fp.eqFails n = some rate → 1 ≤ rate → rate ≤ 5 → (h.queue 4).length < 8 →
      Completes (.equalisationFailure n rate) s (fun m => m.hw.fget F.FP_LSTAT_FBRATE n = rate - 1 ∧
        m.hw.fget F.FP_TRNCNT_VAL n = min (h.fget F.FP_TRNCNT_VAL n + 1) (2 ^ 32 - 1) ∧ Gained 4 0x1401 1 n s.mach m ∧
        FieldsKept [(F.FP_LSTAT_FBRATE, n), (F.FP_TRNCNT_VAL, n)] s.mach m ∧ m.mem = s.mach.mem)) ∧
    (h.fp.octUnlocked.contains oct = false → octetPorts h oct = [n] →
      (h.flag F.FP_LSTAT_UP n = false → (h.queue 4).length < 8 → Completes (.octetPllUnlock oct) s (fun m =>
        oct ∈ m.hw.fp.octUnlocked ∧ Gained 4 0x3404 1 n s.mach m ∧ m.hw.regs = h.regs ∧ m.mem = s.mach.mem)) ∧
      (h.flag F.FP_LSTAT_UP n = true → h.role n = 1 → h.noMessages → Completes (.octetPllUnlock oct) s (fun m =>
        off m ∧ m.hw.fget F.FP_LSTAT_DOWNWHY n = 8 ∧ oct ∈ m.hw.fp.octUnlocked ∧ m.mem = s.mach.mem))) ∧
    (h.fp.octUnlocked.contains oct = true → h.flag F.FP_OCTCFG_FAILED oct = false →
      Completes (.octetRelock oct true) s (fun m =>
        m.hw.fp = { h.fp with octUnlocked := h.fp.octUnlocked.filter (· != oct) } ∧ m.hw.out = h.out ∧
        FieldsKept ((octetPorts h oct).map (fun k => (F.FP_TRNCNT_VAL, k))) s.mach m ∧ m.mem = s.mach.mem) ∧
      (Store.getD [] h.fp.octFails oct = [] → Completes (.octetRelock oct false) s (fun m => m = s.mach.onHw (fun h =>
        { h with fp := { h.fp with octFails := Store.put h.fp.octFails oct [h.ck.ltime] } }))))

/-- R380, R381, R386 to R400, R404: a direction enters and leaves L0s, L0p and L1 under the port's enables; IDE streams are
keyed and fail; RETRAIN, RESETFB, DISABLE and TESTMODE; the lane test is set up, locks, loses lock and injects. -/
def Obligations.PortControlsComplete : Prop :=
  ∀ (s : State) (p : Path) (n l w sid b : Nat) (use : KeyUse) (rx aspm go : Bool) (data : Word) (x : IdeStream), n < 72 → l < 144 →
    let h := s.mach.hw
    let ps := if rx then F.FP_PMSTAT_RXPS else F.FP_PMSTAT_TXPS
    let both := [(F.FP_PMSTAT_TXPS, n), (F.FP_PMSTAT_RXPS, n)]
    let v := data.toNat
    (h.flag F.FP_LSTAT_UP n = true → anyQueued h n = false →
      (h.fget F.FP_LSTAT_MODE n = 2 → h.flag F.FP_PMCFG_L0SEN n = true → h.fget ps n = 0 → ownPm h n = true →
        Completes (.l0sEntry n rx) s (fun m => m.hw.fget ps n = 1 ∧ OnlyFields [(ps, n)] s.mach m)) ∧
      (h.fget F.FP_LSTAT_MODE n = 0 → h.flag F.FP_PMCFG_L0PEN n = true → h.fget F.FP_PMSTAT_TXPS n = 0 → w ∈ [2, 4, 8] → w < h.fget F.FP_LSTAT_WIDTH n →
        Completes (.l0pEntry n w true) s (fun m =>
          m.hw.fget F.FP_PMSTAT_L0PW n = w ∧ OnlyFields [(F.FP_PMSTAT_L0PW, n)] s.mach m)) ∧
      (h.flag F.FP_PMCFG_L1EN n = true → Completes (.l1Request n aspm) s (fun m =>
        m.hw.fget F.FP_PMSTAT_TXPS n = 2 ∧ m.hw.fget F.FP_PMSTAT_RXPS n = 2 ∧ m.hw.fget F.FP_PMSTAT_L0PW n = 0 ∧
        OnlyFields ((F.FP_PMSTAT_L0PW, n) :: both) s.mach m)) ∧
      (h.flag F.FP_PMCFG_L1EN n = false → Completes (.l1Request n aspm) s (fun m =>
        m = s.mach.onHw (fun h => h.emit (.l1Reject n aspm))))) ∧
    (h.fget ps n = 1 → Completes (.l0sExit n rx) s (fun m => m.hw.fget ps n = 0 ∧ OnlyFields [(ps, n)] s.mach m)) ∧
    Completes (.l0pExit n true) s (fun m =>
      m.hw.fget F.FP_PMSTAT_L0PW n = 0 ∧ OnlyFields [(F.FP_PMSTAT_L0PW, n)] s.mach m) ∧
    (h.fget F.FP_PMSTAT_TXPS n = 2 → Completes (.l1Exit n true) s (fun m =>
      m.hw.fget F.FP_PMSTAT_TXPS n = 0 ∧ m.hw.fget F.FP_PMSTAT_RXPS n = 0 ∧
      m.hw.fget F.FP_TRNCNT_VAL n = min (h.fget F.FP_TRNCNT_VAL n + 1) (2 ^ 32 - 1) ∧
      OnlyFields ((F.FP_TRNCNT_VAL, n) :: both) s.mach m)) ∧
    (h.fp.ide = [] → keysFrom h n use.turret = true → Completes (.ideKmKeyProgram n sid use go) s (fun m =>
      m.hw.fp.ide = [(n * 256 + sid, ⟨use.kind, h.flag F.FP_PCFG_CMODE n, 1, go, false⟩)] ∧ m.hw.out = h.out ∧
      m.hw.sw = h.sw ∧ m.mem = s.mach.mem)) ∧
    (Store.get? h.fp.ide (n * 256 + sid) = some x → h.noMessages → (h.queue 4).length < 8 →
      Completes (.ideIntegrityFailure n sid) s (fun m =>
        Store.get? m.hw.fp.ide (n * 256 + sid) = some { x with secure := false, failed := true } ∧
        m.hw.fget F.FP_IDEFAIL_VAL n = min (h.fget F.FP_IDEFAIL_VAL n + 1) (2 ^ 32 - 1) ∧ Gained 4 0x2405 1 n s.mach m ∧
        m.hw.sw = h.sw ∧ m.mem = s.mach.mem)) ∧
    (Store.get? h.fp.stay n ≠ some 7 → Completes (.fpPctrlRetrain p n) s (fun m =>
      m.hw.fget F.FP_TRNCNT_VAL n = min (h.fget F.FP_TRNCNT_VAL n + 1) (2 ^ 32 - 1) ∧
      m.hw.fp.stay = Store.del h.fp.stay n ∧ FieldsKept [(F.FP_TRNCNT_VAL, n)] s.mach m ∧ m.mem = s.mach.mem)) ∧
    (h.fget F.FP_PCFG_MAXRATE n ≤ 5 → Completes (.fpPctrlResetfb p n) s (fun m =>
      m.hw.fget F.FP_LSTAT_FBRATE n = h.fget F.FP_PCFG_MAXRATE n ∧ Store.get? m.hw.fp.eqFails n = none ∧
      FieldsKept [(F.FP_LSTAT_FBRATE, n)] s.mach m ∧ m.mem = s.mach.mem)) ∧
    (h.noResets → h.flag F.FP_LSTAT_UP n = false →
      (h.flag F.FP_PCTRL_DISABLE n = false → Completes (.fpPctrlDisable p n true) s (fun m =>
        m.hw.flag F.FP_PCTRL_DISABLE n = true ∧ m.hw.fget F.FP_LSTAT_DOWNWHY n = 9 ∧
        OnlyFields [(F.FP_PCTRL_DISABLE, n), (F.FP_LSTAT_DOWNWHY, n)] s.mach m)) ∧
      (h.flag F.FP_PCTRL_TESTMODE n = false → Completes (.fpPctrlTestmode p n true) s (fun m =>
        m.hw.flag F.FP_PCTRL_TESTMODE n = true ∧ OnlyFields [(F.FP_PCTRL_TESTMODE, n)] s.mach m))) ∧
    (h.noResets → Completes (.fpPctrlDisable p n false) s (fun m =>
      m.hw.flag F.FP_PCTRL_DISABLE n = false ∧ OnlyFields [(F.FP_PCTRL_DISABLE, n)] s.mach m)) ∧
    (h.flag F.LT_CTRL_EN l = false → laneTestable h l = true → bitAt v 0 = true → bitAt v 10 = false → bits v 1 3 < 6 →
      bits v 4 3 < 6 → bits v 7 2 < 3 → Completes (.ltCtrlWrite p l data) s (fun m =>
        m.hw.flag F.LT_CTRL_EN l = true ∧ m.hw.fget F.LT_CTRL_PAT l = bits v 1 3 ∧ m.hw.fget F.LT_CTRL_RATE l = bits v 4 3 ∧
        m.hw.fget F.LT_CTRL_LOOP l = bits v 7 2 ∧ m.hw.fget F.LT_CTRL_GENEN l = bits v 9 1 ∧
        m.hw.flag F.LT_CTRL_CHKEN l = false ∧
        Store.get? m.hw.fp.gen l = none ∧ Store.get? m.hw.fp.injPos l = none ∧ m.hw.out = h.out ∧ m.mem = s.mach.mem ∧
        FieldsKept [(F.LT_CTRL_EN, l), (F.LT_CTRL_PAT, l), (F.LT_CTRL_RATE, l), (F.LT_CTRL_LOOP, l), (F.LT_CTRL_GENEN, l),
          (F.LT_CTRL_CHKEN, l), (F.LT_STAT_LOCK, l)] s.mach m)) ∧
    (bitAt v 0 = true → bits v 8 5 ≤ 26 → Completes (.ltInjOne p l data) s (fun m =>
      m.hw.fget F.LT_INJ_EXP l = bits v 8 5 ∧
      (Store.get? h.fp.injOne l = none →
        m.hw.fp.injOne = Store.put h.fp.injOne l ((32 - Store.getD 0 h.fp.bitPos l) % 32)) ∧
      FieldsKept [(F.LT_INJ_EXP, l)] s.mach m ∧ m.mem = s.mach.mem)) ∧
    (h.flag F.LT_CTRL_EN l = true → h.flag F.LT_CTRL_CHKEN l = true → checkerFed h l = true → locksOn h l b = true →
      Completes (.checkerLock ⟨l, b⟩) s (fun m =>
      m.hw.flag F.LT_STAT_LOCK l = true ∧ OnlyFields [(F.LT_STAT_LOCK, l)] s.mach m)) ∧
    (h.flag F.LT_STAT_LOCK l = true → 32 ≤ ones (b % 2 ^ 64) → Completes (.checkerLoseLock ⟨l, b⟩) s (fun m =>
      m.hw.flag F.LT_STAT_LOCK l = false ∧ m.hw.flag F.LT_STAT_LOSTLOCK l = true ∧
      OnlyFields [(F.LT_STAT_LOCK, l), (F.LT_STAT_LOSTLOCK, l)] s.mach m))

/-! ### Dome memory and the scratchpad (R305 to R335, R593 to R598) -/

/-- R311, R319, R323, R325, R329, R330, R337: initialisation ends with every line zero and READY set; a full write stores its
line with the hint of the directory, a partial write its enabled bytes, a metadata write the hint alone, and each opens its row;
the scrubber reads one line of an ACTIVE channel and moves on; a write of DD_CFG recomputes DD_SCRINTV where PERIOD changes. -/
def Obligations.DomeCommandsComplete : Prop :=
  ∀ (s : State) (p : Path) (off data en master ch sl : Nat) (e2 : LineErr) (hint wrSince : Bool) (w : Word), let h := s.mach.hw
    let q := domeMap h off
    let base := off / 64 * 64
    let others := fun (m : Mach) =>
      (∀ k, k < base ∨ base + 64 ≤ k → Store.getD 0 m.mem.dome k = Store.getD 0 s.mach.mem.dome k) ∧
      (∀ c a, lineKey c a ≠ lineKey q.prim q.addr → m.attr c a = s.mach.attr c a) ∧
      m.hw = h ∧ m.rowOpen q.prim q.addr = true ∧ m.mem.sp = s.mach.mem.sp ∧ m.mem.spBad = s.mach.mem.spBad ∧ m.mem.flash = s.mach.mem.flash
    let pos := [(F.DD_SCRPOS_LO_VAL, ch), (F.DD_SCRPOS_HI_VAL, ch)]
    let next := if h.scrPos ch + 1 < h.fget F.DD_CHCAP_VAL ch * 2 ^ 24 then h.scrPos ch + 1 else 0
    let v := fldOf F.DD_CFG_PERIOD w.toNat
    (h.dd.initRun = true → Completes .domeInitComplete s (fun m =>
      m.mem = { s.mach.mem with dome := [], lines := [], rows := [] } ∧ m.hw.flag F.DD_STAT_READY 0 = true ∧ m.hw.dd.initRun = false ∧
      m.hw.bd = h.bd ∧ m.hw.hd = h.hd ∧ m.hw.sw = h.sw)) ∧
    (h.inDmArea 1 off = false → h.chFailed q.prim = false → q.mirror = none →
      Completes (.domeWrite off data master none ⟨false, false⟩) s (fun m => m.line off = data % 2 ^ 512 ∧
        m.attr q.prim q.addr = ⟨h.hintOf off, false⟩ ∧ others m) ∧
      ((s.mach.attr q.prim q.addr).poison = false → Completes (.domePartialWrite off data en master none ⟨.good, e2⟩) s (fun m =>
        (∀ i, i < 64 → Store.getD 0 m.mem.dome (base + i) =
          if bitAt en i then BitVec.ofNat 8 (data / 2 ^ (8 * i)) else Store.getD 0 s.mach.mem.dome (base + i)) ∧
        m.attr q.prim q.addr = ⟨h.hintOf off, false⟩ ∧ others m))) ∧
    (h.chFailed q.prim = false → (s.mach.attr q.prim q.addr).poison = false →
      Completes (.domeMetadataWrite off hint .good) s (fun m => m.mem.dome = s.mach.mem.dome ∧
        m.attr q.prim q.addr = ⟨hint && !h.plainLine off, false⟩ ∧ others m)) ∧
    (ch < 12 → h.chActive ch = true → h.flag F.DD_CFG_SCRUBEN 0 = true → h.dd.selfRefresh = false →
      h.flag F.DD_STAT_READY 0 = true → h.fget F.DD_CHCAP_VAL ch ≤ 512 →
      Completes (.scrubRead ch .good wrSince) s (fun m => m.hw.scrPos ch = next ∧
        OnlyFields pos s.mach { m with mem := s.mach.mem } ∧ m.mem.stored = s.mach.mem.stored ∧ m.rowOpen ch (h.scrPos ch * 64) = true) ∧
      ((s.mach.attr ch (h.scrPos ch * 64)).poison = false → (h.queue 13).length < 8 →
        Completes (.scrubRead ch (.ce sl) false) s (fun m => m.hw.scrPos ch = next ∧
          m.hw.fget F.DD_CECNT_VAL ch = min (h.fget F.DD_CECNT_VAL ch + 1) (2 ^ 32 - 1) ∧ Gained 13 0x1D05 3 ch s.mach m ∧
          FieldsKept (pos ++ [(F.DD_CECNT_VAL, ch)]) s.mach m ∧ m.mem.stored = s.mach.mem.stored))) ∧
    (fieldOk F.DD_CFG_PERIOD 0 v = true → Completes (.ddCfgWrite p w) s (fun m => m.hw.fget F.DD_CFG_PERIOD 0 = v ∧
      (∀ c, c < 12 → m.hw.fget F.DD_SCRINTV_VAL c = if v = h.fget F.DD_CFG_PERIOD 0 then h.fget F.DD_SCRINTV_VAL c
        else v * 36000000000 / (h.fget F.DD_CHCAP_VAL c * 2 ^ 24) % 2 ^ 24) ∧
      OnlyFields (R.DD_CFG.flds.map (fun f => (f, 0)) ++ (List.range 12).map (fun c => (F.DD_SCRINTV_VAL, c))) s.mach m))

/-- R594 to R598: an access that its bank serves alone reaches its word: a write replaces the enabled bytes, an alias write sets
or clears the bits written 1, a read returns the part it reads; a waiting access is served in a later cycle, and an access
without permission is denied and counted. -/
def Obligations.ScratchpadAccessesComplete : Prop :=
  ∀ (s : State) (bank : Nat) (r : SpReq), let h := s.mach.hw
    let k := r.off / 8
    let old := readLE 0 s.mach.mem.sp (8 * k) 8
    let mask := byteMask (spEnables r)
    let d := Nat.land (r.data % 2 ^ (8 * r.size) * 2 ^ (8 * (r.off % 8)) % 2 ^ 64) mask
    let word := fun (x : Nat) (m : Mach) => readLE 0 m.mem.sp (8 * k) 8 = x % 2 ^ 64 ∧
      (∀ j, j < 8 * k ∨ 8 * k + 8 ≤ j → Store.getD 0 m.mem.sp j = Store.getD 0 s.mach.mem.sp j) ∧
      m.mem.dome = s.mach.mem.dome ∧ m.mem.lines = s.mach.mem.lines ∧ m.mem.flash = s.mach.mem.flash ∧ m.hw.regs = h.regs
    let reached := spCheck h r = 0 ∧ spReserved h r = false ∧ Store.getD 0 s.mach.mem.spBad k = 0
    let served := fun (x : Nat) (m : Mach) => m.hw.sp = ⟨[], Store.setD 0 h.sp.ptr bank ((r.master + 1) % 6)⟩ ∧
      m.hw.out = .spDone r.master 0 x :: h.out
    r.off / 0x200000 = bank → bank < 4 → r.master < 6 →
    (let wrote := fun (m : Mach) => word (old - Nat.land old mask + d) m ∧ served 0 m;
     let got := fun (m : Mach) => word old m ∧ served (bits old (8 * (r.off % 8)) (8 * r.size)) m;
     let denied := fun (m : Mach) => m.mem = s.mach.mem ∧ m.hw.out = .spDone r.master 7 0 :: h.out ∧
       m.hw.fget F.SP_DENY_VAL r.master = min (h.fget F.SP_DENY_VAL r.master + 1) (2 ^ 32 - 1) ∧
       FieldsKept [(F.SP_DENY_VAL, r.master)] s.mach m;
     spOwns r.master bank = false →
      (h.sp.wait = [] →
        (reached → r.op = .write → Completes (.scratchpadPortBAccess bank [r] none .good) s wrote) ∧
        (reached → r.op = .read → Completes (.scratchpadPortBAccess bank [r] none .good) s got) ∧
        (spCheck h r = 7 → Completes (.scratchpadPortBAccess bank [r] none .good) s denied)) ∧
      (h.sp.wait = [(bank, r)] →
        (reached → r.op = .write → Completes (.scratchpadWaitServe bank none .good) s wrote) ∧
        (reached → r.op = .read → Completes (.scratchpadWaitServe bank none .good) s got) ∧
        (spCheck h r = 7 → Completes (.scratchpadWaitServe bank none .good) s denied))) ∧
    (spOwns r.master bank = true → h.sp.wait = [] → reached →
      (r.op = .set → Completes (.bitSetAliasWrite r .good) s (fun m => word (Nat.lor old d) m ∧ m.hw.sp = h.sp ∧
        m.hw.out = .spDone r.master 0 0 :: h.out)) ∧
      (r.op = .clr → Completes (.bitClearAliasWrite r .good) s (fun m => word (old - Nat.land old d) m ∧ m.hw.sp = h.sp ∧
        m.hw.out = .spDone r.master 0 0 :: h.out)))

/-! ### The access guard and the fault collector (R344 to R364, R446 to R475) -/

/-- R347, R361, R363, R364: the descriptor commands put what they did into AG_RDSTAT, READ brings a descriptor to AG_RDDATA0-3
and WRITE from Turret stores the staged one; the violation record is rearmed; AG_SYSSET takes a write from Turret within 65,536.
-/
def Obligations.GuardCommandsComplete : Prop :=
  ∀ (s : State) (p : Path) (i : Nat) (w : Word), i < 65536 → let h := s.mach.hw
    let ran := fun (op : Nat) (m : Mach) => m.hw.fget F.AG_RDSTAT_RESULT 0 = 0 ∧ m.hw.fget F.AG_RDCMD_IDX 0 = i ∧
      m.hw.fget F.AG_RDCMD_OP 0 = op
    let stat := [(F.AG_RDCMD_IDX, 0), (F.AG_RDCMD_OP, 0), (F.AG_RDSTAT_RESULT, 0)]
    let data := [(F.AG_RDDATA0_VAL, 0), (F.AG_RDDATA1_VAL, 0), (F.AG_RDDATA2_VAL, 0), (F.AG_RDDATA3_VAL, 0)]
    let d := stagedDesc h
    (h.flag F.AG_RDSTAT_BUSY 0 = false →
      Completes (.agRdcmdNop p i) s (fun m => ran 0 m ∧ OnlyFields stat s.mach m) ∧
      Completes (.agRdcmdRead p i) s (fun m => ran 1 m ∧ stagedDesc m.hw = h.desc i % 2 ^ 128 ∧
        OnlyFields (stat ++ data) s.mach m) ∧
      (bits d 30 34 ≤ bits d 64 34 → bits d 10 20 = 0 → bits d 98 30 = 0 → Completes (.agRdcmdWrite .turret i) s (fun m =>
        ran 2 m ∧ m.hw.desc i = d ∧ (∀ j, j ≠ i → m.hw.desc j = h.desc j) ∧ m.hw.bd = h.bd ∧ m.hw.out = h.out ∧
        FieldsKept stat s.mach m ∧ m.mem = s.mach.mem)) ∧
      (p ≠ .turret ∨ bits d 64 34 < bits d 30 34 → Completes (.agRdcmdWrite p i) s (fun m =>
        m.hw.fget F.AG_RDSTAT_RESULT 0 = (if p = .turret then 1 else 3) ∧ OnlyFields stat s.mach m))) ∧
    Completes .agVinfoValidClear s (fun m =>
      m.hw.flag F.AG_VINFO_VALID 0 = false ∧ OnlyFields [(F.AG_VINFO_VALID, 0)] s.mach m) ∧
    (bits w.toNat 0 16 + bits w.toNat 16 9 ≤ 65536 → bits w.toNat 16 9 ≤ 256 → Completes (.agSyssetWrite .turret w) s (fun m =>
      m.hw.setOf none = (bits w.toNat 0 16, bits w.toNat 16 9) ∧
      OnlyFields [(F.AG_SYSSET_BASE, 0), (F.AG_SYSSET_CNT, 0)] s.mach m)) ∧
    (p ≠ .turret ∨ (bits w.toNat 16 9 ≤ 256 ∧ 65536 < bits w.toNat 0 16 + bits w.toNat 16 9) → Completes (.agSyssetWrite p w) s (fun m => m = s.mach))

/-- R447, R453, R463, R472, R475, R654: the collector takes the message that its rotation chooses, numbers and counts it, logs
one at or above LOGMIN, and applies the reaction of its domain; a message of another module waits in the remote queue and is
counted there. -/
def Obligations.FaultProcessingCompletes : Prop :=
  ∀ (s : State) (p t : Nat) (x : FMsg), let h := s.mach.hw
    let c := clsOf x
    let n := (h.fc.seq + 1) % 2 ^ 32
    let w := h.fget F.FC_LOGWR_VAL 0
    let y := { x with seq := n, remote := b2n (p == 16) }
    let d := h.dom (128 + t)
    let taken := fun (m : Mach) => m.hw.queue p = [] ∧ m.hw.fc.seq = n ∧ m.hw.fc.rot = (p + 1) % 17
    let counted := fun (m : Mach) => m.hw.fget F.FC_CNT_VAL c = min (h.fget F.FC_CNT_VAL c + 1) (2 ^ 32 - 1)
    let logged := fun (m : Mach) => readLE 0 m.mem.sp (0x400000 + 32 * (w % 1024)) 32 = packFault y ∧
      m.hw.fget F.FC_LOGWR_VAL 0 = (w + 1) % 65536 ∧ m.mem.dome = s.mach.mem.dome ∧ m.mem.flash = s.mach.mem.flash ∧
      (∀ k, k < 0x400000 + 32 * (w % 1024) ∨ 0x400000 + 32 * (w % 1024) + 32 ≤ k →
        Store.getD 0 m.mem.sp k = Store.getD 0 s.mach.mem.sp k)
    (nextQueue h = some p → h.queue p = [x] → h.fc.outside = [] →
      (c = 1 → x.held = 0 → (h.dom (didxOf x.domain x.dinst)).state = 0 → h.fget F.FC_CTRL_FEMIN 0 > 1 →
        h.fget F.FC_ALM_CTRL_ALMMIN 0 > 1 → h.fget F.FC_CTRL_LOGMIN 0 ≤ 1 → h.fget F.FC_CTRL_PERSMIN 0 > 1 → logCount h < 1024 →
        (p < 16 → Completes .faultProcess s (fun m => taken m ∧ counted m ∧ logged m ∧ m.hw.fc.doms = h.fc.doms ∧
          m.hw.out = h.out ∧ FieldsKept [(F.FC_CNT_VAL, 1), (F.FC_LOGWR_VAL, 0)] s.mach m)) ∧
        (p = 16 → Completes .faultProcess s (fun m => taken m ∧ logged m ∧ m.hw.fc.doms = h.fc.doms ∧
          m.hw.fget F.FC_REMCNT_VAL 0 = min (h.fget F.FC_REMCNT_VAL 0 + 1) (2 ^ 32 - 1) ∧ m.hw.out = h.out ∧
          FieldsKept [(F.FC_REMCNT_VAL, 0), (F.FC_LOGWR_VAL, 0)] s.mach m))) ∧
      (p < 16 → c = 2 → x.held = 0 → x.domain = 2 → x.dinst = t → t < 8192 → h.fget F.FC_DCFG_REACT2 2 = 1 → d.state = 0 →
        h.fget F.FC_CTRL_FEMIN 0 > 2 → h.fget F.FC_ALM_CTRL_ALMMIN 0 > 2 → h.fget F.FC_CTRL_LOGMIN 0 > 2 →
        actingMaster h = h.sid → Completes .faultProcess s (fun m => taken m ∧ counted m ∧
          m.hw.dom (128 + t) = { d with state := 1, applied := 1, timer := true, expired := false, contain := true } ∧
          m.hw.out = h.out ∧ FieldsKept [(F.FC_CNT_VAL, 2)] s.mach m ∧ m.mem = s.mach.mem))) ∧
    ((h.queue 16).length < 8 → Completes (.remoteFaultReceive x) s (fun m =>
      m = s.mach.onHw (fun h => h.setQueue 16 (h.queue 16 ++ [x]))))

/-- R456, R458, R465 to R467, R470, R473, R480: a TENANT domain whose quiet timer expires returns to OK, or is LATCHED at its
LIMIT, and waits for a reset that it has applied and that still runs; RELEASE, REARM and CLRCNT act on the selected domain; the
capture and the alarm are rearmed; SWLVL and FC_LOGRD take their writes. -/
def Obligations.FaultControlsComplete : Prop :=
  ∀ (s : State) (t d rd : Nat) (level : Bool), t < 8192 → let h := s.mach.hw
    let x := h.dom (128 + t)
    let one := fun (g : Nat) (y : Dom) (m : Mach) => m.hw.dom g = y ∧ (∀ j, j ≠ g → m.hw.dom j = h.dom j) ∧
      m.hw.regs = h.regs ∧ m.hw.out = h.out ∧ m.mem = s.mach.mem
    (x.state = 1 → x.timer = true →
      (x.reset = false ∨ ttState (h.ent t) ∉ [3, 4, 5] → (h.queue 2).length < 8 →
        (h.fget F.FC_DCFG_LIMIT 2 = 0 → Completes (.quietTimerExpiry (128 + t)) s (fun m =>
          (m.hw.dom (128 + t)).state = 0 ∧ (m.hw.dom (128 + t)).applied = 0 ∧ (m.hw.dom (128 + t)).contain = false ∧
          (m.hw.dom (128 + t)).rcnt = min (x.rcnt + 1) 255 ∧ Gained 2 0x0201 2 t s.mach m ∧ m.hw.regs = h.regs ∧
          m.mem = s.mach.mem)) ∧
        (h.fget F.FC_DCFG_LIMIT 2 = 1 → Completes (.quietTimerExpiry (128 + t)) s (fun m =>
          (m.hw.dom (128 + t)).state = 2 ∧ (m.hw.dom (128 + t)).contain = true ∧
          (m.hw.dom (128 + t)).rcnt = min (x.rcnt + 1) 255 ∧ Gained 2 0x0202 2 t s.mach m ∧ m.hw.regs = h.regs ∧
          m.mem = s.mach.mem))) ∧
      (x.reset = true → ttState (h.ent t) ∈ [3, 4, 5] → Completes (.quietTimerExpiry (128 + t)) s
        (one (128 + t) { x with timer := false, expired := true }))) ∧
    (selDom h = some d →
      ((h.dom d).state = 2 → domOf d = 2 → Completes .fcDcmdRelease s
        (one d { h.dom d with state := 0, applied := 0, wcnt := 0, contain := false })) ∧
      ((h.dom d).state ≠ 2 → Completes .fcDcmdRelease s (fun m => m = s.mach)) ∧
      Completes .fcDcmdRearm s (one d { h.dom d with fev := false }) ∧
      Completes .fcDcmdClrcnt s (one d { h.dom d with rcnt := 0 })) ∧
    Completes .fcFestatValidClear s (fun m =>
      m.hw.flag F.FC_FESTAT_VALID 0 = false ∧ OnlyFields [(F.FC_FESTAT_VALID, 0)] s.mach m) ∧
    Completes .fcAlmArm s (fun m => m.hw.flag F.FC_ALM_CTRL_ARMED 0 = true ∧ OnlyFields [(F.FC_ALM_CTRL_ARMED, 0)] s.mach m) ∧
    Completes (.fcAlmSwlvlWrite level) s (fun m => m.hw.flag F.FC_ALM_CTRL_SWLVL 0 = level ∧
      FieldsKept [(F.FC_ALM_CTRL_SWLVL, 0)] s.mach m ∧ m.hw.fc = h.fc ∧ m.mem = s.mach.mem) ∧
    (rd < 65536 → h.fget F.FC_LOGRD_VAL 0 < 65536 → (rd + 65536 - h.fget F.FC_LOGRD_VAL 0) % 65536 ≤ logCount h →
      Completes (.fcLogrdWrite rd) s (fun m => m.hw.fget F.FC_LOGRD_VAL 0 = rd ∧ OnlyFields [(F.FC_LOGRD_VAL, 0)] s.mach m))

/-! ### Standby, resets and temperatures (R495 to R506, R634 to R637) -/

/-- R495, R496, R503, R504, R621: STANDBY is entered when its conditions hold, or a wake event stops the entry at a step
boundary; a wake from STANDBY starts with its reason and is counted, and an event of an UNUSED port, or of a Spire port with EN
= 0, wakes nothing; temperatures are kept with their flags, a flag change is reported, and a thermal trip takes the fabric
side's supplies away. -/
def Obligations.PowerAndThermalCommandsComplete : Prop :=
  ∀ (s : State) (p : Path) (why : WakeWhy) (n temp : Nat), let h := s.mach.hw
    let woken := fun (c : Nat) (m : Mach) => m.hw.fget F.CK_PWRSTAT_STATE 0 = 6 ∧ m.hw.fget F.CK_PWRSTAT_WAKEWHY 0 = c
    let wake := [(F.CK_PWRSTAT_STATE, 0), (F.CK_PWRSTAT_WAKEWHY, 0)]
    let counted := fun (c : Nat) (m : Mach) => woken c m ∧
      m.hw.fget F.CK_WAKECNT_VAL 0 = min (h.fget F.CK_WAKECNT_VAL 0 + 1) (2 ^ 32 - 1) ∧
      OnlyFields (wake ++ [(F.CK_WAKECNT_VAL, 0)]) s.mach m
    let t : Int := if temp % 4096 < 2048 then (temp % 4096 : Nat) else ((temp % 4096 : Nat) : Int) - 4096
    let flags := (h.flag F.CK_TSEN_WARN n, h.flag F.CK_TSEN_CRIT n)
    let r := (thermFlag flags.1 (h.fget F.CK_THCFG_TFPWARN 0) t, thermFlag flags.2 (h.fget F.CK_THCFG_TFPCRIT 0) t)
    let sensor := [(F.CK_TSEN_TEMP, n), (F.CK_TSEN_VALID, n), (F.CK_TSEN_WARN, n), (F.CK_TSEN_CRIT, n)]
    (standbyReady h = true →
      Completes (.standbyEntry none) s (fun m => m.hw.fget F.CK_PWRSTAT_STATE 0 = 2 ∧ m.hw.flag F.SW_CTRL_HALT 0 = true ∧
        m.hw.dd.selfRefresh = true ∧ m.hw.ck.asleep = true ∧ FieldsKept [(F.CK_PWRSTAT_STATE, 0), (F.SW_CTRL_HALT, 0)] s.mach m ∧ m.mem.stored = s.mach.mem.stored ∧ m.mem.rows = [] ∧
        statShow m.hw = .greenBlink) ∧
      (wakes h why = true → Completes (.standbyEntry (some (1, why))) s (fun m => woken (wakeCode why) m ∧ m.hw.flag F.SW_CTRL_HALT 0 = true ∧
        OnlyFields (wake ++ [(F.SW_CTRL_HALT, 0)]) s.mach m))) ∧
    (h.fget F.CK_PWRSTAT_STATE 0 = 2 → (wakes h why = true → Completes (.standbyWake why) s (counted (wakeCode why))) ∧
      (wakes h why = false → Completes (.standbyWake why) s (fun m => m = s.mach)) ∧
      (p = .turret ∨ p = .barrier → Completes (.ckPwrcmdWake p) s (counted 6))) ∧
    (n ≤ 3 → Completes (.thermalSensorReading n temp true) s (fun m => m.hw.fget F.CK_TSEN_TEMP n = temp % 4096 ∧
      m.hw.flag F.CK_TSEN_VALID n = true ∧ m.hw.flag F.CK_TSEN_WARN n = r.1 ∧ m.hw.flag F.CK_TSEN_CRIT n = r.2 ∧
      m.hw.out = (if r = flags then h.out else .pldm (0x100 + n) r.1 r.2 :: h.out) ∧ FieldsKept sensor s.mach m ∧
      m.mem = s.mach.mem)) ∧
    (7 ≤ n → n ≤ 30 → Completes (.thermalSensorReading n temp false) s (fun m =>
      (∀ f ∈ [F.CK_TSEN_TEMP, F.CK_TSEN_VALID, F.CK_TSEN_WARN, F.CK_TSEN_CRIT], m.hw.fget f n = 0) ∧
      OnlyFields sensor s.mach m)) ∧
    (h.ck.on = true → Completes .tfpThermalTrip s (fun m => m.hw.ck.trip = true ∧ m.hw.ck.on = false ∧
      m.hw.out = .suppliesOff :: h.out ∧ m.hw.otp = h.otp ∧ m.mem = { Mem.reset with flash := s.mach.mem.flash } ∧
      m.hw.wt = { h.wt with bar := BarEnd.down, regPend := false }))

/-- R497 to R500, R505, R506: the watchdog and a loss of clock lock ask for a module reset; CK_RSTCMD asks for a module or
fabric reset with its cause, and resets a port, a tenant, a channel, a Spire port or an engine; a path that may not, and a
command while BUSY, change RESULT alone. -/
def Obligations.ResetRequestsComplete : Prop :=
  ∀ (s : State) (p : Path) (i r : Nat) (j : DmJob), let h := s.mach.hw
    let asked := fun (cause : Nat) (m : Mach) => m.hw.ck = { h.ck with modReq := some cause }
    let cmd := [(F.CK_RSTCMD_SCOPE, 0), (F.CK_RSTCMD_INST, 0), (F.CK_RSTSTAT_RESULT, 0)]
    let ran := fun (scope inst : Nat) (m : Mach) => m.hw.fget F.CK_RSTCMD_SCOPE 0 = scope ∧ m.hw.fget F.CK_RSTCMD_INST 0 = inst ∧
      m.hw.fget F.CK_RSTSTAT_RESULT 0 = 0
    let zero := fun (fs : List Fld) (m : Mach) => ∀ f ∈ fs, m.hw.fget f i = 0
    let portF := [F.FP_TRNCNT_VAL, F.FP_DOWNCNT_VAL, F.FP_CRCERR_VAL, F.FP_FECCORR_VAL, F.FP_IDEFAIL_VAL]
    let chF := [F.DD_CECNT_VAL, F.DD_UECNT_VAL, F.DD_POISRD_VAL, F.DD_WRDROP_VAL, F.DD_SCRDROP_VAL, F.DD_LATE_VAL,
      F.DD_SCRPOS_LO_VAL, F.DD_SCRPOS_HI_VAL]
    let slF := [F.SL_CRCERR_VAL, F.SL_LRETRY_VAL, F.SL_PDELAY_VAL, F.SL_PSTAT_PEER, F.SL_PSTAT_TXPS, F.SL_PSTAT_RXPS]
    let engF := [F.DM_ENGSTAT_BUSY, F.DM_ENGSTAT_RING, F.DM_ENGSTAT_PRIO]
    let at_ := fun (fs : List Fld) => fs.map (fun f => (f, i))
    (h.ck.on = true → h.ck.modReq = none →
      Completes .watchdogExpiry s (fun m => m = s.mach.onHw (fun h => { h with ck := { h.ck with modReq := some 2 } })) ∧
      Completes .clockLockLoss s (fun m =>
        m = s.mach.onHw (fun h => { h with ck := { h.ck with modReq := some 3, unlocked := true } }))) ∧
    (ckMaster p = true → h.flag F.CK_RSTSTAT_BUSY 0 = false →
      (h.ck.modReq = none → Completes (.ckRstcmdModule p) s (fun m => ran 0 0 m ∧ asked 4 m ∧
        m.hw.flag F.CK_RSTSTAT_BUSY 0 = true ∧ FieldsKept (cmd ++ [(F.CK_RSTSTAT_BUSY, 0)]) s.mach m ∧ m.mem = s.mach.mem)) ∧
      (h.ck.fabReq = none → Completes (.ckRstcmdFabric p) s (fun m => ran 1 0 m ∧
        m.hw.ck = { h.ck with fabReq := some 3 } ∧ m.hw.flag F.CK_RSTSTAT_BUSY 0 = true ∧
        FieldsKept (cmd ++ [(F.CK_RSTSTAT_BUSY, 0)]) s.mach m ∧ m.mem = s.mach.mem)) ∧
      (widerRuns h = false →
        (i < 72 → h.role i = 2 →
          (h.flag F.FP_LSTAT_UP i = false → Store.get? h.fp.stay i = none → Completes (.ckRstcmdPort p i) s (fun m =>
            ran 2 i m ∧ zero portF m ∧ OnlyFields (cmd ++ at_ portF) s.mach m)) ∧
          (h.flag F.FP_LSTAT_UP i = true → h.noMessages → Completes (.ckRstcmdPort p i) s (fun m =>
            ran 2 i m ∧ zero portF m ∧ m.hw.flag F.FP_LSTAT_UP i = false ∧ m.hw.fget F.FP_LSTAT_DOWNWHY i = 9 ∧
            m.mem = s.mach.mem))) ∧
        (i < 8192 → ttState (h.ent i) = 2 → Completes (.ckRstcmdTenant p i) s (fun m => ran 3 i m ∧
          ttState (m.hw.ent i) = 3 ∧ (m.hw.seq i).map TSeq.unbind = some false ∧ m.hw.ck = { h.ck with running := some i } ∧
          m.hw.flag F.CK_RSTSTAT_BUSY 0 = true ∧ (∀ u, u ≠ i → m.hw.ent u = h.ent u) ∧
          FieldsKept (cmd ++ [(F.CK_RSTSTAT_BUSY, 0)]) s.mach m ∧ m.mem = s.mach.mem)) ∧
        (i < 12 → h.fget F.DD_CHSTAT_STATE i ≠ 0 → Completes (.ckRstcmdChannel p i) s (fun m => ran 4 i m ∧ zero chF m ∧
          Store.getD [] m.hw.dd.ueTimes i = [] ∧ FieldsKept (cmd ++ at_ chF) s.mach m ∧ m.mem = s.mach.mem)) ∧
        (i < 4 → h.slUp i = false → (h.slPort i).retry = false → h.fget F.SL_PSTAT_STATE i ≠ 4 →
          Completes (.ckRstcmdSpire p i) s (fun m => ran 5 i m ∧
          zero slF m ∧ m.hw.fget F.SL_PSTAT_DOWNWHY i = 7 ∧ m.hw.slPort i = { SlPort.fresh with fails := (h.slPort i).fails } ∧
          m.hw.fget F.SL_PSTAT_STATE i =
            b2n (h.flag F.SL_PCFG_EN i && !h.flag F.SL_STKSTAT_SIDERR 0 && !h.contained (didxOf domSpire i)) ∧
          FieldsKept (cmd ++ at_ slF ++ [(F.SL_PSTAT_DOWNWHY, i), (F.SL_PSTAT_STATE, i)]) s.mach m ∧ m.mem = s.mach.mem)) ∧
        (i < 8 →
          (h.ringOn i = none → Completes (.ckRstcmdEngine p i) s (fun m => ran 6 i m ∧ zero engF m ∧
            OnlyFields (cmd ++ at_ engF) s.mach m)) ∧
          (h.ringOn i = some (r, j) → r < 1024 → j.mig = none → j.abort = false → Completes (.ckRstcmdEngine p i) s (fun m => ran 6 i m ∧
            zero engF m ∧ m.hw.flag F.DM_RSTAT_PREEMPTED r = true ∧
            (Store.get? m.hw.dm.jobs r).map (fun x => (x.eng, x.doneB, x.desc)) = some (none, j.doneB, j.desc) ∧
            FieldsKept (cmd ++ at_ engF ++ [(F.DM_RSTAT_PREEMPTED, r)]) s.mach m ∧ m.mem = s.mach.mem))))) ∧
    (∀ c ∈ ([.ckRstcmdModule p, .ckRstcmdFabric p, .ckRstcmdPort p i, .ckRstcmdTenant p i, .ckRstcmdChannel p i, .ckRstcmdSpire p i,
        .ckRstcmdEngine p i] : List Instr),
      (ckMaster p = false → Completes c s (fun m =>
        m.hw.fget F.CK_RSTSTAT_RESULT 0 = 3 ∧ OnlyFields [(F.CK_RSTSTAT_RESULT, 0)] s.mach m)) ∧
      (ckMaster p = true → h.flag F.CK_RSTSTAT_BUSY 0 = true → Completes c s (fun m =>
        m.hw.fget F.CK_RSTSTAT_RESULT 0 = 2 ∧ OnlyFields [(F.CK_RSTSTAT_RESULT, 0)] s.mach m)))

/-! ### Debug and test (R640 to R651) -/

/-- R640, R641: each instruction of the TAP is taken and answered: EXTEST drives the boundary register in HOLD at level 2 and
else acts as BYPASS with IRERR, a preload loads it and a sample captures a free value, IDCODE and TAP_STATUS shift out their
registers, and a reserved instruction acts as BYPASS with IRERR. -/
def Obligations.TapInstructionsComplete : Prop :=
  ∀ (s : State) (data instr : Nat), let h := s.mach.hw
    let as := fun (d : DtState) (o : List Emit) (m : Mach) => m.hw.dt = d ∧ m.hw.out = o ++ h.out ∧ FieldsKept [] s.mach m ∧
      m.mem = s.mach.mem
    let refused := fun (ir : Nat) (m : Mach) => m.hw.dt = { h.dt with ir := ir } ∧ m.hw.out = .tdo 1 0 :: h.out ∧
      m.hw.flag F.DT_DBGSTAT_IRERR 0 = true ∧ FieldsKept [(F.DT_DBGSTAT_IRERR, 0)] s.mach m ∧ m.mem = s.mach.mem
    Completes .testLogicReset s (as { h.dt with ir := 2 } []) ∧
    (h.inHold = true → h.fget F.DT_DBGSTAT_LEVEL 0 = 2 →
      Completes (.extest data) s (as { h.dt with ir := 0, bsr := data } [.boundary data])) ∧
    (h.inHold = false ∨ h.fget F.DT_DBGSTAT_LEVEL 0 ≠ 2 → Completes (.extest data) s (refused 0)) ∧
    Completes (.samplePreload false data) s (as { h.dt with ir := 1, bsr := data } []) ∧
    Completes (.samplePreload true data) s (fun m => as { h.dt with ir := 1, bsr := Config.freeNat h.free }
      [.tdo 0 (Config.freeNat h.free)] m ∧ m.hw.free = h.free + 1) ∧
    Completes .idcode s (as { h.dt with ir := 2 } [.tdo 32 (h.fget F.DT_IDCODE_VAL 0)]) ∧
    Completes .tapStatus s (as { h.dt with ir := 0x11 } [.tdo 32 (regWord R.DT_DBGSTAT 0 h)]) ∧
    (instr % 256 = 0xFF → Completes (.bypass instr) s (as { h.dt with ir := 0xFF } [.tdo 1 0])) ∧
    (instr % 256 ∉ [0x00, 0x01, 0x02, 0x10, 0x11, 0x12, 0x13, 0xFF] → Completes (.bypass instr) s (refused (instr % 256)))

/-- R644 to R647: CHALLENGE answers the serial number and a fresh nonce, RESPONSE starts a verification that uses the nonce up,
a verification raises the level or counts a failure toward the lockout, a lockout ends, and RELOCK returns to level 0. That a
change of level judges the test selections again is the model's choice (log entry 121). -/
def Obligations.UnlockCommandsComplete : Prop :=
  ∀ (s : State) (data n t : Nat) (v : DtVerify), let h := s.mach.hw
    let serial := h.fget F.ID_SERIAL_HI_VAL 0 * 2 ^ 32 + h.fget F.ID_SERIAL_LO_VAL 0
    let nonce := Config.freeNat h.free % 2 ^ 256
    let level := bits v.bits 0 2
    let fails := h.dt.fails.filter (fun t => decide (h.ck.recNs ≤ t + unlockWindow)) ++ [h.ck.recNs]
    let stat := [(F.DT_DBGSTAT_LEVEL, 0), (F.DT_DBGSTAT_KEYCLASS, 0), (F.DT_DBGSTAT_VERIFY, 0)]
    let sels := (List.range 8).map (fun i => (F.DT_TMUXSEL_SELERR, i))
    let judged := fun (lv : Nat) (m : Mach) => FieldsKept (stat ++ sels) s.mach m ∧
      ((∀ i, i < 8 → h.fget F.DT_TMUXSEL_SIG i = 0) → m.hw.out = h.out) ∧
      ∀ i, i < 8 → (h.fget F.DT_TMUXSEL_SIG i = 0 → m.hw.fget F.DT_TMUXSEL_SELERR i = h.fget F.DT_TMUXSEL_SELERR i) ∧
        (h.fget F.DT_TMUXSEL_SIG i ≠ 0 → ∀ k,
          (tmuxSig (h.fget F.DT_TMUXSEL_SIG i) = some (k, none) →
            m.hw.flag F.DT_TMUXSEL_SELERR i = !decide (k ≤ lv)) ∧
          (∀ c, tmuxSig (h.fget F.DT_TMUXSEL_SIG i) = some (k, some c) →
            m.hw.flag F.DT_TMUXSEL_SELERR i = !decide (k ≤ lv ∧ h.tmuxInst i < c)))
    (h.flag F.DT_DBGSTAT_LOCKOUT 0 = false →
      Completes .challenge s (fun m => m.hw.out = .tdo 320 (serial * 2 ^ 256 + nonce) :: h.out ∧
        m.hw.dt = { h.dt with ir := 0x12, nonce := some (nonce, h.ck.recNs), verify := none } ∧ m.hw.free = h.free + 1 ∧
        m.hw.flag F.DT_DBGSTAT_VERIFY 0 = false ∧ FieldsKept [(F.DT_DBGSTAT_VERIFY, 0)] s.mach m ∧ m.mem = s.mach.mem) ∧
      (h.flag F.DT_DBGSTAT_VERIFY 0 = false →
        (h.dt.nonce = some (n, t) → h.ck.recNs ≤ t + unlockWindow → Completes (.response data) s (fun m =>
          m.hw.dt = { h.dt with ir := 0x13, nonce := none, verify := some ⟨some n, data % 2 ^ 1032⟩ } ∧
          m.hw.flag F.DT_DBGSTAT_VERIFY 0 = true ∧ FieldsKept [(F.DT_DBGSTAT_VERIFY, 0)] s.mach m ∧ m.hw.out = h.out ∧
          m.mem = s.mach.mem)) ∧
        (h.dt.nonce = some (n, t) → t + unlockWindow < h.ck.recNs → Completes (.response data) s (fun m =>
          m.hw.dt = { h.dt with ir := 0x13, nonce := none, verify := some ⟨none, data % 2 ^ 1032⟩ } ∧
          m.hw.flag F.DT_DBGSTAT_VERIFY 0 = true ∧ m.mem = s.mach.mem)))) ∧
    (h.flag F.DT_DBGSTAT_LOCKOUT 0 = true →
      Completes .challenge s (fun m => m = s.mach.onHw (fun h => { h with dt := { h.dt with ir := 0x12 } }.emit (.tdo 320 0))) ∧
      Completes (.response data) s (fun m => m = s.mach.onHw (fun h => { h with dt := { h.dt with ir := 0x13 } })) ∧
      Completes .unlockLockoutEnd s (fun m => m.hw.flag F.DT_DBGSTAT_LOCKOUT 0 = false ∧ m.hw.dt = { h.dt with fails := [] } ∧
        FieldsKept [(F.DT_DBGSTAT_LOCKOUT, 0)] s.mach m ∧ m.mem = s.mach.mem)) ∧
    (h.dt.verify = some v →
      (unlockPasses h v = true → Completes .unlockVerifyEnd s (fun m => m.hw.fget F.DT_DBGSTAT_LEVEL 0 = level ∧
        m.hw.fget F.DT_DBGSTAT_KEYCLASS 0 = (if bits v.bits 2 3 = 0 then 1 else 2) ∧ m.hw.dt = { h.dt with verify := none } ∧
        m.hw.flag F.DT_DBGSTAT_VERIFY 0 = false ∧ judged level m ∧ m.mem = s.mach.mem)) ∧
      (unlockPasses h v = false → (h.queue 14).length < 8 → Completes .unlockVerifyEnd s (fun m =>
        m.hw.dt = { h.dt with verify := none, fails := fails } ∧ Gained 14 0x0E01 0 0 s.mach m ∧
        m.hw.fget F.DT_DBGSTAT_LOCKOUT 0 = (if 3 ≤ fails.length then 1 else h.fget F.DT_DBGSTAT_LOCKOUT 0) ∧
        m.hw.fget F.DT_UNLFAIL_VAL 0 = min (h.fget F.DT_UNLFAIL_VAL 0 + 1) (2 ^ 32 - 1) ∧
        m.hw.fget F.DT_DBGSTAT_LEVEL 0 = h.fget F.DT_DBGSTAT_LEVEL 0 ∧ m.mem = s.mach.mem))) ∧
    Completes .relock s (fun m => (∀ x ∈ stat, m.hw.fget x.1 x.2 = 0) ∧ m.hw.dt = { h.dt with verify := none } ∧
      judged 0 m ∧ m.mem = s.mach.mem)

/-- R649 to R651: a test output follows a selection that the level allows and is low with SELERR otherwise; DT_DIRSEL brings a
directory entry at level 2; the self-test starts in HOLD and ends with the map of the targets that failed. -/
def Obligations.DebugAccessesComplete : Prop :=
  ∀ (s : State) (p : Path) (n k failed t : Nat) (w : Word), let h := s.mach.hw
    let v := w.toNat
    let sig := bits v 0 8
    let inst := bits v 22 2 * 2 ^ 11 + bits v 11 11
    let e := dirAt h (bits v 0 5) (bits v 8 14) (bits v 24 4)
    let sel := [(F.DT_DIRSEL_SLICE, 0), (F.DT_DIRSEL_SET, 0), (F.DT_DIRSEL_WAY, 0), (F.DT_DIRDATA_LO_VAL, 0),
      (F.DT_DIRDATA_HI_VAL, 0)]
    let bist := [(F.DT_BISTCMD_TARGET, 0), (F.DT_BISTSTAT_BUSY, 0), (F.DT_BISTSTAT_RESULT, 0), (F.DT_BISTSTAT_FAILMAP, 0)]
    let tmux := fun (err : Bool) (m : Mach) => m.hw.flag F.DT_TMUXSEL_SELERR n = err ∧ m.hw.out = .tmux n sig inst err :: h.out ∧
      m.hw.fget F.DT_TMUXSEL_SIG n = sig ∧ (err = true → m.hw.tmuxShow n = some false) ∧
      (err = false → sig = 7 → m.hw.tmuxShow n = some (h.flag F.FP_LSTAT_UP inst)) ∧ FieldsKept (R.DT_TMUXSEL.flds.map (fun f => (f, n))) s.mach m ∧ m.mem = s.mach.mem
    (n < 8 →
      (tmuxSig sig = some (k, none) → Completes (.dtTmuxselWrite n w) s (tmux (!decide (k ≤ h.level)))) ∧
      (tmuxSig sig = some (k, some t) →
        Completes (.dtTmuxselWrite n w) s (tmux (!decide (k ≤ h.level ∧ inst < t)))) ∧
      (13 < sig → Completes (.dtTmuxselWrite n w) s (tmux true))) ∧
    (h.level = 2 → bits v 0 5 ≤ 16 → bitAt h.dt.spoiled 2 = false → Completes (.dtDirselWrite w) s (fun m =>
      m.hw.fget F.DT_DIRDATA_LO_VAL 0 = e % 2 ^ 32 ∧ m.hw.fget F.DT_DIRDATA_HI_VAL 0 = e / 2 ^ 32 % 2 ^ 32 ∧
      OnlyFields sel s.mach m)) ∧
    (h.level ≠ 2 ∨ 16 < bits v 0 5 → Completes (.dtDirselWrite w) s (fun m =>
      m.hw.fget F.DT_DIRDATA_LO_VAL 0 = 0 ∧ m.hw.fget F.DT_DIRDATA_HI_VAL 0 = 0 ∧ m.hw.flag F.DT_DBGSTAT_IRERR 0 = true ∧
      OnlyFields (sel ++ [(F.DT_DBGSTAT_IRERR, 0)]) s.mach m)) ∧
    (t < 16 →
      (h.inHold = true → p = .turret ∨ (p = .debug ∧ 1 ≤ h.level) → h.flag F.DT_BISTSTAT_BUSY 0 = false →
        Completes (.dtBistcmdGo p t) s (fun m => m.hw.flag F.DT_BISTSTAT_BUSY 0 = true ∧
          m.hw.fget F.DT_BISTSTAT_RESULT 0 = 0 ∧ m.hw.fget F.DT_BISTSTAT_FAILMAP 0 = 0 ∧ m.hw.dt.bist = some t ∧
          m.hw.dt.spoiled = Nat.lor h.dt.spoiled t ∧ FieldsKept bist s.mach m ∧ m.mem = s.mach.mem)) ∧
      (h.inHold = false ∨ h.flag F.DT_BISTSTAT_BUSY 0 = true → Completes (.dtBistcmdGo p t) s (fun m =>
        m.hw.fget F.DT_BISTSTAT_RESULT 0 = 2 ∧ OnlyFields [(F.DT_BISTCMD_TARGET, 0), (F.DT_BISTSTAT_RESULT, 0)] s.mach m))) ∧
    (h.dt.bist = some t → t < 64 → Completes (.bistEnd failed) s (fun m =>
      m.hw.dt.bist = none ∧ m.hw.flag F.DT_BISTSTAT_BUSY 0 = false ∧ m.hw.fget F.DT_BISTSTAT_FAILMAP 0 = Nat.land failed t ∧
      m.hw.fget F.DT_BISTSTAT_RESULT 0 = (if Nat.land failed t = 0 then 0 else 1) ∧
      FieldsKept [(F.DT_BISTSTAT_BUSY, 0), (F.DT_BISTSTAT_RESULT, 0), (F.DT_BISTSTAT_FAILMAP, 0)] s.mach m ∧
      m.mem = s.mach.mem))

/-! ### The barrier channel (R533 to R540) -/

/-- R538, R539: an end synchronises and says HELLO, repeats it while none has come, and is UP once it has sent and received one;
a loss of synchronisation takes the link down; an end that slept wakes when its receiver is synchronised again, and SLEEP
silences Watchtower's end. -/
def Obligations.BarrierLinkCommandsComplete : Prop :=
  ∀ (s : State) (fab : Bool) (payload : List Byte), let h := s.mach.hw
    let e := h.barEnd fab
    let hello : Emit := .barrier (!fab) 0x01 0 [1, 0, BitVec.ofNat 8 (b2n fab), 0]
    let set := fun (x : BarEnd) (o : List Emit) (m : Mach) =>
      m.hw.barEnd fab = x ∧ m.hw.barEnd (!fab) = h.barEnd (!fab) ∧ m.hw.out = o ++ h.out ∧ m.hw.regs = h.regs ∧ m.mem = s.mach.mem
    let lvl : List Byte := [BitVec.ofNat 8 (h.fget F.FC_ALM_CTRL_SWLVL 0)]
    (e.sync = true → e.up = false → payload.length = 4 →
      (e.hsent = false → Completes (.hello fab true payload) s (set { e with hgot := true } [])) ∧
      (fab = true → e.hsent = true → e.asleep = false → h.bc.setcfg = none → h.bc.alarms = [] →
        Completes (.hello fab true payload) s (fun m =>
          m.hw.bc.fab = { e with hgot := true, up := true, tx := 1, rx := 0, unacked := [⟨0, 0x21, lvl, 1⟩], wait := [] } ∧
          m.hw.out = .barrier false 0x21 0 lvl :: h.out ∧ m.hw.flag F.BC_STAT_LINK 0 = true ∧
          FieldsKept [(F.BC_STAT_LINK, 0)] s.mach m ∧ m.hw.wt = h.wt ∧ m.mem = s.mach.mem)) ∧
      (fab = false → e.hsent = true → Completes (.hello fab true payload) s (fun m => m.hw.wt.bar.up = true ∧
        m.hw.wt.bar.rx = 0 ∧ m.hw.bc = h.bc ∧ m.hw.regs = h.regs ∧ m.mem = s.mach.mem)) ∧
      (e.hgot = false → Completes (.helloRepeat fab) s (set { e with hsent := true } [hello]))) ∧
    (e.sync = false → e.up = false → Completes (.barrierSync fab) s (set { BarEnd.down with sync := true, hsent := true } [hello])) ∧
    (e.up = true → e.wait = [] → Completes (.barrierSync fab) s (set { e with sync := true, asleep := false } [])) ∧
    (e.asleep = false → h.bc.fab.up = true → Completes (.barrierLinkDown fab true) s (fun m =>
      m.hw.bc.fab.up = false ∧ m.hw.wt.bar.up = false ∧ (m.hw.barEnd fab).sync = false ∧ m.hw.wt.regPend = false ∧
      m.hw.flag F.BC_STAT_LINK 0 = false ∧
      m.hw.fget F.BC_LINKDN_VAL 0 = min (h.fget F.BC_LINKDN_VAL 0 + 1) (2 ^ 32 - 1) ∧ m.hw.out = h.out ∧
      FieldsKept [(F.BC_STAT_LINK, 0), (F.BC_LINKDN_VAL, 0)] s.mach m ∧ m.mem = s.mach.mem)) ∧
    (h.wt.bar.sync = true → h.wt.bar.up = true → Completes (.sleep true []) s (fun m =>
      m = s.mach.onHw (fun h => { h with wt := { h.wt with bar := { h.wt.bar with asleep := true, sync := false } } })))

/-- R535, R536, R537, R540: an ACK frees the frames it names and an ALARM; a NAK and the 4 ms timeout send the unacknowledged
frame again, a NAK with its counts; ALARM, PWR and STATUS frames repeat. -/
def Obligations.BarrierRepeatsComplete : Prop :=
  ∀ (s : State) (fab : Bool) (q w : Nat) (b : Byte) (f : BFrame) (tel : Telem), let h := s.mach.hw
    let e := h.barEnd fab
    let sent : Emit := .barrier (!fab) f.ftype f.seq f.body
    let set := fun (x : BarEnd) (o : List Emit) (m : Mach) =>
      m.hw.barEnd fab = x ∧ m.hw.barEnd (!fab) = h.barEnd (!fab) ∧ m.hw.out = o ++ h.out ∧ m.mem = s.mach.mem
    let again := { e with unacked := [{ f with sends := f.sends + 1 }] }
    let alarm : Emit := .barrier false 0x20 q [BitVec.ofNat 8 w]
    let pwr : Emit := .barrier true 0x10 0 [BitVec.ofNat 8 (b2n h.wt.pgood + 2 * b2n h.wt.pfw), 0]
    let wt := { h.wt with tel := tel }
    (e.unacked = [f] → e.wait = [] →
      (e.sync = true → f.seq = b.toNat → Completes (.ackFrame fab false true [b, 0]) s (fun m =>
        set { e with unacked := [] } [] m ∧ m.hw.regs = h.regs)) ∧
      (f.sends < 16 →
        (e.sync = true → f.seq ≠ b.toNat → Completes (.ackFrame fab false true [b, 1]) s (fun m => set again [sent] m ∧
          m.hw.fget F.BC_REPEAT_VAL 0 = min (h.fget F.BC_REPEAT_VAL 0 + 1) (2 ^ 32 - 1) ∧
          m.hw.wt.repeats = min (h.wt.repeats + 1) (2 ^ 16 - 1) ∧
          (fab = true → (h.queue 15).length < 8 → Gained 15 0x1F02 0 0 s.mach m))) ∧
        (e.up = true → e.asleep = false → Completes (.barrierResendTimeout fab) s (fun m => set again [sent] m ∧
          m.hw.regs = h.regs)))) ∧
    (h.bc.fab.sync = true → Completes (.ackFrame true true true [b, 0]) s (fun m =>
      m = s.mach.onHw (fun h => { h with bc := { h.bc with alarms := h.bc.alarms.filter (fun a => a.1 != b.toNat) } }))) ∧
    (h.bc.fab.up = true → h.bc.alarms = [(q, w)] → Completes .alarmRepeat s (fun m =>
      m = s.mach.onHw (fun h => { h with out := [alarm, alarm] ++ h.out }))) ∧
    (h.wt.on = true → h.wt.bar.up = true → h.wt.bar.asleep = false →
      Completes .pwrRepeat s (fun m => m = s.mach.onHw (fun h => { h with out := [pwr, pwr] ++ h.out })) ∧
      Completes (.statusRepeat tel) s (fun m =>
        m = s.mach.onHw (fun h => { h with wt := wt, out := .barrier true 0x11 0 (statusBlock wt) :: h.out })))

/-! ### Watchtower (R508 to R532) -/

/-- R511 to R518, R521, R522: feeds, seating and the ramp: Watchtower starts and stops with its feed, debounces the seating
pins, samples SLOT_ID and ramps the gate; a release turns the gate off, a short one counts as a glitch, a long one removes the
module; ON follows a gate that is fully on. -/
def Obligations.WatchtowerStatesComplete : Prop :=
  ∀ (s : State) (b long : Bool) (pins : Nat), let h := s.mach.hw
    let w := h.wt
    let wt := fun (x : WtState) (m : Mach) => { m.hw.wt with bar := w.bar } = { x with bar := w.bar } ∧ m.hw.regs = h.regs ∧
      m.hw.ck = h.ck ∧ m.mem = s.mach.mem
    let feed := fun (v : Bool) (x : WtState) => if b then { x with bOk := v } else { x with aOk := v }
    let ramp := fun (x : WtState) => { x with ws := 2, paused := false, gate := 1 }
    let pfw := fun (x : WtState) => if x.pfw then x else bump 6 { x with pfw := true }
    let fed := w.aOk = true ∨ w.bOk = true
    let pwr := fun (c : Nat) (m : Mach) => w.pfw = false → Emit.barrier true 0x10 0 [BitVec.ofNat 8 (b2n w.pgood + 2), BitVec.ofNat 8 c] ∈ m.hw.out
    (w.on = false → Completes (.feedValidRise b long) s (wt { WtState.off with
      on := true, aOk := !b, bOk := b, cfg := w.cfg, older := w.older, retries := if long then 0 else w.retries,
      latched := w.latched && !long, ws := if w.latched && !long then 5 else 0 })) ∧
    (w.on = true →
      (w.ws ≠ 2 → Completes (.feedValidRise b long) s (wt (feed true w))) ∧
      Completes .seatingAssert s (wt { w with seat1 := true, seat2 := true, rel := false, ws := if w.ws = 0 then 1 else w.ws }) ∧
      (w.ws = 1 → w.seated = true → fed → w.ov = false → w.rel = false → Completes (.debounceComplete pins) s (fun m =>
        wt (ramp (bump 0 { w with slot := pins % 32 })) m ∧ (w.gate ≠ 1 → Emit.gate 1 ∈ m.hw.out))) ∧
      (w.pfw = false → Completes .pfwRise s (fun m => wt (pfw w) m ∧ pwr 2 m)) ∧
      ((if b then w.bOk else w.aOk) = false → w.ws ≠ 2 → Completes (.feedrestore b) s (wt (feed true w)))) ∧
    Completes .watchtowerStop s (fun m => m.hw.ck = CkState.off ∧ m.mem = { Mem.reset with flash := s.mach.mem.flash } ∧
      m.hw.wt = { WtState.off with cfg := w.cfg, older := w.older, retries := w.retries, latched := w.latched }) ∧
    (w.seated = true → w.ws = 3 → Completes (.seatingReleaseBegin b) s (fun m =>
      wt (pfw { w with seat1 := w.seat1 && b, seat2 := w.seat2 && !b, rel := true, gate := 0 }) m ∧ pwr 3 m ∧
      (w.gate ≠ 0 → Emit.gate 0 ∈ m.hw.out))) ∧
    (w.seated = false → Completes (.seatingReleaseBegin b) s
      (wt { w with seat1 := w.seat1 && b, seat2 := w.seat2 && !b })) ∧
    (w.rel = true →
      (w.ws = 3 → fed → w.ov = false → Completes .seatingGlitch s
        (wt (ramp (bump 1 { w with seat1 := true, seat2 := true, rel := false })))) ∧
      (w.ws ≠ 5 → Completes .seatingRemoval s (wt { w with ws := 0, retry := false, ftmr := false, paused := false, gate := 0 })) ∧
      Completes .latchClearRemoval s (wt { w with retries := 0, latched := false, ws := if w.ws = 5 then 0 else w.ws })) ∧
    (w.ws = 2 → w.aOk = false → w.bOk = false → w.paused = false → Completes .rampPause s (fun m =>
      wt (if w.pgood then pfw { w with gate := 0, paused := true } else { w with gate := 0, paused := true }) m ∧
      m.hw.free = h.free + 1)) ∧
    (w.ws = 2 → w.gate = 1 → Completes .gateFullyOn s (fun m => wt { w with ws := 3, gate := 2 } m ∧ Emit.gate 2 ∈ m.hw.out)) ∧
    (w.pfw = true → w.gate = 2 → w.seated = true → Completes .pfwFall s (fun m => wt { w with pfw := false } m ∧
      Emit.barrier true 0x10 0 [BitVec.ofNat 8 (b2n w.pgood), 8] ∈ m.hw.out)) ∧
    ((if b then w.bOk else w.aOk) = true → Completes (.feedloss b) s (wt (bump (4 + b2n b) (feed false w)))) ∧
    (w.ws = 3 → w.pgood = true → Completes .retryCountClear s (wt { w with retries := 0 }))

/-- R512, R515, R518 to R524, R621: the electronic fuse and the converter: a fault shutdown turns the gate off with its cause,
cools down or latches at RLIM, and retries; an overvoltage turns the gate off and holds it off; PGOOD enables the converter and
holds the fabric side in reset, and its disabling takes the fabric side's supplies away. That RAMP ramps again at once after
PGOOD has fallen in ON is the model's reading (log entry 122). -/
def Obligations.WatchtowerFaultsComplete : Prop :=
  ∀ (s : State) (under : Bool), let h := s.mach.hw
    let w := h.wt
    let wt := fun (x : WtState) (m : Mach) => { m.hw.wt with bar := w.bar } = { x with bar := w.bar } ∧ m.hw.regs = h.regs ∧
      m.mem = s.mach.mem
    let pfw := fun (x : WtState) => if x.pfw then x else bump 6 { x with pfw := true }
    let off := fun (x : WtState) => if x.pgood then pfw { x with gate := 0 } else { x with gate := 0 }
    let ramp := fun (x : WtState) => { x with ws := 2, paused := false, gate := 1 }
    let n := min (w.retries + 1) 15
    let lim := bits (w.setting 6) 0 4
    let fed := (w.aOk = true ∨ w.bOk = true) ∧ w.ov = false ∧ w.rel = false
    let dry := !w.aOk && !w.bOk
    let fell : WtState := { pfw w with pgood := false, ws := 2, paused := dry, gate := if w.ov || dry || w.rel then 0 else 1 }
    let down := fun (cause : Nat) (x : WtState) =>
      bump 2 { off x with cause := cause, retries := n, ftmr := false, paused := false }
    let shut := fun (cause : Nat) (x : WtState) => if lim = 0 ∨ n < lim then { down cause x with ws := 4, retry := true }
      else bump 3 { down cause x with ws := 5, latched := true }
    (w.live = true →
      (w.gate ≠ 0 → Completes .currentLimitReached s (fun m => wt { w with ftmr := true } m ∧ m.hw.out = h.out)) ∧
      (w.ftmr = true → Completes .faultTimerExpiry s (wt (shut 1 w))) ∧
      Completes .shortCircuitTrip s (wt (shut 2 w)) ∧
      (w.ws = 2 → w.paused = false → Completes .rampmaxExpiry s (wt (shut 3 w))) ∧
      Completes .passThermalTrip s (wt (shut 4 { w with trip := true }))) ∧
    (w.ws = 4 → w.seated = true → fed →
      (w.trip = false → Completes .retryTimerExpiry s (wt (ramp { w with retry := false }))) ∧
      (w.retry = false → Completes .thermalTripRelease s (wt (ramp { w with trip := false })))) ∧
    (w.on = true → w.ov = false →
      (w.live = true → Completes .feedOvervoltage s (wt { off { w with ov := true } with ws := 2 })) ∧
      (w.live = false → Completes .feedOvervoltage s (wt { w with ov := true }))) ∧
    (w.ov = true → w.ws = 2 → w.aOk = true ∨ w.bOk = true → w.rel = false →
      Completes .overvoltageClear s (wt (ramp { w with ov := false }))) ∧
    (w.gate = 2 → w.pgood = false → h.ck.on = false → Completes .pgoodRise s (fun m =>
      wt { w with pgood := true, conv := true, ftmr := false, swlvl := false, swNext := none } m ∧
      m.hw.ck = { CkState.off with on := true, por := true } ∧ Emit.converter true ∈ m.hw.out ∧
      (w.on = true → w.ws ≠ 5 → pwrShow m.hw.wt = .greenOn))) ∧
    (w.pgood = true → under = false → w.gate = 2 → Completes (.pgoodFall under) s (fun m => wt w m ∧ m.hw.out = h.out)) ∧
    (w.pgood = true → under = true ∨ w.gate ≠ 2 → Completes (.pgoodFall under) s (fun m =>
      (w.ws = 3 → wt fell m) ∧
      (w.ws ≠ 3 → wt { pfw w with pgood := false } m) ∧
      Emit.barrier true 0x10 0 [2, if under then 6 else 7] ∈ m.hw.out)) ∧
    (w.conv = true → w.pgood = false → Completes .converterDisable s (fun m => Emit.converter false ∈ m.hw.out ∧
      m.hw.ck = CkState.off ∧ m.mem = { Mem.reset with flash := s.mach.mem.flash } ∧ m.hw.otp = h.otp ∧
      m.hw.wt = { w with conv := false, bar := BarEnd.down, regPend := false }))

/-- R529 to R532, R540: the chassis management bus writes a packet or a register request, reads the status block and the latest
response, and asks for a reset; Watchtower acts on ALARM, ALMLVL, SETCFG, MCTPOUT and REGRSP frames. -/
def Obligations.WatchtowerBusComplete : Prop :=
  ∀ (s : State) (payload : List Byte) (tel : Telem) (q n i : Nat), let h := s.mach.hw
    let w := h.wt
    let e := w.bar
    let wt := fun (x : WtState) (m : Mach) => { m.hw.wt with bar := e } = { x with bar := e } ∧ m.hw.bc = h.bc ∧ m.mem = s.mach.mem
    let out := fun (o : Emit) (m : Mach) => m = s.mach.onHw (fun h => h.emit o)
    let sent := fun (t : Nat) (body : List Byte) (x : WtState) (m : Mach) =>
      m.hw.wt = { x with bar := { e with unacked := e.unacked ++ [⟨e.tx, t, body, 1⟩], tx := (e.tx + 1) % 256 } } ∧
      m.hw.out = .barrier true t e.tx body :: h.out ∧ m.hw.regs = h.regs ∧ m.mem = s.mach.mem
    let ack : Emit := .barrier true 0 0 [BitVec.ofNat 8 q, 0]
    let taken := fun (m : Mach) => m.hw.wt.bar.rx = (e.rx + 1) % 256 ∧ .barrier true 0 0 [BitVec.ofNat 8 e.rx, 0] ∈ m.hw.out
    (w.on = true →
      (e.up = true → e.asleep = false → e.wait = [] → e.unacked.length < 8 →
        (e.unacked.countP (fun f => f.ftype == 0x14) < 4 → 2 ≤ payload.length → payload.length ≤ 80 →
          Completes (.smbusMctpWrite true payload) s (sent 0x14 payload w)) ∧
        (w.pgood = true → Completes (.smbusResetRequest true 0xA5) s (sent 0x15 [] w)) ∧
        (w.regPend = false → payload.length = 10 →
          Completes (.smbusRegisterRequest true payload) s (sent 0x16 payload { w with regPend := true }))) ∧
      (e.up = false → Completes (.smbusMctpWrite true payload) s (out (.smbNack 0x0F)) ∧
        Completes (.smbusRegisterRequest true payload) s (out (.smbNack 0xF2))) ∧
      Completes (.smbusStatusRead tel) s (fun m => m = s.mach.onHw (fun h =>
        { h with wt := { w with tel := tel } }.emit (.smbRead 0xF0 (statusBlock { w with tel := tel })))) ∧
      Completes .smbusRegisterResponseRead s (out (.smbRead 0xF3 (w.regRsp.getD [0, 0xFF, 0, 0, 0, 0, 0]))) ∧
      Completes .smbusClockLowTimeout s (out .smbRelease)) ∧
    (w.mout = some (payload, n) →
      (n < 3 → Completes .mctpoutRetry s (fun m => m = s.mach.onHw (fun h =>
        { h with wt := { w with mout := some (payload, n + 1) } }.emit (.smbWrite payload)))) ∧
      (3 ≤ n → Completes .mctpoutRetry s (fun m => m = s.mach.onHw (fun h => { h with wt := { w with mout := none } })))) ∧
    (e.sync = true → payload.length = 1 →
      (w.lastAlarm ≠ some q → Completes (.alarm true q payload) s (fun m =>
        wt { w with lastAlarm := some q, pulse := true } m ∧ m.hw.flag F.FC_ALM_CTRL_PULSE 0 = true ∧ ack ∈ m.hw.out ∧
        FieldsKept [(F.FC_ALM_CTRL_PULSE, 0)] s.mach m)) ∧
      (w.lastAlarm = some q → Completes (.alarm true q payload) s (out ack))) ∧
    (w.pulse = true → Completes .alarmPulseEnd s (fun m =>
      wt { w with pulse := false, swlvl := w.swNext.getD w.swlvl, swNext := none } m ∧
      m.hw.flag F.FC_ALM_CTRL_PULSE 0 = false ∧ FieldsKept [(F.FC_ALM_CTRL_PULSE, 0)] s.mach m)) ∧
    (e.sync = true → e.up = true →
      (payload.length = 1 → Completes (.almlvl true e.rx payload) s (fun m => taken m ∧
        wt (if w.pulse then { w with swNext := some (bitAt (byteAt payload 0) 0) }
            else { w with swlvl := bitAt (byteAt payload 0) 0 }) m)) ∧
      (payload.length = 16 →
        (setcfgBad payload = none → Completes (.setcfg true e.rx payload) s (fun m => taken m ∧
          wt { w with cfg := payload, older := w.cfg } m)) ∧
        (setcfgBad payload = some i → Completes (.setcfg true e.rx payload) s (fun m => taken m ∧ wt w m))) ∧
      (2 ≤ payload.length → payload.length ≤ 80 → Completes (.mctpout true e.rx payload) s (fun m => taken m ∧
        wt { w with mout := some (payload, 0) } m ∧ .smbWrite payload ∈ m.hw.out)) ∧
      (payload.length = 7 → Completes (.regrsp true e.rx payload) s (fun m => taken m ∧
        wt { w with regPend := false, regRsp := some payload } m)))

/-- R516, R526, R540 to R543: the fabric end follows PWR and STATUS, acts on EVENT, CFGRPT, MCTPIN and RSTREQ frames in order,
and acknowledges them; PWR with PGOOD 0 holds the fabric side in reset. -/
def Obligations.FabricEndFramesComplete : Prop :=
  ∀ (s : State) (payload : List Byte) (c : Byte), let h := s.mach.hw
    let e := h.bc.fab
    let b := byteAt payload
    let kept := fun (ks : List (Fld × Nat)) (m : Mach) => FieldsKept ks s.mach m ∧ m.mem = s.mach.mem
    let taken := fun (m : Mach) => m.hw.bc.fab.rx = (e.rx + 1) % 256 ∧
      m.hw.out.contains (.barrier false 0 0 [BitVec.ofNat 8 e.rx, 0]) = true
    let pfwcnt := min (h.fget F.BC_PFWCNT_VAL 0 + 1) (2 ^ 32 - 1)
    (e.sync = true →
      (payload.length = 2 → h.ck.on = true → b 1 < 9 →
        (bitAt (b 0) 0 = true → Completes (.pwr true payload) s (fun m => m.hw.flag F.BC_STAT_PGOOD 0 = true ∧
          m.hw.flag F.BC_STAT_PFW 0 = bitAt (b 0) 1 ∧
          m.hw.fget F.BC_PFWCNT_VAL 0 =
            (if bitAt (b 0) 1 && !h.flag F.BC_STAT_PFW 0 then pfwcnt else h.fget F.BC_PFWCNT_VAL 0) ∧
          m.hw.ck = (if h.ck.por then { h.ck with por := false, boot := some 0 } else h.ck) ∧ m.hw.out = h.out ∧
          kept [(F.BC_STAT_PGOOD, 0), (F.BC_STAT_PFW, 0), (F.BC_PFWCNT_VAL, 0)] m)) ∧
        (bitAt (b 0) 0 = false → Completes (.pwr true payload) s (fun m =>
          m.hw.ck = { CkState.off with on := true, por := true } ∧ m.hw.otp = h.otp ∧
          m.mem = { Mem.reset with flash := s.mach.mem.flash } ∧ m.hw.wt = { h.wt with bar := BarEnd.down, regPend := false }))) ∧
      (payload.length = 32 → Completes (.status true payload) s (fun m => m.hw.fget F.BC_WSTAT_VAL 0 = leAt payload 0 4 ∧
        m.hw.fget F.BC_VFEED_VA 0 = leAt payload 4 2 ∧ m.hw.fget F.BC_VFEED_VB 0 = leAt payload 6 2 ∧
        m.hw.fget F.BC_VBUS_VBUS 0 = leAt payload 8 2 ∧ m.hw.fget F.BC_VBUS_IBUS 0 = leAt payload 10 2 ∧
        m.hw.fget F.BC_STAT_WSTATE 0 = b 0 % 8 ∧ m.hw.fget F.BC_STAT_ALM 0 = b 0 / 32 % 2 ∧
        m.hw.fget F.FC_ALM_CTRL_ALM 0 = b 0 / 32 % 2 ∧ m.hw.fget F.BC_STAT_AVALID 0 = b 1 % 2 ∧
        m.hw.fget F.BC_STAT_BVALID 0 = b 1 / 2 % 2 ∧ m.hw.fget F.BC_STAT_SLOTID 0 = b 2 / 4 % 32 ∧
        OnlyFields [(F.BC_WSTAT_VAL, 0), (F.BC_VFEED_VA, 0), (F.BC_VFEED_VB, 0), (F.BC_VBUS_VBUS, 0), (F.BC_VBUS_IBUS, 0),
          (F.BC_STAT_WSTATE, 0), (F.BC_STAT_ALM, 0), (F.FC_ALM_CTRL_ALM, 0), (F.BC_STAT_AVALID, 0), (F.BC_STAT_BVALID, 0),
          (F.BC_STAT_SLOTID, 0)] s.mach m)) ∧
      (e.up = true →
        ((h.queue 15).length < 8 → Completes (.event true e.rx [1, c]) s (fun m => taken m ∧ Gained 15 0x0F01 0 0 s.mach m ∧
          kept [] m)) ∧
        Completes (.event true e.rx [4, c]) s (fun m => taken m ∧ m.hw.flag F.BC_WCFGSTAT_PEND 0 = false ∧
          kept [(F.BC_WCFGSTAT_PEND, 0)] m) ∧
        Completes (.event true e.rx [5, c]) s (fun m => taken m ∧ m.hw.flag F.BC_WCFGSTAT_PEND 0 = false ∧
          m.hw.flag F.BC_WCFGSTAT_REJ 0 = true ∧ m.hw.fget F.BC_WCFGSTAT_REJBYTE 0 = c.toNat ∧
          kept [(F.BC_WCFGSTAT_PEND, 0), (F.BC_WCFGSTAT_REJ, 0), (F.BC_WCFGSTAT_REJBYTE, 0)] m) ∧
        (payload.length = 16 → Completes (.cfgrpt true e.rx payload) s (fun m => taken m ∧ m.hw.bc.report = some payload ∧
          m.hw.flag F.BC_WCFGSTAT_MATCH 0 = (some payload == some (wcfgBlock h)) ∧ kept [(F.BC_WCFGSTAT_MATCH, 0)] m)) ∧
        (2 ≤ payload.length → payload.length ≤ 80 → Completes (.mctpin true e.rx payload) s (fun m => taken m ∧
          m.hw.out.head? = some (.mctpIn payload) ∧ kept [] m)) ∧
        (h.ck.modReq = none → Completes (.rstreq true e.rx []) s (fun m => taken m ∧
          m.hw.ck = { h.ck with modReq := some 5 } ∧ kept [] m))))

/-! ### Start-up, the load engine and attestation (R545 to R579) -/

/-- R547, R559, R561 to R563, R566, R621: start-up with an inconsistent boot control block ends in HOLD with its reason; with a
preferred slot A that is VALID and verifies it ends ACTIVE with that image running. The confirmation of a trial burns the fuses
that the image's flags name; the persistent log takes the entries due. -/
def Obligations.StartUpCompletes : Prop :=
  ∀ (s : State) (pops : List ChPop) (readA readB : Bool) (ms cause : Nat) (b : Bcb) (x : FMsg) (rest : List FMsg), let h := s.mach.hw
    let slot := h.fget F.ID_BOOTSTAT_ACTSLOT 0
    let flags := imgLE s.mach slot 0x24 1
    let logged := fun (left : List FMsg) (m : Mach) => m.hw.fc.persist = left ∧
      m.hw.fget F.ID_PLOGCNT_VAL 0 = (plogAll m).length % 2 ^ F.ID_PLOGCNT_VAL.width ∧ m.mem.dome = s.mach.mem.dome ∧
      m.mem.sp = s.mach.mem.sp ∧ m.hw.out = h.out ∧ FieldsKept [(F.ID_PLOGCNT_VAL, 0), (F.ID_PLOGLOST_VAL, 0)] s.mach m
    (h.ck.boot = some cause → h.flag F.BC_STAT_PFW 0 = false → cause < 16 →
      (bcbRead s.mach = none → Completes (.startUp pops readA readB ms) s (fun m =>
        m.hw.fget F.ID_BOOTSTAT_PHASE 0 = 5 ∧ m.hw.fget F.ID_BOOTSTAT_HOLDWHY 0 = 2 ∧ m.hw.fget F.CK_PWRSTAT_STATE 0 = 4 ∧
        m.hw.fget F.CK_RSTSTAT_MCAUSE 0 = cause ∧ m.hw.flag F.FC_ALM_CTRL_SWLVL 0 = true ∧ m.hw.ck.boot = none ∧ statShow m.hw = .amberBlink ∧
        m.mem = { s.mach.mem with sp := [], spBad := [] })) ∧
      (bcbRead s.mach = some b → b.pref = 0 → b.stateA = 1 → counterBroken s.mach = false → verifySlot s.mach 0 readA = 0 →
        Completes (.startUp pops readA readB ms) s (fun m =>
          m.hw.fget F.ID_BOOTSTAT_PHASE 0 = 4 ∧ m.hw.fget F.CK_PWRSTAT_STATE 0 = 3 ∧ m.hw.flag F.SW_CTRL_HALT 0 = false ∧
          m.hw.fget F.ID_BOOTSTAT_ACTSLOT 0 = 0 ∧ m.hw.flag F.ID_BOOTSTAT_TRIAL 0 = false ∧
          m.hw.fget F.ID_BOOTSTAT_STARTMS 0 = min ms 0xFFFF))) ∧
    (h.fget F.CK_PWRSTAT_STATE 0 = 3 → h.flag F.ID_BOOTSTAT_TRIAL 0 = true → h.flag F.BC_STAT_PFW 0 = false →
      (∀ c ∈ cfgPart s.mach slot, c.keys = []) → Completes .slotConfirmation s (fun m =>
        m.hw.flag F.ID_BOOTSTAT_TRIAL 0 = false ∧
        m.hw.fget (if slot = 0 then F.ID_SLOTSTAT_STATEA else F.ID_SLOTSTAT_STATEB) 0 = 1 ∧
        m.hw.otp = { h.otp with
          fwFuse := if bitAt flags 0 then burnTo h.otp.fwFuse (fwSvn s.mach slot) else h.otp.fwFuse
          cfgFuse := if bitAt flags 1 then burnTo h.otp.cfgFuse (cfgSvn s.mach slot) else h.otp.cfgFuse } ∧
        m.mem.dome = s.mach.mem.dome ∧ m.mem.sp = s.mach.mem.sp ∧ m.hw.out = h.out)) ∧
    (h.flag F.BC_STAT_PFW 0 = false → h.fc.persist = x :: rest →
      Completes .persistLogWrite s (logged rest) ∧ (rest = [] → Completes .persistQueueFlush s (logged [])))

/-- R568 to R572, R577 to R579: a load command that is neither rejected nor denied starts with RESULT OK, BEGIN with an open
session and the slot LOADING, and waits while PFW is 1; its end clears BUSY with the flash written; ACTIVATE with a PENDING slot
asks for the module reset. A command in the wrong state ends with BAD_STATE and from the debug master with DENIED. -/
def Obligations.LoadCommandsComplete : Prop :=
  ∀ (s : State) (p : Path) (b : Bool) (op slot off len : Nat) (buf : List Byte), let h := s.mach.hw
    let i := b2n b
    let o := h.fget F.ID_LDOFF_VAL 0
    let n := h.fget F.ID_LDLEN_VAL 0
    let lenOk := 256 ≤ n ∧ n ≤ 1048576 ∧ n % 256 = 0
    let stateF := fun (k : Nat) => if k = 0 then F.ID_SLOTSTAT_STATEA else F.ID_SLOTSTAT_STATEB
    let started := fun (op : Nat) (m : Mach) => m.hw.ld.run = some (op, i, o, n) ∧ m.hw.flag F.ID_LDSTAT_BUSY 0 = true ∧
      m.hw.fget F.ID_LDSTAT_RESULT 0 = 0
    let cmd := [(F.ID_LDCMD_OP, 0), (F.ID_LDCMD_SLOT, 0), (F.ID_LDSTAT_RESULT, 0)]
    let plain := fun (op : Nat) (m : Mach) => started op m ∧ m.hw.ld.session = h.ld.session ∧
      FieldsKept (cmd ++ [(F.ID_LDSTAT_BUSY, 0), (F.ID_LDSTAT_PFWWAIT, 0)]) s.mach m ∧ m.mem = s.mach.mem ∧ m.hw.out = h.out
    let ended := fun (m : Mach) => m.hw.ld.run = none ∧ m.hw.flag F.ID_LDSTAT_BUSY 0 = false ∧ m.mem.dome = s.mach.mem.dome ∧
      m.hw.out = h.out
    (p ≠ .debug → h.flag F.ID_LDSTAT_BUSY 0 = false →
      Completes (.idLdcmdNop p b) s (fun m => m.hw.fget F.ID_LDSTAT_RESULT 0 = 0 ∧ m.hw.fget F.ID_LDCMD_SLOT 0 = i ∧
        m.hw.fget F.ID_LDCMD_OP 0 = 0 ∧ OnlyFields cmd s.mach m) ∧
      (h.ld.session = some i →
        (lenOk → o % 256 = 0 → o + n ≤ 0x1800000 → Completes (.loadWrite p b) s (fun m => started 2 m ∧
          m.mem.flash = s.mach.mem.flash ∧ m.mem.dome = s.mach.mem.dome)) ∧
        Completes (.loadCommit p b) s (plain 3) ∧ Completes (.loadAbort p b) s (plain 4)) ∧
      (h.ld.session ≠ some i → ∀ c ∈ ([.loadCommit p b, .loadAbort p b] : List Instr), Completes c s (fun m =>
        m.hw.fget F.ID_LDSTAT_RESULT 0 = 4 ∧ OnlyFields cmd s.mach m)) ∧
      (h.ld.session = none → h.ld.fw = none →
        (beginOk i h = true → h.flag F.BC_STAT_PFW 0 = false → Completes (.loadBegin p b) s (fun m => started 1 m ∧
          m.hw.ld.session = some i ∧ m.hw.fget (stateF i) 0 = 5 ∧ m.hw.fget F.SP_RGN_LIMIT 31 = 0x1FF ∧
          m.mem.dome = s.mach.mem.dome ∧ m.mem.sp = s.mach.mem.sp)) ∧
        (lenOk → Completes (.loadPlogread p b) s (plain 7)) ∧
        (h.fget F.ID_SLOTSTAT_STATEA 0 = 2 → h.ck.modReq = none → Completes (.loadActivate p b) s (fun m =>
          m.hw.fget F.ID_LDSTAT_RESULT 0 = 0 ∧ m.hw.ck = { h.ck with modReq := some 4 } ∧ FieldsKept cmd s.mach m ∧
          m.mem = s.mach.mem))) ∧
      (h.inHold = true → h.fget F.ID_BOOTSTAT_HOLDWHY 0 = 3 → Completes (.loadPersistclr p b) s (plain 6))) ∧
    (∀ c ∈ ([.idLdcmdNop .debug b, .loadBegin .debug b, .loadWrite .debug b, .loadCommit .debug b, .loadAbort .debug b,
        .loadActivate .debug b, .loadPersistclr .debug b, .loadPlogread .debug b] : List Instr), Completes c s (fun m =>
      m.hw.fget F.ID_LDSTAT_RESULT 0 = 3 ∧ OnlyFields [(F.ID_LDSTAT_RESULT, 0)] s.mach m)) ∧
    (h.ld.run = some (op, slot, off, len) → h.flag F.ID_LDSTAT_PFWWAIT 0 = true → h.flag F.BC_STAT_PFW 0 = false → op ≠ 1 →
      Completes .loadPfwWaitEnd s (fun m => m.hw.flag F.ID_LDSTAT_PFWWAIT 0 = false ∧
        OnlyFields [(F.ID_LDSTAT_PFWWAIT, 0)] s.mach m)) ∧
    (h.ld.run = some (op, slot, off, len) → h.flag F.ID_LDSTAT_PFWWAIT 0 = false →
      (op = 2 → h.ld.buf = buf → Completes (.loadCommandEnd true true) s (fun m => ended m ∧
        readBytes 0xFF m.mem.flash (slotBase slot + off) buf.length = buf ∧
        (∀ k, k < slotBase slot + off ∨ slotBase slot + off + buf.length ≤ k →
          Store.getD 0xFF m.mem.flash k = Store.getD 0xFF s.mach.mem.flash k) ∧
        FieldsKept [(F.ID_LDSTAT_BUSY, 0)] s.mach m)) ∧
      (op = 1 → Completes (.loadCommandEnd true true) s (fun m => ended m ∧
        (∀ k, slotBase slot ≤ k → k < slotBase slot + 0x1800000 → Store.getD 0xFF m.mem.flash k = 0xFF) ∧
        FieldsKept [(F.ID_LDSTAT_BUSY, 0)] s.mach m)) ∧
      (op = 4 → Completes (.loadCommandEnd true true) s (fun m => ended m ∧ m.hw.ld.session = none ∧
        m.hw.fget (stateF slot) 0 = 0)))

/-- R573 to R576: the CXL firmware update commands and the SPDM requests are answered on their path: the slots and revisions, a
transfer that begins or is aborted, an activation that waits for a cold reset; certificates, measurements, challenges and key
exchanges with fresh nonces, and an unsupported request. -/
def Obligations.FirmwareAndAttestationComplete : Prop :=
  ∀ (s : State) (p : Path) (ep slot off len nonce request : Nat) (online ok : Bool) (fw : FwXfer), let h := s.mach.hw
    let answer := fun (code : Nat) (body : List Nat) (m : Mach) => m.hw.out = .cciRsp p code body :: h.out
    let act := if h.inHold then 0 else h.fget F.ID_BOOTSTAT_ACTSLOT 0 + 1
    let stg := if h.fget F.ID_SLOTSTAT_STATEA 0 = 2 then 1 else if h.fget F.ID_SLOTSTAT_STATEB 0 = 2 then 2 else 0
    let stateF := fun (k : Nat) => if k = 0 then F.ID_SLOTSTAT_STATEA else F.ID_SLOTSTAT_STATEB
    let chain := (serveChain s.mach).1
    let part := (chain.drop off).take len
    let blocks := measBlocks h
    let n := Store.getD 0 h.ld.sessions ep
    let said := fun (code : Nat) (body : List Nat) (m : Mach) => m.hw.out = .spdm ep code body :: h.out ∧ m.hw.regs = h.regs ∧
      m.mem.dome = s.mach.mem.dome ∧ m.mem.sp = s.mach.mem.sp
    let fresh := Config.freeNat h.free % 2 ^ 256
    let sig := Config.sm2Sign (Config.freeNat (h.free + 1) % 2 ^ 256) (Config.freeNat (h.free + 2) % 2 ^ 256)
    (fwPath p h = true →
      Completes (.getFwInfo p) s (fun m => m = s.mach.onHw (fun h =>
        h.emit (.cciRsp p 0 [2, act, stg, fwRevision 0 s.mach, fwRevision 1 s.mach]))) ∧
      (h.ld.session = none → h.ld.run = none → h.flag F.BC_STAT_PFW 0 = false →
        (h.ld.fw = none → slot = 1 ∨ slot = 2 → beginOk (slot - 1) h = true → 128 * off ≤ 0x1800000 →
          Completes (.transferFw p 1 slot off [] ok) s (fun m => answer 0 [] m ∧
            m.hw.ld.fw = some ⟨slot - 1, [], []⟩ ∧ m.hw.fget (stateF (slot - 1)) 0 = 5 ∧
            (∀ k, slotBase (slot - 1) ≤ k → k < slotBase (slot - 1) + 0x1800000 → Store.getD 0xFF m.mem.flash k = 0xFF))) ∧
        (h.ld.fw = some fw → Completes (.transferFw p 4 slot off [] ok) s (fun m => answer 0 [] m ∧
          m.hw.ld.fw = none ∧ m.hw.fget (stateF fw.slot) 0 = 0))) ∧
      Completes (.activateFw p online slot) s (fun m => m = s.mach.onHw (fun h =>
        h.emit (.cciRsp p (if online then 3 else if slot = 1 ∨ slot = 2 then 0 else 11) [])))) ∧
    (spdmUp ep h = true →
      (off < chain.length → Completes (.spdmGetCertificate ep 0 off len) s
        (said 0x02 ([part.length, chain.length - off - part.length] ++ part.map (fun b => b.toNat)))) ∧
      Completes (.spdmChallenge ep 0 nonce) s (fun m => said 0x03 [Config.sm3 chain, fresh, sig] m ∧ m.hw.free = h.free + 3) ∧
      Completes (.spdmGetMeasurements ep 0xFF nonce false) s (said 0x60 (blocks.flatMap (fun b => [b.1, b.2.1, b.2.2]))) ∧
      (h.inHold = false → n < 4 → Completes (.spdmKeyExchange ep 0 nonce) s (fun m => said 0x64 [fresh, sig] m ∧
        Store.getD 0 m.hw.ld.sessions ep = n + 1)) ∧
      (h.inHold = true → Completes (.spdmKeyExchange ep slot nonce) s (said 0x7F [7, 0xE4])) ∧
      Completes (.spdmUnsupportedRequest ep request) s (said 0x7F [7, request]))
end

