-- ==== Sys2Proof/Laws/Bits.lean ====
section
/-! SUPPORT. Bit fields of numbers: what a field reads after it, or another one, is replaced. -/
namespace Sys2Proof.Machine

theorem bits_lt (n lo w : Nat) : bits n lo w < 2 ^ w := Nat.mod_lt _ (Nat.two_pow_pos w)

/-- The bits at and above `lo`, without the field, start at a multiple of the field's end. -/
theorem putBits_eq (n lo w v : Nat) :
    putBits n lo w v = n % 2 ^ lo + 2 ^ lo * (v % 2 ^ w + 2 ^ w * (n / 2 ^ lo / 2 ^ w)) := by
  have h1 := Nat.div_add_mod n (2 ^ lo)
  have h2 := Nat.div_add_mod (n / 2 ^ lo) (2 ^ w)
  have h3 : n = n % 2 ^ lo + 2 ^ lo * (n / 2 ^ lo % 2 ^ w + 2 ^ w * (n / 2 ^ lo / 2 ^ w)) := by
    rw [Nat.add_comm (n / 2 ^ lo % 2 ^ w), h2]
    omega
  unfold putBits bits
  have h4 : n - n / 2 ^ lo % 2 ^ w * 2 ^ lo = n % 2 ^ lo + 2 ^ lo * (2 ^ w * (n / 2 ^ lo / 2 ^ w)) := by
    conv_lhs => lhs; rw [h3]
    rw [Nat.mul_add, Nat.mul_comm (2 ^ lo) (n / 2 ^ lo % 2 ^ w)]
    omega
  rw [h4, Nat.mul_add, Nat.mul_comm (2 ^ lo) (v % 2 ^ w)]
  omega

/-- A field reads what was put into it, cut to its width. -/
theorem bits_putBits_same (n lo w v : Nat) : bits (putBits n lo w v) lo w = v % 2 ^ w := by
  rw [putBits_eq, bits, Nat.add_mul_div_left _ _ (Nat.two_pow_pos lo),
    Nat.div_eq_of_lt (Nat.mod_lt _ (Nat.two_pow_pos lo)), Nat.zero_add, Nat.add_mul_mod_self_left, Nat.mod_mod]

/-- A field below the one replaced reads as before. -/
theorem bits_putBits_below (n lo w v : Nat) {lo' w' : Nat} (h : lo' + w' ≤ lo) :
    bits (putBits n lo w v) lo' w' = bits n lo' w' := by
  obtain ⟨k, rfl⟩ := Nat.exists_eq_add_of_le h
  have key : ∀ x : Nat, bits x lo' w' = bits (x % 2 ^ (lo' + w' + k)) lo' w' := by
    intro x
    unfold bits
    rw [Nat.add_assoc, Nat.pow_add 2 lo', Nat.mod_mul_right_div_self, Nat.pow_add 2 w',
      Nat.mod_mul_right_mod]
  rw [key (putBits n (lo' + w' + k) w v), key n, putBits_eq, Nat.add_mul_mod_self_left, Nat.mod_mod]

/-- A field above the one replaced reads as before. -/
theorem bits_putBits_above (n lo w v : Nat) {lo' w' : Nat} (h : lo + w ≤ lo') :
    bits (putBits n lo w v) lo' w' = bits n lo' w' := by
  obtain ⟨k, rfl⟩ := Nat.exists_eq_add_of_le h
  have key : ∀ x : Nat, bits x (lo + w + k) w' = x / 2 ^ lo / 2 ^ w / 2 ^ k % 2 ^ w' := by
    intro x
    unfold bits
    rw [Nat.pow_add, Nat.pow_add, ← Nat.div_div_eq_div_mul, ← Nat.div_div_eq_div_mul]
  rw [key, key, putBits_eq, Nat.add_mul_div_left _ _ (Nat.two_pow_pos lo),
    Nat.div_eq_of_lt (Nat.mod_lt _ (Nat.two_pow_pos lo)), Nat.zero_add, Nat.add_mul_div_left _ _ (Nat.two_pow_pos w),
    Nat.div_eq_of_lt (Nat.mod_lt _ (Nat.two_pow_pos w)), Nat.zero_add]

end Sys2Proof.Machine
end

