-- ==== Sys2Proof/Laws/State.lean ====
section
/-! SUPPORT. What each named update of the state leaves as it was: one lemma per field per update. -/
namespace Sys2Proof.Machine

@[simp] theorem Mach.onHw_mem (f : Hw → Hw) (m : Mach) : (m.onHw f).mem = m.mem := rfl
@[simp] theorem Mach.onHw_hw (f : Hw → Hw) (m : Mach) : (m.onHw f).hw = f m.hw := rfl


@[simp] theorem Hw.fset_img (h : Hw) (f : Fld) (i v : Nat) : (h.fset f i v).img = h.img := rfl
@[simp] theorem Hw.fset_out (h : Hw) (f : Fld) (i v : Nat) : (h.fset f i v).out = h.out := rfl
@[simp] theorem Hw.fset_free (h : Hw) (f : Fld) (i v : Nat) : (h.fset f i v).free = h.free := rfl
@[simp] theorem Hw.fset_tags (h : Hw) (f : Fld) (i v : Nat) : (h.fset f i v).tags = h.tags := rfl
@[simp] theorem Hw.fset_mg (h : Hw) (f : Fld) (i v : Nat) : (h.fset f i v).mg = h.mg := rfl
@[simp] theorem Hw.fset_sp (h : Hw) (f : Fld) (i v : Nat) : (h.fset f i v).sp = h.sp := rfl
@[simp] theorem Hw.fset_fc (h : Hw) (f : Fld) (i v : Nat) : (h.fset f i v).fc = h.fc := rfl
@[simp] theorem Hw.fset_ck (h : Hw) (f : Fld) (i v : Nat) : (h.fset f i v).ck = h.ck := rfl
@[simp] theorem Hw.fset_dd (h : Hw) (f : Fld) (i v : Nat) : (h.fset f i v).dd = h.dd := rfl
@[simp] theorem Hw.fset_ag (h : Hw) (f : Fld) (i v : Nat) : (h.fset f i v).ag = h.ag := rfl
@[simp] theorem Hw.fset_stime (h : Hw) (f : Fld) (i v : Nat) : (h.fset f i v).stime = h.stime := rfl
@[simp] theorem Hw.fset_bd (h : Hw) (f : Fld) (i v : Nat) : (h.fset f i v).bd = h.bd := rfl
@[simp] theorem Hw.fset_sw (h : Hw) (f : Fld) (i v : Nat) : (h.fset f i v).sw = h.sw := rfl
@[simp] theorem Hw.fset_ts (h : Hw) (f : Fld) (i v : Nat) : (h.fset f i v).ts = h.ts := rfl
@[simp] theorem Hw.fset_fp (h : Hw) (f : Fld) (i v : Nat) : (h.fset f i v).fp = h.fp := rfl
@[simp] theorem Hw.fset_hd (h : Hw) (f : Fld) (i v : Nat) : (h.fset f i v).hd = h.hd := rfl
@[simp] theorem Hw.fset_cu (h : Hw) (f : Fld) (i v : Nat) : (h.fset f i v).cu = h.cu := rfl
@[simp] theorem Hw.fset_dm (h : Hw) (f : Fld) (i v : Nat) : (h.fset f i v).dm = h.dm := rfl
@[simp] theorem Hw.fset_sl (h : Hw) (f : Fld) (i v : Nat) : (h.fset f i v).sl = h.sl := rfl
@[simp] theorem Hw.fset_bc (h : Hw) (f : Fld) (i v : Nat) : (h.fset f i v).bc = h.bc := rfl
@[simp] theorem Hw.fset_wt (h : Hw) (f : Fld) (i v : Nat) : (h.fset f i v).wt = h.wt := rfl
@[simp] theorem Hw.fset_otp (h : Hw) (f : Fld) (i v : Nat) : (h.fset f i v).otp = h.otp := rfl
@[simp] theorem Hw.fset_ld (h : Hw) (f : Fld) (i v : Nat) : (h.fset f i v).ld = h.ld := rfl
@[simp] theorem Hw.fset_dt (h : Hw) (f : Fld) (i v : Nat) : (h.fset f i v).dt = h.dt := rfl

@[simp] theorem Hw.fadd_img (h : Hw) (f : Fld) (i n : Nat) : (h.fadd f i n).img = h.img := rfl
@[simp] theorem Hw.fadd_out (h : Hw) (f : Fld) (i n : Nat) : (h.fadd f i n).out = h.out := rfl
@[simp] theorem Hw.fadd_free (h : Hw) (f : Fld) (i n : Nat) : (h.fadd f i n).free = h.free := rfl
@[simp] theorem Hw.fadd_tags (h : Hw) (f : Fld) (i n : Nat) : (h.fadd f i n).tags = h.tags := rfl
@[simp] theorem Hw.fadd_mg (h : Hw) (f : Fld) (i n : Nat) : (h.fadd f i n).mg = h.mg := rfl
@[simp] theorem Hw.fadd_sp (h : Hw) (f : Fld) (i n : Nat) : (h.fadd f i n).sp = h.sp := rfl
@[simp] theorem Hw.fadd_fc (h : Hw) (f : Fld) (i n : Nat) : (h.fadd f i n).fc = h.fc := rfl
@[simp] theorem Hw.fadd_ck (h : Hw) (f : Fld) (i n : Nat) : (h.fadd f i n).ck = h.ck := rfl
@[simp] theorem Hw.fadd_dd (h : Hw) (f : Fld) (i n : Nat) : (h.fadd f i n).dd = h.dd := rfl
@[simp] theorem Hw.fadd_ag (h : Hw) (f : Fld) (i n : Nat) : (h.fadd f i n).ag = h.ag := rfl
@[simp] theorem Hw.fadd_stime (h : Hw) (f : Fld) (i n : Nat) : (h.fadd f i n).stime = h.stime := rfl
@[simp] theorem Hw.fadd_bd (h : Hw) (f : Fld) (i n : Nat) : (h.fadd f i n).bd = h.bd := rfl
@[simp] theorem Hw.fadd_sw (h : Hw) (f : Fld) (i n : Nat) : (h.fadd f i n).sw = h.sw := rfl
@[simp] theorem Hw.fadd_ts (h : Hw) (f : Fld) (i n : Nat) : (h.fadd f i n).ts = h.ts := rfl
@[simp] theorem Hw.fadd_fp (h : Hw) (f : Fld) (i n : Nat) : (h.fadd f i n).fp = h.fp := rfl
@[simp] theorem Hw.fadd_hd (h : Hw) (f : Fld) (i n : Nat) : (h.fadd f i n).hd = h.hd := rfl
@[simp] theorem Hw.fadd_cu (h : Hw) (f : Fld) (i n : Nat) : (h.fadd f i n).cu = h.cu := rfl
@[simp] theorem Hw.fadd_dm (h : Hw) (f : Fld) (i n : Nat) : (h.fadd f i n).dm = h.dm := rfl
@[simp] theorem Hw.fadd_sl (h : Hw) (f : Fld) (i n : Nat) : (h.fadd f i n).sl = h.sl := rfl
@[simp] theorem Hw.fadd_bc (h : Hw) (f : Fld) (i n : Nat) : (h.fadd f i n).bc = h.bc := rfl
@[simp] theorem Hw.fadd_wt (h : Hw) (f : Fld) (i n : Nat) : (h.fadd f i n).wt = h.wt := rfl
@[simp] theorem Hw.fadd_otp (h : Hw) (f : Fld) (i n : Nat) : (h.fadd f i n).otp = h.otp := rfl
@[simp] theorem Hw.fadd_ld (h : Hw) (f : Fld) (i n : Nat) : (h.fadd f i n).ld = h.ld := rfl
@[simp] theorem Hw.fadd_dt (h : Hw) (f : Fld) (i n : Nat) : (h.fadd f i n).dt = h.dt := rfl

@[simp] theorem Hw.emit_regs (h : Hw) (e : Emit) : (h.emit e).regs = h.regs := rfl
@[simp] theorem Hw.emit_img (h : Hw) (e : Emit) : (h.emit e).img = h.img := rfl
@[simp] theorem Hw.emit_free (h : Hw) (e : Emit) : (h.emit e).free = h.free := rfl
@[simp] theorem Hw.emit_tags (h : Hw) (e : Emit) : (h.emit e).tags = h.tags := rfl
@[simp] theorem Hw.emit_mg (h : Hw) (e : Emit) : (h.emit e).mg = h.mg := rfl
@[simp] theorem Hw.emit_sp (h : Hw) (e : Emit) : (h.emit e).sp = h.sp := rfl
@[simp] theorem Hw.emit_fc (h : Hw) (e : Emit) : (h.emit e).fc = h.fc := rfl
@[simp] theorem Hw.emit_ck (h : Hw) (e : Emit) : (h.emit e).ck = h.ck := rfl
@[simp] theorem Hw.emit_dd (h : Hw) (e : Emit) : (h.emit e).dd = h.dd := rfl
@[simp] theorem Hw.emit_ag (h : Hw) (e : Emit) : (h.emit e).ag = h.ag := rfl
@[simp] theorem Hw.emit_stime (h : Hw) (e : Emit) : (h.emit e).stime = h.stime := rfl
@[simp] theorem Hw.emit_bd (h : Hw) (e : Emit) : (h.emit e).bd = h.bd := rfl
@[simp] theorem Hw.emit_sw (h : Hw) (e : Emit) : (h.emit e).sw = h.sw := rfl
@[simp] theorem Hw.emit_ts (h : Hw) (e : Emit) : (h.emit e).ts = h.ts := rfl
@[simp] theorem Hw.emit_fp (h : Hw) (e : Emit) : (h.emit e).fp = h.fp := rfl
@[simp] theorem Hw.emit_hd (h : Hw) (e : Emit) : (h.emit e).hd = h.hd := rfl
@[simp] theorem Hw.emit_cu (h : Hw) (e : Emit) : (h.emit e).cu = h.cu := rfl
@[simp] theorem Hw.emit_dm (h : Hw) (e : Emit) : (h.emit e).dm = h.dm := rfl
@[simp] theorem Hw.emit_sl (h : Hw) (e : Emit) : (h.emit e).sl = h.sl := rfl
@[simp] theorem Hw.emit_bc (h : Hw) (e : Emit) : (h.emit e).bc = h.bc := rfl
@[simp] theorem Hw.emit_wt (h : Hw) (e : Emit) : (h.emit e).wt = h.wt := rfl
@[simp] theorem Hw.emit_otp (h : Hw) (e : Emit) : (h.emit e).otp = h.otp := rfl
@[simp] theorem Hw.emit_ld (h : Hw) (e : Emit) : (h.emit e).ld = h.ld := rfl
@[simp] theorem Hw.emit_dt (h : Hw) (e : Emit) : (h.emit e).dt = h.dt := rfl

@[simp] theorem Hw.openTag_regs (h : Hw) (b : TagBlk) (t : Nat) : (h.openTag b t).regs = h.regs := rfl
@[simp] theorem Hw.openTag_img (h : Hw) (b : TagBlk) (t : Nat) : (h.openTag b t).img = h.img := rfl
@[simp] theorem Hw.openTag_out (h : Hw) (b : TagBlk) (t : Nat) : (h.openTag b t).out = h.out := rfl
@[simp] theorem Hw.openTag_free (h : Hw) (b : TagBlk) (t : Nat) : (h.openTag b t).free = h.free := rfl
@[simp] theorem Hw.openTag_mg (h : Hw) (b : TagBlk) (t : Nat) : (h.openTag b t).mg = h.mg := rfl
@[simp] theorem Hw.openTag_sp (h : Hw) (b : TagBlk) (t : Nat) : (h.openTag b t).sp = h.sp := rfl
@[simp] theorem Hw.openTag_fc (h : Hw) (b : TagBlk) (t : Nat) : (h.openTag b t).fc = h.fc := rfl
@[simp] theorem Hw.openTag_ck (h : Hw) (b : TagBlk) (t : Nat) : (h.openTag b t).ck = h.ck := rfl
@[simp] theorem Hw.openTag_dd (h : Hw) (b : TagBlk) (t : Nat) : (h.openTag b t).dd = h.dd := rfl
@[simp] theorem Hw.openTag_ag (h : Hw) (b : TagBlk) (t : Nat) : (h.openTag b t).ag = h.ag := rfl
@[simp] theorem Hw.openTag_stime (h : Hw) (b : TagBlk) (t : Nat) : (h.openTag b t).stime = h.stime := rfl
@[simp] theorem Hw.openTag_bd (h : Hw) (b : TagBlk) (t : Nat) : (h.openTag b t).bd = h.bd := rfl
@[simp] theorem Hw.openTag_sw (h : Hw) (b : TagBlk) (t : Nat) : (h.openTag b t).sw = h.sw := rfl
@[simp] theorem Hw.openTag_ts (h : Hw) (b : TagBlk) (t : Nat) : (h.openTag b t).ts = h.ts := rfl
@[simp] theorem Hw.openTag_fp (h : Hw) (b : TagBlk) (t : Nat) : (h.openTag b t).fp = h.fp := rfl
@[simp] theorem Hw.openTag_hd (h : Hw) (b : TagBlk) (t : Nat) : (h.openTag b t).hd = h.hd := rfl
@[simp] theorem Hw.openTag_cu (h : Hw) (b : TagBlk) (t : Nat) : (h.openTag b t).cu = h.cu := rfl
@[simp] theorem Hw.openTag_dm (h : Hw) (b : TagBlk) (t : Nat) : (h.openTag b t).dm = h.dm := rfl
@[simp] theorem Hw.openTag_sl (h : Hw) (b : TagBlk) (t : Nat) : (h.openTag b t).sl = h.sl := rfl
@[simp] theorem Hw.openTag_bc (h : Hw) (b : TagBlk) (t : Nat) : (h.openTag b t).bc = h.bc := rfl
@[simp] theorem Hw.openTag_wt (h : Hw) (b : TagBlk) (t : Nat) : (h.openTag b t).wt = h.wt := rfl
@[simp] theorem Hw.openTag_otp (h : Hw) (b : TagBlk) (t : Nat) : (h.openTag b t).otp = h.otp := rfl
@[simp] theorem Hw.openTag_ld (h : Hw) (b : TagBlk) (t : Nat) : (h.openTag b t).ld = h.ld := rfl
@[simp] theorem Hw.openTag_dt (h : Hw) (b : TagBlk) (t : Nat) : (h.openTag b t).dt = h.dt := rfl

@[simp] theorem Hw.closeTag_regs (h : Hw) (b : TagBlk) (t : Nat) : (h.closeTag b t).regs = h.regs := rfl
@[simp] theorem Hw.closeTag_img (h : Hw) (b : TagBlk) (t : Nat) : (h.closeTag b t).img = h.img := rfl
@[simp] theorem Hw.closeTag_out (h : Hw) (b : TagBlk) (t : Nat) : (h.closeTag b t).out = h.out := rfl
@[simp] theorem Hw.closeTag_free (h : Hw) (b : TagBlk) (t : Nat) : (h.closeTag b t).free = h.free := rfl
@[simp] theorem Hw.closeTag_mg (h : Hw) (b : TagBlk) (t : Nat) : (h.closeTag b t).mg = h.mg := rfl
@[simp] theorem Hw.closeTag_sp (h : Hw) (b : TagBlk) (t : Nat) : (h.closeTag b t).sp = h.sp := rfl
@[simp] theorem Hw.closeTag_fc (h : Hw) (b : TagBlk) (t : Nat) : (h.closeTag b t).fc = h.fc := rfl
@[simp] theorem Hw.closeTag_ck (h : Hw) (b : TagBlk) (t : Nat) : (h.closeTag b t).ck = h.ck := rfl
@[simp] theorem Hw.closeTag_dd (h : Hw) (b : TagBlk) (t : Nat) : (h.closeTag b t).dd = h.dd := rfl
@[simp] theorem Hw.closeTag_ag (h : Hw) (b : TagBlk) (t : Nat) : (h.closeTag b t).ag = h.ag := rfl
@[simp] theorem Hw.closeTag_stime (h : Hw) (b : TagBlk) (t : Nat) : (h.closeTag b t).stime = h.stime := rfl
@[simp] theorem Hw.closeTag_bd (h : Hw) (b : TagBlk) (t : Nat) : (h.closeTag b t).bd = h.bd := rfl
@[simp] theorem Hw.closeTag_sw (h : Hw) (b : TagBlk) (t : Nat) : (h.closeTag b t).sw = h.sw := rfl
@[simp] theorem Hw.closeTag_ts (h : Hw) (b : TagBlk) (t : Nat) : (h.closeTag b t).ts = h.ts := rfl
@[simp] theorem Hw.closeTag_fp (h : Hw) (b : TagBlk) (t : Nat) : (h.closeTag b t).fp = h.fp := rfl
@[simp] theorem Hw.closeTag_hd (h : Hw) (b : TagBlk) (t : Nat) : (h.closeTag b t).hd = h.hd := rfl
@[simp] theorem Hw.closeTag_cu (h : Hw) (b : TagBlk) (t : Nat) : (h.closeTag b t).cu = h.cu := rfl
@[simp] theorem Hw.closeTag_dm (h : Hw) (b : TagBlk) (t : Nat) : (h.closeTag b t).dm = h.dm := rfl
@[simp] theorem Hw.closeTag_sl (h : Hw) (b : TagBlk) (t : Nat) : (h.closeTag b t).sl = h.sl := rfl
@[simp] theorem Hw.closeTag_bc (h : Hw) (b : TagBlk) (t : Nat) : (h.closeTag b t).bc = h.bc := rfl
@[simp] theorem Hw.closeTag_wt (h : Hw) (b : TagBlk) (t : Nat) : (h.closeTag b t).wt = h.wt := rfl
@[simp] theorem Hw.closeTag_otp (h : Hw) (b : TagBlk) (t : Nat) : (h.closeTag b t).otp = h.otp := rfl
@[simp] theorem Hw.closeTag_ld (h : Hw) (b : TagBlk) (t : Nat) : (h.closeTag b t).ld = h.ld := rfl
@[simp] theorem Hw.closeTag_dt (h : Hw) (b : TagBlk) (t : Nat) : (h.closeTag b t).dt = h.dt := rfl

@[simp] theorem Hw.setDom_regs (h : Hw) (d : Nat) (x : Dom) : (h.setDom d x).regs = h.regs := rfl
@[simp] theorem Hw.setDom_img (h : Hw) (d : Nat) (x : Dom) : (h.setDom d x).img = h.img := rfl
@[simp] theorem Hw.setDom_out (h : Hw) (d : Nat) (x : Dom) : (h.setDom d x).out = h.out := rfl
@[simp] theorem Hw.setDom_free (h : Hw) (d : Nat) (x : Dom) : (h.setDom d x).free = h.free := rfl
@[simp] theorem Hw.setDom_tags (h : Hw) (d : Nat) (x : Dom) : (h.setDom d x).tags = h.tags := rfl
@[simp] theorem Hw.setDom_mg (h : Hw) (d : Nat) (x : Dom) : (h.setDom d x).mg = h.mg := rfl
@[simp] theorem Hw.setDom_sp (h : Hw) (d : Nat) (x : Dom) : (h.setDom d x).sp = h.sp := rfl
@[simp] theorem Hw.setDom_ck (h : Hw) (d : Nat) (x : Dom) : (h.setDom d x).ck = h.ck := rfl
@[simp] theorem Hw.setDom_dd (h : Hw) (d : Nat) (x : Dom) : (h.setDom d x).dd = h.dd := rfl
@[simp] theorem Hw.setDom_ag (h : Hw) (d : Nat) (x : Dom) : (h.setDom d x).ag = h.ag := rfl
@[simp] theorem Hw.setDom_stime (h : Hw) (d : Nat) (x : Dom) : (h.setDom d x).stime = h.stime := rfl
@[simp] theorem Hw.setDom_bd (h : Hw) (d : Nat) (x : Dom) : (h.setDom d x).bd = h.bd := rfl
@[simp] theorem Hw.setDom_sw (h : Hw) (d : Nat) (x : Dom) : (h.setDom d x).sw = h.sw := rfl
@[simp] theorem Hw.setDom_ts (h : Hw) (d : Nat) (x : Dom) : (h.setDom d x).ts = h.ts := rfl
@[simp] theorem Hw.setDom_fp (h : Hw) (d : Nat) (x : Dom) : (h.setDom d x).fp = h.fp := rfl
@[simp] theorem Hw.setDom_hd (h : Hw) (d : Nat) (x : Dom) : (h.setDom d x).hd = h.hd := rfl
@[simp] theorem Hw.setDom_cu (h : Hw) (d : Nat) (x : Dom) : (h.setDom d x).cu = h.cu := rfl
@[simp] theorem Hw.setDom_dm (h : Hw) (d : Nat) (x : Dom) : (h.setDom d x).dm = h.dm := rfl
@[simp] theorem Hw.setDom_sl (h : Hw) (d : Nat) (x : Dom) : (h.setDom d x).sl = h.sl := rfl
@[simp] theorem Hw.setDom_bc (h : Hw) (d : Nat) (x : Dom) : (h.setDom d x).bc = h.bc := rfl
@[simp] theorem Hw.setDom_wt (h : Hw) (d : Nat) (x : Dom) : (h.setDom d x).wt = h.wt := rfl
@[simp] theorem Hw.setDom_otp (h : Hw) (d : Nat) (x : Dom) : (h.setDom d x).otp = h.otp := rfl
@[simp] theorem Hw.setDom_ld (h : Hw) (d : Nat) (x : Dom) : (h.setDom d x).ld = h.ld := rfl
@[simp] theorem Hw.setDom_dt (h : Hw) (d : Nat) (x : Dom) : (h.setDom d x).dt = h.dt := rfl

@[simp] theorem Hw.setQueue_regs (h : Hw) (p : Nat) (q : List FMsg) : (h.setQueue p q).regs = h.regs := rfl
@[simp] theorem Hw.setQueue_img (h : Hw) (p : Nat) (q : List FMsg) : (h.setQueue p q).img = h.img := rfl
@[simp] theorem Hw.setQueue_out (h : Hw) (p : Nat) (q : List FMsg) : (h.setQueue p q).out = h.out := rfl
@[simp] theorem Hw.setQueue_free (h : Hw) (p : Nat) (q : List FMsg) : (h.setQueue p q).free = h.free := rfl
@[simp] theorem Hw.setQueue_tags (h : Hw) (p : Nat) (q : List FMsg) : (h.setQueue p q).tags = h.tags := rfl
@[simp] theorem Hw.setQueue_mg (h : Hw) (p : Nat) (q : List FMsg) : (h.setQueue p q).mg = h.mg := rfl
@[simp] theorem Hw.setQueue_sp (h : Hw) (p : Nat) (q : List FMsg) : (h.setQueue p q).sp = h.sp := rfl
@[simp] theorem Hw.setQueue_ck (h : Hw) (p : Nat) (q : List FMsg) : (h.setQueue p q).ck = h.ck := rfl
@[simp] theorem Hw.setQueue_dd (h : Hw) (p : Nat) (q : List FMsg) : (h.setQueue p q).dd = h.dd := rfl
@[simp] theorem Hw.setQueue_ag (h : Hw) (p : Nat) (q : List FMsg) : (h.setQueue p q).ag = h.ag := rfl
@[simp] theorem Hw.setQueue_stime (h : Hw) (p : Nat) (q : List FMsg) : (h.setQueue p q).stime = h.stime := rfl
@[simp] theorem Hw.setQueue_bd (h : Hw) (p : Nat) (q : List FMsg) : (h.setQueue p q).bd = h.bd := rfl
@[simp] theorem Hw.setQueue_sw (h : Hw) (p : Nat) (q : List FMsg) : (h.setQueue p q).sw = h.sw := rfl
@[simp] theorem Hw.setQueue_ts (h : Hw) (p : Nat) (q : List FMsg) : (h.setQueue p q).ts = h.ts := rfl
@[simp] theorem Hw.setQueue_fp (h : Hw) (p : Nat) (q : List FMsg) : (h.setQueue p q).fp = h.fp := rfl
@[simp] theorem Hw.setQueue_hd (h : Hw) (p : Nat) (q : List FMsg) : (h.setQueue p q).hd = h.hd := rfl
@[simp] theorem Hw.setQueue_cu (h : Hw) (p : Nat) (q : List FMsg) : (h.setQueue p q).cu = h.cu := rfl
@[simp] theorem Hw.setQueue_dm (h : Hw) (p : Nat) (q : List FMsg) : (h.setQueue p q).dm = h.dm := rfl
@[simp] theorem Hw.setQueue_sl (h : Hw) (p : Nat) (q : List FMsg) : (h.setQueue p q).sl = h.sl := rfl
@[simp] theorem Hw.setQueue_bc (h : Hw) (p : Nat) (q : List FMsg) : (h.setQueue p q).bc = h.bc := rfl
@[simp] theorem Hw.setQueue_wt (h : Hw) (p : Nat) (q : List FMsg) : (h.setQueue p q).wt = h.wt := rfl
@[simp] theorem Hw.setQueue_otp (h : Hw) (p : Nat) (q : List FMsg) : (h.setQueue p q).otp = h.otp := rfl
@[simp] theorem Hw.setQueue_ld (h : Hw) (p : Nat) (q : List FMsg) : (h.setQueue p q).ld = h.ld := rfl
@[simp] theorem Hw.setQueue_dt (h : Hw) (p : Nat) (q : List FMsg) : (h.setQueue p q).dt = h.dt := rfl

@[simp] theorem Hw.takeFree_regs (h : Hw) : h.takeFree.2.regs = h.regs := rfl
@[simp] theorem Hw.takeFree_free (h : Hw) : h.takeFree.2.free = h.free + 1 := rfl
@[simp] theorem Hw.emit_out (h : Hw) (e : Emit) : (h.emit e).out = e :: h.out := rfl

end Sys2Proof.Machine
end

