-- ==== Sys2Proof/Laws/Store.lean ====
section
/-! SUPPORT. The laws of sparse tables and byte memories: read after write, and that every operation keeps the canonical form. -/
namespace Sys2Proof.Machine.Store

variable {α : Type}

@[simp] theorem get?_nil (k : Nat) : get? ([] : SMap α) k = none := rfl

theorem get?_put_same (m : SMap α) (k : Nat) (v : α) : get? (put m k v) k = some v := by
  induction m with
  | nil => simp [put, get?]
  | cons e r ih =>
    obtain ⟨k', v'⟩ := e
    simp only [put]
    split
    · simp [get?]
    · split
      · simp [get?]
      · rename_i h1 h2
        simp [get?, h2, ih]

theorem get?_put_ne (m : SMap α) {k j : Nat} (v : α) (h : k ≠ j) : get? (put m k v) j = get? m j := by
  induction m with
  | nil => simp [put, get?, h]
  | cons e r ih =>
    obtain ⟨k', v'⟩ := e
    simp only [put]
    split
    · simp [get?, h]
    · split
      · rename_i h1 h2
        subst h2
        simp [get?, h]
      · simp [get?, ih]

theorem get?_del_same (m : SMap α) (k : Nat) : get? (del m k) k = none := by
  induction m with
  | nil => rfl
  | cons e r ih =>
    obtain ⟨k', v'⟩ := e
    simp only [del] at ih
    by_cases h : k' = k
    · rw [del, List.filter_cons_of_neg (by simp [h])]
      exact ih
    · rw [del, List.filter_cons_of_pos (by simp [h]), get?, if_neg h]
      exact ih

theorem get?_del_ne (m : SMap α) {k j : Nat} (h : k ≠ j) : get? (del m k) j = get? m j := by
  induction m with
  | nil => rfl
  | cons e r ih =>
    obtain ⟨k', v'⟩ := e
    simp only [del] at ih
    by_cases h' : k' = k
    · rw [del, List.filter_cons_of_neg (by simp [h']), ih, get?, if_neg (by omega)]
    · rw [del, List.filter_cons_of_pos (by simp [h']), get?, get?, ih]

theorem getD_put_same (d : α) (m : SMap α) (k : Nat) (v : α) : getD d (put m k v) k = v := by
  simp [getD, get?_put_same]

theorem getD_put_ne (d : α) (m : SMap α) {k j : Nat} (v : α) (h : k ≠ j) : getD d (put m k v) j = getD d m j := by
  simp [getD, get?_put_ne m v h]

theorem getD_del_same (d : α) (m : SMap α) (k : Nat) : getD d (del m k) k = d := by
  simp [getD, get?_del_same]

theorem getD_del_ne (d : α) (m : SMap α) {k j : Nat} (h : k ≠ j) : getD d (del m k) j = getD d m j := by
  simp [getD, get?_del_ne m h]

theorem getD_setD_same [DecidableEq α] (d : α) (m : SMap α) (k : Nat) (v : α) : getD d (setD d m k v) k = v := by
  unfold setD
  split
  · rename_i h
    simp [getD, get?_del_same, h]
  · simp [getD, get?_put_same]

theorem getD_setD_ne [DecidableEq α] (d d' : α) (m : SMap α) {k j : Nat} (v : α) (h : k ≠ j) :
    getD d' (setD d m k v) j = getD d' m j := by
  unfold setD
  split
  · simp [getD, get?_del_ne m h]
  · simp [getD, get?_put_ne m v h]

theorem getD_setD [DecidableEq α] (d : α) (m : SMap α) (k j : Nat) (v : α) :
    getD d (setD d m k v) j = if k = j then v else getD d m j := by
  split
  · rename_i h
    subst h
    exact getD_setD_same d m k v
  · rename_i h
    exact getD_setD_ne d d m v h

/-! ### The canonical form -/

theorem sortedFrom_mono {a b : Nat} (h : a ≤ b) {m : SMap α} (hs : sortedFrom b m = true) : sortedFrom a m = true := by
  cases m with
  | nil => rfl
  | cons e r =>
    obtain ⟨k, v⟩ := e
    simp only [sortedFrom, Bool.and_eq_true, decide_eq_true_eq] at *
    exact ⟨by omega, hs.2⟩

theorem sortedFrom_put {m : SMap α} {lo k : Nat} (v : α) (hk : lo ≤ k) (hs : sortedFrom lo m = true) :
    sortedFrom lo (put m k v) = true := by
  induction m generalizing lo with
  | nil => simp [put, sortedFrom, hk]
  | cons e r ih =>
    obtain ⟨k', v'⟩ := e
    simp only [sortedFrom, Bool.and_eq_true, decide_eq_true_eq] at hs
    simp only [put]
    split
    · simp only [sortedFrom, Bool.and_eq_true, decide_eq_true_eq]
      exact ⟨hk, by omega, hs.2⟩
    · split
      · rename_i h1 h2
        subst h2
        simp only [sortedFrom, Bool.and_eq_true, decide_eq_true_eq]
        exact hs
      · simp only [sortedFrom, Bool.and_eq_true, decide_eq_true_eq]
        exact ⟨hs.1, ih (by omega) hs.2⟩

theorem sortedFrom_filter {m : SMap α} {lo : Nat} (p : Nat × α → Bool) (hs : sortedFrom lo m = true) :
    sortedFrom lo (m.filter p) = true := by
  induction m generalizing lo with
  | nil => rfl
  | cons e r ih =>
    obtain ⟨k', v'⟩ := e
    simp only [sortedFrom, Bool.and_eq_true, decide_eq_true_eq] at hs
    by_cases h : p (k', v') = true
    · simp only [List.filter_cons, h, if_true, sortedFrom, Bool.and_eq_true, decide_eq_true_eq]
      exact ⟨hs.1, ih hs.2⟩
    · simp only [List.filter_cons, h]
      exact sortedFrom_mono (by omega) (ih hs.2)

theorem sorted_put {m : SMap α} (k : Nat) (v : α) (hs : sorted m = true) : sorted (put m k v) = true :=
  sortedFrom_put v (Nat.zero_le k) hs

theorem sorted_del {m : SMap α} (k : Nat) (hs : sorted m = true) : sorted (del m k) = true := sortedFrom_filter _ hs

theorem mem_put {m : SMap α} {k : Nat} {v : α} {e : Nat × α} (h : e ∈ put m k v) : e = (k, v) ∨ e ∈ m := by
  induction m with
  | nil => simpa [put] using h
  | cons x r ih =>
    obtain ⟨k', v'⟩ := x
    simp only [put] at h
    split at h
    · simpa using h
    · split at h
      · simp only [List.mem_cons] at h ⊢
        tauto
      · simp only [List.mem_cons] at h ⊢
        rcases h with h | h
        · tauto
        · rcases ih h with h | h <;> tauto

variable [DecidableEq α]

@[simp] theorem wf_nil (d : α) : wf d ([] : SMap α) = true := rfl

theorem wf_filter {d : α} {m : SMap α} (p : Nat × α → Bool) (h : wf d m = true) : wf d (m.filter p) = true := by
  simp only [wf, Bool.and_eq_true, List.all_eq_true] at *
  exact ⟨sortedFrom_filter p h.1, fun e he => h.2 e (List.mem_filter.mp he).1⟩

theorem wf_del {d : α} {m : SMap α} (k : Nat) (h : wf d m = true) : wf d (del m k) = true := wf_filter _ h

theorem wf_dropWhere {d : α} {m : SMap α} (p : Nat → Bool) (h : wf d m = true) : wf d (dropWhere m p) = true :=
  wf_filter _ h

theorem wf_setD {d : α} {m : SMap α} (k : Nat) (v : α) (h : wf d m = true) : wf d (setD d m k v) = true := by
  unfold setD
  split
  · exact wf_del k h
  · rename_i hv
    simp only [wf, Bool.and_eq_true, List.all_eq_true] at *
    refine ⟨sorted_put k v h.1, fun e he => ?_⟩
    rcases mem_put he with rfl | he
    · simpa using hv
    · exact h.2 e he

end Sys2Proof.Machine.Store
namespace Sys2Proof.Machine

/-! ### Byte memories -/

open Store

theorem wf_writeLE {d : Byte} {m : SMap Byte} (a v n : Nat) (h : wf d m = true) : wf d (writeLE d m a v n) = true := by
  induction n generalizing m a v with
  | zero => exact h
  | succ n ih => exact ih _ _ (wf_setD a _ h)

theorem wf_writeEn {d : Byte} {m : SMap Byte} (a v en n : Nat) (h : wf d m = true) : wf d (writeEn d m a v en n) = true := by
  induction n generalizing m a v en with
  | zero => exact h
  | succ n ih =>
    unfold writeEn
    split
    · exact ih _ _ _ (wf_setD a _ h)
    · exact ih _ _ _ h

theorem wf_writeBytes {d : Byte} {m : SMap Byte} (a : Nat) (bs : List Byte) (h : wf d m = true) :
    wf d (writeBytes d m a bs) = true := by
  induction bs generalizing m a with
  | nil => exact h
  | cons b r ih => exact ih _ (wf_setD a b h)

/-- A write leaves every byte outside its range as it was. -/
theorem getD_writeLE_outside (d : Byte) (m : SMap Byte) {a v n k : Nat} (h : k < a ∨ a + n ≤ k) :
    getD d (writeLE d m a v n) k = getD d m k := by
  induction n generalizing m a v with
  | zero => rfl
  | succ n ih =>
    simp only [writeLE]
    rw [ih _ (by omega), getD_setD_ne d d m _ (by omega)]

/-- A write leaves a range that it does not touch as it was. -/
theorem readLE_congr (d : Byte) {m m' : SMap Byte} {a n : Nat} (h : ∀ k, a ≤ k → k < a + n → getD d m k = getD d m' k) :
    readLE d m a n = readLE d m' a n := by
  induction n generalizing a with
  | zero => rfl
  | succ n ih =>
    simp only [readLE]
    rw [h a (Nat.le_refl a) (by omega), ih (fun k h1 h2 => h k (by omega) (by omega))]

/-- What a write has stored reads back. -/
theorem readLE_writeLE (d : Byte) (m : SMap Byte) (a v n : Nat) : readLE d (writeLE d m a v n) a n = v % 256 ^ n := by
  induction n generalizing m a v with
  | zero => simp [readLE, Nat.mod_one]
  | succ n ih =>
    simp only [readLE, writeLE]
    rw [getD_writeLE_outside d _ (by omega), getD_setD_same, ih]
    have h : (BitVec.ofNat 8 v).toNat = v % 256 := by simp
    rw [h, Nat.pow_succ, Nat.mul_comm (256 ^ n) 256, Nat.mod_mul]

end Sys2Proof.Machine
end

