-- ==== Sys2Proof/Laws/Blocks.lean ====
section
/-! SUPPORT. What the named updates of the home's, the Cupola's, the data mover's and the switch core's tables leave as it was, and what
each table reads after its update. -/
namespace Sys2Proof.Machine

@[simp] theorem Hw.setTxn_regs (h : Hw) (k : Nat) (t : HTxn) : (h.setTxn k t).regs = h.regs := rfl
@[simp] theorem Hw.setTxn_img (h : Hw) (k : Nat) (t : HTxn) : (h.setTxn k t).img = h.img := rfl
@[simp] theorem Hw.setTxn_out (h : Hw) (k : Nat) (t : HTxn) : (h.setTxn k t).out = h.out := rfl
@[simp] theorem Hw.setTxn_free (h : Hw) (k : Nat) (t : HTxn) : (h.setTxn k t).free = h.free := rfl
@[simp] theorem Hw.setTxn_tags (h : Hw) (k : Nat) (t : HTxn) : (h.setTxn k t).tags = h.tags := rfl
@[simp] theorem Hw.setTxn_mg (h : Hw) (k : Nat) (t : HTxn) : (h.setTxn k t).mg = h.mg := rfl
@[simp] theorem Hw.setTxn_sp (h : Hw) (k : Nat) (t : HTxn) : (h.setTxn k t).sp = h.sp := rfl
@[simp] theorem Hw.setTxn_fc (h : Hw) (k : Nat) (t : HTxn) : (h.setTxn k t).fc = h.fc := rfl
@[simp] theorem Hw.setTxn_ck (h : Hw) (k : Nat) (t : HTxn) : (h.setTxn k t).ck = h.ck := rfl
@[simp] theorem Hw.setTxn_dd (h : Hw) (k : Nat) (t : HTxn) : (h.setTxn k t).dd = h.dd := rfl
@[simp] theorem Hw.setTxn_ag (h : Hw) (k : Nat) (t : HTxn) : (h.setTxn k t).ag = h.ag := rfl
@[simp] theorem Hw.setTxn_stime (h : Hw) (k : Nat) (t : HTxn) : (h.setTxn k t).stime = h.stime := rfl
@[simp] theorem Hw.setTxn_bd (h : Hw) (k : Nat) (t : HTxn) : (h.setTxn k t).bd = h.bd := rfl
@[simp] theorem Hw.setTxn_sw (h : Hw) (k : Nat) (t : HTxn) : (h.setTxn k t).sw = h.sw := rfl
@[simp] theorem Hw.setTxn_ts (h : Hw) (k : Nat) (t : HTxn) : (h.setTxn k t).ts = h.ts := rfl
@[simp] theorem Hw.setTxn_fp (h : Hw) (k : Nat) (t : HTxn) : (h.setTxn k t).fp = h.fp := rfl
@[simp] theorem Hw.setTxn_cu (h : Hw) (k : Nat) (t : HTxn) : (h.setTxn k t).cu = h.cu := rfl
@[simp] theorem Hw.setTxn_dm (h : Hw) (k : Nat) (t : HTxn) : (h.setTxn k t).dm = h.dm := rfl
@[simp] theorem Hw.setTxn_sl (h : Hw) (k : Nat) (t : HTxn) : (h.setTxn k t).sl = h.sl := rfl
@[simp] theorem Hw.setTxn_bc (h : Hw) (k : Nat) (t : HTxn) : (h.setTxn k t).bc = h.bc := rfl
@[simp] theorem Hw.setTxn_wt (h : Hw) (k : Nat) (t : HTxn) : (h.setTxn k t).wt = h.wt := rfl
@[simp] theorem Hw.setTxn_otp (h : Hw) (k : Nat) (t : HTxn) : (h.setTxn k t).otp = h.otp := rfl
@[simp] theorem Hw.setTxn_ld (h : Hw) (k : Nat) (t : HTxn) : (h.setTxn k t).ld = h.ld := rfl
@[simp] theorem Hw.setTxn_dt (h : Hw) (k : Nat) (t : HTxn) : (h.setTxn k t).dt = h.dt := rfl
@[simp] theorem Hw.setTxn_hd_dir (h : Hw) (k : Nat) (t : HTxn) : (h.setTxn k t).hd.dir = h.hd.dir := rfl
@[simp] theorem Hw.setTxn_hd_retry (h : Hw) (k : Nat) (t : HTxn) : (h.setTxn k t).hd.retry = h.hd.retry := rfl
@[simp] theorem Hw.setTxn_hd_rel (h : Hw) (k : Nat) (t : HTxn) : (h.setTxn k t).hd.rel = h.hd.rel := rfl
@[simp] theorem Hw.setTxn_hd_held (h : Hw) (k : Nat) (t : HTxn) : (h.setTxn k t).hd.held = h.hd.held := rfl
@[simp] theorem Hw.setTxn_hd_locks (h : Hw) (k : Nat) (t : HTxn) : (h.setTxn k t).hd.locks = h.hd.locks := rfl
@[simp] theorem Hw.setTxn_hd_next (h : Hw) (k : Nat) (t : HTxn) : (h.setTxn k t).hd.next = h.hd.next := rfl
@[simp] theorem Hw.setTxn_hd_arb (h : Hw) (k : Nat) (t : HTxn) : (h.setTxn k t).hd.arb = h.hd.arb := rfl
@[simp] theorem Hw.setTxn_hd_contest (h : Hw) (k : Nat) (t : HTxn) : (h.setTxn k t).hd.contest = h.hd.contest := rfl
@[simp] theorem Hw.setTxn_hd_aHold (h : Hw) (k : Nat) (t : HTxn) : (h.setTxn k t).hd.aHold = h.hd.aHold := rfl
@[simp] theorem Hw.setTxn_hd_failing (h : Hw) (k : Nat) (t : HTxn) : (h.setTxn k t).hd.failing = h.hd.failing := rfl
@[simp] theorem Hw.setTxn_hd_rbPos (h : Hw) (k : Nat) (t : HTxn) : (h.setTxn k t).hd.rbPos = h.hd.rbPos := rfl
@[simp] theorem Hw.setTxn_hd_rbDead (h : Hw) (k : Nat) (t : HTxn) : (h.setTxn k t).hd.rbDead = h.hd.rbDead := rfl
@[simp] theorem Hw.setTxn_hd_dead (h : Hw) (k : Nat) (t : HTxn) : (h.setTxn k t).hd.dead = h.hd.dead := rfl
@[simp] theorem Hw.setTxn_hd_walk (h : Hw) (k : Nat) (t : HTxn) : (h.setTxn k t).hd.walk = h.hd.walk := rfl
@[simp] theorem Hw.setTxn_hd_fences (h : Hw) (k : Nat) (t : HTxn) : (h.setTxn k t).hd.fences = h.hd.fences := rfl
@[simp] theorem Hw.setTxn_hd_io (h : Hw) (k : Nat) (t : HTxn) : (h.setTxn k t).hd.io = h.hd.io := rfl

@[simp] theorem Hw.setDir_regs (h : Hw) (a : Nat) (e : DirEnt) : (h.setDir a e).regs = h.regs := rfl
@[simp] theorem Hw.setDir_img (h : Hw) (a : Nat) (e : DirEnt) : (h.setDir a e).img = h.img := rfl
@[simp] theorem Hw.setDir_out (h : Hw) (a : Nat) (e : DirEnt) : (h.setDir a e).out = h.out := rfl
@[simp] theorem Hw.setDir_free (h : Hw) (a : Nat) (e : DirEnt) : (h.setDir a e).free = h.free := rfl
@[simp] theorem Hw.setDir_tags (h : Hw) (a : Nat) (e : DirEnt) : (h.setDir a e).tags = h.tags := rfl
@[simp] theorem Hw.setDir_mg (h : Hw) (a : Nat) (e : DirEnt) : (h.setDir a e).mg = h.mg := rfl
@[simp] theorem Hw.setDir_sp (h : Hw) (a : Nat) (e : DirEnt) : (h.setDir a e).sp = h.sp := rfl
@[simp] theorem Hw.setDir_fc (h : Hw) (a : Nat) (e : DirEnt) : (h.setDir a e).fc = h.fc := rfl
@[simp] theorem Hw.setDir_ck (h : Hw) (a : Nat) (e : DirEnt) : (h.setDir a e).ck = h.ck := rfl
@[simp] theorem Hw.setDir_dd (h : Hw) (a : Nat) (e : DirEnt) : (h.setDir a e).dd = h.dd := rfl
@[simp] theorem Hw.setDir_ag (h : Hw) (a : Nat) (e : DirEnt) : (h.setDir a e).ag = h.ag := rfl
@[simp] theorem Hw.setDir_stime (h : Hw) (a : Nat) (e : DirEnt) : (h.setDir a e).stime = h.stime := rfl
@[simp] theorem Hw.setDir_bd (h : Hw) (a : Nat) (e : DirEnt) : (h.setDir a e).bd = h.bd := rfl
@[simp] theorem Hw.setDir_sw (h : Hw) (a : Nat) (e : DirEnt) : (h.setDir a e).sw = h.sw := rfl
@[simp] theorem Hw.setDir_ts (h : Hw) (a : Nat) (e : DirEnt) : (h.setDir a e).ts = h.ts := rfl
@[simp] theorem Hw.setDir_fp (h : Hw) (a : Nat) (e : DirEnt) : (h.setDir a e).fp = h.fp := rfl
@[simp] theorem Hw.setDir_cu (h : Hw) (a : Nat) (e : DirEnt) : (h.setDir a e).cu = h.cu := rfl
@[simp] theorem Hw.setDir_dm (h : Hw) (a : Nat) (e : DirEnt) : (h.setDir a e).dm = h.dm := rfl
@[simp] theorem Hw.setDir_sl (h : Hw) (a : Nat) (e : DirEnt) : (h.setDir a e).sl = h.sl := rfl
@[simp] theorem Hw.setDir_bc (h : Hw) (a : Nat) (e : DirEnt) : (h.setDir a e).bc = h.bc := rfl
@[simp] theorem Hw.setDir_wt (h : Hw) (a : Nat) (e : DirEnt) : (h.setDir a e).wt = h.wt := rfl
@[simp] theorem Hw.setDir_otp (h : Hw) (a : Nat) (e : DirEnt) : (h.setDir a e).otp = h.otp := rfl
@[simp] theorem Hw.setDir_ld (h : Hw) (a : Nat) (e : DirEnt) : (h.setDir a e).ld = h.ld := rfl
@[simp] theorem Hw.setDir_dt (h : Hw) (a : Nat) (e : DirEnt) : (h.setDir a e).dt = h.dt := rfl
@[simp] theorem Hw.setDir_hd_txns (h : Hw) (a : Nat) (e : DirEnt) : (h.setDir a e).hd.txns = h.hd.txns := rfl
@[simp] theorem Hw.setDir_hd_retry (h : Hw) (a : Nat) (e : DirEnt) : (h.setDir a e).hd.retry = h.hd.retry := rfl
@[simp] theorem Hw.setDir_hd_rel (h : Hw) (a : Nat) (e : DirEnt) : (h.setDir a e).hd.rel = h.hd.rel := rfl
@[simp] theorem Hw.setDir_hd_held (h : Hw) (a : Nat) (e : DirEnt) : (h.setDir a e).hd.held = h.hd.held := rfl
@[simp] theorem Hw.setDir_hd_locks (h : Hw) (a : Nat) (e : DirEnt) : (h.setDir a e).hd.locks = h.hd.locks := rfl
@[simp] theorem Hw.setDir_hd_next (h : Hw) (a : Nat) (e : DirEnt) : (h.setDir a e).hd.next = h.hd.next := rfl
@[simp] theorem Hw.setDir_hd_arb (h : Hw) (a : Nat) (e : DirEnt) : (h.setDir a e).hd.arb = h.hd.arb := rfl
@[simp] theorem Hw.setDir_hd_contest (h : Hw) (a : Nat) (e : DirEnt) : (h.setDir a e).hd.contest = h.hd.contest := rfl
@[simp] theorem Hw.setDir_hd_aHold (h : Hw) (a : Nat) (e : DirEnt) : (h.setDir a e).hd.aHold = h.hd.aHold := rfl
@[simp] theorem Hw.setDir_hd_failing (h : Hw) (a : Nat) (e : DirEnt) : (h.setDir a e).hd.failing = h.hd.failing := rfl
@[simp] theorem Hw.setDir_hd_rbPos (h : Hw) (a : Nat) (e : DirEnt) : (h.setDir a e).hd.rbPos = h.hd.rbPos := rfl
@[simp] theorem Hw.setDir_hd_rbDead (h : Hw) (a : Nat) (e : DirEnt) : (h.setDir a e).hd.rbDead = h.hd.rbDead := rfl
@[simp] theorem Hw.setDir_hd_dead (h : Hw) (a : Nat) (e : DirEnt) : (h.setDir a e).hd.dead = h.hd.dead := rfl
@[simp] theorem Hw.setDir_hd_walk (h : Hw) (a : Nat) (e : DirEnt) : (h.setDir a e).hd.walk = h.hd.walk := rfl
@[simp] theorem Hw.setDir_hd_fences (h : Hw) (a : Nat) (e : DirEnt) : (h.setDir a e).hd.fences = h.hd.fences := rfl
@[simp] theorem Hw.setDir_hd_io (h : Hw) (a : Nat) (e : DirEnt) : (h.setDir a e).hd.io = h.hd.io := rfl

@[simp] theorem Hw.freeDir_regs (h : Hw) (a : Nat) : (h.freeDir a).regs = h.regs := rfl
@[simp] theorem Hw.freeDir_img (h : Hw) (a : Nat) : (h.freeDir a).img = h.img := rfl
@[simp] theorem Hw.freeDir_out (h : Hw) (a : Nat) : (h.freeDir a).out = h.out := rfl
@[simp] theorem Hw.freeDir_free (h : Hw) (a : Nat) : (h.freeDir a).free = h.free := rfl
@[simp] theorem Hw.freeDir_tags (h : Hw) (a : Nat) : (h.freeDir a).tags = h.tags := rfl
@[simp] theorem Hw.freeDir_mg (h : Hw) (a : Nat) : (h.freeDir a).mg = h.mg := rfl
@[simp] theorem Hw.freeDir_sp (h : Hw) (a : Nat) : (h.freeDir a).sp = h.sp := rfl
@[simp] theorem Hw.freeDir_fc (h : Hw) (a : Nat) : (h.freeDir a).fc = h.fc := rfl
@[simp] theorem Hw.freeDir_ck (h : Hw) (a : Nat) : (h.freeDir a).ck = h.ck := rfl
@[simp] theorem Hw.freeDir_dd (h : Hw) (a : Nat) : (h.freeDir a).dd = h.dd := rfl
@[simp] theorem Hw.freeDir_ag (h : Hw) (a : Nat) : (h.freeDir a).ag = h.ag := rfl
@[simp] theorem Hw.freeDir_stime (h : Hw) (a : Nat) : (h.freeDir a).stime = h.stime := rfl
@[simp] theorem Hw.freeDir_bd (h : Hw) (a : Nat) : (h.freeDir a).bd = h.bd := rfl
@[simp] theorem Hw.freeDir_sw (h : Hw) (a : Nat) : (h.freeDir a).sw = h.sw := rfl
@[simp] theorem Hw.freeDir_ts (h : Hw) (a : Nat) : (h.freeDir a).ts = h.ts := rfl
@[simp] theorem Hw.freeDir_fp (h : Hw) (a : Nat) : (h.freeDir a).fp = h.fp := rfl
@[simp] theorem Hw.freeDir_cu (h : Hw) (a : Nat) : (h.freeDir a).cu = h.cu := rfl
@[simp] theorem Hw.freeDir_dm (h : Hw) (a : Nat) : (h.freeDir a).dm = h.dm := rfl
@[simp] theorem Hw.freeDir_sl (h : Hw) (a : Nat) : (h.freeDir a).sl = h.sl := rfl
@[simp] theorem Hw.freeDir_bc (h : Hw) (a : Nat) : (h.freeDir a).bc = h.bc := rfl
@[simp] theorem Hw.freeDir_wt (h : Hw) (a : Nat) : (h.freeDir a).wt = h.wt := rfl
@[simp] theorem Hw.freeDir_otp (h : Hw) (a : Nat) : (h.freeDir a).otp = h.otp := rfl
@[simp] theorem Hw.freeDir_ld (h : Hw) (a : Nat) : (h.freeDir a).ld = h.ld := rfl
@[simp] theorem Hw.freeDir_dt (h : Hw) (a : Nat) : (h.freeDir a).dt = h.dt := rfl
@[simp] theorem Hw.freeDir_hd_txns (h : Hw) (a : Nat) : (h.freeDir a).hd.txns = h.hd.txns := rfl
@[simp] theorem Hw.freeDir_hd_retry (h : Hw) (a : Nat) : (h.freeDir a).hd.retry = h.hd.retry := rfl
@[simp] theorem Hw.freeDir_hd_rel (h : Hw) (a : Nat) : (h.freeDir a).hd.rel = h.hd.rel := rfl
@[simp] theorem Hw.freeDir_hd_held (h : Hw) (a : Nat) : (h.freeDir a).hd.held = h.hd.held := rfl
@[simp] theorem Hw.freeDir_hd_locks (h : Hw) (a : Nat) : (h.freeDir a).hd.locks = h.hd.locks := rfl
@[simp] theorem Hw.freeDir_hd_next (h : Hw) (a : Nat) : (h.freeDir a).hd.next = h.hd.next := rfl
@[simp] theorem Hw.freeDir_hd_arb (h : Hw) (a : Nat) : (h.freeDir a).hd.arb = h.hd.arb := rfl
@[simp] theorem Hw.freeDir_hd_contest (h : Hw) (a : Nat) : (h.freeDir a).hd.contest = h.hd.contest := rfl
@[simp] theorem Hw.freeDir_hd_aHold (h : Hw) (a : Nat) : (h.freeDir a).hd.aHold = h.hd.aHold := rfl
@[simp] theorem Hw.freeDir_hd_failing (h : Hw) (a : Nat) : (h.freeDir a).hd.failing = h.hd.failing := rfl
@[simp] theorem Hw.freeDir_hd_rbPos (h : Hw) (a : Nat) : (h.freeDir a).hd.rbPos = h.hd.rbPos := rfl
@[simp] theorem Hw.freeDir_hd_rbDead (h : Hw) (a : Nat) : (h.freeDir a).hd.rbDead = h.hd.rbDead := rfl
@[simp] theorem Hw.freeDir_hd_dead (h : Hw) (a : Nat) : (h.freeDir a).hd.dead = h.hd.dead := rfl
@[simp] theorem Hw.freeDir_hd_walk (h : Hw) (a : Nat) : (h.freeDir a).hd.walk = h.hd.walk := rfl
@[simp] theorem Hw.freeDir_hd_fences (h : Hw) (a : Nat) : (h.freeDir a).hd.fences = h.hd.fences := rfl
@[simp] theorem Hw.freeDir_hd_io (h : Hw) (a : Nat) : (h.freeDir a).hd.io = h.hd.io := rfl

@[simp] theorem Hw.setRetry_regs (h : Hw) (l : Nat) (q : List (Bool × HReq)) : (h.setRetry l q).regs = h.regs := rfl
@[simp] theorem Hw.setRetry_img (h : Hw) (l : Nat) (q : List (Bool × HReq)) : (h.setRetry l q).img = h.img := rfl
@[simp] theorem Hw.setRetry_out (h : Hw) (l : Nat) (q : List (Bool × HReq)) : (h.setRetry l q).out = h.out := rfl
@[simp] theorem Hw.setRetry_free (h : Hw) (l : Nat) (q : List (Bool × HReq)) : (h.setRetry l q).free = h.free := rfl
@[simp] theorem Hw.setRetry_tags (h : Hw) (l : Nat) (q : List (Bool × HReq)) : (h.setRetry l q).tags = h.tags := rfl
@[simp] theorem Hw.setRetry_mg (h : Hw) (l : Nat) (q : List (Bool × HReq)) : (h.setRetry l q).mg = h.mg := rfl
@[simp] theorem Hw.setRetry_sp (h : Hw) (l : Nat) (q : List (Bool × HReq)) : (h.setRetry l q).sp = h.sp := rfl
@[simp] theorem Hw.setRetry_fc (h : Hw) (l : Nat) (q : List (Bool × HReq)) : (h.setRetry l q).fc = h.fc := rfl
@[simp] theorem Hw.setRetry_ck (h : Hw) (l : Nat) (q : List (Bool × HReq)) : (h.setRetry l q).ck = h.ck := rfl
@[simp] theorem Hw.setRetry_dd (h : Hw) (l : Nat) (q : List (Bool × HReq)) : (h.setRetry l q).dd = h.dd := rfl
@[simp] theorem Hw.setRetry_ag (h : Hw) (l : Nat) (q : List (Bool × HReq)) : (h.setRetry l q).ag = h.ag := rfl
@[simp] theorem Hw.setRetry_stime (h : Hw) (l : Nat) (q : List (Bool × HReq)) : (h.setRetry l q).stime = h.stime := rfl
@[simp] theorem Hw.setRetry_bd (h : Hw) (l : Nat) (q : List (Bool × HReq)) : (h.setRetry l q).bd = h.bd := rfl
@[simp] theorem Hw.setRetry_sw (h : Hw) (l : Nat) (q : List (Bool × HReq)) : (h.setRetry l q).sw = h.sw := rfl
@[simp] theorem Hw.setRetry_ts (h : Hw) (l : Nat) (q : List (Bool × HReq)) : (h.setRetry l q).ts = h.ts := rfl
@[simp] theorem Hw.setRetry_fp (h : Hw) (l : Nat) (q : List (Bool × HReq)) : (h.setRetry l q).fp = h.fp := rfl
@[simp] theorem Hw.setRetry_cu (h : Hw) (l : Nat) (q : List (Bool × HReq)) : (h.setRetry l q).cu = h.cu := rfl
@[simp] theorem Hw.setRetry_dm (h : Hw) (l : Nat) (q : List (Bool × HReq)) : (h.setRetry l q).dm = h.dm := rfl
@[simp] theorem Hw.setRetry_sl (h : Hw) (l : Nat) (q : List (Bool × HReq)) : (h.setRetry l q).sl = h.sl := rfl
@[simp] theorem Hw.setRetry_bc (h : Hw) (l : Nat) (q : List (Bool × HReq)) : (h.setRetry l q).bc = h.bc := rfl
@[simp] theorem Hw.setRetry_wt (h : Hw) (l : Nat) (q : List (Bool × HReq)) : (h.setRetry l q).wt = h.wt := rfl
@[simp] theorem Hw.setRetry_otp (h : Hw) (l : Nat) (q : List (Bool × HReq)) : (h.setRetry l q).otp = h.otp := rfl
@[simp] theorem Hw.setRetry_ld (h : Hw) (l : Nat) (q : List (Bool × HReq)) : (h.setRetry l q).ld = h.ld := rfl
@[simp] theorem Hw.setRetry_dt (h : Hw) (l : Nat) (q : List (Bool × HReq)) : (h.setRetry l q).dt = h.dt := rfl
@[simp] theorem Hw.setRetry_hd_dir (h : Hw) (l : Nat) (q : List (Bool × HReq)) : (h.setRetry l q).hd.dir = h.hd.dir := rfl
@[simp] theorem Hw.setRetry_hd_txns (h : Hw) (l : Nat) (q : List (Bool × HReq)) : (h.setRetry l q).hd.txns = h.hd.txns := rfl
@[simp] theorem Hw.setRetry_hd_rel (h : Hw) (l : Nat) (q : List (Bool × HReq)) : (h.setRetry l q).hd.rel = h.hd.rel := rfl
@[simp] theorem Hw.setRetry_hd_held (h : Hw) (l : Nat) (q : List (Bool × HReq)) : (h.setRetry l q).hd.held = h.hd.held := rfl
@[simp] theorem Hw.setRetry_hd_locks (h : Hw) (l : Nat) (q : List (Bool × HReq)) : (h.setRetry l q).hd.locks = h.hd.locks := rfl
@[simp] theorem Hw.setRetry_hd_next (h : Hw) (l : Nat) (q : List (Bool × HReq)) : (h.setRetry l q).hd.next = h.hd.next := rfl
@[simp] theorem Hw.setRetry_hd_arb (h : Hw) (l : Nat) (q : List (Bool × HReq)) : (h.setRetry l q).hd.arb = h.hd.arb := rfl
@[simp] theorem Hw.setRetry_hd_contest (h : Hw) (l : Nat) (q : List (Bool × HReq)) : (h.setRetry l q).hd.contest = h.hd.contest := rfl
@[simp] theorem Hw.setRetry_hd_aHold (h : Hw) (l : Nat) (q : List (Bool × HReq)) : (h.setRetry l q).hd.aHold = h.hd.aHold := rfl
@[simp] theorem Hw.setRetry_hd_failing (h : Hw) (l : Nat) (q : List (Bool × HReq)) : (h.setRetry l q).hd.failing = h.hd.failing := rfl
@[simp] theorem Hw.setRetry_hd_rbPos (h : Hw) (l : Nat) (q : List (Bool × HReq)) : (h.setRetry l q).hd.rbPos = h.hd.rbPos := rfl
@[simp] theorem Hw.setRetry_hd_rbDead (h : Hw) (l : Nat) (q : List (Bool × HReq)) : (h.setRetry l q).hd.rbDead = h.hd.rbDead := rfl
@[simp] theorem Hw.setRetry_hd_dead (h : Hw) (l : Nat) (q : List (Bool × HReq)) : (h.setRetry l q).hd.dead = h.hd.dead := rfl
@[simp] theorem Hw.setRetry_hd_walk (h : Hw) (l : Nat) (q : List (Bool × HReq)) : (h.setRetry l q).hd.walk = h.hd.walk := rfl
@[simp] theorem Hw.setRetry_hd_fences (h : Hw) (l : Nat) (q : List (Bool × HReq)) : (h.setRetry l q).hd.fences = h.hd.fences := rfl
@[simp] theorem Hw.setRetry_hd_io (h : Hw) (l : Nat) (q : List (Bool × HReq)) : (h.setRetry l q).hd.io = h.hd.io := rfl

@[simp] theorem Hw.setRel_regs (h : Hw) (l : Nat) (q : List HRel) : (h.setRel l q).regs = h.regs := rfl
@[simp] theorem Hw.setRel_img (h : Hw) (l : Nat) (q : List HRel) : (h.setRel l q).img = h.img := rfl
@[simp] theorem Hw.setRel_out (h : Hw) (l : Nat) (q : List HRel) : (h.setRel l q).out = h.out := rfl
@[simp] theorem Hw.setRel_free (h : Hw) (l : Nat) (q : List HRel) : (h.setRel l q).free = h.free := rfl
@[simp] theorem Hw.setRel_tags (h : Hw) (l : Nat) (q : List HRel) : (h.setRel l q).tags = h.tags := rfl
@[simp] theorem Hw.setRel_mg (h : Hw) (l : Nat) (q : List HRel) : (h.setRel l q).mg = h.mg := rfl
@[simp] theorem Hw.setRel_sp (h : Hw) (l : Nat) (q : List HRel) : (h.setRel l q).sp = h.sp := rfl
@[simp] theorem Hw.setRel_fc (h : Hw) (l : Nat) (q : List HRel) : (h.setRel l q).fc = h.fc := rfl
@[simp] theorem Hw.setRel_ck (h : Hw) (l : Nat) (q : List HRel) : (h.setRel l q).ck = h.ck := rfl
@[simp] theorem Hw.setRel_dd (h : Hw) (l : Nat) (q : List HRel) : (h.setRel l q).dd = h.dd := rfl
@[simp] theorem Hw.setRel_ag (h : Hw) (l : Nat) (q : List HRel) : (h.setRel l q).ag = h.ag := rfl
@[simp] theorem Hw.setRel_stime (h : Hw) (l : Nat) (q : List HRel) : (h.setRel l q).stime = h.stime := rfl
@[simp] theorem Hw.setRel_bd (h : Hw) (l : Nat) (q : List HRel) : (h.setRel l q).bd = h.bd := rfl
@[simp] theorem Hw.setRel_sw (h : Hw) (l : Nat) (q : List HRel) : (h.setRel l q).sw = h.sw := rfl
@[simp] theorem Hw.setRel_ts (h : Hw) (l : Nat) (q : List HRel) : (h.setRel l q).ts = h.ts := rfl
@[simp] theorem Hw.setRel_fp (h : Hw) (l : Nat) (q : List HRel) : (h.setRel l q).fp = h.fp := rfl
@[simp] theorem Hw.setRel_cu (h : Hw) (l : Nat) (q : List HRel) : (h.setRel l q).cu = h.cu := rfl
@[simp] theorem Hw.setRel_dm (h : Hw) (l : Nat) (q : List HRel) : (h.setRel l q).dm = h.dm := rfl
@[simp] theorem Hw.setRel_sl (h : Hw) (l : Nat) (q : List HRel) : (h.setRel l q).sl = h.sl := rfl
@[simp] theorem Hw.setRel_bc (h : Hw) (l : Nat) (q : List HRel) : (h.setRel l q).bc = h.bc := rfl
@[simp] theorem Hw.setRel_wt (h : Hw) (l : Nat) (q : List HRel) : (h.setRel l q).wt = h.wt := rfl
@[simp] theorem Hw.setRel_otp (h : Hw) (l : Nat) (q : List HRel) : (h.setRel l q).otp = h.otp := rfl
@[simp] theorem Hw.setRel_ld (h : Hw) (l : Nat) (q : List HRel) : (h.setRel l q).ld = h.ld := rfl
@[simp] theorem Hw.setRel_dt (h : Hw) (l : Nat) (q : List HRel) : (h.setRel l q).dt = h.dt := rfl
@[simp] theorem Hw.setRel_hd_dir (h : Hw) (l : Nat) (q : List HRel) : (h.setRel l q).hd.dir = h.hd.dir := rfl
@[simp] theorem Hw.setRel_hd_txns (h : Hw) (l : Nat) (q : List HRel) : (h.setRel l q).hd.txns = h.hd.txns := rfl
@[simp] theorem Hw.setRel_hd_retry (h : Hw) (l : Nat) (q : List HRel) : (h.setRel l q).hd.retry = h.hd.retry := rfl
@[simp] theorem Hw.setRel_hd_held (h : Hw) (l : Nat) (q : List HRel) : (h.setRel l q).hd.held = h.hd.held := rfl
@[simp] theorem Hw.setRel_hd_locks (h : Hw) (l : Nat) (q : List HRel) : (h.setRel l q).hd.locks = h.hd.locks := rfl
@[simp] theorem Hw.setRel_hd_next (h : Hw) (l : Nat) (q : List HRel) : (h.setRel l q).hd.next = h.hd.next := rfl
@[simp] theorem Hw.setRel_hd_arb (h : Hw) (l : Nat) (q : List HRel) : (h.setRel l q).hd.arb = h.hd.arb := rfl
@[simp] theorem Hw.setRel_hd_contest (h : Hw) (l : Nat) (q : List HRel) : (h.setRel l q).hd.contest = h.hd.contest := rfl
@[simp] theorem Hw.setRel_hd_aHold (h : Hw) (l : Nat) (q : List HRel) : (h.setRel l q).hd.aHold = h.hd.aHold := rfl
@[simp] theorem Hw.setRel_hd_failing (h : Hw) (l : Nat) (q : List HRel) : (h.setRel l q).hd.failing = h.hd.failing := rfl
@[simp] theorem Hw.setRel_hd_rbPos (h : Hw) (l : Nat) (q : List HRel) : (h.setRel l q).hd.rbPos = h.hd.rbPos := rfl
@[simp] theorem Hw.setRel_hd_rbDead (h : Hw) (l : Nat) (q : List HRel) : (h.setRel l q).hd.rbDead = h.hd.rbDead := rfl
@[simp] theorem Hw.setRel_hd_dead (h : Hw) (l : Nat) (q : List HRel) : (h.setRel l q).hd.dead = h.hd.dead := rfl
@[simp] theorem Hw.setRel_hd_walk (h : Hw) (l : Nat) (q : List HRel) : (h.setRel l q).hd.walk = h.hd.walk := rfl
@[simp] theorem Hw.setRel_hd_fences (h : Hw) (l : Nat) (q : List HRel) : (h.setRel l q).hd.fences = h.hd.fences := rfl
@[simp] theorem Hw.setRel_hd_io (h : Hw) (l : Nat) (q : List HRel) : (h.setRel l q).hd.io = h.hd.io := rfl

@[simp] theorem Hw.setContest_regs (h : Hw) (l : Nat) (c : Option Contest) : (h.setContest l c).regs = h.regs := rfl
@[simp] theorem Hw.setContest_img (h : Hw) (l : Nat) (c : Option Contest) : (h.setContest l c).img = h.img := rfl
@[simp] theorem Hw.setContest_out (h : Hw) (l : Nat) (c : Option Contest) : (h.setContest l c).out = h.out := rfl
@[simp] theorem Hw.setContest_free (h : Hw) (l : Nat) (c : Option Contest) : (h.setContest l c).free = h.free := rfl
@[simp] theorem Hw.setContest_tags (h : Hw) (l : Nat) (c : Option Contest) : (h.setContest l c).tags = h.tags := rfl
@[simp] theorem Hw.setContest_mg (h : Hw) (l : Nat) (c : Option Contest) : (h.setContest l c).mg = h.mg := rfl
@[simp] theorem Hw.setContest_sp (h : Hw) (l : Nat) (c : Option Contest) : (h.setContest l c).sp = h.sp := rfl
@[simp] theorem Hw.setContest_fc (h : Hw) (l : Nat) (c : Option Contest) : (h.setContest l c).fc = h.fc := rfl
@[simp] theorem Hw.setContest_ck (h : Hw) (l : Nat) (c : Option Contest) : (h.setContest l c).ck = h.ck := rfl
@[simp] theorem Hw.setContest_dd (h : Hw) (l : Nat) (c : Option Contest) : (h.setContest l c).dd = h.dd := rfl
@[simp] theorem Hw.setContest_ag (h : Hw) (l : Nat) (c : Option Contest) : (h.setContest l c).ag = h.ag := rfl
@[simp] theorem Hw.setContest_stime (h : Hw) (l : Nat) (c : Option Contest) : (h.setContest l c).stime = h.stime := rfl
@[simp] theorem Hw.setContest_bd (h : Hw) (l : Nat) (c : Option Contest) : (h.setContest l c).bd = h.bd := rfl
@[simp] theorem Hw.setContest_sw (h : Hw) (l : Nat) (c : Option Contest) : (h.setContest l c).sw = h.sw := rfl
@[simp] theorem Hw.setContest_ts (h : Hw) (l : Nat) (c : Option Contest) : (h.setContest l c).ts = h.ts := rfl
@[simp] theorem Hw.setContest_fp (h : Hw) (l : Nat) (c : Option Contest) : (h.setContest l c).fp = h.fp := rfl
@[simp] theorem Hw.setContest_cu (h : Hw) (l : Nat) (c : Option Contest) : (h.setContest l c).cu = h.cu := rfl
@[simp] theorem Hw.setContest_dm (h : Hw) (l : Nat) (c : Option Contest) : (h.setContest l c).dm = h.dm := rfl
@[simp] theorem Hw.setContest_sl (h : Hw) (l : Nat) (c : Option Contest) : (h.setContest l c).sl = h.sl := rfl
@[simp] theorem Hw.setContest_bc (h : Hw) (l : Nat) (c : Option Contest) : (h.setContest l c).bc = h.bc := rfl
@[simp] theorem Hw.setContest_wt (h : Hw) (l : Nat) (c : Option Contest) : (h.setContest l c).wt = h.wt := rfl
@[simp] theorem Hw.setContest_otp (h : Hw) (l : Nat) (c : Option Contest) : (h.setContest l c).otp = h.otp := rfl
@[simp] theorem Hw.setContest_ld (h : Hw) (l : Nat) (c : Option Contest) : (h.setContest l c).ld = h.ld := rfl
@[simp] theorem Hw.setContest_dt (h : Hw) (l : Nat) (c : Option Contest) : (h.setContest l c).dt = h.dt := rfl
@[simp] theorem Hw.setContest_hd_dir (h : Hw) (l : Nat) (c : Option Contest) : (h.setContest l c).hd.dir = h.hd.dir := rfl
@[simp] theorem Hw.setContest_hd_txns (h : Hw) (l : Nat) (c : Option Contest) : (h.setContest l c).hd.txns = h.hd.txns := rfl
@[simp] theorem Hw.setContest_hd_retry (h : Hw) (l : Nat) (c : Option Contest) : (h.setContest l c).hd.retry = h.hd.retry := rfl
@[simp] theorem Hw.setContest_hd_rel (h : Hw) (l : Nat) (c : Option Contest) : (h.setContest l c).hd.rel = h.hd.rel := rfl
@[simp] theorem Hw.setContest_hd_held (h : Hw) (l : Nat) (c : Option Contest) : (h.setContest l c).hd.held = h.hd.held := rfl
@[simp] theorem Hw.setContest_hd_locks (h : Hw) (l : Nat) (c : Option Contest) : (h.setContest l c).hd.locks = h.hd.locks := rfl
@[simp] theorem Hw.setContest_hd_next (h : Hw) (l : Nat) (c : Option Contest) : (h.setContest l c).hd.next = h.hd.next := rfl
@[simp] theorem Hw.setContest_hd_arb (h : Hw) (l : Nat) (c : Option Contest) : (h.setContest l c).hd.arb = h.hd.arb := rfl
@[simp] theorem Hw.setContest_hd_aHold (h : Hw) (l : Nat) (c : Option Contest) : (h.setContest l c).hd.aHold = h.hd.aHold := rfl
@[simp] theorem Hw.setContest_hd_failing (h : Hw) (l : Nat) (c : Option Contest) : (h.setContest l c).hd.failing = h.hd.failing := rfl
@[simp] theorem Hw.setContest_hd_rbPos (h : Hw) (l : Nat) (c : Option Contest) : (h.setContest l c).hd.rbPos = h.hd.rbPos := rfl
@[simp] theorem Hw.setContest_hd_rbDead (h : Hw) (l : Nat) (c : Option Contest) : (h.setContest l c).hd.rbDead = h.hd.rbDead := rfl
@[simp] theorem Hw.setContest_hd_dead (h : Hw) (l : Nat) (c : Option Contest) : (h.setContest l c).hd.dead = h.hd.dead := rfl
@[simp] theorem Hw.setContest_hd_walk (h : Hw) (l : Nat) (c : Option Contest) : (h.setContest l c).hd.walk = h.hd.walk := rfl
@[simp] theorem Hw.setContest_hd_fences (h : Hw) (l : Nat) (c : Option Contest) : (h.setContest l c).hd.fences = h.hd.fences := rfl
@[simp] theorem Hw.setContest_hd_io (h : Hw) (l : Nat) (c : Option Contest) : (h.setContest l c).hd.io = h.hd.io := rfl

@[simp] theorem Hw.setCuLine_regs (h : Hw) (g : Nat) (l : CuLine) : (h.setCuLine g l).regs = h.regs := rfl
@[simp] theorem Hw.setCuLine_img (h : Hw) (g : Nat) (l : CuLine) : (h.setCuLine g l).img = h.img := rfl
@[simp] theorem Hw.setCuLine_out (h : Hw) (g : Nat) (l : CuLine) : (h.setCuLine g l).out = h.out := rfl
@[simp] theorem Hw.setCuLine_free (h : Hw) (g : Nat) (l : CuLine) : (h.setCuLine g l).free = h.free := rfl
@[simp] theorem Hw.setCuLine_tags (h : Hw) (g : Nat) (l : CuLine) : (h.setCuLine g l).tags = h.tags := rfl
@[simp] theorem Hw.setCuLine_mg (h : Hw) (g : Nat) (l : CuLine) : (h.setCuLine g l).mg = h.mg := rfl
@[simp] theorem Hw.setCuLine_sp (h : Hw) (g : Nat) (l : CuLine) : (h.setCuLine g l).sp = h.sp := rfl
@[simp] theorem Hw.setCuLine_fc (h : Hw) (g : Nat) (l : CuLine) : (h.setCuLine g l).fc = h.fc := rfl
@[simp] theorem Hw.setCuLine_ck (h : Hw) (g : Nat) (l : CuLine) : (h.setCuLine g l).ck = h.ck := rfl
@[simp] theorem Hw.setCuLine_dd (h : Hw) (g : Nat) (l : CuLine) : (h.setCuLine g l).dd = h.dd := rfl
@[simp] theorem Hw.setCuLine_ag (h : Hw) (g : Nat) (l : CuLine) : (h.setCuLine g l).ag = h.ag := rfl
@[simp] theorem Hw.setCuLine_stime (h : Hw) (g : Nat) (l : CuLine) : (h.setCuLine g l).stime = h.stime := rfl
@[simp] theorem Hw.setCuLine_bd (h : Hw) (g : Nat) (l : CuLine) : (h.setCuLine g l).bd = h.bd := rfl
@[simp] theorem Hw.setCuLine_sw (h : Hw) (g : Nat) (l : CuLine) : (h.setCuLine g l).sw = h.sw := rfl
@[simp] theorem Hw.setCuLine_ts (h : Hw) (g : Nat) (l : CuLine) : (h.setCuLine g l).ts = h.ts := rfl
@[simp] theorem Hw.setCuLine_fp (h : Hw) (g : Nat) (l : CuLine) : (h.setCuLine g l).fp = h.fp := rfl
@[simp] theorem Hw.setCuLine_hd (h : Hw) (g : Nat) (l : CuLine) : (h.setCuLine g l).hd = h.hd := rfl
@[simp] theorem Hw.setCuLine_dm (h : Hw) (g : Nat) (l : CuLine) : (h.setCuLine g l).dm = h.dm := rfl
@[simp] theorem Hw.setCuLine_sl (h : Hw) (g : Nat) (l : CuLine) : (h.setCuLine g l).sl = h.sl := rfl
@[simp] theorem Hw.setCuLine_bc (h : Hw) (g : Nat) (l : CuLine) : (h.setCuLine g l).bc = h.bc := rfl
@[simp] theorem Hw.setCuLine_wt (h : Hw) (g : Nat) (l : CuLine) : (h.setCuLine g l).wt = h.wt := rfl
@[simp] theorem Hw.setCuLine_otp (h : Hw) (g : Nat) (l : CuLine) : (h.setCuLine g l).otp = h.otp := rfl
@[simp] theorem Hw.setCuLine_ld (h : Hw) (g : Nat) (l : CuLine) : (h.setCuLine g l).ld = h.ld := rfl
@[simp] theorem Hw.setCuLine_dt (h : Hw) (g : Nat) (l : CuLine) : (h.setCuLine g l).dt = h.dt := rfl
@[simp] theorem Hw.setCuLine_cu_recs (h : Hw) (g : Nat) (l : CuLine) : (h.setCuLine g l).cu.recs = h.cu.recs := rfl
@[simp] theorem Hw.setCuLine_cu_steps (h : Hw) (g : Nat) (l : CuLine) : (h.setCuLine g l).cu.steps = h.cu.steps := rfl
@[simp] theorem Hw.setCuLine_cu_held (h : Hw) (g : Nat) (l : CuLine) : (h.setCuLine g l).cu.held = h.cu.held := rfl

@[simp] theorem Hw.delCuLine_regs (h : Hw) (g : Nat) : (h.delCuLine g).regs = h.regs := rfl
@[simp] theorem Hw.delCuLine_img (h : Hw) (g : Nat) : (h.delCuLine g).img = h.img := rfl
@[simp] theorem Hw.delCuLine_out (h : Hw) (g : Nat) : (h.delCuLine g).out = h.out := rfl
@[simp] theorem Hw.delCuLine_free (h : Hw) (g : Nat) : (h.delCuLine g).free = h.free := rfl
@[simp] theorem Hw.delCuLine_tags (h : Hw) (g : Nat) : (h.delCuLine g).tags = h.tags := rfl
@[simp] theorem Hw.delCuLine_mg (h : Hw) (g : Nat) : (h.delCuLine g).mg = h.mg := rfl
@[simp] theorem Hw.delCuLine_sp (h : Hw) (g : Nat) : (h.delCuLine g).sp = h.sp := rfl
@[simp] theorem Hw.delCuLine_fc (h : Hw) (g : Nat) : (h.delCuLine g).fc = h.fc := rfl
@[simp] theorem Hw.delCuLine_ck (h : Hw) (g : Nat) : (h.delCuLine g).ck = h.ck := rfl
@[simp] theorem Hw.delCuLine_dd (h : Hw) (g : Nat) : (h.delCuLine g).dd = h.dd := rfl
@[simp] theorem Hw.delCuLine_ag (h : Hw) (g : Nat) : (h.delCuLine g).ag = h.ag := rfl
@[simp] theorem Hw.delCuLine_stime (h : Hw) (g : Nat) : (h.delCuLine g).stime = h.stime := rfl
@[simp] theorem Hw.delCuLine_bd (h : Hw) (g : Nat) : (h.delCuLine g).bd = h.bd := rfl
@[simp] theorem Hw.delCuLine_sw (h : Hw) (g : Nat) : (h.delCuLine g).sw = h.sw := rfl
@[simp] theorem Hw.delCuLine_ts (h : Hw) (g : Nat) : (h.delCuLine g).ts = h.ts := rfl
@[simp] theorem Hw.delCuLine_fp (h : Hw) (g : Nat) : (h.delCuLine g).fp = h.fp := rfl
@[simp] theorem Hw.delCuLine_hd (h : Hw) (g : Nat) : (h.delCuLine g).hd = h.hd := rfl
@[simp] theorem Hw.delCuLine_dm (h : Hw) (g : Nat) : (h.delCuLine g).dm = h.dm := rfl
@[simp] theorem Hw.delCuLine_sl (h : Hw) (g : Nat) : (h.delCuLine g).sl = h.sl := rfl
@[simp] theorem Hw.delCuLine_bc (h : Hw) (g : Nat) : (h.delCuLine g).bc = h.bc := rfl
@[simp] theorem Hw.delCuLine_wt (h : Hw) (g : Nat) : (h.delCuLine g).wt = h.wt := rfl
@[simp] theorem Hw.delCuLine_otp (h : Hw) (g : Nat) : (h.delCuLine g).otp = h.otp := rfl
@[simp] theorem Hw.delCuLine_ld (h : Hw) (g : Nat) : (h.delCuLine g).ld = h.ld := rfl
@[simp] theorem Hw.delCuLine_dt (h : Hw) (g : Nat) : (h.delCuLine g).dt = h.dt := rfl
@[simp] theorem Hw.delCuLine_cu_recs (h : Hw) (g : Nat) : (h.delCuLine g).cu.recs = h.cu.recs := rfl
@[simp] theorem Hw.delCuLine_cu_steps (h : Hw) (g : Nat) : (h.delCuLine g).cu.steps = h.cu.steps := rfl
@[simp] theorem Hw.delCuLine_cu_held (h : Hw) (g : Nat) : (h.delCuLine g).cu.held = h.cu.held := rfl

@[simp] theorem Hw.setCuRec_regs (h : Hw) (k : Nat) (r : CuRec) : (h.setCuRec k r).regs = h.regs := rfl
@[simp] theorem Hw.setCuRec_img (h : Hw) (k : Nat) (r : CuRec) : (h.setCuRec k r).img = h.img := rfl
@[simp] theorem Hw.setCuRec_out (h : Hw) (k : Nat) (r : CuRec) : (h.setCuRec k r).out = h.out := rfl
@[simp] theorem Hw.setCuRec_free (h : Hw) (k : Nat) (r : CuRec) : (h.setCuRec k r).free = h.free := rfl
@[simp] theorem Hw.setCuRec_tags (h : Hw) (k : Nat) (r : CuRec) : (h.setCuRec k r).tags = h.tags := rfl
@[simp] theorem Hw.setCuRec_mg (h : Hw) (k : Nat) (r : CuRec) : (h.setCuRec k r).mg = h.mg := rfl
@[simp] theorem Hw.setCuRec_sp (h : Hw) (k : Nat) (r : CuRec) : (h.setCuRec k r).sp = h.sp := rfl
@[simp] theorem Hw.setCuRec_fc (h : Hw) (k : Nat) (r : CuRec) : (h.setCuRec k r).fc = h.fc := rfl
@[simp] theorem Hw.setCuRec_ck (h : Hw) (k : Nat) (r : CuRec) : (h.setCuRec k r).ck = h.ck := rfl
@[simp] theorem Hw.setCuRec_dd (h : Hw) (k : Nat) (r : CuRec) : (h.setCuRec k r).dd = h.dd := rfl
@[simp] theorem Hw.setCuRec_ag (h : Hw) (k : Nat) (r : CuRec) : (h.setCuRec k r).ag = h.ag := rfl
@[simp] theorem Hw.setCuRec_stime (h : Hw) (k : Nat) (r : CuRec) : (h.setCuRec k r).stime = h.stime := rfl
@[simp] theorem Hw.setCuRec_bd (h : Hw) (k : Nat) (r : CuRec) : (h.setCuRec k r).bd = h.bd := rfl
@[simp] theorem Hw.setCuRec_sw (h : Hw) (k : Nat) (r : CuRec) : (h.setCuRec k r).sw = h.sw := rfl
@[simp] theorem Hw.setCuRec_ts (h : Hw) (k : Nat) (r : CuRec) : (h.setCuRec k r).ts = h.ts := rfl
@[simp] theorem Hw.setCuRec_fp (h : Hw) (k : Nat) (r : CuRec) : (h.setCuRec k r).fp = h.fp := rfl
@[simp] theorem Hw.setCuRec_hd (h : Hw) (k : Nat) (r : CuRec) : (h.setCuRec k r).hd = h.hd := rfl
@[simp] theorem Hw.setCuRec_dm (h : Hw) (k : Nat) (r : CuRec) : (h.setCuRec k r).dm = h.dm := rfl
@[simp] theorem Hw.setCuRec_sl (h : Hw) (k : Nat) (r : CuRec) : (h.setCuRec k r).sl = h.sl := rfl
@[simp] theorem Hw.setCuRec_bc (h : Hw) (k : Nat) (r : CuRec) : (h.setCuRec k r).bc = h.bc := rfl
@[simp] theorem Hw.setCuRec_wt (h : Hw) (k : Nat) (r : CuRec) : (h.setCuRec k r).wt = h.wt := rfl
@[simp] theorem Hw.setCuRec_otp (h : Hw) (k : Nat) (r : CuRec) : (h.setCuRec k r).otp = h.otp := rfl
@[simp] theorem Hw.setCuRec_ld (h : Hw) (k : Nat) (r : CuRec) : (h.setCuRec k r).ld = h.ld := rfl
@[simp] theorem Hw.setCuRec_dt (h : Hw) (k : Nat) (r : CuRec) : (h.setCuRec k r).dt = h.dt := rfl
@[simp] theorem Hw.setCuRec_cu_lines (h : Hw) (k : Nat) (r : CuRec) : (h.setCuRec k r).cu.lines = h.cu.lines := rfl
@[simp] theorem Hw.setCuRec_cu_steps (h : Hw) (k : Nat) (r : CuRec) : (h.setCuRec k r).cu.steps = h.cu.steps := rfl
@[simp] theorem Hw.setCuRec_cu_held (h : Hw) (k : Nat) (r : CuRec) : (h.setCuRec k r).cu.held = h.cu.held := rfl

@[simp] theorem Hw.setJob_regs (h : Hw) (r : Nat) (j : DmJob) : (h.setJob r j).regs = h.regs := rfl
@[simp] theorem Hw.setJob_img (h : Hw) (r : Nat) (j : DmJob) : (h.setJob r j).img = h.img := rfl
@[simp] theorem Hw.setJob_out (h : Hw) (r : Nat) (j : DmJob) : (h.setJob r j).out = h.out := rfl
@[simp] theorem Hw.setJob_free (h : Hw) (r : Nat) (j : DmJob) : (h.setJob r j).free = h.free := rfl
@[simp] theorem Hw.setJob_tags (h : Hw) (r : Nat) (j : DmJob) : (h.setJob r j).tags = h.tags := rfl
@[simp] theorem Hw.setJob_mg (h : Hw) (r : Nat) (j : DmJob) : (h.setJob r j).mg = h.mg := rfl
@[simp] theorem Hw.setJob_sp (h : Hw) (r : Nat) (j : DmJob) : (h.setJob r j).sp = h.sp := rfl
@[simp] theorem Hw.setJob_fc (h : Hw) (r : Nat) (j : DmJob) : (h.setJob r j).fc = h.fc := rfl
@[simp] theorem Hw.setJob_ck (h : Hw) (r : Nat) (j : DmJob) : (h.setJob r j).ck = h.ck := rfl
@[simp] theorem Hw.setJob_dd (h : Hw) (r : Nat) (j : DmJob) : (h.setJob r j).dd = h.dd := rfl
@[simp] theorem Hw.setJob_ag (h : Hw) (r : Nat) (j : DmJob) : (h.setJob r j).ag = h.ag := rfl
@[simp] theorem Hw.setJob_stime (h : Hw) (r : Nat) (j : DmJob) : (h.setJob r j).stime = h.stime := rfl
@[simp] theorem Hw.setJob_bd (h : Hw) (r : Nat) (j : DmJob) : (h.setJob r j).bd = h.bd := rfl
@[simp] theorem Hw.setJob_sw (h : Hw) (r : Nat) (j : DmJob) : (h.setJob r j).sw = h.sw := rfl
@[simp] theorem Hw.setJob_ts (h : Hw) (r : Nat) (j : DmJob) : (h.setJob r j).ts = h.ts := rfl
@[simp] theorem Hw.setJob_fp (h : Hw) (r : Nat) (j : DmJob) : (h.setJob r j).fp = h.fp := rfl
@[simp] theorem Hw.setJob_hd (h : Hw) (r : Nat) (j : DmJob) : (h.setJob r j).hd = h.hd := rfl
@[simp] theorem Hw.setJob_cu (h : Hw) (r : Nat) (j : DmJob) : (h.setJob r j).cu = h.cu := rfl
@[simp] theorem Hw.setJob_sl (h : Hw) (r : Nat) (j : DmJob) : (h.setJob r j).sl = h.sl := rfl
@[simp] theorem Hw.setJob_bc (h : Hw) (r : Nat) (j : DmJob) : (h.setJob r j).bc = h.bc := rfl
@[simp] theorem Hw.setJob_wt (h : Hw) (r : Nat) (j : DmJob) : (h.setJob r j).wt = h.wt := rfl
@[simp] theorem Hw.setJob_otp (h : Hw) (r : Nat) (j : DmJob) : (h.setJob r j).otp = h.otp := rfl
@[simp] theorem Hw.setJob_ld (h : Hw) (r : Nat) (j : DmJob) : (h.setJob r j).ld = h.ld := rfl
@[simp] theorem Hw.setJob_dt (h : Hw) (r : Nat) (j : DmJob) : (h.setJob r j).dt = h.dt := rfl
@[simp] theorem Hw.setJob_dm_dptr (h : Hw) (r : Nat) (j : DmJob) : (h.setJob r j).dm.dptr = h.dm.dptr := rfl
@[simp] theorem Hw.setJob_dm_sent (h : Hw) (r : Nat) (j : DmJob) : (h.setJob r j).dm.sent = h.dm.sent := rfl
@[simp] theorem Hw.setJob_dm_copied (h : Hw) (r : Nat) (j : DmJob) : (h.setJob r j).dm.copied = h.dm.copied := rfl
@[simp] theorem Hw.setJob_dm_zero (h : Hw) (r : Nat) (j : DmJob) : (h.setJob r j).dm.zero = h.dm.zero := rfl
@[simp] theorem Hw.setJob_dm_zeroed (h : Hw) (r : Nat) (j : DmJob) : (h.setJob r j).dm.zeroed = h.dm.zeroed := rfl
@[simp] theorem Hw.setJob_dm_accs (h : Hw) (r : Nat) (j : DmJob) : (h.setJob r j).dm.accs = h.dm.accs := rfl
@[simp] theorem Hw.setJob_dm_seq (h : Hw) (r : Nat) (j : DmJob) : (h.setJob r j).dm.seq = h.dm.seq := rfl

@[simp] theorem Hw.delJob_regs (h : Hw) (r : Nat) : (h.delJob r).regs = h.regs := rfl
@[simp] theorem Hw.delJob_img (h : Hw) (r : Nat) : (h.delJob r).img = h.img := rfl
@[simp] theorem Hw.delJob_out (h : Hw) (r : Nat) : (h.delJob r).out = h.out := rfl
@[simp] theorem Hw.delJob_free (h : Hw) (r : Nat) : (h.delJob r).free = h.free := rfl
@[simp] theorem Hw.delJob_tags (h : Hw) (r : Nat) : (h.delJob r).tags = h.tags := rfl
@[simp] theorem Hw.delJob_mg (h : Hw) (r : Nat) : (h.delJob r).mg = h.mg := rfl
@[simp] theorem Hw.delJob_sp (h : Hw) (r : Nat) : (h.delJob r).sp = h.sp := rfl
@[simp] theorem Hw.delJob_fc (h : Hw) (r : Nat) : (h.delJob r).fc = h.fc := rfl
@[simp] theorem Hw.delJob_ck (h : Hw) (r : Nat) : (h.delJob r).ck = h.ck := rfl
@[simp] theorem Hw.delJob_dd (h : Hw) (r : Nat) : (h.delJob r).dd = h.dd := rfl
@[simp] theorem Hw.delJob_ag (h : Hw) (r : Nat) : (h.delJob r).ag = h.ag := rfl
@[simp] theorem Hw.delJob_stime (h : Hw) (r : Nat) : (h.delJob r).stime = h.stime := rfl
@[simp] theorem Hw.delJob_bd (h : Hw) (r : Nat) : (h.delJob r).bd = h.bd := rfl
@[simp] theorem Hw.delJob_sw (h : Hw) (r : Nat) : (h.delJob r).sw = h.sw := rfl
@[simp] theorem Hw.delJob_ts (h : Hw) (r : Nat) : (h.delJob r).ts = h.ts := rfl
@[simp] theorem Hw.delJob_fp (h : Hw) (r : Nat) : (h.delJob r).fp = h.fp := rfl
@[simp] theorem Hw.delJob_hd (h : Hw) (r : Nat) : (h.delJob r).hd = h.hd := rfl
@[simp] theorem Hw.delJob_cu (h : Hw) (r : Nat) : (h.delJob r).cu = h.cu := rfl
@[simp] theorem Hw.delJob_sl (h : Hw) (r : Nat) : (h.delJob r).sl = h.sl := rfl
@[simp] theorem Hw.delJob_bc (h : Hw) (r : Nat) : (h.delJob r).bc = h.bc := rfl
@[simp] theorem Hw.delJob_wt (h : Hw) (r : Nat) : (h.delJob r).wt = h.wt := rfl
@[simp] theorem Hw.delJob_otp (h : Hw) (r : Nat) : (h.delJob r).otp = h.otp := rfl
@[simp] theorem Hw.delJob_ld (h : Hw) (r : Nat) : (h.delJob r).ld = h.ld := rfl
@[simp] theorem Hw.delJob_dt (h : Hw) (r : Nat) : (h.delJob r).dt = h.dt := rfl
@[simp] theorem Hw.delJob_dm_dptr (h : Hw) (r : Nat) : (h.delJob r).dm.dptr = h.dm.dptr := rfl
@[simp] theorem Hw.delJob_dm_sent (h : Hw) (r : Nat) : (h.delJob r).dm.sent = h.dm.sent := rfl
@[simp] theorem Hw.delJob_dm_copied (h : Hw) (r : Nat) : (h.delJob r).dm.copied = h.dm.copied := rfl
@[simp] theorem Hw.delJob_dm_zero (h : Hw) (r : Nat) : (h.delJob r).dm.zero = h.dm.zero := rfl
@[simp] theorem Hw.delJob_dm_zeroed (h : Hw) (r : Nat) : (h.delJob r).dm.zeroed = h.dm.zeroed := rfl
@[simp] theorem Hw.delJob_dm_accs (h : Hw) (r : Nat) : (h.delJob r).dm.accs = h.dm.accs := rfl
@[simp] theorem Hw.delJob_dm_seq (h : Hw) (r : Nat) : (h.delJob r).dm.seq = h.dm.seq := rfl

@[simp] theorem Hw.setEq_regs (h : Hw) (qid : Nat) (q : EQ) : (h.setEq qid q).regs = h.regs := rfl
@[simp] theorem Hw.setEq_img (h : Hw) (qid : Nat) (q : EQ) : (h.setEq qid q).img = h.img := rfl
@[simp] theorem Hw.setEq_out (h : Hw) (qid : Nat) (q : EQ) : (h.setEq qid q).out = h.out := rfl
@[simp] theorem Hw.setEq_free (h : Hw) (qid : Nat) (q : EQ) : (h.setEq qid q).free = h.free := rfl
@[simp] theorem Hw.setEq_tags (h : Hw) (qid : Nat) (q : EQ) : (h.setEq qid q).tags = h.tags := rfl
@[simp] theorem Hw.setEq_mg (h : Hw) (qid : Nat) (q : EQ) : (h.setEq qid q).mg = h.mg := rfl
@[simp] theorem Hw.setEq_sp (h : Hw) (qid : Nat) (q : EQ) : (h.setEq qid q).sp = h.sp := rfl
@[simp] theorem Hw.setEq_fc (h : Hw) (qid : Nat) (q : EQ) : (h.setEq qid q).fc = h.fc := rfl
@[simp] theorem Hw.setEq_ck (h : Hw) (qid : Nat) (q : EQ) : (h.setEq qid q).ck = h.ck := rfl
@[simp] theorem Hw.setEq_dd (h : Hw) (qid : Nat) (q : EQ) : (h.setEq qid q).dd = h.dd := rfl
@[simp] theorem Hw.setEq_ag (h : Hw) (qid : Nat) (q : EQ) : (h.setEq qid q).ag = h.ag := rfl
@[simp] theorem Hw.setEq_stime (h : Hw) (qid : Nat) (q : EQ) : (h.setEq qid q).stime = h.stime := rfl
@[simp] theorem Hw.setEq_bd (h : Hw) (qid : Nat) (q : EQ) : (h.setEq qid q).bd = h.bd := rfl
@[simp] theorem Hw.setEq_ts (h : Hw) (qid : Nat) (q : EQ) : (h.setEq qid q).ts = h.ts := rfl
@[simp] theorem Hw.setEq_fp (h : Hw) (qid : Nat) (q : EQ) : (h.setEq qid q).fp = h.fp := rfl
@[simp] theorem Hw.setEq_hd (h : Hw) (qid : Nat) (q : EQ) : (h.setEq qid q).hd = h.hd := rfl
@[simp] theorem Hw.setEq_cu (h : Hw) (qid : Nat) (q : EQ) : (h.setEq qid q).cu = h.cu := rfl
@[simp] theorem Hw.setEq_dm (h : Hw) (qid : Nat) (q : EQ) : (h.setEq qid q).dm = h.dm := rfl
@[simp] theorem Hw.setEq_sl (h : Hw) (qid : Nat) (q : EQ) : (h.setEq qid q).sl = h.sl := rfl
@[simp] theorem Hw.setEq_bc (h : Hw) (qid : Nat) (q : EQ) : (h.setEq qid q).bc = h.bc := rfl
@[simp] theorem Hw.setEq_wt (h : Hw) (qid : Nat) (q : EQ) : (h.setEq qid q).wt = h.wt := rfl
@[simp] theorem Hw.setEq_otp (h : Hw) (qid : Nat) (q : EQ) : (h.setEq qid q).otp = h.otp := rfl
@[simp] theorem Hw.setEq_ld (h : Hw) (qid : Nat) (q : EQ) : (h.setEq qid q).ld = h.ld := rfl
@[simp] theorem Hw.setEq_dt (h : Hw) (qid : Nat) (q : EQ) : (h.setEq qid q).dt = h.dt := rfl
@[simp] theorem Hw.setEq_sw_routes (h : Hw) (qid : Nat) (q : EQ) : (h.setEq qid q).sw.routes = h.sw.routes := rfl
@[simp] theorem Hw.setEq_sw_voq (h : Hw) (qid : Nat) (q : EQ) : (h.setEq qid q).sw.voq = h.sw.voq := rfl
@[simp] theorem Hw.setEq_sw_gptr (h : Hw) (qid : Nat) (q : EQ) : (h.setEq qid q).sw.gptr = h.sw.gptr := rfl
@[simp] theorem Hw.setEq_sw_aptr (h : Hw) (qid : Nat) (q : EQ) : (h.setEq qid q).sw.aptr = h.sw.aptr := rfl
@[simp] theorem Hw.setEq_sw_used (h : Hw) (qid : Nat) (q : EQ) : (h.setEq qid q).sw.used = h.sw.used := rfl
@[simp] theorem Hw.setEq_sw_leak (h : Hw) (qid : Nat) (q : EQ) : (h.setEq qid q).sw.leak = h.sw.leak := rfl
@[simp] theorem Hw.setEq_sw_dup (h : Hw) (qid : Nat) (q : EQ) : (h.setEq qid q).sw.dup = h.sw.dup := rfl
@[simp] theorem Hw.setEq_sw_pgLeak (h : Hw) (qid : Nat) (q : EQ) : (h.setEq qid q).sw.pgLeak = h.sw.pgLeak := rfl
@[simp] theorem Hw.setEq_sw_pgDup (h : Hw) (qid : Nat) (q : EQ) : (h.setEq qid q).sw.pgDup = h.sw.pgDup := rfl
@[simp] theorem Hw.setEq_sw_tokens (h : Hw) (qid : Nat) (q : EQ) : (h.setEq qid q).sw.tokens = h.sw.tokens := rfl
@[simp] theorem Hw.setEq_sw_inTx (h : Hw) (qid : Nat) (q : EQ) : (h.setEq qid q).sw.inTx = h.sw.inTx := rfl
@[simp] theorem Hw.setEq_sw_legs (h : Hw) (qid : Nat) (q : EQ) : (h.setEq qid q).sw.legs = h.sw.legs := rfl
@[simp] theorem Hw.setEq_sw_sending (h : Hw) (qid : Nat) (q : EQ) : (h.setEq qid q).sw.sending = h.sw.sending := rfl
@[simp] theorem Hw.setEq_sw_nextMid (h : Hw) (qid : Nat) (q : EQ) : (h.setEq qid q).sw.nextMid = h.sw.nextMid := rfl
@[simp] theorem Hw.setEq_sw_idMap (h : Hw) (qid : Nat) (q : EQ) : (h.setEq qid q).sw.idMap = h.sw.idMap := rfl
@[simp] theorem Hw.setEq_sw_wins (h : Hw) (qid : Nat) (q : EQ) : (h.setEq qid q).sw.wins = h.sw.wins := rfl
@[simp] theorem Hw.setEq_sw_binds (h : Hw) (qid : Nat) (q : EQ) : (h.setEq qid q).sw.binds = h.sw.binds := rfl
@[simp] theorem Hw.setEq_sw_groupRt (h : Hw) (qid : Nat) (q : EQ) : (h.setEq qid q).sw.groupRt = h.sw.groupRt := rfl
@[simp] theorem Hw.setEq_sw_groups (h : Hw) (qid : Nat) (q : EQ) : (h.setEq qid q).sw.groups = h.sw.groups := rfl
@[simp] theorem Hw.setEq_sw_mcBlock (h : Hw) (qid : Nat) (q : EQ) : (h.setEq qid q).sw.mcBlock = h.sw.mcBlock := rfl
@[simp] theorem Hw.setEq_sw_acs (h : Hw) (qid : Nat) (q : EQ) : (h.setEq qid q).sw.acs = h.sw.acs := rfl

/-! ### Reading a table after its update -/

@[simp] theorem Hw.setTxn_get (h : Hw) (k : Nat) (t : HTxn) : Store.get? (h.setTxn k t).hd.txns k = some t := Store.get?_put_same _ _ _
@[simp] theorem Hw.dirEnt_setDir (h : Hw) (a : Nat) (e : DirEnt) : (h.setDir a e).dirEnt a = some e := Store.get?_put_same _ _ _
@[simp] theorem Hw.dirEnt_freeDir (h : Hw) (a : Nat) : (h.freeDir a).dirEnt a = none := Store.get?_del_same _ _
@[simp] theorem Hw.cuLine_setCuLine (h : Hw) (g : Nat) (l : CuLine) : (h.setCuLine g l).cuLine g = some l := Store.get?_put_same _ _ _
@[simp] theorem Hw.cuLine_delCuLine (h : Hw) (g : Nat) : (h.delCuLine g).cuLine g = none := Store.get?_del_same _ _
@[simp] theorem Hw.job_setJob (h : Hw) (r : Nat) (j : DmJob) : (h.setJob r j).job r = some j := Store.get?_put_same _ _ _
@[simp] theorem Hw.job_delJob (h : Hw) (r : Nat) : (h.delJob r).job r = none := Store.get?_del_same _ _
@[simp] theorem Hw.eq_setEq (h : Hw) (qid : Nat) (q : EQ) : (h.setEq qid q).eq qid = q := Store.getD_setD_same _ _ _ _

theorem Hw.dirEnt_setDir_ne (h : Hw) {a b : Nat} (e : DirEnt) (hab : a ≠ b) : (h.setDir a e).dirEnt b = h.dirEnt b :=
  Store.get?_put_ne _ _ hab
theorem Hw.cuLine_setCuLine_ne (h : Hw) {g k : Nat} (l : CuLine) (hgk : g ≠ k) : (h.setCuLine g l).cuLine k = h.cuLine k :=
  Store.get?_put_ne _ _ hgk
theorem Hw.job_setJob_ne (h : Hw) {r q : Nat} (j : DmJob) (hrq : r ≠ q) : (h.setJob r j).job q = h.job q :=
  Store.get?_put_ne _ _ hrq
theorem Hw.eq_setEq_ne (h : Hw) {i k : Nat} (q : EQ) (hik : i ≠ k) : (h.setEq i q).eq k = h.eq k := Store.getD_setD_ne _ _ _ _ hik

/-! ### Open rows (R319) -/

@[simp] theorem Mach.openRow_hw (m : Mach) (c a : Nat) : (m.openRow c a).hw = m.hw := rfl
@[simp] theorem Mach.openRow_dome (m : Mach) (c a : Nat) : (m.openRow c a).mem.dome = m.mem.dome := rfl
@[simp] theorem Mach.openRow_lines (m : Mach) (c a : Nat) : (m.openRow c a).mem.lines = m.mem.lines := rfl
@[simp] theorem Mach.openRow_sp (m : Mach) (c a : Nat) : (m.openRow c a).mem.sp = m.mem.sp := rfl
@[simp] theorem Mach.openRow_spBad (m : Mach) (c a : Nat) : (m.openRow c a).mem.spBad = m.mem.spBad := rfl
@[simp] theorem Mach.openRow_flash (m : Mach) (c a : Nat) : (m.openRow c a).mem.flash = m.mem.flash := rfl

/-- A request to a line leaves its row open. -/
@[simp] theorem Mach.rowOpen_openRow (m : Mach) (c a : Nat) : (m.openRow c a).rowOpen c a = true := by
  simp [Mach.rowOpen, Mach.openRow, Store.get?_put_same]

end Sys2Proof.Machine
end

