-- ==== Sys2Proof/Laws/Ops.lean ====
section
/-! SUPPORT. What the shared operations do: register fields read after write, what a raised fault message changes, internal tags and
fault domains. -/
namespace Sys2Proof.Machine

/-! ### Register fields -/

/-- A field reads from the register file alone. -/
theorem Hw.fget_congr {a b : Hw} (h : a.regs = b.regs) (f : Fld) (i : Nat) : a.fget f i = b.fget f i := by
  simp [Hw.fget, h]

@[simp] theorem Hw.fget_fset_same (h : Hw) (f : Fld) (i v : Nat) : (h.fset f i v).fget f i = v % 2 ^ f.width := by
  simp only [Hw.fget, Hw.fset]
  exact Store.getD_setD_same _ _ _ _

/-- Writing one field leaves the fields of every other key. -/
theorem Hw.fget_fset_ne (h : Hw) {f g : Fld} {i j : Nat} (v : Nat) (hk : fkey f i ≠ fkey g j) :
    (h.fset f i v).fget g j = h.fget g j := by
  simp only [Hw.fget, Hw.fset]
  exact Store.getD_setD_ne _ _ _ _ hk

/-- Writing one instance leaves every other instance of the field. -/
theorem Hw.fget_fset_inst (h : Hw) {f : Fld} {i j : Nat} (v : Nat) (hij : i ≠ j) :
    (h.fset f i v).fget f j = h.fget f j :=
  Hw.fget_fset_ne h v (by simp only [fkey]; omega)

/-- Fields of different numbers have different keys below 65,536 instances. -/
theorem fkey_ne {f g : Fld} {i j : Nat} (hf : f.id ≠ g.id) (hi : i < 65536) (hj : j < 65536) : fkey f i ≠ fkey g j := by
  simp only [fkey]
  omega

@[simp] theorem Hw.fget_emit (h : Hw) (e : Emit) (f : Fld) (i : Nat) : (h.emit e).fget f i = h.fget f i := rfl
@[simp] theorem Hw.flag_emit (h : Hw) (e : Emit) (f : Fld) (i : Nat) : (h.emit e).flag f i = h.flag f i := rfl
@[simp] theorem Hw.fget_setDom (h : Hw) (d : Nat) (x : Dom) (f : Fld) (i : Nat) : (h.setDom d x).fget f i = h.fget f i := rfl
@[simp] theorem Hw.fget_setQueue (h : Hw) (p : Nat) (q : List FMsg) (f : Fld) (i : Nat) :
    (h.setQueue p q).fget f i = h.fget f i := rfl
@[simp] theorem Hw.fget_openTag (h : Hw) (b : TagBlk) (t : Nat) (f : Fld) (i : Nat) :
    (h.openTag b t).fget f i = h.fget f i := rfl
@[simp] theorem Hw.fget_closeTag (h : Hw) (b : TagBlk) (t : Nat) (f : Fld) (i : Nat) :
    (h.closeTag b t).fget f i = h.fget f i := rfl
@[simp] theorem Hw.fget_takeFree (h : Hw) (f : Fld) (i : Nat) : h.takeFree.2.fget f i = h.fget f i := rfl

/-- A counter raised by `n` saturates at its width. -/
theorem Hw.fget_fadd_same (h : Hw) (f : Fld) (i n : Nat) :
    (h.fadd f i n).fget f i = min (h.fget f i + n) (2 ^ f.width - 1) := by
  rw [Hw.fadd, Hw.fget_fset_same, satAdd, Nat.mod_eq_of_lt]
  have := Nat.two_pow_pos f.width
  omega

theorem Hw.fget_fadd_ne (h : Hw) {f g : Fld} {i j : Nat} (n : Nat) (hk : fkey f i ≠ fkey g j) :
    (h.fadd f i n).fget g j = h.fget g j := Hw.fget_fset_ne h _ hk

/-! ### Fault domains and queues -/

@[simp] theorem Hw.dom_setDom_same (h : Hw) (d : Nat) (x : Dom) : (h.setDom d x).dom d = x := by
  simp only [Hw.dom, Hw.setDom]
  exact Store.getD_setD_same _ _ _ _

theorem Hw.dom_setDom_ne (h : Hw) {d e : Nat} (x : Dom) (hde : d ≠ e) : (h.setDom d x).dom e = h.dom e := by
  simp only [Hw.dom, Hw.setDom]
  exact Store.getD_setD_ne _ _ _ _ hde

@[simp] theorem Hw.dom_fset (h : Hw) (f : Fld) (i v d : Nat) : (h.fset f i v).dom d = h.dom d := rfl
@[simp] theorem Hw.dom_emit (h : Hw) (e : Emit) (d : Nat) : (h.emit e).dom d = h.dom d := rfl

@[simp] theorem Hw.queue_setQueue_same (h : Hw) (p : Nat) (q : List FMsg) : (h.setQueue p q).queue p = q := by
  simp only [Hw.queue, Hw.setQueue]
  exact Store.getD_setD_same _ _ _ _

theorem Hw.queue_setQueue_ne (h : Hw) {p q : Nat} (l : List FMsg) (hpq : p ≠ q) : (h.setQueue p l).queue q = h.queue q := by
  simp only [Hw.queue, Hw.setQueue]
  exact Store.getD_setD_ne _ _ _ _ hpq

/-- What a message that enters a queue can change: the fault collector's queues, and the counters of lost messages. -/
theorem Hw.enqueueFault_frame (h : Hw) (p : Nat) (m : FMsg) :
    ∃ regs fc, h.enqueueFault p m = { h with regs := regs, fc := fc } ∧ fc.doms = h.fc.doms ∧ fc.persist = h.fc.persist ∧
      fc.seq = h.fc.seq := by
  unfold Hw.enqueueFault
  dsimp only
  split
  · exact ⟨_, _, rfl, rfl, rfl, rfl⟩
  · split
    · exact ⟨_, _, rfl, rfl, rfl, rfl⟩
    · split
      · exact ⟨_, _, rfl, rfl, rfl, rfl⟩
      · split
        · exact ⟨_, _, rfl, rfl, rfl, rfl⟩
        · split <;> exact ⟨_, _, rfl, rfl, rfl, rfl⟩

/-- What raising a fault message can change. -/
theorem Hw.raise_frame (h : Hw) (f : FaultSrc) :
    ∃ regs fc, h.raise f = { h with regs := regs, fc := fc } ∧ fc.doms = h.fc.doms ∧ fc.persist = h.fc.persist ∧
      fc.seq = h.fc.seq := Hw.enqueueFault_frame _ _ _

/-- A message that enters a queue leaves every register field but the counters of lost messages. -/
theorem Hw.fget_enqueueFault (h : Hw) (p : Nat) (m : FMsg) {g : Fld} {j : Nat} (h1 : fkey F.FC_DROP_VAL 0 ≠ fkey g j)
    (h2 : fkey F.FC_STAT_LOSTHI 0 ≠ fkey g j) : (h.enqueueFault p m).fget g j = h.fget g j := by
  unfold Hw.enqueueFault
  dsimp only
  split
  · rfl
  · split
    · exact Hw.fget_fadd_ne _ _ h1
    · split
      · rw [Hw.fget_fadd_ne _ _ h1]
        rfl
      · split
        · rfl
        · split
          · exact Hw.fget_fadd_ne _ _ h1
          · rw [Hw.fget_fset_ne _ _ h2, Hw.fget_fadd_ne _ _ h1]

theorem Hw.fget_raise (h : Hw) (f : FaultSrc) {g : Fld} {j : Nat} (h1 : fkey F.FC_DROP_VAL 0 ≠ fkey g j)
    (h2 : fkey F.FC_STAT_LOSTHI 0 ≠ fkey g j) : (h.raise f).fget g j = h.fget g j := Hw.fget_enqueueFault _ _ _ h1 h2

/-- A message raised into a queue with room joins it at its end (R453). -/
theorem Hw.queue_raise (h : Hw) (f : FaultSrc) (hq : (h.queue (bits f.code 8 4)).length < 8) :
    ∃ m : FMsg, (h.raise f).queue (bits f.code 8 4) = h.queue (bits f.code 8 4) ++ [m] ∧ m.code = f.code ∧
      m.domain = f.dom ∧ m.dinst = f.dinst ∧ m.time = h.stime ∧ m.origin = h.sid ∧ m.master = f.master := by
  unfold Hw.raise Hw.enqueueFault
  dsimp only
  rw [if_pos hq]
  exact ⟨_, Hw.queue_setQueue_same _ _ _, rfl, rfl, rfl, rfl, rfl, rfl⟩

/-! ### Internal tags (R23) -/

theorem Hw.tagOpen_openTag (h : Hw) (b : TagBlk) (t : Nat) : (h.openTag b t).tagOpen b t = true := by
  simp only [Hw.tagOpen, Hw.openTag, Store.getD_setD_same, beq_iff_eq]
  omega

theorem Hw.tagGen_openTag (h : Hw) (b : TagBlk) (t : Nat) : (h.openTag b t).tagGen b t = h.tagGen b t := by
  simp only [Hw.tagGen, Hw.openTag, Store.getD_setD_same]
  omega

theorem Hw.tagOpen_closeTag (h : Hw) (b : TagBlk) (t : Nat) : (h.closeTag b t).tagOpen b t = false := by
  simp only [Hw.tagOpen, Hw.closeTag, Store.getD_setD_same, beq_eq_false_iff_ne, ne_eq]
  omega

theorem Hw.tagGen_closeTag (h : Hw) (b : TagBlk) (t : Nat) : (h.closeTag b t).tagGen b t = (h.tagGen b t + 1) % 16 := by
  simp only [Hw.tagGen, Hw.closeTag, Store.getD_setD_same]
  omega

end Sys2Proof.Machine
end

