-- ==== Sys2Proof/Laws/Frames.lean ====
section
/-! SUPPORT. How a frame on register fields is built up, and that a command which acts through `onHw` or `onMach` completes. -/
namespace Sys2Proof.Machine

/-- Nothing done: nothing changed. -/
theorem OnlyFields.refl (ks : List (Fld × Nat)) (a : Mach) : OnlyFields ks a a := by
  refine ⟨⟨a.hw.regs, ?_⟩, ?_⟩
  · cases a
    rfl
  · intro g j _
    rfl

/-- Writing a listed field keeps the frame. -/
theorem OnlyFields.fset {ks : List (Fld × Nat)} {a b : Mach} (h : OnlyFields ks a b) {f : Fld} {i : Nat}
    (hm : (f, i) ∈ ks) (v : Nat) : OnlyFields ks a (b.onHw (fun x => x.fset f i v)) := by
  obtain ⟨⟨r, rfl⟩, h2⟩ := h
  refine ⟨⟨_, rfl⟩, fun g j hk => ?_⟩
  rw [← h2 g j hk]
  have hne : fkey f i ≠ fkey g j := hk (f, i) hm
  exact Hw.fget_fset_ne _ _ hne

/-- Counting in a listed counter keeps the frame. -/
theorem OnlyFields.fadd {ks : List (Fld × Nat)} {a b : Mach} (h : OnlyFields ks a b) {f : Fld} {i : Nat}
    (hm : (f, i) ∈ ks) (n : Nat) : OnlyFields ks a (b.onHw (fun x => x.fadd f i n)) := h.fset hm _

/-- A command that acts on the fabric and feed sides completes with its effect. -/
theorem completes_onHw {c : Instr} {s : State} {P : Mach → Prop} {f : Hw → Hw} (hc : exec c s = onHw f s)
    (hp : P (s.mach.onHw f)) : Completes c s P := ⟨_, hc, rfl, hp⟩

/-- A command that acts on the machine completes with its effect. -/
theorem completes_onMach {c : Instr} {s : State} {P : Mach → Prop} {f : Mach → Mach} (hc : exec c s = onMach f s)
    (hp : P (f s.mach)) : Completes c s P := ⟨_, hc, rfl, hp⟩

/-- A command that completes runs. -/
theorem Completes.runs {c : Instr} {s : State} {P : Mach → Prop} (h : Completes c s P) : Runs c s :=
  h.elim (fun t ht => ⟨t, ht.1⟩)

end Sys2Proof.Machine
end

