-- ==== Sys2Proof/Laws/Memory.lean ====
section
/-! SUPPORT. Every operation that writes a memory keeps the memories in their canonical form. -/
namespace Sys2Proof.Machine

open Store

/-- The canonical form of the memories is that of each one. -/
theorem Mem.wf_iff (m : Mem) : m.wf = true ↔ Store.wf 0 m.dome = true ∧ Store.wf LineAttr.clean m.lines = true ∧
    Store.wf 0 m.sp = true ∧ Store.wf 0 m.spBad = true ∧ Store.wf 0xFF m.flash = true := by
  simp only [Mem.wf, Bool.and_eq_true, and_assoc]

theorem Mem.reset_wf : Mem.reset.wf = true := rfl

/-- Memories that list nothing but the flash are canonical when the flash is. -/
theorem Mem.wf_flashOnly {m : Mem} (h : m.wf = true) : Mem.wf { Mem.reset with flash := m.flash } = true := by
  simp only [Mem.wf_iff] at *
  exact ⟨rfl, rfl, rfl, rfl, h.2.2.2.2⟩

/-- Dome's bytes replaced. -/
theorem Mem.wf_dome {m : Mem} {d : SMap Byte} (h : m.wf = true) (hd : Store.wf 0 d = true) : Mem.wf { m with dome := d } = true := by
  simp only [Mem.wf_iff] at *
  exact ⟨hd, h.2⟩

/-- The lines' attributes replaced. -/
theorem Mem.wf_lines {m : Mem} {l : SMap LineAttr} (h : m.wf = true) (hl : Store.wf LineAttr.clean l = true) :
    Mem.wf { m with lines := l } = true := by
  simp only [Mem.wf_iff] at *
  exact ⟨h.1, hl, h.2.2⟩

/-- The scratchpad and its error marks replaced. -/
theorem Mem.wf_sp {m : Mem} {p : SMap Byte} {b : SMap Nat} (h : m.wf = true) (hp : Store.wf 0 p = true)
    (hb : Store.wf 0 b = true) : Mem.wf { m with sp := p, spBad := b } = true := by
  simp only [Mem.wf_iff] at *
  exact ⟨h.1, h.2.1, hp, hb, h.2.2.2.2⟩

/-- The flash replaced. -/
theorem Mem.wf_flash {m : Mem} {f : SMap Byte} (h : m.wf = true) (hf : Store.wf 0xFF f = true) :
    Mem.wf { m with flash := f } = true := by
  simp only [Mem.wf_iff] at *
  exact ⟨h.1, h.2.1, h.2.2.1, h.2.2.2.1, hf⟩

/-! ### Dome -/

theorem setAttr_wf {m : Mach} (c a : Nat) (v : LineAttr) (h : m.mem.wf = true) : (m.setAttr c a v).mem.wf = true :=
  Mem.wf_lines h (wf_setD _ _ ((Mem.wf_iff _).mp h).2.1)

theorem setLine_wf {m : Mach} (o v : Nat) (h : m.mem.wf = true) : (m.setLine o v).mem.wf = true := by
  unfold Mach.setLine
  split
  · rw [Mach.onHw_mem]
    exact h
  · exact Mem.wf_dome h (wf_writeLE _ _ _ ((Mem.wf_iff _).mp h).1)

/-- The open rows are no part of the canonical form. -/
theorem openRow_wf {m : Mach} (c a : Nat) (h : m.mem.wf = true) : (m.openRow c a).mem.wf = true := h

theorem openLine_wf {m : Mach} (o : Nat) (h : m.mem.wf = true) : (m.openLine o).mem.wf = true := by
  dsimp only [Mach.openLine]
  split
  · exact h
  · exact openRow_wf _ _ h

theorem readPhys_wf {m : Mach} (c a master : Nat) (err : LineErr) (wr scrub : Bool) (h : m.mem.wf = true) :
    (readPhys c a master err wr scrub m).2.mem.wf = true := by
  have h1 := openRow_wf c a h
  dsimp only [readPhys]
  split
  · exact h
  · split
    · exact h1
    · split
      · exact h1
      · dsimp only
        split
        · exact h1
        · exact h1
      · exact h1
      · exact setAttr_wf c a _ h1

theorem misread_wf {m : Mach} (o : Nat) (err : LineErr) (h : m.mem.wf = true) : (m.misread o err).mem.wf = true := by
  dsimp only [Mach.misread]
  split
  · exact setLine_wf o _ h
  · exact h

theorem readAt_wf {m : Mach} (p : Phys) (o master : Nat) (err merr : LineErr) (wr : Bool) (h : m.mem.wf = true) :
    (readAt p o master err merr wr m).2.mem.wf = true := by
  unfold readAt
  have h0 := readPhys_wf p.prim p.addr master err wr false h
  dsimp only
  generalize readPhys p.prim p.addr master err wr false m = r0 at h0
  have h1 : (if r0.1 = true then r0 else (false, r0.2.misread o err)).2.mem.wf = true := by
    split
    · exact h0
    · exact misread_wf o err h0
  generalize (if r0.1 = true then r0 else (false, r0.2.misread o err)) = r at h1
  cases p.mirror with
  | none => exact h1
  | some c2 =>
    have h2 := readPhys_wf c2 p.addr master merr wr false h1
    dsimp only
    generalize readPhys c2 p.addr master merr wr false r.2 = r2 at h2
    split
    · split
      · exact h2
      · dsimp only
        split
        · exact h2
        · exact setAttr_wf _ _ _ h2
    · exact h1

theorem readDome_wf {m : Mach} (o master : Nat) (err merr : LineErr) (wr : Bool) (h : m.mem.wf = true) :
    (readDome o master err merr wr m).2.mem.wf = true := readAt_wf _ o master err merr wr h

theorem writeCopy_wf {m : Mach} (c a : Nat) (v : LineAttr) (h : m.mem.wf = true) : (writeCopy c a v m).2.mem.wf = true := by
  unfold writeCopy
  split
  · exact h
  · exact setAttr_wf c a v (openRow_wf c a h)

theorem writeAt_wf {m : Mach} (p : Phys) (o data : Nat) (hint pois : Bool) (h : m.mem.wf = true) :
    (writeAt p o data hint pois m).2.mem.wf = true := by
  unfold writeAt
  have h1 := writeCopy_wf p.prim p.addr ⟨hint, pois⟩ h
  dsimp only
  generalize writeCopy p.prim p.addr ⟨hint, pois⟩ m = r at h1
  cases p.mirror with
  | none =>
    dsimp only
    split
    · exact setLine_wf o data h1
    · exact h1
  | some c2 =>
    have h2 := writeCopy_wf c2 p.addr ⟨hint, pois⟩ h1
    dsimp only
    split
    · exact setLine_wf o data h2
    · exact h2

theorem writeDome_wf {m : Mach} (o data : Nat) (hint pois : Bool) (h : m.mem.wf = true) :
    (writeDome o data hint pois m).2.mem.wf = true := writeAt_wf _ o data hint pois h

theorem putLine_wf {m : Mach} (o data : Nat) (h : m.mem.wf = true) : (m.putLine o data).mem.wf = true :=
  writeDome_wf o data _ false h

theorem poisonLine_wf {m : Mach} (o : Nat) (h : m.mem.wf = true) : (m.poisonLine o).mem.wf = true :=
  writeDome_wf o 0 _ true h

theorem metaCopy_wf {m : Mach} (c a master : Nat) (hint : Bool) (err : LineErr) (h : m.mem.wf = true) :
    (metaCopy c a master hint err m).mem.wf = true := by
  have h1 := openRow_wf c a h
  dsimp only [metaCopy]
  split
  · exact h
  · split
    · exact h1
    · split <;> exact setAttr_wf c a _ h1

theorem writeHint_wf {m : Mach} (o : Nat) (hint : Bool) (err : LineErr) (h : m.mem.wf = true) :
    (writeHint o hint err m).mem.wf = true := misread_wf o err (metaCopy_wf _ _ _ _ err h)

/-- A machine of which only the hardware's other state is changed. -/
theorem wf_ite_onHw {b : Bool} {f : Hw → Hw} {m : Mach} (h : m.mem.wf = true) : (if b then m else m.onHw f).mem.wf = true := by
  cases b
  · exact h
  · exact h

/-- A partial write with every byte enabled is a full write (R325). -/
theorem partialWrite_full {m : Mach} {off data en master : Nat} {w : Option (Nat × Nat)} {err : CopyErrs}
    (hb : allBytes en = true) :
    partialWrite off data en master w err m =
      (let r := writeDome off data (m.hw.hintOf off) false m
       (r.1, if r.1 then r.2 else r.2.onHw (fun h => h.loseWrite w))) := by
  unfold partialWrite
  rw [if_pos hb]

/-- A partial write of a line that lies on a FAILED channel without a mirror is lost (R333). -/
theorem partialWrite_failed {m : Mach} {off data en master : Nat} {w : Option (Nat × Nat)} {err : CopyErrs}
    (hb : allBytes en = false) (hf : ((domeMap m.hw off).mirror.isNone && m.hw.chFailed (domeMap m.hw off).prim) = true) :
    partialWrite off data en master w err m =
      (false, m.onHw (fun h => (h.fadd F.DD_WRDROP_VAL (domeMap m.hw off).prim 1).loseWrite w)) := by
  unfold partialWrite
  rw [if_neg (by simp [hb])]
  exact if_pos hf

/-- Any other partial write reads the line, and merges its bytes unless the read returns poison (R325). -/
theorem partialWrite_merge {m : Mach} {off data en master : Nat} {w : Option (Nat × Nat)} {err : CopyErrs}
    (hb : allBytes en = false) (hf : ((domeMap m.hw off).mirror.isNone && m.hw.chFailed (domeMap m.hw off).prim) = false) :
    partialWrite off data en master w err m =
      (let r := readDome off master err.prim err.mirror false m
       if r.1 then (false, r.2.onHw (fun h => (h.fadd F.DD_WRDROP_VAL (domeMap m.hw off).prim 1).loseWrite w))
       else writeDome off (mergeBytes (r.2.line off) data en 64) (r.2.hw.hintOf off) false r.2) := by
  unfold partialWrite
  rw [if_neg (by simp [hb])]
  exact if_neg (by simp [hf])

theorem partialWrite_wf {m : Mach} (off data en master : Nat) (w : Option (Nat × Nat)) (err : CopyErrs) (h : m.mem.wf = true) :
    (partialWrite off data en master w err m).2.mem.wf = true := by
  cases hb : allBytes en with
  | true =>
    rw [partialWrite_full hb]
    have h1 := writeDome_wf off data (m.hw.hintOf off) false h
    generalize writeDome off data (m.hw.hintOf off) false m = r at h1 ⊢
    exact wf_ite_onHw h1
  | false =>
    cases hf : (domeMap m.hw off).mirror.isNone && m.hw.chFailed (domeMap m.hw off).prim with
    | true =>
      rw [partialWrite_failed hb hf]
      exact h
    | false =>
      rw [partialWrite_merge hb hf]
      have h1 := readDome_wf off master err.prim err.mirror false h
      revert h1
      generalize readDome off master err.prim err.mirror false m = r
      intro h1
      obtain ⟨b, m2⟩ := r
      cases b
      · exact writeDome_wf _ _ _ _ h1
      · exact h1

theorem poke_wf {m : Mach} (o v n master : Nat) (h : m.mem.wf = true) : (m.poke o v n master).mem.wf = true := by
  unfold Mach.poke
  exact partialWrite_wf o _ _ master none _ h

theorem setEt_wf {m : Mach} (t e x : Nat) (h : m.mem.wf = true) : (m.setEt t e x).mem.wf = true := by
  unfold Mach.setEt
  exact poke_wf _ x 16 _ h

/-- A property that each round keeps holds after all of them. -/
theorem iterN_keeps {α : Type} {P : α → Prop} (f : Nat → α → α) (hf : ∀ i x, P x → P (f i x)) (i n : Nat) {x : α} (h : P x) :
    P (iterN f i n x) := by
  induction n generalizing i x with
  | zero => exact h
  | succ n ih => exact ih (i + 1) (hf i x h)

theorem writeCell_wf {m m' : Mach} {qid : Nat} {e : EMsg} {i : Nat} (h : m.mem.wf = true) (hc : writeCell qid e i m = some m') :
    m'.mem.wf = true := by
  dsimp only [writeCell] at hc
  split at hc
  · cases hc
  · next q' pg k fresh hk =>
    simp only [Option.some.injEq] at hc
    subst hc
    have h1 : (iterN (fun j m1 => (writeDome (cellAddr pg k + 64 * j) (bits m.hw.takeFree.1 (512 * j) 512) false false m1).2) 0 4
        { m with hw := (m.hw.takeFree.2.setEq qid { q' with wseq := ((m.hw.eq qid).wseq + 1) % 2 ^ 24 }).setPages }).mem.wf = true :=
      iterN_keeps (P := fun x : Mach => x.mem.wf = true) _ (fun j x hx => writeDome_wf _ _ _ _ hx) 0 4 h
    split
    · split
      · exact poke_wf _ _ _ _ (poke_wf _ _ _ _ (poke_wf _ _ _ _ h1))
      · exact poke_wf _ _ _ _ (poke_wf _ _ _ _ h1)
    · exact poke_wf _ _ _ _ h1

theorem writeCells_wf {qid : Nat} {e : EMsg} {n i : Nat} {m m' : Mach} (h : m.mem.wf = true)
    (hc : writeCells qid e i m n = some m') : m'.mem.wf = true := by
  induction n generalizing i m with
  | zero =>
    simp only [writeCells, Option.some.injEq] at hc
    subst hc
    exact h
  | succ n ih =>
    simp only [writeCells] at hc
    split at hc
    · cases hc
    · next m1 h1 => exact ih (writeCell_wf h h1) hc

/-! ### The scratchpad -/

theorem spStore_wf {m : Mach} (off v n : Nat) (h : m.mem.wf = true) : (spStore off v n m).mem.wf = true :=
  Mem.wf_sp h (wf_writeLE _ _ _ ((Mem.wf_iff _).mp h).2.2.1) (wf_dropWhere _ ((Mem.wf_iff _).mp h).2.2.2.1)

/-- A word and its error mark written. -/
theorem spPut_wf {m : Mach} (k v bad : Nat) (h : m.mem.wf = true) :
    Mem.wf { m.mem with sp := writeLE 0 m.mem.sp (8 * k) v 8, spBad := Store.setD 0 m.mem.spBad k bad } = true :=
  Mem.wf_sp h (wf_writeLE _ _ _ ((Mem.wf_iff _).mp h).2.2.1) (wf_setD _ _ ((Mem.wf_iff _).mp h).2.2.2.1)

theorem spWord_wf {m : Mach} (r : SpReq) (ecc : Ecc) (h : m.mem.wf = true) : (spWord r ecc m).2.mem.wf = true := by
  dsimp only [spWord]
  split
  · exact spPut_wf _ _ 0 h
  · split
    · rw [Mach.onHw_mem]
      exact Mem.wf_sp h ((Mem.wf_iff _).mp h).2.2.1 (wf_setD _ _ ((Mem.wf_iff _).mp h).2.2.2.1)
    · dsimp only
      split
      · simp only [Mach.onHw_mem]
        exact spPut_wf _ _ 0 h
      · exact spPut_wf _ _ 0 h

/-- A slot of a ring in B1. -/
theorem slotWrite_wf {m : Mach} (r o v n : Nat) (hr : m.hw.fget F.DM_RCFG_LOC r = 0) (h : m.mem.wf = true) :
    (slotWrite r o v n m).mem.wf = true := by
  simp only [slotWrite, if_pos hr]
  split
  · exact h
  · exact iterN_keeps (P := fun x : Mach => x.mem.wf = true) _ (fun i x hx => spWord_wf _ _ hx) 0 _ h

/-! ### The flash, and the loss of power -/

theorem flashPut_wf {m : Mach} (a : Nat) (bs : List Byte) (h : m.mem.wf = true) : (flashPut m a bs).mem.wf = true :=
  Mem.wf_flash h (wf_writeBytes a bs ((Mem.wf_iff _).mp h).2.2.2.2)

theorem flashErase_wf {m : Mach} (a n : Nat) (h : m.mem.wf = true) : (flashErase m a n).mem.wf = true :=
  Mem.wf_flash h (wf_dropWhere _ ((Mem.wf_iff _).mp h).2.2.2.2)

theorem powerOff_wf {m : Mach} (h : m.mem.wf = true) : (powerOff m).mem.wf = true := Mem.wf_flashOnly h

theorem moduleReset_wf {m : Mach} (cause : Nat) (h : m.mem.wf = true) : (moduleReset cause m).mem.wf = true := by
  have hf : (moduleReset cause m).mem = { Mem.reset with flash := m.mem.flash } := rfl
  rw [hf]
  exact Mem.wf_flashOnly h

end Sys2Proof.Machine
end

