-- ==== Sys2Proof/Tests/Slice0.lean ====
section
/-! SUPPORT. Tests: ill-formed commands that the check refuses, the spec's worked examples, and for every statement with hypotheses
small states that meet them. `h` is the statement itself; each witness applies it, so its hypotheses hold there. -/
namespace Sys2Proof.Tests
open Sys2Proof Sys2Proof.Machine
set_option maxRecDepth 20000
set_option exponentiation.threshold 2000

/-! ### Small states -/

/-- A line is whole where its parts can be checked. -/
theorem wholeOf {m : Mach} {o : Nat}
    (h : (decide (m.hw.storeWord (o / 64 * 64) = none ∧ m.hw.revIn o = []) && m.copyGood (domeMap m.hw o).prim (domeMap m.hw o).addr &&
      (domeMap m.hw o).mirror.all (fun c => m.copyGood c (domeMap m.hw o).addr)) = true) : m.wholeLine o := by
  simp only [Bool.and_eq_true, decide_eq_true_eq, Option.all_eq_true] at h
  exact ⟨h.1.1.1, h.1.1.2, h.1.2, fun c hc => h.2 c hc⟩

/-- A ring in the scratchpad takes a write at once. -/
theorem slotSp {m : Mach} {r : Nat} (h : m.hw.fget F.DM_RCFG_LOC r = 0) : m.slotOpen r := Or.inl h
/-- A small state: the effect of `f` on a machine in FEED-OFF. -/
def wit (f : Hw → Hw) : State := { State.reset with mach := { State.reset.mach with hw := f Hw.reset } }

/-- A machine in FEED-OFF with other memories. -/
def witMem (g : Mem → Mem) (s : State) : State := { s with mach := { s.mach with mem := g s.mach.mem } }

/-- Octet 0 holds four ports: P00 HOST and P01 DOWN. -/
def ports (h : Hw) : Hw :=
  { (h.fset F.FP_PCFG_ROLE 0 1).fset F.FP_PCFG_ROLE 1 2 with fp := { h.fp with layout := [(0, 1)] } }

/-- A pool LD instance of host port 0, vPPB `v`, in state `st`: 128 extents, its table at Dome page 12288. -/
def poolEnt (st v : Nat) : Nat := st + v * 2 ^ 14 + 128 * 2 ^ 36 + 12288 * 2 ^ 64

/-- Tenant 5 is a pool LD instance in state `st`. -/
def wTen (st : Nat) : State := wit (fun h => h.setEnt 5 (poolEnt st 3))

/-- Tenant 5 is BOUND, and BD_TTDATA0-3 hold its entry with HOSTPRIV set. -/
def wWrite : State := wit (fun h => stageEnt (poolEnt 2 3 + 8) (h.setEnt 5 (poolEnt 2 3)))

/-- A tenant table entry of DOWN port 1 is staged for host port 0. -/
def wBind : State := wit (fun h => stageEnt (2 * 2 ^ 5 + 3 * 2 ^ 14 + 2 ^ 23) (ports h))

/-- BUSY of BD_TTSTAT is 1. -/
def wTtBusy : State := wit (fun h => h.fset F.BD_TTSTAT_BUSY 0 1)

/-- Tenant 5 in state `st` with a running sequence. -/
def wSeq (st : Nat) (unbind flushing : Bool) : State :=
  wit (fun h => let h1 := h.setEnt 5 (poolEnt st 3); { h1 with bd := { h1.bd with seqs := [(5, ⟨unbind, 100, flushing⟩)] } })

/-- Tenant 5 has one write under the drain mark that is still to become visible. -/
def wDrain : State :=
  wit (fun h => let h1 := (h.setEnt 5 (poolEnt 2 3)).fset F.BD_TDRAIN_OUT 5 1
                { h1 with bd := { h1.bd with writes := [⟨5, 9, true, false, .cmp, 0, false⟩] } })

/-- Fields set one after the other. -/
def sets (l : List (Fld × Nat × Nat)) (h : Hw) : Hw := l.foldl (fun h x => h.fset x.1 x.2.1 x.2.2) h

/-- The binding state changed. -/
def onBd (f : BdState → BdState) (h : Hw) : Hw := { h with bd := f h.bd }

/-- Two commands: one runs, one waits. -/
def wFm : State := wit (fun h => onBd (fun b => { b with cmdq := [.policy 1 0] }) (h.fset F.BD_TTSTAT_BUSY 0 1))

/-- Ports as in `ports`; tenant 5 is BOUND at vPPB 3 of port 0; commands `q` wait. -/
def wVppb (q : List FmCmd) : State := wit (fun h => onBd (fun b => { b with cmdq := q }) ((ports h).setEnt 5 (poolEnt 2 3)))

/-- Dome of 17 extents of 2 MiB with its store in the last one, READY. -/
def dome (h : Hw) : Hw := sets [(F.DD_TTSFIRST_VAL, 0, 16), (F.DD_DOMEEXT_VAL, 0, 25), (F.DD_STAT_READY, 0, 1), (F.DD_STAT_GRPUSE, 0, 1)] h

/-- The policy record of vPPB 4 of port 0: a pool instance whose table fills the store, no add. -/
def wRec : Nat := 4 * 2 ^ 8 + 2 ^ 17 * 2 ^ 32 + 3 * 2 ^ 128 + 2 ^ 160

/-- A module with that record alone. -/
def wPol : State := wit (fun h => onBd (fun b => { b with policies := [wRec] }) (dome (ports h)))

/-- Tenant 5 of a pool of 16 free extents. -/
def wAdd : State := wit (fun h => (dome (ports h)).setEnt 5 (poolEnt 2 3))

/-- Tenant 5 with extent table entry 7 holding `x`. -/
def wEt (x : Nat) (f : Hw → Hw) : State :=
  witMem (fun m => { m with dome := writeLE 0 [] (12288 * 4096 + 16 * 7) x 16 }) (wit (fun h => f ((dome (ports h)).setEnt 5 (poolEnt 2 3))))

/-- An add of extent 7 that awaits the host. -/
def wAddRec : AddRec := ⟨5, 9, false, 0, [], [], [⟨7, 3⟩], 0, false, false, [⟨9, 7, 1⟩]⟩

/-- Extent 7 of tenant 5 is pending on local extent 3. -/
def wAnswer : State :=
  wEt (etMake false true false 3) (fun h => (onBd (fun b => { b with adds := [wAddRec] }) h).setArec 3 ⟨1, false, false, false⟩)

/-- Extent 7 of tenant 5 is backed by local extent 3; releases in progress `r`. -/
def wRel (r : List RelRec) : State :=
  wEt (etMake true false false 3) (fun h =>
    (sets [(F.BD_TDRAIN_VIS, 5, 1)] (onBd (fun b => { b with rels := r }) h)).setArec 3 ⟨1, false, false, false⟩)

/-- Local extent 3 waits for its zeroing. -/
def wZero : State := wit (fun h => { (h.setArec 3 ⟨0, false, true, false⟩) with dm := { h.dm with zero := [3], zeroed := [3] } })

/-- Peer 2 is ALIVE; BINDCNT of extent 3 is `n`; a DEC awaits the answer with tag 9. -/
def wAlloc (n : Nat) : State :=
  wit (fun h => onBd (fun b => { b with allocs := [⟨3, 2, 9, 2 * 2 ^ 22, 1, 5⟩], rels := [⟨5, 7, 2 * 2 ^ 22, 3⟩] })
    (((sets [(F.SL_STKSTAT_ALIVE, 0, 4)] (dome h))).setArec 3 ⟨n, false, false, false⟩))

/-- Both copies of the allocation record of local extent 3 read as poison. -/
def wRecPois : State :=
  witMem (fun m => { m with lines := [(43690, ⟨false, true⟩), (6 * 2 ^ 40 + 43690, ⟨false, true⟩)] }) (wAlloc 0)

/-- An ACTIVE module. -/
def active (h : Hw) : Hw := sets [(F.CK_PWRSTAT_STATE, 0, 3)] h

/-- The management access state changed. -/
def onMg (f : MgState → MgState) (h : Hw) : Hw := { h with mg := f h.mg }

/-- An ACTIVE module, the window port set for a single 8-byte access. -/
def wMg (f : Hw → Hw) : State := wit (fun h => f (sets [(F.WIN_CTRL_SIZE, 0, 1)] (active h)))

/-- A burst of two reads, one issued. -/
def bRd : Burst := ⟨false, 2, 1, 2, 1, 0, 0, .turret⟩

/-- A 4-byte read beat of space 1 that completes `a`. -/
def bt (a : Option AccSrc) : Beat := ⟨0, 1, 0, 4, false, 0, .turret, a, none⟩

/-- A register read of Turret in domain 3. -/
def pRd : PendAcc := ⟨.turret, .cmd, false, R.BD_XCMISS.addr, 4, 0, 3, false, false⟩

/-- A burst of two reads, its first beat in progress. -/
def wBurst : State := wMg (fun h => sets [(F.WIN_CTRL_BUSY, 0, 1)]
  (onMg (fun m => { m with burst := some bRd, beat := some (bt none) }) h))

/-- A single 4-byte read of space 1 in progress. -/
def wBeat : State := wMg (onMg (fun m => { m with beat := some (bt (some .cmd)) }))

/-- A register read that waits for domain 3. -/
def wPend : State := wMg (onMg (fun m => { m with pend := [pRd] }))

/-- The barrier link is UP. -/
def barUp (h : Hw) : Hw := { h with bc := { h.bc with fab := { BarEnd.down with sync := true, hsent := true, hgot := true, up := true } } }

/-- A REGREQ or vendor command payload: four bytes of address after `pre`. -/
def payl (pre : List Byte) (addr : Nat) (post : List Byte) : List Byte := pre ++ toLE addr 4 ++ post

/-- The module reset asked for with cause 2. -/
def wModReq : State := wit (fun h => { h with ck := { h.ck with modReq := some 2 } })

/-- The fabric reset asked for with cause 2. -/
def wFabReq : State := wit (fun h => { h with ck := { h.ck with fabReq := some 2 } })

/-- CK_LTIME_HI is captured and SW_RTDATA_LO staged. -/
def wWide : State := wMg (onMg (fun m => { m with shadow := [(R.CK_LTIME_HI.addr, 5)], staged := [(R.SW_RTDATA_LO.addr, 6)] }))

/-- The high half of an 8-byte read waits. -/
def wHalf : State := wMg (onMg (fun m => { m with half := some (false, 7) }))

/-- The barrier link is UP and BD_XCMISS holds 9. -/
def wReq : State := wMg (fun h => sets [(F.BD_XCMISS_VAL, 0, 9)] (barUp h))

/-- Tag 9 of the switch core awaits its response. -/
def wTag : State := wit (fun h => h.openTag .sw 9)

/-- A single 4-byte read of space 1 whose line has come. -/
def wBeatR : State := wMg (onMg (fun m => { m with beat := some { bt (some .cmd) with res := some (0x123456789, false) } }))

/-- The same of 8 bytes. -/
def wBeat8 : State :=
  wMg (onMg (fun m => { m with beat := some { bt (some .cmd) with size := 8, res := some (0x123456789, false) } }))

/-- A message of class `c` from crossbar port `ing` for tenant `t`, one cell long. -/
def msg (ing : Nat) (c : MsgCls) (t : Option Nat) (q : Option MemReq) : Msg :=
  { ing := ing, cls := c, tid := t, rid := 9, dest := .named (some 0x20), req := q, q := some 0 }

/-- That message queued at egress port `eg` with `got` of `total` cells. -/
def emsg (m : Msg) (eg got total : Nat) (mc : Option Nat) : EMsg :=
  { msg := m, q := 0, eg := eg, ridx := 0x20, epoch := 0, itime := 0, got := got, total := total, bad := false, mc := mc, gone := false }

/-- Egress queue `qid` holds `q`; `f` adds to the switch core. -/
def wQ (qid : Nat) (q : EQ) (f : Hw → Hw) : State :=
  wit (fun h => f { h with sw := { h.sw with eqs := [(qid, q)], used := 4, tokens := 10 ^ 9 } })

/-- A read of tenant 5 at offset `a`. -/
def rd (a : Nat) : MemReq := ⟨5, .memRd, a, 64, none, 9⟩

/-- The request message of that read. -/
def rdMsg (a : Nat) : Msg := msg 0 .memReqD (some 5) (some (rd a))

/-- Tenant 5 of host port 0 may read; extent 7 is cached as backed by local extent 3; every route is valid. -/
def wPool : State := wit (fun h =>
  let h1 := sets [(F.AG_TDEF_R, 5, 1)] (onBd (fun b => { b with xc := [(xcKey 5 7, etMake true false false 3)] })
    ((dome (ports h)).setEnt 5 (poolEnt 2 3 + 8)))
  { h1 with sw := { h1.sw with routes := (List.range 32).map (fun i => (i, 1 + 16 * 80)) } })

/-- Extent 7 missed in the cache and its entry is in the table. -/
def wMiss : State := wEt (etMake true false false 3) (onBd (fun b => { b with miss := [rdMsg (7 * 2 ^ 21)] }))

/-- Tenant 5 has one request in its pacing queue, with rate `r`. -/
def wPace (r : Nat) (p : Nat) : State := wit (fun h =>
  let h1 := sets [(F.TS_CTRL_PACEEN, 0, 1), (F.TS_PACE_RATE, 5, r), (F.CK_PWRSTAT_STATE, 0, p)] (h.setEnt 5 (poolEnt 2 3))
  { h1 with ts := { h1.ts with pq := [(5, [emsg (rdMsg 0) 80 0 1 none])], s := [(5, 1000)], l := [(5, 64)] } })

/-- An internal message between two block ports. -/
def eInt (ing eg got : Nat) : EMsg := emsg (msg ing .internal none none) eg got 1 none

/-- A non-posted request of a block port. -/
def eNp : EMsg := emsg (msg 81 .ioNp none none) 80 1 1 none

/-- A multicast copy. -/
def eMc : EMsg := emsg (msg 81 .ioPost none none) 1 1 1 (some 4)

/-- The switch core changed. -/
def onSw (f : SwState → SwState) (h : Hw) : Hw := { h with sw := f h.sw }

/-- Route entry `i` holds `e`; SW_RTDATA_LO holds `lo`. -/
def wRoute (i e lo : Nat) : State := wit (fun h => onSw (fun w => { w with routes := [(i, e)] }) (sets [(F.SW_RTDATA_LO_VAL, 0, lo)] h))

/-- BUSY of SW_RTSTAT is 1. -/
def wRtBusy : State := wit (sets [(F.SW_RTSTAT_BUSY, 0, 1)])

/-- One internal message waits in a VOQ. -/
def wVoq : State := wit (fun h => onSw (fun w => { w with voq := [eInt 80 81 0] }) (sets [(F.SW_CTRL_SPEN, 0, 0), (F.SW_CTRL_ITERS, 0, 2)] h))

/-- An egress queue with one message in HEAD. -/
def qHead (e : EMsg) : EQ := { EQ.empty with head := [e] }

/-- An egress queue with one message in HEAD and one in DOME. -/
def qBoth (e : EMsg) : EQ := { EQ.empty with head := [e], dome := [e] }

/-- The head of queue 16 is 1 s old. -/
def wAged : State := wQ 16 (qHead eNp) (fun h => { h with stime := 10 ^ 9 })

/-- A spilling queue: STAGE and DOME hold a message each. -/
def wSpill : State :=
  wQ 16 { EQ.empty with spilling := true, stage := [eNp], dome := [eNp], pages := [(3, 1, 0)], wseq := 1 } (sets [(F.SW_CTRL_SPEN, 0, 1)])

/-- A spilling queue whose refill read is outstanding. -/
def wRefill : State :=
  witMem (fun m => { m with dome := writeLE 0 [] (3 * 2 ^ 21) (5 * 2 ^ 104) 16 })
    (wQ 16 { EQ.empty with spilling := true, reading := true, dome := [eNp], pages := [(3, 1, 0)], rseq := 5 }
      (fun h => h.openTag .sw 16))

/-- A spilling queue with nothing in DOME. -/
def wStage : State := wQ 16 { EQ.empty with spilling := true, stage := [eNp] } (sets [(F.SW_CTRL_SPEN, 0, 1)])

/-- A multicast with `n` legs left, one of them being sent. -/
def wLegs (n : Nat) : State := wQ 16 (qHead eMc) (onSw (fun w => { w with legs := [(4, (n, 1))], sending := [(4, 16)] }))

/-- HALT is `v`. -/
def wHalt (v : Nat) : State := wit (sets [(F.SW_CTRL_HALT, 0, v)])

/-- An audit runs with two cells leaked and three in use. -/
def wAudit : State := wit (fun h => onSw (fun w => { w with used := 3, leak := 2 }) (sets [(F.SW_AUDSTAT_BUSY, 0, 1)] h))

/-- A shaper with credit below 0 whose queue was non-empty. -/
def wShaper : State :=
  wQ 17 (qHead eNp) (fun h => { (sets [(F.TS_SHCFG_ISLOPE, 16, 7)] h) with ts := { h.ts with held := [16], cred := [(16, -40)] } })

/-- The sampler is enabled. -/
def wSample : State := wQ 17 (qBoth eNp) (sets [(F.TS_CTRL_SAMPEN, 0, 1)])

/-- One valid route to the block port 81. -/
def wIngress : State := wRoute 0x20 (1 + 16 * 81) 0

/-- The same, with a request of block port 80 that waits for a translation. -/
def wBehind : State :=
  { wIngress with mach := wIngress.mach.onHw (onBd (fun b => { b with miss := [{ rdMsg 0 with ing := queueSet wIngress.mach.hw 80 }] })) }

/-- The same, and bus number 7 of block port 80 is bound to that entry. -/
def wBus80 : State :=
  { wIngress with mach := wIngress.mach.onHw (onSw (fun w => { w with idMap := [(queueSet wIngress.mach.hw 80 * 256 + 7, 0x20)] })) }

/-- A data mover descriptor: opcode, flags, source, destination, length. -/
def dsc (opc flags src dst len : Nat) : Nat := opc + flags + src * 2 ^ 64 + dst * 2 ^ 128 + len * 2 ^ 192

/-- Ring 3 in the scratchpad, 16 slots, enabled, with one job of descriptor `d` at its head. -/
def ring (h : Hw) : Hw := sets [(F.DM_RCFG_EN, 3, 1), (F.DM_RCFG_SIZE, 3, 4), (F.DM_RTAIL_VAL, 3, 1), (F.DM_CTRL_ENGEN, 0, 255)] h

/-- A module with that ring. -/
def wRing (d : Nat) (f : Hw → Hw) : State :=
  witMem (fun m => { m with sp := writeLE 0 [] 0x200000 d 64 }) (wit (fun h => f (ring h)))

/-- A ring that is not enabled. -/
def wRcfg : State := wit (sets [(F.DM_RCFG_EN, 3, 0)])

/-- Job `j` of ring 3 runs. -/
def wJob (j : DmJob) (f : Hw → Hw) : State :=
  wit (fun h => let h1 := f (ring h); { h1 with dm := { h1.dm with jobs := [(3, j)] } })

/-- A job of descriptor `d` on engine `e` in a phase. -/
def jb (d : Nat) (e : Option Nat) (p : DmPhase) : DmJob := DmJob.fresh d e p

/-- A VERIFY of one line at GPA 0x40 against the pattern 0. -/
def dVer : Nat := dsc 3 (16 + 2 ^ 8) 0x40 0 64

/-- A MIGRATE START of local extent 3 to local extent 4, or an ABANDON. -/
def dMig (op : Nat) : Nat := dsc 2 (op * 2 ^ 48) 3 4 0x200000

/-- Extent 7 of tenant 5 maps local extent 3; migration record 2 is held by ring 3 in state `st` at WMARK `wm`. -/
def wMig (v st wm : Nat) (p : DmPhase) (d : Nat) (eng : Option Nat) : State :=
  wEt (etMake true false false 3) (fun h =>
    let h1 := onBd (fun b => { b with rev := [(0, ⟨3, 5, 7, revEnd⟩)], heads := [(revHash 3, 0)] }) (sets [(F.DM_MIGSRC_V, 2, v), (F.DM_MIGSRC_SRCEXT, 2, 3),
      (F.DM_MIGDST_DSTGEXT, 2, 4), (F.DM_MIGPOS_STATE, 2, st), (F.DM_MIGPOS_WMARK, 2, wm), (F.DM_MIGPOS_RING, 2, 3),
      (F.BD_TDRAIN_VIS, 5, 1)] (ring (h.setArec 3 ⟨1, false, false, false⟩)))
    { h1 with dm := { h1.dm with jobs := [(3, { DmJob.fresh d eng p with mig := if v = 1 ∧ p ≠ .idle then some 2 else none })] } })

/-- The migration lock of line `n` of local extent 3. -/
def lockReq (n : Nat) : HReq := { agent := 1024, kind := .lock, la := 3 * 2 ^ 15 + n, tag := 2 }

/-- Its transaction with the line's data. -/
def lockTxn (n v : Nat) : HTxn :=
  ⟨lockReq n, .snp, DirEnt.fresh 0 0, DirEnt.fresh 0 0, [], [], 0, [], false, false, some (v, false), false, none, false, false⟩

/-- The lock of line 2 is complete and waits for its copy. -/
def wCopied : State :=
  let s := wMig 1 0 2 .copying (dMig 0) (some 1)
  { s with mach := s.mach.onHw (fun h => { h with hd := { h.hd with txns := [(64 * sliceOf (3 * 2 ^ 15 + 2), lockTxn 2 99)] } }) }

/-- A lock waits in its engine. -/
def wLock : State :=
  wit (fun h => { h with hd := { h.hd with locks := [lockReq 2] } })

/-- System masters may read. -/
def sysR (h : Hw) : Hw := sets [(F.AG_SYSDEF_R, 0, 1)] h

/-- A job whose window of `n` bytes is written. -/
def jbW (d n : Nat) : DmJob := { DmJob.fresh d (some 1) .writing with winLen := n }

/-- A job that copies with migration record 2. -/
def jbM (d : Nat) : DmJob := { DmJob.fresh d (some 1) .copying with mig := some 2 }

/-- A job that drains with migration record 2. -/
def jbD (d : Nat) : DmJob := { DmJob.fresh d none .draining with mig := some 2 }

/-- Tenant 5 of host port 0 is DRAINING. -/
def wStopped : State := wit (fun h => (dome (ports h)).setEnt 5 (poolEnt 3 3))

/-- The same with its refill read outstanding. -/
def wSpillR : State :=
  wQ 16 { EQ.empty with spilling := true, stage := [eNp], dome := [eNp], pages := [(3, 1, 0)], wseq := 1, reading := true }
    (sets [(F.SW_CTRL_SPEN, 0, 1)])

/-- A multicast of two legs left: the copy of the second is at the head. -/
def wLegs2 : State := wQ 16 (qHead { eMc with leg := 1 }) (onSw (fun w => { w with legs := [(4, (2, 1))] }))

/-- The home changed. -/
def onHd (f : HdState → HdState) (h : Hw) : Hw := { h with hd := f h.hd }

/-- A coherence message of agent `src` for line 5 of this module. -/
def coh (src txn : Nat) (owned : Bool) : Coh := ⟨false, false, owned, src, 0, txn, 5, 77, 0, 0⟩

/-- The agent ID of the Cupola of stack ID `c`. -/
def cup (c : Nat) : Nat := 128 * c + 72

/-- The directory entry of line 5 in state `st` with holder code `c`. -/
def dEnt (st c : Nat) : DirEnt := ⟨0, st, false, 0, 0, false, packPtrs [c]⟩

/-- Line 5 is listed so. -/
def wDir (e : DirEnt) : State := wit (onHd (fun d => { d with dir := [(5, e)] }))

/-- Tenant 5, an HDM-DB one, of host port 0 is BOUND. -/
def wDb : State := wit (fun h => h.setEnt 5 (poolEnt 2 3 + 16))

/-- The transaction of a request `r` for line 5 in a phase, with the snooped Cupolas, the hosts asked, whether it reads Dome, and its
entry and target. -/
def txn5 (r : HReq) (p : HPhase) (snps : List Nat) (bis : List (Nat × Nat × Nat)) (reading : Bool) (tgt : DirEnt) : HTxn :=
  ⟨r, p, tgt, tgt, snps, bis, 2, [], false, reading, none, false, none, false, false⟩

/-- A request of the Cupola of stack ID 1 for line 5. -/
def req5 (k : HKind) : HReq := { agent := cup 1, kind := k, la := 5, tag := 9 }

/-- The home holds transaction `t` in record `k`, and a Fence of agent 200 waits. -/
def wTxn (k : Nat) (t : HTxn) : State := wit (onHd (fun d => { d with txns := [(k, t)], dir := [(5, t.tgt)], fences := [(200, 3, 0)] }))

/-- A read of line 5 by a master that does not cache. -/
def nc5 : HReq := { agent := 1024, kind := .ncRead, la := 5, tag := 9, msg := some (msg 2 .memReqD (some 5) none) }

/-- The transaction that waits for the Cupolas of stack IDs 1 and 2 and for host port 0 twice. -/
def tSnp (k : HKind) : HTxn := txn5 (req5 k) .snp [1, 2] [(0, 5, 7), (0, 6, 7)] false (dEnt 1 73)

/-- The transaction of a non-caching read that waits for Dome. -/
def tNc : HTxn := txn5 nc5 .snp [] [] true (DirEnt.fresh 0 0)

/-- The transaction that waits for its requester's Ack. -/
def tGnt : HTxn := txn5 (req5 .cOwn) .gnt [] [] false ((dEnt 1 73).mkX 73)

/-- Dome channel 0 is ACTIVE. -/
def wCh : State := wit (sets [(F.DD_CHSTAT_STATE, 0, 1)])

/-- The settings of shaper 16 were written in the slot that has just ended, and its port is sending. -/
def wShNew : State :=
  { wShaper with mach := wShaper.mach.onHw (fun h =>
      { h with ts := { h.ts with shOld := [(16, (3, 1, 1))], shNew := [16] }, sw := { h.sw with inTx := [(1, eNp)] } }) }

/-- No ring is enabled and local extent 3 waits to be zeroed by Turret's own ring. -/
def wOwn : State := { wZero with mach := wZero.mach.onHw (fun h =>
  { (sets [(F.DM_CTRL_ENGEN, 0, 255)] h) with dm := { h.dm with zeroed := [] } }) }

/-- A Fence of agent 200 behind five frames that have not come. -/
def wFence : State := wit (onHd (fun d => { d with fences := [(200, 3, 5)] }))

/-- The transaction of one line of a CXL.io read that waits for Dome. -/
def tIo : HTxn := txn5 { nc5 with msg := some (msg 2 .ioNp (some 5) (some (rd 320))) } .snp [] [] true (DirEnt.fresh 0 0)

/-- The same, and the store begins after extent 0, so that offset 0 has one copy. -/
def wCh1 : State := wit (sets [(F.DD_CHSTAT_STATE, 0, 1), (F.DD_TTSFIRST_VAL, 0, 1)])

/-- The Cupola changed. -/
def onCu (f : CuState → CuState) (h : Hw) : Hw := { h with cu := f h.cu }

/-- A Cupola line in state `st` with no host holder. -/
def cl (st : Nat) : CuLine := ⟨0, st, false, 0, false, 77, false⟩

/-- Line 5 of the Cupola is in state `st`. -/
def wLine (st : Nat) : State := wit (onCu (fun c => { c with lines := [(5, cl st)] }))

/-- A Cupola record of line 5 in transient state `tr`. -/
def cr (tr : CuTr) (part : Option (Nat × Nat × Bool)) (backoff : Bool) : CuRec :=
  ⟨5, tr, 0, part, false, 3, backoff, [], [], (0, false)⟩

/-- The Cupola holds that record in place 6. -/
def wRec6 (c : CuRec) : State := wit (onCu (fun u => { u with recs := [(6, c)] }))

/-- A host step of line 5 that waits for host port 0 twice. -/
def cStep : CuStep := ⟨5, [(0, 5, 7), (0, 6, 7)], [], [], true, false, .drop 5, []⟩

/-- That step runs. -/
def wStep : State := wit (onCu (fun u => { u with steps := [cStep] }))

/-- System masters may read and write. -/
def sysRW (h : Hw) : Hw := sets [(F.AG_SYSDEF_R, 0, 1), (F.AG_SYSDEF_W, 0, 1)] h

/-- A FILL and a COPY of one line to GPA 0x80. -/
def dFil : Nat := dsc 1 (2 ^ 10) 0 0x80 64
def dCpy : Nat := dsc 0 (2 ^ 8 + 2 ^ 10) 0x40 0x80 64

/-- The one access of ring 3's window. -/
def acc (u : DmUse) (g : Nat) (st : DmAccSt) (v : Nat) (p : Bool) : DmAcc := ⟨3, u, 0, 64, g, st, v, 0, p, false⟩

/-- Its job in a phase with the whole line in its window. -/
def jAcc (d : Nat) (p : DmPhase) : DmJob := { jb d (some 1) p with winLen := 64 }

/-- Ring 3 runs the job `j` whose window has the access `a`. -/
def wAcc (j : DmJob) (a : DmAcc) : State := wJob j (fun h => { h with dm := { h.dm with accs := [(7, a)] } })

/-- Line 5 of module 1 is held here in state `st`. -/
def wLineR (st : Nat) : State := wit (onCu (fun c => { c with lines := [(2 ^ 37 + 5, cl st)] }))

/-- Ring 3's FENCE waits for the answer of module 1. -/
def jFence : DmJob := { jb 4 none .fence with peers := [1] }
def wDmFence : State := wJob jFence (fun h => h.openTag .dm 3)

/-- Agent `a` is dead; the reclaim walk runs over it or has ended for it. -/
def wDead (a busy : Nat) (d : DeadRec) (walk : SMap Nat) : State :=
  wit (fun h => onHd (fun x => { x with dead := [d], walk := walk })
    (sets [(F.HD_RCLSTAT_BUSY, 0, busy), (F.HD_DEAD_VAL, a / 32, 2 ^ (a % 32)), (F.FP_LSTAT_UP, a % 128, 1)] h))

/-- The reclaim walk has passed every set. -/
def walked : SMap Nat := (List.range 16).map (fun l => (l, 16384 * 16))

/-- DS16 in role `r`, slices in failure `f`, the rebuild at `pos` for the slice of line 5, Cupola 1 ALIVE. -/
def wSlice (r : Nat) (f : List Nat) (pos : Nat) : State :=
  wit (fun h => onHd (fun x => { x with failing := f, rbPos := pos })
    (sets [(F.HD_SLSTAT_ROLE, 16, r), (F.HD_SLSTAT_LSLICE, 16, sliceOf 5), (F.SL_STKSTAT_ALIVE, 0, 2)] (dome h)))

/-- The same, with the hint of line 5 set. -/
def wHint : State :=
  witMem (fun m => { m with lines := [((domeMap (wSlice 2 [] 0).mach.hw 320).prim * 2 ^ 40 +
    (domeMap (wSlice 2 [] 0).mach.hw 320).addr / 64, ⟨true, false⟩)] }) (wSlice 2 [] 0)

/-- Spire port 0 in state `st` with link state `l`. -/
def wPort (st : Nat) (l : SlPort) (f : Hw → Hw) : State :=
  wit (fun h => let h1 := f (sets [(F.SL_PSTAT_STATE, 0, st), (F.SL_PCFG_EN, 0, 1), (F.SL_STACK_NMOD, 0, 2)] h)
                { h1 with sl := { h1.sl with ports := [(0, l)] } })

/-- A Spire frame. -/
def frm : SlFrame := ⟨1, 0, 0, 4, 3, 0, false, false, 99⟩

/-- A port with one flit to acknowledge. -/
def pUn : SlPort := { SlPort.fresh with unacked := [(5, 0, frm)] }

/-- The directions of port 0 are in sleep state `v`. -/
def wSleep (v : Nat) : State :=
  wPort 2 SlPort.fresh (sets [(F.SL_PSTAT_TXPS, 0, v), (F.SL_PCFG_S1EN, 0, 1), (F.SL_PCFG_S2EN, 0, 1)])

/-- A stack of two: peer 1 in state `st` with transport state `p`, reached through Spire port 0, which is UP; this module is `sid`. -/
def wPeer (sid d st : Nat) (p : SlPeer) (f : Hw → Hw) : State :=
  wPort 2 SlPort.fresh (fun h =>
    let h1 := f (sets [(F.SL_STKSTAT_SID, 0, sid), (F.SL_PEERSTAT_STATE, d, st), (F.SL_PEERSTAT_INC, d, 7), (F.SL_PSTAT_PEER, 0, d),
      (F.SL_STACK_NMOD, 0, 1), (F.SL_STKSTAT_MASTER, 0, d)] h)
    onSw (fun w => { w with routes := [(d, 1 + 16 * 72)] }) { h1 with sl := { h1.sl with peers := [(d, p)] } })

/-- Frame 5 to peer 1 is not yet freed. -/
def uf : Nat × SlFrame × Nat := (5, { frm with tseq := 5 }, 4)

/-- A peer with that frame. -/
def pUf : SlPeer := { SlPeer.fresh with unfreed := [uf], nsend := 6, old := 5 }

/-- A frame of type `t` from peer 1. -/
def fFrom (t n : Nat) : SlFrame := ⟨0, 1, 1, t, n, 0, false, false, 99⟩

/-- A back-invalidation of host port 3 is unanswered. -/
def wBi : State := wit (onBd (fun b => { b with flush := [(3, 5, 7, 5)] }))

/-- Port 0 is HOST and port 1 DOWN, of maximum rate 32 GT/s; further fields `l`. -/
def wFp (l : List (Fld × Nat × Nat)) (f : FpState → FpState) : State :=
  wit (fun h => let h1 := sets l (sets [(F.FP_PCFG_MAXRATE, 0, 4), (F.FP_PCFG_MAXRATE, 1, 4)] (ports h))
                { h1 with fp := f h1.fp })

/-- A secure IDE stream. -/
def ides : IdeStream := ⟨1, false, 1, true, false⟩
/-- Host port 0 in its grace time. -/
def fGrace (f : FpState) : FpState := { f with grace := [0] }
/-- The reference clock of connector group 0 is stable. -/
def fRef (f : FpState) : FpState := { f with refOk := [0] }
/-- The same, and a Secondary Bus Reset holds port 1. -/
def fSbr (f : FpState) : FpState := { f with refOk := [0], sbr := [1] }
/-- One equalisation failure of port 1 at rate 4. -/
def fEq (f : FpState) : FpState := { f with eqFails := [(1, 4)] }
/-- Octet 0 without lock. -/
def fUnl (f : FpState) : FpState := { f with octUnlocked := [0] }
/-- A secure stream 5 of port 1. -/
def fIde (f : FpState) : FpState := { f with ide := [(256 + 5, ides)] }
/-- No octet is configured. -/
def fNone (f : FpState) : FpState := { f with layout := [] }
/-- Octet 0 holds one port of eight lanes. -/
def fWide (f : FpState) : FpState := { f with layout := [(0, 5)] }
/-- Octet 0 holds port 0 alone in use. -/
def lOne : List (Fld × Nat × Nat) := [(F.FP_PCFG_ROLE, 1, 0)]
/-- Octet 0 is one x8 port. -/
def fOct (f : FpState) : FpState := { f with layout := [(0, 5)] }

/-- The initialisation of Dome runs. -/
def wInit : State := wit (fun h => { h with dd := { h.dd with initRun := true } })

/-- Channel 0 is ACTIVE with 8 × 2^24 lines and at scrub position 9; READY. -/
def wScrub : State :=
  wit (sets [(F.DD_CHSTAT_STATE, 0, 1), (F.DD_CHCAP_VAL, 0, 8), (F.DD_SCRPOS_LO_VAL, 0, 9), (F.DD_STAT_READY, 0, 1), (F.DD_CFG_SCRUBEN, 0, 1)])

/-- Dome holds bytes in line 5. -/
def wData : State := witMem (fun m => { m with dome := writeLE 0 [] 320 0x0807060504030201 8 }) (wit dome)

/-- A scratchpad access of `master` at offset `off`. -/
def spr (master off : Nat) (op : SpOp) : SpReq := ⟨master, 0xE000, off, op, if master = 1 then 8 else 4, 255, 0xA5A55A5A⟩

/-- The scratchpad word at 0x200008 holds data. -/
def wSp : State := witMem (fun m => { m with sp := writeLE 0 [] 0x200008 0x1122334455667788 8 }) (wit id)

/-- The same, with an access that waits. -/
def wSpWait (r : SpReq) : State :=
  let s := wSp
  { s with mach := s.mach.onHw (fun h => { h with sp := ⟨[(1, r)], []⟩ }) }

/-- AG_RDDATA0-3 hold descriptor `d`, and descriptor 7 is set. -/
def wDesc (d : Nat) : State :=
  wit (fun h => let h1 := sets [(F.AG_RDDATA0_VAL, 0, d), (F.AG_RDDATA1_VAL, 0, d / 2 ^ 32), (F.AG_RDDATA2_VAL, 0, d / 2 ^ 64),
    (F.AG_RDDATA3_VAL, 0, d / 2 ^ 96), (F.AG_VINFO_VALID, 0, 1)] h
                { h1 with ag := ⟨[(7, 0x123456789)], []⟩ })

/-- A fault message of a code in a domain. -/
def fm (code dom dinst : Nat) : FMsg := ⟨100, 0x40, code, 0xFFFF, 0, 0, dom, 0, dinst, 0, 0, 0⟩

/-- The queue of position `p` holds `x`; further fields `l`. -/
def wFault (p : Nat) (x : FMsg) (l : List (Fld × Nat × Nat)) : State :=
  wit (fun h => (sets ([(F.FC_CTRL_FEMIN, 0, 3), (F.FC_ALM_CTRL_ALMMIN, 0, 3), (F.FC_CTRL_PERSMIN, 0, 3)] ++ l) h).setQueue p [x])

/-- Tenant 5's domain is in fault state `x`; its entry has STATE `st`; its class LIMIT is `lim`. -/
def wDom (x : Dom) (st lim : Nat) : State :=
  wit (fun h => ((sets [(F.FC_DCFG_LIMIT, 2, lim), (F.FC_DSEL_VAL, 0, 133)] h).setEnt 5 (poolEnt st 3)).setDom 133 x)

/-- A contained domain whose quiet timer runs. -/
def dTimer : Dom := ⟨1, 1, true, 2, 0, 0, true, false, true, false⟩

/-- A LATCHED domain. -/
def dLat : Dom := ⟨2, 1, true, 2, 3, 0, false, false, true, false⟩

/-- An ACTIVE module that may enter STANDBY. -/
def wStandby : State := wit (fun h => sets [(F.CK_PWRCFG_SBEN, 0, 1), (F.SL_PCFG_EN, 1, 1)] (active h))

/-- A module in power state `v` with further fields `l`. -/
def wPwr (v : Nat) (l : List (Fld × Nat × Nat)) : State := wit (sets ((F.CK_PWRSTAT_STATE, 0, v) :: l))

/-- The fabric side is supplied. -/
def wOn : State := wit (fun h => { h with ck := { h.ck with on := true } })

/-- The ports of `ports`, an ACTIVE Dome channel 1 with errors counted, and a BOUND tenant 1. -/
def wRst : State := wit (fun h => sets [(F.DD_CHSTAT_STATE, 1, 1), (F.DD_CECNT_VAL, 1, 5)] ((ports h).setEnt 1 (poolEnt 2 3)))

/-- DOWN port 1's link is up. -/
def wRstUp : State := wit (fun h => sets [(F.FP_LSTAT_UP, 1, 1)] (ports h))

/-- BUSY of CK_RSTSTAT is 1. -/
def wRstBusy : State := wit (sets [(F.CK_RSTSTAT_BUSY, 0, 1)])

/-- The TAP in state `d`, in power state `pwr`, at unlock level `lvl`, with further fields `l`. -/
def wTap (d : DtState) (pwr lvl : Nat) (l : List (Fld × Nat × Nat)) : State :=
  wit (fun h => { (sets ([(F.CK_PWRSTAT_STATE, 0, pwr), (F.DT_DBGSTAT_LEVEL, 0, lvl)] ++ l) h) with dt := d })

/-- The TAP with the nonce 77 captured at time 0. -/
def dNonce : DtState := { DtState.idle with nonce := some (77, 0) }

/-- A verification without a nonce in time. -/
def vOld : DtVerify := ⟨none, 1⟩

/-- That verification runs after two failures. -/
def dVerify : DtState := { DtState.idle with verify := some vOld, fails := [0, 0] }

/-- The nonce 77 is 61 s old. -/
def wStale : State :=
  let s := wTap dNonce 3 0 []
  { s with mach := s.mach.onHw (fun h => { h with ck := { h.ck with recNs := 61000000000 } }) }

/-- A self-test of targets 6 runs. -/
def dBist : DtState := { DtState.idle with bist := some 6 }

/-- The ends of the barrier channel, with SWLVL 1. -/
def wBar (f w : BarEnd) (c : BcState → BcState) : State :=
  wit (fun h => let h1 := sets [(F.FC_ALM_CTRL_SWLVL, 0, 1)] h
                { h1 with bc := c { h1.bc with fab := f }, wt := { h1.wt with on := true, bar := w } })

/-- An end that is synchronised, with HELLO sent or received. -/
def eSync (hs hg : Bool) : BarEnd := { BarEnd.down with sync := true, hsent := hs, hgot := hg }

/-- An end that is UP, with unacknowledged frames. -/
def eUp (u : List BFrame) : BarEnd := { BarEnd.down with sync := true, hsent := true, hgot := true, up := true, tx := 6, unacked := u }

/-- A sequenced frame sent once. -/
def bf : BFrame := ⟨5, 0x21, [1], 1⟩

/-- ALARM 9 of 60 % is unacknowledged. -/
def cAlarm (b : BcState) : BcState := { b with alarms := [(9, 60)] }

/-- A telemetry sample. -/
def tel0 : Telem := ⟨false, true, 480, 481, 479, 3, 300⟩

/-- Watchtower in state `ws`, running, seated and fed, changed by `f`; the fabric end's link is down. -/
def wWt (ws : Nat) (f : WtState → WtState) : State :=
  wit (fun h => { h with wt := f { h.wt with on := true, ws := ws, seat1 := true, seat2 := true, aOk := true, bOk := true } })

/-- The gate is `g`. -/
def gGate (g : Nat) (w : WtState) : WtState := { w with gate := g }
/-- A release is in progress. -/
def gRel (w : WtState) : WtState := { w with rel := true }
/-- No feed is valid, with PGOOD `p`. -/
def gNoFeed (p : Bool) (w : WtState) : WtState := { w with aOk := false, bOk := false, pgood := p }
/-- The gate is fully on, PGOOD and PFW are `g` and `f`. -/
def gOn (g f : Bool) (w : WtState) : WtState := { w with gate := 2, pgood := g, pfw := f, conv := g }
/-- The gate is off, and PGOOD still stands. -/
def gOff (w : WtState) : WtState := { w with gate := 0, pgood := true, conv := true }
/-- Seating pin 2 alone is asserted. -/
def gLift (w : WtState) : WtState := { w with seat1 := false, rel := true }
/-- The ramp runs with the fault timer on. -/
def gTmr (w : WtState) : WtState := { w with gate := 1, ftmr := true }
/-- No retry limit. -/
def gLim (w : WtState) : WtState := { w with cfg := List.replicate 16 0, gate := 1, ftmr := true }
/-- One retry short of the limit. -/
def gLast (w : WtState) : WtState := { w with gate := 1, ftmr := true, retries := 14 }
/-- Overvoltage. -/
def gOv (w : WtState) : WtState := { w with ov := true }
/-- The converter runs on without PGOOD. -/
def gConv (w : WtState) : WtState := { w with conv := true }

/-- The chassis bus and the channel: Watchtower's end `e`, PGOOD, changed by `f`; the fabric end UP. -/
def wBus (e : BarEnd) (f : WtState → WtState) : State :=
  wit (fun h => { h with wt := f { h.wt with on := true, pgood := true, bar := e }, bc := { h.bc with fab := eUp [] },
                         ck := { h.ck with on := true, por := true } })

/-- A packet is being written with `n` tries. -/
def gOut (n : Nat) (w : WtState) : WtState := { w with mout := some ([1, 2, 3], n) }
/-- The latest ALARM acted on was 9, and its pulse runs. -/
def gPulse (w : WtState) : WtState := { w with lastAlarm := some 9, pulse := true, swNext := some true }

/-- A start-up is asked for with cause 2; the boot control block is spoilt or not. -/
def wBoot (bad : Bool) : State :=
  witMem (fun m => { m with flash := if bad then [(0, 0)] else [] }) (wit (fun h => { h with ck := { h.ck with boot := some 2 } }))

/-- A trial of slot 1 in an ACTIVE module; one entry is due for the persistent log. -/
def wTrial : State :=
  wit (fun h => let h1 := sets [(F.ID_BOOTSTAT_TRIAL, 0, 1), (F.ID_BOOTSTAT_ACTSLOT, 0, 1)] (active h)
                { h1 with fc := { h1.fc with persist := [fm 0x2801 2 5] } })

/-- The load engine in state `l` with fields `f`. -/
def wLd (l : LdState) (f : List (Fld × Nat × Nat)) : State := wit (fun h => { (sets f (active h)) with ld := l })

/-- A session on a slot. -/
def lOpen (k : Nat) : LdState := { LdState.idle with session := some k }

/-- A running command of slot 0 at offset 0x100. -/
def lRun (op : Nat) (s : Option Nat) : LdState := { LdState.idle with session := s, run := some (op, 0, 0x100, 3), buf := [1, 2, 3] }

/-- A transfer to slot 1 runs. -/
def lFw : LdState := { LdState.idle with fw := some ⟨1, [], []⟩ }

/-- ID_LDOFF 0x100 and ID_LDLEN 0x200. -/
def fLd : List (Fld × Nat × Nat) := [(F.ID_LDOFF_VAL, 0, 0x100), (F.ID_LDLEN_VAL, 0, 0x200), (F.ID_SLOTSTAT_STATEA, 0, 2), (F.CK_PWRSTAT_STATE, 0, 3), (F.ID_BOOTSTAT_PHASE, 0, 4)]

/-- HOLD for the persistent counters. -/
def fHold : List (Fld × Nat × Nat) := [(F.CK_PWRSTAT_STATE, 0, 4), (F.ID_BOOTSTAT_HOLDWHY, 0, 3), (F.ID_BOOTSTAT_PHASE, 0, 5)]

/-- Both copies of the certificate chain hold four bytes. -/
def wChain (f : List (Fld × Nat × Nat)) : State :=
  witMem (fun m => { m with flash := [(0x10000, 4), (0x10001, 0), (0x10002, 7), (0x10003, 8), (0x18000, 4), (0x18001, 0), (0x18002, 7),
    (0x18003, 8)] }) (wLd LdState.idle f)

/-- The Cupola line 5 in state S, snooped. -/
def wShared : State := wLine 1

/-- Ring 3 in Dome, enabled: the second half of its slot 0 is a context area. -/
def wDmRing : State := wit (fun h => (ring (dome h)).fset F.DM_RCFG_LOC 3 1)

/-- A tenant of the guard test asks to read one part. -/
def greq (priv : Bool) (tid : Option Nat) : GReq := ⟨tid, 0x1000, 64, priv, [.r], 0xC000⟩

/-! ### Ill-formed commands -/

/-- A well-formed message. -/
def okMsg : Msg := { ing := 0, cls := .memReqD }

/-- A well-formed coherence message. -/
def okCoh : Coh := ⟨false, false, false, 0, 0, 0, 0, 0, 0, 0⟩

/-- A well-formed frame. -/
def okFrame : SlFrame := ⟨0, 0, 0, 0, 0, 0, false, false, 0⟩

/-- A well-formed fault message. -/
def okFault : FMsg := ⟨0, 0, 0, 0, 0, 0, 0, 0, 0, 0, 0, 0⟩

/-- A well-formed add. -/
def okAdd : AddReq := ⟨0, 0, 0, [], 0, [], none, 0⟩

/-- The rates, lanes and modes of a link that can train. -/
def okRates : RateSet := ⟨1, false⟩
def okLanes : LaneSet := ⟨3, 1, false⟩
def okModes : ModeSet := ⟨false, false, true⟩

/-- What the terms below differ from is well formed. -/
theorem test_well_formed : (Instr.linkUp 0 okRates okLanes okModes false 0).wellFormed = true ∧
    okMsg.ok = true ∧ okCoh.ok = true ∧ okFrame.ok = true ∧ okFault.ok = true ∧ okAdd.ok = true := by decide

/-- The check refuses each of these. -/
theorem test_ill_formed_1 : ([
    .joinReceive 0 0 65536 false,
    .spireAckReceive 0 16777216,
    .transferFw .turret 8 0 0 [] false,
    .registerWrite .turret (2 ^ 32) 0 0,
    .homeBirsp 0 0 (2 ^ 52) .i,
    .hdDeadClear 1024,
    .spireFlitReceive 0 0 0 1024 false ⟨0, 0⟩,
    .scratchpadPortBAccess 4 [] none .good,
    .response (2 ^ 1032),
    .dbgacc false (2 ^ 41),
    .scrubRead 12 .good false,
    .resetNotice 38,
    .homeHostRequest okMsg .rdAny 0 (2 ^ 512) 0 [],
    .smbusResetRequest false 256,
    .timeReceive 0 0 256,
    .quietTimerExpiry 8320] : List Instr).all (fun i => !i.wellFormed) = true := by decide

/-- The check refuses each of these. -/
theorem test_ill_formed_2 : ([
    .spireTraining 0 0 0 0 ⟨2 ^ 64, 0⟩ 0,
    .releaseBiDone 0 (2 ^ 25),
    .homeHostRequest okMsg .rdAny 0 0 (2 ^ 64) [],
    .copy 8,
    .extentZeroDone (2 ^ 22),
    .bistEnd 64,
    .allocClaim 0 0 (2 ^ 22) 0,
    .spireFlitReceive 0 0 1024 0 false ⟨0, 0⟩,
    .spireFlitReceive 0 4 0 0 false ⟨0, 0⟩,
    .homeHostRequest okMsg .rdAny (2 ^ 52) 0 0 [],
    .refclkWindow 9 false,
    .agRdcmdNop .turret 65536,
    .heartbeatReceive 0 65536,
    .spdmGetMeasurements 0 256 0 false,
    .ckRstcmdPort .turret 8192,
    .bypass 32] : List Instr).all (fun i => !i.wellFormed) = true := by decide

/-- The check refuses each of these. -/
theorem test_ill_formed_3 : ([
    .ideKmKeyProgram 0 0 ⟨3, false⟩ false,
    .ltCtrlWrite .turret 144 0,
    .bindVppb 0 0 0 65536,
    .migrationLineCopied 0 32768,
    .domeReadComplete 0 ⟨65536, 0⟩ .good .good false,
    .linkUp 0 okRates ⟨0, 32, false⟩ okModes false 0,
    .linkUp 0 okRates okLanes okModes false 6,
    .thermalSensorReading 31 0 false,
    .dtTmuxselWrite 8 0,
    .spireTraining 0 0 0 4 ⟨0, 0⟩ 0,
    .spdmChallenge 0 0 (2 ^ 256),
    .octetPllUnlock 18,
    .spdmGetCertificate 0 0 (2 ^ 16) 0,
    .domeReadComplete (2 ^ 46) ⟨0, 0⟩ .good .good false,
    .transferFw .turret 0 0 (2 ^ 32) [] false,
    .smbusMctpWrite false (List.replicate 256 0)] : List Instr).all (fun i => !i.wellFormed) = true := by decide

/-- The check refuses each of these. -/
theorem test_ill_formed_4 : ([
    .spireAckSend 8,
    .spireTraining 0 0 4 0 ⟨0, 0⟩ 0,
    .bindVppb 0 0 256 0,
    .spireFlitReceive 4 0 0 0 false ⟨0, 0⟩,
    .bindVppb 72 0 0 0,
    .spillWrite ⟨1536, .good⟩,
    .tsPaceRateWrite 0 (2 ^ 20),
    .linkUp 0 ⟨64, false⟩ okLanes okModes false 0,
    .fcLogrdWrite 65536,
    .retryBackoffExpire 1024,
    .migrationCommit 8 false,
    .spdmUnsupportedRequest 0 256,
    .allocAnswer 0 0 16,
    .swRtcmdNop .turret 16384,
    .dmRtailDoorbell .turret 1024 0,
    .event false 256 []] : List Instr).all (fun i => !i.wellFormed) = true := by decide

/-- The check refuses each of these. -/
theorem test_ill_formed_5 : ([
    .registerWrite .turret 0 (2 ^ 8) 0,
    .reclaimSetStep 16,
    .sliceFailure 17,
    .transferFw .turret 0 256 0 [] false,
    .debounceComplete 32,
    .fenceAckSend 1024 0,
    .spireAckReceive 8 0,
    .ideKmKeyProgram 0 256 ⟨0, false⟩ false,
    .addTimeout 0 65536,
    .dtBistcmdGo .turret 64,
    .thermalSensorReading 0 4096 false,
    .bdTtcmdNop .turret 8192,
    .timeReceive 0 (2 ^ 64) 0,
    .spireRetransmitTimeout 0 16777216,
    .fenceAckSend 0 65536,
    .wakeComplete 65536] : List Instr).all (fun i => !i.wellFormed) = true := by decide

/-- The check refuses each of these. -/
theorem test_ill_formed_6 : ([
    .bindVppb 0 32 0 0,
    .linkDown 0 10,
    .linkUp 0 okRates ⟨2 ^ 16, 0, false⟩ okModes false 0,
    .egressSelect 96 [] ⟨.good, .good⟩,
    .startUp [] false false 0,
    .scratchpadPortBAccess 0 [] (some ⟨6, 0, 0, .read, 4, 0, 0⟩) .good,
    .scratchpadPortBAccess 0 [⟨6, 0, 0, .read, 4, 0, 0⟩] none .good,
    .registerWrite (.cciMbox 72) 0 0 0,
    .homeRdshared { okCoh with src := 1024 } [],
    .homeRdshared { okCoh with fwd := 1024 } [],
    .homeRdshared { okCoh with txn := 2 ^ 16 } [],
    .homeRdshared { okCoh with laddr := 2 ^ 40 } [],
    .homeRdshared { okCoh with data := 2 ^ 512 } [],
    .homeRdshared { okCoh with via := 8 } [],
    .messageIngress { okMsg with ing := 95 },
    .messageIngress { okMsg with tc := 8 }] : List Instr).all (fun i => !i.wellFormed) = true := by decide

/-- The check refuses each of these. -/
theorem test_ill_formed_7 : ([
    .messageIngress { okMsg with tid := some 8192 },
    .messageIngress { okMsg with dest := .named (some 16384) },
    .messageIngress { okMsg with req := some ⟨8192, .memRd, 0, 64, none, 0⟩ },
    .messageIngress { okMsg with req := some ⟨0, .memRd, 2 ^ 52, 64, none, 0⟩ },
    .remoteFaultReceive { okFault with time := 2 ^ 64 },
    .remoteFaultReceive { okFault with addr := 2 ^ 64 },
    .remoteFaultReceive { okFault with code := 2 ^ 16 },
    .remoteFaultReceive { okFault with master := 2 ^ 16 },
    .remoteFaultReceive { okFault with srcunit := 2 ^ 12 },
    .remoteFaultReceive { okFault with atype := 2 ^ 8 },
    .remoteFaultReceive { okFault with domain := 8 },
    .remoteFaultReceive { okFault with held := 2 },
    .remoteFaultReceive { okFault with dinst := 2 ^ 13 },
    .remoteFaultReceive { okFault with origin := 8 },
    .remoteFaultReceive { okFault with remote := 2 },
    .remoteFaultReceive { okFault with seq := 2 ^ 32 }] : List Instr).all (fun i => !i.wellFormed) = true := by decide

/-- The check refuses each of these. -/
theorem test_ill_formed_8 : ([
    .spireFrameForward 0 { okFrame with dst := 8 },
    .spireFrameForward 0 { okFrame with src := 8 },
    .spireFrameForward 0 { okFrame with hops := 8 },
    .spireFrameForward 0 { okFrame with ftype := 16 },
    .spireFrameForward 0 { okFrame with tseq := 2 ^ 24 },
    .spireFrameForward 0 { okFrame with ackseq := 2 ^ 24 },
    .initiateDynamicCapacityAdd { okAdd with tid := 8192 },
    .initiateDynamicCapacityAdd { okAdd with policy := 4 },
    .initiateDynamicCapacityAdd { okAdd with srcTid := 8192 },
    .initiateDynamicCapacityAdd { okAdd with tag := 2 ^ 16 },
    .bitSetAliasWrite ⟨6, 0, 0, .read, 4, 0, 0⟩ .good,
    .bitSetAliasWrite ⟨0, 2 ^ 16, 0, .read, 4, 0, 0⟩ .good,
    .bitSetAliasWrite ⟨0, 0, 2 ^ 25, .read, 4, 0, 0⟩ .good,
    .bitSetAliasWrite ⟨0, 0, 0, .read, 65, 0, 0⟩ .good,
    .bitSetAliasWrite ⟨0, 0, 0, .read, 4, 2 ^ 64, 0⟩ .good,
    .bitSetAliasWrite ⟨0, 0, 0, .read, 4, 0, 2 ^ 512⟩ .good] : List Instr).all (fun i => !i.wellFormed) = true := by decide

/-- The check refuses each of these. -/
theorem test_ill_formed_9 : ([
    .internalResponse ⟨.bd, 0, 16, 0⟩,
    .messageIngress { okMsg with dest := .bus 256 },
    .messageIngress { okMsg with dest := .addr (2 ^ 64) },
    .messageIngress { okMsg with dest := .mcast 64 },
    .messageIngress { okMsg with tag := some ⟨.bd, 0, 16, 0⟩ },
    .homeRdshared { okCoh with rtag := 2 ^ 16 } [],
    .fenceReceive ⟨okCoh, 2 ^ 24⟩,
    .spillReadAnswer 1536 ⟨0, false⟩,
    .spillReadAnswer 0 ⟨16, false⟩,
    .domeReadComplete 0 ⟨0, 16⟩ .good .good false,
    .dmWindowReadsDone 8 0,
    .dmWindowReadsDone 0 1025,
    .windowBeatEnd 256,
    .standbyWake (.presence 72),
    .standbyWake (.spire 4),
    .scrubRead 0 (.ce 10) false] : List Instr).all (fun i => !i.wellFormed) = true := by decide

/-- The check refuses each of these. -/
theorem test_ill_formed_10 : ([
    .spireFlitReceive 0 0 0 0 false ⟨2 ^ 960, 0⟩,
    .spireFlitReceive 0 0 0 0 false ⟨0, 2 ^ 32⟩,
    .spireTraining 0 0 0 0 ⟨0, 2 ^ 16⟩ 0,
    .linkDown 0 0,
    .spirePortDown 0 8,
    .spirePortDown 0 0,
    .downPerstRelease ⟨72, false, false⟩,
    .checkerLock ⟨144, 0⟩,
    .checkerLock ⟨0, 2 ^ 128⟩,
    .checkerLoseLock ⟨0, 2 ^ 64⟩,
    .domeReadTimeout 0 ⟨2 ^ 16, .good⟩,
    .domeReadTimeout 0 ⟨0, .ce 10⟩,
    .domePartialWrite 0 0 0 0 none ⟨.good, .ce 10⟩,
    .startUp (List.replicate 12 ⟨some ⟨true, true, true, 0, 4, 5, 0, 0, 0, 0, 0, 0⟩, none, true⟩) false false 0] : List Instr).all
      (fun i => !i.wellFormed) = true := by decide

/-! ### The spec's worked examples -/

/-- The worked example of 01: tenant offset 0x50_1234_5678 of a tenant whose table is at ETBASE 0x2FC0_0000. -/
theorem test_translation_example :
    etAddr (0x2FC00000 * 2 ^ 64) (0x5012345678 / 2 ^ 21) = 0x2FC00280910 ∧
    xlateEntry 0x0000000041009101 0x5012345678 false = some 0x82012345678 := by decide

/-- The module of 07's worked example: 24 RDIMMs of 128 GB, the offset below the store. -/
def exDome (grouped : Nat) : Hw :=
  sets [(F.DD_TTSFIRST_VAL, 0, 0x100000), (F.DD_STAT_MODE, 0, grouped), (F.DD_STAT_GRPUSE, 0, 7 * grouped),
    (F.DD_GRPBASE_VAL, 1, 0x80000), (F.DD_GRPBASE_VAL, 2, 0x100000)] Hw.reset

/-- The worked example of 07: one offset in WIDE and in GROUPED mode. -/
theorem test_dome_map_example :
    domeMap (exDome 0) 0x2012345678 = ⟨2, none, 0x2AC2F0778⟩ ∧ domeMap (exDome 1) 0x2012345678 = ⟨2, none, 0x8048D1578⟩ := by
  decide

/-- SQ1 of P08 of 05's first worked example, with slope `i` and credit `c` in bytes, not held at the last boundary. -/
def exShaper (i : Nat) (c : Int) : Hw :=
  (sets [(F.TS_SHCFG_ISLOPE, 129, i), (F.TS_SHLIM_CAP, 129, 4352), (F.TS_SHLIM_FLOOR, 129, 8704)] Hw.reset).setCred 129 (16000 * c)

/-- 05, worked example 1: 118 bytes a slot at the first slope, 59 at the second, and no credit above 0 while idle. -/
theorem test_shaper_example :
    (shaperStep (exShaper 377600 (-236)) 129).cred 129 = 16000 * (-118) ∧
    (shaperStep (exShaper 377600 (-118)) 129).cred 129 = 0 ∧
    (shaperStep (exShaper 188800 (-118)) 129).cred 129 = 16000 * (-59) := by decide

/-- 05, worked example 1: DMAX of the set before and after the change. -/
theorem test_dmax_example :
    (let h := sets [(F.FP_LSTAT_MODE, 8, 0), (F.FP_LSTAT_RATE, 8, 5), (F.TS_PORTCFG_SBURST, 8, 16384)] Hw.reset
     dmaxOf h 8 377600 944000 = 493 ∧ dmaxOf h 8 188800 944000 = 840) := by decide

/-- Tenant 41 of 05's second worked example, with its write of 640 bytes sent at tick 100,000. -/
def exPace : Hw := { Hw.reset with ts := { Hw.reset.ts with tick := 100000 } }

/-- 05, worked example 2: the entry for tick 105,120 goes to level 1 slot 102. -/
theorem test_wheel_example : (wheelInsert 41 105120 exPace).ts.lvl1 = [(102, [41])] := by decide

/-- 05, worked example 2: RATE 200 in tick 102,000 moves it to level 1 slot 100 with E = 1,025,600,000 ps. -/
theorem test_rate_write_example :
    (let h := { exPace with ts := { (wheelInsert 41 105120 exPace).ts with tick := 102000, s := [(41, 1000000000)], l := [(41, 640)] } }
     (rateTake (rateWrite 41 200 h) 41).ts.lvl1 = [(100, [41])] ∧ (rateTake (rateWrite 41 200 h) 41).ts.e = [(41, 1025600000)]) := by decide

/-- The guard of 08's worked examples: tenant 41's four descriptors and the system set's two. -/
def exGuard : Hw :=
  let h := sets [(F.AG_SYSSET_BASE, 0, 0x100), (F.AG_SYSSET_CNT, 0, 2), (F.AG_SYSDEF_R, 0, 1), (F.AG_SYSDEF_W, 0, 1),
    (F.DT_DBGSTAT_LEVEL, 0, 1)] Hw.reset
  { h.setEnt 41 (2 + 8 + 0x0400 * 2 ^ 96 + 4 * 2 ^ 112) with ag := { h.ag with desc :=
    [(0x100, 0x8201234F * 2 ^ 64 + 0x82012340 * 2 ^ 30 + 0x10F), (0x101, 0x407D1FF * 2 ^ 64 + 0x407D000 * 2 ^ 30 + 0x20F),
     (0x400, 0x1FFFF * 2 ^ 64 + 0x10000 * 2 ^ 30 + 0x6D), (0x401, 0x20003 * 2 ^ 64 + 0x20000 * 2 ^ 30 + 0x6D),
     (0x402, 0x20007 * 2 ^ 64 + 0x0000800100000025), (0x403, 0x20008 * 2 ^ 64 + 0x20008 * 2 ^ 30 + 0x01)] } }

/-- A request of tenant 41 in the examples. -/
def exReq (addr len : Nat) (priv : Bool) (p : Perm) : GReq := ⟨some 41, addr, len, priv, [p], 0x29⟩

/-- 08, worked examples: the data mover's write, the read that crosses into 0x403, and the three reads that match nothing. -/
theorem test_guard_tenant_example :
    checkPart exGuard (exReq 0x20004000 64 true .w) 0x20004000 = some ⟨0x20004000, 0x402, 0x06⟩ ∧
    firstDenial (guardParts exGuard (exReq 0x20007E00 1024 true .r)) = some ⟨0x20008000, 0x403, 0x05⟩ ∧
    (checkPart exGuard (exReq 0x30000000 64 false .r) 0x30000000).map (·.kind) = some 0x51 ∧
    checkPart exGuard (exReq 0x30000000 64 true .r) 0x30000000 = none ∧
    (checkPart exGuard (exReq 0x30000000 64 true .x) 0x30000000).map (·.kind) = some 0x47 := by decide

/-- The debug master's read in the examples. -/
def exDbg (addr : Nat) : GReq := ⟨none, addr, 8, true, [.r], 0x8000⟩

/-- 08, worked examples: LOCKED denies with KIND 0x3D at level 1, SECRET with KIND 0x2D at every level, and the addresses before
the first descriptor pass the default map. -/
theorem test_guard_debug_example :
    (checkPart exGuard (exDbg 0x82012345678) 0x82012345678).map (·.kind) = some 0x3D ∧
    (checkPart exGuard (exDbg 0x407D001000) 0x407D001000).map (·.kind) = some 0x2D ∧
    checkPart (sets [(F.DT_DBGSTAT_LEVEL, 0, 2), (F.DT_DBGSTAT_KEYCLASS, 0, 2)] exGuard) (exDbg 0x82012345678) 0x82012345678 = none ∧
    checkPart exGuard (exDbg 0x8201233FFF0) 0x8201233FFF0 = none := by decide

/-! ### The hypotheses of the statements are met -/

theorem witness_StepKeepsMemWf (h : Obligations.StepKeepsMemWf) : (wit id).mach.mem.wf = true :=
  h (wit id) (wit id) (by decide) (by rfl)

theorem witness_EventsThatCannotOccurStop (h : Obligations.EventsThatCannotOccurStop) :
    exec (Instr.homeUpgrade (coh (cup 1) 9 false) []) (wDir (dEnt 2 73)) = Host.Outcome.fault (Fault.cannotOccur 89) ∧
    exec (Instr.cupolaSnpshared (coh (cup 3) 9 false)) wShared = Host.Outcome.fault (Fault.cannotOccur 139) ∧
    exec (Instr.cupolaDatam (coh (cup 3) 6 false)) (wRec6 (cr CuTr.isW none false)) = Host.Outcome.fault (Fault.cannotOccur 140) ∧
    exec (Instr.cupolaDatas (coh (cup 3) 6 false)) (wRec6 (cr CuTr.imW none false)) = Host.Outcome.fault (Fault.cannotOccur 140) ∧
    exec (Instr.cupolaAck (coh (cup 3) 6 false)) (wRec6 (cr CuTr.th none false)) = Host.Outcome.fault (Fault.cannotOccur 140) ∧
    exec (Instr.cupolaRetry (coh (cup 3) 6 false)) (wRec6 (cr CuTr.th none false)) = Host.Outcome.fault (Fault.cannotOccur 140) :=
  ⟨(h.1 (wDir (dEnt 2 73)) (coh (cup 1) 9 false) [] 0 (cr .th none false) (cl 4) (dEnt 2 73) tGnt (by decide)).1 (by decide) (by decide) (by decide) (by decide),
   ((h.1 wShared (coh (cup 3) 9 false) [] 0 (cr .th none false) (cl 1) (dEnt 2 73) tGnt (by decide)).2 (by decide)).1 (by decide) (by decide) (by decide) (by decide) (Instr.cupolaSnpshared (coh (cup 3) 9 false)) (by simp),
   ((((h.1 (wRec6 (cr .isW none false)) (coh (cup 3) 6 false) [] 6 (cr .isW none false) (cl 1) (dEnt 2 73) tGnt (by decide)).2 (by decide)).2).1 (by decide) (by decide) (by decide)).1 (by decide),
   (((((h.1 (wRec6 (cr .imW none false)) (coh (cup 3) 6 false) [] 6 (cr .imW none false) (cl 1) (dEnt 2 73) tGnt (by decide)).2 (by decide)).2).1 (by decide) (by decide) (by decide)).2).1 (by decide),
   (((((((h.1 (wRec6 (cr .th none false)) (coh (cup 3) 6 false) [] 6 (cr .th none false) (cl 1) (dEnt 2 73) tGnt (by decide)).2 (by decide)).2).1 (by decide) (by decide) (by decide)).2).2).1 (by decide)).1,
   (((((((h.1 (wRec6 (cr .th none false)) (coh (cup 3) 6 false) [] 6 (cr .th none false) (cl 1) (dEnt 2 73) tGnt (by decide)).2 (by decide)).2).1 (by decide) (by decide) (by decide)).2).2).1 (by decide)).2⟩

theorem witness_EventsThatCannotOccurStop_2 (h : Obligations.EventsThatCannotOccurStop) :
    exec (Instr.cupolaRetry (coh (cup 3) 6 false)) (wRec6 (cr CuTr.gr none false)) = Host.Outcome.fault (Fault.cannotOccur 140) ∧
    exec (Instr.cupolaAck (coh (cup 3) 6 false)) (wRec6 (cr CuTr.gr none false)) = Host.Outcome.fault (Fault.cannotOccur 140) ∧
    exec (Instr.cupolaDatas (coh (cup 3) 6 false)) (wRec6 (cr CuTr.gr none false)) = Host.Outcome.fault (Fault.cannotOccur 140) ∧
    exec (Instr.homeSnoopAck (coh (cup 3) 320 false)) (wTxn 320 tGnt) = Host.Outcome.fault (Fault.cannotOccur 146) ∧
    exec (Instr.homeCompletionAck (coh (cup 3) 320 false)) (wTxn 320 (tSnp HKind.cShared)) = Host.Outcome.fault (Fault.cannotOccur 146) ∧
    Runs (.homeUpgrade (coh (cup 3) 9 false) []) (wit id) :=
  ⟨(((((((h.1 (wRec6 (cr .gr none false)) (coh (cup 3) 6 false) [] 6 (cr .gr none false) (cl 1) (dEnt 2 73) tGnt (by decide)).2 (by decide)).2).1 (by decide) (by decide) (by decide)).2).2).2 (by decide)).1,
   ((((((((h.1 (wRec6 (cr .gr none false)) (coh (cup 3) 6 false) [] 6 (cr .gr none false) (cl 1) (dEnt 2 73) tGnt (by decide)).2 (by decide)).2).1 (by decide) (by decide) (by decide)).2).2).2 (by decide)).2).1 (by decide),
   ((((((((h.1 (wRec6 (cr .gr none false)) (coh (cup 3) 6 false) [] 6 (cr .gr none false) (cl 1) (dEnt 2 73) tGnt (by decide)).2 (by decide)).2).1 (by decide) (by decide) (by decide)).2).2).2 (by decide)).2).2 (by decide) (Instr.cupolaDatas (coh (cup 3) 6 false)) (by simp),
   ((((h.1 (wTxn 320 tGnt) (coh (cup 3) 320 false) [] 320 (cr .gr none false) (cl 1) (dEnt 2 73) tGnt (by decide)).2 (by decide)).2).2).1 (by decide) (by decide) (by decide) (by decide) (Instr.homeSnoopAck (coh (cup 3) 320 false)) (by simp),
   ((((h.1 (wTxn 320 (tSnp .cShared)) (coh (cup 3) 320 false) [] 320 (cr .gr none false) (cl 1) (dEnt 2 73) (tSnp .cShared) (by decide)).2 (by decide)).2).2).2 (by decide) (by decide),
   ((h.2.2 (wit id) (coh (cup 3) 9 false) []).1 (.inr (by decide))).runs⟩

theorem witness_EventsThatCannotOccurStop_3 (h : Obligations.EventsThatCannotOccurStop) :
    Runs (.homeSnoopAck (coh (cup 3) 320 false)) (wTxn 320 (tSnp HKind.cShared)) ∧
    Runs (.homeInvack (coh (cup 3) 320 false)) (wTxn 320 (tSnp HKind.cShared)) ∧
    Runs (.homeCompletionAck (coh (cup 3) 320 false)) (wTxn 320 tGnt) ∧
    Runs (.cupolaSnpinv (coh (cup 3) 9 false)) (wShared) ∧
    Runs (.cupolaDatas (coh (cup 3) 6 false)) (wRec6 (cr CuTr.isW none false)) ∧
    Runs (.cupolaAck (coh (cup 3) 6 false)) (wRec6 (cr CuTr.isW none false)) :=
  ⟨((h.2.2 (wTxn 320 (tSnp .cShared)) (coh (cup 3) 320 false) []).2.1 (.homeSnoopAck (coh (cup 3) 320 false)) (by simp) (.inr (by intro t ht _; obtain rfl : tSnp .cShared = t := Option.some.inj ht; rfl))).runs,
   ((h.2.2 (wTxn 320 (tSnp .cShared)) (coh (cup 3) 320 false) []).2.2.1 (.homeInvack (coh (cup 3) 320 false)) (by simp) (.inr (by intro t ht _; obtain rfl : tSnp .cShared = t := Option.some.inj ht; decide))).runs,
   ((h.2.2 (wTxn 320 tGnt) (coh (cup 3) 320 false) []).2.2.2.1 (.inr (by intro k t ht; obtain ⟨rfl, rfl⟩ := Prod.mk.inj (Option.some.inj (show some (320, tGnt) = some (k, t) from ht)); rfl))).runs,
   ((h.2.2 wShared (coh (cup 3) 9 false) []).2.2.2.2.1 (.cupolaSnpinv (coh (cup 3) 9 false), 0x09) (by simp) (.inr (.inr (by decide)))).runs,
   ((h.2.2 (wRec6 (cr .isW none false)) (coh (cup 3) 6 false) []).2.2.2.2.2.1 (.cupolaDatas (coh (cup 3) 6 false), [.isW]) (by simp) (.inr (by intro c hc _; obtain rfl : cr .isW none false = c := Option.some.inj hc; decide))).runs,
   ((h.2.2 (wRec6 (cr .isW none false)) (coh (cup 3) 6 false) []).2.2.2.2.2.2.1 (.inr (by intro c hc _; obtain rfl : cr .isW none false = c := Option.some.inj hc; decide))).runs⟩

theorem witness_EventsThatCannotOccurStop_4 (h : Obligations.EventsThatCannotOccurStop) :
    Runs (.cupolaRetry (coh (cup 3) 6 false)) (wRec6 (cr CuTr.isW none false)) ∧
    Runs (.homeHostRequest (rdMsg 0) HostOp.rdAny 320 0 0 []) (wit id) :=
  ⟨((h.2.2 (wRec6 (cr .isW none false)) (coh (cup 3) 6 false) []).2.2.2.2.2.2.2 (.inr (by intro c hc _; obtain rfl : cr .isW none false = c := Option.some.inj hc; decide))).runs,
   (h.2.1 (.homeHostRequest (rdMsg 0) .rdAny 320 0 0 []) (wit id) rfl).runs⟩

theorem witness_SlotAreasTakeOnlyTheDataMover (h : Obligations.SlotAreasTakeOnlyTheDataMover) :
    Runs (.domeWrite 64 77 49152 none ⟨false, false⟩) (wDmRing) ∧
    Runs (.domePartialWrite 64 77 255 49152 none ⟨.good, .good⟩) (wDmRing) ∧
    Runs (.domeWrite 64 77 16384 none ⟨false, false⟩) (wDmRing) ∧
    Runs (.scratchpadPortBAccess 1 [spr 0 2097216 SpOp.write] none Ecc.good) (wRing 0 id) ∧
    Runs (.scratchpadPortBAccess 1 [] (some (spr 1 2097216 SpOp.write)) Ecc.good) (wRing 0 id) ∧
    Runs (.bitSetAliasWrite (spr 0 2097216 SpOp.set) Ecc.good) (wRing 0 id) :=
  ⟨((((h wDmRing 64 77 255 0xC000 none ⟨false, false⟩ ⟨.good, .good⟩ (spr 0 0x200040 .write)).1 (by decide)).1 (by decide) (by simp)).1).runs,
   ((((h wDmRing 64 77 255 0xC000 none ⟨false, false⟩ ⟨.good, .good⟩ (spr 0 0x200040 .write)).1 (by decide)).1 (by decide) (by simp)).2).runs,
   (((h wDmRing 64 77 255 0x4000 none ⟨false, false⟩ ⟨.good, .good⟩ (spr 0 0x200040 .write)).1 (by decide)).2 (by decide) (by decide) (by decide)).runs,
   (((h (wRing 0 id) 64 77 255 0x4000 none ⟨false, false⟩ ⟨.good, .good⟩ (spr 0 0x200040 .write)).2 (by decide) (by decide) (by decide) (by decide)).1 (by decide) (by decide) (by decide)).runs,
   ((((h (wRing 0 id) 64 77 255 0x4000 none ⟨false, false⟩ ⟨.good, .good⟩ (spr 1 0x200040 .write)).2 (by decide) (by decide) (by decide) (by decide)).2).1 (by decide) (by decide) (by decide)).runs,
   (((((h (wRing 0 id) 64 77 255 0x4000 none ⟨false, false⟩ ⟨.good, .good⟩ (spr 0 0x200040 .set)).2 (by decide) (by decide) (by decide) (by decide)).2).2 (by decide) (by decide)).1 (by decide)).runs⟩

theorem witness_SlotAreasTakeOnlyTheDataMover_2 (h : Obligations.SlotAreasTakeOnlyTheDataMover) :
    Runs (.bitClearAliasWrite (spr 0 2097216 SpOp.clr) Ecc.good) (wRing 0 id) ∧
    Runs (.domeWrite 64 77 0xC000 (some (5, 9)) ⟨false, false⟩) ({ wDmRing with mach := wDmRing.mach.onHw (fun h => { h with bd := wDrain.mach.hw.bd }) }) :=
  ⟨(((((h (wRing 0 id) 64 77 255 0x4000 none ⟨false, false⟩ ⟨.good, .good⟩ (spr 0 0x200040 .clr)).2 (by decide) (by decide) (by decide) (by decide)).2).2 (by decide) (by decide)).2 (by decide)).runs,
   ((((h { wDmRing with mach := wDmRing.mach.onHw (fun h => { h with bd := wDrain.mach.hw.bd }) } 64 77 255 0xC000 (some (5, 9)) ⟨false, false⟩ ⟨.good, .good⟩ (spr 0 0x200040 .write)).1 (by decide)).1 (by decide) (by simp)).1).runs⟩

theorem witness_GuardDefaultMapDecides (h : Obligations.GuardDefaultMapDecides) :
    checkPart (sysR Hw.reset) (greq true none) 0x1000 = none ∧ (checkPart Hw.reset (greq false none) 0x1000).isSome = true :=
  ⟨((h (sysR Hw.reset) (greq true none) 0x1000 (by decide)).1 rfl).2
     (by intro p hp
         simp only [greq, List.mem_singleton] at hp
         subst hp
         exact (by decide : (sysR Hw.reset).flag F.AG_SYSDEF_R 0 = true)),
   (h Hw.reset (greq false none) 0x1000 (by decide)).2 rfl⟩

theorem witness_TtcmdCommandsComplete (h : Obligations.TtcmdCommandsComplete) :
    Runs (.bdTtcmdNop Path.turret 5) (wTen 2) ∧
    Runs (.bdTtcmdRead Path.turret 5) (wTen 2) ∧
    Runs (.bdTtcmdWrite Path.turret 5) (wWrite) ∧
    Runs (.bdTtcmdBind Path.turret 7) (wBind) ∧
    Runs (.bdTtcmdNop Path.turret 5) (wTtBusy) ∧
    Runs (.bdTtcmdNop Path.barrier 5) (wTen 2) :=
  ⟨((h.1 (wTen 2) .turret 5 (by decide) (by decide)).1).runs,
   ((h.1 (wTen 2) .turret 5 (by decide) (by decide)).2).runs,
   ((h.2.1 wWrite 5 (by decide) (by decide)).1 (by decide)).runs,
   ((h.2.1 wBind 7 (by decide) (by decide)).2 (by decide) (by decide)).runs,
   ((h.2.2 wTtBusy .turret 5 (Instr.bdTtcmdNop Path.turret 5) (by simp)).1 (by decide)).runs,
   ((h.2.2 (wTen 2) .barrier 5 (Instr.bdTtcmdNop Path.barrier 5) (by simp)).2 (by decide) (by decide) (by decide)).runs⟩

theorem witness_TenantResetsStartAndDrainMarksFollow (h : Obligations.TenantResetsStartAndDrainMarksFollow) :
    Runs (.bdTtcmdReset Path.turret 5) (wTen 2) ∧
    Runs (.bdTtcmdUnbind Path.turret 5) (wTen 2) ∧
    Runs (.secondaryBusReset 0 3) (wTen 2) ∧
    Runs (.hotReset 0) (wTen 2) ∧
    Runs (.bdTdrainArm 5) (wDrain) ∧
    Runs (.writeVisible 5 9) (wDrain) :=
  ⟨((h.1 (wTen 2) 5 0 3 (by decide) (by decide)).1 (by decide)).runs,
   (((h.1 (wTen 2) 5 0 3 (by decide) (by decide)).2).1 (by decide) (by decide)).runs,
   ((((h.1 (wTen 2) 5 0 3 (by decide) (by decide)).2).2).1 (by decide)).runs,
   ((((h.1 (wTen 2) 5 0 3 (by decide) (by decide)).2).2).2 (by decide)).runs,
   ((h.2 wDrain 5 9 (by decide)).1).runs,
   ((h.2 wDrain 5 9 (by decide)).2 ⟨5, 9, true, false, .cmp, 0, false⟩ (by decide)).runs⟩

theorem witness_TenantSequenceSteps (h : Obligations.TenantSequenceSteps) :
    Runs (.tenantDrainEnd 5) (wSeq 3 false false) ∧
    Runs (.tenantDrainTimeout 5) (wSeq 3 false false) ∧
    Runs (.tenantAbortEnd 5) (wSeq 4 false false) ∧
    Runs (.tenantFlushEnd 5) (wSeq 4 false true) ∧
    Runs (.quarantineEnd 5) (wSeq 5 false true) ∧
    Runs (.quarantineEnd 5) (wSeq 5 true true) :=
  ⟨((h (wSeq 3 false false) 5 ⟨true, 100, true⟩).1 (by decide) (by decide) (by decide) (by decide)).runs,
   (((h (wSeq 3 false false) 5 ⟨true, 100, true⟩).2).1 (by decide) (by decide) (by decide)).runs,
   ((((h (wSeq 4 false false) 5 ⟨true, 100, true⟩).2).2).1 (by decide) (by decide) (by decide)).runs,
   (((((h (wSeq 4 false true) 5 ⟨true, 100, true⟩).2).2).2).1 (by decide) (by decide) (by decide)).runs,
   ((((((h (wSeq 5 false true) 5 ⟨false, 100, true⟩).2).2).2).2).1 (by decide) (by decide) (by decide)).runs,
   ((((((h (wSeq 5 true true) 5 ⟨true, 100, true⟩).2).2).2).2).2 (by decide) (by decide) (by decide) (by decide)).runs⟩

theorem witness_FabricManagerCommandsComplete (h : Obligations.FabricManagerCommandsComplete) :
    Runs ((Instr.unbindVppb 0 1, FmCmd.unbind 0 1).1) (wFm) ∧
    Runs (.bindVppb 0 4 1 65535) (wVppb []) ∧
    Runs (.unbindVppb 0 3) (wVppb []) ∧
    Runs .queuedCommandStart (wVppb [FmCmd.unbind 0 3, FmCmd.policy 0 0]) :=
  ⟨(h.1 wFm 0 1 2 3 5 ⟨5, 0, 0, [], 0, [], none, 0⟩ [(0, 2 ^ 21)] true (.unbindVppb 0 1, .unbind 0 1) (by decide) (by decide)).runs,
   ((h.2 (wVppb []) 0 4 1 0 [] (by decide) (by decide)).1 (by decide) (by decide) (by decide) (by decide) (by decide) (by decide)).runs,
   (((h.2 (wVppb []) 0 3 1 5 [] (by decide) (by decide)).2).1 (by decide) (by decide) (by decide)).runs,
   (((h.2 (wVppb [.unbind 0 3, .policy 0 0]) 0 3 1 5 [.policy 0 0] (by decide) (by decide)).2).2 (by decide) (by decide) (by decide)).runs⟩

/-- The store of `wPol` has one place for the table, whatever the free value is. -/
theorem wPol_place : (placeTable 0 (bits wRec 32 26) wPol.mach.hw).1 = some 12288 := by
  have hf : wPol.mach.hw.takeFree.2.storeFirst = 16 := by decide
  have hd : wPol.mach.hw.takeFree.2.domeExt = 25 := by decide
  have hn : bits wRec 32 26 = 2 ^ 17 := by decide
  have hf0 : wPol.mach.hw.storeFirst = 16 := by decide
  dsimp only [placeTable]
  split
  · next h =>
    simp only [tableFits, hf, hf0, hd, hn, Bool.and_eq_true, decide_eq_true_eq] at h
    simp only [Option.some.injEq]
    omega
  · decide

theorem witness_PolicyBindCompletes (h : Obligations.PolicyBindCompletes) : Runs (.policyBind 0) wPol :=
  (h wPol 0 wRec 0 12288 (by decide) (by decide) (by decide) (by decide) (by decide) (by decide) (by decide) (by decide)
    (by decide) (by decide) (by decide) wPol_place (by decide)).runs

theorem witness_AddCapacityCompletes (h : Obligations.AddCapacityCompletes) :
    Runs (.initiateDynamicCapacityAdd ⟨5, 0, 2 ^ 21, [], 0, [], some (0, 0), 9⟩) (wAdd) ∧
    Runs (.addDynamicCapacityResponse wAddRec.tid [(9, 7 * 2 ^ 21, 1 * 2 ^ 21)]) (wAnswer) ∧
    Runs (.addDynamicCapacityResponse wAddRec.tid []) (wAnswer) ∧
    Runs (.addTimeout wAddRec.tid wAddRec.tag) (wAnswer) :=
  ⟨(h.1 wAdd ⟨5, 0, 2 ^ 21, [], 0, [], some (0, 0), 9⟩ 0 0 0 ((List.range 15).map (1 + ·)) (by decide) (by decide) (by decide) (by decide) (by decide) (by decide) (by decide) (by decide) (by rfl) (by decide) (by decide) (by decide) (wholeOf (by decide))).runs,
   ((h.2 wAnswer wAddRec ⟨9, 7, 1⟩ ⟨7, 3⟩ (by decide) (by decide) (by decide) (by decide) (by decide) (wholeOf (by decide))).1).runs,
   (((h.2 wAnswer wAddRec ⟨9, 7, 1⟩ ⟨7, 3⟩ (by decide) (by decide) (by decide) (by decide) (by decide) (wholeOf (by decide))).2).1 (by decide)).runs,
   (((h.2 wAnswer wAddRec ⟨9, 7, 1⟩ ⟨7, 3⟩ (by decide) (by decide) (by decide) (by decide) (by decide) (wholeOf (by decide))).2).2 (by decide)).runs⟩

theorem witness_ReleaseCompletes (h : Obligations.ReleaseCompletes) :
    Runs (.releaseDynamicCapacity 5 [(7 * 2 ^ 21, 2 ^ 21)]) (wRel []) ∧
    Runs (.initiateDynamicCapacityRelease 5 [(7 * 2 ^ 21, 2 ^ 21)] true) (wRel []) ∧
    Runs (.initiateDynamicCapacityRelease 5 [(7 * 2 ^ 21, 2 ^ 21)] false) (wRel []) ∧
    Runs (.releaseDrainDone 5) (wRel [{ tid := 5, eidx := 7, gext := 3, step := 1 }]) ∧
    Runs (.releaseDrainTimeout 5) (wRel [{ tid := 5, eidx := 7, gext := 3, step := 1 }]) ∧
    Runs (.releaseBiDone 5 7) (wRel [{ tid := 5, eidx := 7, gext := 3, step := 2 }]) :=
  ⟨((h.1 (wRel []) 5 7 [(7 * 2 ^ 21, 2 ^ 21)] (by decide) (by rfl) (by decide) (wholeOf (by decide))).1).runs,
   (((h.1 (wRel []) 5 7 [(7 * 2 ^ 21, 2 ^ 21)] (by decide) (by rfl) (by decide) (wholeOf (by decide))).2 (by decide) (by decide) (by decide)).1).runs,
   (((h.1 (wRel []) 5 7 [(7 * 2 ^ 21, 2 ^ 21)] (by decide) (by rfl) (by decide) (wholeOf (by decide))).2 (by decide) (by decide) (by decide)).2).runs,
   (((h.2 (wRel [⟨5, 7, 3, 1⟩]) 5 7 0 ⟨5, 7, 3, 1⟩).1 (by decide)).1 (by decide)).runs,
   (((h.2 (wRel [⟨5, 7, 3, 1⟩]) 5 7 0 ⟨5, 7, 3, 1⟩).1 (by decide)).2 (by decide)).runs,
   (((h.2 (wRel [⟨5, 7, 3, 2⟩]) 5 7 0 ⟨5, 7, 3, 2⟩).2).1 (by decide) (by decide) (by decide)).runs⟩

theorem witness_ReleaseCompletes_2 (h : Obligations.ReleaseCompletes) :
    Runs (.releaseMigrationWaitEnd 5 7) (wRel [{ tid := 5, eidx := 7, gext := 3, step := 0 }]) ∧
    Runs (.extentZeroDone 3) (wZero) :=
  ⟨((((h.2 (wRel [⟨5, 7, 3, 0⟩]) 5 7 0 ⟨5, 7, 3, 0⟩).2).2).1 (by decide) (by decide) (wholeOf (by decide))).runs,
   ((((h.2 wZero 5 7 3 ⟨5, 7, 3, 0⟩).2).2).2 (by decide) (by decide)).runs⟩

theorem witness_AllocCommandsComplete (h : Obligations.AllocCommandsComplete) :
    Runs (.allocClaim 2 9 3 1) (wAlloc 0) ∧
    Runs (.allocInc 2 9 3 1) (wAlloc 0) ∧
    Runs (.allocAnswer 2 9 0) (wAlloc 0) ∧
    Runs (.allocClaim 2 9 3 1) (wAlloc 1) ∧
    Runs (.allocDec 2 9 3 1) (wAlloc 1) ∧
    Runs (.allocUnclaim 2 9 3 1) (wAlloc 1) :=
  ⟨((h (wAlloc 0) 2 9 3 0 ⟨3, 2, 9, 2 * 2 ^ 22, 1, 5⟩ (by decide)).1 (by decide) (by decide)).runs,
   ((((h (wAlloc 0) 2 9 3 0 ⟨3, 2, 9, 2 * 2 ^ 22, 1, 5⟩ (by decide)).2).2).1).runs,
   (((((((h (wAlloc 0) 2 9 3 0 ⟨3, 2, 9, 2 * 2 ^ 22, 1, 5⟩ (by decide)).2).2).2).2).2).2.1 (by decide) (by decide) (by decide)).runs,
   (((h (wAlloc 1) 2 9 3 0 ⟨3, 2, 9, 2 * 2 ^ 22, 1, 5⟩ (by decide)).2).1 (by decide) (by decide)).runs,
   ((((((h (wAlloc 1) 2 9 3 0 ⟨3, 2, 9, 2 * 2 ^ 22, 1, 5⟩ (by decide)).2).2).2).2).1 (by decide) (by decide)).runs,
   (((((((h (wAlloc 1) 2 9 3 0 ⟨3, 2, 9, 2 * 2 ^ 22, 1, 5⟩ (by decide)).2).2).2).2).2).1 (by decide)).runs⟩

theorem witness_AllocCommandsComplete_2 (h : Obligations.AllocCommandsComplete) :
    Runs (.allocDec 2 9 3 1) (wAlloc 2) ∧
    Runs (.allocClaim 2 9 3 1) (wRecPois) :=
  ⟨(((((h (wAlloc 2) 2 9 3 0 ⟨3, 2, 9, 2 * 2 ^ 22, 1, 5⟩ (by decide)).2).2).2).1 (by decide)).runs,
   ((h wRecPois 2 9 3 0 ⟨3, 2, 9, 2 * 2 ^ 22, 1, 5⟩ (by decide)).2.2.2.2.2.2.2 (by decide)).runs⟩

theorem witness_RegisterAndWidePairAccessesComplete (h : Obligations.RegisterAndWidePairAccessesComplete) :
    Runs (.registerWrite Path.turret R.BD_CTRL.addr 4 196615) (wMg id) ∧
    Runs (.rcFieldRead Path.turret R.BD_XCMISS.addr 4) (wMg id) ∧
    Runs (.loRegisterRead Path.turret R.CK_LTIME_LO.addr 4) (wWide) ∧
    Runs (.loRegisterWrite Path.turret R.SW_RTDATA_LO.addr 4 196615) (wWide) ∧
    Runs (.hiRegisterWrite Path.turret R.SW_RTDATA_HI.addr 4 196615) (wWide) ∧
    Runs (.rcFieldRead Path.turret R.CK_LTIME_HI.addr 4) (wWide) :=
  ⟨((h.1 (wMg id) .turret 0x00030007).1 (by unfold Hw.mgQuiet; decide) (by unfold Hw.answers; decide) (by decide)).runs,
   ((h.1 (wMg id) .turret 0x00030007).2.1 (by unfold Hw.mgQuiet; decide) (by unfold Hw.answers; decide) (by decide)).runs,
   (((h.2 wWide .turret 0x30007 6 (by unfold Hw.mgQuiet; decide)).1 (by unfold Hw.answers; decide) (by decide) (by decide)).1).runs,
   (((h.2 wWide .turret 0x30007 6 (by unfold Hw.mgQuiet; decide)).2 (by unfold Hw.answers; decide) (by decide) (by decide)).1).runs,
   (((h.2 wWide .turret 0x30007 6 (by unfold Hw.mgQuiet; decide)).2 (by unfold Hw.answers; decide) (by decide) (by decide)).2 (by decide)).runs,
   (((h.2 wWide .turret 0x30007 5 (by unfold Hw.mgQuiet; decide)).1 (by unfold Hw.answers; decide) (by decide) (by decide)).2 (by decide)).runs⟩

theorem witness_RegisterAndWidePairAccessesComplete_2 (h : Obligations.RegisterAndWidePairAccessesComplete) :
    Runs (.hiRegisterWrite .debug R.BD_CTRL.addr 4 7) (wMg id) :=
  (((h.1 (wMg id) .debug 7).2.2 R.BD_CTRL.addr 4).1 (by decide) (.hiRegisterWrite .debug R.BD_CTRL.addr 4 7) (by simp)).runs

theorem witness_WindowPortCompletes (h : Obligations.WindowPortCompletes) :
    Runs (.winCtrlStart Path.turret 260) (wMg id) ∧
    Runs (.winDataWrite Path.turret 260) (wMg id) ∧
    Runs (.winCtrlAbort Path.turret) (wBurst) ∧
    Runs (.winDataRead Path.turret) (wHalf) ∧
    Runs (.windowBeatEnd 0) (wBeatR) ∧
    Runs .windowBeatTimeout (wBeat) :=
  ⟨((h.1 (wMg id) .turret 0x00000104 7 bRd (bt none) (by unfold Hw.answers; decide)).1 (by unfold Hw.mgQuiet; decide) (by decide) (by decide) (by decide) (by decide)).runs,
   ((((h.1 (wMg id) .turret 0x00000104 7 bRd (bt none) (by unfold Hw.answers; decide)).2).2 (by unfold Hw.mgQuiet; decide) (by decide) (by decide)).1 (by decide) (by decide)).runs,
   (((h.1 wBurst .turret 0x00000104 7 bRd (bt none) (by unfold Hw.answers; decide)).2).1 (by decide) (by decide) (by decide) (by decide) (by decide) (by decide) (by decide) (by decide) (by decide)).runs,
   ((((h.1 wHalf .turret 0x00000104 7 bRd (bt none) (by unfold Hw.answers; decide)).2).2 (by unfold Hw.mgQuiet; decide) (by decide) (by decide)).2 (by decide) (by decide)).runs,
   (((h.2 wBeatR { bt (some .cmd) with res := some (0x123456789, false) } 0x123456789 false 1 (by decide) (by decide) (by decide) (by decide) (by decide) (by decide) (by decide)).1 (by decide)).1 (by decide)).runs,
   ((((h.2 wBeat (bt (some .cmd)) 0x123456789 false 1 (by decide) (by decide) (by decide) (by decide) (by decide) (by decide) (by decide)).2).2).2 (by decide)).runs⟩

theorem witness_WindowPortCompletes_2 (h : Obligations.WindowPortCompletes) :
    Runs (.windowBeatEnd 0) (wBeat) ∧
    Runs (.windowBeatEnd 0) (wBeat8) ∧
    Runs (.windowBeatEnd 1) (wBeat) :=
  ⟨(((h.2 wBeat (bt (some .cmd)) 0x123456789 false 1 (by decide) (by decide) (by decide) (by decide) (by decide) (by decide) (by decide)).2).1 (by decide)).runs,
   (((h.2 wBeat8 { bt (some .cmd) with size := 8, res := some (0x123456789, false) } 0x123456789 false 1 (by decide) (by decide) (by decide) (by decide) (by decide) (by decide) (by decide)).1 (by decide)).2 (by decide) (by decide) (by decide)).runs,
   ((((h.2 wBeat (bt (some .cmd)) 0x123456789 false 1 (by decide) (by decide) (by decide) (by decide) (by decide) (by decide) (by decide)).2).2).1 (by decide)).runs⟩

theorem witness_DomainEventsAndInternalResponsesComplete (h : Obligations.DomainEventsAndInternalResponsesComplete) :
    Runs (.domainTimeout pRd.path) (wPend) ∧
    Runs (.resetNotice pRd.dom) (wPend) ∧
    Runs (.resetReady 3) (wPend) ∧
    Runs (.wakeComplete 7) (wMg (sets [(F.CK_PWRSTAT_STATE, 0, 6)])) ∧
    Runs (.internalResponse { blk := TagBlk.sw, tag := 9, gen := 0, data := 5 }) (wTag) ∧
    Runs (.internalResponse { blk := TagBlk.sw, tag := 9, gen := 1, data := 5 }) (wTag) :=
  ⟨(((h.1 wPend pRd 3 7).1 (by decide) (by decide) (by decide) (by decide) (by decide) (by decide) (by decide) (by decide) (by decide)).1).runs,
   (((h.1 wPend pRd 3 7).1 (by decide) (by decide) (by decide) (by decide) (by decide) (by decide) (by decide) (by decide) (by decide)).2 (by decide)).runs,
   (((h.1 wPend pRd 3 7).2).1 (by decide)).runs,
   (((h.1 (wMg (sets [(F.CK_PWRSTAT_STATE, 0, 6)])) pRd 37 7).2).2 (by unfold Hw.mgQuiet; decide) (by decide)).runs,
   (((h.2 wTag ⟨.sw, 9, 0, 5⟩ 0).1 (.sw, F.SW_LATE_VAL) (by simp) rfl).1 (by decide) (by decide) (by decide)).runs,
   (((h.2 wTag ⟨.sw, 9, 1, 5⟩ 0).1 (.sw, F.SW_LATE_VAL) (by simp) rfl).2 (.inr (by decide))).runs⟩

theorem witness_DomainEventsAndInternalResponsesComplete_2 (h : Obligations.DomainEventsAndInternalResponsesComplete) :
    Runs (.internalResponse ⟨.dd 3, 9, 0, 5⟩) (wTag) ∧
    Runs (.internalResponse ⟨.dd 3, 9, 1, 5⟩) (wTag) ∧
    Runs (.internalResponse ⟨.bd, 5 * 2 ^ 32 + 9, 1, 5⟩) (wTag) ∧
    Runs (.internalResponse ⟨.bd, 5 * 2 ^ 32 + 9, 0, 5⟩) (wDrain) :=
  ⟨(((h.2 wTag ⟨.dd 3, 9, 0, 5⟩ 3).2.1 rfl (by decide)).1 (by decide)).runs,
   (((h.2 wTag ⟨.dd 3, 9, 1, 5⟩ 3).2.1 rfl (by decide)).2 (by decide)).runs,
   (((h.2 wTag ⟨.bd, 5 * 2 ^ 32 + 9, 1, 5⟩ 3).2.2 rfl).2 (.inl (by decide))).runs,
   (((h.2 wDrain ⟨.bd, 5 * 2 ^ 32 + 9, 0, 5⟩ 3).2.2 rfl).1 (by decide) (by decide) (by decide)).runs⟩

theorem witness_OtherAccessPathsComplete (h : Obligations.OtherAccessPathsComplete) :
    Runs (.regreq true 0 (payl [0, 7] R.BD_XCMISS.addr [0, 0, 0, 0])) (wReq) ∧
    Runs (.dbgacc false 17) (wReq) ∧
    Runs (.dbgacc true 17) (wReq) ∧
    Runs (.onamenexRegisterRead Path.cciMctp (payl [] R.BD_XCMISS.addr [])) (wMg (sets [(F.ID_MGCTRL_CCIMCTP, 0, 2)])) ∧
    Runs (.bcWcfg3Write Path.turret 196615) (wMg (sets [(F.ID_MGCTRL_CCIMCTP, 0, 2)])) ∧
    Runs (.bcWcfg3Write Path.cciMctp 196615) (wMg (sets [(F.ID_MGCTRL_CCIMCTP, 0, 2)])) :=
  ⟨((h wReq .turret 0 0x11 (payl [0, 7] R.BD_XCMISS.addr [0, 0, 0, 0]) 0x30007).1 (by unfold Hw.mgQuiet; decide) (by unfold Hw.answers; decide) (by decide) (by decide) (by decide) (by decide) (by decide) (by decide) (by decide) (by decide) (by decide)).runs,
   ((((h wReq .turret 0 0x11 (payl [0, 7] R.BD_XCMISS.addr [0, 0, 0, 0]) 0x30007).2).2).1 (by unfold Hw.mgQuiet; decide)).runs,
   (((((h wReq .turret 0 0x11 (payl [0, 7] R.BD_XCMISS.addr [0, 0, 0, 0]) 0x30007).2).2).2).1 (by unfold Hw.mgQuiet; decide) (by unfold Hw.answers; decide) (by decide)).runs,
   ((((h (wMg (sets [(F.ID_MGCTRL_CCIMCTP, 0, 2)])) .cciMctp 0 0x11 (payl [] R.BD_XCMISS.addr []) 0x30007).2).1 (by unfold Hw.mgQuiet; decide) (by unfold Hw.answers; decide) (by decide)).1 (by decide) (by decide) (by decide)).runs,
   ((((((h (wMg (sets [(F.ID_MGCTRL_CCIMCTP, 0, 2)])) .cciMctp 0 0x11 (payl [] R.BD_XCMISS.addr []) 0x30007).2).2).2).2).1 (by decide)).runs,
   ((((((h (wMg (sets [(F.ID_MGCTRL_CCIMCTP, 0, 2)])) .cciMctp 0 0x11 (payl [] R.BD_XCMISS.addr []) 0x30007).2).2).2).2).2 (by decide)).runs⟩

theorem witness_OtherAccessPathsComplete_2 (h : Obligations.OtherAccessPathsComplete) :
    Runs (.onamenexRegisterWrite Path.cciMctp (payl [] R.BD_CTRL.addr [1, 2, 3, 4])) (wMg (sets [(F.ID_MGCTRL_CCIMCTP, 0, 2)])) ∧
    Runs (.onamenexRegisterRead (Path.cciMbox 3) (payl [] R.BD_CTRL.addr [1, 2, 3, 4])) (wMg (sets [(F.ID_MGCTRL_CCIMB, 0, 0)])) :=
  ⟨(((((h (wMg (sets [(F.ID_MGCTRL_CCIMCTP, 0, 2)])) .cciMctp 0 0x11 (payl [] R.BD_CTRL.addr [1, 2, 3, 4]) 0x30007).2).1 (by unfold Hw.mgQuiet; decide) (by unfold Hw.answers; decide) (by decide)).2).1 (by decide) (by decide) (by decide) (by decide)).runs,
   (((((h (wMg (sets [(F.ID_MGCTRL_CCIMB, 0, 0)])) (.cciMbox 3) 0 0x11 (payl [] R.BD_CTRL.addr [1, 2, 3, 4]) 0x30007).2).1 (by unfold Hw.mgQuiet; decide) (by unfold Hw.answers; decide) (by decide)).2).2 (by decide)).runs⟩

theorem witness_ResetsComplete (h : Obligations.ResetsComplete) :
    Runs .moduleReset (wModReq) ∧
    Runs (.fabricReset 7) (wFabReq) :=
  ⟨((h wModReq 2 7).1 (by decide)).runs,
   ((h wFabReq 2 7).2 (by decide) (by decide) (by decide) (by unfold Hw.mgQuiet; decide)).runs⟩

theorem witness_IngressAndTranslationComplete (h : Obligations.IngressAndTranslationComplete) :
    Runs (.messageIngress (msg 80 MsgCls.internal none none)) (wIngress) ∧
    Runs (.translationCacheFill 5 7 .good .good) (wMiss) ∧
    Runs (.messageIngress (msg 80 .ioCpl none none)) (wit id) ∧
    Runs (.messageIngress { msg 80 .internal none none with dest := .bus 7 }) (wBus80) ∧
    Runs (.messageIngress (msg 80 .birsp none none)) (wBehind) :=
  ⟨((h.1 wIngress (msg 80 .internal none none) 0x20 (by decide) (by decide) (by decide) (by decide) (by decide) (by decide) (by decide) (by decide) (.inl rfl)).1 (by decide) (fun h => nomatch h)).runs,
   (h.2 wMiss 5 7 (rdMsg (7 * 2 ^ 21)) (rd (7 * 2 ^ 21)) (by decide) (by decide) (by decide) (by decide) (by decide) (by decide)).runs,
   ((h.1 (wit id) (msg 80 .ioCpl none none) 0x20 (by decide) (by decide) (by decide) (by decide) (by decide) (by decide) (by decide) (by decide) (.inl rfl)).2.1 (by decide) (by decide) (fun h => nomatch h)).runs,
   ((h.1 wBus80 { msg 80 .internal none none with dest := .bus 7 } 0x20 (by decide) (by decide) (by decide) (by decide) (by decide) (by decide) (by decide) (by decide) (.inr ⟨7, rfl, by decide⟩)).1 (by decide) (fun h => nomatch h)).runs,
   ((h.1 wBehind (msg 80 .birsp none none) 0x20 (by decide) (by decide) (by decide) (by decide) (by decide) (by decide) (by decide) (by decide) (.inl rfl)).2.2 (by decide) (by decide)).runs⟩

theorem witness_PoolRequestsComplete (h : Obligations.PoolRequestsComplete) :
    Runs (.cxlMemM2sRequest 0 3 (rdMsg (7 * 2 ^ 21 + 128))) (wPool) ∧
    Runs (.cxlMemM2sRequest 0 3 (rdMsg (128 * 2 ^ 21))) (wPool) ∧
    Runs (.cxlMemM2sRequest 0 4 (rdMsg 0)) (wPool) ∧
    Runs (.cxlMemM2sRequest 0 3 (rdMsg 0)) (wStopped) :=
  ⟨(((h wPool 0 3 5 (etMake true false false 3) (3 * 2 ^ 21 + 128) (rdMsg (7 * 2 ^ 21 + 128)) (rd (7 * 2 ^ 21 + 128)) (by decide) (by decide) (by decide) (by decide) (by decide) (by decide) (by decide) (by decide) (by decide)).1 (by decide) (by decide) (by decide) (by decide) (by decide) (by decide) (by decide) (by decide)).1 (by decide) (by decide) (by decide) (by decide) (by decide) (by decide) (by decide) (by decide) (by decide)).runs,
   (((h wPool 0 3 5 0 0 (rdMsg (128 * 2 ^ 21)) (rd (128 * 2 ^ 21)) (by decide) (by decide) (by decide) (by decide) (by decide) (by decide) (by decide) (by decide) (by decide)).1 (by decide) (by decide) (by decide) (by decide) (by decide) (by decide) (by decide) (by decide)).2 (by decide) (by decide)).runs,
   ((h wPool 0 4 5 0 0 (rdMsg 0) (rd 0) (by decide) (by decide) (by decide) (by decide) (by decide) (by decide) (by decide) (by decide) (by decide)).2.1 (by decide) (by decide)).runs,
   ((h wStopped 0 3 5 0 0 (rdMsg 0) (rd 0) (by decide) (by decide) (by decide) (by decide) (by decide) (by decide) (by decide) (by decide) (by decide)).2.2 (by decide) (by decide) (by decide) (by decide)).runs⟩

theorem witness_RouteCommandsComplete (h : Obligations.RouteCommandsComplete) :
    Runs (.swRtcmdNop Path.turret 5) (wRoute 5 (7 * 2 ^ 32 + 2 ^ 48) 27658225) ∧
    Runs (.swRtcmdRead Path.turret 5) (wRoute 5 (7 * 2 ^ 32 + 2 ^ 48) 27658225) ∧
    Runs .routeUpdateComplete (wRoute 5 (7 * 2 ^ 32 + 2 ^ 48) 27658225) ∧
    Runs (.swRtcmdUpdate Path.turret 5) (wRoute 5 (65535 * 2 ^ 32 + 2 ^ 48) 27280643) ∧
    Runs (.swRtcmdUpdateRevoke Path.turret 5) (wRoute 5 (65535 * 2 ^ 32 + 2 ^ 48) 27280643) ∧
    Runs (.swRtcmdUpdate Path.barrier 200) (wRoute 200 (65535 * 2 ^ 32 + 2 ^ 48) 27264256) :=
  ⟨(((h (wRoute 5 (7 * 2 ^ 32 + 2 ^ 48) 0x1A607F1) .turret 5 (by decide)).1 (by decide)).1).runs,
   ((((h (wRoute 5 (7 * 2 ^ 32 + 2 ^ 48) 0x1A607F1) .turret 5 (by decide)).1 (by decide)).2).1).runs,
   (((h (wRoute 5 (7 * 2 ^ 32 + 2 ^ 48) 0x1A607F1) .turret 5 (by decide)).2).2).runs,
   ((((((h (wRoute 5 (0xFFFF * 2 ^ 32 + 2 ^ 48) 0x1A04503) .turret 5 (by decide)).1 (by decide)).2).2).1 (by decide)).1).runs,
   ((((((h (wRoute 5 (0xFFFF * 2 ^ 32 + 2 ^ 48) 0x1A04503) .turret 5 (by decide)).1 (by decide)).2).2).1 (by decide)).2).runs,
   (((((h (wRoute 200 (0xFFFF * 2 ^ 32 + 2 ^ 48) 0x1A00500) .barrier 200 (by decide)).1 (by decide)).2).2).2 (by decide)).runs⟩

theorem witness_RouteCommandsComplete_2 (h : Obligations.RouteCommandsComplete) :
    Runs (.swRtcmdUpdate Path.turret 200) (wRtBusy) :=
  (((h wRtBusy .turret 200 (by decide)).2).1 (by decide)).runs

theorem witness_MatchingAndEgressComplete (h : Obligations.MatchingAndEgressComplete) :
    Runs .matchingSlot (wVoq) ∧
    Runs (.egressSelect 80 [MsgCls.internal] ⟨Ecc.good, Ecc.good⟩) (wQ 1280 (qHead (eInt 81 80 1)) id) ∧
    Runs (.egressSelect 80 [MsgCls.internal] ⟨Ecc.ue, Ecc.good⟩) (wQ 1280 (qHead (eInt 81 80 1)) id) ∧
    Runs .ageingCheck (wAged) :=
  ⟨(h.1 wVoq (eInt 80 81 0) (by decide) (by decide) (by decide) (by decide) (by decide) (by decide) (by decide) (by decide) (by decide) (by decide) (by decide) (by decide) (by decide) (by decide) (by decide) (by decide) (by decide)).runs,
   (((h.2 (wQ 1280 (qHead (eInt 81 80 1)) id) 80 [.internal] (eInt 81 80 1) 1280 (qHead (eInt 81 80 1))).1 (by decide) (by decide) (by decide) (by decide) (by decide) (by decide) (by decide) (by decide) (by decide) (by decide) (by decide) (by decide) (by decide)).1).runs,
   (((h.2 (wQ 1280 (qHead (eInt 81 80 1)) id) 80 [.internal] (eInt 81 80 1) 1280 (qHead (eInt 81 80 1))).1 (by decide) (by decide) (by decide) (by decide) (by decide) (by decide) (by decide) (by decide) (by decide) (by decide) (by decide) (by decide) (by decide)).2).runs,
   ((h.2 wAged 81 [] eNp 16 (qHead eNp)).2 (by decide) (by decide) (by decide) (by decide) (by decide) (by decide)).runs⟩

theorem witness_SpillCompletes (h : Obligations.SpillCompletes) :
    Runs (.spillWrite ⟨16, Ecc.good⟩) (wSpillR) ∧
    Runs (.spillRefillRead 16) (wSpill) ∧
    Runs (.spillReadAnswer 16 ⟨0, false⟩) (wSpill) ∧
    Runs (.spillReadAnswer 16 ⟨0, false⟩) (wRefill) ∧
    Runs (.spillReadTimeout 16) (wRefill) ∧
    Runs (.spillRelink 16) (wStage) :=
  ⟨((h wSpillR 16 0 eNp 3 1 0).1 (by decide) (by decide) (by decide) (by decide) (by decide) (by decide) (wholeOf (by decide)) (fun j hj => wholeOf (by revert j; decide))).runs,
   (((h wSpill 16 0 eNp 3 1 0).2).1 (by decide) (by decide) (by decide) (by decide)).runs,
   (((((h wSpill 16 0 eNp 3 1 0).2).2).2).1 (.inl (by decide))).runs,
   (((((h wRefill 16 0 eNp 3 1 0).2).2).1 (by decide) (by decide) (by decide) (by decide)).1 (by decide) (by decide)).runs,
   (((((h wRefill 16 0 eNp 3 1 0).2).2).1 (by decide) (by decide) (by decide) (by decide)).2).runs,
   (((((h wStage 16 0 eNp 3 1 0).2).2).2).2 (by decide) (by decide) (by decide) (by decide) (by decide)).runs⟩

theorem witness_SpillCompletes_2 (h : Obligations.SpillCompletes) :
    Runs (.spillReadAnswer 16 ⟨1, false⟩) (wRefill) :=
  (((((h wRefill 16 1 eNp 3 1 0).2).2).2).1 (.inr (by decide))).runs

theorem witness_MulticastAndAuditComplete (h : Obligations.MulticastAndAuditComplete) :
    Runs (.multicastLegDone 4 16) (wLegs 2) ∧
    Runs (.multicastCreditTimeout 16) (wLegs2) ∧
    Runs .swAudctrlGo (wHalt 1) ∧
    Runs .swAudctrlGo (wHalt 0) ∧
    Runs .auditEnd (wAudit) :=
  ⟨((h.1 (wLegs 2) 4 16 2 1 eMc [] (by decide)).1 (by decide) (by decide)).runs,
   ((h.1 wLegs2 4 16 2 1 { eMc with leg := 1 } [] (by decide)).2 (by decide) (by decide) (by decide) (by decide) (by decide)).runs,
   ((h.2 (wHalt 1)).1 (by decide)).runs,
   (((h.2 (wHalt 0)).2).1 (by decide)).runs,
   (((h.2 wAudit).2).2 (by decide) (by decide) (by decide)).runs⟩

theorem witness_ShapingAndPacingComplete (h : Obligations.ShapingAndPacingComplete) :
    Runs .shaperSlotBoundary (wShaper) ∧
    Runs (.shaperConfigWrite 16 true 131073) (wShaper) ∧
    Runs (.pacingRelease 0) (wPace 1000 3) ∧
    Runs (.tsPaceRateWrite 5 2000) (wPace 1000 3) ∧
    Runs .pacingWheelTick (wPace 1000 3) ∧
    Runs .pacingWheelTick (wPace 0 2) :=
  ⟨((h.1 wShaper 16 0x20001 [] .good .good).1 (by decide) (by decide)).runs,
   ((h.1 wShaper 16 0x20001 [] .good .good).2.1 (by decide) (by decide)).runs,
   ((h.2 (wPace 1000 3) 0 5 2000 1000 16 (emsg (rdMsg 0) 80 0 1 none) EQ.empty).1 (by decide) (by decide) (by decide)).runs,
   (((h.2 (wPace 1000 3) 0 5 2000 1000 16 (emsg (rdMsg 0) 80 0 1 none) EQ.empty).2).1 (by decide) (by decide) (by decide)).runs,
   ((((h.2 (wPace 1000 3) 0 5 2000 1000 16 (emsg (rdMsg 0) 80 0 1 none) EQ.empty).2).2).1 (by decide) (by decide) (by decide) (by decide)).runs,
   (((((h.2 (wPace 0 2) 0 5 1000000 0 16 (emsg (rdMsg 0) 80 0 1 none) EQ.empty).2).2).2).1 (by decide)).runs⟩

theorem witness_ShapingAndPacingComplete_2 (h : Obligations.ShapingAndPacingComplete) :
    Runs .samplerCapture (wSample) ∧
    Runs (.egressSelect 1 [] ⟨Ecc.good, Ecc.good⟩) (wShNew) :=
  ⟨(((((h.2 wSample 0 5 1000000 0 17 eNp (qBoth eNp)).2).2).2).2 (by decide) (by decide) (by decide) (by decide)).runs,
   (((h.1 wShNew 16 0 [] .good .good).2.2) (by decide) (by decide)).runs⟩

theorem witness_MoverDispatchCompletes (h : Obligations.MoverDispatchCompletes) :
    Runs (.dmRtailDoorbell Path.turret 3 5) (wRing (dsc 1 (2 ^ 10) 0 64 64) id) ∧
    Runs .dmDispatch (wRing (dsc 1 (2 ^ 10) 0 64 64) id) ∧
    Runs (.dmRtailDoorbell Path.debug 3 17) (wRing (dsc 1 (2 ^ 10) 0 64 64) id) ∧
    Runs (.dmRcfgWrite Path.debug 3 17) (wRing (dsc 1 (2 ^ 10) 0 64 64) id) ∧
    Runs (.dmRcfgWrite Path.turret 3 305419902) (wRcfg) ∧
    Runs .dmDispatch (wOwn) :=
  ⟨((h (wRing (dsc 1 (2 ^ 10) 0 0x40 64) id) .turret 3 0 0 5 (by decide)).1 (by decide) (by decide)).runs,
   ((((h (wRing (dsc 1 (2 ^ 10) 0 0x40 64) id) .turret 3 0 0 5 (by decide)).2).2).1 (by decide) (by decide) (by decide) (by decide) (by decide) (by decide) (by decide) (slotSp (by decide))).runs,
   (((h (wRing (dsc 1 (2 ^ 10) 0 0x40 64) id) .debug 3 0 0 17 (by decide)).2).1 (by decide)).runs,
   ((h (wRing (dsc 1 (2 ^ 10) 0 0x40 64) id) .debug 3 0 0 17 (by decide)).2.2.2.2.1 (by decide) (by decide)).runs,
   ((h wRcfg .turret 3 0 0 0x1234567E (by decide)).2.2.2.2.2 (by decide) (by decide) (by decide) (by decide) (by decide)).runs,
   ((h wOwn .turret 3 0 3 0 (by decide)).2.2.2.1 (by decide) (by decide) (by decide) (by decide)).runs⟩

theorem witness_MoverWindowsComplete (h : Obligations.MoverWindowsComplete) :
    Runs (.fill 1) (wJob (jb dFil (some 1) DmPhase.idle) sysRW) ∧
    Runs (.verify 1) (wJob (jb dVer (some 1) DmPhase.idle) sysRW) ∧
    Runs (.copy 1) (wJob (jb dCpy (some 1) DmPhase.idle) sysRW) ∧
    Runs (.dmWindowReadsDone 1 3) (wAcc (jAcc dVer .reading) (acc .src 0x40 .out 0 false)) ∧
    Runs (.dmWindowReadsDone 1 3) (wAcc (jAcc dVer .reading) (acc .src 0x40 .done 0 true)) ∧
    Runs (.dmWindowReadsDone 1 3) (wAcc (jAcc dVer .reading) (acc .src 0x40 .done 0 false)) :=
  ⟨(((h (wJob (jb dFil (some 1) .idle) sysRW) 1 3 0 7 (jb dFil (some 1) .idle) (acc .src 0x40 .out 0 false) (by decide) (by decide) (by decide) (by decide) (by decide)).1 (by decide) (by decide) (by decide) (by decide)).1 (by decide) (by decide) (by decide) (by decide) (by decide) (by decide)).runs,
   ((((h (wJob (jb dVer (some 1) .idle) sysRW) 1 3 0 7 (jb dVer (some 1) .idle) (acc .src 0x40 .out 0 false) (by decide) (by decide) (by decide) (by decide) (by decide)).1 (by decide) (by decide) (by decide) (by decide)).2 (by unfold Hw.homeIdle; decide) (by decide) (by decide) (by decide) (by decide) (by decide) (by decide)).1 (by decide) (by decide)).runs,
   ((((h (wJob (jb dCpy (some 1) .idle) sysRW) 1 3 0 7 (jb dCpy (some 1) .idle) (acc .src 0x40 .out 0 false) (by decide) (by decide) (by decide) (by decide) (by decide)).1 (by decide) (by decide) (by decide) (by decide)).2 (by unfold Hw.homeIdle; decide) (by decide) (by decide) (by decide) (by decide) (by decide) (by decide)).2 (by decide) (by decide) (by decide) (by decide) (by decide) (by decide)).runs,
   (((h (wAcc (jAcc dVer .reading) (acc .src 0x40 .out 0 false)) 1 3 0 7 (jAcc dVer .reading) (acc .src 0x40 .out 0 false) (by decide) (by decide) (by decide) (by decide) (by decide)).2.1 (by decide) (by decide) (by decide) (by decide) (by decide) (by decide)).1 (by decide)).runs,
   ((((h (wAcc (jAcc dVer .reading) (acc .src 0x40 .done 0 true)) 1 3 0 7 (jAcc dVer .reading) (acc .src 0x40 .done 0 true) (by decide) (by decide) (by decide) (by decide) (by decide)).2.1 (by decide) (by decide) (by decide) (by decide) (by decide) (by decide)).2.1 (by decide) (by decide) (by decide) (by decide) (by decide) (by decide)).1 (by decide)).runs,
   ((((h (wAcc (jAcc dVer .reading) (acc .src 0x40 .done 0 false)) 1 3 0 7 (jAcc dVer .reading) (acc .src 0x40 .done 0 false) (by decide) (by decide) (by decide) (by decide) (by decide)).2.1 (by decide) (by decide) (by decide) (by decide) (by decide) (by decide)).2.1 (by decide) (by decide) (by decide) (by decide) (by decide) (by decide)).2.1 (by decide) (by decide)).runs⟩

theorem witness_MoverWindowsComplete_2 (h : Obligations.MoverWindowsComplete) :
    Runs (.dmWindowReadsDone 1 3) (wAcc (jAcc dVer .reading) (acc .src 0x40 .done 256 false)) ∧
    Runs (.dmWindowReadsDone 1 3) (wAcc (jAcc dFil .reading) (acc .own 0x80 .done 0 false)) ∧
    Runs (.dmWindowCommit 1) (wAcc (jAcc dFil .writing) (acc .write 0x80 .out 0 false)) ∧
    Runs (.dmWindowCommit 1) (wJob (jbW dVer 32) id) ∧
    Runs (.dmWindowCommit 1) (wJob (jbW dVer 64) id) :=
  ⟨((((h (wAcc (jAcc dVer .reading) (acc .src 0x40 .done 256 false)) 1 3 1 7 (jAcc dVer .reading) (acc .src 0x40 .done 256 false) (by decide) (by decide) (by decide) (by decide) (by decide)).2.1 (by decide) (by decide) (by decide) (by decide) (by decide) (by decide)).2.1 (by decide) (by decide) (by decide) (by decide) (by decide) (by decide)).2.2 (by decide) (by decide)).runs,
   (((h (wAcc (jAcc dFil .reading) (acc .own 0x80 .done 0 false)) 1 3 0 7 (jAcc dFil .reading) (acc .own 0x80 .done 0 false) (by decide) (by decide) (by decide) (by decide) (by decide)).2.1 (by decide) (by decide) (by decide) (by decide) (by decide) (by decide)).2.2 (by decide) (by decide) (by decide) (by decide) (by decide) (by decide) (by decide) (by decide) (by decide) (by decide) (by decide) (by unfold Hw.homeIdle; decide) (by decide) (by decide) (by decide) (by decide) (by decide)).runs,
   (((h (wAcc (jAcc dFil .writing) (acc .write 0x80 .out 0 false)) 1 3 0 7 (jAcc dFil .writing) (acc .write 0x80 .out 0 false) (by decide) (by decide) (by decide) (by decide) (by decide)).2.2 (by decide)).1 (by decide) (by decide)).runs,
   ((((h (wJob (jbW dVer 32) id) 1 3 0 7 (jbW dVer 32) (acc .src 0x40 .out 0 false) (by decide) (by decide) (by decide) (by decide) (by decide)).2.2 (by decide)).2 (by decide) (by decide)).1 (by decide) (by decide) (by decide) (.inr (slotSp (by decide)))).runs,
   ((((h (wJob (jbW dVer 64) id) 1 3 0 7 (jbW dVer 64) (acc .src 0x40 .out 0 false) (by decide) (by decide) (by decide) (by decide) (by decide)).2.2 (by decide)).2 (by decide) (by decide)).2 (by decide) (by decide)).runs⟩

theorem witness_MoverFailuresAndFencesComplete (h : Obligations.MoverFailuresAndFencesComplete) :
    Runs (.dmEngineFailure 1) (wJob (jb dVer (some 1) DmPhase.idle) id) ∧
    Runs (.dmFence 3) (wRing (dsc 4 0 0 0 0) id) ∧
    Runs (.dmFenceSatisfied 3) (wJob (jb 4 none DmPhase.fence) id) ∧
    Runs (.dmFenceSatisfied 3) (wJob { jb 4 none DmPhase.fence with peers := [2] } id) :=
  ⟨((h (wJob (jb dVer (some 1) .idle) id) 1 3 (jb dVer (some 1) .idle) (by decide)).1 (by decide) (by decide) (by decide) (by decide) (by decide) (by decide) (by decide)).runs,
   (((h (wRing (dsc 4 0 0 0 0) id) 1 3 (jb dVer (some 1) .idle) (by decide)).2).1 (by decide) (by decide) (by decide) (by decide) (by decide) (slotSp (by decide))).runs,
   ((h (wJob (jb 4 none .fence) id) 1 3 (jb 4 none .fence) (by decide)).2.2.2 (by decide) (by decide) (by decide) (by decide) (slotSp (by decide)) (by decide)).runs,
   ((h (wJob { jb 4 none .fence with peers := [2] } id) 1 3 { jb 4 none .fence with peers := [2] } (by decide)).2.2.1 (by decide) (by decide) (by decide) (by decide)).runs⟩

theorem witness_MigrationCompletes (h : Obligations.MigrationCompletes) :
    Runs (.migrateStart 1) (wMig 0 0 0 DmPhase.idle (dMig 0) (some 1)) ∧
    Runs (.migrateAbandon 1) (wMig 1 0 0 DmPhase.idle (dMig 1) (some 1)) ∧
    Runs (.migrationLineLock 1) (wMig 1 0 0 DmPhase.copying (dMig 0) (some 1)) ∧
    Runs (.migrationLineCopied 1 2) (wCopied) ∧
    Runs (.migrationCommit 2 false) (wMig 1 1 32768 DmPhase.draining (dMig 0) none) ∧
    Runs .migrationLockRetry (wLock) :=
  ⟨(((h (wMig 0 0 0 .idle (dMig 0) (some 1)) 1 3 0 5 7 0 0 0 0 (jb (dMig 0) (some 1) .idle) (lockReq 0) (lockTxn 0 0)).1 (by decide) (by decide) (by decide) (by decide) (by decide)).1 (by decide) (by decide) (by decide) (by decide) (by decide) (by decide) (by decide) (by decide) (wholeOf (by decide)) (by decide)).runs,
   ((((h (wMig 1 0 0 .idle (dMig 1) (some 1)) 1 3 2 5 7 0 0 0 0 (jb (dMig 1) (some 1) .idle) (lockReq 0) (lockTxn 0 0)).1 (by decide) (by decide) (by decide) (by decide) (by decide)).2).1 (by decide) (by decide) (by decide) (by decide) (by decide) (by decide) (by unfold Hw.homeIdle; decide) (by decide) (by decide) (by decide)).runs,
   (((((h (wMig 1 0 0 .copying (dMig 0) (some 1)) 1 3 2 5 7 0 0 0 0 (jbM (dMig 0)) (lockReq 0) (lockTxn 0 0)).1 (by decide) (by decide) (by decide) (by decide) (by decide)).2).2 (by decide) (by decide) (by decide)).1 (by decide) (by unfold Hw.homeIdle; decide) (by decide) (by decide) (by decide)).runs,
   ((((h wCopied 1 3 2 5 7 0 2 (64 * sliceOf (3 * 2 ^ 15 + 2)) 99 (jbM (dMig 0)) (lockReq 0) (lockTxn 2 99)).1 (by decide) (by decide) (by decide) (by decide) (by decide)).2.2 (by decide) (by decide) (by decide)).2 (by decide) (by decide) (by decide) (by decide) (by decide) (by decide) (by decide) (by decide) (by decide) (by decide) (by decide) (by decide) (by decide) (by decide) (by decide) (by decide) (by decide) (by decide) (by decide) (by decide) (by decide) (by decide) (by decide) (by decide) (by decide) (by decide) (by decide) (by decide)).runs,
   (((h (wMig 1 1 32768 .draining (dMig 0) none) 1 3 2 5 7 0 0 0 0 (jbD (dMig 0)) (lockReq 0) (lockTxn 0 0)).2).1 (by decide) (by decide) (by decide) (by decide) (by decide) (by decide) (by decide) (by decide) (by decide) (by decide) (by decide) (by decide) (by decide) (by decide) (wholeOf (by decide))).runs,
   (((h wLock 1 3 2 5 7 0 0 0 0 (jb 0 none .idle) (lockReq 2) (lockTxn 0 0)).2).2 (by unfold Hw.homeIdle; decide) (by decide) (by decide) (by decide) (by decide) (by decide) (by decide)).runs⟩

theorem witness_HomeRequestsComplete (h : Obligations.HomeRequestsComplete) :
    Runs (.homeRdshared (coh (cup 1) 9 false) []) (wit id) ∧
    Runs (.homeRdown (coh (cup 1) 9 false) []) (wit id) ∧
    Runs (.homeUpgrade (coh (cup 1) 9 false) []) (wit id) ∧
    Runs (.homeHostRequest (rdMsg 0) HostOp.wrAny 0 0 (2 ^ 64 - 1) []) (wit id) ∧
    Runs (.homeUpgrade (coh (cup 1) 9 false) []) (wDir (dEnt 1 73)) ∧
    Runs (.homeHostRequest (rdMsg 0) HostOp.rdAny 320 0 0 []) (wDb) :=
  ⟨((((h (wit id) (coh (cup 1) 9 false) (rdMsg 0) 5 0 0 0 (dEnt 1 73) (by unfold Hw.homeIdle; decide) (by decide)).1 (by decide) (by decide)).1 (by decide) (by decide)).1).runs,
   (((((h (wit id) (coh (cup 1) 9 false) (rdMsg 0) 5 0 0 0 (dEnt 1 73) (by unfold Hw.homeIdle; decide) (by decide)).1 (by decide) (by decide)).1 (by decide) (by decide)).2).1).runs,
   (((((h (wit id) (coh (cup 1) 9 false) (rdMsg 0) 5 0 0 0 (dEnt 1 73) (by unfold Hw.homeIdle; decide) (by decide)).1 (by decide) (by decide)).1 (by decide) (by decide)).2).2).runs,
   (((h (wit id) (coh (cup 1) 9 false) (rdMsg 0) 5 0 0 0 (dEnt 1 73) (by unfold Hw.homeIdle; decide) (by decide)).2 (by decide) (by decide) (by decide) (by decide) (by decide)).2 (by decide) (by decide) (by decide) (by decide)).runs,
   (((h (wDir (dEnt 1 73)) (coh (cup 1) 9 false) (rdMsg 0) 5 0 0 0 (dEnt 1 73) (by unfold Hw.homeIdle; decide) (by decide)).1 (by decide) (by decide)).2 (by decide) (by decide) (by decide) (by decide) (by decide) (by decide)).runs,
   ((((h wDb (coh (cup 1) 9 false) (rdMsg 0) 5 320 12345 0 (dEnt 1 73) (by unfold Hw.homeIdle; decide) (by decide)).2 (by decide) (by decide) (by decide) (by decide) (by decide)).1 (by decide) (by decide)).1).runs⟩

theorem witness_HomeRequestsComplete_2 (h : Obligations.HomeRequestsComplete) :
    Runs (.homeHostRequest (rdMsg 0) HostOp.rdShared 320 0 0 []) (wDb) :=
  ((((h wDb (coh (cup 1) 9 false) (rdMsg 0) 5 320 12345 0 (dEnt 1 73) (by unfold Hw.homeIdle; decide) (by decide)).2 (by decide) (by decide) (by decide) (by decide) (by decide)).1 (by decide) (by decide)).2).runs

theorem witness_HomeReleasesComplete (h : Obligations.HomeReleasesComplete) :
    Runs (.homeWbdirty (coh (cup 1) 9 false) []) (wit id) ∧
    Runs (.fenceReceive ⟨(coh (cup 1) 9 false), 0⟩) (wit id) ∧
    Runs (.biconflict 0 5 320) (wit id) ∧
    Runs (.homeEvict (coh (cup 1) 9 false) []) (wDir (dEnt 1 73)) ∧
    Runs (.homeWbdirty (coh (cup 1) 9 false) []) (wDir (dEnt 2 73)) ∧
    Runs (.homeWbclean (coh (cup 1) 9 false) []) (wDir (dEnt 2 73)) :=
  ⟨((((h (wit id) (coh (cup 1) 9 false) 0 0 5 320 200 3 0 tGnt (dEnt 1 73) (200, 3, 0)).1 (by decide) (by decide)).1 (by unfold Hw.homeIdle; decide)).1 (Instr.homeWbdirty (coh (cup 1) 9 false) []) (by simp) (by decide)).runs,
   ((((h (wit id) (coh (cup 1) 9 false) 0 0 5 320 200 3 0 tGnt (dEnt 1 73) (200, 3, 0)).1 (by decide) (by decide)).2).2).runs,
   (((h (wit id) (coh (cup 1) 9 false) 0 0 5 320 200 3 0 tGnt (dEnt 1 73) (200, 3, 0)).2).2).runs,
   ((((((h (wDir (dEnt 1 73)) (coh (cup 1) 9 false) 0 0 5 320 200 3 0 tGnt (dEnt 1 73) (200, 3, 0)).1 (by decide) (by decide)).1 (by unfold Hw.homeIdle; decide)).2 (by decide) (by decide) (by decide) (by decide) (by decide)).2).2 (by decide)).runs,
   (((((h (wDir (dEnt 2 73)) (coh (cup 1) 9 false) 0 0 5 320 200 3 0 tGnt (dEnt 2 73) (200, 3, 0)).1 (by decide) (by decide)).1 (by unfold Hw.homeIdle; decide)).2 (by decide) (by decide) (by decide) (by decide) (by decide)).1 (by decide) (by decide) (by decide) (by decide) (by decide) (by decide)).runs,
   ((((((h (wDir (dEnt 2 73)) (coh (cup 1) 9 false) 0 0 5 320 200 3 0 tGnt (dEnt 2 73) (200, 3, 0)).1 (by decide) (by decide)).1 (by unfold Hw.homeIdle; decide)).2 (by decide) (by decide) (by decide) (by decide) (by decide)).2).1 (by decide)).runs⟩

theorem witness_HomeReleasesComplete_2 (h : Obligations.HomeReleasesComplete) :
    Runs (.homeCompletionAck (coh (cup 1) 9 false)) (wTxn 320 tGnt) ∧
    Runs (.fenceAckSend 200 3) (wTxn 320 tGnt) ∧
    Runs (.fenceAckSend 200 3) (wFence) :=
  ⟨((((h (wTxn 320 tGnt) (coh (cup 1) 9 false) 320 0 5 320 200 3 0 tGnt (dEnt 2 73) (200, 3, 0)).1 (by decide) (by decide)).2).1 (by decide) (by decide) (by decide) (by decide) (by decide) (by decide) (by decide) (by decide) (by decide) (by decide) (by decide)).runs,
   (((h (wTxn 320 tGnt) (coh (cup 1) 9 false) 320 0 5 320 200 3 0 tGnt (dEnt 2 73) (200, 3, 0)).2.1 (by decide)).1 (by decide)).runs,
   (((h wFence (coh (cup 1) 9 false) 320 0 5 320 200 3 0 tGnt (dEnt 2 73) (200, 3, 5)).2.1 (by decide)).2 (by decide)).runs⟩

theorem witness_HomeAnswersComplete (h : Obligations.HomeAnswersComplete) :
    Runs (.homeSnoopAck (coh (cup 1) 320 false)) (wTxn 320 (tSnp HKind.cShared)) ∧
    Runs (.homeInvack (coh (cup 1) 320 false)) (wTxn 320 (tSnp HKind.cShared)) ∧
    Runs (.homeDatao (coh (cup 1) 320 false)) (wTxn 320 (tSnp HKind.cShared)) ∧
    Runs (.homeBirsp 0 5 (7 * 2 ^ 21 + 320) BiRsp.i) (wTxn 320 (tSnp HKind.cShared)) ∧
    Runs (.homeSnoopAck (coh (cup 1) 320 true)) (wTxn 320 (tSnp HKind.cShared)) ∧
    Runs (.homeDatam (coh (cup 1) 320 true)) (wTxn 320 (tSnp HKind.hOwn)) :=
  ⟨((((h (wTxn 320 (tSnp .cShared)) (coh (cup 1) 320 false) 320 0 5 (7 * 2 ^ 21 + 320) 320 9 0 0 .good (tSnp .cShared) (msg 2 .memReqD (some 5) none) (rd 320)).1 (by decide) (by decide) (by decide) (by decide) (by decide)).1 (by decide) (by decide) (by decide) (by decide) (by decide) (by decide) (by decide) (by decide)).1 (by decide)).runs,
   ((((((h (wTxn 320 (tSnp .cShared)) (coh (cup 1) 320 false) 320 0 5 (7 * 2 ^ 21 + 320) 320 9 0 0 .good (tSnp .cShared) (msg 2 .memReqD (some 5) none) (rd 320)).1 (by decide) (by decide) (by decide) (by decide) (by decide)).1 (by decide) (by decide) (by decide) (by decide) (by decide) (by decide) (by decide) (by decide)).2).2).1).runs,
   (((((((h (wTxn 320 (tSnp .cShared)) (coh (cup 1) 320 false) 320 0 5 (7 * 2 ^ 21 + 320) 320 9 0 0 .good (tSnp .cShared) (msg 2 .memReqD (some 5) none) (rd 320)).1 (by decide) (by decide) (by decide) (by decide) (by decide)).1 (by decide) (by decide) (by decide) (by decide) (by decide) (by decide) (by decide) (by decide)).2).2).2).2).runs,
   ((((h (wTxn 320 (tSnp .cShared)) (coh (cup 1) 320 false) 320 0 5 (7 * 2 ^ 21 + 320) 320 9 0 0 .good (tSnp .cShared) (msg 2 .memReqD (some 5) none) (rd 320)).1 (by decide) (by decide) (by decide) (by decide) (by decide)).2).1 (by decide) (by decide) (by decide) (by decide)).runs,
   (((((h (wTxn 320 (tSnp .cShared)) (coh (cup 1) 320 true) 320 0 5 (7 * 2 ^ 21 + 320) 320 9 0 0 .good (tSnp .cShared) (msg 2 .memReqD (some 5) none) (rd 320)).1 (by decide) (by decide) (by decide) (by decide) (by decide)).1 (by decide) (by decide) (by decide) (by decide) (by decide) (by decide) (by decide) (by decide)).2).1 (by decide)).runs,
   (((((((h (wTxn 320 (tSnp .hOwn)) (coh (cup 1) 320 true) 320 0 5 (7 * 2 ^ 21 + 320) 320 9 0 0 .good (tSnp .hOwn) (msg 2 .memReqD (some 5) none) (rd 320)).1 (by decide) (by decide) (by decide) (by decide) (by decide)).1 (by decide) (by decide) (by decide) (by decide) (by decide) (by decide) (by decide) (by decide)).2).2).2).1 (by decide)).runs⟩

theorem witness_HomeAnswersComplete_2 (h : Obligations.HomeAnswersComplete) :
    Runs (.domeReadComplete 320 ⟨9, 0⟩ .good .good false) (wTxn 320 tNc) ∧
    Runs (.domeReadComplete 320 ⟨9, 0⟩ .good .good false) (wit id) ∧
    Runs (.domeReadTimeout 0 ⟨9, .good⟩) wCh1 ∧
    Runs (.domeReadComplete 320 ⟨9, 1⟩ .good .good false) (wit id) ∧
    Runs (.domeReadComplete 320 ⟨9, 0⟩ .good .good false) (wTxn 320 tIo) ∧
    Runs (.domeReadTimeout 0 ⟨9, .good⟩) wCh :=
  ⟨((((h (wTxn 320 tNc) (coh (cup 1) 320 true) 320 0 5 (7 * 2 ^ 21 + 320) 320 9 0 0 .good tNc (msg 2 .memReqD (some 5) none) (rd 320)).1 (by decide) (by decide) (by decide) (by decide) (by decide)).2.2 (by decide) (by decide) (by decide) (by decide) (by decide) (by decide) (by decide) (by decide) (by decide) (by decide) (by decide) (by decide) (by decide) (by decide) (by decide)).1 (.inl (by decide))).runs,
   ((h (wit id) (coh (cup 1) 320 true) 320 0 5 (7 * 2 ^ 21 + 320) 320 9 0 0 .good tNc (msg 2 .memReqD (some 5) none) (rd 320)).2.2.1 (by decide) (by decide) (by decide) (by decide)).runs,
   (((h wCh1 (coh (cup 1) 320 true) 320 0 5 (7 * 2 ^ 21 + 320) 0 9 0 0 .good tNc (msg 2 .memReqD (some 5) none) (rd 320)).2.2.2 (by decide) (by decide)).1 (by decide)).runs,
   ((h (wit id) (coh (cup 1) 320 true) 320 0 5 (7 * 2 ^ 21 + 320) 320 9 1 0 .good tNc (msg 2 .memReqD (some 5) none) (rd 320)).2.1 (by decide)).runs,
   ((((h (wTxn 320 tIo) (coh (cup 1) 320 true) 320 0 5 (7 * 2 ^ 21 + 320) 320 9 0 0 .good tIo (msg 2 .ioNp (some 5) (some (rd 320))) (rd 320)).1 (by decide) (by decide) (by decide) (by decide) (by decide)).2.2 (by decide) (by decide) (by decide) (by decide) (by decide) (by decide) (by decide) (by decide) (by decide) (by decide) (by decide) (by decide) (by decide) (by decide) (by decide)).2 (by decide) (by decide) (by decide) (by decide) (by decide)).runs,
   (((h wCh (coh (cup 1) 320 true) 320 0 5 (7 * 2 ^ 21 + 320) 0 9 0 6 .good tNc (msg 2 .memReqD (some 5) none) (rd 320)).2.2.2 (by decide) (by decide)).2 (by decide) (by decide) (by decide) (by decide)).runs⟩

theorem witness_CupolaLinesComplete (h : Obligations.CupolaLinesComplete) :
    Runs (.cupolaSnpinv (coh (cup 1) 9 false)) (wit id) ∧
    Runs (.cupolaSnpshared (coh (cup 1) 9 false)) (wLine 2) ∧
    Runs (.cupolaSnpshared (coh (cup 1) 9 false)) (wLine 4) ∧
    Runs (.cupolaHostSharedRead (rdMsg 0) (2 ^ 43 + 320) true) (wLineR 4) ∧
    Runs (.cupolaHostOwnershipRead (rdMsg 0) (2 ^ 43 + 320) true) (wLineR 4) ∧
    Runs (.cupolaNoncachingRead (rdMsg 0) (2 ^ 43 + 320)) (wLineR 4) :=
  ⟨(((h (wit id) (coh (cup 1) 9 false) (rdMsg 0) .wrAny 320 99 (cl 4) (by decide) (by decide) (by decide)).1 (by decide) (by decide)).1 (by decide)).runs,
   (((((h (wLine 2) (coh (cup 1) 9 false) (rdMsg 0) .wrAny 320 99 (cl 2) (by decide) (by decide) (by decide)).1 (by decide) (by decide)).2 (by decide) (by decide) (by decide)).1 (by decide)).1).runs,
   (((((h (wLine 4) (coh (cup 1) 9 false) (rdMsg 0) .wrAny 320 99 (cl 4) (by decide) (by decide) (by decide)).1 (by decide) (by decide)).2 (by decide) (by decide) (by decide)).2 (by decide)).1).runs,
   (((h (wLineR 4) (coh (cup 1) 9 false) (rdMsg 0) .wrAny (2 ^ 43 + 320) 99 (cl 4) (by decide) (by decide) (by decide)).2 (by decide) (by decide) (by decide) (.inl (by decide)) (by decide) (by decide) (by decide) (by decide) (by decide) (by decide) (by decide) (by decide)).1).runs,
   (((h (wLineR 4) (coh (cup 1) 9 false) (rdMsg 0) .wrAny (2 ^ 43 + 320) 99 (cl 4) (by decide) (by decide) (by decide)).2 (by decide) (by decide) (by decide) (.inl (by decide)) (by decide) (by decide) (by decide) (by decide) (by decide) (by decide) (by decide) (by decide)).2.1).runs,
   (((h (wLineR 4) (coh (cup 1) 9 false) (rdMsg 0) .wrAny (2 ^ 43 + 320) 99 (cl 4) (by decide) (by decide) (by decide)).2 (by decide) (by decide) (by decide) (.inl (by decide)) (by decide) (by decide) (by decide) (by decide) (by decide) (by decide) (by decide) (by decide)).2.2.1).runs⟩

theorem witness_CupolaLinesComplete_2 (h : Obligations.CupolaLinesComplete) :
    Runs (.cupolaNoncachingWrite (rdMsg 0) HostOp.wrAny (2 ^ 43 + 320) 99 (2 ^ 64 - 1)) (wLineR 4) ∧
    Runs (.cupolaSnpinv (coh (cup 1) 9 false)) (wLine 2) ∧
    Runs (.cupolaSnpfwdshared (coh (cup 1) 9 false)) (wLine 2) ∧
    Runs (.cupolaSnpfwdown (coh (cup 1) 9 false)) (wLine 2) ∧
    Runs (.cupolaSnpinv (coh (cup 1) 9 false)) (wLine 4) ∧
    Runs (.cupolaSnpfwdshared (coh (cup 1) 9 false)) (wLine 4) :=
  ⟨(((h (wLineR 4) (coh (cup 1) 9 false) (rdMsg 0) .wrAny (2 ^ 43 + 320) 99 (cl 4) (by decide) (by decide) (by decide)).2 (by decide) (by decide) (by decide) (.inl (by decide)) (by decide) (by decide) (by decide) (by decide) (by decide) (by decide) (by decide) (by decide)).2.2.2).runs,
   (((((h (wLine 2) (coh (cup 1) 9 false) (rdMsg 0) .wrAny 320 99 (cl 2) (by decide) (by decide) (by decide)).1 (by decide) (by decide)).2 (by decide) (by decide) (by decide)).1 (by decide)).2.1).runs,
   (((((h (wLine 2) (coh (cup 1) 9 false) (rdMsg 0) .wrAny 320 99 (cl 2) (by decide) (by decide) (by decide)).1 (by decide) (by decide)).2 (by decide) (by decide) (by decide)).1 (by decide)).2.2.1).runs,
   (((((h (wLine 2) (coh (cup 1) 9 false) (rdMsg 0) .wrAny 320 99 (cl 2) (by decide) (by decide) (by decide)).1 (by decide) (by decide)).2 (by decide) (by decide) (by decide)).1 (by decide)).2.2.2).runs,
   (((((h (wLine 4) (coh (cup 1) 9 false) (rdMsg 0) .wrAny 320 99 (cl 4) (by decide) (by decide) (by decide)).1 (by decide) (by decide)).2 (by decide) (by decide) (by decide)).2 (by decide)).2.1).runs,
   (((((h (wLine 4) (coh (cup 1) 9 false) (rdMsg 0) .wrAny 320 99 (cl 4) (by decide) (by decide) (by decide)).1 (by decide) (by decide)).2 (by decide) (by decide) (by decide)).2 (by decide)).2.2.1).runs⟩

theorem witness_CupolaLinesComplete_3 (h : Obligations.CupolaLinesComplete) :
    Runs (.cupolaSnpfwdown (coh (cup 1) 9 false)) (wLine 4) :=
  (((((h (wLine 4) (coh (cup 1) 9 false) (rdMsg 0) .wrAny 320 99 (cl 4) (by decide) (by decide) (by decide)).1 (by decide) (by decide)).2 (by decide) (by decide) (by decide)).2 (by decide)).2.2.2).runs

theorem witness_CupolaAnswersComplete (h : Obligations.CupolaAnswersComplete) :
    Runs (.cupolaDatas (coh (cup 1) 6 false)) (wRec6 (cr CuTr.isW none false)) ∧
    Runs (.cupolaAck (coh (cup 1) 6 false)) (wRec6 (cr CuTr.isW none false)) ∧
    Runs (.cupolaRetry (coh (cup 1) 6 false)) (wRec6 (cr CuTr.isW none false)) ∧
    Runs (.cupolaAck (coh (cup 1) 6 false)) (wRec6 (cr CuTr.gr (some (1, 77, false)) false)) ∧
    Runs (.retryBackoffExpire 6) (wRec6 (cr CuTr.smW none true)) ∧
    Runs (.tenureHoldEnd 6) (wRec6 (cr CuTr.th none false)) :=
  ⟨((((h (wRec6 (cr .isW none false)) (coh (cup 1) 6 false) 6 0 5 (7 * 2 ^ 21 + 320) (cr .isW none false) cStep 77 false (jb 0 none .idle)).1 (by decide) (by decide) (by decide) (by decide) (by decide)).1.1 (by decide)).1).runs,
   ((((h (wRec6 (cr .isW none false)) (coh (cup 1) 6 false) 6 0 5 (7 * 2 ^ 21 + 320) (cr .isW none false) cStep 77 false (jb 0 none .idle)).1 (by decide) (by decide) (by decide) (by decide) (by decide)).2).1 (by decide)).runs,
   (((((h (wRec6 (cr .isW none false)) (coh (cup 1) 6 false) 6 0 5 (7 * 2 ^ 21 + 320) (cr .isW none false) cStep 77 false (jb 0 none .idle)).1 (by decide) (by decide) (by decide) (by decide) (by decide)).2).2).2 (by decide)).runs,
   (((((h (wRec6 (cr .gr (some (1, 77, false)) false)) (coh (cup 1) 6 false) 6 0 5 (7 * 2 ^ 21 + 320) (cr .gr (some (1, 77, false)) false) cStep 77 false (jb 0 none .idle)).1 (by decide) (by decide) (by decide) (by decide) (by decide)).2).2).1 (by decide) (by decide) (by decide) (by decide)).runs,
   ((((h (wRec6 (cr .smW none true)) (coh (cup 1) 6 false) 6 0 5 (7 * 2 ^ 21 + 320) (cr .smW none true) cStep 77 false (jb 0 none .idle)).2).1 (by decide)).1 (by decide)).runs,
   ((((h (wRec6 (cr .th none false)) (coh (cup 1) 6 false) 6 0 5 (7 * 2 ^ 21 + 320) (cr .th none false) cStep 77 false (jb 0 none .idle)).2).1 (by decide)).2 (by decide) (by decide) (by decide)).runs⟩

theorem witness_CupolaAnswersComplete_2 (h : Obligations.CupolaAnswersComplete) :
    Runs (.cupolaHostBirsp 0 5 (7 * 2 ^ 21 + 320) BiRsp.i) (wStep) ∧
    Runs (.cupolaAck (coh (cup 1) 3 false)) (wDmFence) ∧
    Runs (.cupolaDatae (coh (cup 1) 6 false)) (wRec6 (cr CuTr.isW none false)) ∧
    Runs (.cupolaDatae (coh (cup 1) 6 false)) (wRec6 (cr CuTr.imW none false)) ∧
    Runs (.cupolaDatam (coh (cup 1) 6 false)) (wRec6 (cr CuTr.imW none false)) :=
  ⟨(((h wStep (coh (cup 1) 6 false) 6 0 5 (7 * 2 ^ 21 + 320) (cr .th none false) cStep 77 false (jb 0 none .idle)).2).2.1 (by decide) (by decide) (by decide) (by decide) (by decide)).runs,
   ((h wDmFence (coh (cup 1) 3 false) 3 0 5 (7 * 2 ^ 21 + 320) (cr .th none false) cStep 77 false jFence).2.2.2 (by decide) (by decide) (by decide) (by decide) (by decide) (by decide) (by decide) (by decide) (by decide)).runs,
   ((((h (wRec6 (cr .isW none false)) (coh (cup 1) 6 false) 6 0 5 (7 * 2 ^ 21 + 320) (cr .isW none false) cStep 77 false (jb 0 none .idle)).1 (by decide) (by decide) (by decide) (by decide) (by decide)).1.1 (by decide)).2).runs,
   ((((h (wRec6 (cr .imW none false)) (coh (cup 1) 6 false) 6 0 5 (7 * 2 ^ 21 + 320) (cr .imW none false) cStep 77 false (jb 0 none .idle)).1 (by decide) (by decide) (by decide) (by decide) (by decide)).1.2 (by decide)).1).runs,
   ((((h (wRec6 (cr .imW none false)) (coh (cup 1) 6 false) 6 0 5 (7 * 2 ^ 21 + 320) (cr .imW none false) cStep 77 false (jb 0 none .idle)).1 (by decide) (by decide) (by decide) (by decide) (by decide)).1.2 (by decide)).2).runs⟩

theorem witness_ReclaimCompletes (h : Obligations.ReclaimCompletes) :
    Runs .reclaimWalkStart (wDead (cup 1) 0 { agent := cup 1, walking := false, done := false, pois := 0, tids := [] } []) ∧
    Runs (.reclaimSetStep 3) (wDead (cup 1) 1 { agent := cup 1, walking := true, done := false, pois := 0, tids := [] } [(3, 100)]) ∧
    Runs .reclaimWalkEnd (wDead (cup 1) 1 { agent := cup 1, walking := true, done := false, pois := 0, tids := [] } walked) ∧
    Runs (.hdDeadClear 7) (wDead 7 0 { agent := 7, walking := false, done := true, pois := 0, tids := [] } []) :=
  ⟨((h (wDead (cup 1) 0 ⟨cup 1, false, false, 0, []⟩ []) 3 (cup 1) ⟨cup 1, false, false, 0, []⟩).1 (by decide) (by decide)).runs,
   (((h (wDead (cup 1) 1 ⟨cup 1, true, false, 0, []⟩ [(3, 100)]) 3 (cup 1) ⟨cup 1, true, false, 0, []⟩).2).1 (by decide) (by decide) (by decide) (by decide) (by decide)).runs,
   ((((h (wDead (cup 1) 1 ⟨cup 1, true, false, 0, []⟩ walked) 3 (cup 1) ⟨cup 1, true, false, 0, []⟩).2).2).1 (by decide) (by decide) (by decide) (by decide) (by decide) (by decide) (by decide)).runs,
   ((((h (wDead 7 0 ⟨7, false, true, 0, []⟩ []) 3 7 ⟨7, false, true, 0, []⟩).2).2).2 (by decide) (by decide) (by decide) (by decide) (by decide) (by decide) (by decide)).runs⟩

theorem witness_RebuildCompletes (h : Obligations.RebuildCompletes) :
    Runs (.sliceFailure 4) (wSlice 1 [] 0) ∧
    Runs (.hdRbctrlGo Path.turret 2147484672) (wSlice 1 [] 0) ∧
    Runs (.sliceFailure 16) (wSlice 1 [] 0) ∧
    Runs .sliceTakeover (wSlice 1 [4] 0) ∧
    Runs (.rebuildLine none) (wSlice 2 [] 0) ∧
    Runs (.rebuildLine (some 5)) (wHint) :=
  ⟨((((h (wSlice 1 [] 0) 4 4 5 1 0x80000400).1 (by decide)).1 (by decide)).1 (by decide) (by decide)).runs,
   ((((h (wSlice 1 [] 0) 4 4 5 1 0x80000400).1 (by decide)).1 (by decide)).2 (by decide)).runs,
   (((h (wSlice 1 [] 0) 4 4 5 1 0x80000400).1 (by decide)).2.1 (by decide) (by decide)).runs,
   (((h (wSlice 1 [4] 0) 4 4 5 1 0x80000400).2).1 (by decide) (by decide) (by decide) (by decide) (by decide) (by decide) (by decide)).runs,
   ((((h (wSlice 2 [] 0) 4 4 5 1 0x80000400).2).2 (by decide)).1 (by decide) (by decide) (by decide)).runs,
   (((((h wHint 4 4 5 1 0x80000400).2).2 (by decide)).2).1 (by unfold Hw.homeIdle; decide) (by decide) (by decide) (by decide) (by decide) (by decide)).runs⟩

theorem witness_RebuildCompletes_2 (h : Obligations.RebuildCompletes) :
    Runs .rebuildEnd (wSlice 2 [] (25 * 2 ^ 15)) ∧
    Runs (.sliceFailure 16) (wSlice 1 [4] 0) :=
  ⟨(((((h (wSlice 2 [] (25 * 2 ^ 15)) 4 4 5 1 0x80000400).2).2 (by decide)).2).2 (by decide) (by decide) (by decide)).runs,
   (((h (wSlice 1 [4] 0) 4 4 5 1 0x80000400).1 (by decide)).2.2 (by decide) (by decide) (by decide)).runs⟩

theorem witness_SpireLinkCompletes (h : Obligations.SpireLinkCompletes) :
    Runs (.spireFlitReceive 0 0 0 0 false ⟨0, flitCrc 0 0 0 false 0⟩) (wPort 2 SlPort.fresh id) ∧
    Runs (.spireFlitReceive 0 0 7 0 false ⟨0, flitCrc 0 7 0 false 0⟩) (wPort 2 SlPort.fresh id) ∧
    Runs (.spireFlitReceive 0 3 0 0 false ⟨0, flitCrc 0 0 0 false 0⟩) (wPort 2 SlPort.fresh id) ∧
    Runs (.spireFlitReceive 0 1 0 0 false ⟨0, flitCrc 1 0 0 false 0⟩) (wPort 2 SlPort.fresh id) ∧
    Runs (.spireNakReceive 0 0) (wPort 2 SlPort.fresh id) ∧
    Runs (.spireNakReceive 0 4) (wPort 2 pUn id) :=
  ⟨(((h (wPort 2 SlPort.fresh id) 0 0 0 0 5 frm [] ⟨0, flitCrc 0 0 0 false 0⟩ .turret false true 1 2 100 ⟨0, 0⟩ (by decide)).1 (by decide)).1 (by decide) rfl).runs,
   (((h (wPort 2 SlPort.fresh id) 0 0 7 0 5 frm [] ⟨0, flitCrc 0 7 0 false 0⟩ .turret false true 1 2 100 ⟨0, 0⟩ (by decide)).1 (by decide)).2.1 (by decide) rfl).runs,
   (((h (wPort 2 SlPort.fresh id) 0 3 0 0 5 frm [] ⟨0, flitCrc 0 0 0 false 0⟩ .turret false true 1 2 100 ⟨0, 0⟩ (by decide)).1 (by decide)).2.2.1 (.inl rfl)).runs,
   (((h (wPort 2 SlPort.fresh id) 0 1 0 0 5 frm [] ⟨0, flitCrc 1 0 0 false 0⟩ .turret false true 1 2 100 ⟨0, 0⟩ (by decide)).1 (by decide)).2.2.2.1 (.inl rfl) rfl (by decide)).runs,
   (((h (wPort 2 SlPort.fresh id) 0 0 0 0 5 frm [] ⟨0, flitCrc 0 0 0 false 0⟩ .turret false true 1 2 100 ⟨0, 0⟩ (by decide)).1 (by decide)).2.2.2.2.1 (by decide) (by decide)).runs,
   (((h (wPort 2 pUn id) 0 0 5 4 0 frm [] ⟨0, flitCrc 0 0 0 false 0⟩ .turret false true 1 2 100 ⟨0, 0⟩ (by decide)).1 (by decide)).2.2.2.2.2.1 (by decide) (by decide) (by decide)).runs⟩

theorem witness_SpireLinkCompletes_2 (h : Obligations.SpireLinkCompletes) :
    Runs (.spireReplayTimeout 0) (wPort 2 SlPort.fresh id) ∧
    Runs (.spireReplayTimeout 0) (wPort 2 pUn id) ∧
    Runs (.spireReplayTimeout 0) (wPort 2 { pUn with unacked := [(5, 7, frm)] } id) ∧
    Runs (.spirePortDown 0 5) (wPort 2 SlPort.fresh id) ∧
    Runs (.spireSleepS1 0 true) (wPort 2 SlPort.fresh id) ∧
    Runs (.spireSleepS2 0 false) (wSleep 1) :=
  ⟨(((h (wPort 2 SlPort.fresh id) 0 0 0 0 5 frm [] ⟨0, flitCrc 0 0 0 false 0⟩ .turret false true 1 2 100 ⟨0, 0⟩ (by decide)).1 (by decide)).2.2.2.2.2.2.1 (by decide)).runs,
   ((((h (wPort 2 pUn id) 0 0 5 4 0 frm [] ⟨0, flitCrc 0 0 0 false 0⟩ .turret false true 1 2 100 ⟨0, 0⟩ (by decide)).1 (by decide)).2.2.2.2.2.2.2.1 (by decide)).1 (by decide)).runs,
   ((((h (wPort 2 { pUn with unacked := [(5, 7, frm)] } id) 0 0 5 0 7 frm [] ⟨0, flitCrc 0 0 0 false 0⟩ .turret false true 1 2 100 ⟨0, 0⟩ (by decide)).1 (by decide)).2.2.2.2.2.2.2.1 (by decide)).2 (by decide)).runs,
   (((h (wPort 2 SlPort.fresh id) 0 0 0 0 5 frm [] ⟨0, flitCrc 0 0 0 false 0⟩ .turret false true 1 2 100 ⟨0, 0⟩ (by decide)).1 (by decide)).2.2.2.2.2.2.2.2.1 (by decide) (by decide)).runs,
   (((h (wPort 2 SlPort.fresh id) 0 0 0 0 5 frm [] ⟨0, flitCrc 0 0 0 false 0⟩ .turret false true 1 2 100 ⟨0, 0⟩ (by decide)).1 (by decide)).2.2.2.2.2.2.2.2.2.1 (by decide) (by decide) (by decide)).runs,
   (((h (wSleep 1) 0 0 0 0 5 frm [] ⟨0, flitCrc 0 0 0 false 0⟩ .turret false false 1 2 100 ⟨0, 0⟩ (by decide)).1 (by decide)).2.2.2.2.2.2.2.2.2.2 (by decide) (by decide) (by decide)).runs⟩

theorem witness_SpireLinkCompletes_3 (h : Obligations.SpireLinkCompletes) :
    Runs (.spireSleepExit 0 true) (wPort 2 SlPort.fresh id) ∧
    Runs (.spireTraining 0 1 0 2 ⟨0, 0⟩ 100) (wPort 1 SlPort.fresh id) ∧
    Runs (.spireTrainingFail 0 true) (wPort 1 SlPort.fresh id) ∧
    Runs (.spireTrainingFail 0 false) (wPort 1 SlPort.fresh id) ∧
    Runs (.spireTraining 0 1 0 3 ⟨0, 0⟩ 100) (wPort 1 SlPort.fresh id) ∧
    Runs (.slPcfgRetrain Path.turret 0) (wPort 3 SlPort.fresh id) :=
  ⟨((h (wPort 2 SlPort.fresh id) 0 0 0 0 5 frm [] ⟨0, flitCrc 0 0 0 false 0⟩ .turret false true 1 2 100 ⟨0, 0⟩ (by decide)).2.1).runs,
   (((h (wPort 1 SlPort.fresh id) 0 0 0 0 5 frm [] ⟨0, flitCrc 0 0 0 false 0⟩ .turret false true 1 2 100 ⟨0, 0⟩ (by decide)).2.2.1 (by intro x hx; cases hx) (by decide) (by decide) (by decide)).1 (by decide) (by decide)).runs,
   ((((h (wPort 1 SlPort.fresh id) 0 0 0 0 5 frm [] ⟨0, flitCrc 0 0 0 false 0⟩ .turret false true 1 2 100 ⟨0, 0⟩ (by decide)).2.2.1 (by intro x hx; cases hx) (by decide) (by decide) (by decide)).2.2 (by decide) (by decide)).1 (by decide)).runs,
   ((((h (wPort 1 SlPort.fresh id) 0 0 0 0 5 frm [] ⟨0, flitCrc 0 0 0 false 0⟩ .turret false true 1 2 100 ⟨0, 0⟩ (by decide)).2.2.1 (by intro x hx; cases hx) (by decide) (by decide) (by decide)).2.2 (by decide) (by decide)).2).runs,
   (((h (wPort 1 SlPort.fresh id) 0 0 0 0 6 frm [] ⟨0, flitCrc 0 0 0 false 0⟩ .turret false true 1 3 100 ⟨0, 0⟩ (by decide)).2.2.1 (by intro x hx; cases hx) (by decide) (by decide) (by decide)).2.1 (by decide) (by decide) (by decide) (by decide)).runs,
   ((h (wPort 3 SlPort.fresh id) 0 0 0 0 5 frm [] ⟨0, flitCrc 0 0 0 false 0⟩ .turret false true 1 2 100 ⟨0, 0⟩ (by decide)).2.2.2 (.inr (by decide)) (by decide) (by decide) (by decide)).runs⟩

theorem witness_SpireFramesComplete (h : Obligations.SpireFramesComplete) :
    Runs (.spireFrameForward 0 { frm with hops := 2, src := 2 }) (wPeer 0 1 1 { SlPeer.fresh with ackDue := true } id) ∧
    Runs (.spireAckSend 1) (wPeer 0 1 1 { SlPeer.fresh with ackDue := true } id) ∧
    Runs .heartbeatSend (wPeer 0 1 1 { SlPeer.fresh with ackDue := true } id) ∧
    Runs (.timeReceive 0 5000 3) (wPeer 0 1 1 { SlPeer.fresh with ackDue := true } id) ∧
    Runs (.heartbeatTimeout 1) (wPeer 0 1 1 { SlPeer.fresh with ackDue := true } id) ∧
    Runs .timeSend (wPeer 0 1 1 { SlPeer.fresh with ackDue := true } id) :=
  ⟨(((h (wPeer 0 1 1 { SlPeer.fresh with ackDue := true } id) 0 1 7 5000 3 0 5 0 0 { frm with hops := 2, src := 2 } uf (by decide) (by decide)).1 (by decide) (by unfold Hw.portReady; decide)).1 (by decide) (by decide) (by decide) (by decide)).runs,
   ((((h (wPeer 0 1 1 { SlPeer.fresh with ackDue := true } id) 0 1 7 5000 3 0 5 0 0 { frm with hops := 2 } uf (by decide) (by decide)).1 (by decide) (by unfold Hw.portReady; decide)).2).1 (by decide) (by decide)).runs,
   (((((((h (wPeer 0 1 1 { SlPeer.fresh with ackDue := true } id) 0 1 7 5000 3 0 5 0 0 { frm with hops := 2 } uf (by decide) (by decide)).1 (by decide) (by unfold Hw.portReady; decide)).2).2).2).1 (by decide) (by decide)).1).runs,
   ((((((((h (wPeer 0 1 1 { SlPeer.fresh with ackDue := true } id) 0 1 7 5000 3 0 5 0 0 { frm with hops := 2 } uf (by decide) (by decide)).1 (by decide) (by unfold Hw.portReady; decide)).2).2).2).2).2).2 (by decide) (by decide) (by decide) (by decide) (by decide)).runs,
   (((((h (wPeer 0 1 1 { SlPeer.fresh with ackDue := true } id) 0 1 7 5000 3 0 5 0 0 { frm with hops := 2 } uf (by decide) (by decide)).2.2).2).2).1 (by decide) (by unfold Hw.homeIdle Hw.cuIdle; decide) (by decide) (by decide)).runs,
   (((((((h (wPeer 0 1 1 { SlPeer.fresh with ackDue := true } id) 0 1 7 5000 3 0 5 0 0 { frm with hops := 2 } uf (by decide) (by decide)).2.2).2).2).2).2).1 (by unfold Hw.portReady; decide) (by decide) (by decide) (by decide) (by decide) (by decide)).runs⟩

theorem witness_SpireFramesComplete_2 (h : Obligations.SpireFramesComplete) :
    Runs .tsyncTimeout (wPeer 0 1 1 { SlPeer.fresh with ackDue := true } id) ∧
    Runs (.spireRetransmitTimeout 1 uf.1) (wPeer 0 1 1 pUf id) ∧
    Runs (.spireAckReceive 1 ((uf.1 + 1) % 2 ^ 24)) (wPeer 0 1 1 pUf id) ∧
    Runs .joinSend (wPeer 0 1 0 SlPeer.fresh id) ∧
    Runs (.joinReceive 1 9 ((wPeer 0 1 0 SlPeer.fresh id).mach.hw.fget F.SL_STKSTAT_INC 0) true) (wPeer 0 1 0 SlPeer.fresh id) ∧
    Runs (.heartbeatReceive 1 7) (wPeer 0 1 2 SlPeer.fresh id) :=
  ⟨((((((((h (wPeer 0 1 1 { SlPeer.fresh with ackDue := true } id) 0 1 7 5000 3 0 5 0 0 { frm with hops := 2 } uf (by decide) (by decide)).2.2).2).2).2).2).2).1).runs,
   (((((h (wPeer 0 1 1 pUf id) 0 1 7 5000 3 0 5 0 0 frm uf (by decide) (by decide)).1 (by decide) (by unfold Hw.portReady; decide)).2).2).1 (by decide) (by decide) (by decide) (by decide)).runs,
   ((((h (wPeer 0 1 1 pUf id) 0 1 7 5000 3 0 5 0 0 frm uf (by decide) (by decide)).2.2).2).1 (by decide) (by decide) (by decide) (by decide) (by decide)).runs,
   (((((((h (wPeer 0 1 0 SlPeer.fresh id) 0 1 9 5000 3 0 5 0 0 frm uf (by decide) (by decide)).1 (by decide) (by unfold Hw.portReady; decide)).2).2).2).1 (by decide) (by decide)).2 (by decide) (by decide)).runs,
   ((((((((h (wPeer 0 1 0 SlPeer.fresh id) 0 1 9 5000 3 0 5 0 0 frm uf (by decide) (by decide)).1 (by decide) (by unfold Hw.portReady; decide)).2).2).2).2).2).1 (by decide) (by decide)).runs,
   (((((((h (wPeer 0 1 2 SlPeer.fresh id) 0 1 7 5000 3 0 5 0 0 frm uf (by decide) (by decide)).1 (by decide) (by unfold Hw.portReady; decide)).2).2).2).2).1 (by decide) (by decide) (by decide)).runs⟩

theorem witness_SpireFramesComplete_3 (h : Obligations.SpireFramesComplete) :
    Runs (.spireFrameDeliver 0 (fFrom 2 0) (frameEcrc (fFrom 2 0))) (wPeer 0 1 1 SlPeer.fresh id) ∧
    Runs (.spireFrameDeliver 0 (fFrom 4 0) (frameEcrc (fFrom 4 0))) (wPeer 0 1 1 SlPeer.fresh id) ∧
    Runs (.fenceoutReceive 0 7) (wPeer 1 0 2 SlPeer.fresh id) ∧
    Runs (.bisnpTimeout 3 5 (7 * 2 ^ 21 + 320)) (wBi) ∧
    Runs (.spireFrameDeliver 0 (fFrom 4 0) (frameEcrc (fFrom 4 0) + 1)) (wPeer 0 1 1 SlPeer.fresh id) ∧
    Runs (.spireFrameDeliver 0 { fFrom 4 0 with bad := true } (frameEcrc { fFrom 4 0 with bad := true })) (wPeer 0 1 1 SlPeer.fresh id) :=
  ⟨((((h (wPeer 0 1 1 SlPeer.fresh id) 0 1 7 5000 254 0 5 0 0 (fFrom 2 0) uf (by decide) (by decide)).2.2).1 (by decide) (by decide) (by decide)).1 (by decide) (by decide)).runs,
   ((((h (wPeer 0 1 1 SlPeer.fresh id) 0 1 7 5000 254 0 5 0 0 (fFrom 4 0) uf (by decide) (by decide)).2.2).1 (by decide) (by decide) (by decide)).2 (by decide) (by decide) (by decide) (by decide) (by decide) (by decide)).runs,
   ((((((h (wPeer 1 0 2 SlPeer.fresh id) 0 0 7 5000 3 0 5 0 0 frm uf (by decide) (by decide)).2.2).2).2).2).1 (by decide) (by decide) (by decide)).runs,
   ((((((((h wBi 0 1 7 5000 3 3 5 (7 * 2 ^ 21 + 320) 0 frm uf (by decide) (by decide)).2.2).2).2).2).2).2).2 (by decide) (by unfold Hw.homeIdle Hw.cuIdle; decide) (by decide) (by decide) (by decide)).runs,
   (((h (wPeer 0 1 1 SlPeer.fresh id) 0 1 7 5000 254 0 5 0 (frameEcrc (fFrom 4 0) + 1) (fFrom 4 0) uf (by decide) (by decide)).2.1 (by decide) (by decide)).1 (by omega)).runs,
   (((h (wPeer 0 1 1 SlPeer.fresh id) 0 1 7 5000 254 0 5 0 (frameEcrc { fFrom 4 0 with bad := true }) { fFrom 4 0 with bad := true } uf (by decide) (by decide)).2.1 (by decide) (by decide)).2 rfl (by decide)).runs⟩

theorem witness_PortEventsComplete (h : Obligations.PortEventsComplete) :
    Runs (.prsntChange 0 true false) (wFp [] id) ∧
    Runs (.hostPerstAssert 0) (wFp [] id) ∧
    Runs (.hostPerstRelease 0) (wFp [] id) ∧
    Runs (.linkDown 0 1) (wFp [(F.FP_LSTAT_UP, 0, 1)] id) ∧
    Runs (.hostGraceExpiry 0) (wFp [] fGrace) ∧
    Runs (.prsntChange 1 false true) (wFp [(F.FP_LSTAT_PERST, 1, 1), (F.FP_LSTAT_PRSNT, 1, 1), (F.FP_LSTAT_DOWNWHY, 1, 2)] fRef) :=
  ⟨(((h (wFp [] id) 0 3 2 1 2 1 0 ⟨16, false⟩ ⟨3, 2, false⟩ ⟨true, true, true⟩ true false false (by decide) (by intro x hx; cases hx)).1 (by decide)).1 (by decide) (by decide) (by decide)).runs,
   (((h (wFp [] id) 0 3 2 1 2 1 0 ⟨16, false⟩ ⟨3, 2, false⟩ ⟨true, true, true⟩ true false false (by decide) (by intro x hx; cases hx)).1 (by decide)).2.1 (by decide) (by decide)).runs,
   (((h (wFp [] id) 0 3 2 1 2 1 0 ⟨16, false⟩ ⟨3, 2, false⟩ ⟨true, true, true⟩ true false false (by decide) (by intro x hx; cases hx)).1 (by decide)).2.2.1).runs,
   (((h (wFp [(F.FP_LSTAT_UP, 0, 1)] id) 0 3 2 1 2 1 0 ⟨16, false⟩ ⟨3, 2, false⟩ ⟨true, true, true⟩ true false false (by decide) (by intro x hx; cases hx)).1 (by decide)).2.2.2.1 (by decide) (by unfold Hw.noMessages; decide) (by decide) (by decide) (by decide) (by decide)).runs,
   (((h (wFp [] fGrace) 0 3 2 1 2 1 0 ⟨16, false⟩ ⟨3, 2, false⟩ ⟨true, true, true⟩ true false false (by decide) (by intro x hx; cases hx)).1 (by decide)).2.2.2.2 (by decide) (by decide) (by unfold Hw.homeIdle; decide) (by unfold Hw.cuIdle; decide) (by decide)).runs,
   (((h (wFp [(F.FP_LSTAT_PERST, 1, 1), (F.FP_LSTAT_PRSNT, 1, 1), (F.FP_LSTAT_DOWNWHY, 1, 2)] fRef) 1 3 2 1 2 1 0 ⟨16, false⟩ ⟨3, 2, false⟩ ⟨true, true, true⟩ true false false (by decide) (by intro x hx; cases hx)).2.1 (by decide) (by decide) (by decide)).1 (by decide) (by decide) (by decide)).runs⟩

theorem witness_PortEventsComplete_2 (h : Obligations.PortEventsComplete) :
    Runs (.downPerstRelease ⟨1, false, false⟩) (wFp [(F.FP_LSTAT_PERST, 1, 1), (F.FP_LSTAT_PRSNT, 1, 1), (F.FP_LSTAT_DOWNWHY, 1, 2)] fRef) ∧
    Runs (.downPerstRelease ⟨1, false, false⟩) (wFp [(F.FP_LSTAT_PERST, 1, 1), (F.FP_LSTAT_PRSNT, 1, 1)] fSbr) ∧
    Runs (.refclkWindow 0 true) (wFp [] id) ∧
    Runs (.linkUp 1 ⟨16, false⟩ ⟨3, 2, false⟩ ⟨true, true, true⟩ true 2) (wFp [(F.FP_LSTAT_FBRATE, 1, 4), (F.FP_LSTAT_PRSNT, 1, 1)] id) ∧
    Runs (.equalisationFailure 1 3) (wFp [(F.FP_LSTAT_FBRATE, 1, 4), (F.FP_LSTAT_PRSNT, 1, 1)] id) ∧
    Runs (.equalisationFailure 1 4) (wFp [(F.FP_LSTAT_FBRATE, 1, 4), (F.FP_LSTAT_PRSNT, 1, 1)] fEq) :=
  ⟨(((h (wFp [(F.FP_LSTAT_PERST, 1, 1), (F.FP_LSTAT_PRSNT, 1, 1), (F.FP_LSTAT_DOWNWHY, 1, 2)] fRef) 1 3 2 1 2 1 0 ⟨16, false⟩ ⟨3, 2, false⟩ ⟨true, true, true⟩ true false false (by decide) (by intro x hx; cases hx)).2.1 (by decide) (by decide) (by decide)).2.1 (by decide) (by decide) (by decide)).runs,
   (((h (wFp [(F.FP_LSTAT_PERST, 1, 1), (F.FP_LSTAT_PRSNT, 1, 1)] fSbr) 1 3 2 1 2 1 0 ⟨16, false⟩ ⟨3, 2, false⟩ ⟨true, true, true⟩ true false false (by decide) (by intro x hx; cases hx)).2.1 (by decide) (by decide) (by decide)).2.2 (by decide) (by decide)).runs,
   ((h (wFp [] id) 0 3 2 1 2 1 0 ⟨16, false⟩ ⟨3, 2, false⟩ ⟨true, true, true⟩ true false false (by decide) (by intro x hx; cases hx)).2.2.1 (by decide)).runs,
   ((h (wFp [(F.FP_LSTAT_FBRATE, 1, 4), (F.FP_LSTAT_PRSNT, 1, 1)] id) 1 4 2 0 2 1 0 ⟨16, false⟩ ⟨3, 2, false⟩ ⟨true, true, true⟩ true false false (by decide) (by intro x hx; cases hx)).2.2.2.1 (by decide) (by decide) (by decide) (by decide)).runs,
   ((h (wFp [(F.FP_LSTAT_FBRATE, 1, 4), (F.FP_LSTAT_PRSNT, 1, 1)] id) 1 3 2 1 2 1 0 ⟨16, false⟩ ⟨3, 2, false⟩ ⟨true, true, true⟩ true false false (by decide) (by intro x hx; cases hx)).2.2.2.2.1 (by decide) (by decide) (by decide) (by decide)).runs,
   ((h (wFp [(F.FP_LSTAT_FBRATE, 1, 4), (F.FP_LSTAT_PRSNT, 1, 1)] fEq) 1 4 2 1 2 1 0 ⟨16, false⟩ ⟨3, 2, false⟩ ⟨true, true, true⟩ true false false (by decide) (by intro x hx; cases hx)).2.2.2.2.2.1 (by decide) (by decide) (by decide) (by decide) (by decide) (by decide) (by decide)).runs⟩

theorem witness_PortEventsComplete_3 (h : Obligations.PortEventsComplete) :
    Runs (.octetPllUnlock 0) (wFp [] fOct) ∧
    Runs (.octetPllUnlock 0) (wFp [(F.FP_LSTAT_UP, 0, 1)] fOct) ∧
    Runs (.octetRelock 0 true) (wFp lOne fUnl) ∧
    Runs (.octetRelock 0 false) (wFp lOne fUnl) :=
  ⟨(((h (wFp [] fOct) 0 3 2 1 2 1 0 ⟨16, false⟩ ⟨3, 2, false⟩ ⟨true, true, true⟩ true false false (by decide) (by intro x hx; cases hx)).2.2.2.2.2.2.1 (by decide) (by decide)).1 (by decide) (by decide)).runs,
   (((h (wFp [(F.FP_LSTAT_UP, 0, 1)] fOct) 0 3 2 1 2 1 0 ⟨16, false⟩ ⟨3, 2, false⟩ ⟨true, true, true⟩ true false false (by decide) (by intro x hx; cases hx)).2.2.2.2.2.2.1 (by decide) (by decide)).2 (by decide) (by decide) (by unfold Hw.noMessages; decide)).runs,
   (((h (wFp lOne fUnl) 0 3 2 1 2 1 0 ⟨16, false⟩ ⟨3, 2, false⟩ ⟨true, true, true⟩ true false false (by decide) (by intro x hx; cases hx)).2.2.2.2.2.2.2 (by decide) (by decide)).1).runs,
   (((h (wFp lOne fUnl) 0 3 2 1 2 1 0 ⟨16, false⟩ ⟨3, 2, false⟩ ⟨true, true, true⟩ true false false (by decide) (by intro x hx; cases hx)).2.2.2.2.2.2.2 (by decide) (by decide)).2 (by decide)).runs⟩

theorem witness_PortControlsComplete (h : Obligations.PortControlsComplete) :
    Runs (.l0sEntry 1 false) (wFp [(F.FP_LSTAT_UP, 1, 1), (F.FP_LSTAT_MODE, 1, 2), (F.FP_PMCFG_L0SEN, 1, 1), (F.FP_PMCFG_L1EN, 1, 1)] id) ∧
    Runs (.l1Request 1 true) (wFp [(F.FP_LSTAT_UP, 1, 1), (F.FP_LSTAT_MODE, 1, 2), (F.FP_PMCFG_L0SEN, 1, 1), (F.FP_PMCFG_L1EN, 1, 1)] id) ∧
    Runs (.l0pExit 1 true) (wFp [(F.FP_LSTAT_UP, 1, 1), (F.FP_LSTAT_MODE, 1, 2), (F.FP_PMCFG_L0SEN, 1, 1), (F.FP_PMCFG_L1EN, 1, 1)] id) ∧
    Runs (.ideKmKeyProgram 1 5 ⟨1, true⟩ true) (wFp [(F.FP_LSTAT_UP, 1, 1), (F.FP_LSTAT_MODE, 1, 2), (F.FP_PMCFG_L0SEN, 1, 1), (F.FP_PMCFG_L1EN, 1, 1)] id) ∧
    Runs (.fpPctrlRetrain Path.turret 1) (wFp [(F.FP_LSTAT_UP, 1, 1), (F.FP_LSTAT_MODE, 1, 2), (F.FP_PMCFG_L0SEN, 1, 1), (F.FP_PMCFG_L1EN, 1, 1)] id) ∧
    Runs (.fpPctrlResetfb Path.turret 1) (wFp [(F.FP_LSTAT_UP, 1, 1), (F.FP_LSTAT_MODE, 1, 2), (F.FP_PMCFG_L0SEN, 1, 1), (F.FP_PMCFG_L1EN, 1, 1)] id) :=
  ⟨(((h (wFp [(F.FP_LSTAT_UP, 1, 1), (F.FP_LSTAT_MODE, 1, 2), (F.FP_PMCFG_L0SEN, 1, 1), (F.FP_PMCFG_L1EN, 1, 1)] id) .turret 1 3 2 5 0 ⟨1, true⟩ false true true 0 ides (by decide) (by decide)).1 (by decide) (by decide)).1 (by decide) (by decide) (by decide) (by decide)).runs,
   (((((h (wFp [(F.FP_LSTAT_UP, 1, 1), (F.FP_LSTAT_MODE, 1, 2), (F.FP_PMCFG_L0SEN, 1, 1), (F.FP_PMCFG_L1EN, 1, 1)] id) .turret 1 3 2 5 0 ⟨1, true⟩ false true true 0 ides (by decide) (by decide)).1 (by decide) (by decide)).2).2).1 (by decide)).runs,
   ((((h (wFp [(F.FP_LSTAT_UP, 1, 1), (F.FP_LSTAT_MODE, 1, 2), (F.FP_PMCFG_L0SEN, 1, 1), (F.FP_PMCFG_L1EN, 1, 1)] id) .turret 1 3 2 5 0 ⟨1, true⟩ false true true 0 ides (by decide) (by decide)).2).2).1).runs,
   ((((((h (wFp [(F.FP_LSTAT_UP, 1, 1), (F.FP_LSTAT_MODE, 1, 2), (F.FP_PMCFG_L0SEN, 1, 1), (F.FP_PMCFG_L1EN, 1, 1)] id) .turret 1 3 2 5 0 ⟨1, true⟩ false true true 0 ides (by decide) (by decide)).2).2).2).2).1 (by decide) (by decide)).runs,
   ((((((((h (wFp [(F.FP_LSTAT_UP, 1, 1), (F.FP_LSTAT_MODE, 1, 2), (F.FP_PMCFG_L0SEN, 1, 1), (F.FP_PMCFG_L1EN, 1, 1)] id) .turret 1 3 2 5 0 ⟨1, true⟩ false true true 0 ides (by decide) (by decide)).2).2).2).2).2).2).1 (by decide)).runs,
   (((((((((h (wFp [(F.FP_LSTAT_UP, 1, 1), (F.FP_LSTAT_MODE, 1, 2), (F.FP_PMCFG_L0SEN, 1, 1), (F.FP_PMCFG_L1EN, 1, 1)] id) .turret 1 3 2 5 0 ⟨1, true⟩ false true true 0 ides (by decide) (by decide)).2).2).2).2).2).2).2).1 (by decide)).runs⟩

theorem witness_PortControlsComplete_2 (h : Obligations.PortControlsComplete) :
    Runs (.fpPctrlDisable Path.turret 1 false) (wFp [(F.FP_LSTAT_UP, 1, 1), (F.FP_LSTAT_MODE, 1, 2), (F.FP_PMCFG_L0SEN, 1, 1), (F.FP_PMCFG_L1EN, 1, 1)] id) ∧
    Runs (.l1Request 1 false) (wFp [(F.FP_LSTAT_UP, 1, 1), (F.FP_LSTAT_MODE, 1, 2), (F.FP_PMCFG_L0SEN, 1, 1), (F.FP_PMCFG_L1EN, 1, 0)] id) ∧
    Runs (.l0pEntry 0 4 true) (wFp [(F.FP_LSTAT_UP, 0, 1), (F.FP_LSTAT_MODE, 0, 0), (F.FP_PMCFG_L0PEN, 0, 1), (F.FP_LSTAT_WIDTH, 0, 8)] fWide) ∧
    Runs (.l0sExit 1 true) (wFp [(F.FP_PMSTAT_TXPS, 1, 1), (F.FP_PMSTAT_RXPS, 1, 1)] id) ∧
    Runs (.fpPctrlDisable Path.turret 1 true) (wFp [(F.FP_PMSTAT_TXPS, 1, 1), (F.FP_PMSTAT_RXPS, 1, 1)] id) ∧
    Runs (.fpPctrlTestmode Path.turret 1 true) (wFp [(F.FP_PMSTAT_TXPS, 1, 1), (F.FP_PMSTAT_RXPS, 1, 1)] id) :=
  ⟨(((((((((((h (wFp [(F.FP_LSTAT_UP, 1, 1), (F.FP_LSTAT_MODE, 1, 2), (F.FP_PMCFG_L0SEN, 1, 1), (F.FP_PMCFG_L1EN, 1, 1)] id) .turret 1 3 2 5 0 ⟨1, true⟩ false true true 0 ides (by decide) (by decide)).2).2).2).2).2).2).2).2).2).1 (by intro x hx; cases hx)).runs,
   (((((h (wFp [(F.FP_LSTAT_UP, 1, 1), (F.FP_LSTAT_MODE, 1, 2), (F.FP_PMCFG_L0SEN, 1, 1), (F.FP_PMCFG_L1EN, 1, 0)] id) .turret 1 3 2 5 0 ⟨1, true⟩ true false true 0 ides (by decide) (by decide)).1 (by decide) (by decide)).2).2).2 (by decide)).runs,
   ((((h (wFp [(F.FP_LSTAT_UP, 0, 1), (F.FP_LSTAT_MODE, 0, 0), (F.FP_PMCFG_L0PEN, 0, 1), (F.FP_LSTAT_WIDTH, 0, 8)] fWide) .turret 0 3 4 5 0 ⟨1, true⟩ true false true 0 ides (by decide) (by decide)).1 (by decide) (by decide)).2).1 (by decide) (by decide) (by decide) (by decide) (by decide)).runs,
   (((h (wFp [(F.FP_PMSTAT_TXPS, 1, 1), (F.FP_PMSTAT_RXPS, 1, 1)] id) .turret 1 3 2 5 0 ⟨1, true⟩ true false true 0 ides (by decide) (by decide)).2).1 (by decide)).runs,
   (((((((((((h (wFp [(F.FP_PMSTAT_TXPS, 1, 1), (F.FP_PMSTAT_RXPS, 1, 1)] id) .turret 1 3 2 5 0 ⟨1, true⟩ true false true 0 ides (by decide) (by decide)).2).2).2).2).2).2).2).2).1 (by intro x hx; cases hx) (by decide)).1 (by decide)).runs,
   (((((((((((h (wFp [(F.FP_PMSTAT_TXPS, 1, 1), (F.FP_PMSTAT_RXPS, 1, 1)] id) .turret 1 3 2 5 0 ⟨1, true⟩ true false true 0 ides (by decide) (by decide)).2).2).2).2).2).2).2).2).1 (by intro x hx; cases hx) (by decide)).2 (by decide)).runs⟩

theorem witness_PortControlsComplete_3 (h : Obligations.PortControlsComplete) :
    Runs (.l1Exit 1 true) (wFp [(F.FP_PMSTAT_TXPS, 1, 2), (F.FP_PMSTAT_RXPS, 1, 2)] fIde) ∧
    Runs (.ideIntegrityFailure 1 5) (wFp [(F.FP_PMSTAT_TXPS, 1, 2), (F.FP_PMSTAT_RXPS, 1, 2)] fIde) ∧
    Runs (.ltCtrlWrite Path.turret 3 667) (wFp [] fNone) ∧
    Runs (.ltInjOne Path.turret 3 667) (wFp [] fNone) ∧
    Runs (.checkerLock ⟨3, 0x2468ACF0 * (2 ^ 64 + 1)⟩) (wFp [(F.LT_CTRL_EN, 3, 1), (F.LT_CTRL_CHKEN, 3, 1), (F.LT_STAT_LOCK, 3, 1), (F.LT_CTRL_PAT, 3, 5), (F.LT_UPAT_LO_VAL, 3, 0x12345678)] fNone) ∧
    Runs (.checkerLoseLock ⟨3, 2 ^ 64 - 1⟩) (wFp [(F.LT_CTRL_EN, 3, 1), (F.LT_CTRL_CHKEN, 3, 1), (F.LT_STAT_LOCK, 3, 1), (F.LT_CTRL_PAT, 3, 5), (F.LT_UPAT_LO_VAL, 3, 0x12345678)] fNone) :=
  ⟨(((((h (wFp [(F.FP_PMSTAT_TXPS, 1, 2), (F.FP_PMSTAT_RXPS, 1, 2)] fIde) .turret 1 3 2 5 0 ⟨1, true⟩ true false true 0 ides (by decide) (by decide)).2).2).2).1 (by decide)).runs,
   (((((((h (wFp [(F.FP_PMSTAT_TXPS, 1, 2), (F.FP_PMSTAT_RXPS, 1, 2)] fIde) .turret 1 3 2 5 0 ⟨1, true⟩ true false true 0 ides (by decide) (by decide)).2).2).2).2).2).1 (by decide) (by unfold Hw.noMessages; decide) (by decide)).runs,
   ((((((((((((h (wFp [] fNone) .turret 1 3 2 5 0 ⟨1, true⟩ true false true 0x29B ides (by decide) (by decide)).2).2).2).2).2).2).2).2).2).2).1 (by decide) (by decide) (by decide) (by decide) (by decide) (by decide) (by decide)).runs,
   (((((((((((((h (wFp [] fNone) .turret 1 3 2 5 0 ⟨1, true⟩ true false true 0x29B ides (by decide) (by decide)).2).2).2).2).2).2).2).2).2).2).2).1 (by decide) (by decide)).runs,
   ((((((((((((((h (wFp [(F.LT_CTRL_EN, 3, 1), (F.LT_CTRL_CHKEN, 3, 1), (F.LT_STAT_LOCK, 3, 1), (F.LT_CTRL_PAT, 3, 5), (F.LT_UPAT_LO_VAL, 3, 0x12345678)] fNone) .turret 1 3 2 5 (0x2468ACF0 * (2 ^ 64 + 1)) ⟨1, true⟩ true false true 0x1A01 ides (by decide) (by decide)).2).2).2).2).2).2).2).2).2).2).2).2).1 (by decide) (by decide) (by decide) (by decide)).runs,
   ((((((((((((((h (wFp [(F.LT_CTRL_EN, 3, 1), (F.LT_CTRL_CHKEN, 3, 1), (F.LT_STAT_LOCK, 3, 1), (F.LT_CTRL_PAT, 3, 5), (F.LT_UPAT_LO_VAL, 3, 0x12345678)] fNone) .turret 1 3 2 5 (2 ^ 64 - 1) ⟨1, true⟩ true false true 0x1A01 ides (by decide) (by decide)).2).2).2).2).2).2).2).2).2).2).2).2).2 (by decide) (by decide)).runs⟩

theorem witness_DomeCommandsComplete (h : Obligations.DomeCommandsComplete) :
    Runs .domeInitComplete (wInit) ∧
    Runs (.domeMetadataWrite 320 true .good) (wInit) ∧
    Runs (.domeWrite 320 366216421905 9 none ⟨false, false⟩) (wData) ∧
    Runs (.domePartialWrite 320 366216421905 7 9 none ⟨.good, .good⟩) (wData) ∧
    Runs (.ddCfgWrite Path.turret 1054722) (wData) ∧
    Runs (.scrubRead 0 .good true) (wScrub) :=
  ⟨((h wInit .turret 320 0x55 255 9 0 3 .good true false 0x10).1 (by decide)).runs,
   ((((h wInit .turret 320 0x55 255 9 0 3 .good true false 0x10).2).2).1 (by decide) (by decide)).runs,
   ((((h wData .turret 320 0x5544332211 7 9 0 3 .good true false 0x00101802).2).1 (by decide) (by decide) (by decide)).1).runs,
   ((((h wData .turret 320 0x5544332211 7 9 0 3 .good true false 0x00101802).2).1 (by decide) (by decide) (by decide)).2 (by decide)).runs,
   (((((h wData .turret 320 0x5544332211 7 9 0 3 .good true false 0x00101802).2).2).2).2 (by decide)).runs,
   ((((((h wScrub .turret 320 0x5544332211 7 9 0 3 .good true true 0x00102003).2).2).2).1 (by decide) (by decide) (by decide) (by decide) (by decide) (by decide)).1).runs⟩

theorem witness_DomeCommandsComplete_2 (h : Obligations.DomeCommandsComplete) :
    Runs (.scrubRead 0 (.ce 3) false) (wScrub) :=
  ((((((h wScrub .turret 320 0x5544332211 7 9 0 3 .good true true 0x00102003).2).2).2).1 (by decide) (by decide) (by decide) (by decide) (by decide) (by decide)).2 (by decide) (by decide)).runs

theorem witness_ScratchpadAccessesComplete (h : Obligations.ScratchpadAccessesComplete) :
    Runs (.scratchpadPortBAccess 1 [spr 0 2097160 SpOp.write] none .good) (wSp) ∧
    Runs (.scratchpadPortBAccess 1 [spr 0 2097160 SpOp.read] none .good) (wSp) ∧
    Runs (.scratchpadPortBAccess 1 [spr 5 2097160 SpOp.write] none .good) (wSp) ∧
    Runs (.scratchpadWaitServe 1 none .good) (wSpWait (spr 0 2097160 SpOp.write)) ∧
    Runs (.scratchpadWaitServe 1 none .good) (wSpWait (spr 0 2097160 SpOp.read)) ∧
    Runs (.scratchpadWaitServe 1 none .good) (wSpWait (spr 5 2097160 SpOp.read)) :=
  ⟨((((h (wSp) 1 (spr 0 2097160 SpOp.write) (by decide) (by decide) (by decide)).1 (by decide)).1 (by decide)).1 (by decide) (by decide)).runs,
   ((((h (wSp) 1 (spr 0 2097160 SpOp.read) (by decide) (by decide) (by decide)).1 (by decide)).1 (by decide)).2.1 (by decide) (by decide)).runs,
   ((((h (wSp) 1 (spr 5 2097160 SpOp.write) (by decide) (by decide) (by decide)).1 (by decide)).1 (by decide)).2.2 (by decide)).runs,
   ((((h (wSpWait (spr 0 2097160 SpOp.write)) 1 (spr 0 2097160 SpOp.write) (by decide) (by decide) (by decide)).1 (by decide)).2 (by decide)).1 (by decide) (by decide)).runs,
   ((((h (wSpWait (spr 0 2097160 SpOp.read)) 1 (spr 0 2097160 SpOp.read) (by decide) (by decide) (by decide)).1 (by decide)).2 (by decide)).2.1 (by decide) (by decide)).runs,
   ((((h (wSpWait (spr 5 2097160 SpOp.read)) 1 (spr 5 2097160 SpOp.read) (by decide) (by decide) (by decide)).1 (by decide)).2 (by decide)).2.2 (by decide)).runs⟩

theorem witness_ScratchpadAccessesComplete_2 (h : Obligations.ScratchpadAccessesComplete) :
    Runs (.bitSetAliasWrite (spr 1 2097160 SpOp.set) .good) (wSp) ∧
    Runs (.bitClearAliasWrite (spr 1 2097160 SpOp.clr) .good) (wSp) :=
  ⟨(((h (wSp) 1 (spr 1 2097160 SpOp.set) (by decide) (by decide) (by decide)).2 (by decide) (by decide) (by decide)).1 (by decide)).runs,
   (((h (wSp) 1 (spr 1 2097160 SpOp.clr) (by decide) (by decide) (by decide)).2 (by decide) (by decide) (by decide)).2 (by decide)).runs⟩

theorem witness_GuardCommandsComplete (h : Obligations.GuardCommandsComplete) :
    Runs (.agRdcmdNop Path.turret 7) (wDesc (3 + 4 * 2 ^ 30 + 9 * 2 ^ 64)) ∧
    Runs (.agRdcmdRead Path.turret 7) (wDesc (3 + 4 * 2 ^ 30 + 9 * 2 ^ 64)) ∧
    Runs (.agRdcmdWrite Path.turret 7) (wDesc (3 + 4 * 2 ^ 30 + 9 * 2 ^ 64)) ∧
    Runs .agVinfoValidClear (wDesc (3 + 4 * 2 ^ 30 + 9 * 2 ^ 64)) ∧
    Runs (.agSyssetWrite Path.turret 1048608) (wDesc (3 + 4 * 2 ^ 30 + 9 * 2 ^ 64)) ∧
    Runs (.agRdcmdWrite Path.debug 7) (wDesc (3 + 9 * 2 ^ 30 + 4 * 2 ^ 64)) :=
  ⟨(((h (wDesc (3 + 4 * 2 ^ 30 + 9 * 2 ^ 64)) .turret 7 0x00100020 (by decide)).1 (by decide)).1).runs,
   ((((h (wDesc (3 + 4 * 2 ^ 30 + 9 * 2 ^ 64)) .turret 7 0x00100020 (by decide)).1 (by decide)).2).1).runs,
   (((((h (wDesc (3 + 4 * 2 ^ 30 + 9 * 2 ^ 64)) .turret 7 0x00100020 (by decide)).1 (by decide)).2).2).1 (by decide) (by decide) (by decide)).runs,
   (((h (wDesc (3 + 4 * 2 ^ 30 + 9 * 2 ^ 64)) .turret 7 0x00100020 (by decide)).2).1).runs,
   ((((h (wDesc (3 + 4 * 2 ^ 30 + 9 * 2 ^ 64)) .turret 7 0x00100020 (by decide)).2).2).1 (by decide) (by decide)).runs,
   (((((h (wDesc (3 + 9 * 2 ^ 30 + 4 * 2 ^ 64)) .debug 7 0x0100FF00 (by decide)).1 (by decide)).2).2).2 (by decide)).runs⟩

theorem witness_GuardCommandsComplete_2 (h : Obligations.GuardCommandsComplete) :
    Runs (.agSyssetWrite Path.debug 16842496) (wDesc (3 + 9 * 2 ^ 30 + 4 * 2 ^ 64)) :=
  ((((h (wDesc (3 + 9 * 2 ^ 30 + 4 * 2 ^ 64)) .debug 7 0x0100FF00 (by decide)).2).2).2 (by decide)).runs

theorem witness_FaultProcessingCompletes (h : Obligations.FaultProcessingCompletes) :
    Runs .faultProcess (wFault 3 (fm 5633 1 4) []) ∧
    Runs (.remoteFaultReceive (fm 5633 1 4)) (wFault 3 (fm 5633 1 4) []) ∧
    Runs .faultProcess (wFault 16 (fm 5633 1 4) []) ∧
    Runs .faultProcess (wFault 3 (fm 10241 2 5) [(F.FC_CTRL_LOGMIN, 0, 3), (F.FC_DCFG_REACT2, 2, 1)]) :=
  ⟨((((h (wFault 3 (fm 0x1601 1 4) []) 3 5 (fm 0x1601 1 4)).1 (by decide) (by decide) (by decide)).1 (by decide) (by decide) (by decide) (by decide) (by decide) (by decide) (by decide) (by decide)).1 (by decide)).runs,
   ((h (wFault 3 (fm 0x1601 1 4) []) 3 5 (fm 0x1601 1 4)).2 (by decide)).runs,
   ((((h (wFault 16 (fm 0x1601 1 4) []) 16 5 (fm 0x1601 1 4)).1 (by decide) (by decide) (by decide)).1 (by decide) (by decide) (by decide) (by decide) (by decide) (by decide) (by decide) (by decide)).2 (by decide)).runs,
   (((h (wFault 3 (fm 0x2801 2 5) [(F.FC_CTRL_LOGMIN, 0, 3), (F.FC_DCFG_REACT2, 2, 1)]) 3 5 (fm 0x2801 2 5)).1 (by decide) (by decide) (by decide)).2 (by decide) (by decide) (by decide) (by decide) (by decide) (by decide) (by decide) (by decide) (by decide) (by decide) (by decide) (by decide)).runs⟩

theorem witness_FaultControlsComplete (h : Obligations.FaultControlsComplete) :
    Runs (.quietTimerExpiry (128 + 5)) (wDom dTimer 2 0) ∧
    Runs .fcDcmdRelease (wDom dTimer 2 0) ∧
    Runs .fcDcmdRearm (wDom dTimer 2 0) ∧
    Runs .fcDcmdClrcnt (wDom dTimer 2 0) ∧
    Runs .fcFestatValidClear (wDom dTimer 2 0) ∧
    Runs .fcAlmArm (wDom dTimer 2 0) :=
  ⟨((((h (wDom dTimer 2 0) 5 133 0 true (by decide)).1 (by decide) (by decide)).1 (by decide) (by decide)).1 (by decide)).runs,
   (((((h (wDom dTimer 2 0) 5 133 0 true (by decide)).2).1 (by decide)).2).1 (by decide)).runs,
   ((((((h (wDom dTimer 2 0) 5 133 0 true (by decide)).2).1 (by decide)).2).2).1).runs,
   ((((((h (wDom dTimer 2 0) 5 133 0 true (by decide)).2).1 (by decide)).2).2).2).runs,
   ((((h (wDom dTimer 2 0) 5 133 0 true (by decide)).2).2).1).runs,
   (((((h (wDom dTimer 2 0) 5 133 0 true (by decide)).2).2).2).1).runs⟩

theorem witness_FaultControlsComplete_2 (h : Obligations.FaultControlsComplete) :
    Runs (.fcAlmSwlvlWrite true) (wDom dTimer 2 0) ∧
    Runs (.fcLogrdWrite 0) (wDom dTimer 2 0) ∧
    Runs (.quietTimerExpiry (128 + 5)) (wDom dTimer 2 1) ∧
    Runs (.quietTimerExpiry (128 + 5)) (wDom { dTimer with reset := true } 3 1) ∧
    Runs .fcDcmdRelease (wDom dLat 2 1) :=
  ⟨((((((h (wDom dTimer 2 0) 5 133 0 true (by decide)).2).2).2).2).1).runs,
   ((((((h (wDom dTimer 2 0) 5 133 0 true (by decide)).2).2).2).2).2 (by decide) (by decide) (by decide)).runs,
   ((((h (wDom dTimer 2 1) 5 133 0 false (by decide)).1 (by decide) (by decide)).1 (by decide) (by decide)).2 (by decide)).runs,
   (((h (wDom { dTimer with reset := true } 3 1) 5 133 0 false (by decide)).1 (by decide) (by decide)).2 (by decide) (by decide)).runs,
   ((((h (wDom dLat 2 1) 5 133 0 false (by decide)).2).1 (by decide)).1 (by decide) (by decide)).runs⟩

theorem witness_PowerAndThermalCommandsComplete (h : Obligations.PowerAndThermalCommandsComplete) :
    Runs (.standbyEntry none) (wStandby) ∧
    Runs (.standbyEntry (some (1, (WakeWhy.spire 1)))) (wStandby) ∧
    Runs (.thermalSensorReading 3 2047 true) (wStandby) ∧
    Runs (.standbyWake WakeWhy.window) (wPwr 2 []) ∧
    Runs (.ckPwrcmdWake Path.turret) (wPwr 2 []) ∧
    Runs (.thermalSensorReading 30 2304 false) (wOn) :=
  ⟨(((h wStandby .turret (.spire 1) 3 0x7FF).1 (by decide)).1).runs,
   (((h wStandby .turret (.spire 1) 3 0x7FF).1 (by decide)).2 (by decide)).runs,
   ((((h wStandby .turret (.spire 1) 3 0x7FF).2).2).1 (by decide)).runs,
   ((((h (wPwr 2 []) .turret .window 3 0x900).2).1 (by decide)).1 (by decide)).runs,
   ((((h (wPwr 2 []) .turret .window 3 0x900).2).1 (by decide)).2.2 (.inl rfl)).runs,
   (((((h wOn .debug .window 30 0x900).2).2).2).1 (by decide) (by decide)).runs⟩

theorem witness_PowerAndThermalCommandsComplete_2 (h : Obligations.PowerAndThermalCommandsComplete) :
    Runs .tfpThermalTrip (wOn) ∧
    Runs (.standbyWake (.spire 1)) (wPwr 2 []) :=
  ⟨(((((h wOn .debug .window 30 0x900).2).2).2).2 (by decide)).runs,
   (((h (wPwr 2 []) .turret (.spire 1) 3 0x900).2.1 (by decide)).2.1 (by decide)).runs⟩

theorem witness_ResetRequestsComplete (h : Obligations.ResetRequestsComplete) :
    Runs .watchdogExpiry (wOn) ∧
    Runs (.ckRstcmdModule Path.turret) (wOn) ∧
    Runs (.ckRstcmdFabric Path.turret) (wOn) ∧
    Runs (.ckRstcmdSpire Path.turret 1) (wOn) ∧
    Runs (.ckRstcmdEngine Path.turret 1) (wOn) ∧
    Runs (.ckRstcmdPort Path.turret 1) (wRst) :=
  ⟨((h wOn .turret 1 3 (jb dVer (some 1) .idle)).1 (by decide) (by decide)).1.runs,
   ((((h wOn .turret 1 3 (jb dVer (some 1) .idle)).2).1 (by decide) (by decide)).1 (by decide)).runs,
   (((((h wOn .turret 1 3 (jb dVer (some 1) .idle)).2).1 (by decide) (by decide)).2).1 (by decide)).runs,
   (((((((((h wOn .turret 1 3 (jb dVer (some 1) .idle)).2).1 (by decide) (by decide)).2).2 (by decide)).2).2).2).1 (by decide) (by decide) (by decide) (by decide)).runs,
   ((((((((((h wOn .turret 1 3 (jb dVer (some 1) .idle)).2).1 (by decide) (by decide)).2).2 (by decide)).2).2).2).2 (by decide)).1 (by decide)).runs,
   (((((((h wRst .turret 1 3 (jb dVer (some 1) .idle)).2).1 (by decide) (by decide)).2).2 (by decide)).1 (by decide) (by decide)).1 (by decide) (by decide)).runs⟩

theorem witness_ResetRequestsComplete_2 (h : Obligations.ResetRequestsComplete) :
    Runs (.ckRstcmdTenant Path.turret 1) (wRst) ∧
    Runs (.ckRstcmdChannel Path.turret 1) (wRst) ∧
    Runs (.ckRstcmdEngine Path.barrier 1) (wJob (jb dVer (some 1) DmPhase.idle) id) ∧
    Runs (.ckRstcmdModule Path.barrier) (wRstBusy) ∧
    Runs (.ckRstcmdModule Path.debug) (wRstBusy) ∧
    Runs .clockLockLoss wOn :=
  ⟨(((((((h wRst .turret 1 3 (jb dVer (some 1) .idle)).2).1 (by decide) (by decide)).2).2 (by decide)).2).1 (by decide) (by decide)).runs,
   ((((((((h wRst .turret 1 3 (jb dVer (some 1) .idle)).2).1 (by decide) (by decide)).2).2 (by decide)).2).2).1 (by decide) (by decide)).runs,
   ((((((((((h (wJob (jb dVer (some 1) .idle) id) .barrier 1 3 (jb dVer (some 1) .idle)).2).1 (by decide) (by decide)).2).2 (by decide)).2).2).2).2 (by decide)).2 (by decide) (by decide) (by decide) (by decide)).runs,
   ((((h wRstBusy .barrier 1 3 (jb dVer (some 1) .idle)).2).2 (Instr.ckRstcmdModule Path.barrier) (by simp)).2 (by decide) (by decide)).runs,
   ((((h wRstBusy .debug 1 3 (jb dVer (some 1) .idle)).2).2 (Instr.ckRstcmdModule Path.debug) (by simp)).1 (by decide)).runs,
   ((h wOn .turret 1 3 (jb dVer (some 1) .idle)).1 (by decide) (by decide)).2.runs⟩

theorem witness_ResetRequestsComplete_3 (h : Obligations.ResetRequestsComplete) :
    Runs (.ckRstcmdPort Path.turret 1) wRstUp :=
  ((((((h wRstUp .turret 1 3 (jb dVer (some 1) .idle)).2).1 (by decide) (by decide)).2.2 (by decide)).1 (by decide) (by decide)).2 (by decide) (by unfold Hw.noMessages; decide)).runs

theorem witness_TapInstructionsComplete (h : Obligations.TapInstructionsComplete) :
    Runs .testLogicReset (wTap DtState.idle 4 2 []) ∧
    Runs (.extest 90) (wTap DtState.idle 4 2 []) ∧
    Runs (.samplePreload false 90) (wTap DtState.idle 4 2 []) ∧
    Runs (.samplePreload true 90) (wTap DtState.idle 4 2 []) ∧
    Runs .idcode (wTap DtState.idle 4 2 []) ∧
    Runs .tapStatus (wTap DtState.idle 4 2 []) :=
  ⟨((h (wTap DtState.idle 4 2 []) 0x5A 0xFF).1).runs,
   (((h (wTap DtState.idle 4 2 []) 0x5A 0xFF).2).1 (by decide) (by decide)).runs,
   (((((h (wTap DtState.idle 4 2 []) 0x5A 0xFF).2).2).2).1).runs,
   ((((((h (wTap DtState.idle 4 2 []) 0x5A 0xFF).2).2).2).2).1).runs,
   (((((((h (wTap DtState.idle 4 2 []) 0x5A 0xFF).2).2).2).2).2).1).runs,
   ((((((((h (wTap DtState.idle 4 2 []) 0x5A 0xFF).2).2).2).2).2).2).1).runs⟩

theorem witness_TapInstructionsComplete_2 (h : Obligations.TapInstructionsComplete) :
    Runs (.bypass 255) (wTap DtState.idle 4 2 []) ∧
    Runs (.extest 90) (wTap DtState.idle 3 2 []) ∧
    Runs (.bypass 20) (wTap DtState.idle 3 2 []) :=
  ⟨(((((((((h (wTap DtState.idle 4 2 []) 0x5A 0xFF).2).2).2).2).2).2).2).1 (by decide)).runs,
   ((((h (wTap DtState.idle 3 2 []) 0x5A 0x14).2).2).1 (by decide)).runs,
   (((((((((h (wTap DtState.idle 3 2 []) 0x5A 0x14).2).2).2).2).2).2).2).2 (by decide)).runs⟩

theorem witness_UnlockCommandsComplete (h : Obligations.UnlockCommandsComplete) :
    Runs .challenge (wTap dNonce 3 0 []) ∧
    Runs (.response 90) (wTap dNonce 3 0 []) ∧
    Runs .relock (wTap dNonce 3 0 []) ∧
    Runs (.response 90) (wStale) ∧
    Runs .challenge (wTap dNonce 3 0 [(F.DT_DBGSTAT_LOCKOUT, 0, 1)]) ∧
    Runs (.response 90) (wTap dNonce 3 0 [(F.DT_DBGSTAT_LOCKOUT, 0, 1)]) :=
  ⟨(((h (wTap dNonce 3 0 []) 0x5A 77 0 vOld).1 (by decide)).1).runs,
   ((((h (wTap dNonce 3 0 []) 0x5A 77 0 vOld).1 (by decide)).2 (by decide)).1 (by decide) (by decide)).runs,
   ((((h (wTap dNonce 3 0 []) 0x5A 77 0 vOld).2).2).2).runs,
   ((((h wStale 0x5A 77 0 vOld).1 (by decide)).2 (by decide)).2 (by decide) (by decide)).runs,
   ((((h (wTap dNonce 3 0 [(F.DT_DBGSTAT_LOCKOUT, 0, 1)]) 0x5A 77 0 vOld).2).1 (by decide)).1).runs,
   (((((h (wTap dNonce 3 0 [(F.DT_DBGSTAT_LOCKOUT, 0, 1)]) 0x5A 77 0 vOld).2).1 (by decide)).2).1).runs⟩

theorem witness_UnlockCommandsComplete_2 (h : Obligations.UnlockCommandsComplete) :
    Runs .unlockLockoutEnd (wTap dNonce 3 0 [(F.DT_DBGSTAT_LOCKOUT, 0, 1)]) ∧
    Runs .unlockVerifyEnd (wTap dVerify 3 1 []) :=
  ⟨(((((h (wTap dNonce 3 0 [(F.DT_DBGSTAT_LOCKOUT, 0, 1)]) 0x5A 77 0 vOld).2).1 (by decide)).2).2).runs,
   (((((h (wTap dVerify 3 1 []) 0x5A 77 0 vOld).2).2).1 (by decide)).2 (by decide) (by decide)).runs⟩

theorem witness_DebugAccessesComplete (h : Obligations.DebugAccessesComplete) :
    Runs (.dtDirselWrite 1) (wTap DtState.idle 4 1 []) ∧
    Runs (.dtBistcmdGo Path.debug 6) (wTap DtState.idle 4 1 []) ∧
    Runs (.dtTmuxselWrite 7 1) (wTap DtState.idle 4 1 []) ∧
    Runs (.dtTmuxselWrite 7 145415) (wTap DtState.idle 4 1 []) ∧
    Runs (.dtTmuxselWrite 7 14) (wTap DtState.idle 4 2 []) ∧
    Runs (.dtDirselWrite 14) (wTap DtState.idle 4 2 []) :=
  ⟨((((h (wTap DtState.idle 4 1 []) .debug 7 0 5 6 0x00000001).2).2).1 (by decide)).runs,
   ((((((h (wTap DtState.idle 4 1 []) .debug 7 0 5 6 0x00000001).2).2).2).1 (by decide)).1 (by decide) (by decide) (by decide)).runs,
   (((h (wTap DtState.idle 4 1 []) .debug 7 1 5 6 0x00000001).1 (by decide)).1 (by decide)).runs,
   ((((h (wTap DtState.idle 4 1 []) .debug 7 1 5 72 0x00023807).1 (by decide)).2).1 (by decide)).runs,
   ((((h (wTap DtState.idle 4 2 []) .debug 7 0 5 15 0x0000000E).1 (by decide)).2).2 (by decide)).runs,
   (((h (wTap DtState.idle 4 2 []) .debug 7 0 5 15 0x0000000E).2).1 (by decide) (by decide) (by decide)).runs⟩

theorem witness_DebugAccessesComplete_2 (h : Obligations.DebugAccessesComplete) :
    Runs (.dtBistcmdGo Path.debug 6) (wTap dBist 3 2 []) ∧
    Runs (.bistEnd 5) (wTap dBist 3 2 []) :=
  ⟨((((((h (wTap dBist 3 2 []) .debug 7 0 5 6 0x0000000E).2).2).2).1 (by decide)).2 (by decide)).runs,
   (((((h (wTap dBist 3 2 []) .debug 7 0 5 6 0x0000000E).2).2).2).2 (by decide) (by decide)).runs⟩

theorem witness_BarrierLinkCommandsComplete (h : Obligations.BarrierLinkCommandsComplete) :
    Runs (.hello true true [1, 0, 0, 0]) (wBar (eSync false false) BarEnd.down id) ∧
    Runs (.helloRepeat true) (wBar (eSync false false) BarEnd.down id) ∧
    Runs (.hello true true [1, 0, 0, 0]) (wBar (eSync true false) BarEnd.down id) ∧
    Runs (.hello false true [1, 0, 1, 0]) (wBar (eSync true false) (eSync true false) id) ∧
    Runs (.barrierSync false) (wBar BarEnd.down BarEnd.down id) ∧
    Runs (.barrierSync true) (wBar (eUp []) (eUp []) id) :=
  ⟨(((h (wBar (eSync false false) BarEnd.down id) true [1, 0, 0, 0]).1 (by decide) (by decide) (by decide)).1 (by decide)).runs,
   (((((h (wBar (eSync false false) BarEnd.down id) true [1, 0, 0, 0]).1 (by decide) (by decide) (by decide)).2).2).2 (by decide)).runs,
   ((((h (wBar (eSync true false) BarEnd.down id) true [1, 0, 0, 0]).1 (by decide) (by decide) (by decide)).2).1 (by decide) (by decide) (by decide) (by decide) (by decide)).runs,
   (((((h (wBar (eSync true false) (eSync true false) id) false [1, 0, 1, 0]).1 (by decide) (by decide) (by decide)).2).2).1 (by decide) (by decide)).runs,
   (((h (wBar BarEnd.down BarEnd.down id) false [1, 0, 1, 0]).2).1 (by decide) (by decide)).runs,
   ((((h (wBar (eUp []) (eUp []) id) true [1, 0, 1, 0]).2).2).1 (by decide) (by decide)).runs⟩

theorem witness_BarrierLinkCommandsComplete_2 (h : Obligations.BarrierLinkCommandsComplete) :
    Runs (.barrierLinkDown true true) (wBar (eUp []) (eUp []) id) ∧
    Runs (.sleep true []) (wBar (eUp []) (eUp []) id) :=
  ⟨(((((h (wBar (eUp []) (eUp []) id) true [1, 0, 1, 0]).2).2).2).1 (by decide) (by decide)).runs,
   (((((h (wBar (eUp []) (eUp []) id) true [1, 0, 1, 0]).2).2).2).2 (by decide) (by decide)).runs⟩

theorem witness_BarrierRepeatsComplete (h : Obligations.BarrierRepeatsComplete) :
    Runs (.ackFrame true false true [5, 0]) (wBar (eUp [bf]) (eUp [bf]) cAlarm) ∧
    Runs (.barrierResendTimeout true) (wBar (eUp [bf]) (eUp [bf]) cAlarm) ∧
    Runs (.ackFrame true true true [5, 0]) (wBar (eUp [bf]) (eUp [bf]) cAlarm) ∧
    Runs .alarmRepeat (wBar (eUp [bf]) (eUp [bf]) cAlarm) ∧
    Runs .pwrRepeat (wBar (eUp [bf]) (eUp [bf]) cAlarm) ∧
    Runs (.statusRepeat tel0) (wBar (eUp [bf]) (eUp [bf]) cAlarm) :=
  ⟨(((h (wBar (eUp [bf]) (eUp [bf]) cAlarm) true 9 60 5 bf tel0).1 (by decide) (by decide)).1 (by decide) (by decide)).runs,
   ((((h (wBar (eUp [bf]) (eUp [bf]) cAlarm) true 9 60 5 bf tel0).1 (by decide) (by decide)).2 (by decide)).2 (by decide) (by decide)).runs,
   (((h (wBar (eUp [bf]) (eUp [bf]) cAlarm) true 9 60 5 bf tel0).2).1 (by decide)).runs,
   ((((h (wBar (eUp [bf]) (eUp [bf]) cAlarm) true 9 60 5 bf tel0).2).2).1 (by decide) (by decide)).runs,
   (((((h (wBar (eUp [bf]) (eUp [bf]) cAlarm) true 9 60 5 bf tel0).2).2).2 (by decide) (by decide) (by decide)).1).runs,
   (((((h (wBar (eUp [bf]) (eUp [bf]) cAlarm) true 9 60 5 bf tel0).2).2).2 (by decide) (by decide) (by decide)).2).runs⟩

theorem witness_BarrierRepeatsComplete_2 (h : Obligations.BarrierRepeatsComplete) :
    Runs (.ackFrame true false true [4, 1]) (wBar (eUp [bf]) (eUp [bf]) id) :=
  ((((h (wBar (eUp [bf]) (eUp [bf]) id) true 9 60 4 bf tel0).1 (by decide) (by decide)).2 (by decide)).1 (by decide) (by decide)).runs

theorem witness_WatchtowerStatesComplete (h : Obligations.WatchtowerStatesComplete) :
    Runs (.feedValidRise true true) (wit id) ∧
    Runs .watchtowerStop (wit id) ∧
    Runs (.feedValidRise true true) (wWt 1 id) ∧
    Runs .seatingAssert (wWt 1 id) ∧
    Runs (.debounceComplete 37) (wWt 1 id) ∧
    Runs .pfwRise (wWt 1 id) :=
  ⟨((h (wit id) true true 5).1 (by decide)).runs,
   ((((h (wit id) true true 5).2).2).1).runs,
   ((((h (wWt 1 id) true true 37).2).1 (by decide)).1 (by decide)).runs,
   (((((h (wWt 1 id) true true 37).2).1 (by decide)).2).1).runs,
   ((((((h (wWt 1 id) true true 37).2).1 (by decide)).2).2).1 (by decide) (by decide) (by decide) (by decide) (by decide)).runs,
   (((((((h (wWt 1 id) true true 37).2).1 (by decide)).2).2).2).1 (by decide)).runs⟩

theorem witness_WatchtowerStatesComplete_2 (h : Obligations.WatchtowerStatesComplete) :
    Runs (.feedloss true) (wWt 1 id) ∧
    Runs (.seatingReleaseBegin true) (wWt 3 (gOn true false)) ∧
    Runs .retryCountClear (wWt 3 (gOn true false)) ∧
    Runs .pfwFall (wWt 3 (gOn true true)) ∧
    Runs .seatingGlitch (wWt 3 gRel) ∧
    Runs .seatingRemoval (wWt 3 gRel) :=
  ⟨((((((((((h (wWt 1 id) true true 37).2.2).2).2).2).2).2).2).2).1 (by decide)).runs,
   (((((h (wWt 3 (gOn true false)) true true 37).2).2).2).1 (by decide) (by decide)).runs,
   ((((((((((h (wWt 3 (gOn true false)) true true 37).2.2).2).2).2).2).2).2).2).2 (by decide) (by decide)).runs,
   (((((((((h (wWt 3 (gOn true true)) false true 37).2.2).2).2).2).2).2).2).1 (by decide) (by decide) (by decide)).runs,
   (((((((h (wWt 3 gRel) true true 37).2.2).2).2).2).1 (by decide)).1 (by decide) (by decide) (by decide)).runs,
   ((((((((h (wWt 3 gRel) true true 37).2.2).2).2).2).1 (by decide)).2).1 (by decide)).runs⟩

theorem witness_WatchtowerStatesComplete_3 (h : Obligations.WatchtowerStatesComplete) :
    Runs .latchClearRemoval (wWt 3 gRel) ∧
    Runs .rampPause (wWt 2 (gNoFeed true)) ∧
    Runs .gateFullyOn (wWt 2 (gGate 1)) ∧
    Runs (.feedrestore true) (wWt 3 (gNoFeed false)) ∧
    Runs (.seatingReleaseBegin true) (wWt 1 gLift) :=
  ⟨((((((((h (wWt 3 gRel) true true 37).2.2).2).2).2).1 (by decide)).2).2).runs,
   (((((((h (wWt 2 (gNoFeed true)) true true 37).2.2).2).2).2).2).1 (by decide) (by decide) (by decide) (by decide)).runs,
   ((((((((h (wWt 2 (gGate 1)) true true 37).2.2).2).2).2).2).2).1 (by decide) (by decide)).runs,
   (((((((h (wWt 3 (gNoFeed false)) true true 37).2).1 (by decide)).2).2).2).2 (by decide) (by decide)).runs,
   (((h (wWt 1 gLift) true true 37).2.2.2.2).1 (by decide)).runs⟩

theorem witness_WatchtowerFaultsComplete (h : Obligations.WatchtowerFaultsComplete) :
    Runs .currentLimitReached (wWt 2 gTmr) ∧
    Runs .faultTimerExpiry (wWt 2 gTmr) ∧
    Runs .feedOvervoltage (wWt 2 gTmr) ∧
    Runs .faultTimerExpiry (wWt 2 gLast) ∧
    Runs .retryTimerExpiry (wWt 4 id) ∧
    Runs .thermalTripRelease (wWt 4 id) :=
  ⟨(((h (wWt 2 gTmr) true).1 (by decide)).1 (by decide)).runs,
   ((((h (wWt 2 gTmr) true).1 (by decide)).2).1 (by decide)).runs,
   (((((h (wWt 2 gTmr) true).2).2).1 (by decide) (by decide)).1 (by decide)).runs,
   ((((h (wWt 2 gLast) true).1 (by decide)).2).1 (by decide)).runs,
   ((((h (wWt 4 id) true).2).1 (by decide) (by decide) (by decide)).1 (by decide)).runs,
   ((((h (wWt 4 id) true).2).1 (by decide) (by decide) (by decide)).2 (by decide)).runs⟩

theorem witness_WatchtowerFaultsComplete_2 (h : Obligations.WatchtowerFaultsComplete) :
    Runs .feedOvervoltage (wWt 4 id) ∧
    Runs .overvoltageClear (wWt 2 gOv) ∧
    Runs .pgoodRise (wWt 2 (gOn false false)) ∧
    Runs (.pgoodFall false) (wWt 3 gOff) ∧
    Runs .converterDisable (wWt 3 gConv) ∧
    Runs (.pgoodFall true) (wWt 1 (gOn true false)) :=
  ⟨(((((h (wWt 4 id) true).2).2).1 (by decide) (by decide)).2 (by decide)).runs,
   (((((h (wWt 2 gOv) true).2).2).2).1 (by decide) (by decide) (by decide) (by decide)).runs,
   ((((((h (wWt 2 (gOn false false)) true).2).2).2).2).1 (by decide) (by decide) (by decide)).runs,
   (((((((h (wWt 3 gOff) false).2).2).2).2).2).2.1 (by decide) (.inr (by decide))).runs,
   (((((((h (wWt 3 gConv) false).2).2).2).2).2).2.2 (by decide) (by decide)).runs,
   (((h (wWt 1 (gOn true false)) true).2.2.2.2.2.2.1 (by decide) (.inl rfl))).runs⟩

theorem witness_WatchtowerFaultsComplete_3 (h : Obligations.WatchtowerFaultsComplete) :
    Runs .shortCircuitTrip (wWt 2 gTmr) ∧
    Runs .rampmaxExpiry (wWt 2 gTmr) ∧
    Runs .passThermalTrip (wWt 2 gTmr) ∧
    Runs (.pgoodFall false) (wWt 3 (gOn true false)) :=
  ⟨(((h (wWt 2 gTmr) true).1 (by decide)).2.2.1).runs,
   (((h (wWt 2 gTmr) true).1 (by decide)).2.2.2.1 (by decide) (by decide)).runs,
   (((h (wWt 2 gTmr) true).1 (by decide)).2.2.2.2).runs,
   ((h (wWt 3 (gOn true false)) false).2.2.2.2.2.1 (by decide) (by decide) (by decide)).runs⟩

theorem witness_WatchtowerBusComplete (h : Obligations.WatchtowerBusComplete) :
    Runs (.smbusMctpWrite true [1, 2, 3, 4, 5, 6, 7, 8, 9, 10]) (wBus (eUp []) id) ∧
    Runs (.smbusResetRequest true 165) (wBus (eUp []) id) ∧
    Runs (.smbusRegisterRequest true [1, 2, 3, 4, 5, 6, 7, 8, 9, 10]) (wBus (eUp []) id) ∧
    Runs (.smbusStatusRead tel0) (wBus (eUp []) id) ∧
    Runs .smbusRegisterResponseRead (wBus (eUp []) id) ∧
    Runs .smbusClockLowTimeout (wBus (eUp []) id) :=
  ⟨((((h (wBus (eUp []) id) [1, 2, 3, 4, 5, 6, 7, 8, 9, 10] tel0 9 0 0).1 (by decide)).1 (by decide) (by decide) (by decide) (by decide)).1 (by decide) (by decide) (by decide)).runs,
   (((((h (wBus (eUp []) id) [1, 2, 3, 4, 5, 6, 7, 8, 9, 10] tel0 9 0 0).1 (by decide)).1 (by decide) (by decide) (by decide) (by decide)).2).1 (by decide)).runs,
   (((((h (wBus (eUp []) id) [1, 2, 3, 4, 5, 6, 7, 8, 9, 10] tel0 9 0 0).1 (by decide)).1 (by decide) (by decide) (by decide) (by decide)).2).2 (by decide) (by decide)).runs,
   (((((h (wBus (eUp []) id) [1, 2, 3, 4, 5, 6, 7, 8, 9, 10] tel0 9 0 0).1 (by decide)).2).2).1).runs,
   ((((((h (wBus (eUp []) id) [1, 2, 3, 4, 5, 6, 7, 8, 9, 10] tel0 9 0 0).1 (by decide)).2).2).2).1).runs,
   ((((((h (wBus (eUp []) id) [1, 2, 3, 4, 5, 6, 7, 8, 9, 10] tel0 9 0 0).1 (by decide)).2).2).2).2).runs⟩

theorem witness_WatchtowerBusComplete_2 (h : Obligations.WatchtowerBusComplete) :
    Runs (.mctpout true (wBus (eUp []) id).mach.hw.wt.bar.rx [1, 2, 3, 4, 5, 6, 7, 8, 9, 10]) (wBus (eUp []) id) ∧
    Runs (.smbusMctpWrite true [1, 2, 3, 4, 5, 6, 7, 8, 9, 10]) (wBus BarEnd.down id) ∧
    Runs (.smbusRegisterRequest true [1, 2, 3, 4, 5, 6, 7, 8, 9, 10]) (wBus BarEnd.down id) ∧
    Runs .mctpoutRetry (wBus (eUp []) (gOut 2)) ∧
    Runs .mctpoutRetry (wBus (eUp []) (gOut 3)) ∧
    Runs (.alarm true 9 [1]) (wBus (eUp []) gPulse) :=
  ⟨((((((((h (wBus (eUp []) id) [1, 2, 3, 4, 5, 6, 7, 8, 9, 10] tel0 9 0 0).2).2).2).2 (by decide) (by decide)).2).2).1 (by decide) (by decide)).runs,
   (((((h (wBus BarEnd.down id) [1, 2, 3, 4, 5, 6, 7, 8, 9, 10] tel0 9 0 0).1 (by decide)).2).1 (by decide)).1).runs,
   (((((h (wBus BarEnd.down id) [1, 2, 3, 4, 5, 6, 7, 8, 9, 10] tel0 9 0 0).1 (by decide)).2).1 (by decide)).2).runs,
   ((((h (wBus (eUp []) (gOut 2)) [1, 2, 3] tel0 9 2 0).2).1 (by decide)).1 (by decide)).runs,
   ((((h (wBus (eUp []) (gOut 3)) [1, 2, 3] tel0 9 3 0).2).1 (by decide)).2 (by decide)).runs,
   (((((h (wBus (eUp []) gPulse) [1] tel0 9 3 0).2).2).1 (by decide) (by decide)).2 (by decide)).runs⟩

theorem witness_WatchtowerBusComplete_3 (h : Obligations.WatchtowerBusComplete) :
    Runs .alarmPulseEnd (wBus (eUp []) gPulse) ∧
    Runs (.almlvl true (wBus (eUp []) gPulse).mach.hw.wt.bar.rx [1]) (wBus (eUp []) gPulse) ∧
    Runs (.alarm true 9 [1]) (wBus (eUp []) id) ∧
    Runs (.setcfg true (wBus (eUp []) id).mach.hw.wt.bar.rx factoryCfg) (wBus (eUp []) id) ∧
    Runs (.setcfg true (wBus (eUp []) id).mach.hw.wt.bar.rx (List.replicate 16 1)) (wBus (eUp []) id) ∧
    Runs (.regrsp true (wBus (eUp []) id).mach.hw.wt.bar.rx [1, 2, 3, 4, 5, 6, 7]) (wBus (eUp []) id) :=
  ⟨(((((h (wBus (eUp []) gPulse) [1] tel0 9 3 0).2).2).2).1 (by decide)).runs,
   ((((((h (wBus (eUp []) gPulse) [1] tel0 9 3 0).2).2).2).2 (by decide) (by decide)).1 (by decide)).runs,
   (((((h (wBus (eUp []) id) [1] tel0 9 3 0).2).2).1 (by decide) (by decide)).1 (by decide)).runs,
   ((((((((h (wBus (eUp []) id) factoryCfg tel0 9 3 0).2).2).2).2 (by decide) (by decide)).2).1 (by decide)).1 (by decide)).runs,
   ((((((((h (wBus (eUp []) id) (List.replicate 16 1) tel0 9 3 14).2).2).2).2 (by decide) (by decide)).2).1 (by decide)).2 (by decide)).runs,
   ((((((((h (wBus (eUp []) id) [1, 2, 3, 4, 5, 6, 7] tel0 9 3 14).2).2).2).2 (by decide) (by decide)).2).2).2 (by decide)).runs⟩

theorem witness_FabricEndFramesComplete (h : Obligations.FabricEndFramesComplete) :
    Runs (.pwr true [3, 2]) (wBus (eUp []) id) ∧
    Runs (.event true (wBus (eUp []) id).mach.hw.bc.fab.rx [1, 7]) (wBus (eUp []) id) ∧
    Runs (.event true (wBus (eUp []) id).mach.hw.bc.fab.rx [4, 7]) (wBus (eUp []) id) ∧
    Runs (.event true (wBus (eUp []) id).mach.hw.bc.fab.rx [5, 7]) (wBus (eUp []) id) ∧
    Runs (.mctpin true (wBus (eUp []) id).mach.hw.bc.fab.rx [3, 2]) (wBus (eUp []) id) ∧
    Runs (.rstreq true (wBus (eUp []) id).mach.hw.bc.fab.rx []) (wBus (eUp []) id) :=
  ⟨(((h (wBus (eUp []) id) [3, 2] 7 (by decide)).1 (by decide) (by decide) (by decide)).1 (by decide)).runs,
   ((((h (wBus (eUp []) id) [3, 2] 7 (by decide)).2).2 (by decide)).1 (by decide)).runs,
   (((((h (wBus (eUp []) id) [3, 2] 7 (by decide)).2).2 (by decide)).2).1).runs,
   ((((((h (wBus (eUp []) id) [3, 2] 7 (by decide)).2).2 (by decide)).2).2).1).runs,
   ((((((((h (wBus (eUp []) id) [3, 2] 7 (by decide)).2).2 (by decide)).2).2).2).2).1 (by decide) (by decide)).runs,
   ((((((((h (wBus (eUp []) id) [3, 2] 7 (by decide)).2).2 (by decide)).2).2).2).2).2 (by decide)).runs⟩

theorem witness_FabricEndFramesComplete_2 (h : Obligations.FabricEndFramesComplete) :
    Runs (.pwr true [2, 2]) (wBus (eUp []) id) ∧
    Runs (.status true (List.replicate 32 165)) (wBus (eUp []) id) ∧
    Runs (.cfgrpt true (wBus (eUp []) id).mach.hw.bc.fab.rx factoryCfg) (wBus (eUp []) id) :=
  ⟨(((h (wBus (eUp []) id) [2, 2] 7 (by decide)).1 (by decide) (by decide) (by decide)).2 (by decide)).runs,
   (((h (wBus (eUp []) id) (List.replicate 32 0xA5) 7 (by decide)).2).1 (by decide)).runs,
   (((((((h (wBus (eUp []) id) factoryCfg 7 (by decide)).2).2 (by decide)).2).2).2).1 (by decide)).runs⟩

theorem witness_StartUpCompletes (h : Obligations.StartUpCompletes) :
    Runs (.startUp [] true true 77) (wBoot true) ∧
    Runs .slotConfirmation (wTrial) ∧
    Runs .persistLogWrite (wTrial) ∧
    Runs .persistQueueFlush (wTrial) :=
  ⟨(((h (wBoot true) [] true true 77 2 ⟨0, 0, 1, 1⟩ (fm 0x2801 2 5) []).1 (by decide) (by decide) (by decide)).1 (by decide)).runs,
   (((h wTrial [] true true 77 2 ⟨0, 0, 1, 1⟩ (fm 0x2801 2 5) []).2).1 (by decide) (by decide) (by decide) (by decide)).runs,
   ((((h wTrial [] true true 77 2 ⟨0, 0, 1, 1⟩ (fm 0x2801 2 5) []).2).2 (by decide) (by decide)).1).runs,
   ((((h wTrial [] true true 77 2 ⟨0, 0, 1, 1⟩ (fm 0x2801 2 5) []).2).2 (by decide) (by decide)).2 (by decide)).runs⟩

theorem witness_LoadCommandsComplete (h : Obligations.LoadCommandsComplete) :
    Runs (.idLdcmdNop Path.turret true) (wLd LdState.idle fLd) ∧
    Runs (.loadCommit Path.turret true) (wLd LdState.idle fLd) ∧
    Runs (.loadBegin Path.turret true) (wLd LdState.idle fLd) ∧
    Runs (.loadPlogread Path.turret true) (wLd LdState.idle fLd) ∧
    Runs (.loadActivate Path.turret true) (wLd LdState.idle fLd) ∧
    Runs (.idLdcmdNop Path.debug true) (wLd LdState.idle fLd) :=
  ⟨(((h (wLd LdState.idle fLd) .turret true 2 0 0x100 3 [1, 2, 3]).1 (by decide) (by decide)).1).runs,
   (((((h (wLd LdState.idle fLd) .turret true 2 0 0x100 3 [1, 2, 3]).1 (by decide) (by decide)).2).2).1 (by decide) (Instr.loadCommit Path.turret true) (by simp)).runs,
   (((((((h (wLd LdState.idle fLd) .turret true 2 0 0x100 3 [1, 2, 3]).1 (by decide) (by decide)).2).2).2).1 (by decide) (by decide)).1 (by decide) (by decide)).runs,
   ((((((((h (wLd LdState.idle fLd) .turret true 2 0 0x100 3 [1, 2, 3]).1 (by decide) (by decide)).2).2).2).1 (by decide) (by decide)).2).1 (by decide)).runs,
   ((((((((h (wLd LdState.idle fLd) .turret true 2 0 0x100 3 [1, 2, 3]).1 (by decide) (by decide)).2).2).2).1 (by decide) (by decide)).2).2 (by decide) (by decide)).runs,
   (((h (wLd LdState.idle fLd) .turret true 2 0 0x100 3 [1, 2, 3]).2).1 (Instr.idLdcmdNop Path.debug true) (by simp)).runs⟩

theorem witness_LoadCommandsComplete_2 (h : Obligations.LoadCommandsComplete) :
    Runs (.loadWrite Path.turret true) (wLd (lOpen 1) fLd) ∧
    Runs (.loadCommit Path.turret true) (wLd (lOpen 1) fLd) ∧
    Runs (.loadAbort Path.turret true) (wLd (lOpen 1) fLd) ∧
    Runs (.loadPersistclr Path.turret true) (wLd LdState.idle fHold) ∧
    Runs (.loadCommandEnd true true) (wLd (lRun 2 (some 0)) []) ∧
    Runs (.loadCommandEnd true true) (wLd (lRun 1 (some 0)) []) :=
  ⟨(((((h (wLd (lOpen 1) fLd) .turret true 2 0 0x100 3 [1, 2, 3]).1 (by decide) (by decide)).2).1 (by decide)).1 (by decide) (by decide) (by decide)).runs,
   ((((((h (wLd (lOpen 1) fLd) .turret true 2 0 0x100 3 [1, 2, 3]).1 (by decide) (by decide)).2).1 (by decide)).2).1).runs,
   ((((((h (wLd (lOpen 1) fLd) .turret true 2 0 0x100 3 [1, 2, 3]).1 (by decide) (by decide)).2).1 (by decide)).2).2).runs,
   ((((((h (wLd LdState.idle fHold) .turret true 2 0 0x100 3 [1, 2, 3]).1 (by decide) (by decide)).2).2).2).2 (by decide) (by decide)).runs,
   (((((h (wLd (lRun 2 (some 0)) []) .turret true 2 0 0x100 3 [1, 2, 3]).2).2).2 (by decide) (by decide)).1 (by decide) (by decide)).runs,
   ((((((h (wLd (lRun 1 (some 0)) []) .turret true 1 0 0x100 3 [1, 2, 3]).2).2).2 (by decide) (by decide)).2).1 (by decide)).runs⟩

theorem witness_LoadCommandsComplete_3 (h : Obligations.LoadCommandsComplete) :
    Runs (.loadCommandEnd true true) (wLd (lRun 4 (some 0)) []) ∧
    Runs .loadPfwWaitEnd (wLd (lRun 4 (some 0)) [(F.ID_LDSTAT_PFWWAIT, 0, 1)]) :=
  ⟨((((((h (wLd (lRun 4 (some 0)) []) .turret true 4 0 0x100 3 [1, 2, 3]).2).2).2 (by decide) (by decide)).2).2 (by decide)).runs,
   ((((h (wLd (lRun 4 (some 0)) [(F.ID_LDSTAT_PFWWAIT, 0, 1)]) .turret true 4 0 0x100 3 [1, 2, 3]).2).2).1 (by decide) (by decide) (by decide) (by decide)).runs⟩

/-- Either copy of the chain of `wChain fLd` is longer than its first byte. -/
theorem wChain_len : 1 < (serveChain (wChain fLd).mach).1.length := by
  unfold serveChain
  split
  · decide
  · split
    · decide
    · decide

theorem witness_FirmwareAndAttestationComplete (h : Obligations.FirmwareAndAttestationComplete) :
    Runs (.getFwInfo Path.cciMctp) (wChain fLd) ∧
    Runs (.transferFw Path.cciMctp 1 2 1 [] true) (wChain fLd) ∧
    Runs (.activateFw Path.cciMctp false 2) (wChain fLd) ∧
    Runs (.spdmGetCertificate 0 0 1 2) (wChain fLd) ∧
    Runs (.spdmChallenge 0 0 5) (wChain fLd) ∧
    Runs (.spdmGetMeasurements 0 255 5 false) (wChain fLd) :=
  ⟨(((h (wChain fLd) .cciMctp 0 2 1 2 5 6 false true ⟨1, [], []⟩).1 (by decide)).1).runs,
   (((((h (wChain fLd) .cciMctp 0 2 1 2 5 6 false true ⟨1, [], []⟩).1 (by decide)).2).1 (by decide) (by decide) (by decide)).1 (by decide) (by decide) (by decide) (by decide)).runs,
   ((((h (wChain fLd) .cciMctp 0 2 1 2 5 6 false true ⟨1, [], []⟩).1 (by decide)).2).2).runs,
   (((h (wChain fLd) .cciMctp 0 2 1 2 5 6 false true ⟨1, [], []⟩).2 (by decide)).1 wChain_len).runs,
   ((((h (wChain fLd) .cciMctp 0 2 1 2 5 6 false true ⟨1, [], []⟩).2 (by decide)).2).1).runs,
   (((((h (wChain fLd) .cciMctp 0 2 1 2 5 6 false true ⟨1, [], []⟩).2 (by decide)).2).2).1).runs⟩

theorem witness_FirmwareAndAttestationComplete_2 (h : Obligations.FirmwareAndAttestationComplete) :
    Runs (.spdmKeyExchange 0 0 5) (wChain fLd) ∧
    Runs (.spdmUnsupportedRequest 0 6) (wChain fLd) ∧
    Runs (.transferFw Path.cciMctp 4 2 1 [] true) (wLd lFw fLd) ∧
    Runs (.spdmKeyExchange 0 2 5) (wLd LdState.idle fHold) :=
  ⟨((((((h (wChain fLd) .cciMctp 0 2 1 2 5 6 false true ⟨1, [], []⟩).2 (by decide)).2).2).2).1 (by decide) (by decide)).runs,
   (((((((h (wChain fLd) .cciMctp 0 2 1 2 5 6 false true ⟨1, [], []⟩).2 (by decide)).2).2).2).2).2).runs,
   (((((h (wLd lFw fLd) .cciMctp 0 2 1 2 5 6 true true ⟨1, [], []⟩).1 (by decide)).2).1 (by decide) (by decide) (by decide)).2 (by decide)).runs,
   (((((((h (wLd LdState.idle fHold) .cciMctp 0 2 1 2 5 6 true true ⟨1, [], []⟩).2 (by decide)).2).2).2).2).1 (by decide)).runs⟩

/-! ### Clauses that rest on a signature

SM2 and SM3 are opaque, so no closed state passes a signature check: these two witnesses take the two facts that the check needs of
them, for a public key of 64 bytes 0xFF, as hypotheses. -/

/-- The smallest image that verifies, in slot A: a header, 64 bytes of firmware (erased), a REGSET record that
sets DD_TTSLEN to 3, an END record, and both signature blocks
of key 0, whose public key and signature are erased bytes. -/
def wImage : State :=
  let bytes : SMap Nat := [(0, 0x54), (1, 0x47), (2, 0x4D), (3, 0x49), (4, 1), (9, 3), (13, 1), (16, 64), (20, 64), (21, 1), (24, 64),
    (0x140, 2), (0x144, 12), (0x148, 4), (0x14A, 0xDF), (0x14C, 3), (0x150, 0xFF), (0x151, 0xFF), (0x158, 1)]
  let listed := List.range 256 ++ (List.range 64).map (0x140 + ·) ++ [0x180, 0x240]
  let flash := listed.map (fun i => (0x800000 + i, BitVec.ofNat 8 (Store.getD 0 bytes i)))
  witMem (fun m => { m with flash := flash }) (wBoot false)

/-- It verifies. -/
theorem wImage_verifies (hr : Config.sm3 (List.replicate 64 0xFF) = Config.rootHash)
    (hs : ∀ d, Config.sm2Verify (2 ^ 512 - 1) d (2 ^ 512 - 1) = true) : verifySlot wImage.mach 0 true = 0 := by
  have hh : headerOk wImage.mach 0 = true := by decide +kernel
  have hf : fwSig wImage.mach 0 = (0, List.replicate 64 0xFF, 2 ^ 512 - 1) := by decide +kernel
  have hc : cfgSig wImage.mach 0 = (0, List.replicate 64 0xFF, 2 ^ 512 - 1) := by decide +kernel
  have hb : beNat (List.replicate 64 0xFF) = 2 ^ 512 - 1 := by decide
  generalize List.replicate 64 (0xFF : Byte) = z at *
  generalize 2 ^ 512 - 1 = k at *
  have h1 : ¬ fwSvn wImage.mach 0 < ones wImage.mach.hw.otp.fwFuse := by decide
  have h2 : ¬ cfgSvn wImage.mach 0 < ones wImage.mach.hw.otp.cfgFuse := by decide
  have h3 : [1, 2, 3, 4].any (custActive wImage.mach.hw) = false := by decide
  have h4 : (cfgPart wImage.mach 0).isNone = false := by decide +kernel
  simp [verifySlot, hh, hf, hc, hb, hr, hs, h1, h2, h3, h4, keyHash]

theorem witness_StartUpCompletes_boot (h : Obligations.StartUpCompletes)
    (hr : Config.sm3 (List.replicate 64 0xFF) = Config.rootHash) (hs : ∀ d, Config.sm2Verify (2 ^ 512 - 1) d (2 ^ 512 - 1) = true) :
    Runs (.startUp [] true true 77) wImage :=
  (((h wImage [] true true 77 2 ⟨0, 0, 1, 1⟩ (fm 0x2801 2 5) []).1 (by decide) (by decide) (by decide)).2 rfl rfl rfl
    (by decide) (wImage_verifies hr hs)).runs

/-- A verification of a message for level 1 with the root key, under the nonce 77. -/
def vNew : DtVerify := ⟨some 77, 1 + (2 ^ 1024 - 1) * 2 ^ 8⟩

theorem witness_UnlockCommandsComplete_pass (h : Obligations.UnlockCommandsComplete)
    (hr : Config.sm3 (List.replicate 64 0xFF) = Config.rootHash) (hs : ∀ d, Config.sm2Verify (2 ^ 512 - 1) d (2 ^ 512 - 1) = true) :
    Runs .unlockVerifyEnd (wTap { DtState.idle with verify := some vNew } 4 0 []) :=
  (((((h (wTap { DtState.idle with verify := some vNew } 4 0 []) 0x5A 77 0 vNew).2).2).1 (by decide)).1
    (by
      have hn : vNew.nonce = some 77 := rfl
      have hk : toBE (2 ^ 512 - 1) 64 = List.replicate 64 0xFF := by decide
      have hb : bits vNew.bits 8 512 = 2 ^ 512 - 1 := by decide
      have hg : bits vNew.bits 520 512 = 2 ^ 512 - 1 := by decide
      have h0 : bits vNew.bits 0 2 = 1 := by decide
      have h2 : bits vNew.bits 2 3 = 0 := by decide
      have hm : (wTap { DtState.idle with verify := some vNew } 4 0 []).mach.hw.maxLevel = 2 := by decide
      generalize List.replicate 64 (0xFF : Byte) = z at *
      generalize 2 ^ 512 - 1 = k at *
      simp [unlockPasses, hn, hk, hb, hg, h0, h2, hm, hr, hs, keyHash])).runs

end Sys2Proof.Tests
end

/-! PROOFS. Obligations O2, O15 and O33: the state after reset, management access to registers and wide pairs, and the answer of a Dome
read at the home. -/
namespace Sys2Proof.Machine

/-! ### The state after reset (R19, R495) -/

/-- The register file after reset lists nothing, so every field reads its reset value. -/
theorem Hw.fget_reset (f : Fld) (i : Nat) : Hw.reset.fget f i = rstOf f i := by
  rw [Hw.fget, Hw.reset, Store.getD, Store.get?_nil, Option.getD_none]

/-- Settles O2: the registers read their reset values by `Hw.fget_reset`; the rest of the state after reset is written out in it. -/
theorem resetState : Obligations.ResetState := by
  unfold Obligations.ResetState
  exact ⟨rfl, Mem.reset_wf, Hw.fget_reset, rfl, rfl, rfl⟩

/-! ### What a register write changes (R16 to R18) -/

/-- A write of a field changes the register file alone. -/
theorem writeField_regs (i w : Nat) (h : Hw) (f : Fld) : ∃ x, writeField i w h f = { h with regs := x } := by
  unfold writeField
  dsimp only
  split
  · split <;> exact ⟨_, rfl⟩
  · split <;> exact ⟨_, rfl⟩
  · exact ⟨_, rfl⟩

/-- A write of a field leaves the fields of every other key. -/
theorem fget_writeField_ne (h : Hw) {f g : Fld} {i j : Nat} (w : Nat) (hk : fkey f i ≠ fkey g j) :
    (writeField i w h f).fget g j = h.fget g j := by
  unfold writeField
  dsimp only
  split
  · split
    · exact Hw.fget_fset_ne h _ hk
    · rfl
  · split
    · exact Hw.fget_fset_ne h _ hk
    · rfl
  · rfl

/-- An RW field takes its part of the word, unless that encoding may not be written (R17). -/
theorem fget_writeField_rw (h : Hw) {f : Fld} (i w : Nat) (hf : f.acc = .rw) :
    (writeField i w h f).fget f i = if fieldOk f i (fldOf f w) then fldOf f w else h.fget f i := by
  simp only [writeField, hf]
  split
  · rw [Hw.fget_fset_same]
    exact Nat.mod_eq_of_lt (bits_lt _ _ _)
  · rfl

theorem fget_foldl_writeField_ne {l : List Fld} {i w : Nat} (h : Hw) {g : Fld} {j : Nat} (hk : ∀ f ∈ l, fkey f i ≠ fkey g j) :
    (l.foldl (writeField i w) h).fget g j = h.fget g j := by
  induction l generalizing h with
  | nil => rfl
  | cons f l ih =>
    rw [List.foldl_cons, ih _ (fun x hx => hk x (List.mem_cons_of_mem _ hx)), fget_writeField_ne h _ (hk f List.mem_cons_self)]

/-- A write of a register changes the register file alone. -/
theorem writeReg_regs (r : Reg) (i w : Nat) (h : Hw) : ∃ x, writeReg r i w h = { h with regs := x } := by
  unfold writeReg
  generalize r.flds = l
  induction l generalizing h with
  | nil => exact ⟨_, rfl⟩
  | cons f l ih =>
    obtain ⟨x, hx⟩ := writeField_regs i (definedBits r i w) h f
    obtain ⟨y, hy⟩ := ih (writeField i (definedBits r i w) h f)
    exact ⟨y, by rw [List.foldl_cons, hy, hx]⟩

@[simp] theorem writeReg_mg (r : Reg) (i w : Nat) (h : Hw) : (writeReg r i w h).mg = h.mg := by
  obtain ⟨x, hx⟩ := writeReg_regs r i w h
  rw [hx]

@[simp] theorem writeReg_out (r : Reg) (i w : Nat) (h : Hw) : (writeReg r i w h).out = h.out := by
  obtain ⟨x, hx⟩ := writeReg_regs r i w h
  rw [hx]

/-- A write of a register leaves every field that is not one of its own. -/
theorem fget_writeReg_ne {r : Reg} {i w : Nat} (h : Hw) {g : Fld} {j : Nat} (hk : ∀ f ∈ r.flds, fkey f i ≠ fkey g j) :
    (writeReg r i w h).fget g j = h.fget g j := fget_foldl_writeField_ne h hk

/-- A write of a register sets each of its RW fields to the field's part of the word, unless that encoding may not be written (R16, R17):
the fields have different numbers, so none undoes another. -/
theorem fget_writeReg_rw {r : Reg} {f : Fld} (i w : Nat) (h : Hw) (hr : f ∈ r.flds) (hids : (r.flds.map Fld.id).Nodup)
    (hf : f.acc = .rw) :
    (writeReg r i w h).fget f i =
      if fieldOk f i (fldOf f (definedBits r i w)) then fldOf f (definedBits r i w) else h.fget f i := by
  unfold writeReg
  generalize definedBits r i w = v
  generalize r.flds = l at hr hids
  induction l generalizing h with
  | nil => cases hr
  | cons a l ih =>
    obtain ⟨ha, hl⟩ := List.nodup_cons.mp hids
    have hkey : ∀ x ∈ l, fkey a i ≠ fkey x i := by
      intro x hx hk
      exact ha (List.mem_map.mpr ⟨x, hx, by simp only [fkey] at hk; omega⟩)
    rw [List.foldl_cons]
    rcases List.mem_cons.mp hr with rfl | hr
    · rw [fget_foldl_writeField_ne _ (fun x hx => (hkey x hx).symm), fget_writeField_rw h i v hf]
    · rw [ih _ hr hl, fget_writeField_ne h v (hkey f hr)]

/-- A field whose one reserved encoding is 0, and which R316 and R459 do not bind, takes every other value (R17). -/
theorem fieldOk_of_zero_reserved {f : Fld} (hresv : f.resv = [(0, 0)])
    (hid : f.id ∉ [F.DD_TTSLEN_VAL.id, F.FC_DCFG_REACT2.id, F.FC_DCFG_REACT3.id, F.FC_DCFG_REACT4.id]) (i v : Nat) :
    fieldOk f i v = !decide (v = 0) := by
  simp only [List.mem_cons, List.not_mem_nil, or_false, not_or] at hid
  obtain ⟨h1, h2, h3, h4⟩ := hid
  simp [fieldOk, hresv, h1, h2, h3, h4]

theorem fget_write_BD_CTRL_ADDTMO (w : Nat) (h : Hw) : (writeReg R.BD_CTRL 0 w h).fget F.BD_CTRL_ADDTMO 0 =
    if bits w 0 16 = 0 then h.fget F.BD_CTRL_ADDTMO 0 else bits w 0 16 := by
  rw [fget_writeReg_rw 0 w h (by decide) (by decide) rfl, fieldOk_of_zero_reserved rfl (by decide)]
  simp [fldOf, F.BD_CTRL_ADDTMO, definedBits, R.BD_CTRL, R.SW_RTDATA_LO, R.BC_WCFG]

theorem fget_write_BD_CTRL_DRNTMO (w : Nat) (h : Hw) : (writeReg R.BD_CTRL 0 w h).fget F.BD_CTRL_DRNTMO 0 =
    if bits w 16 8 = 0 then h.fget F.BD_CTRL_DRNTMO 0 else bits w 16 8 := by
  rw [fget_writeReg_rw 0 w h (by decide) (by decide) rfl, fieldOk_of_zero_reserved rfl (by decide)]
  simp [fldOf, F.BD_CTRL_DRNTMO, definedBits, R.BD_CTRL, R.SW_RTDATA_LO, R.BC_WCFG]

/-- A write of SW_RTDATA_LO stores the word less the bits that R182 reserves. -/
theorem fget_write_SW_RTDATA_LO (w : Nat) (h : Hw) :
    (writeReg R.SW_RTDATA_LO 0 w h).fget F.SW_RTDATA_LO_VAL 0 = (w &&& 0x01FFFFF3) % 2 ^ 32 := by
  have hok : ∀ v, fieldOk F.SW_RTDATA_LO_VAL 0 v = true := fun _ => rfl
  rw [fget_writeReg_rw 0 w h (by decide) (by decide) rfl, hok, if_pos rfl]
  exact congrArg (· % 2 ^ 32) (Nat.div_one _)

theorem fget_write_SW_RTDATA_HI (w : Word) (h : Hw) :
    (writeReg R.SW_RTDATA_HI 0 w.toNat h).fget F.SW_RTDATA_HI_VAL 0 = w.toNat := by
  have hok : ∀ v, fieldOk F.SW_RTDATA_HI_VAL 0 v = true := fun _ => rfl
  rw [fget_writeReg_rw 0 w.toNat h (by decide) (by decide) rfl, hok, if_pos rfl]
  exact (congrArg (· % 2 ^ 32) (Nat.div_one _)).trans (Nat.mod_eq_of_lt w.isLt)

/-! ### What a register reads as (R16, R18) -/

/-- A register with one field, at bit 0, reads as that field. -/
theorem readWord_of_one_field {r : Reg} {f : Fld} (hr : r.flds = [f]) (hlo : f.lo = 0) (i : Nat) (h : Hw) :
    readWord r i h = fldRead h f i := by
  simp [readWord, hr, hlo]

theorem readWord_BD_XCMISS (h : Hw) : readWord R.BD_XCMISS 0 h = h.fget F.BD_XCMISS_VAL 0 % 2 ^ 32 :=
  readWord_of_one_field (f := F.BD_XCMISS_VAL) rfl rfl 0 h

theorem readWord_CK_LTIME_LO (h : Hw) : readWord R.CK_LTIME_LO 0 h = h.ck.ltime % 2 ^ 32 :=
  readWord_of_one_field (f := F.CK_LTIME_LO_VAL) rfl rfl 0 h

theorem readWord_CK_LTIME_HI (h : Hw) : readWord R.CK_LTIME_HI 0 h = h.ck.ltime / 2 ^ 32 % 2 ^ 32 :=
  readWord_of_one_field (f := F.CK_LTIME_HI_VAL) rfl rfl 0 h

/-! ### The register access of an address (R15 to R20) -/

theorem regWrite_BD_CTRL (p : Path) (w : Nat) (m : Mach) : regWrite p R.BD_CTRL.addr w m = m.onHw (writeReg R.BD_CTRL 0 w) := rfl

theorem regRead_BD_XCMISS (h : Hw) :
    regRead R.BD_XCMISS.addr h = (h.fget F.BD_XCMISS_VAL 0 % 2 ^ 32, h.fset F.BD_XCMISS_VAL 0 0) := by
  rw [← readWord_BD_XCMISS]
  rfl

/-- A read of the low half captures the high half (R20). -/
theorem regRead_CK_LTIME_LO (h : Hw) :
    regRead R.CK_LTIME_LO.addr h = (h.ck.ltime % 2 ^ 32,
      { h with mg := { h.mg with shadow := Store.put h.mg.shadow R.CK_LTIME_HI.addr (h.ck.ltime / 2 ^ 32 % 2 ^ 32) } }) := by
  rw [← readWord_CK_LTIME_LO, ← readWord_CK_LTIME_HI]
  rfl

/-- A read of the high half returns its capture and uses it up (R20). -/
theorem regRead_CK_LTIME_HI {h : Hw} {v : Nat} (hv : Store.get? h.mg.shadow R.CK_LTIME_HI.addr = some v) :
    regRead R.CK_LTIME_HI.addr h = (v, { h with mg := { h.mg with shadow := Store.del h.mg.shadow R.CK_LTIME_HI.addr } }) := by
  have hreg : findReg R.CK_LTIME_HI.addr = some (R.CK_LTIME_HI, 0) := rfl
  have hlo : isLo R.CK_LTIME_HI = false := rfl
  have hhi : isHi R.CK_LTIME_HI = true := rfl
  simp only [regRead, hreg, hlo, hhi, hv]
  rfl

/-- A write of the low half is staged (R20). -/
theorem regWrite_SW_RTDATA_LO (p : Path) (w : Nat) (m : Mach) : regWrite p R.SW_RTDATA_LO.addr w m =
    m.onHw (fun h => { h with mg := { h.mg with staged := Store.put h.mg.staged R.SW_RTDATA_LO.addr w } }) := rfl

/-- A write of the high half commits the staged low half with it (R20). -/
theorem regWrite_SW_RTDATA_HI (p : Path) {v : Nat} (w : Nat) {m : Mach}
    (hv : Store.get? m.hw.mg.staged R.SW_RTDATA_LO.addr = some v) :
    regWrite p R.SW_RTDATA_HI.addr w m = m.onHw (fun h => writeReg R.SW_RTDATA_HI 0 w (writeReg R.SW_RTDATA_LO 0 v
      { h with mg := { h.mg with staged := Store.del h.mg.staged R.SW_RTDATA_LO.addr } })) := by
  have hreg : findReg R.SW_RTDATA_HI.addr = some (R.SW_RTDATA_HI, 0) := rfl
  have hlo : isLo R.SW_RTDATA_HI = false := rfl
  have hhi : isHi R.SW_RTDATA_HI = true := rfl
  have hlow : R.SW_RTDATA_HI.addr - 4 = R.SW_RTDATA_LO.addr := rfl
  have hpair : findReg R.SW_RTDATA_LO.addr = some (R.SW_RTDATA_LO, 0) := rfl
  have hwin : R.SW_RTDATA_HI.addr ≠ R.WIN_ADDR_HI.addr := by decide
  simp only [regWrite, hreg, hlo, hhi, Mach.onHw, commitHi, hlow, hpair, hv, hwin]
  rfl

/-! ### A register access that nothing delays (R488, R489, R582, R583) -/

/-- A write of a register disturbs no access in progress. -/
theorem writeReg_mgQuiet (r : Reg) (i w : Nat) {h : Hw} (hq : h.mgQuiet) : (writeReg r i w h).mgQuiet := by
  obtain ⟨x, hx⟩ := writeReg_regs r i w h
  rw [hx]
  exact hq

theorem busyPath_of_quiet {h : Hw} (hq : h.mgQuiet) (p : Path) : busyPath p h = false := by
  obtain ⟨hpend, hbeat, -, hwaiting, hqueue, -⟩ := hq
  simp [busyPath, hpend, hbeat, hwaiting, hqueue]

theorem mgNext_of_quiet {m : Mach} (hq : m.hw.mgQuiet) : mgNext m = none := by
  obtain ⟨-, hbeat, hburst, -, hqueue, hreqs⟩ := hq
  simp [mgNext, hbeat, hburst, hqueue, hreqs]

theorem mgRun_of_quiet {m : Mach} (hq : m.hw.mgQuiet) : mgRun m = m := by
  unfold mgRun
  cases 300 * (m.hw.bc.reqs.length + m.hw.mg.queue.length + 2) with
  | zero => rfl
  | succ n => rw [mgLoop, mgNext_of_quiet hq]

/-- The gate lets an access to a domain that answers through. -/
theorem gateAcc_of_answers (perf : PendAcc → Mach → Mach) {a : PendAcc} {m : Mach} (hd : m.hw.answers a.dom) :
    gateAcc perf a m = perf a m := by
  obtain ⟨hnotice, hdom⟩ := hd
  have hawake : domState m.hw a.dom ≠ 2 := by
    intro h2
    simp [domAnswers, h2] at hdom
  simp [gateAcc, hnotice, hdom, hawake]

/-- A word address of the register blocks that domain `d` answers, other than WIN_DATA's. -/
abbrev RegisterAddr (d addr : Nat) : Prop := addr < 0x1000000 ∧ addr % 4 = 0 ∧ addr ≠ R.WIN_DATA.addr ∧ addrDom addr = d

theorem addrKind_of_registerAddr {d addr : Nat} (ha : RegisterAddr d addr) : addrKind addr = 1 := if_pos ha.1

/-- A 4-byte access to a register of a domain that answers is performed and answered at once. -/
theorem startAcc_register {p : Path} {write : Bool} {d addr data : Nat} {m : Mach} (ha : RegisterAddr d addr)
    (hd : m.hw.answers d) :
    startAcc p .cmd write addr 4 data m =
      (let r := performPlain ⟨p, .cmd, write, addr, 4, data, d, p == .turret, false⟩ m
       r.2.onHw (fun h => h.emit (.mgmt p write r.1.1 (if r.1.1 = 0 ∧ !write then r.1.2 else 0)))) := by
  have hkind := addrKind_of_registerAddr ha
  obtain ⟨-, halign, hwin, rfl⟩ := ha
  have hwake : (addr == R.WIN_DATA.addr) = false := beq_eq_false_iff_ne.mpr hwin
  simp [startAcc, hkind, preStatus, halign, hwake, gateAcc_of_answers, hd, perform, hwin, finish, answer]

/-- On a quiet path an access is its start, when that leaves the management state quiet. -/
theorem access_of_quiet {p : Path} {src : AccSrc} {write : Bool} {addr size data : Nat} {m : Mach} (hq : m.hw.mgQuiet)
    (hq' : (startAcc p src write addr size data m).hw.mgQuiet) :
    access p src write addr size data m = startAcc p src write addr size data m := by
  rw [access, busyPath_of_quiet hq, if_neg Bool.false_ne_true, mgRun_of_quiet hq']

/-- An access to what its path does not reach is none. -/
theorem pathAccess_unreached {p : Path} {write : Bool} {addr : Nat} {m : Mach} (size data : Nat)
    (hr : pathReaches p write addr m.hw = false) : pathAccess p write addr size data m = m := if_neg (by simp [hr])

/-- A write that reaches a register and that nothing delays is the register's write and its answer. -/
theorem pathAccess_write {p : Path} {d addr data : Nat} {m : Mach} (ha : RegisterAddr d addr) (hq : m.hw.mgQuiet)
    (hd : m.hw.answers d) (hr : pathReaches p true addr m.hw = true) (hq' : (regWrite p addr data m).hw.mgQuiet) :
    pathAccess p true addr 4 data m = (regWrite p addr data m).onHw (fun h => h.emit (.mgmt p true 0 0)) := by
  have hs : startAcc p .cmd true addr 4 data m = (regWrite p addr data m).onHw (fun h => h.emit (.mgmt p true 0 0)) := by
    rw [startAcc_register ha hd]
    simp [performPlain, addrKind_of_registerAddr ha]
  rw [pathAccess, if_pos hr, access_of_quiet hq (by rw [hs]; exact hq'), hs]

/-- A read that reaches a register, other than DM_RSTAT, and that nothing delays is the register's read and its answer. -/
theorem pathAccess_read {p : Path} {d addr : Nat} {m : Mach} (ha : RegisterAddr d addr) (hq : m.hw.mgQuiet)
    (hd : m.hw.answers d) (hr : pathReaches p false addr m.hw = true)
    (hrstat : (findReg addr).any (fun x => x.1.addr == R.DM_RSTAT.addr) = false) (hq' : (regRead addr m.hw).2.mgQuiet) :
    pathAccess p false addr 4 0 m = m.onHw (fun h => (regRead addr h).2.emit (.mgmt p false 0 (regRead addr h).1)) := by
  have hs : startAcc p .cmd false addr 4 0 m =
      m.onHw (fun h => (regRead addr h).2.emit (.mgmt p false 0 (regRead addr h).1)) := by
    rw [startAcc_register ha hd]
    simp [performPlain, addrKind_of_registerAddr ha, hrstat, Mach.onHw]
  rw [pathAccess, if_pos hr, access_of_quiet hq (by rw [hs]; exact hq'), hs]

/-! ### The register commands -/

theorem exec_registerWrite (p : Path) (addr size : Nat) (data : Word) (s : State) :
    exec (.registerWrite p addr size data) s = onMach (pathAccess p true addr size data.toNat) s := rfl

theorem exec_loRegisterWrite (p : Path) (addr size : Nat) (data : Word) (s : State) :
    exec (.loRegisterWrite p addr size data) s = onMach (pathAccess p true addr size data.toNat) s := rfl

theorem exec_hiRegisterWrite (p : Path) (addr size : Nat) (data : Word) (s : State) :
    exec (.hiRegisterWrite p addr size data) s = onMach (pathAccess p true addr size data.toNat) s := rfl

theorem exec_rcFieldRead (p : Path) (addr size : Nat) (s : State) :
    exec (.rcFieldRead p addr size) s = onMach (pathAccess p false addr size 0) s := rfl

theorem exec_loRegisterRead (p : Path) (addr size : Nat) (s : State) :
    exec (.loRegisterRead p addr size) s = onMach (pathAccess p false addr size 0) s := rfl

/-- Settles O15: a quiet access to a register of a domain that answers is `regWrite` or `regRead` of its address with one answer
(`pathAccess_write`, `pathAccess_read`), and each register named has its own equation for that. -/
theorem registerAndWidePairAccessesComplete : Obligations.RegisterAndWidePairAccessesComplete := by
  unfold Obligations.RegisterAndWidePairAccessesComplete
  refine ⟨fun s p data => ⟨fun hq hd hr => ?_, fun hq hd hr => ?_, fun addr size => ⟨fun hr i hi => ?_, fun hr i hi => ?_⟩⟩,
    fun s p data v hq => ⟨fun hd hlo hhi => ⟨?_, fun hv => ?_⟩, fun hd hlo hhi => ⟨?_, fun hv => ?_⟩⟩⟩
  case refine_1 =>
    refine completes_onMach (exec_registerWrite _ _ _ _ _) ?_
    rw [pathAccess_write (d := 3) (by decide) hq hd hr (writeReg_mgQuiet _ _ _ hq), regWrite_BD_CTRL]
    refine ⟨fget_write_BD_CTRL_ADDTMO _ _, fget_write_BD_CTRL_DRNTMO _ _, ?_, rfl, fun g j hk => ?_⟩
    · simp
    · exact fget_writeReg_ne _ (by simpa [R.BD_CTRL] using hk)
  case refine_2 =>
    refine completes_onMach (exec_rcFieldRead _ _ _ _) ?_
    rw [pathAccess_read (d := 3) (by decide) hq hd hr rfl (by rw [regRead_BD_XCMISS]; exact hq)]
    simp only [regRead_BD_XCMISS]
    refine ⟨rfl, ?_, rfl, fun g j hk => ?_⟩
    · simp
    · have hne : fkey F.BD_XCMISS_VAL 0 ≠ fkey g j := hk (F.BD_XCMISS_VAL, 0) List.mem_cons_self
      rw [Mach.onHw_hw, Hw.fget_emit, Hw.fget_fset_ne _ _ hne]
  case refine_3 =>
    have hc : exec i s = onMach (pathAccess p true addr size data.toNat) s := by
      fin_cases hi <;> rfl
    exact completes_onMach hc (pathAccess_unreached _ _ hr)
  case refine_4 =>
    have hc : exec i s = onMach (pathAccess p false addr size 0) s := by
      fin_cases hi <;> rfl
    exact completes_onMach hc (pathAccess_unreached _ _ hr)
  case refine_5 =>
    refine completes_onMach (exec_loRegisterRead _ _ _ _) ?_
    rw [pathAccess_read (d := 1) (by decide) hq hd hlo rfl (by rw [regRead_CK_LTIME_LO]; exact hq)]
    simp only [regRead_CK_LTIME_LO]
    exact ⟨rfl, Store.get?_put_same _ _ _, rfl, rfl⟩
  case refine_6 =>
    refine completes_onMach (exec_rcFieldRead _ _ _ _) ?_
    rw [pathAccess_read (d := 1) (by decide) hq hd hhi rfl
      (by rw [regRead_CK_LTIME_HI hv]; exact hq)]
    simp only [Mach.onHw, regRead_CK_LTIME_HI hv]
    exact ⟨rfl, Store.get?_del_same _ _⟩
  case refine_7 =>
    refine completes_onMach (exec_loRegisterWrite _ _ _ _ _) ?_
    rw [pathAccess_write (d := 3) (by decide) hq hd hlo hq, regWrite_SW_RTDATA_LO]
    exact ⟨Store.get?_put_same _ _ _, rfl, rfl, rfl⟩
  case refine_8 =>
    refine completes_onMach (exec_hiRegisterWrite _ _ _ _ _) ?_
    rw [pathAccess_write (d := 3) (by decide) hq hd hhi
      (by rw [regWrite_SW_RTDATA_HI p _ hv]; exact writeReg_mgQuiet _ _ _ (writeReg_mgQuiet _ _ _ hq)), regWrite_SW_RTDATA_HI p _ hv]
    have hne : fkey F.SW_RTDATA_HI_VAL 0 ≠ fkey F.SW_RTDATA_LO_VAL 0 := by decide
    refine ⟨?_, fget_write_SW_RTDATA_HI _ _, ?_, ?_, rfl, fun g j hk => ?_⟩
    · exact (fget_writeReg_ne _ (by simpa [R.SW_RTDATA_HI] using hne)).trans (fget_write_SW_RTDATA_LO _ _)
    · simp [Store.get?_del_same]
    · simp
    · obtain ⟨hklo, hkhi⟩ : fkey F.SW_RTDATA_LO_VAL 0 ≠ fkey g j ∧ fkey F.SW_RTDATA_HI_VAL 0 ≠ fkey g j := by simpa using hk
      exact (fget_writeReg_ne _ (by simpa [R.SW_RTDATA_HI] using hkhi)).trans
        (fget_writeReg_ne _ (by simpa [R.SW_RTDATA_LO] using hklo))

/-! ### A Dome read's answer on a tracked line (R115, R145, R323)

The close of a non-caching read frees the line's directory entry and, where the directory held one, clears the tracked hint that Dome stores
with the line. O33 says that the answer of such a read leaves all that the memories store. It asks that the transaction's copy of the entry be in
state I, and not that the directory hold no entry for the line (`dirEnt (off / 64) = none`), so it also speaks of states like `trackedRead`. -/

/-- A host's read of line 0 that waits for Dome, opened on a line in state I. -/
def trackedReadTxn : HTxn :=
  { HTxn.start { agent := 0, kind := .ncRead, la := 0, msg := some { ing := 0, cls := .memReqD } } .snp
      (DirEnt.fresh 0 0) (DirEnt.fresh 0 0) with reading := true }

/-- That read is the home's only transaction, the directory holds an entry for its line, and the stored line carries the tracked hint. -/
def trackedRead : State :=
  ⟨[], { mem := { Mem.reset with lines := [(0, ⟨true, false⟩)] },
         hw := { Hw.reset with hd := { Hw.reset.hd with txns := [(0, trackedReadTxn)], dir := [(0, DirEnt.fresh 0 0)] } } }⟩

/-- What the stored lines carry beside their data after an outcome. -/
def linesAfter : Out → Option (SMap LineAttr)
  | .next s => some s.mach.mem.lines
  | .fault _ | .refused _ => none

/-- The answer of the Dome read clears the line's hint. -/
theorem linesAfter_trackedRead : linesAfter (exec (.domeReadComplete 0 ⟨0, 0⟩ .good .good false) trackedRead) = some [] := by
  decide

/-- Refutes O33: in `trackedRead` the answer of a CXL.mem read meets every hypothesis of the statement's clause on it, and the memories do
not keep what they stored: the hint of line 0, set before, is clear after (`linesAfter_trackedRead`). -/
theorem not_homeAnswersComplete : ¬ Obligations.HomeAnswersComplete := by
  unfold Obligations.HomeAnswersComplete
  intro h
  obtain ⟨-, -, hread⟩ := (h trackedRead ⟨false, false, false, 0, 0, 0, 0, 0, 0, 0⟩ 0 0 0 0 0 0 0 0 .good trackedReadTxn
    { ing := 0, cls := .memReqD } ⟨0, .memRd, 0, 64, none, 0⟩).1 rfl rfl rfl rfl rfl
  obtain ⟨hmem, -⟩ := hread rfl rfl rfl rfl rfl rfl (by decide) rfl rfl rfl (by decide) (by decide) (by decide) rfl rfl
  obtain ⟨s, hs, -, -, hkept, -⟩ := hmem (.inr rfl)
  have hset : s.mach.mem.lines = [(0, ⟨true, false⟩)] := congrArg Mem.lines hkept
  have hclear : some s.mach.mem.lines = some [] := by
    rw [← linesAfter_trackedRead, hs, linesAfter]
  simp [hset] at hclear

end Sys2Proof.Machine

/-! PROOFS. Obligations O7 to O13, O21 and O28: binding and tenants, the fabric manager's commands, dynamic capacity, pool requests and the
data mover's windows. -/
namespace Sys2Proof.Machine

/-! ### The tenant table (R32, R33) -/

/-- A tenant's entry is read from the binding block alone. -/
theorem Hw.ent_congr {a b : Hw} (h : a.bd.tt = b.bd.tt) (t : Nat) : a.ent t = b.ent t := by
  rw [Hw.ent, Hw.ent, h]

@[simp] theorem Hw.ent_fset (h : Hw) (f : Fld) (i v t : Nat) : (h.fset f i v).ent t = h.ent t := rfl
@[simp] theorem Hw.ent_emit (h : Hw) (e : Emit) (t : Nat) : (h.emit e).ent t = h.ent t := rfl
@[simp] theorem Hw.ent_setDom (h : Hw) (d : Nat) (x : Dom) (t : Nat) : (h.setDom d x).ent t = h.ent t := rfl

@[simp] theorem Hw.ent_setEnt_same (h : Hw) (t e : Nat) : (h.setEnt t e).ent t = e := Store.getD_setD_same _ _ _ _

theorem Hw.ent_setEnt_ne (h : Hw) {t u : Nat} (e : Nat) (hu : u ≠ t) : (h.setEnt t e).ent u = h.ent u :=
  Store.getD_setD_ne _ _ _ _ hu.symm

theorem ttState_setTState (h : Hw) (t v : Nat) : ttState ((h.setTState t v).ent t) = v % 2 ^ 3 := by
  rw [Hw.setTState, Hw.ent_setEnt_same, ttState, bits_putBits_same]

/-! ### The tenant table commands (R73 to R76) -/

@[simp] theorem ent_ttResult (r : Nat) (h : Hw) (t : Nat) : (ttResult r h).ent t = h.ent t := rfl
@[simp] theorem ent_setTtcmd (t op : Nat) (h : Hw) (u : Nat) : (setTtcmd t op h).ent u = h.ent u := rfl
@[simp] theorem fget_ttResult (r : Nat) (h : Hw) : (ttResult r h).fget F.BD_TTSTAT_RESULT 0 = r % 16 :=
  Hw.fget_fset_same _ _ _ _

/-- RESULT stays clear of every other field. -/
theorem fget_ttResult_ne (r : Nat) (h : Hw) {g : Fld} {j : Nat} (hk : fkey F.BD_TTSTAT_RESULT 0 ≠ fkey g j) :
    (ttResult r h).fget g j = h.fget g j := Hw.fget_fset_ne _ _ hk

/-- TID and OP of BD_TTCMD stay clear of every other field. -/
theorem fget_setTtcmd_ne (t op : Nat) (h : Hw) {g : Fld} {j : Nat} (h1 : fkey F.BD_TTCMD_TID 0 ≠ fkey g j)
    (h2 : fkey F.BD_TTCMD_OP 0 ≠ fkey g j) : (setTtcmd t op h).fget g j = h.fget g j := by
  rw [setTtcmd, Hw.fget_fset_ne _ _ h2, Hw.fget_fset_ne _ _ h1]

theorem ttGo_busy (p : Path) (t op : Nat) (f : Mach → Mach) {m : Mach} (hb : m.hw.flag F.BD_TTSTAT_BUSY 0 = true) :
    ttGo p t op f m = m.onHw (ttResult 3) := if_pos hb

theorem ttGo_denied {p : Path} {op : Nat} (t : Nat) (f : Mach → Mach) {m : Mach} (hb : m.hw.flag F.BD_TTSTAT_BUSY 0 = false)
    (hop : op ≠ 1) (hp : p ≠ .turret) : ttGo p t op f m = (m.onHw (setTtcmd t op)).onHw (ttResult 4) := by
  simp [ttGo, hb, hop, hp]

theorem ttGo_runs {p : Path} {op : Nat} (t : Nat) (f : Mach → Mach) {m : Mach} (hb : m.hw.flag F.BD_TTSTAT_BUSY 0 = false)
    (hp : op = 1 ∨ p = .turret) : ttGo p t op f m = f (m.onHw (setTtcmd t op)) := by
  rcases hp with rfl | rfl <;> simp [ttGo, hb]

/-- The fields that GO of BD_TTCMD writes. -/
abbrev ttcmdKeys : List (Fld × Nat) := [(F.BD_TTCMD_TID, 0), (F.BD_TTCMD_OP, 0), (F.BD_TTSTAT_RESULT, 0)]

theorem OnlyFields.setTtcmd {ks : List (Fld × Nat)} {a b : Mach} (h : OnlyFields ks a b) (hks : ttcmdKeys ⊆ ks) (t op : Nat) :
    OnlyFields ks a (b.onHw (setTtcmd t op)) :=
  (h.fset (hks (by decide)) t).fset (hks (by decide)) op

theorem OnlyFields.ttResult {ks : List (Fld × Nat)} {a b : Mach} (h : OnlyFields ks a b) (hks : (F.BD_TTSTAT_RESULT, 0) ∈ ks)
    (r : Nat) : OnlyFields ks a (b.onHw (ttResult r)) := h.fset hks r

theorem OnlyFields.stageEnt {ks : List (Fld × Nat)} {a b : Mach} (h : OnlyFields ks a b)
    (hks : [(F.BD_TTDATA0_VAL, 0), (F.BD_TTDATA1_VAL, 0), (F.BD_TTDATA2_VAL, 0), (F.BD_TTDATA3_VAL, 0)] ⊆ ks) (e : Nat) :
    OnlyFields ks a (b.onHw (stageEnt e)) :=
  (((h.fset (hks (by decide)) e).fset (hks (by decide)) (e / 2 ^ 32)).fset (hks (by decide)) (e / 2 ^ 64)).fset
    (hks (by decide)) (e / 2 ^ 96)

/-- The staged entry stands in the four data registers. -/
theorem fget_stageEnt (e : Nat) (h : Hw) :
    (stageEnt e h).fget F.BD_TTDATA0_VAL 0 = bits e 0 32 ∧ (stageEnt e h).fget F.BD_TTDATA1_VAL 0 = bits e 32 32 ∧
    (stageEnt e h).fget F.BD_TTDATA2_VAL 0 = bits e 64 32 ∧ (stageEnt e h).fget F.BD_TTDATA3_VAL 0 = bits e 96 32 := by
  simp (disch := decide) [stageEnt, Hw.fget_fset_ne, bits, F.BD_TTDATA0_VAL, F.BD_TTDATA1_VAL, F.BD_TTDATA2_VAL, F.BD_TTDATA3_VAL]

end Sys2Proof.Machine

namespace Sys2Proof.Machine

/-! ### What an access to Dome leaves of the binding block -/

/-- The binding block is the same but for what Dome's store holds of it: the allocation records, and the heads and entries of the reverse
map. -/
def BdKept (a b : Mach) : Prop :=
  ∃ al hd rv, b.hw.bd = { a.hw.bd with alloc := al, heads := hd, rev := rv }

theorem BdKept.of_eq {a b : Mach} (h : b.hw.bd = a.hw.bd) : BdKept a b := ⟨_, _, _, h⟩

theorem BdKept.refl (a : Mach) : BdKept a a := .of_eq rfl

theorem BdKept.trans {a b c : Mach} (h1 : BdKept a b) (h2 : BdKept b c) : BdKept a c := by
  obtain ⟨_, _, _, h1⟩ := h1
  obtain ⟨_, _, _, h2⟩ := h2
  exact ⟨_, _, _, h2.trans (by rw [h1])⟩

theorem BdKept.ent {a b : Mach} (h : BdKept a b) (t : Nat) : b.hw.ent t = a.hw.ent t := by
  obtain ⟨_, _, _, h⟩ := h
  exact Hw.ent_congr (by rw [h]) t

theorem BdKept.seqs {a b : Mach} (h : BdKept a b) : b.hw.bd.seqs = a.hw.bd.seqs := by
  obtain ⟨_, _, _, h⟩ := h
  rw [h]

theorem BdKept.xc {a b : Mach} (h : BdKept a b) : b.hw.bd.xc = a.hw.bd.xc := by
  obtain ⟨_, _, _, h⟩ := h
  rw [h]

theorem BdKept.policies {a b : Mach} (h : BdKept a b) : b.hw.bd.policies = a.hw.bd.policies := by
  obtain ⟨_, _, _, h⟩ := h
  rw [h]

theorem BdKept.foldl {α : Type} (f : Mach → α → Mach) (hf : ∀ m x, BdKept m (f m x)) (l : List α) (m : Mach) :
    BdKept m (l.foldl f m) := by
  induction l generalizing m with
  | nil => exact .refl m
  | cons x l ih => exact (hf m x).trans (ih _)

theorem BdKept.foldlHw {α : Type} (f : Hw → α → Hw) (hf : ∀ m x, BdKept m (m.onHw (fun h => f h x))) (l : List α) (m : Mach) :
    BdKept m (m.onHw (fun h => l.foldl f h)) := by
  induction l generalizing m with
  | nil => exact .refl m
  | cons x l ih => exact (hf m x).trans (ih _)

theorem BdKept.iterN (f : Nat → Mach → Mach) (hf : ∀ i m, BdKept m (f i m)) (i n : Nat) (m : Mach) :
    BdKept m (iterN f i n m) := by
  induction n generalizing i m with
  | zero => exact .refl m
  | succ n ih => exact (hf i m).trans (ih _ _)

@[simp] theorem Hw.bd_raise (h : Hw) (f : FaultSrc) : (h.raise f).bd = h.bd := by
  obtain ⟨_, _, hr, -⟩ := Hw.raise_frame h f
  rw [hr]

@[simp] theorem Hw.bd_chFail (h : Hw) (c reason : Nat) : (h.chFail c reason).bd = h.bd := by
  unfold Hw.chFail
  dsimp only
  split
  · rw [Hw.bd_raise]
    split <;> rfl
  · rfl

@[simp] theorem Hw.bd_cmdEnd (h : Hw) (c : Nat) (e : LineErr) : (h.cmdEnd c e).bd = h.bd := by
  cases e <;> simp [Hw.cmdEnd]

@[simp] theorem Hw.bd_countUe (h : Hw) (c a atype master : Nat) : (h.countUe c a atype master).bd = h.bd := by
  unfold Hw.countUe
  dsimp only
  split <;> simp

@[simp] theorem Hw.bd_countCe (h : Hw) (c a atype master : Nat) : (h.countCe c a atype master).bd = h.bd := by
  simp [Hw.countCe]

@[simp] theorem Hw.bd_loseWrite (h : Hw) (w : Option (Nat × Nat)) : (h.loseWrite w).bd = h.bd := by
  unfold Hw.loseWrite
  split
  · rfl
  · split <;> rfl

@[simp] theorem bd_setAttr (m : Mach) (c a : Nat) (v : LineAttr) : (m.setAttr c a v).hw.bd = m.hw.bd := rfl

/-- The read of one copy of a line changes nothing in the binding block. -/
theorem bd_readPhys (c a master : Nat) (err : LineErr) (wr scrub : Bool) (m : Mach) :
    (readPhys c a master err wr scrub m).2.hw.bd = m.hw.bd := by
  unfold readPhys
  dsimp only
  split
  · rfl
  · split
    · simp
    · split
      · rfl
      · split <;> rfl
      · dsimp only [Mach.onHw]
        split <;> simp
      · simp

theorem bdKept_setStoreVal (k v : Nat) (m : Mach) : BdKept m (m.onHw (fun h => h.setStoreVal k v)) := by
  unfold Mach.onHw Hw.setStoreVal
  dsimp only
  split <;> exact ⟨_, _, _, rfl⟩

theorem bdKept_setLine (m : Mach) (o v : Nat) : BdKept m (m.setLine o v) := by
  unfold Mach.setLine
  split
  · exact .foldlHw _ (fun m i => bdKept_setStoreVal _ _ m) _ _
  · exact BdKept.trans (.foldlHw _ (fun m x => ⟨_, _, _, rfl⟩) (m.hw.revIn o) m) (.of_eq rfl)

theorem bdKept_misread (m : Mach) (o : Nat) (err : LineErr) : BdKept m (m.misread o err) := by
  unfold Mach.misread
  dsimp only
  split
  · exact BdKept.trans (b := { m with hw := m.hw.takeFree.2 }) (.of_eq rfl) (bdKept_setLine _ _ _)
  · exact .refl m

theorem bdKept_readAt (p : Phys) (o master : Nat) (dec mdec : LineErr) (wr : Bool) (m : Mach) :
    BdKept m (readAt p o master dec mdec wr m).2 := by
  have h0 : BdKept m (readPhys p.prim p.addr master dec wr false m).2 := .of_eq (bd_readPhys _ _ _ _ _ _ _)
  unfold readAt
  dsimp only
  generalize readPhys p.prim p.addr master dec wr false m = r0 at h0
  have h1 : BdKept m (if r0.1 = true then r0 else (false, r0.2.misread o dec)).2 := by
    split
    · exact h0
    · exact h0.trans (bdKept_misread _ _ _)
  generalize (if r0.1 = true then r0 else (false, r0.2.misread o dec)) = r at h1
  cases p.mirror with
  | none => exact h1
  | some c2 =>
    have h2 : BdKept m (readPhys c2 p.addr master mdec wr false r.2).2 := h1.trans (.of_eq (bd_readPhys _ _ _ _ _ _ _))
    dsimp only
    generalize readPhys c2 p.addr master mdec wr false r.2 = r2 at h2
    split
    · split
      · exact h2.trans (.of_eq (by simp))
      · dsimp only
        split
        · exact h2
        · exact h2.trans (.of_eq rfl)
    · exact h1

theorem bdKept_readDome (o master : Nat) (dec mdec : LineErr) (wr : Bool) (m : Mach) :
    BdKept m (readDome o master dec mdec wr m).2 := bdKept_readAt _ _ _ _ _ _ _

theorem bd_writeCopy (c a : Nat) (v : LineAttr) (m : Mach) : (writeCopy c a v m).2.hw.bd = m.hw.bd := by
  unfold writeCopy
  split <;> rfl

theorem bdKept_writeAt (p : Phys) (o data : Nat) (hint pois : Bool) (m : Mach) :
    BdKept m (writeAt p o data hint pois m).2 := by
  have h1 : BdKept m (writeCopy p.prim p.addr ⟨hint, pois⟩ m).2 := .of_eq (bd_writeCopy _ _ _ _)
  unfold writeAt
  dsimp only
  generalize writeCopy p.prim p.addr ⟨hint, pois⟩ m = r at h1
  cases p.mirror with
  | none =>
    dsimp only
    split
    · exact h1.trans (bdKept_setLine _ _ _)
    · exact h1
  | some c2 =>
    have h2 : BdKept m (writeCopy c2 p.addr ⟨hint, pois⟩ r.2).2 := h1.trans (.of_eq (bd_writeCopy _ _ _ _))
    dsimp only
    split
    · exact h2.trans (bdKept_setLine _ _ _)
    · exact h2

theorem bdKept_writeDome (o data : Nat) (hint pois : Bool) (m : Mach) : BdKept m (writeDome o data hint pois m).2 :=
  bdKept_writeAt _ _ _ _ _ _

theorem bdKept_putLine (m : Mach) (o data : Nat) : BdKept m (m.putLine o data) := bdKept_writeAt _ _ _ _ _ _

theorem bdKept_partialWrite (off data en master : Nat) (w : Option (Nat × Nat)) (err : CopyErrs) (m : Mach) :
    BdKept m (partialWrite off data en master w err m).2 := by
  cases hb : allBytes en with
  | true =>
    rw [partialWrite_full hb]
    have h1 := bdKept_writeDome off data (m.hw.hintOf off) false m
    generalize writeDome off data (m.hw.hintOf off) false m = r at h1 ⊢
    dsimp only
    split
    · exact h1
    · exact h1.trans (.of_eq (Hw.bd_loseWrite _ _))
  | false =>
    cases hf : (domeMap m.hw off).mirror.isNone && m.hw.chFailed (domeMap m.hw off).prim with
    | true =>
      rw [partialWrite_failed hb hf]
      exact .of_eq (by rw [Mach.onHw_hw, Hw.bd_loseWrite, Hw.fadd_bd])
    | false =>
      rw [partialWrite_merge hb hf]
      have h1 := bdKept_readDome off master err.prim err.mirror false m
      revert h1
      generalize readDome off master err.prim err.mirror false m = r
      obtain ⟨b, m2⟩ := r
      intro h1
      cases b
      · exact h1.trans (bdKept_writeDome _ _ _ _ _)
      · exact h1.trans (.of_eq (Hw.bd_loseWrite _ _))

theorem bdKept_poke (m : Mach) (o v n master : Nat) : BdKept m (m.poke o v n master) := bdKept_partialWrite _ _ _ _ _ _ _

/-- R47 step 2 changes no entry of the tenant table. -/
theorem bdKept_bindClear (e : Nat) (m : Mach) : BdKept m (bindClear e m) := by
  unfold bindClear
  split
  · exact .iterN _ (fun i m => bdKept_putLine m _ _) _ _ _
  · exact .refl m

end Sys2Proof.Machine

namespace Sys2Proof.Machine

/-! ### The bind sequence (R47) -/

/-- The entry that a bind of `e` leaves: BOUND, in generation `g`. -/
def boundEnt (e g : Nat) : Nat := putBits (putBits e 0 3 2) 32 4 g

@[simp] theorem ttState_boundEnt (e g : Nat) : ttState (boundEnt e g) = 2 := by
  rw [ttState, boundEnt, bits_putBits_below _ _ _ _ (by omega), bits_putBits_same]
  rfl

@[simp] theorem ttGen_boundEnt (e g : Nat) : ttGen (boundEnt e g) = g % 16 := bits_putBits_same _ _ _ _

/-- A bind keeps every field but STATE and TGEN. -/
theorem bits_boundEnt (e g : Nat) {lo w : Nat} (h : 3 ≤ lo ∧ lo + w ≤ 32 ∨ 36 ≤ lo) :
    bits (boundEnt e g) lo w = bits e lo w := by
  rcases h with ⟨h1, h2⟩ | h1
  · rw [boundEnt, bits_putBits_below _ _ _ _ h2, bits_putBits_above _ _ _ _ h1]
  · rw [boundEnt, bits_putBits_above _ _ _ _ h1, bits_putBits_above _ _ _ _ (by omega)]

@[simp] theorem ttKind_boundEnt (e g : Nat) : ttKind (boundEnt e g) = ttKind e := bits_boundEnt e g (by omega)
@[simp] theorem ttPort_boundEnt (e g : Nat) : ttPort (boundEnt e g) = ttPort e := bits_boundEnt e g (by omega)
@[simp] theorem ttVppb_boundEnt (e g : Nat) : ttVppb (boundEnt e g) = ttVppb e := bits_boundEnt e g (by omega)
@[simp] theorem ttDs_boundEnt (e g : Nat) : ttDs (boundEnt e g) = ttDs e := bits_boundEnt e g (by omega)
@[simp] theorem ttRgbase_boundEnt (e g : Nat) : ttRgbase (boundEnt e g) = ttRgbase e := bits_boundEnt e g (by omega)

@[simp] theorem Hw.ent_uncacheAll (h : Hw) (t u : Nat) : (h.uncacheAll t).ent u = h.ent u := rfl
@[simp] theorem Hw.policies_uncacheAll (h : Hw) (t : Nat) : (h.uncacheAll t).bd.policies = h.bd.policies := rfl
@[simp] theorem Hw.policies_setEnt (h : Hw) (t e : Nat) : (h.setEnt t e).bd.policies = h.bd.policies := rfl

@[simp] theorem Hw.out_setEnt (h : Hw) (t e : Nat) : (h.setEnt t e).out = h.out := rfl

theorem bindRoutes_frame (t e : Nat) (h : Hw) : (bindRoutes t e h).bd = h.bd ∧ (bindRoutes t e h).out = h.out := by
  unfold bindRoutes
  split <;> exact ⟨rfl, rfl⟩

/-- A bind's end keeps of the machine `g` that holds its entry the binding block, less cached translations, and tells the host of the vPPB. -/
theorem bindEnd_stages (t e : Nat) (x : Emit) (g : Hw) :
    let r := ((paceClear t (bindRoutes t e (g.uncacheAll t))).setDom (didxOf domTenant t) Dom.ok).emit x
    r.bd = (g.uncacheAll t).bd ∧ r.out = x :: g.out ∧ r.dom (didxOf domTenant t) = Dom.ok := by
  have hr := bindRoutes_frame t e (g.uncacheAll t)
  generalize bindRoutes t e (g.uncacheAll t) = r at hr ⊢
  obtain ⟨hbd, hout⟩ := hr
  exact ⟨hbd, congrArg (x :: ·) hout, Hw.dom_setDom_same _ _ _⟩

/-- What the end of a bind leaves of the binding block, the outputs and the tenant's fault domain. -/
theorem bindEnd_effect (t e : Nat) (h : Hw) :
    (bindEnd t e h).bd = ((h.setEnt t (boundEnt e (ttGen (h.ent t) + 1))).uncacheAll t).bd ∧
    (bindEnd t e h).out = .vppb (ttPort e) (ttVppb e) true :: h.out ∧ (bindEnd t e h).dom (didxOf domTenant t) = Dom.ok := by
  rw [← Hw.out_setEnt h t (boundEnt e (ttGen (h.ent t) + 1))]
  exact bindEnd_stages t e (.vppb (ttPort e) (ttVppb e) true) (h.setEnt t (boundEnt e (ttGen (h.ent t) + 1)))

theorem ent_bindEnd (t e : Nat) (h : Hw) (u : Nat) :
    (bindEnd t e h).ent u = if u = t then boundEnt e (ttGen (h.ent t) + 1) else h.ent u := by
  rw [Hw.ent_congr (congrArg BdState.tt (bindEnd_effect t e h).1) u, Hw.ent_uncacheAll]
  split
  · next hu => rw [hu, Hw.ent_setEnt_same]
  · next hu => rw [Hw.ent_setEnt_ne _ _ hu]

/-- A bind of `e` to `t` changes no entry but that of `t`, which is BOUND in its next generation. -/
theorem ent_doBind (t e : Nat) (m : Mach) (u : Nat) :
    (doBind t e m).hw.ent u = if u = t then boundEnt e (ttGen (m.hw.ent t) + 1) else m.hw.ent u := by
  have hclear := bdKept_bindClear e (m.onHw (bindBegin t e))
  have hgen : ttGen ((bindClear e (m.onHw (bindBegin t e))).hw.ent t) = ttGen (m.hw.ent t) := by
    rw [hclear.ent, Mach.onHw_hw, bindBegin, Hw.ent_setEnt_same, ttGen, bits_putBits_same]
    exact Nat.mod_eq_of_lt (bits_lt _ _ _)
  rw [doBind, Mach.onHw_hw, ent_bindEnd, hgen]
  split
  · rfl
  · next hu => rw [hclear.ent, Mach.onHw_hw, bindBegin, Hw.ent_setEnt_ne _ _ hu]

theorem policies_doBind (t e : Nat) (m : Mach) : (doBind t e m).hw.bd.policies = m.hw.bd.policies := by
  rw [doBind, Mach.onHw_hw, (bindEnd_effect _ _ _).1, Hw.policies_uncacheAll, Hw.policies_setEnt,
    (bdKept_bindClear e (m.onHw (bindBegin t e))).policies, Mach.onHw_hw, bindBegin, Hw.policies_setEnt]

theorem dom_doBind (t e : Nat) (m : Mach) : (doBind t e m).hw.dom (didxOf domTenant t) = Dom.ok := (bindEnd_effect _ _ _).2.2

/-- The fields that the checks of BIND read. -/
abbrev bindFields : List Fld :=
  [F.DD_TTSFIRST_VAL, F.DD_DOMEEXT_VAL, F.FP_PCFG_ROLE, F.FP_LSTAT_UP, F.FP_LSTAT_MODE, F.DD_STAT_READY]

theorem tableFits_congr {a b : Hw} (htt : a.bd.tt = b.bd.tt) (hfirst : a.storeFirst = b.storeFirst)
    (hext : a.domeExt = b.domeExt) (t at' n : Nat) : tableFits a t at' n = tableFits b t at' n := by
  unfold tableFits otherTables
  rw [htt, hfirst, hext]

theorem bindRole_congr {a b : Hw} (hfp : a.fp = b.fp) (e : Nat)
    (hrole : ∀ i, i < 128 → a.fget F.FP_PCFG_ROLE i = b.fget F.FP_PCFG_ROLE i) : bindRole a e = bindRole b e := by
  have hwidth : ∀ n, a.portWidth n = b.portWidth n := fun n => by rw [Hw.portWidth, Hw.portWidth, hfp]
  unfold bindRole
  simp only [hwidth, hrole _ (show ttPort e < 128 from bits_lt _ _ _), hrole _ (show ttDs e < 128 from bits_lt _ _ _)]

/-- The checks of BIND read the tenant table, the ports' layout and these fields alone. -/
theorem bindCheck_congr {a b : Hw} (htt : a.bd.tt = b.bd.tt) (hfp : a.fp = b.fp)
    (hreg : ∀ f ∈ bindFields, ∀ i, i < 128 → a.fget f i = b.fget f i) (t e : Nat) : bindCheck a t e = bindCheck b t e := by
  simp only [bindFields, List.forall_mem_cons] at hreg
  obtain ⟨hfirst, hext, hrole, hup, hmode, hready, -⟩ := hreg
  have hport : ttPort e < 128 := bits_lt _ _ _
  have hent : a.ent t = b.ent t := Hw.ent_congr htt t
  have hfits := tableFits_congr htt (hfirst 0 (by decide)) (hext 0 (by decide)) t (ttEtbase e * 4096) (ttEtlen e)
  unfold bindCheck bindRanges bindTaken Hw.flag
  rw [hent, hfits, bindRole_congr hfp e hrole, htt, hup _ hport, hmode _ hport, hready 0 (by decide)]

/-- Fields clear of those that the checks of BIND read. -/
theorem OnlyFields.bindCheck {ks : List (Fld × Nat)} {a b : Mach} (h : OnlyFields ks a b)
    (hks : ∀ k ∈ ks, k.2 < 65536 ∧ ∀ f ∈ bindFields, k.1.id ≠ f.id) (t e : Nat) :
    bindCheck b.hw t e = bindCheck a.hw t e := by
  obtain ⟨⟨r, hb⟩, hkept⟩ := h
  refine bindCheck_congr (by rw [hb]) (by rw [hb]) (fun f hf i hi => hkept f i (fun k hk => ?_)) t e
  obtain ⟨hk1, hk2⟩ := hks k hk
  exact fkey_ne (hk2 f hf) hk1 (Nat.lt_trans hi (by decide))

/-! ### O7 -/

theorem stagedEnt_setTtcmd (t op : Nat) (h : Hw) : stagedEnt (setTtcmd t op h) = stagedEnt h := by
  simp (disch := decide) only [stagedEnt, fget_setTtcmd_ne]

/-- WRITE takes HOSTPRIV, RGBASE and RGCNT of the staged entry (R73). -/
def writtenEnt (old e : Nat) : Nat := putBits (putBits (putBits old 3 1 (bits e 3 1)) 96 16 (ttRgbase e)) 112 7 (ttRgcnt e)

theorem writtenEnt_fields (old e : Nat) :
    bits (writtenEnt old e) 3 1 = bits e 3 1 ∧ ttRgbase (writtenEnt old e) = ttRgbase e ∧
    ttRgcnt (writtenEnt old e) = ttRgcnt e ∧ bits (writtenEnt old e) 0 3 = bits old 0 3 ∧
    bits (writtenEnt old e) 4 92 = bits old 4 92 := by
  have cut : ∀ n lo w, bits n lo w % 2 ^ w = bits n lo w := fun n lo w => Nat.mod_eq_of_lt (bits_lt n lo w)
  simp (disch := omega) only [writtenEnt, ttRgbase, ttRgcnt, bits_putBits_below, bits_putBits_above, bits_putBits_same, cut, and_self]

theorem ttWrite_ok {h : Hw} {t : Nat} (hc : writeCheck h t (stagedEnt h) = none) :
    ttWrite t h = ttResult 0 (h.setEnt t (writtenEnt (h.ent t) (stagedEnt h))) := by
  rw [ttWrite]
  simp only [hc]
  rfl

theorem ttBind_ok {m : Mach} {t : Nat} (hd : m.hw.contained 0 = false) (hc : bindCheck m.hw t (stagedEnt m.hw) = none) :
    ttBind t m = (doBind t (stagedEnt m.hw) m).onHw (ttResult 0) := by
  simp [ttBind, hd, hc]

/-- A command of BD_TTCMD is its GO, with its number and effect. -/
theorem exec_ttcmd (p : Path) (tid : Nat) (s : State) :
    exec (.bdTtcmdNop p tid) s = onMach (ttGo p (tid % 8192) 0 (fun m => m.onHw (ttResult 0))) s ∧
    exec (.bdTtcmdRead p tid) s =
      onMach (ttGo p (tid % 8192) 1 (fun m => m.onHw (fun h => ttResult 0 (stageEnt (h.ent (tid % 8192)) h)))) s ∧
    exec (.bdTtcmdWrite p tid) s = onMach (ttGo p (tid % 8192) 2 (fun m => m.onHw (ttWrite (tid % 8192)))) s ∧
    exec (.bdTtcmdBind p tid) s = onMach (ttGo p (tid % 8192) 3 (ttBind (tid % 8192))) s ∧
    exec (.bdTtcmdReset p tid) s = onMach (ttGo p (tid % 8192) 4 (fun m => m.onHw (ttAsk askReset (tid % 8192)))) s ∧
    exec (.bdTtcmdUnbind p tid) s = onMach (ttGo p (tid % 8192) 5 (fun m => m.onHw (ttUnbind (tid % 8192)))) s :=
  ⟨rfl, rfl, rfl, rfl, rfl, rfl⟩

/-- NOP: only the command and its result change. -/
theorem ttcmdNop_completes {s : State} {tid : Nat} (ht : tid < 8192) (hb : s.mach.hw.flag F.BD_TTSTAT_BUSY 0 = false) :
    Completes (.bdTtcmdNop .turret tid) s (fun m =>
      m.hw.fget F.BD_TTSTAT_RESULT 0 = 0 ∧ m.hw.fget F.BD_TTCMD_TID 0 = tid ∧ m.hw.fget F.BD_TTCMD_OP 0 = 0 ∧
      OnlyFields ttcmdKeys s.mach m) := by
  refine completes_onMach (exec_ttcmd _ _ _).1 ?_
  rw [ttGo_runs _ _ hb (.inr rfl), Nat.mod_eq_of_lt ht]
  refine ⟨fget_ttResult _ _, ?_, ?_, ((OnlyFields.refl _ _).setTtcmd (List.Subset.refl _) _ _).ttResult (by decide) _⟩
  · simp (disch := decide) [fget_ttResult_ne, setTtcmd, Hw.fget_fset_ne]
    exact Nat.mod_eq_of_lt ht
  · simp (disch := decide) [fget_ttResult_ne, setTtcmd]

/-- READ copies the entry into the data registers. -/
theorem ttcmdRead_completes {s : State} (p : Path) {tid : Nat} (ht : tid < 8192) (hb : s.mach.hw.flag F.BD_TTSTAT_BUSY 0 = false) :
    Completes (.bdTtcmdRead p tid) s (fun m =>
      m.hw.fget F.BD_TTDATA0_VAL 0 = bits (s.mach.hw.ent tid) 0 32 ∧
      m.hw.fget F.BD_TTDATA1_VAL 0 = bits (s.mach.hw.ent tid) 32 32 ∧
      m.hw.fget F.BD_TTDATA2_VAL 0 = bits (s.mach.hw.ent tid) 64 32 ∧
      m.hw.fget F.BD_TTDATA3_VAL 0 = bits (s.mach.hw.ent tid) 96 32 ∧ m.hw.fget F.BD_TTSTAT_RESULT 0 = 0 ∧
      OnlyFields [(F.BD_TTCMD_TID, 0), (F.BD_TTCMD_OP, 0), (F.BD_TTSTAT_RESULT, 0), (F.BD_TTDATA0_VAL, 0),
        (F.BD_TTDATA1_VAL, 0), (F.BD_TTDATA2_VAL, 0), (F.BD_TTDATA3_VAL, 0)] s.mach m) := by
  refine completes_onMach (exec_ttcmd _ _ _).2.1 ?_
  rw [ttGo_runs _ _ hb (.inl rfl), Nat.mod_eq_of_lt ht]
  obtain ⟨h0, h1, h2, h3⟩ := fget_stageEnt (s.mach.hw.ent tid) (setTtcmd tid 1 s.mach.hw)
  refine ⟨?_, ?_, ?_, ?_, fget_ttResult _ _,
    (((OnlyFields.refl _ _).setTtcmd (by decide) tid 1).stageEnt (by decide) (s.mach.hw.ent tid)).ttResult (by decide) 0⟩
  · exact (fget_ttResult_ne _ _ (by decide)).trans h0
  · exact (fget_ttResult_ne _ _ (by decide)).trans h1
  · exact (fget_ttResult_ne _ _ (by decide)).trans h2
  · exact (fget_ttResult_ne _ _ (by decide)).trans h3

/-- WRITE changes these fields of the entry and nothing else of the table. -/
theorem ttcmdWrite_completes {s : State} {tid : Nat} (ht : tid < 8192) (hb : s.mach.hw.flag F.BD_TTSTAT_BUSY 0 = false)
    (hc : writeCheck s.mach.hw tid (stagedEnt s.mach.hw) = none) :
    Completes (.bdTtcmdWrite .turret tid) s (fun m =>
      m.hw.ent tid = writtenEnt (s.mach.hw.ent tid) (stagedEnt s.mach.hw) ∧ (∀ u, u ≠ tid → m.hw.ent u = s.mach.hw.ent u) ∧
      m.hw.fget F.BD_TTSTAT_RESULT 0 = 0 ∧ m.mem = s.mach.mem) := by
  refine completes_onMach (exec_ttcmd _ _ _).2.2.1 ?_
  have hc' : writeCheck (setTtcmd tid 2 s.mach.hw) tid (stagedEnt (setTtcmd tid 2 s.mach.hw)) = none := by
    rw [stagedEnt_setTtcmd]
    exact hc
  rw [ttGo_runs _ _ hb (.inr rfl), Nat.mod_eq_of_lt ht, Mach.onHw_hw, Mach.onHw_hw, ttWrite_ok hc', stagedEnt_setTtcmd]
  refine ⟨Hw.ent_setEnt_same _ _ _, fun u hu => Hw.ent_setEnt_ne _ _ hu, fget_ttResult _ _, rfl⟩

theorem ttcmdBind_completes {s : State} {tid : Nat} (ht : tid < 8192) (hb : s.mach.hw.flag F.BD_TTSTAT_BUSY 0 = false)
    (hd : s.mach.hw.contained 0 = false) (hc : bindCheck s.mach.hw tid (stagedEnt s.mach.hw) = none) :
    Completes (.bdTtcmdBind .turret tid) s (fun m =>
      m.hw.ent tid = boundEnt (stagedEnt s.mach.hw) (ttGen (s.mach.hw.ent tid) + 1) ∧
      (∀ u, u ≠ tid → m.hw.ent u = s.mach.hw.ent u) ∧ m.hw.dom (didxOf domTenant tid) = Dom.ok ∧
      m.hw.fget F.BD_TTSTAT_RESULT 0 = 0) := by
  refine completes_onMach (exec_ttcmd _ _ _).2.2.2.1 ?_
  have hchk := ((OnlyFields.refl ttcmdKeys s.mach).setTtcmd (List.Subset.refl _) tid 3).bindCheck (by decide)
  have hc' : bindCheck (s.mach.onHw (setTtcmd tid 3)).hw tid (stagedEnt (s.mach.onHw (setTtcmd tid 3)).hw) = none := by
    rw [hchk, Mach.onHw_hw, stagedEnt_setTtcmd, hc]
  rw [ttGo_runs _ _ hb (.inr rfl), Nat.mod_eq_of_lt ht, ttBind_ok (m := s.mach.onHw (setTtcmd tid 3)) hd hc', Mach.onHw_hw, Mach.onHw_hw, stagedEnt_setTtcmd]
  refine ⟨?_, fun u hu => ?_, ?_, fget_ttResult _ _⟩
  · rw [ent_ttResult, ent_doBind, if_pos rfl]
    rfl
  · rw [ent_ttResult, ent_doBind, if_neg hu]
    rfl
  · exact dom_doBind _ _ _

/-- Every command of BD_TTCMD is a GO with its own number, and only READ has number 1. -/
theorem exec_mem_ttcmds {p : Path} {tid : Nat} {c : Instr} (hc : c ∈ ([.bdTtcmdNop p tid, .bdTtcmdRead p tid, .bdTtcmdWrite p tid,
      .bdTtcmdBind p tid, .bdTtcmdReset p tid, .bdTtcmdUnbind p tid] : List Instr)) (s : State) :
    ∃ t op f, exec c s = onMach (ttGo p t op f) s ∧ (c ≠ .bdTtcmdRead p tid → op ≠ 1) := by
  simp only [List.mem_cons, List.not_mem_nil, or_false] at hc
  obtain ⟨hnop, hread, hwrite, hbind, hreset, hunbind⟩ := exec_ttcmd p tid s
  rcases hc with rfl | rfl | rfl | rfl | rfl | rfl
  · exact ⟨_, _, _, hnop, fun _ => by decide⟩
  · exact ⟨_, _, _, hread, fun h => absurd rfl h⟩
  · exact ⟨_, _, _, hwrite, fun _ => by decide⟩
  · exact ⟨_, _, _, hbind, fun _ => by decide⟩
  · exact ⟨_, _, _, hreset, fun _ => by decide⟩
  · exact ⟨_, _, _, hunbind, fun _ => by decide⟩

/-- Settles O7: every command of BD_TTCMD is a `ttGo`, which rejects, denies or runs it, and each effect that runs has its own lemma. -/
theorem ttcmdCommandsComplete : Obligations.TtcmdCommandsComplete := by
  unfold Obligations.TtcmdCommandsComplete
  refine ⟨fun s p tid ht hb => ⟨ttcmdNop_completes ht hb, ttcmdRead_completes p ht hb⟩,
    fun s tid ht hb => ⟨fun hc => ?_, fun hd hc => ?_⟩, fun s p tid c hc => ?_⟩
  · obtain ⟨t, hexec, hpend, hent, hothers, hres, hmem⟩ := ttcmdWrite_completes ht hb hc
    obtain ⟨hpriv, hbase, hcnt, hlow, hmid⟩ := writtenEnt_fields (s.mach.hw.ent tid) (stagedEnt s.mach.hw)
    rw [← hent] at hpriv hbase hcnt hlow hmid
    exact ⟨t, hexec, hpend, hpriv, hbase, hcnt, hlow, hmid, hothers, hres, hmem⟩
  · obtain ⟨t, hexec, hpend, hent, hothers, hdom, hres⟩ := ttcmdBind_completes ht hb hd hc
    refine ⟨t, hexec, hpend, ?_, ?_, ?_, ?_, hothers, hdom, hres⟩ <;> simp [hent]
  · obtain ⟨t, op, f, hexec, hop⟩ := exec_mem_ttcmds hc s
    refine ⟨fun hb => completes_onMach hexec ?_, fun hb hp hne => completes_onMach hexec ?_⟩
    · rw [ttGo_busy _ _ _ _ hb]
      exact ⟨fget_ttResult _ _, (OnlyFields.refl _ _).ttResult (by decide) _⟩
    · rw [ttGo_denied _ _ hb (hop hne) hp]
      exact ⟨fget_ttResult _ _, ((OnlyFields.refl _ _).setTtcmd (List.Subset.refl _) _ _).ttResult (by decide) _⟩

end Sys2Proof.Machine

namespace Sys2Proof.Machine

/-! ### O13: a release of a tenant out of range -/

/-- A line is whole where each of its copies is good. -/
theorem wholeLine_of_copies {m : Mach} {o : Nat} (hstore : m.hw.storeWord (o / 64 * 64) = none) (hrev : m.hw.revIn o = [])
    (hgood : m.copyGood (domeMap m.hw o).prim (domeMap m.hw o).addr = true)
    (hmirror : (domeMap m.hw o).mirror.all (fun c => m.copyGood c (domeMap m.hw o).addr) = true) : m.wholeLine o :=
  ⟨hstore, hrev, hgood, by simpa [Option.all_eq_true] using hmirror⟩

/-- A tenant's number out of range, at which BD_TDRAIN_LOSS has the place of DD_TTSFIRST in the register file. -/
def strayTid : Nat := (435 - 311) * 65536

/-- The stray tenant is BOUND with its table at offset 0 of Dome, below DD_TTSFIRST; entry 0 is valid, and its release waits for a
migration that has ended. -/
def strayRelease : State :=
  ⟨[], { mem := { Mem.reset with dome := [(0, 1)] },
         hw := { Hw.reset with
                   regs := [(fkey F.DD_DOMEEXT_VAL 0, 1), (fkey F.DD_TTSFIRST_VAL 0, 5)],
                   bd := { Hw.reset.bd with
                             tt := [(strayTid, 2 + 128 * 2 ^ 36)], alloc := [(0, ⟨1, false, false, false⟩)],
                             rels := [⟨strayTid, 0, 0, 0⟩] } } }⟩

theorem wholeLine_strayRelease : strayRelease.mach.wholeLine (etAddr (strayRelease.mach.hw.ent strayTid) 0) :=
  wholeLine_of_copies (by decide) (by decide) (by decide) (by decide)

/-- A release whose migration has ended goes on (R57). -/
theorem exec_releaseMigrationWaitEnd {s : State} {t e : Nat} {r : RelRec}
    (hr : s.mach.hw.bd.rels.find? (fun r => r.tid == t && r.eidx == e && r.step == 0) = some r) (hmst : etMst (s.mach.et t e) = 0) :
    exec (.releaseMigrationWaitEnd t e) s = onMach (fun m =>
      releaseOne t e (m.onHw (fun h => { h with bd := { h.bd with rels := h.bd.rels.erase r } }))) s := by
  rw [show exec (.releaseMigrationWaitEnd t e) s = execReleaseMigrationWaitEnd t e s from rfl, execReleaseMigrationWaitEnd]
  simp only [onMach, hr, if_pos hmst]

/-- The drain mark's LOSS, cleared, takes DD_TTSFIRST to 0: the entry's line then reads from the model's own store, whose first record
counts one binding. -/
theorem strayRelease_stays_valid : etV ((releaseOne strayTid 0 (strayRelease.mach.onHw (fun h =>
    { h with bd := { h.bd with rels := h.bd.rels.erase ⟨strayTid, 0, 0, 0⟩ } }))).et strayTid 0) = true := by
  decide +kernel

/-- Refutes O13: the clause of releaseMigrationWaitEnd leaves the tenant's number unbounded, and for `strayTid` V reads as before. -/
theorem not_releaseCompletes : ¬ Obligations.ReleaseCompletes := by
  unfold Obligations.ReleaseCompletes
  intro h
  obtain ⟨-, -, hwait, -⟩ := h.2 strayRelease strayTid 0 0 ⟨strayTid, 0, 0, 0⟩
  have hfind : strayRelease.mach.hw.bd.rels.find? (fun r => r.tid == strayTid && r.eidx == 0 && r.step == 0) =
      some ⟨strayTid, 0, 0, 0⟩ := rfl
  have hmst : etMst (strayRelease.mach.et strayTid 0) = 0 := by decide
  obtain ⟨m, hexec, -, -, hv, -⟩ := hwait hfind hmst wholeLine_strayRelease
  rw [exec_releaseMigrationWaitEnd hfind hmst] at hexec
  rw [← Host.Outcome.next.inj hexec] at hv
  dsimp only at hv
  rw [strayRelease_stays_valid] at hv
  cases hv

end Sys2Proof.Machine

namespace Sys2Proof.Machine

/-! ### Turret's binds (R44 to R47, R555) -/

/-- The fields that Turret's BIND stages. -/
abbrev stagedKeys : List (Fld × Nat) :=
  ttcmdKeys ++ [(F.BD_TTDATA0_VAL, 0), (F.BD_TTDATA1_VAL, 0), (F.BD_TTDATA2_VAL, 0), (F.BD_TTDATA3_VAL, 0)]

/-- Turret's BIND, staged. -/
def stagedBind (t e : Nat) (m : Mach) : Mach := m.onHw (fun h => setTtcmd t 3 (stageEnt e h))

theorem onlyFields_stagedBind (t e : Nat) (m : Mach) : OnlyFields stagedKeys m (stagedBind t e m) :=
  ((OnlyFields.refl stagedKeys m).stageEnt (by decide) e).setTtcmd (by decide) t 3

theorem ent_stagedBind (t e : Nat) (m : Mach) (u : Nat) : (stagedBind t e m).hw.ent u = m.hw.ent u := rfl

theorem bd_stagedBind (t e : Nat) (m : Mach) : (stagedBind t e m).hw.bd = m.hw.bd := rfl

/-- A BIND by Turret whose checks pass runs. -/
theorem turretBind_ok {t e : Nat} {m : Mach} (hc : bindCheck m.hw t e = none) :
    turretBind t e m = (0, (doBind t e (stagedBind t e m)).onHw (ttResult 0)) := by
  have hc' : bindCheck (stagedBind t e m).hw t e = none :=
    ((onlyFields_stagedBind t e m).bindCheck (by decide) t e).trans hc
  unfold turretBind
  simp only [stagedBind] at hc' ⊢
  rw [hc']
  rfl

/-- A BIND by Turret whose checks pass changes no entry but that of `t`. -/
theorem ent_turretBind {t e : Nat} {m : Mach} (hc : bindCheck m.hw t e = none) (u : Nat) :
    (turretBind t e m).2.hw.ent u = if u = t then boundEnt e (ttGen (m.hw.ent t) + 1) else m.hw.ent u := by
  rw [turretBind_ok hc, Mach.onHw_hw, ent_ttResult, ent_doBind, ent_stagedBind, ent_stagedBind]

@[simp] theorem Hw.bd_takeFree (h : Hw) : h.takeFree.2.bd = h.bd := rfl
@[simp] theorem Hw.ent_takeFree (h : Hw) (u : Nat) : h.takeFree.2.ent u = h.ent u := rfl

/-- The checks of BIND pass over the model's free values. -/
theorem bindCheck_takeFree (h : Hw) (t e : Nat) : bindCheck h.takeFree.2 t e = bindCheck h t e :=
  bindCheck_congr rfl rfl (fun _ _ _ _ => rfl) t e

theorem placeTable_snd (t n : Nat) (h : Hw) : (placeTable t n h).2 = h.takeFree.2 := by
  unfold placeTable
  dsimp only
  split <;> rfl

@[simp] theorem policies_ttResult (r : Nat) (h : Hw) : (ttResult r h).bd.policies = h.bd.policies := rfl

theorem ent_polApply (rec t : Nat) (h : Hw) (u : Nat) : (polApply rec t h).ent u = h.ent u := by
  unfold polApply rateWrite
  simp only [Hw.ent_fset]
  split <;> rfl

/-- The bind of a pool LD instance that finds a TID, a table's place and passing checks (R45, R316). -/
theorem poolBind_ok {port vppb rec t b : Nat} {m : Mach} (hready : m.hw.flag F.DD_STAT_READY 0 = true)
    (hgrp : m.hw.fget F.DD_STAT_GRPUSE 0 ≠ 0) (htid : freeTid m.hw 0 8192 = some t)
    (hplace : (placeTable t (bits rec 32 26) m.hw).1 = some b)
    (hc : bindCheck m.hw t (polEntry rec port vppb b) = none) :
    poolBind port vppb rec m = (0, some t,
      (turretBind t (polEntry rec port vppb b) (m.onHw (fun h => h.takeFree.2))).2.onHw (polApply rec t)) := by
  have hc' : bindCheck (m.onHw (fun h => h.takeFree.2)).hw t (polEntry rec port vppb b) = none :=
    (bindCheck_takeFree _ _ _).trans hc
  have hrun := turretBind_ok hc'
  unfold poolBind
  simp only [hready, hgrp, htid, hplace, placeTable_snd, Bool.not_true, Bool.false_eq_true, if_false]
  rw [show ({ m with hw := m.hw.takeFree.2 } : Mach) = m.onHw (fun h => h.takeFree.2) from rfl, hrun]
  rfl

theorem policies_polApply (rec t : Nat) (h : Hw) : (polApply rec t h).bd.policies = h.bd.policies := by
  unfold polApply rateWrite
  simp only [Hw.fset_bd]
  split <;> rfl

theorem runPolicies_none {port i n : Nat} {m : Mach} (h : m.hw.bd.policies.length ≤ i) : runPolicies port i m n = m := by
  cases n with
  | zero => rfl
  | succ n => rw [runPolicies, List.drop_eq_nil_of_le h]; rfl

/-- A run of the last policy record changes the table as the record's own application does. -/
theorem ent_runPolicies_last {port rec : Nat} {m : Mach} (hpol : m.hw.bd.policies = [rec])
    (hkept : (applyPolicy port rec m).hw.bd.policies = [rec]) (u : Nat) :
    (runCmd (.policy port 0) m).hw.ent u = (applyPolicy port rec m).hw.ent u := by
  have hrun : runCmd (.policy port 0) m = runPolicies port 0 m (1 + 1) := by rw [runCmd, hpol]; rfl
  rw [hrun, runPolicies, hpol]
  simp only [List.drop_zero, List.head?_cons]
  split
  · rfl
  · rw [runPolicies_none (by rw [hkept]; exact Nat.le_refl _)]

/-- A policy record that binds, and adds no capacity (R555). -/
theorem applyPolicy_ok {port rec t : Nat} {m m' : Mach} (hd : m.hw.contained 0 = false) (hport : bits rec 0 7 = port)
    (hfm : bitAt rec 20 = false) (hadd : bits rec 18 2 = 0) (hfree : m.hw.tenantAt port (bits rec 8 5) = none)
    (hbind : poolBind port (bits rec 8 5) rec m = (0, some t, m')) : applyPolicy port rec m = m' := by
  simp [applyPolicy, hd, hport, hfm, hadd, hfree, hbind]

/-- A port's one policy record, which adds no capacity, runs as one bind of a pool LD instance. -/
theorem ent_runCmd_policy {port rec t b : Nat} {m : Mach} (hd : m.hw.contained 0 = false)
    (hready : m.hw.flag F.DD_STAT_READY 0 = true) (hgrp : m.hw.fget F.DD_STAT_GRPUSE 0 ≠ 0) (hpol : m.hw.bd.policies = [rec])
    (hport : bits rec 0 7 = port) (hfm : bitAt rec 20 = false) (hadd : bits rec 18 2 = 0)
    (hfree : m.hw.tenantAt port (bits rec 8 5) = none) (htid : freeTid m.hw 0 8192 = some t)
    (hplace : (placeTable t (bits rec 32 26) m.hw).1 = some b)
    (hc : bindCheck m.hw t (polEntry rec port (bits rec 8 5) b) = none) (u : Nat) :
    (runCmd (.policy port 0) m).hw.ent u =
      if u = t then boundEnt (polEntry rec port (bits rec 8 5) b) (ttGen (m.hw.ent t) + 1) else m.hw.ent u := by
  have hc' : bindCheck (m.onHw (fun h => h.takeFree.2)).hw t _ = none := (bindCheck_takeFree m.hw t _).trans hc
  have hrun := applyPolicy_ok hd hport hfm hadd hfree (poolBind_ok hready hgrp htid hplace hc)
  rw [ent_runPolicies_last hpol, hrun, Mach.onHw_hw, ent_polApply, ent_turretBind hc', Mach.onHw_hw, Hw.ent_takeFree,
    Hw.ent_takeFree]
  rw [hrun, Mach.onHw_hw, policies_polApply, turretBind_ok hc', Mach.onHw_hw, policies_ttResult, policies_doBind, bd_stagedBind,
    Mach.onHw_hw, Hw.bd_takeFree, hpol]

theorem onMach_congr {f g : Mach → Mach} {s : State} (h : f s.mach = g s.mach) : onMach f s = onMach g s := by
  rw [onMach, onMach, h]

/-- A fabric manager's command, or a policy bind, that may start runs when no other command waits (R44). -/
theorem arriveCmd_runs {c : FmCmd} {m : Mach} (hc : m.hw.cmdReady c = true) (hq : m.hw.bd.cmdq = []) :
    arriveCmd c m = runCmd c m := by
  simp [arriveCmd, hc, hq]

/-! ### O11: a table's place beyond ETBASE -/

/-- The policy record: port 0, vPPB 0, a table of 128 entries, no region set. -/
def farRec : Nat := 128 * 2 ^ 32

/-- The page behind the last entry of the reverse map: 2^32 pages above the first page of the store. -/
def farPage : Nat := 2 ^ 32 + (2 ^ 22 - 1) * 512

/-- DD_TTSFIRST is high enough that no free value names a place for the table; the reverse map has one entry where the first place
behind the store's 16 MiB lies, and one right below `farPage`. -/
def farStore : State :=
  ⟨[], { mem := Mem.reset,
         hw := { Hw.reset with
                   regs := [(fkey F.FP_PCFG_ROLE 0, 1), (fkey F.DD_STAT_READY 0, 1), (fkey F.DD_STAT_GRPUSE 0, 1),
                     (fkey F.DD_DOMEEXT_VAL 0, 2 ^ 24), (fkey F.DD_TTSFIRST_VAL 0, 2 ^ 22 - 1)],
                   fp := { Hw.reset.fp with layout := [(0, 1)] },
                   bd := { Hw.reset.bd with
                             policies := [farRec],
                             rev := [(2 ^ 20, ⟨0, 0, 0, 0⟩), (2 ^ 32 * 256 - 1, ⟨0, 0, 0, 0⟩)] } } }⟩

theorem placeTable_farStore : (placeTable 0 (bits farRec 32 26) farStore.mach.hw).1 = some farPage := by
  have hfirst : farStore.mach.hw.storeFirst = 2 ^ 22 - 1 := by decide
  unfold placeTable
  dsimp only
  rw [if_neg]
  · decide
  · have hlt : farStore.mach.hw.takeFree.1 % 2 ^ 31 < 2 ^ 31 := Nat.mod_lt _ (by decide)
    simp only [hfirst, Bool.and_eq_true, decide_eq_true_eq, not_and]
    omega

/-- Refutes O11: the table's place of `farStore` has a page number of 33 bits, and its top bit falls into RGBASE. -/
theorem not_policyBindCompletes : ¬ Obligations.PolicyBindCompletes := by
  unfold Obligations.PolicyBindCompletes
  intro h
  have hc : bindCheck farStore.mach.hw 0 (polEntry farRec 0 (bits farRec 8 5) farPage) = none := by decide
  have hready : farStore.mach.hw.flag F.DD_STAT_READY 0 = true := by decide
  obtain ⟨m, hexec, -, -, -, -, -, -, hbase, -⟩ := h farStore 0 farRec 0 farPage (by decide) rfl (by decide) hready
    (by decide) rfl (by decide) (by decide) (by decide) (by decide) (by decide) placeTable_farStore hc
  have hrun : exec (.policyBind 0) farStore = onMach (runCmd (.policy 0 0)) farStore :=
    onMach_congr (arriveCmd_runs (by decide) rfl)
  rw [hrun] at hexec
  rw [← Host.Outcome.next.inj hexec, ent_runCmd_policy (by decide) hready (by decide) rfl (by decide) (by decide) (by decide)
    (by decide) (by decide) placeTable_farStore hc, if_pos rfl, ttRgbase_boundEnt] at hbase
  exact absurd hbase (by decide)

end Sys2Proof.Machine

namespace Sys2Proof.Machine

/-! ### O12: a full reverse map -/

/-- 64 BOUND pool tenants with the longest tables, whose places in the reverse map fill its entry numbers. -/
def longTables : SMap Nat :=
  (List.range 64).map (fun i => (i, 2 + (2 ^ 26 - 1) * 2 ^ 36 + ((i * (2 ^ 26 - 256) + 2 ^ 20 + 2 ^ 17) / 256) * 2 ^ 64))

/-- The entry of tenant 63 that lies where the last entry of the reverse map does. -/
def lastIdx : Nat := 2 ^ 32 - 1 - (63 * (2 ^ 26 - 256) + 2 ^ 20)

/-- One extent at DD_TTSFIRST 1 and the long tables. -/
def fullMap : State :=
  ⟨[], { mem := Mem.reset,
         hw := { Hw.reset with
                   regs := [(fkey F.DD_DOMEEXT_VAL 0, 2), (fkey F.DD_TTSFIRST_VAL 0, 1)],
                   bd := { Hw.reset.bd with tt := longTables } } }⟩

/-- The add of that entry of tenant 63. -/
def lastAdd : AddReq := ⟨63, 2, 2 ^ 21, [(lastIdx * 2 ^ 21, 2 ^ 21)], 0, [], some (0, 0), 9⟩

theorem wholeLine_fullMap : fullMap.mach.wholeLine (etAddr (fullMap.mach.hw.ent 63) lastIdx) :=
  wholeLine_of_copies (by decide +kernel) (by decide +kernel) (by decide +kernel) (by decide +kernel)

theorem chooseIdx_fullMap : chooseIdx fullMap.mach lastAdd = .ok [lastIdx] := by
  have hlist : listIdx lastAdd.list = some [lastIdx] := by decide +kernel
  have hunbacked : ([lastIdx].all (fun e => decide (e < ttEtlen (fullMap.mach.hw.ent lastAdd.tid)) &&
      unbacked fullMap.mach lastAdd.tid e) && decide [lastIdx].Nodup) = true := by decide +kernel
  simp only [chooseIdx, hlist, hunbacked, if_true, show lastAdd.policy = 2 from rfl]

/-- The reverse map has no free entry number left, and the new mapping is written over the extent table's entry. -/
theorem fullMap_loses_pend : etPend ((runCmd (.add lastAdd) fullMap.mach).et lastAdd.tid lastIdx) = false := by
  decide +kernel

/-- Refutes O12: the add's own mapping in the reverse map overwrites the entry that the add has written. -/
theorem not_addCapacityCompletes : ¬ Obligations.AddCapacityCompletes := by
  unfold Obligations.AddCapacityCompletes
  intro h
  have hfree : localFree fullMap.mach.hw 0 = [0] := by decide +kernel
  have hrecs : ∀ y, y < fullMap.mach.hw.domeExt → fullMap.mach.recPoison y = false := by decide +kernel
  obtain ⟨m, hexec, -, -, hpend, -⟩ := h.1 fullMap lastAdd 0 lastIdx 0 [] (by decide) rfl (by decide) (by decide +kernel)
    (by decide +kernel) (by decide) (by decide) (by decide) chooseIdx_fullMap hfree (by decide +kernel) hrecs wholeLine_fullMap
  have hrun : exec (.initiateDynamicCapacityAdd lastAdd) fullMap = onMach (runCmd (.add lastAdd)) fullMap :=
    onMach_congr (arriveCmd_runs (by decide) rfl)
  rw [hrun] at hexec
  rw [← Host.Outcome.next.inj hexec] at hpend
  dsimp only at hpend
  rw [fullMap_loses_pend] at hpend
  cases hpend

end Sys2Proof.Machine

namespace Sys2Proof.Machine

/-! ### The Stop step (R61 to R65) -/

theorem ttState_startSeq (t : Nat) (b : Bool) (h : Hw) : ttState ((startSeq t b h).ent t) = 3 := ttState_setTState h t 3

theorem ent_startSeq_ne {t u : Nat} (b : Bool) (h : Hw) (hu : u ≠ t) : (startSeq t b h).ent u = h.ent u :=
  (show (startSeq t b h).ent u = (h.setTState t 3).ent u from rfl).trans (Hw.ent_setEnt_ne _ _ hu)

theorem unbind_startSeq (t : Nat) (b : Bool) (h : Hw) : ((startSeq t b h).seq t).map TSeq.unbind = some b := by
  rw [Hw.seq, startSeq, Store.get?_put_same]
  rfl

theorem askReset_bound {t : Nat} {h : Hw} (hs : ttState (h.ent t) = 2) : askReset t h = (0, startSeq t false h) := by
  simp only [askReset, hs]

theorem askUnbind_bound {t : Nat} {h : Hw} (hs : ttState (h.ent t) = 2) : askUnbind t h = (0, startSeq t true h) := by
  simp only [askUnbind, hs]

/-! ### O10 -/

/-- A command of the fabric manager or a policy bind arrives in Turret's queue. -/
theorem exec_mem_fmCmds {port vppb phys ldid tid : Nat} {r : AddReq} {l : List (Nat × Nat)} {forced : Bool} {x : Instr × FmCmd}
    (hx : x ∈ ([(.bindVppb port vppb phys ldid, .bind port vppb phys ldid), (.unbindVppb port vppb, .unbind port vppb),
      (.policyBind port, .policy port 0), (.initiateDynamicCapacityAdd r, .add r),
      (.initiateDynamicCapacityRelease tid l forced, .release tid l forced)] : List (Instr × FmCmd))) (s : State) :
    exec x.1 s = onMach (arriveCmd x.2) s := by
  simp only [List.mem_cons, List.not_mem_nil, or_false] at hx
  rcases hx with rfl | rfl | rfl | rfl | rfl <;> rfl

/-- A command that may not start yet, or behind another that may, waits last. -/
theorem arriveCmd_waits {c : FmCmd} {m : Mach} (h : m.hw.cmdReady c = false ∨ m.hw.bd.cmdq.any m.hw.cmdReady = true) :
    arriveCmd c m = m.onHw (fun h => { h with bd := { h.bd with cmdq := h.bd.cmdq ++ [c] } }) := by
  rw [arriveCmd, if_neg]
  rcases h with h | h <;> simp [h]

theorem cmdReady_busy {h : Hw} (hb : h.flag F.BD_TTSTAT_BUSY 0 = true) (c : FmCmd) : h.cmdReady c = false := by
  simp [Hw.cmdReady, hb]

theorem cmdReady_unready {h : Hw} (hr : h.flag F.DD_STAT_READY 0 = false) (port i : Nat) : h.cmdReady (.policy port i) = false := by
  simp [Hw.cmdReady, hr]

/-- The entry of an SLD bound to a vPPB, as Bind vPPB stages it. -/
def sldEnt (port vppb phys : Nat) : Nat := 2 * 2 ^ 5 + port * 2 ^ 7 + vppb * 2 ^ 14 + phys * 2 ^ 23

theorem sldEnt_eq (port vppb phys : Nat) :
    2 * 2 ^ 5 + port * 2 ^ 7 + vppb * 2 ^ 14 + 0 * 2 ^ 19 + phys * 2 ^ 23 = sldEnt port vppb phys := by
  rw [sldEnt, Nat.zero_mul, Nat.add_zero]

theorem sldEnt_fields {port vppb phys : Nat} (hport : port ≤ 71) (hvppb : vppb ≤ 31) (hphys : phys ≤ 71) :
    ttKind (sldEnt port vppb phys) = 2 ∧ ttPort (sldEnt port vppb phys) = port ∧ ttVppb (sldEnt port vppb phys) = vppb ∧
    ttDs (sldEnt port vppb phys) = phys := by
  simp only [sldEnt, ttKind, ttPort, ttVppb, ttDs, bits]
  omega

/-- Bind vPPB of a downstream port is Turret's BIND of the lowest FREE TID. -/
theorem bindVppb_device {port vppb phys t : Nat} {m : Mach} (hd : m.hw.contained 0 = false) (hport : port ≤ 71) (hvppb : vppb ≤ 31)
    (hphys : phys ≤ 71) (htid : freeTid m.hw 0 8192 = some t) :
    bindVppb port vppb phys 0xFFFF m = turretBind t (sldEnt port vppb phys) m := by
  have hpool : phys ≠ poolPort := by rw [poolPort]; omega
  rw [bindVppb, if_neg (by rw [hd]; decide), if_neg hpool, if_pos ⟨hphys, hport, hvppb, .inr rfl⟩]
  rw [htid]
  dsimp only
  rw [if_pos rfl, if_neg (by decide), sldEnt_eq]

@[simp] theorem out_bindBegin (t e : Nat) (h : Hw) : (bindBegin t e h).out = h.out := by
  rw [bindBegin, Hw.out_setEnt]

/-- A bind of a device leaves the memories, and reports the vPPB. -/
theorem doBind_device {t e : Nat} (m : Mach) (hk : ttKind e ≠ 0) :
    (doBind t e m).mem = m.mem ∧ (doBind t e m).hw.out = .vppb (ttPort e) (ttVppb e) true :: m.hw.out := by
  rw [doBind, bindClear, if_neg hk, Mach.onHw_hw, (bindEnd_effect _ _ _).2.1, Mach.onHw_hw, out_bindBegin, Mach.onHw_mem, Mach.onHw_mem]
  exact ⟨rfl, rfl⟩

theorem turretBind_device {t e : Nat} {m : Mach} (hc : bindCheck m.hw t e = none) (hk : ttKind e ≠ 0) :
    (turretBind t e m).1 = 0 ∧ (turretBind t e m).2.mem = m.mem ∧
    (turretBind t e m).2.hw.out = .vppb (ttPort e) (ttVppb e) true :: m.hw.out := by
  obtain ⟨hmem, hout⟩ := doBind_device (t := t) (stagedBind t e m) hk
  rw [turretBind_ok hc]
  exact ⟨rfl, hmem, hout⟩

/-- Unbind vPPB of a BOUND tenant starts its sequence. -/
theorem unbindVppb_bound {port vppb t : Nat} {h : Hw} (hd : h.contained 0 = false) (ht : h.tenantAt port vppb = some t)
    (hs : ttState (h.ent t) = 2) : unbindVppb port vppb h = (0, ttResult 0 (startSeq t true (setTtcmd t 5 h))) := by
  rw [unbindVppb, hd, ht]
  simp only [Bool.false_eq_true, if_false]
  rw [askUnbind_bound (by rwa [ent_setTtcmd])]
  rfl

theorem runCmd_unbind {port vppb t : Nat} {m : Mach} (hd : m.hw.contained 0 = false) (ht : m.hw.tenantAt port vppb = some t)
    (hs : ttState (m.hw.ent t) = 2) : runCmd (.unbind port vppb) m = m.onHw (fun h =>
      (ttResult 0 (startSeq t true (setTtcmd t 5 h))).emit (.fmDone (.unbind port vppb) 0)) := by
  rw [runCmd, Mach.onHw, unbindVppb_bound hd ht hs]
  rfl

/-- The oldest command that may start leaves the queue and runs (R44). -/
theorem queuedCommandStart_runs {s : State} {c : FmCmd} {rest : List FmCmd} (hq : s.mach.hw.bd.cmdq = c :: rest)
    (hc : s.mach.hw.cmdReady c = true) : exec .queuedCommandStart s = onMach (fun m =>
      runCmd c (m.onHw (fun h => { h with bd := { h.bd with cmdq := rest } }))) s := by
  have hexec : exec .queuedCommandStart s = execQueuedCommandStart s := rfl
  rw [hexec, execQueuedCommandStart]
  refine onMach_congr ?_
  simp [hq, hc, Mach.onHw]

theorem bindVppb_completes {s : State} {port vppb phys t : Nat} (hb : s.mach.hw.flag F.BD_TTSTAT_BUSY 0 = false)
    (hd : s.mach.hw.contained 0 = false) (hq : s.mach.hw.bd.cmdq = []) (hport : port ≤ 71) (hvppb : vppb ≤ 31) (hphys : phys ≤ 71)
    (htid : freeTid s.mach.hw 0 8192 = some t) (hc : bindCheck s.mach.hw t (sldEnt port vppb phys) = none) :
    Completes (.bindVppb port vppb phys 0xFFFF) s (fun m =>
      m.hw.ent t = boundEnt (sldEnt port vppb phys) (ttGen (s.mach.hw.ent t) + 1) ∧
      (∀ u, u ≠ t → m.hw.ent u = s.mach.hw.ent u) ∧
      m.hw.out = .fmDone (.bind port vppb phys 0xFFFF) 0 :: .vppb port vppb true :: s.mach.hw.out ∧ m.mem = s.mach.mem) := by
  obtain ⟨hkind, hfport, hfvppb, -⟩ := sldEnt_fields hport hvppb hphys
  obtain ⟨hres, hmem, hout⟩ := turretBind_device hc (by rw [hkind]; decide)
  rw [hfport, hfvppb] at hout
  have hready : s.mach.hw.cmdReady (.bind port vppb phys 0xFFFF) = true := by simp [Hw.cmdReady, hb]
  refine completes_onMach rfl ?_
  rw [arriveCmd_runs hready hq, runCmd, bindVppb_device hd hport hvppb hphys htid]
  refine ⟨?_, fun u hu => ?_, ?_, hmem⟩
  · rw [Mach.onHw_hw, Hw.ent_emit, ent_turretBind hc, if_pos rfl]
  · rw [Mach.onHw_hw, Hw.ent_emit, ent_turretBind hc, if_neg hu]
  · rw [Mach.onHw_hw, Hw.emit_out, hres, hout]

/-- What Unbind vPPB leaves of the tenant, the others and the outputs. -/
theorem startSeq_unbindVppb (t : Nat) (d : Emit) (h : Hw) :
    let r := (ttResult 0 (startSeq t true (setTtcmd t 5 h))).emit d
    ttState (r.ent t) = 3 ∧ (r.seq t).map TSeq.unbind = some true ∧ (∀ u, u ≠ t → r.ent u = h.ent u) ∧ r.out = d :: h.out ∧
    r.bd.cmdq = h.bd.cmdq :=
  ⟨ttState_startSeq _ _ _, unbind_startSeq _ _ _, fun _ hu => ent_startSeq_ne _ _ hu, rfl, rfl⟩

theorem unbindVppb_completes {s : State} {port vppb t : Nat} (hb : s.mach.hw.flag F.BD_TTSTAT_BUSY 0 = false)
    (hd : s.mach.hw.contained 0 = false) (hq : s.mach.hw.bd.cmdq = []) (ht : s.mach.hw.tenantAt port vppb = some t)
    (hs : ttState (s.mach.hw.ent t) = 2) : Completes (.unbindVppb port vppb) s (fun m =>
      ttState (m.hw.ent t) = 3 ∧ (m.hw.seq t).map TSeq.unbind = some true ∧ (∀ u, u ≠ t → m.hw.ent u = s.mach.hw.ent u) ∧
      m.hw.out = .fmDone (.unbind port vppb) 0 :: s.mach.hw.out ∧ m.mem = s.mach.mem) := by
  have hready : s.mach.hw.cmdReady (.unbind port vppb) = true := by simp [Hw.cmdReady, hb]
  obtain ⟨hstate, hseq, hothers, hout, -⟩ := startSeq_unbindVppb t (.fmDone (.unbind port vppb) 0) s.mach.hw
  refine completes_onMach rfl ?_
  rw [arriveCmd_runs hready hq, runCmd_unbind hd ht hs]
  exact ⟨hstate, hseq, hothers, hout, rfl⟩

theorem queuedUnbind_completes {s : State} {port vppb t : Nat} {rest : List FmCmd} (hb : s.mach.hw.flag F.BD_TTSTAT_BUSY 0 = false)
    (hd : s.mach.hw.contained 0 = false) (hq : s.mach.hw.bd.cmdq = .unbind port vppb :: rest)
    (ht : s.mach.hw.tenantAt port vppb = some t) (hs : ttState (s.mach.hw.ent t) = 2) :
    Completes .queuedCommandStart s (fun m =>
      m.hw.bd.cmdq = rest ∧ ttState (m.hw.ent t) = 3 ∧ m.hw.out = .fmDone (.unbind port vppb) 0 :: s.mach.hw.out ∧
      m.mem = s.mach.mem) := by
  have hready : s.mach.hw.cmdReady (.unbind port vppb) = true := by simp [Hw.cmdReady, hb]
  refine completes_onMach (queuedCommandStart_runs hq hready) ?_
  rw [runCmd_unbind (m := s.mach.onHw (fun h => { h with bd := { h.bd with cmdq := rest } })) hd ht hs]
  obtain ⟨hstate, -, -, hout, hrest⟩ := startSeq_unbindVppb t (.fmDone (.unbind port vppb) 0)
    { s.mach.hw with bd := { s.mach.hw.bd with cmdq := rest } }
  exact ⟨hrest, hstate, hout, rfl⟩

/-- Settles O10: an arriving command waits unless it may start and no other may; the commands that run are Turret's BIND and the Stop
step of an unbind. -/
theorem fabricManagerCommandsComplete : Obligations.FabricManagerCommandsComplete := by
  unfold Obligations.FabricManagerCommandsComplete
  refine ⟨fun s port vppb phys ldid tid r l forced x hx hwait => completes_onMach (exec_mem_fmCmds hx s) (arriveCmd_waits ?_),
    fun s port vppb phys t rest hb hd => ⟨fun hq hport hvppb hphys htid hc => ?_, fun hq ht hs => unbindVppb_completes hb hd hq ht hs,
      fun hq ht hs => queuedUnbind_completes hb hd hq ht hs⟩⟩
  · rcases hwait with hb | ⟨hr, hx⟩ | hq
    · exact .inl (cmdReady_busy hb _)
    · exact .inl (hx ▸ cmdReady_unready hr _ _)
    · exact .inr hq
  · obtain ⟨hkind, hfport, hfvppb, hfds⟩ := sldEnt_fields hport hvppb hphys
    obtain ⟨m, hexec, hpend, hent, hothers, hout, hmem⟩ := bindVppb_completes hb hd hq hport hvppb hphys htid hc
    refine ⟨m, hexec, hpend, ?_, ?_, ?_, ?_, ?_, ?_, hothers, hout, hmem⟩ <;> simp [hent, hkind, hfport, hfvppb, hfds]

end Sys2Proof.Machine

namespace Sys2Proof.Machine

/-! ### What the switch leaves of the tenant table -/

/-- A view that every step of a fold keeps, the fold keeps. -/
theorem foldl_keeps {α β γ : Type} (g : α → γ) (f : α → β → α) (hf : ∀ h x, g (f h x) = g h) (l : List β) (h : α) :
    g (l.foldl f h) = g h := by
  induction l generalizing h with
  | nil => rfl
  | cons x l ih => exact (ih _).trans (hf h x)

theorem tt_foldl {β : Type} (f : Hw → β → Hw) (hf : ∀ h x, (f h x).bd.tt = h.bd.tt) (l : List β) (h : Hw) :
    (l.foldl f h).bd.tt = h.bd.tt := foldl_keeps (fun h => h.bd.tt) f hf l h

theorem bd_foldl {β : Type} (f : Hw → β → Hw) (hf : ∀ h x, (f h x).bd = h.bd) (l : List β) (h : Hw) :
    (l.foldl f h).bd = h.bd := foldl_keeps Hw.bd f hf l h

@[simp] theorem bd_freeN (h : Hw) (n : Nat) : (h.freeN n).bd = h.bd := rfl
@[simp] theorem bd_voqGone (p : EMsg → Bool) (h : Hw) : (voqGone p h).bd = h.bd := rfl

@[simp] theorem bd_legDone (mid : Nat) (h : Hw) : (legDone mid h).bd = h.bd := by
  unfold legDone
  split
  · rfl
  · split <;> rfl

@[simp] theorem bd_releaseCells (e : EMsg) (h : Hw) : (releaseCells e h).bd = h.bd := by
  unfold releaseCells
  split
  · exact bd_legDone _ _
  · rw [bd_freeN]
    split <;> rfl

@[simp] theorem bd_countDiscard (rule : Nat) (h : Hw) : (countDiscard rule h).bd = h.bd := by
  unfold countDiscard
  repeat' split
  all_goals rfl

@[simp] theorem bd_spillLeave (qid : Nat) (h : Hw) : (spillLeave qid h).bd = h.bd := by
  unfold spillLeave
  dsimp only
  split <;> rfl

@[simp] theorem bd_drrEmpty (qid : Nat) (h : Hw) : (drrEmpty qid h).bd = h.bd := by
  unfold drrEmpty
  split <;> rfl

@[simp] theorem bd_leaveQueue (qid : Nat) (h : Hw) : (leaveQueue qid h).bd = h.bd := by
  rw [leaveQueue, bd_drrEmpty, bd_spillLeave]

@[simp] theorem bd_setPages (h : Hw) : h.setPages.bd = h.bd := by
  rw [Hw.setPages, Hw.fset_bd]

@[simp] theorem bd_dropDome (qid : Nat) (p : EMsg → Bool) (h : Hw) : (dropDome qid p h).bd = h.bd := by
  rw [dropDome, bd_setPages, Hw.setEq_bd]

@[simp] theorem bd_boundEval (h : Hw) (xp : Nat) : (boundEval h xp).bd = h.bd := by
  unfold boundEval
  dsimp only
  split
  · rw [Hw.fset_bd, Hw.fset_bd, Hw.bd_takeFree]
  · split
    · rw [Hw.fset_bd, Hw.fset_bd, Hw.bd_takeFree]
    · rw [Hw.fset_bd, Hw.fset_bd]

@[simp] theorem bd_boundSet (xp : Nat) (h : Hw) : (boundSet xp h).bd = h.bd := by
  rw [boundSet, boundAll, bd_foldl _ bd_boundEval, bd_boundEval]

@[simp] theorem bd_sentOut (e : EMsg) (bad : Bool) (h : Hw) : (sentOut e bad h).bd = h.bd := by
  unfold sentOut
  split <;> rfl

@[simp] theorem bd_reportBad (ing : Nat) (h : Hw) : (reportBad ing h).bd = h.bd := by
  unfold reportBad
  split
  · exact Hw.bd_raise _ _
  · rfl

@[simp] theorem tt_visEval (h : Hw) (t : Nat) : (h.visEval t).bd.tt = h.bd.tt := by
  unfold Hw.visEval
  split <;> rfl

@[simp] theorem tt_writeGone (h : Hw) (t : Nat) (np : Bool) : (h.writeGone t np).bd.tt = h.bd.tt := by
  rw [Hw.writeGone, tt_visEval]
  split <;> rfl

@[simp] theorem tt_discardWrite (h : Hw) (t i : Nat) : (h.discardWrite t i).bd.tt = h.bd.tt := by
  have hlose := congrArg BdState.tt (Hw.bd_loseWrite h (some (t, i)))
  unfold Hw.discardWrite
  dsimp only
  generalize h.loseWrite (some (t, i)) = h1 at hlose ⊢
  split
  · rw [tt_writeGone]
    exact hlose
  · split
    · exact hlose
    · rfl

@[simp] theorem tt_readGone (h : Hw) (t i : Nat) : (h.readGone t i).bd.tt = h.bd.tt := by
  unfold Hw.readGone
  split <;> rfl

@[simp] theorem tt_respond (src : Nat) (m : Msg) (k : RspKind) (c : Option (Nat × Option Nat)) (h : Hw) :
    (respond src m k c h).bd.tt = h.bd.tt := by
  unfold respond
  dsimp only
  split
  · rfl
  · split
    · rw [tt_readGone]
      rfl
    · rfl

@[simp] theorem tt_respondTo (t i tc : Nat) (k : RspKind) (h : Hw) : (respondTo t i tc k h).bd.tt = h.bd.tt := tt_respond _ _ _ _ _

@[simp] theorem tt_updRead (h : Hw) (t i : Nat) (f : RRec → RRec) : (h.updRead t i f).bd.tt = h.bd.tt := rfl

@[simp] theorem tt_readDone (h : Hw) (t i : Nat) : (h.readDone t i).bd.tt = h.bd.tt := by
  unfold Hw.readDone
  split
  · rfl
  · split <;> simp

@[simp] theorem tt_partDone (h : Hw) (t i : Nat) : (h.partDone t i).bd.tt = h.bd.tt := by
  unfold Hw.partDone
  split
  · rfl
  · dsimp only
    split <;> simp

@[simp] theorem tt_endNp (eg : Nat) (m : Msg) (k : RspKind) (c : Option (Nat × Option Nat)) (h : Hw) :
    (endNp eg m k c h).bd.tt = h.bd.tt := by
  unfold endNp
  split
  · split <;> simp
  · simp

@[simp] theorem tt_loseMsg (m : Msg) (h : Hw) : (loseMsg m h).bd.tt = h.bd.tt := by
  unfold loseMsg
  split
  · rfl
  · split
    · rfl
    · split <;> simp

/-- The response that ends a request, with its response class. -/
theorem tt_endRequest (b : Bool) (eg : Nat) (m : Msg) (c : Option (Nat × Option Nat)) (h : Hw) :
    (if b then endNp eg m .ur c h else respond eg m (discardRsp m.cls) none h).bd.tt = h.bd.tt := by
  cases b <;> simp

@[simp] theorem tt_discardEnd (eg : Nat) (m : Msg) (rule : Nat) (h : Hw) : (discardEnd eg m rule h).bd.tt = h.bd.tt := by
  unfold discardEnd
  dsimp only
  rw [tt_endRequest]
  split
  · split <;> simp
  · rfl

@[simp] theorem tt_endMsg (e : EMsg) (rule : Nat) (h : Hw) : (endMsg e rule h).bd.tt = h.bd.tt := by
  unfold endMsg
  split <;> simp

@[simp] theorem tt_discardMsg (e : EMsg) (rule : Nat) (h : Hw) : (discardMsg e rule h).bd.tt = h.bd.tt := by
  rw [discardMsg, tt_endMsg, bd_releaseCells]

@[simp] theorem tt_cutMsg (eg : Nat) (e : EMsg) (h : Hw) : (cutMsg eg e h).bd.tt = h.bd.tt := by
  unfold cutMsg
  dsimp only
  split <;> simp

@[simp] theorem tt_endBad (eg : Nat) (e : EMsg) (h : Hw) : (endBad eg e h).bd.tt = h.bd.tt := by
  unfold endBad
  dsimp only
  split <;> simp

@[simp] theorem tt_mapMsgs (f : EMsg → EMsg) (g : Msg → Msg) (h : Hw) : (mapMsgs f g h).bd.tt = h.bd.tt := rfl

@[simp] theorem tt_markBad (ing rid : Nat) (h : Hw) : (markBad ing rid h).bd.tt = h.bd.tt := by
  unfold markBad
  dsimp only
  exact (tt_foldl _ (fun h (x : Nat × EMsg) => tt_endBad x.1 x.2 h) _ _).trans (tt_mapMsgs _ _ _)

/-! ### A link that goes down (R215, R381 to R383) -/

@[simp] theorem tt_badOpen (n : Nat) (h : Hw) : (badOpen n h).bd.tt = h.bd.tt :=
  tt_foldl _ (fun h r => by rw [tt_markBad, bd_reportBad]) _ _

@[simp] theorem tt_dropQueue (h : Hw) (qid : Nat) : (dropQueue h qid).bd.tt = h.bd.tt := by
  unfold dropQueue
  dsimp only
  split
  · rfl
  · rw [bd_leaveQueue, tt_foldl _ (fun h x => tt_discardMsg x 0 h),
      tt_foldl _ (fun h x => tt_endMsg x 0 h), bd_dropDome, Hw.setEq_bd]

@[simp] theorem tt_dropQueues (n : Nat) (h : Hw) : (dropQueues n h).bd.tt = h.bd.tt := by
  unfold dropQueues
  dsimp only
  rw [tt_foldl _ (fun h x => tt_endMsg x 0 h), bd_voqGone,
    tt_foldl _ tt_dropQueue]

@[simp] theorem tt_cutTx (n : Nat) (h : Hw) : (cutTx n h).bd.tt = h.bd.tt := by
  unfold cutTx
  split
  · rfl
  · rw [tt_endMsg, tt_cutMsg]

@[simp] theorem bd_clearLink (n : Nat) (h : Hw) : (clearLink n h).bd = h.bd := by
  rw [clearLink, bd_boundSet, Hw.fset_bd]
  exact bd_foldl _ (fun h f => Hw.fset_bd h f n 0) _ _

@[simp] theorem bd_takeDownRole (n : Nat) (h : Hw) : (takeDownRole n h).bd = h.bd := by
  unfold takeDownRole
  split <;> rfl

@[simp] theorem bd_autoTrain (n : Nat) (h : Hw) : (autoTrain n h).bd = h.bd := by
  unfold autoTrain
  split <;> rfl

/-- The queues and the grace timer of a port whose link went down. -/
def linkQueues (n : Nat) (up : Bool) (role : Nat) (h : Hw) : Hw :=
  if role = 1 then (if up ∧ !h.fp.grace.contains n then { h with fp := { h.fp with grace := h.fp.grace ++ [n] } } else h)
  else dropQueues n h

/-- What follows a link's loss: PERST_N, the recovery ended, and the port held down or trained again. -/
def linkEnd (n why role : Nat) (h : Hw) : Hw :=
  let h5 := if role ≠ 2 then takeDownRole n h else h
  let h6 := { h5 with fp := { h5.fp with recov := h5.fp.recov.filter (· != n) } }
  if 5 ≤ why ∧ why ≤ 7 then { h6 with fp := { h6.fp with stay := Store.put h6.fp.stay n why } }
  else if why = 1 ∨ why = 2 then autoTrain n h6 else h6

theorem linkDown_split (n why : Nat) (h : Hw) : linkDown n why h =
    linkEnd n why (h.role n) (linkQueues n (h.flag F.FP_LSTAT_UP n) (h.role n) (cutTx n (badOpen n
      ((((clearLink n h).fset F.FP_LSTAT_DOWNWHY n why).fadd F.FP_DOWNCNT_VAL n 1).raise
        { code := if unexpected why then 0x2402 else 0x0403, dom := domPort, dinst := n, addr := why, unit := n, atype := 6 })))) :=
  rfl

theorem tt_linkQueues (n : Nat) (up : Bool) (role : Nat) (h : Hw) : (linkQueues n up role h).bd.tt = h.bd.tt := by
  unfold linkQueues
  split
  · split <;> rfl
  · exact tt_dropQueues _ _

theorem tt_linkEnd (n why role : Nat) (h : Hw) : (linkEnd n why role h).bd.tt = h.bd.tt := by
  have hrole : (if role ≠ 2 then takeDownRole n h else h).bd = h.bd := by
    split
    · exact bd_takeDownRole _ _
    · rfl
  unfold linkEnd
  dsimp only
  generalize (if role ≠ 2 then takeDownRole n h else h) = h5 at hrole ⊢
  have htt : h5.bd.tt = h.bd.tt := congrArg BdState.tt hrole
  split
  · exact htt
  · split
    · rw [bd_autoTrain]
      exact htt
    · exact htt

@[simp] theorem tt_linkDown (n why : Nat) (h : Hw) : (linkDown n why h).bd.tt = h.bd.tt := by
  rw [linkDown_split, tt_linkEnd, tt_linkQueues, tt_cutTx, tt_badOpen, Hw.bd_raise, Hw.fadd_bd, Hw.fset_bd, bd_clearLink]

@[simp] theorem tt_perstLow (n : Nat) (h : Hw) : (perstLow n h).bd.tt = h.bd.tt := by
  unfold perstLow
  split
  · dsimp only
    split <;> simp
  · rfl

end Sys2Proof.Machine

namespace Sys2Proof.Machine

/-! ### Resets (R61 to R65) -/

theorem ttAsk_bound {f : Nat → Hw → Nat × Hw} {t : Nat} {b : Bool} {h : Hw} (hf : f t h = (0, startSeq t b h)) :
    ttAsk f t h = ttResult 0 (startSeq t b h) := by
  rw [ttAsk, hf]

/-- What a Stop step started through BD_TTCMD leaves. -/
theorem ttAsk_effect (t op : Nat) (b : Bool) (h : Hw) :
    let r := ttResult 0 (startSeq t b (setTtcmd t op h))
    ttState (r.ent t) = 3 ∧ (r.seq t).map TSeq.unbind = some b ∧ r.fget F.BD_TTSTAT_RESULT 0 = 0 ∧ ∀ u, u ≠ t → r.ent u = h.ent u :=
  ⟨ttState_startSeq _ _ _, unbind_startSeq _ _ _, fget_ttResult _ _, fun _ hu => ent_startSeq_ne _ _ hu⟩

theorem ttcmdReset_completes {s : State} {tid : Nat} (ht : tid < 8192) (hs : ttState (s.mach.hw.ent tid) = 2)
    (hb : s.mach.hw.flag F.BD_TTSTAT_BUSY 0 = false) :
    Completes (.bdTtcmdReset .turret tid) s (fun m =>
      ttState (m.hw.ent tid) = 3 ∧ (m.hw.seq tid).map TSeq.unbind = some false ∧ m.hw.fget F.BD_TTSTAT_RESULT 0 = 0 ∧
      (∀ u, u ≠ tid → m.hw.ent u = s.mach.hw.ent u) ∧ m.mem = s.mach.mem) := by
  have hask : ttAsk askReset tid (setTtcmd tid 4 s.mach.hw) = _ := ttAsk_bound (askReset_bound (by rwa [ent_setTtcmd]))
  obtain ⟨hstate, hseq, hres, hothers⟩ := ttAsk_effect tid 4 false s.mach.hw
  refine completes_onMach (exec_ttcmd _ _ _).2.2.2.2.1 ?_
  rw [ttGo_runs _ _ hb (.inr rfl), Nat.mod_eq_of_lt ht, Mach.onHw_hw, Mach.onHw_hw, hask]
  exact ⟨hstate, hseq, hres, hothers, rfl⟩

theorem ttcmdUnbind_completes {s : State} {tid : Nat} (ht : tid < 8192) (hs : ttState (s.mach.hw.ent tid) = 2)
    (hb : s.mach.hw.flag F.BD_TTSTAT_BUSY 0 = false) (hd : s.mach.hw.contained 0 = false) :
    Completes (.bdTtcmdUnbind .turret tid) s (fun m =>
      ttState (m.hw.ent tid) = 3 ∧ (m.hw.seq tid).map TSeq.unbind = some true ∧ m.hw.fget F.BD_TTSTAT_RESULT 0 = 0 ∧
      (∀ u, u ≠ tid → m.hw.ent u = s.mach.hw.ent u) ∧ m.mem = s.mach.mem) := by
  have hask : ttUnbind tid (setTtcmd tid 5 s.mach.hw) = ttResult 0 (startSeq tid true (setTtcmd tid 5 s.mach.hw)) :=
    (if_neg (by rw [show (setTtcmd tid 5 s.mach.hw).contained 0 = false from hd]; decide)).trans
      (ttAsk_bound (askUnbind_bound (by rwa [ent_setTtcmd])))
  obtain ⟨hstate, hseq, hres, hothers⟩ := ttAsk_effect tid 5 true s.mach.hw
  refine completes_onMach (exec_ttcmd _ _ _).2.2.2.2.2 ?_
  rw [ttGo_runs _ _ hb (.inr rfl), Nat.mod_eq_of_lt ht, Mach.onHw_hw, Mach.onHw_hw, hask]
  exact ⟨hstate, hseq, hres, hothers, rfl⟩

/-- A reset asked for touches no entry but the tenant's. -/
theorem ent_askReset_ne {t u : Nat} (h : Hw) (hu : u ≠ t) : (askReset t h).2.ent u = h.ent u := by
  unfold askReset
  split
  · rfl
  · exact ent_startSeq_ne _ _ hu
  · split <;> rfl

/-- A reset asked for leaves a BOUND tenant STOPPING, and a STOPPING one as it is. -/
theorem ttState_askReset {t : Nat} {h : Hw} (hs : ttState (h.ent t) = 2 ∨ ttState (h.ent t) = 3) :
    ttState ((askReset t h).2.ent t) = 3 := by
  rcases hs with hs | hs
  · rw [askReset_bound hs]
    exact ttState_startSeq _ _ _
  · simp only [askReset, hs]
    split <;> exact hs

/-- Resets asked for of a list of tenants. -/
def resetAll (l : List Nat) (h : Hw) : Hw := l.foldl (fun h t => (askReset t h).2) h

theorem ent_resetAll_ne {l : List Nat} {u : Nat} (h : Hw) (hu : u ∉ l) : (resetAll l h).ent u = h.ent u := by
  induction l generalizing h with
  | nil => rfl
  | cons t l ih =>
    rw [List.mem_cons, not_or] at hu
    exact (ih _ hu.2).trans (ent_askReset_ne h hu.1)

theorem ttState_resetAll_stopping {l : List Nat} {t : Nat} {h : Hw} (hs : ttState (h.ent t) = 3) :
    ttState ((resetAll l h).ent t) = 3 := by
  induction l generalizing h with
  | nil => exact hs
  | cons u l ih =>
    refine ih ?_
    by_cases htu : t = u
    · exact htu ▸ ttState_askReset (.inr hs)
    · rw [ent_askReset_ne h htu, hs]

theorem ttState_resetAll_bound {l : List Nat} {t : Nat} {h : Hw} (ht : t ∈ l) (hs : ttState (h.ent t) = 2) :
    ttState ((resetAll l h).ent t) = 3 := by
  induction l generalizing h with
  | nil => cases ht
  | cons u l ih =>
    by_cases htu : t = u
    · subst htu
      exact ttState_resetAll_stopping (l := l) (ttState_askReset (.inl hs))
    · exact ih (List.mem_of_ne_of_mem htu ht) (by rw [ent_askReset_ne h htu, hs])

/-- R61, R374: the effect of a secondary bus reset of a bound vPPB on the tenant table is that of the tenant's reset. -/
theorem tt_secondaryReset {s : State} {port vppb t : Nat} (ht : s.mach.hw.tenantAt port vppb = some t) :
    Completes (.secondaryBusReset port vppb) s (fun m => m.hw.bd.tt = (askReset t s.mach.hw).2.bd.tt ∧ m.mem = s.mach.mem) := by
  have hexec : exec (.secondaryBusReset port vppb) s = execSecondaryBusReset port vppb s := rfl
  rw [execSecondaryBusReset] at hexec
  refine completes_onHw hexec ?_
  rw [Mach.onHw_hw, Mach.onHw_mem]
  refine ⟨?_, rfl⟩
  simp only [ht]
  split
  · exact tt_perstLow _ _
  · rfl

/-! ### Drain marks (R67 to R69) -/

theorem fget_visEval_ne (h : Hw) (t : Nat) {g : Fld} {j : Nat} (hk : fkey F.BD_TDRAIN_VIS t ≠ fkey g j) :
    (h.visEval t).fget g j = h.fget g j := by
  unfold Hw.visEval
  split
  · rfl
  · exact Hw.fget_fset_ne _ _ hk

theorem fget_visEval (h : Hw) (t : Nat) : (h.visEval t).fget F.BD_TDRAIN_VIS t =
    if h.bd.writes.any (fun r => r.tid == t && r.marked && !r.visible) then h.fget F.BD_TDRAIN_VIS t else 1 := by
  unfold Hw.visEval
  split
  · rfl
  · exact Hw.fget_fset_same _ _ _ _

/-- After ARM every write of the tenant lies under the mark. -/
theorem any_marked_map (l : List WRec) (t : Nat) :
    (l.map (fun r => if r.tid == t then { r with marked := true } else r)).any (fun r => r.tid == t && r.marked && !r.visible) =
    l.any (fun r => r.tid == t && !r.visible) := by
  rw [List.any_map]
  congr 1
  funext r
  cases hr : r.tid == t
  · simp only [Function.comp, hr, Bool.false_eq_true, if_false, Bool.false_and]
  · simp only [Function.comp, hr, if_true, Bool.true_and]

/-- After a write is visible, it no longer holds the mark back. -/
theorem any_visible_map (l : List WRec) (t i : Nat) :
    (l.map (fun r => if r.tid == t && r.wid == i then { r with visible := true } else r)).any
      (fun r => r.tid == t && r.marked && !r.visible) =
    l.any (fun r => r.tid == t && r.marked && !r.visible && r.wid != i) := by
  rw [List.any_map]
  congr 1
  funext r
  cases hr : r.tid == t
  · simp only [Function.comp, hr, Bool.false_eq_true, if_false, Bool.false_and]
  · cases hi : r.wid == i
    · simp only [Function.comp, hr, hi, bne, Bool.false_eq_true, if_false, Bool.true_and, Bool.and_false, Bool.not_false, Bool.and_true]
    · simp only [Function.comp, hr, hi, bne, if_true, Bool.and_self, Bool.not_true, Bool.and_false]

/-- Fields other than those of the mark keep their value. -/
theorem fieldsKept_armDrain (m : Mach) (t : Nat) :
    FieldsKept [(F.BD_TDRAIN_LOSS, t), (F.BD_TDRAIN_VIS, t)] m (m.onHw (fun h => h.armDrain t)) := by
  intro g j hk
  simp only [List.forall_mem_cons] at hk
  obtain ⟨hloss, hvis, -⟩ := hk
  rw [Mach.onHw_hw, Hw.armDrain, fget_visEval_ne _ _ hvis, Hw.fget_fset_ne _ _ hvis, Hw.fget_fset_ne _ _ hloss]
  rfl

theorem fget_armDrain (h : Hw) {t : Nat} (ht : t < 8192) : (h.armDrain t).fget F.BD_TDRAIN_LOSS t = 0 ∧
    (h.armDrain t).fget F.BD_TDRAIN_VIS t = if h.bd.writes.any (fun w => w.tid == t && !w.visible) then 0 else 1 := by
  have hk : fkey F.BD_TDRAIN_VIS t ≠ fkey F.BD_TDRAIN_LOSS t := fkey_ne (by decide) (by omega) (by omega)
  rw [Hw.armDrain, fget_visEval_ne _ _ hk, Hw.fget_fset_ne _ _ hk, Hw.fget_fset_same, fget_visEval, Hw.fget_fset_same]
  exact ⟨rfl, by simp only [Hw.fset_bd, any_marked_map, Nat.zero_mod]⟩

/-- What a write that is gone leaves of the drain counter and the mark (R67 to R69). -/
theorem fget_writeGone (h : Hw) {t : Nat} (ht : t < 8192) (np : Bool) :
    (h.writeGone t np).fget F.BD_TDRAIN_VIS t =
      (if h.bd.writes.any (fun r => r.tid == t && r.marked && !r.visible) then h.fget F.BD_TDRAIN_VIS t else 1) ∧
    (h.writeGone t np).fget F.BD_TDRAIN_OUT t =
      if np then h.fget F.BD_TDRAIN_OUT t else (h.fget F.BD_TDRAIN_OUT t - 1) % 2 ^ 20 := by
  have hk : fkey F.BD_TDRAIN_VIS t ≠ fkey F.BD_TDRAIN_OUT t := fkey_ne (by decide) (by omega) (by omega)
  rw [Hw.writeGone, fget_visEval, fget_visEval_ne _ _ hk]
  cases np with
  | true => exact ⟨rfl, rfl⟩
  | false =>
    simp only [Bool.false_eq_true, if_false, Hw.outDec, Hw.fset_bd, Hw.fget_fset_same, Hw.fget_fset_ne _ _ hk.symm, true_and]
    rfl

theorem fieldsKept_writeGone (m : Mach) (t : Nat) (np : Bool) :
    FieldsKept [(F.BD_TDRAIN_OUT, t), (F.BD_TDRAIN_VIS, t)] m (m.onHw (fun h => h.writeGone t np)) := by
  intro g j hk
  simp only [List.forall_mem_cons] at hk
  obtain ⟨hout, hvis, -⟩ := hk
  rw [Mach.onHw_hw, Hw.writeGone, fget_visEval_ne _ _ hvis]
  cases np with
  | true => rfl
  | false => exact Hw.fget_fset_ne _ _ hout

theorem tdrainArm_completes (s : State) {tid : Nat} (ht : tid < 8192) :
    Completes (.bdTdrainArm tid) s (fun m =>
      m.hw.fget F.BD_TDRAIN_LOSS tid = 0 ∧
      m.hw.fget F.BD_TDRAIN_VIS tid = (if s.mach.hw.bd.writes.any (fun w => w.tid == tid && !w.visible) then 0 else 1) ∧
      FieldsKept [(F.BD_TDRAIN_LOSS, tid), (F.BD_TDRAIN_VIS, tid)] s.mach m ∧ m.mem = s.mach.mem) := by
  obtain ⟨hloss, hvis⟩ := fget_armDrain s.mach.hw ht
  exact completes_onHw (f := fun h => h.armDrain tid) rfl ⟨hloss, hvis, fieldsKept_armDrain _ _, rfl⟩

/-- The write `i` of tenant `t` marked visible. -/
def seeWrite (t i : Nat) (h : Hw) : Hw :=
  { h with bd := { h.bd with writes := h.bd.writes.map (fun r => if r.tid == t && r.wid == i then { r with visible := true } else r) } }

theorem markVisible_found {h : Hw} {t i : Nat} {x : WRec}
    (hx : h.bd.writes.find? (fun w => w.tid == t && w.wid == i && !w.visible) = some x) :
    h.markVisible t i = (seeWrite t i h).writeGone t x.np := by
  rw [Hw.markVisible, hx]
  rfl

theorem writeVisible_completes {s : State} {tid wid : Nat} (ht : tid < 8192) {x : WRec}
    (hx : s.mach.hw.bd.writes.find? (fun w => w.tid == tid && w.wid == wid && !w.visible) = some x) :
    Completes (.writeVisible tid wid) s (fun m =>
      m.hw.fget F.BD_TDRAIN_VIS tid = (if s.mach.hw.bd.writes.any (fun w => w.tid == tid && w.marked && !w.visible && w.wid != wid)
        then s.mach.hw.fget F.BD_TDRAIN_VIS tid else 1) ∧
      m.hw.fget F.BD_TDRAIN_OUT tid =
        (if x.np then s.mach.hw.fget F.BD_TDRAIN_OUT tid else (s.mach.hw.fget F.BD_TDRAIN_OUT tid - 1) % 2 ^ 20) ∧
      FieldsKept [(F.BD_TDRAIN_OUT, tid), (F.BD_TDRAIN_VIS, tid)] s.mach m ∧ m.mem = s.mach.mem) := by
  obtain ⟨hvis, hout⟩ := fget_writeGone (seeWrite tid wid s.mach.hw) ht x.np
  rw [seeWrite] at hvis
  rw [any_visible_map] at hvis
  refine completes_onHw (f := fun h => h.markVisible tid wid) rfl ?_
  rw [Mach.onHw_hw, Mach.onHw_mem, Mach.onHw, markVisible_found hx]
  exact ⟨hvis, hout, fieldsKept_writeGone (s.mach.onHw (seeWrite tid wid)) tid x.np, rfl⟩

/-- Settles O8: a reset or unbind of a BOUND tenant is its Stop step; ARM and a visible write are decided by the records of the writes. -/
theorem tenantResetsStartAndDrainMarksFollow : Obligations.TenantResetsStartAndDrainMarksFollow := by
  unfold Obligations.TenantResetsStartAndDrainMarksFollow
  refine ⟨fun s tid port vppb ht hs => ⟨fun hb => ttcmdReset_completes ht hs hb, fun hb hd => ttcmdUnbind_completes ht hs hb hd,
    fun hat => ?_, fun hmem => ?_⟩, fun s tid wid ht => ⟨tdrainArm_completes s ht, fun x hx => writeVisible_completes ht hx⟩⟩
  · obtain ⟨m, hexec, hpend, htt, hmem⟩ := tt_secondaryReset hat
    refine ⟨m, hexec, hpend, ?_, fun u hu => ?_, hmem⟩
    · rw [Hw.ent_congr htt]
      exact ttState_askReset (.inl hs)
    · rw [Hw.ent_congr htt]
      exact ent_askReset_ne _ hu
  · exact completes_onHw (f := resetVcs port) rfl
      ⟨ttState_resetAll_bound hmem hs, fun u hu => ent_resetAll_ne _ hu, rfl⟩

end Sys2Proof.Machine

namespace Sys2Proof.Machine

/-! ### The Abort step (R62) -/

@[simp] theorem tt_endAbort (eg : Nat) (m : Msg) (h : Hw) : (endAbort eg m h).bd.tt = h.bd.tt := by
  rw [endAbort, tt_endRequest, tt_loseMsg]

/-- Writes of a tenant answered, but those answered elsewhere. -/
def answerWrites (t : Nat) (queued : Nat → Bool) (l : List WRec) (h : Hw) : Hw :=
  l.foldl (fun h w => let h1 := h.discardWrite t w.wid
    if w.np || queued w.wid then h1 else respondTo t w.wid w.tc w.rsp h1) h

/-- Requests of a tenant answered, but those answered elsewhere. -/
def answerReads (t : Nat) (queued : Nat → Bool) (l : List RRec) (h : Hw) : Hw :=
  l.foldl (fun h r => if queued r.rid then h else respondTo t r.rid r.tc r.rsp h) h

theorem tt_answerWrites (t : Nat) (queued : Nat → Bool) (l : List WRec) (h : Hw) : (answerWrites t queued l h).bd.tt = h.bd.tt :=
  tt_foldl _ (fun h w => by dsimp only; split <;> simp) _ _

theorem tt_answerReads (t : Nat) (queued : Nat → Bool) (l : List RRec) (h : Hw) : (answerReads t queued l h).bd.tt = h.bd.tt :=
  tt_foldl _ (fun h r => by split <;> simp) _ _

/-- The tenant's records forgotten, and its host port's credit given back. -/
def forgetTenant (t : Nat) (gone : List (Nat × Nat)) (mine : Msg → Bool) (idle : Bool) (h2 : Hw) : Hw :=
  let h3 := { h2 with
    bd := { h2.bd with reads := h2.bd.reads.filter (fun r => r.tid != t), abandoned := h2.bd.abandoned ++ gone,
                       miss := h2.bd.miss.filter (fun x => !mine x) },
    ts := { h2.ts with pq := Store.del h2.ts.pq t, waiting := h2.ts.waiting.filter (fun e => e.msg.tid != some t) } }
  let p := ttPort (h3.ent t)
  if idle || h3.ts.waiting.any (fun e => e.msg.ing == p) then h3 else h3.emit (.creditHold p true false)

theorem tt_forgetTenant (t : Nat) (gone : List (Nat × Nat)) (mine : Msg → Bool) (idle : Bool) (h : Hw) :
    (forgetTenant t gone mine idle h).bd.tt = h.bd.tt := by
  unfold forgetTenant
  dsimp only
  split <;> rfl

/-- The requests of the tenant before they are retired: those that wait for the pacer, and those whose port's ingress waits for it. -/
def unsent (t : Nat) (h : Hw) : List EMsg := h.pq t ++ h.ts.waiting.filter (fun e => e.msg.tid == some t)

/-- The requests not yet sent discarded. -/
def dropUnsent (t : Nat) (h : Hw) : Hw := (unsent t h).foldl (fun h e => endAbort e.eg e.msg h) (h.freeN (pqCells (h.pq t)))

/-- The tenant's writes that are still to become visible. -/
def openWrites (t : Nat) (h : Hw) : List WRec := h.bd.writes.filter (fun r => r.tid == t && !r.visible)

/-- The tenant's requests that are still to complete. -/
def openReads (t : Nat) (h : Hw) : List RRec := h.bd.reads.filter (fun r => r.tid == t)

/-- The requests of the tenant answered. -/
def answerAll (t : Nat) (h : Hw) : Hw :=
  let queued := fun (i : Nat) => (unsent t h).any (fun e => e.msg.rid == i)
  answerReads t queued (openReads t (dropUnsent t h)) (answerWrites t queued (openWrites t (dropUnsent t h)) (dropUnsent t h))

theorem tt_dropUnsent (t : Nat) (h : Hw) : (dropUnsent t h).bd.tt = h.bd.tt :=
  (tt_foldl _ (fun h (e : EMsg) => tt_endAbort e.eg e.msg h) _ _).trans (congrArg BdState.tt (bd_freeN h _))

theorem tt_answerAll (t : Nat) (h : Hw) : (answerAll t h).bd.tt = h.bd.tt := by
  rw [answerAll, tt_answerReads, tt_answerWrites, tt_dropUnsent]

/-- Where no request of the tenant waits behind a translation miss, its requests are answered and forgotten, and OUT is 0. -/
theorem retireAll_idle {t : Nat} {h : Hw} (hmiss : ∀ x ∈ h.bd.miss, x.tid ≠ some t) :
    ∃ gone mine idle, retireAll t h = (forgetTenant t gone mine idle (answerAll t h)).fset F.BD_TDRAIN_OUT t 0 := by
  have hnone : ∀ p, ¬ ((h.bd.miss.find? p).any (fun x => x.tid == some t && isRequest x.cls)) = true := by
    intro p hany
    obtain ⟨x, hx, hmine⟩ := (Option.any_eq_true _ _).mp hany
    rw [Bool.and_eq_true, beq_iff_eq] at hmine
    exact hmiss x (List.mem_of_find?_eq_some hx) hmine.1
  refine ⟨(openWrites t (dropUnsent t h)).map (fun w => (t, w.wid)) ++ (openReads t (dropUnsent t h)).map (fun r => (t, r.rid)),
    fun x => x.tid == some t && isRequest x.cls, (h.ts.waiting.filter (fun e => e.msg.tid == some t)).isEmpty, ?_⟩
  unfold retireAll
  exact if_neg (hnone _)

/-- The Abort step of a tenant without jobs and without requests behind a translation miss. -/
theorem startAbort_idle {t : Nat} {m : Mach} (hjobs : m.hw.dm.jobs.any (fun x => jobNames t x.2.desc) = false) :
    startAbort t m = m.onHw (fun h => retireAll t (h.setTState t 4)) := by
  have hnone : m.hw.dm.jobs.filter (fun x => jobNames t x.2.desc) = [] := by
    rw [List.filter_eq_nil_iff]
    intro x hx
    rw [List.any_eq_false] at hjobs
    exact hjobs x hx
  rw [startAbort, abortJobs]
  simp only [Mach.onHw_hw]
  rw [show (m.hw.setTState t 4).dm = m.hw.dm from rfl, hnone]
  rfl

theorem startAbort_effect {t : Nat} {m : Mach} (hjobs : m.hw.dm.jobs.any (fun x => jobNames t x.2.desc) = false)
    (hmiss : ∀ x ∈ m.hw.bd.miss, x.tid ≠ some t) :
    ttState ((startAbort t m).hw.ent t) = 4 ∧ (startAbort t m).hw.fget F.BD_TDRAIN_OUT t = 0 := by
  obtain ⟨gone, mine, idle, hretire⟩ := retireAll_idle (h := m.hw.setTState t 4) hmiss
  have htt := (tt_forgetTenant t gone mine idle _).trans (tt_answerAll t (m.hw.setTState t 4))
  rw [startAbort_idle hjobs, Mach.onHw_hw, hretire]
  constructor
  · rw [Hw.ent_fset, Hw.ent_congr htt]
    exact ttState_setTState _ _ _
  · exact Hw.fget_fset_same _ _ _ _

/-- A fault raised leaves the tenants' drain counters. -/
theorem fget_out_raise (h : Hw) (f : FaultSrc) (t : Nat) : (h.raise f).fget F.BD_TDRAIN_OUT t = h.fget F.BD_TDRAIN_OUT t := by
  refine Hw.fget_raise _ _ ?_ ?_ <;>
  · simp only [fkey, F.FC_DROP_VAL, F.FC_STAT_LOSTHI, F.BD_TDRAIN_OUT]
    omega

/-! ### The end of the quarantine (R62, R63) -/

theorem domOf_tenant (t : Nat) : domOf (didxOf domTenant t) = if 128 + t < 8320 then 2 else 7 := by
  simp only [didxOf, domTenant, domOf]
  repeat' split
  all_goals omega

/-- What ends at a tenant's stop, outside the binding block: its place in the reclaim walks, and the reset that runs for it. -/
def stopEnded (t : Nat) (h : Hw) : Hw :=
  let h1 := { h with
    hd := { h.hd with dead := h.hd.dead.map (fun d => { d with tids := d.tids.filter (· != t) }) }
    ck := if h.ck.running = some t then { h.ck with running := none } else h.ck }
  if h.ck.running = some t then h1.fset F.CK_RSTSTAT_BUSY 0 0 else h1

theorem bd_stopEnded (t : Nat) (h : Hw) : (stopEnded t h).bd = h.bd := by
  unfold stopEnded
  dsimp only
  split <;> rfl

theorem exec_quarantineEnd {s : State} {tid : Nat} (hs : ttState (s.mach.hw.ent tid) = 5)
    (hn : ttState ((quarantineEnd tid s.mach).hw.ent tid) ≠ 5) :
    exec (.quarantineEnd tid) s = onMach (fun m => (quarantineEnd tid m).onHw (fun h =>
      if ttState ((stopEnded tid h).ent tid) = 0 then (stopEnded tid h).setDom (didxOf domTenant tid) Dom.ok
      else resetDone (didxOf domTenant tid) (stopEnded tid h))) s := by
  rw [show exec (.quarantineEnd tid) s = execQuarantineEnd tid s from rfl, execQuarantineEnd]
  refine onMach_congr ?_
  dsimp only
  rw [if_neg (by rw [not_or]; exact ⟨hn, not_not_intro hs⟩)]
  rfl

/-- A tenant's domain neither holds a link nor a Spire port. -/
theorem bd_containDom_tenant (t : Nat) (h : Hw) : (containDom (didxOf domTenant t) h).bd = h.bd := by
  have hdom := domOf_tenant t
  unfold containDom
  dsimp only
  split at hdom <;> rw [hdom] <;> split <;> rfl

theorem bd_liftDom_tenant (t : Nat) (h : Hw) : (liftDom (didxOf domTenant t) h).bd = h.bd := by
  have hdom := domOf_tenant t
  unfold liftDom
  dsimp only
  split at hdom <;> rw [hdom] <;> rfl

theorem bd_ite {c : Prop} [Decidable c] {a b h : Hw} (ha : a.bd = h.bd) (hb : b.bd = h.bd) : (if c then a else b).bd = h.bd := by
  split
  · exact ha
  · exact hb

theorem bd_leaveFault_tenant (t : Nat) (h : Hw) : (leaveFault (didxOf domTenant t) h).bd = h.bd := by
  have hdev : didxOf domTenant t ≠ 0 := by
    simp only [didxOf, domTenant]
    omega
  refine bd_ite ?_ ?_
  · rw [Hw.bd_raise, bd_containDom_tenant, Hw.setDom_bd]
  · rw [Hw.bd_raise, bd_liftDom_tenant, Hw.setDom_bd, if_neg (fun hc => hdev hc.1)]

theorem bd_resetDone_tenant (t : Nat) (h : Hw) : (resetDone (didxOf domTenant t) h).bd = h.bd := by
  unfold resetDone
  dsimp only
  have hmark : (if (h.dom (didxOf domTenant t)).reset then h.setDom (didxOf domTenant t)
      { h.dom (didxOf domTenant t) with reset := false } else h).bd = h.bd := by
    split
    · exact Hw.setDom_bd _ _ _
    · rfl
  split
  · rfl
  · split
    · rw [bd_leaveFault_tenant, hmark]
    · exact hmark

/-- The end of the quarantine leaves the binding block as the sequence's end does. -/
theorem bd_quarantineEnd {s : State} {tid : Nat} (hs : ttState (s.mach.hw.ent tid) = 5)
    (hn : ttState ((quarantineEnd tid s.mach).hw.ent tid) ≠ 5) :
    Completes (.quarantineEnd tid) s (fun m => m.hw.bd = (quarantineEnd tid s.mach).hw.bd ∧
      (ttState ((quarantineEnd tid s.mach).hw.ent tid) = 0 → m.hw.dom (didxOf domTenant tid) = Dom.ok)) := by
  refine completes_onMach (exec_quarantineEnd hs hn) ?_
  rw [Mach.onHw_hw]
  generalize (quarantineEnd tid s.mach).hw = h
  have hent : (stopEnded tid h).ent tid = h.ent tid := Hw.ent_congr (by rw [bd_stopEnded]) tid
  rw [hent]
  split
  · exact ⟨(Hw.setDom_bd _ _ _).trans (bd_stopEnded _ _), fun _ => Hw.dom_setDom_same _ _ _⟩
  · next hne => exact ⟨(bd_resetDone_tenant _ _).trans (bd_stopEnded _ _), fun h0 => absurd h0 hne⟩

/-- The sequence of tenant `t` over. -/
def endSeq (t : Nat) (h : Hw) : Hw := { h with bd := { h.bd with seqs := Store.del h.bd.seqs t } }

@[simp] theorem ent_endSeq (t u : Nat) (h : Hw) : (endSeq t h).ent u = h.ent u := rfl
@[simp] theorem seq_endSeq (t : Nat) (h : Hw) : (endSeq t h).seq t = none := Store.get?_del_same _ _

/-- The end of a reset: the tenant is BOUND in its next generation. -/
theorem quarantineEnd_reset {t : Nat} {m : Mach} {q : TSeq} (hs : ttState (m.hw.ent t) = 5) (hq : m.hw.seq t = some q)
    (hr : q.unbind = false) : quarantineEnd t m = m.onHw (fun h =>
      endSeq t (h.setEnt t (boundEnt (h.ent t) (ttGen (h.ent t) + 1)))) := by
  unfold quarantineEnd boundEnt endSeq
  rw [hq]
  dsimp only
  rw [if_neg (not_not_intro hs), if_neg (by rw [hr]; decide)]

theorem quarantineEnd_unbind {t : Nat} {m : Mach} {q : TSeq} (hs : ttState (m.hw.ent t) = 5) (hq : m.hw.seq t = some q)
    (hu : q.unbind = true) (hm : tenantMigrating m t = false) : quarantineEnd t m = unbindEnd t m := by
  unfold quarantineEnd
  rw [hq]
  dsimp only
  rw [if_neg (not_not_intro hs), if_pos hu, if_neg (by rw [hm]; decide)]

/-- The end of an unbind: of the entry only TGEN is left. -/
theorem ent_unbindEnd (t : Nat) (m : Mach) : (unbindEnd t m).hw.ent t = ttGen (m.hw.ent t) * 2 ^ 32 := by
  unfold unbindEnd
  dsimp only
  rw [Mach.onHw_hw, Hw.ent_emit, Hw.ent_setEnt_same]

theorem freeEnt_fields (e : Nat) : ttState (ttGen e * 2 ^ 32) = 0 ∧ ttGen (ttGen e * 2 ^ 32) = ttGen e := by
  have hgen : ttGen e < 16 := bits_lt _ _ _
  generalize ttGen e = g at hgen
  simp only [ttState, ttGen, bits]
  omega

/-! ### The Flush step (R62) -/

theorem bd_freeQueued (t : Nat) (h : Hw) : (freeQueued t h).bd = h.bd := by
  unfold freeQueued
  dsimp only
  rw [bd_foldl _ (fun h q => bd_leaveQueue q h), bd_foldl _ (fun h (e : EMsg) => bd_releaseCells e h)]
  exact (bd_foldl _ (fun h (x : Nat × EQ) => by rw [bd_dropDome, Hw.setEq_bd]) _ _).trans (bd_voqGone _ _)

/-- The binding block is the same but for the lines whose back-invalidation is open. -/
def FlushKept (a b : Hw) : Prop := ∃ fl, b.bd = { a.bd with flush := fl }

theorem FlushKept.of_eq {a b : Hw} (h : b.bd = a.bd) : FlushKept a b := ⟨_, h⟩

theorem FlushKept.trans {a b c : Hw} (h1 : FlushKept a b) (h2 : FlushKept b c) : FlushKept a c := by
  obtain ⟨_, h1⟩ := h1
  obtain ⟨_, h2⟩ := h2
  exact ⟨_, h2.trans (by rw [h1])⟩

theorem FlushKept.foldl {α : Type} (f : Hw → α → Hw) (hf : ∀ h x, FlushKept h (f h x)) (l : List α) (h : Hw) :
    FlushKept h (l.foldl f h) := by
  induction l generalizing h with
  | nil => exact .of_eq rfl
  | cons x l ih => exact (hf h x).trans (ih _)

theorem flushKept_flushExtent (t e : Nat) (h : Hw) : FlushKept h (flushExtent t e h) := by
  unfold flushExtent
  refine .foldl _ (fun h g => .foldl _ (fun h l => ?_) _ _) _ _
  dsimp only
  split
  · exact .of_eq rfl
  · split <;> exact ⟨_, rfl⟩

/-- The tenant's sequence in its Flush step, its cached translations dropped. -/
def flushing (t : Nat) (h : Hw) : Hw :=
  { h.uncacheAll t with
    bd := { (h.uncacheAll t).bd with seqs := Store.modify (h.uncacheAll t).bd.seqs t (fun s => { s with flushing := true }) } }

@[simp] theorem bd_paceClear (t : Nat) (h : Hw) : (paceClear t h).bd = h.bd := rfl

theorem flushKept_startFlush (t : Nat) (h : Hw) : FlushKept (flushing t h) (startFlush t h) := by
  have hbd : (flushing t (paceClear t (freeQueued t h))).bd = (flushing t h).bd := by
    simp only [flushing, Hw.uncacheAll, bd_paceClear, bd_freeQueued]
  have hstart : startFlush t h = if ttHdmDb ((flushing t (paceClear t (freeQueued t h))).ent t) then
      ((flushing t (paceClear t (freeQueued t h))).mappedBy t).foldl (fun h e => flushExtent t e h)
        (flushing t (paceClear t (freeQueued t h)))
    else flushing t (paceClear t (freeQueued t h)) := rfl
  rw [hstart]
  generalize flushing t (paceClear t (freeQueued t h)) = g at hbd ⊢
  split
  · exact (FlushKept.of_eq hbd).trans (.foldl _ (fun h e => flushKept_flushExtent t e h) _ _)
  · exact .of_eq hbd

theorem get?_dropWhere {α : Type} {m : SMap α} {p : Nat → Bool} {k : Nat} (hk : p k = true) :
    Store.get? (Store.dropWhere m p) k = none := by
  induction m with
  | nil => rfl
  | cons x m ih =>
    rw [Store.dropWhere, List.filter_cons]
    split
    · next hx =>
      have hne : x.1 ≠ k := by
        rintro rfl
        rw [hk] at hx
        cases hx
      rw [Store.get?, if_neg hne]
      exact ih
    · exact ih

theorem cached_flushing (t : Nat) (h : Hw) {e : Nat} (he : e < 2 ^ 26) : (flushing t h).cached t e = none := by
  have hkey : (xcKey t e / 2 ^ 26 == t) = true := by
    rw [beq_iff_eq, xcKey]
    omega
  exact get?_dropWhere (m := h.bd.xc) (p := fun k => k / 2 ^ 26 == t) hkey

theorem seq_flushing {t : Nat} {h : Hw} (hs : (h.seq t).isSome = true) :
    ((flushing t h).seq t).any (fun q => q.flushing) = true := by
  obtain ⟨q, hq⟩ := Option.isSome_iff_exists.mp hs
  have hq' : Store.get? (h.uncacheAll t).bd.seqs t = some q := hq
  rw [Hw.seq, flushing, Store.modify]
  simp only [hq', Store.get?_put_same]
  rfl

theorem bdKept_rechain (qid : Nat) (old : List Nat) (m : Mach) : BdKept m (rechain qid old m) :=
  .foldl _ (fun m _ => bdKept_poke m _ _ _ _) _ _

theorem bdKept_rechainAll (h : Hw) (m : Mach) : BdKept m (rechainAll h m) := .foldl _ (fun m _ => bdKept_rechain _ _ m) _ _

/-- What the Flush step leaves of the tenant table, the sequence and the translation cache. -/
theorem abortEnd_effect (t : Nat) (m : Mach) :
    let r := rechainAll m.hw (m.onHw (startFlush t))
    (∀ u, r.hw.ent u = m.hw.ent u) ∧ r.hw.seq t = (flushing t m.hw).seq t ∧
    ∀ e, r.hw.cached t e = (flushing t m.hw).cached t e := by
  have hkept := bdKept_rechainAll m.hw (m.onHw (startFlush t))
  obtain ⟨fl, hbd⟩ := flushKept_startFlush t m.hw
  refine ⟨fun u => ?_, ?_, fun e => ?_⟩
  · rw [hkept.ent, Mach.onHw_hw]
    exact Hw.ent_congr (by rw [hbd]; rfl) u
  · rw [Hw.seq, hkept.seqs, Mach.onHw_hw, hbd]
    rfl
  · rw [Hw.cached, hkept.xc, Mach.onHw_hw, hbd]
    rfl

/-! ### O9 -/

theorem exec_tenantDrainEnd {s : State} {tid : Nat} (hs : ttState (s.mach.hw.ent tid) = 3)
    (hout : s.mach.hw.fget F.BD_TDRAIN_OUT tid = 0) : exec (.tenantDrainEnd tid) s = onMach (startAbort tid) s := by
  rw [show exec (.tenantDrainEnd tid) s = execTenantDrainEnd tid s from rfl, execTenantDrainEnd]
  exact onMach_congr (if_pos ⟨hs, hout⟩)

/-- The drain's time-out is its end, reported where the counter is not 0. -/
theorem exec_tenantDrainTimeout {s : State} {tid : Nat} (hs : ttState (s.mach.hw.ent tid) = 3) :
    ∃ f : Option FaultSrc, exec (.tenantDrainTimeout tid) s =
      onMach (fun m => (startAbort tid m).onHw (fun h => f.elim h h.raise)) s := by
  have hexec : exec (.tenantDrainTimeout tid) s = execTenantDrainTimeout tid s := rfl
  rw [hexec, execTenantDrainTimeout]
  by_cases hn : s.mach.hw.fget F.BD_TDRAIN_OUT tid = 0
  · exact ⟨none, onMach_congr ((if_pos hs).trans (if_pos hn))⟩
  · exact ⟨some _, onMach_congr ((if_pos hs).trans (if_neg hn))⟩

theorem exec_tenantAbortEnd {s : State} {tid : Nat} (hs : ttState (s.mach.hw.ent tid) = 4)
    (hq : (s.mach.hw.seq tid).any (fun q => !q.flushing) = true)
    (hjobs : s.mach.hw.dm.jobs.any (fun x => jobNames tid x.2.desc) = false) :
    exec (.tenantAbortEnd tid) s = onMach (fun m => rechainAll m.hw (m.onHw (startFlush tid))) s := by
  rw [show exec (.tenantAbortEnd tid) s = execTenantAbortEnd tid s from rfl, execTenantAbortEnd]
  exact onMach_congr (if_pos ⟨hs, hq, by rw [hjobs]; rfl⟩)

theorem tenantFlushEnd_completes {s : State} {tid : Nat} (hs : ttState (s.mach.hw.ent tid) = 4)
    (hq : (s.mach.hw.seq tid).any (fun q => q.flushing) = true) (hflush : s.mach.hw.bd.flush.any (fun x => x.2.1 == tid) = false) :
    Completes (.tenantFlushEnd tid) s (fun m => ttState (m.hw.ent tid) = 5 ∧
      (∀ u, u ≠ tid → m.hw.ent u = s.mach.hw.ent u) ∧ m.mem = s.mach.mem) := by
  have hexec : exec (.tenantFlushEnd tid) s = execTenantFlushEnd tid s := rfl
  rw [execTenantFlushEnd] at hexec
  refine completes_onHw hexec ?_
  rw [Mach.onHw_hw, if_pos ⟨hs, hq, by rw [hflush]; rfl⟩]
  exact ⟨ttState_setTState _ _ _, fun u hu => Hw.ent_setEnt_ne _ _ hu, rfl⟩

theorem resetQuarantine_completes {s : State} {tid : Nat} {q : TSeq} (hs : ttState (s.mach.hw.ent tid) = 5)
    (hq : s.mach.hw.seq tid = some q) (hr : q.unbind = false) :
    Completes (.quarantineEnd tid) s (fun m =>
      m.hw.ent tid = boundEnt (s.mach.hw.ent tid) (ttGen (s.mach.hw.ent tid) + 1) ∧
      (∀ u, u ≠ tid → m.hw.ent u = s.mach.hw.ent u) ∧ m.hw.seq tid = none) := by
  have hend := quarantineEnd_reset hs hq hr
  have hent : ∀ u, (quarantineEnd tid s.mach).hw.ent u =
      (s.mach.hw.setEnt tid (boundEnt (s.mach.hw.ent tid) (ttGen (s.mach.hw.ent tid) + 1))).ent u := by
    intro u
    rw [hend, Mach.onHw_hw, ent_endSeq]
  have hseq : (quarantineEnd tid s.mach).hw.seq tid = none := by
    rw [hend, Mach.onHw_hw, seq_endSeq]
  have hbound : ttState ((quarantineEnd tid s.mach).hw.ent tid) = 2 := by
    rw [hent, Hw.ent_setEnt_same, ttState_boundEnt]
  obtain ⟨m, hexec, hpend, hbd, -⟩ := bd_quarantineEnd hs (by rw [hbound]; decide)
  refine ⟨m, hexec, hpend, ?_, fun u hu => ?_, ?_⟩
  · rw [Hw.ent_congr (congrArg BdState.tt hbd), hent, Hw.ent_setEnt_same]
  · rw [Hw.ent_congr (congrArg BdState.tt hbd), hent, Hw.ent_setEnt_ne _ _ hu]
  · rw [Hw.seq, hbd]
    exact hseq

theorem unbindQuarantine_completes {s : State} {tid : Nat} {q : TSeq} (hs : ttState (s.mach.hw.ent tid) = 5)
    (hq : s.mach.hw.seq tid = some q) (hu : q.unbind = true) (hm : tenantMigrating s.mach tid = false) :
    Completes (.quarantineEnd tid) s (fun m => ttState (m.hw.ent tid) = 0 ∧ ttGen (m.hw.ent tid) = ttGen (s.mach.hw.ent tid) ∧
      m.hw.dom (didxOf domTenant tid) = Dom.ok) := by
  obtain ⟨hstate, hgen⟩ := freeEnt_fields (s.mach.hw.ent tid)
  rw [← ent_unbindEnd, ← quarantineEnd_unbind hs hq hu hm] at hstate hgen
  obtain ⟨m, hexec, hpend, hbd, hdom⟩ := bd_quarantineEnd hs (by rw [hstate]; decide)
  have hent := Hw.ent_congr (congrArg BdState.tt hbd) tid
  exact ⟨m, hexec, hpend, hent ▸ hstate, hent ▸ hgen, hdom hstate⟩

/-- Settles O9: each step of the sequence by the view of the binding block that it changes; what it does elsewhere keeps that block. -/
theorem tenantSequenceSteps : Obligations.TenantSequenceSteps := by
  unfold Obligations.TenantSequenceSteps
  intro s tid q
  refine ⟨fun hs hout hjobs hmiss => completes_onMach (exec_tenantDrainEnd hs hout) (startAbort_effect hjobs hmiss),
    fun hs hjobs hmiss => ?_, fun hs hq hjobs => ?_, tenantFlushEnd_completes, fun hs hq hr => ?_, unbindQuarantine_completes⟩
  · obtain ⟨f, hexec⟩ := exec_tenantDrainTimeout hs
    obtain ⟨hstate, hout⟩ := startAbort_effect hjobs hmiss
    refine completes_onMach hexec ?_
    cases f with
    | none => exact ⟨hstate, hout⟩
    | some f =>
      have hent := Hw.ent_congr (congrArg BdState.tt (Hw.bd_raise (startAbort tid s.mach).hw f)) tid
      rw [Mach.onHw_hw, Option.elim_some, hent, fget_out_raise]
      exact ⟨hstate, hout⟩
  · obtain ⟨hent, hseq, hcached⟩ := abortEnd_effect tid s.mach
    refine completes_onMach (exec_tenantAbortEnd hs hq hjobs) ⟨?_, ?_, fun e he => ?_⟩
    · rw [hent, hs]
    · rw [hseq]
      refine seq_flushing ?_
      obtain ⟨q, hq, -⟩ := (Option.any_eq_true _ _).mp hq
      exact Option.isSome_iff_exists.mpr ⟨q, hq⟩
    · rw [hcached, cached_flushing _ _ he]
  · obtain ⟨m, hexec, hpend, hent, hothers, hseq⟩ := resetQuarantine_completes hs hq hr
    exact ⟨m, hexec, hpend, by rw [hent, ttState_boundEnt], by rw [hent, ttGen_boundEnt], hothers, hseq⟩

end Sys2Proof.Machine

namespace Sys2Proof.Machine

/-! ### A host port's request taken in (R179) -/

theorem onHw_congr {f g : Hw → Hw} {s : State} (h : f s.mach.hw = g s.mach.hw) : onHw f s = onHw g s := by
  rw [onHw, onHw, h]

/-- The memory request of a message with the tenant that the vPPB is bound to. -/
def vppbReq (t : Option Nat) (r : MemReq) : MemReq :=
  match t with
  | some t => { r with tid := t }
  | none => r

/-- The message of a host port's request as ingress takes it in. -/
def vppbMsg (port : Nat) (t : Option Nat) (m : Msg) (h : Hw) : Msg :=
  { m with ing := port, tid := t, req := m.req.map (vppbReq t), itime := h.itime, part := false }

theorem queueSet_fabric {h : Hw} {port : Nat} (hport : port < 72) (hown : xpOwner h port = port) : queueSet h port = port := by
  rw [queueSet, if_pos (by omega), hown]

/-- A whole new request is taken in. -/
theorem exec_cxlMem {s : State} {port vppb : Nat} {m : Msg} (hport : port < 72) (hown : xpOwner s.mach.hw port = port)
    (hbad : m.bad = false) (hopen : tailOpen s.mach.hw port m.rid = false) :
    exec (.cxlMemM2sRequest port vppb m) s = onHw (fun h => takeIn (vppbMsg port (h.tenantAt port vppb) m h) h) s := by
  rw [show exec (.cxlMemM2sRequest port vppb m) s = execCxlMemM2sRequest port vppb m s from rfl, execCxlMemM2sRequest]
  refine onHw_congr ?_
  dsimp only
  rw [ingress]
  dsimp only
  rw [queueSet_fabric hport hown, if_neg (by simp [hbad]), if_neg (by simp [hopen])]
  rfl

/-- What the statement fixes of a host's read: its class, and the IDE, whose stream it does not use. -/
structure HostRead (h : Hw) (port : Nat) (m : Msg) (q : MemReq) : Prop where
  fabric : port < 72
  owner : xpOwner h port = port
  open_ : h.flag F.FP_PCFG_IDEREQ port = false
  cls : m.cls = .memReqD
  ide : m.ide = none
  req : m.req = some q
  kind : q.kind = .memRd

theorem ideAdmits_open {h : Hw} {n : Nat} (m : Msg) (hopen : n < 72 → h.flag F.FP_PCFG_IDEREQ n = false) : ideAdmits h n m = true := by
  unfold ideAdmits
  by_cases hn : n < 72
  · rw [hopen hn]
    simp
  · simp [hn]

/-- A read is no flushed line. -/
theorem flushWrite_read {h : Hw} {port : Nat} {m : Msg} {q : MemReq} (hr : HostRead h port m q) (t : Nat) :
    flushWrite h (vppbMsg port (some t) m h) t = false := by
  simp [flushWrite, vppbMsg, vppbReq, hr.req, hr.kind]

/-- A read on no IDE stream passes the link's checks as a request of a fabric port. -/
theorem takeIn_checks {h : Hw} {port : Nat} {m : Msg} {q : MemReq} (hr : HostRead h port m q) (t : Option Nat) :
    ideLost h (vppbMsg port t m h) = false ∧ macWaits h (vppbMsg port t m h) = false ∧
    ideAdmits h port (vppbMsg port t m h) = true ∧ isAbandoned h (vppbMsg port t m h) = false ∧
    isRequest (vppbMsg port t m h).cls = true ∧ isMem (vppbMsg port t m h).cls = true := by
  have hide : (vppbMsg port t m h).ide = none := hr.ide
  have hcls : (vppbMsg port t m h).cls = .memReqD := hr.cls
  refine ⟨?_, ?_, ideAdmits_open _ (fun _ => hr.open_), ?_, ?_, ?_⟩
  · rw [ideLost, hide]
  · rw [macWaits, hide]
  · rw [isAbandoned, hcls]
    rfl
  · rw [hcls]
    rfl
  · rw [hcls]
    rfl

/-- A read of an unbound vPPB of a host port is refused. -/
theorem takeIn_unbound {h : Hw} {port : Nat} {m : Msg} {q : MemReq} (hr : HostRead h port m q) (hrole : h.role port = 1) :
    takeIn (vppbMsg port none m h) h = refuse (vppbMsg port none m h) h := by
  obtain ⟨hlost, hmac, hide, haband, hreq, hmem⟩ := takeIn_checks hr none
  have hing : (vppbMsg port none m h).ing = port := rfl
  have htid : (vppbMsg port none m h).tid = none := rfl
  have hfab := hr.fabric
  generalize vppbMsg port none m h = x at hlost hmac hide haband hreq hmem hing htid ⊢
  simp [takeIn, hlost, hmac, hide, haband, hreq, hmem, hing, htid, hfab, hrole]

/-- A read of a tenant that is not FREE, on its own port, is refused or accepted. -/
theorem takeIn_tenant {h : Hw} {port t : Nat} {m : Msg} {q : MemReq} (hr : HostRead h port m q) (hs : ttState (h.ent t) ≠ 0)
    (hp : ttPort (h.ent t) = port) : takeIn (vppbMsg port (some t) m h) h =
      if refused h t then refuse (vppbMsg port (some t) m h) h else tenantReq (vppbMsg port (some t) m h) t h := by
  obtain ⟨hlost, hmac, hide, haband, hreq, hmem⟩ := takeIn_checks hr (some t)
  have hflush := flushWrite_read hr t
  have hing : (vppbMsg port (some t) m h).ing = port := rfl
  have htid : (vppbMsg port (some t) m h).tid = some t := rfl
  have hfab := hr.fabric
  generalize vppbMsg port (some t) m h = x at hlost hmac hide haband hreq hmem hflush hing htid ⊢
  simp [takeIn, hlost, hmac, hide, haband, hreq, hing, htid, hfab, hs, hp, hflush]

/-! ### An answer with poison (R41, R62, R657) -/

theorem queueSet_emit (h : Hw) (e : Emit) (n : Nat) : queueSet (h.emit e) n = queueSet h n := rfl

/-- What an answer with poison leaves: the response, and its message in the VOQ for the port's own queue set. -/
structure Poisoned (port rid : Nat) (tag : Option TagRsp) (a b : Hw) : Prop where
  out : b.out = .rsp rid .poison :: a.out
  voq : ∃ e : EMsg, b.sw.voq = a.sw.voq ++ [e] ∧ e.rsp = some ⟨.poison, none⟩ ∧ e.eg = port ∧ e.msg.rid = rid ∧ e.msg.tag = tag

theorem respond_poison (src : Nat) (m : Msg) (h : Hw) : respond src m .poison none h =
    toVoq (replyMsg src m .poison none .s2m 80 (h.emit (.rsp m.rid .poison))) (h.emit (.rsp m.rid .poison)) := rfl

theorem poisoned_respond {port : Nat} {m : Msg} {h : Hw} (hq : queueSet h m.ing = port) (src : Nat) :
    Poisoned port m.rid m.tag h (respond src m .poison none h) := by
  rw [respond_poison]
  exact ⟨rfl, _, rfl, rfl, (queueSet_emit _ _ _).trans hq, rfl, rfl⟩

theorem respond_poison_frame (src : Nat) (m : Msg) (h : Hw) : let r := respond src m .poison none h
    r.regs = h.regs ∧ r.fc = h.fc ∧ r.bd = h.bd := by
  rw [respond_poison]
  exact ⟨rfl, rfl, rfl⟩

/-- A refused read ends with poison and is counted in BD_STOPREJ. -/
theorem refuse_effect {h : Hw} {port : Nat} {m : Msg} {q : MemReq} (hr : HostRead h port m q) (t : Option Nat) :
    Poisoned port m.rid m.tag h (refuse (vppbMsg port t m h) h) ∧
    (refuse (vppbMsg port t m h) h).fget F.BD_STOPREJ_VAL 0 = min (h.fget F.BD_STOPREJ_VAL 0 + 1) (2 ^ 32 - 1) ∧
    (refuse (vppbMsg port t m h) h).fc = h.fc ∧
    ∀ g j, fkey F.BD_STOPREJ_VAL 0 ≠ fkey g j → (refuse (vppbMsg port t m h) h).fget g j = h.fget g j := by
  have hrsp : discardRsp (vppbMsg port t m h).cls = .poison := by
    rw [show (vppbMsg port t m h).cls = .memReqD from hr.cls]
    rfl
  have hpois := poisoned_respond (m := vppbMsg port t m h) (queueSet_fabric hr.fabric hr.owner) port
  obtain ⟨hregs, hfc, -⟩ := respond_poison_frame port (vppbMsg port t m h) h
  rw [refuse, hrsp]
  refine ⟨⟨hpois.out, hpois.voq⟩, ?_, hfc, fun g j hk => ?_⟩
  · rw [Hw.fget_fadd_same]
    exact congrArg (fun n => min (n + 1) (2 ^ 32 - 1)) (Hw.fget_congr hregs _ _)
  · exact (Hw.fget_fadd_ne _ _ hk).trans (Hw.fget_congr hregs _ _)

/-! ### An accepted read (R40, R67, R69) -/

/-- The accepted read's record, which it keeps until its completion leaves. -/
def readRec (t : Nat) (m : Msg) : RRec := { tid := t, rid := m.rid, rsp := .poison, tc := m.tc }

/-- What the acceptance of a read, and its route, leave: the outputs, the records of the tenants' requests, and the registers but the
tenant's drain counter. -/
structure Accepted (t : Nat) (a b : Hw) : Prop where
  frame : ∃ r o ws rs, b = { a with regs := r, out := o, bd := { a.bd with writes := ws, reads := rs } }
  fields : ∀ g j, fkey F.BD_TDRAIN_OUT t ≠ fkey g j → b.fget g j = a.fget g j

theorem accept_read {t : Nat} {m : Msg} {q : MemReq} {h : Hw} (hreq : m.req = some q) (hkind : q.kind = .memRd)
    (hcls : m.cls = .memReqD) : accept m t h =
      { h.fadd F.BD_TDRAIN_OUT t 1 with bd := { h.bd with writes := h.bd.writes ++ [], reads := h.bd.reads ++ [readRec t m] } } := by
  have hw : msgWrites m = false := by
    rw [msgWrites, hreq]
    simp only [hkind]
    rfl
  unfold accept
  simp only [hw, hcls, Bool.false_eq_true, if_false, Bool.false_and]
  rfl

theorem accepted_accept {t : Nat} {m : Msg} {q : MemReq} {h : Hw} (hreq : m.req = some q) (hkind : q.kind = .memRd)
    (hcls : m.cls = .memReqD) : Accepted t h (accept m t h) := by
  rw [accept_read hreq hkind hcls]
  exact ⟨⟨_, _, _, _, rfl⟩, fun g j hk => Hw.fget_fadd_ne _ _ hk⟩

theorem out_accept {t : Nat} {m : Msg} {q : MemReq} {h : Hw} (hreq : m.req = some q) (hkind : q.kind = .memRd)
    (hcls : m.cls = .memReqD) (hmax : h.fget F.BD_TDRAIN_OUT t < 2 ^ 20 - 1) :
    (accept m t h).fget F.BD_TDRAIN_OUT t = h.fget F.BD_TDRAIN_OUT t + 1 := by
  rw [accept_read hreq hkind hcls]
  refine (Hw.fget_fadd_same h F.BD_TDRAIN_OUT t 1).trans ?_
  exact Nat.min_eq_left (by simp only [F.BD_TDRAIN_OUT] at hmax ⊢; omega)

section
variable {t : Nat} {a b : Hw}

theorem Accepted.emit (h : Accepted t a b) (e : Emit) : Accepted t a (b.emit e) := by
  obtain ⟨⟨r, o, ws, rs, rfl⟩, hf⟩ := h
  exact ⟨⟨_, _, _, _, rfl⟩, hf⟩

/-- A field of another register reads as before, at an instance in range. -/
theorem Accepted.fget (h : Accepted t a b) (ht : t < 8192) {f : Fld} (hf : f.id ≠ F.BD_TDRAIN_OUT.id) {i : Nat} (hi : i < 65536) :
    b.fget f i = a.fget f i := h.fields f i (fkey_ne (Ne.symm hf) (by omega) hi)

theorem Accepted.ent (h : Accepted t a b) (u : Nat) : b.ent u = a.ent u := by
  obtain ⟨⟨r, o, ws, rs, rfl⟩, -⟩ := h
  rfl

theorem Accepted.sw (h : Accepted t a b) : b.sw = a.sw := by
  obtain ⟨⟨r, o, ws, rs, rfl⟩, -⟩ := h
  rfl

theorem Accepted.ag (h : Accepted t a b) : b.ag = a.ag := by
  obtain ⟨⟨r, o, ws, rs, rfl⟩, -⟩ := h
  rfl

theorem Accepted.fp (h : Accepted t a b) : b.fp = a.fp := by
  obtain ⟨⟨r, o, ws, rs, rfl⟩, -⟩ := h
  rfl

theorem Accepted.ts (h : Accepted t a b) : b.ts = a.ts := by
  obtain ⟨⟨r, o, ws, rs, rfl⟩, -⟩ := h
  rfl

theorem Accepted.fc (h : Accepted t a b) : b.fc = a.fc := by
  obtain ⟨⟨r, o, ws, rs, rfl⟩, -⟩ := h
  rfl

theorem Accepted.miss (h : Accepted t a b) : b.bd.miss = a.bd.miss := by
  obtain ⟨⟨r, o, ws, rs, rfl⟩, -⟩ := h
  rfl

theorem Accepted.cached (h : Accepted t a b) (u e : Nat) : b.cached u e = a.cached u e := by
  obtain ⟨⟨r, o, ws, rs, rfl⟩, -⟩ := h
  rfl

theorem Accepted.queueSet (h : Accepted t a b) (n : Nat) : queueSet b n = queueSet a n := by
  unfold Machine.queueSet xpOwner Hw.portWidth
  rw [h.fp]

theorem Accepted.egressOf (h : Accepted t a b) (ht : t < 8192) (i : Nat) : egressOf b i = egressOf a i := by
  have hroute : b.route i = a.route i := by rw [Hw.route, Hw.route, h.sw]
  unfold Machine.egressOf
  rw [hroute]
  dsimp only
  have hstate : rtTarget (a.route i) < 8192 := bits_lt _ _ _
  rw [h.fget ht (by decide) (i := (rtTarget (a.route i) - 72) / 2) (by omega)]

theorem Accepted.poolRoute (h : Accepted t a b) (ht : t < 8192) (g : Nat) : poolRoute b g = poolRoute a g := by
  unfold Machine.poolRoute Hw.sid
  rw [h.fget ht (by decide) (by decide)]

theorem Accepted.tenantGReq (h : Accepted t a b) (q : MemReq) : tenantGReq b q = tenantGReq a q := by
  unfold Machine.tenantGReq reqPriv
  rw [h.ent]

theorem Accepted.paceRate (h : Accepted t a b) (ht : t < 8192) : paceRate b t = paceRate a t := by
  unfold Machine.paceRate Hw.flag
  rw [h.ts, h.fget ht (by decide) (i := 0) (by decide), h.fget ht (by decide) (i := t) (by omega)]

theorem Accepted.firstMatch (h : Accepted t a b) (space addr i n : Nat) : firstMatch b space addr i n = firstMatch a space addr i n := by
  induction n generalizing i with
  | zero => rfl
  | succ n ih => rw [Machine.firstMatch, Machine.firstMatch, Hw.desc, Hw.desc, h.ag, ih]

theorem Accepted.checkPart (h : Accepted t a b) (ht : t < 8192) {g : GReq} (hg : g.tid = some t) (addr : Nat) :
    checkPart b g addr = checkPart a g addr := by
  have hset : b.setOf g.tid = a.setOf g.tid := by rw [hg, Hw.setOf, Hw.setOf, h.ent]
  have hdef : b.defMap g.tid = a.defMap g.tid := by
    rw [hg]
    simp only [Hw.defMap, Hw.flag]
    rw [h.fget ht (f := F.AG_TDEF_R) (by decide) (i := t) (by omega), h.fget ht (f := F.AG_TDEF_W) (by decide) (i := t) (by omega),
      h.fget ht (f := F.AG_TDEF_X) (by decide) (i := t) (by omega)]
  have hunlock : b.unlockedL2Customer = a.unlockedL2Customer := by
    rw [Hw.unlockedL2Customer, Hw.unlockedL2Customer, h.fget ht (by decide) (by decide), h.fget ht (by decide) (by decide)]
  have hdesc : b.desc = a.desc := funext fun i => by rw [Hw.desc, Hw.desc, h.ag]
  have hmatch : Machine.firstMatch b = Machine.firstMatch a := by
    funext space addr i n
    exact h.firstMatch space addr i n
  unfold Machine.checkPart
  rw [hset, hdef, hunlock, hmatch, hdesc]

theorem Accepted.guardParts (h : Accepted t a b) (ht : t < 8192) {g : GReq} (hg : g.tid = some t) : guardParts b g = guardParts a g := by
  have hparts : ∀ n addr len, checkParts b g addr len n = checkParts a g addr len n := by
    intro n
    induction n with
    | zero => exact fun _ _ => rfl
    | succ n ih =>
      intro addr len
      rw [checkParts, checkParts]
      dsimp only
      rw [h.checkPart ht hg, ih]
  rw [Machine.guardParts, Machine.guardParts, hparts]

end

/-! ### A translation fault (R41) -/

/-- The message of a fault that this module raises (R446 to R450). -/
def faultMsg (f : FaultSrc) (h : Hw) : FMsg :=
  { time := h.stime, addr := f.addr % 2 ^ 64, code := f.code, master := f.master, srcunit := f.unit,
    atype := f.atype, domain := f.dom, held := f.held, dinst := f.dinst, origin := h.sid, remote := 0, seq := 0 }

/-- A fault message raised into a queue with room is its last. -/
theorem raise_room {h : Hw} {f : FaultSrc} (hq : (h.queue (bits f.code 8 4)).length < 8) :
    h.raise f = h.setQueue (bits f.code 8 4) (h.queue (bits f.code 8 4) ++ [faultMsg f h]) := by
  rw [Hw.raise, Hw.enqueueFault]
  exact if_pos hq

/-- What a translation fault reports. -/
def xlateSrc (q : MemReq) : FaultSrc :=
  { code := 0x2801, dom := domTenant, dinst := q.tid, addr := q.addr, atype := kindAtype q.kind, master := q.tid }

theorem xlateSrc_queue (q : MemReq) : bits (xlateSrc q).code 8 4 = 8 := by
  rw [show (xlateSrc q).code = 0x2801 from rfl]
  decide

theorem xlateReport_eq (q : MemReq) (h : Hw) : xlateReport q h = h.raise (xlateSrc q) := rfl

/-- A translation fault of a read, reported in the tenant's domain. -/
theorem xlateEnd_effect {port : Nat} {m : Msg} {q : MemReq} {h : Hw} (hqs : queueSet h m.ing = port) (hreq : m.req = some q)
    (hkind : q.kind = .memRd) (hroom : (h.queue 8).length < 8) :
    Poisoned port m.rid m.tag h (xlateEnd m q h) ∧
    (xlateEnd m q h).fget F.BD_TDRAIN_OUT q.tid = h.fget F.BD_TDRAIN_OUT q.tid ∧
    ∃ f : FMsg, (xlateEnd m q h).queue 8 = h.queue 8 ++ [f] ∧ f.code = 0x2801 ∧ f.domain = 2 ∧ f.dinst = q.tid ∧
      f.addr = q.addr % 2 ^ 64 := by
  have hlose : loseMsg m h = h := by
    have hw : msgWrites m = false := by
      rw [msgWrites, hreq]
      simp only [hkind]
      rfl
    unfold loseMsg
    split
    · rfl
    · rw [if_pos (by rw [hw]; rfl)]
  have hrsp : faultRsp q = .poison := by rw [faultRsp, hkind]
  obtain ⟨hregs, hfc, -⟩ := respond_poison_frame m.ing m h
  have hpois := poisoned_respond hqs m.ing
  rw [xlateEnd, hlose, hrsp, xlateReport_eq]
  generalize respond m.ing m .poison none h = r at hregs hfc hpois ⊢
  have hqueue : r.queue 8 = h.queue 8 := by rw [Hw.queue, Hw.queue, hfc]
  have hraise := raise_room (h := r) (f := xlateSrc q)
  rw [xlateSrc_queue, hqueue] at hraise
  refine ⟨?_, ?_, faultMsg (xlateSrc q) r, ?_, rfl, rfl, rfl, rfl⟩
  · obtain ⟨regs, fc, hframe, -⟩ := Hw.raise_frame r (xlateSrc q)
    rw [hframe]
    exact ⟨hpois.out, hpois.voq⟩
  · rw [fget_out_raise, Hw.fget_congr hregs]
  · rw [hraise hroom]
    exact Hw.queue_setQueue_same _ _ _

/-! ### A granted read (R40, R181, R240) -/

/-- A paced message of a tenant that nothing paces enters its VOQ. -/
theorem paceAdmit_unpaced {e : EMsg} {t : Nat} {h : Hw} (htid : e.msg.tid = some t) (hpaced : paced e.msg.cls = true)
    (hing : e.msg.ing = ttPort (h.ent t)) (hrate : paceRate h t = 0) (hpq : h.pq t = [])
    (hwait : ∀ y ∈ h.ts.waiting, y.msg.tid ≠ some t) : paceAdmit e h = toVoq e h := by
  have hnone : h.ts.waiting.any (fun x => x.msg.tid == some t) = false := by
    rw [List.any_eq_false]
    exact fun y hy heq => hwait y hy (beq_iff_eq.mp heq)
  unfold paceAdmit
  simp only [htid, hpaced, hing, hnone, hpq, hrate, beq_self_eq_true, Bool.and_self, if_true, List.isEmpty_nil, Bool.not_false,
    Bool.true_or, paceSend]

/-- A message whose route entry is a valid unicast one is resolved by it. -/
theorem byIndex_unicast {m : Msg} {i : Nat} {h : Hw} (hroute : bits (h.route (i % 16384)) 0 2 = 1)
    (hide : ideAdmits h (queueSet h (egressOf h (i % 16384))) m = true) : byIndex m (some i) h = resolve m (i % 16384) [] h := by
  have hv : bitAt (h.route (i % 16384)) 0 = true := by
    simp only [bits, bitAt, beq_iff_eq] at hroute ⊢
    omega
  have hmc : bitAt (h.route (i % 16384)) 1 = false := by
    simp only [bits, bitAt, beq_eq_false_iff_ne] at hroute ⊢
    omega
  unfold byIndex
  dsimp only
  rw [if_neg (by rw [hv]; decide), if_neg (by rw [hmc]; decide), if_pos hide]

/-- A granted request of a pool tenant goes by its GPA's route index. -/
theorem guardRoute_granted {m : Msg} {q : MemReq} {gpa : Nat} {h : Hw} (hg : firstDenial (guardParts h (tenantGReq h q)) = none) :
    guardRoute m q (some gpa) h = byIndex m (some (poolRoute h gpa)) (h.emit (.routed q.rid gpa)) := by
  unfold guardRoute
  simp only [hg]

/-- A read that hits the translation cache. -/
theorem poolReq_hit {m : Msg} {q : MemReq} {t x gpa : Nat} {h : Hw} (hmiss : ∀ y ∈ h.bd.miss, y.ing ≠ m.ing)
    (hlen : q.addr / 2 ^ 21 < ttEtlen (h.ent t)) (hx : h.cached t (q.addr / 2 ^ 21) = some x) (hkind : q.kind = .memRd)
    (hgpa : xlateEntry x q.addr false = some gpa) : poolReq m q t h = guardRoute m q (some gpa) h := by
  have hnone : h.bd.miss.any (fun x => x.ing == m.ing) = false := by
    rw [List.any_eq_false]
    exact fun y hy heq => hmiss y hy (beq_iff_eq.mp heq)
  have hw : isWrite q.kind = false := by
    rw [hkind]
    rfl
  have hg : gpaOf h m q x = some gpa := by rw [gpaOf, hw, hgpa]
  rw [poolReq, if_neg (by rw [hnone]; decide), poolNow]
  rw [if_neg (Nat.not_le.mpr hlen), hx, Option.map_some, Option.getD_some, afterLookup, Option.bind_some, hg]

/-- A read at or beyond ETLEN. -/
theorem poolReq_beyond {m : Msg} {q : MemReq} {t : Nat} {h : Hw} (hmiss : ∀ y ∈ h.bd.miss, y.ing ≠ m.ing)
    (hlen : ttEtlen (h.ent t) ≤ q.addr / 2 ^ 21) : poolReq m q t h = xlateEnd m q h := by
  have hnone : h.bd.miss.any (fun x => x.ing == m.ing) = false := by
    rw [List.any_eq_false]
    exact fun y hy heq => hmiss y hy (beq_iff_eq.mp heq)
  rw [poolReq, if_neg (by rw [hnone]; decide), poolNow]
  rw [if_pos hlen, Option.getD_some]

/-- The request of a pool tenant is translated once it is accepted. -/
theorem tenantReq_pool {m : Msg} {q : MemReq} {t : Nat} {h : Hw} (hreq : m.req = some q) (hacc : Accepted t h (accept m t h))
    (hkind : ttKind (h.ent t) = 0) : tenantReq m t h = poolReq m q t (accept m t h) := by
  rw [tenantReq, hreq]
  dsimp only
  rw [if_pos (by rw [hacc.ent, hkind])]

theorem pq_accepted {t : Nat} {a b : Hw} (h : Accepted t a b) (u : Nat) : b.pq u = a.pq u := by
  rw [Hw.pq, Hw.pq, h.ts]

/-- A granted read of a BOUND pool tenant, routed to its GPA and put into its VOQ. -/
theorem tenantReq_granted {m : Msg} {q : MemReq} {t x gpa : Nat} {h : Hw} (ht : t < 8192) (hreq : m.req = some q)
    (hqt : q.tid = t) (hkind : q.kind = .memRd) (hcls : m.cls = .memReqD) (htid : m.tid = some t) (hing : m.ing = ttPort (h.ent t))
    (hpool : ttKind (h.ent t) = 0) (hmiss : ∀ y ∈ h.bd.miss, y.ing ≠ m.ing) (hlen : q.addr / 2 ^ 21 < ttEtlen (h.ent t))
    (hx : h.cached t (q.addr / 2 ^ 21) = some x) (hgpa : xlateEntry x q.addr false = some gpa)
    (hguard : firstDenial (guardParts h (tenantGReq h q)) = none) (hroute : bits (h.route (poolRoute h gpa % 16384)) 0 2 = 1)
    (hide : queueSet h (egressOf h (poolRoute h gpa % 16384)) < 72 →
      h.flag F.FP_PCFG_IDEREQ (queueSet h (egressOf h (poolRoute h gpa % 16384))) = false)
    (hrate : paceRate h t = 0) (hpq : h.pq t = []) (hwait : ∀ y ∈ h.ts.waiting, y.msg.tid ≠ some t) :
    ∃ e, tenantReq m t h = toVoq e ((accept m t h).emit (.routed q.rid gpa)) := by
  have hacc := accepted_accept (t := t) (h := h) hreq hkind hcls
  have hsent := hacc.emit (.routed q.rid gpa)
  have hpoolRoute := hacc.poolRoute ht gpa
  rw [tenantReq_pool hreq hacc hpool, poolReq_hit (by rw [hacc.miss]; exact hmiss) (by rw [hacc.ent]; exact hlen)
    (by rw [hacc.cached]; exact hx) hkind hgpa, guardRoute_granted (by
      rw [hacc.tenantGReq, hacc.guardParts ht (by rw [tenantGReq, hqt])]
      exact hguard), hpoolRoute]
  generalize (accept m t h).emit (.routed q.rid gpa) = g at hsent ⊢
  have hroute' : bits (g.route (poolRoute h gpa % 16384)) 0 2 = 1 := by rw [Hw.route, hsent.sw]; exact hroute
  have hide' : ideAdmits g (queueSet g (egressOf g (poolRoute h gpa % 16384))) m = true := by
    rw [hsent.queueSet, hsent.egressOf ht]
    refine ideAdmits_open _ (fun hn => ?_)
    rw [Hw.flag, hsent.fget ht (by decide) (by omega)]
    exact hide hn
  rw [byIndex_unicast hroute' hide', resolve]
  refine ⟨_, paceAdmit_unpaced htid (by rw [hcls]; rfl) ?_ ?_ ?_ ?_⟩
  · rw [hsent.ent, hing]
  · rw [hsent.paceRate ht, hrate]
  · rw [pq_accepted hsent, hpq]
  · rw [hsent.ts]
    exact hwait

/-! ### O21 -/

section
variable {s : State} {port vppb t : Nat} {m : Msg} {q : MemReq}

/-- A refused read, as a completed command. -/
theorem refused_completes {tid : Option Nat} (hr : HostRead s.mach.hw port m q) (hbad : m.bad = false)
    (hopen : tailOpen s.mach.hw port m.rid = false) (hat : s.mach.hw.tenantAt port vppb = tid)
    (htake : takeIn (vppbMsg port tid m s.mach.hw) s.mach.hw = refuse (vppbMsg port tid m s.mach.hw) s.mach.hw) :
    Completes (.cxlMemM2sRequest port vppb m) s (fun m' => Poisoned port m.rid m.tag s.mach.hw m'.hw ∧ m'.mem = s.mach.mem ∧
      m'.hw.fget F.BD_STOPREJ_VAL 0 = min (s.mach.hw.fget F.BD_STOPREJ_VAL 0 + 1) (2 ^ 32 - 1) ∧ m'.hw.fc = s.mach.hw.fc ∧
      FieldsKept [(F.BD_STOPREJ_VAL, 0)] s.mach m') := by
  obtain ⟨hpois, hcount, hfc, hkept⟩ := refuse_effect hr tid
  refine completes_onHw (exec_cxlMem hr.fabric hr.owner hbad hopen) ?_
  rw [Mach.onHw, hat, htake]
  exact ⟨hpois, rfl, hcount, hfc, fun g j hk => hkept g j (hk (F.BD_STOPREJ_VAL, 0) (List.mem_singleton_self _))⟩

/-- A BOUND tenant whose domain is not contained is served. -/
theorem refused_bound {h : Hw} (hs : ttState (h.ent t) = 2) (hd : h.contained (didxOf domTenant t) = false) : refused h t = false := by
  simp [refused, hs, hd]

theorem granted_completes {x gpa : Nat} (hr : HostRead s.mach.hw port m q) (hbad : m.bad = false)
    (hopen : tailOpen s.mach.hw port m.rid = false) (hat : s.mach.hw.tenantAt port vppb = some t) (ht : t < 8192)
    (hs : ttState (s.mach.hw.ent t) = 2) (hp : ttPort (s.mach.hw.ent t) = port) (hpool : ttKind (s.mach.hw.ent t) = 0)
    (hd : s.mach.hw.contained (didxOf domTenant t) = false) (hmax : s.mach.hw.fget F.BD_TDRAIN_OUT t < 2 ^ 20 - 1)
    (hmiss : ∀ y ∈ s.mach.hw.bd.miss, y.ing ≠ port) (hlen : q.addr / 2 ^ 21 < ttEtlen (s.mach.hw.ent t))
    (hx : s.mach.hw.cached t (q.addr / 2 ^ 21) = some x) (hgpa : xlateEntry x q.addr false = some gpa)
    (hguard : firstDenial (guardParts s.mach.hw (tenantGReq s.mach.hw { q with tid := t })) = none)
    (hroute : bits (s.mach.hw.route (poolRoute s.mach.hw gpa % 16384)) 0 2 = 1)
    (hide : queueSet s.mach.hw (egressOf s.mach.hw (poolRoute s.mach.hw gpa % 16384)) < 72 →
      s.mach.hw.flag F.FP_PCFG_IDEREQ (queueSet s.mach.hw (egressOf s.mach.hw (poolRoute s.mach.hw gpa % 16384))) = false)
    (hrate : paceRate s.mach.hw t = 0) (hpq : s.mach.hw.pq t = []) (hwait : ∀ y ∈ s.mach.hw.ts.waiting, y.msg.tid ≠ some t) :
    Completes (.cxlMemM2sRequest port vppb m) s (fun m' =>
      m'.hw.out = .routed q.rid gpa :: s.mach.hw.out ∧ m'.hw.sw.voq.length = s.mach.hw.sw.voq.length + 1 ∧
      m'.hw.fget F.BD_TDRAIN_OUT t = s.mach.hw.fget F.BD_TDRAIN_OUT t + 1 ∧
      m'.hw.bd.reads = s.mach.hw.bd.reads ++ [readRec t m] ∧ m'.mem = s.mach.mem ∧
      FieldsKept [(F.BD_TDRAIN_OUT, t)] s.mach m') := by
  have hreq : (vppbMsg port (some t) m s.mach.hw).req = some { q with tid := t } := by
    rw [vppbMsg, hr.req]
    rfl
  have hcls : (vppbMsg port (some t) m s.mach.hw).cls = .memReqD := hr.cls
  have htake := takeIn_tenant hr (by rw [hs]; decide) hp
  rw [refused_bound hs hd, if_neg (by decide)] at htake
  obtain ⟨e, hsent⟩ := tenantReq_granted ht hreq rfl hr.kind hcls rfl hp.symm hpool hmiss hlen hx hgpa hguard hroute hide hrate hpq hwait
  have hacc := accepted_accept (t := t) (h := s.mach.hw) hreq hr.kind hcls
  have hout := out_accept hreq hr.kind hcls hmax
  refine completes_onHw (exec_cxlMem hr.fabric hr.owner hbad hopen) ?_
  rw [Mach.onHw, hat, htake, hsent]
  refine ⟨?_, ?_, hout, ?_, rfl, fun g j hk => hacc.fields g j (hk (F.BD_TDRAIN_OUT, t) (List.mem_singleton_self _))⟩
  · rw [accept_read hreq hr.kind hcls]
    rfl
  · rw [toVoq, List.length_append, Hw.emit_sw, hacc.sw]
    rfl
  · rw [accept_read hreq hr.kind hcls]
    rfl

theorem beyond_completes (hr : HostRead s.mach.hw port m q) (hbad : m.bad = false)
    (hopen : tailOpen s.mach.hw port m.rid = false) (hat : s.mach.hw.tenantAt port vppb = some t)
    (hs : ttState (s.mach.hw.ent t) = 2) (hp : ttPort (s.mach.hw.ent t) = port) (hpool : ttKind (s.mach.hw.ent t) = 0)
    (hd : s.mach.hw.contained (didxOf domTenant t) = false) (hmax : s.mach.hw.fget F.BD_TDRAIN_OUT t < 2 ^ 20 - 1)
    (hmiss : ∀ y ∈ s.mach.hw.bd.miss, y.ing ≠ port) (hlen : ttEtlen (s.mach.hw.ent t) ≤ q.addr / 2 ^ 21)
    (hroom : (s.mach.hw.queue 8).length < 8) :
    Completes (.cxlMemM2sRequest port vppb m) s (fun m' => Poisoned port m.rid m.tag s.mach.hw m'.hw ∧ m'.mem = s.mach.mem ∧
      m'.hw.fget F.BD_TDRAIN_OUT t = s.mach.hw.fget F.BD_TDRAIN_OUT t + 1 ∧
      ∃ f : FMsg, m'.hw.queue 8 = s.mach.hw.queue 8 ++ [f] ∧ f.code = 0x2801 ∧ f.domain = 2 ∧ f.dinst = t ∧
        f.addr = q.addr % 2 ^ 64) := by
  have hreq : (vppbMsg port (some t) m s.mach.hw).req = some { q with tid := t } := by
    rw [vppbMsg, hr.req]
    rfl
  have hcls : (vppbMsg port (some t) m s.mach.hw).cls = .memReqD := hr.cls
  have htake := takeIn_tenant hr (by rw [hs]; decide) hp
  rw [refused_bound hs hd, if_neg (by decide)] at htake
  have hacc := accepted_accept (t := t) (h := s.mach.hw) hreq hr.kind hcls
  have hout := out_accept hreq hr.kind hcls hmax
  have hqueue : (accept (vppbMsg port (some t) m s.mach.hw) t s.mach.hw).queue 8 = s.mach.hw.queue 8 := by
    rw [Hw.queue, Hw.queue, hacc.fc]
  have hqs : queueSet (accept (vppbMsg port (some t) m s.mach.hw) t s.mach.hw) (vppbMsg port (some t) m s.mach.hw).ing = port :=
    (hacc.queueSet _).trans (queueSet_fabric hr.fabric hr.owner)
  have houtputs : (accept (vppbMsg port (some t) m s.mach.hw) t s.mach.hw).out = s.mach.hw.out := by
    rw [accept_read hreq hr.kind hcls]
    rfl
  obtain ⟨hpois, hkept, hfault⟩ := xlateEnd_effect hqs hreq hr.kind (by rw [hqueue]; exact hroom)
  rw [hqueue] at hfault
  refine completes_onHw (exec_cxlMem hr.fabric hr.owner hbad hopen) ?_
  rw [Mach.onHw, hat, htake, tenantReq_pool hreq hacc hpool, poolReq_beyond (by rw [hacc.miss]; exact hmiss)
    (by rw [hacc.ent]; exact hlen)]
  refine ⟨⟨?_, ?_⟩, rfl, hkept.trans hout, hfault⟩
  · rw [hpois.out, houtputs]
    rfl
  · rw [← hacc.sw]
    exact hpois.voq

end

/-- Settles O21: ingress refuses, or accepts and translates, a host's read; each outcome has its own lemma. -/
theorem poolRequestsComplete : Obligations.PoolRequestsComplete := by
  unfold Obligations.PoolRequestsComplete
  intro s port vppb t x gpa m q h q' poisoned refused hport hown hide hcls hmide hbad hreq hkind hopen
  have hr : HostRead h port m q := ⟨hport, hown, hide, hcls, hmide, hreq, hkind⟩
  refine ⟨fun hat ht hs hp hpool hd hmax hmiss => ⟨fun hlen hx hgpa hguard hroute hout hrate hpq hwait =>
    granted_completes hr hbad hopen hat ht hs hp hpool hd hmax hmiss hlen hx hgpa hguard hroute hout hrate hpq hwait,
    fun hlen hroom => ?_⟩, fun hat hrole => ?_, fun hat hfree hs hp => ?_⟩
  · obtain ⟨u, hexec, hpend, hpois, hmem, hcount, hfault⟩ :=
      beyond_completes hr hbad hopen hat hs hp hpool hd hmax hmiss hlen hroom
    exact ⟨u, hexec, hpend, ⟨hpois.out, hmem, hpois.voq⟩, hcount, hfault⟩
  · obtain ⟨u, hexec, hpend, hpois, hmem, hrest⟩ := refused_completes hr hbad hopen hat (takeIn_unbound hr hrole)
    exact ⟨u, hexec, hpend, ⟨hpois.out, hmem, hpois.voq⟩, hrest⟩
  · have htake := takeIn_tenant hr hfree hp
    rw [if_pos (by simp [Machine.refused, hs])] at htake
    obtain ⟨u, hexec, hpend, hpois, hmem, hrest⟩ := refused_completes hr hbad hopen hat htake
    exact ⟨u, hexec, hpend, ⟨hpois.out, hmem, hpois.voq⟩, hrest⟩

end Sys2Proof.Machine

namespace Sys2Proof.Machine

/-! ### A request without a state at an idle home (R86, R107, R136, R145) -/

/-- The entry that a request without a state works on where the directory lists none. -/
def DirEnt.untracked : DirEnt := { DirEnt.fresh 0 0 with pin := false }

/-- The record of such a request when it opens. -/
def HTxn.untracked (r : HReq) : HTxn :=
  { HTxn.start r .snp DirEnt.untracked DirEnt.untracked with need := wantsData r.kind }

/-- The record of a slice that an idle home opens next. -/
def firstRec (la : Nat) : Nat := 64 * sliceOf la

/-- A request without a state at an idle home, for a line that the directory does not list. -/
structure Alone (r : HReq) (h : Hw) : Prop where
  idle : h.homeIdle
  role : h.fget F.HD_SLSTAT_ROLE 16 ≠ 2
  dir : h.dirEnt r.la = none
  xl : r.xl = false
  kind : r.kind = .ncRead ∨ r.kind = .ncWrite

theorem Alone.allocates_eq {r : HReq} {h : Hw} (ha : Alone r h) : allocates r.kind = false := by
  rcases ha.kind with hk | hk <;> rw [hk] <;> rfl

theorem asksHint_of_role {h : Hw} (hrole : h.fget F.HD_SLSTAT_ROLE 16 ≠ 2) (la : Nat) : asksHint h la = false := by
  rw [asksHint, beq_eq_false_iff_ne.mpr hrole]
  rfl

theorem probeHint_of_role {m : Mach} (hrole : m.hw.fget F.HD_SLSTAT_ROLE 16 ≠ 2) (la : Nat) : probeHint la m = m := by
  rw [probeHint, asksHint_of_role hrole]
  rfl

theorem needsRebuild_of_role {m : Mach} (hrole : m.hw.fget F.HD_SLSTAT_ROLE 16 ≠ 2) (la : Nat) : needsRebuild m la = false := by
  rw [needsRebuild, asksHint_of_role hrole]
  rfl

/-- It opens the first record of its slice at once. -/
theorem serve_alone {r : HReq} {m : Mach} (ha : Alone r m.hw) :
    serve r m = .taken (openOn (firstRec r.la) DirEnt.untracked r m) := by
  obtain ⟨htxns, -, -, -, -, hfail, -⟩ := ha.idle
  have hrec : m.hw.freeRec (sliceOf r.la) = some (firstRec r.la) := by
    rw [Hw.freeRec, htxns]
    rfl
  have hmod : firstRec r.la % 64 = 0 := by
    rw [firstRec]
    omega
  unfold serve
  dsimp only
  rw [probeHint_of_role ha.role, hfail, Hw.txnOf, htxns, hrec, needsRebuild_of_role ha.role, ha.dir, ha.xl, ha.allocates_eq]
  have hopen : DirEnt.untracked = { DirEnt.fresh 0 (firstRec r.la % 64) with pin := false } := by
    rw [hmod]
    rfl
  rw [hopen]
  rfl

theorem sendSnoops_nil (k la fwd rtag : Nat) (h : Hw) : sendSnoops k la fwd rtag [] h = h := rfl

theorem homeBis_nil (la k : Nat) (h : Hw) : homeBis la k [] h = ([], h) := rfl

/-- A record that waits for nobody has no dead agent to answer for. -/
theorem synthDead_none {k : Nat} {m : Mach} {t : HTxn} (hk : Store.get? m.hw.hd.txns k = some t) (hs : t.snps = []) (hb : t.bis = []) :
    synthDead k m = m := by
  rw [synthDead, hk]
  dsimp only
  rw [hs, hb]
  rfl

theorem atService_noncaching {r : HReq} (e : DirEnt) (hk : r.kind = .ncRead ∨ r.kind = .ncWrite) : atService e r = r := by
  rcases hk with hk | hk <;> rw [atService, hk] <;> rfl

/-- An untracked line has nobody to ask. -/
theorem openOn_untracked {k : Nat} {r : HReq} {m : Mach} (hk : r.kind = .ncRead ∨ r.kind = .ncWrite) :
    openOn k DirEnt.untracked r m = m.onHw (fun h => (accepted r (h.openTag .hd k)).setTxn k (HTxn.untracked r)) := by
  have hp : planOf m.hw DirEnt.untracked r = ⟨DirEnt.untracked, [], [], 2, wantsData r.kind, false⟩ := rfl
  unfold openOn
  dsimp only
  rw [atService_noncaching _ hk, hp]
  dsimp only
  rw [List.map_nil, sendSnoops_nil, homeBis_nil]
  exact synthDead_none (t := HTxn.untracked r) (Store.get?_put_same _ _ _) rfl rfl

/-- The home with the first record of the slice open on such a request. -/
def openedFor (r : HReq) (h : Hw) : Hw :=
  (accepted r (h.openTag .hd (firstRec r.la))).setTxn (firstRec r.la) (HTxn.untracked r)

theorem arrive_alone {r : HReq} {m : Mach} (ha : Alone r m.hw) :
    arrive r m = settle (sliceOf r.la) (m.onHw (openedFor r)) settleFuel := by
  obtain ⟨-, hretry, -, -, hnext, -⟩ := ha.idle
  unfold arrive
  dsimp only
  rw [Hw.retryQ, hretry, hnext, serve_alone ha]
  dsimp only
  rw [openOn_untracked ha.kind]
  rfl

/-! ### The moves of a slice with one record (R145) -/

theorem settle_of_move {l : Nat} {m m' : Mach} (n : Nat) (h : sliceMove l m = some m') : settle l m (n + 1) = settle l m' n := by
  rw [settle, h]

theorem settle_of_rest {l : Nat} {m : Mach} (n : Nat) (h : sliceMove l m = none) : settle l m n = m := by
  cases n with
  | zero => rfl
  | succ n => rw [settle, h]

/-- The record's own move is the slice's. -/
theorem sliceMove_of_step {la : Nat} {t : HTxn} {m m' : Mach} (htxns : m.hw.hd.txns = [(firstRec la, t)])
    (hstep : stepTxn (firstRec la) m = some m') : sliceMove (sliceOf la) m = some m' := by
  have hslice : (firstRec la / 64 == sliceOf la) = true := by
    rw [firstRec, Nat.mul_div_cancel_left _ (by decide)]
    exact beq_self_eq_true _
  rw [sliceMove, htxns, List.map_cons, List.map_nil, List.filter_cons, if_pos hslice, List.filter_nil, List.findSome?_cons, hstep]

/-- A slice without a waiting request rests when no record can move. -/
theorem sliceMove_of_rest {l : Nat} {m : Mach} (hstep : ∀ x ∈ m.hw.hd.txns, stepTxn x.1 m = none) (hnext : m.hw.hd.next = [])
    (hretry : m.hw.hd.retry = []) : sliceMove l m = none := by
  have hnone : ((m.hw.hd.txns.map Prod.fst).filter (fun k => k / 64 == l)).findSome? (fun k => stepTxn k m) = none := by
    rw [List.findSome?_eq_none_iff]
    intro k hk
    obtain ⟨x, hx, rfl⟩ := List.mem_map.mp (List.mem_of_mem_filter hk)
    exact hstep x hx
  rw [sliceMove, hnone, hnext, Hw.retryQ, hretry]
  rfl

/-! ### A non-caching read -/

theorem accepted_ncRead {r : HReq} (hk : r.kind = .ncRead) (h : Hw) : accepted r h = h := by
  rw [accepted, hk]
  rfl

/-- The record while its Dome read is outstanding. -/
def HTxn.readFor (r : HReq) : HTxn := { HTxn.untracked r with reading := true }

theorem setTxn_setTxn {h : Hw} (htxns : h.hd.txns = []) (k : Nat) (t u : HTxn) : (h.setTxn k t).setTxn k u = h.setTxn k u := by
  simp [Hw.setTxn, htxns, Store.put]

theorem stepTxn_untracked_read {r : HReq} {k : Nat} {m : Mach} (hk : r.kind = .ncRead)
    (ht : Store.get? m.hw.hd.txns k = some (HTxn.untracked r)) :
    stepTxn k m = some (m.onHw (fun h => h.setTxn k (HTxn.readFor r))) := by
  have hneed : (HTxn.untracked r).need = true := by
    rw [HTxn.untracked, hk]
    rfl
  rw [stepTxn, ht, HTxn.readFor]
  dsimp only
  rw [hneed]
  rfl

theorem stepTxn_reading {k : Nat} {t : HTxn} {m : Mach} (ht : Store.get? m.hw.hd.txns k = some t) (hread : t.reading = true) :
    stepTxn k m = none := by
  rw [stepTxn, ht]
  dsimp only
  rw [if_pos (by simp [hread])]

/-- The home with the record's Dome read outstanding. -/
def readOpened (r : HReq) (h : Hw) : Hw := (h.openTag .hd (firstRec r.la)).setTxn (firstRec r.la) (HTxn.readFor r)

/-- Its Dome read leaves. -/
theorem arrive_ncRead {r : HReq} {m : Mach} (ha : Alone r m.hw) (hk : r.kind = .ncRead) : arrive r m = m.onHw (readOpened r) := by
  obtain ⟨htxns, hretry, -, -, hnext, -⟩ := ha.idle
  have hopen : openedFor r m.hw = (m.hw.openTag .hd (firstRec r.la)).setTxn (firstRec r.la) (HTxn.untracked r) := by
    rw [openedFor, accepted_ncRead hk]
  have hone : (openedFor r m.hw).hd.txns = [(firstRec r.la, HTxn.untracked r)] := by
    rw [hopen, Hw.setTxn]
    dsimp only
    rw [Hw.openTag_hd, htxns]
    rfl
  have hread : (m.onHw (openedFor r)).onHw (fun h => h.setTxn (firstRec r.la) (HTxn.readFor r)) = m.onHw (readOpened r) := by
    rw [Mach.onHw, Mach.onHw, Mach.onHw]
    dsimp only
    rw [hopen, setTxn_setTxn (by rw [Hw.openTag_hd, htxns])]
    rfl
  have hmove := sliceMove_of_step (m := m.onHw (openedFor r)) hone
    (stepTxn_untracked_read hk (by rw [Mach.onHw_hw, hone, Store.get?, if_pos rfl]))
  have hlist : (m.onHw (readOpened r)).hw.hd.txns = [(firstRec r.la, HTxn.readFor r)] := by
    rw [Mach.onHw_hw, readOpened, Hw.setTxn]
    dsimp only
    rw [Hw.openTag_hd, htxns]
    rfl
  have hrest : sliceMove (sliceOf r.la) (m.onHw (readOpened r)) = none := by
    refine sliceMove_of_rest ?_ hnext hretry
    intro x hx
    rw [hlist, List.mem_singleton] at hx
    rw [hx]
    exact stepTxn_reading (t := HTxn.readFor r) (Store.get?_put_same _ _ _) rfl
  rw [arrive_alone ha, show settleFuel = 1023 + 1 from rfl, settle_of_move _ hmove, hread, settle_of_rest _ hrest]

end Sys2Proof.Machine

namespace Sys2Proof.Machine

/-! ### A non-caching write of the data mover -/

/-- A write of the data mover: of a window (unit 1) or of a ring's slot (unit 3). -/
structure MoverWrite (r : HReq) : Prop where
  kind : r.kind = .ncWrite
  agent : r.agent = 1024
  unit : r.unit = 1 ∨ r.unit = 3
  msg : r.msg = none
  poison : r.poison = false

theorem MoverWrite.accepted_frame {r : HReq} (hr : MoverWrite r) (h : Hw) : ∃ dm, accepted r h = { h with dm := dm } := by
  unfold accepted
  rw [hr.kind, hr.msg]
  rcases hr.unit with hu | hu <;> rw [hu]
  · change ∃ dm, h.dmVisible r.tag = _
    unfold Hw.dmVisible
    split
    · exact ⟨h.dm, rfl⟩
    · exact ⟨_, rfl⟩
  · exact ⟨h.dm, rfl⟩

theorem MoverWrite.accepted_unit3 {r : HReq} (hr : MoverWrite r) (hu : r.unit = 3) (h : Hw) : accepted r h = h := by
  rw [accepted, hr.kind, hr.msg, hu]
  rfl

theorem MoverWrite.accepted_unit1 {r : HReq} (hr : MoverWrite r) (hu : r.unit = 1) (h : Hw) : accepted r h = h.dmVisible r.tag := by
  rw [accepted, hr.kind, hr.msg, hu]
  rfl

/-- The master that a write of the data mover names: its ring (R450). -/
theorem MoverWrite.master {r : HReq} (hr : MoverWrite r) (h : Hw) : reqMaster h r = 0x4000 + (r.dmx.map Prod.fst).getD 0 := by
  rw [reqMaster, if_pos (hr.unit.imp id id)]

/-- The home's write that the request carries out. -/
def homeWriteOf (r : HReq) (m : Mach) : Mach := (homeWrite (0x4000 + (r.dmx.map Prod.fst).getD 0) r.la r.data r.en none m).2

/-- It is carried out with its transaction's end, and nobody is answered. -/
theorem grant_moverWrite {r : HReq} (hr : MoverWrite r) (k : Nat) (m : Mach) :
    grant k (HTxn.untracked r) m = closeTxn k DirEnt.untracked (homeWriteOf r m) := by
  have hfin : finalTgt m.hw (HTxn.untracked r) = DirEnt.untracked := by
    rw [finalTgt, show (HTxn.untracked r).req.kind = .ncWrite from hr.kind]
    rfl
  have hret : ∀ ok h, writeReturn r.unit r.tag none ok h = h := by
    intro ok h
    rcases hr.unit with hu | hu <;> rw [hu] <;> rfl
  have hw : (if r.unit = 0 then (none : Option Msg).bind (fun x => x.tid.map (fun i => (i, r.tag))) else none) = none := by
    split <;> rfl
  unfold grant
  dsimp only
  rw [hfin, show (HTxn.untracked r).req = r from rfl, show (HTxn.untracked r).data = none from rfl, hr.agent, hr.kind, hr.poison, hr.msg,
    hr.master]
  dsimp only
  rw [if_neg (by simp)]
  have hno : (decide (1024 < 1024) && m.hw.isDead 1024) = false := rfl
  simp only [hno, hret, hw, Bool.false_eq_true, if_false]
  rw [homeWriteOf]
  generalize homeWrite (0x4000 + (r.dmx.map Prod.fst).getD 0) r.la r.data r.en none m = w
  rfl

/-- The end of such a record, with what the home leaves of its other state. -/
theorem closeTxn_untracked {r : HReq} {tgt : DirEnt} {m : Mach} (hk : allocates r.kind = false)
    (htxns : m.hw.hd.txns = [(firstRec r.la, HTxn.untracked r)]) (hrel : m.hw.hd.rel = []) (hnext : m.hw.hd.next = [])
    (hdir : m.hw.dirEnt r.la = none) (ht : tgt.st = 0) :
    ∃ tags hd, closeTxn (firstRec r.la) tgt m = { m with hw := { m.hw with tags := tags, hd := hd } } ∧ hd.txns = [] ∧ hd.next = [] ∧
      hd.retry = m.hw.hd.retry ∧ hd.held = m.hw.hd.held := by
  have hget : Store.get? m.hw.hd.txns (firstRec r.la) = some (HTxn.untracked r) := by
    rw [htxns, Store.get?, if_pos rfl]
  have hhad : ((m.hw.dirEnt r.la).isSome || (HTxn.untracked r).phase == .rbd || (HTxn.untracked r).src.st != 0 ||
      ((HTxn.untracked r).phase == .snp && allocates (HTxn.untracked r).req.kind)) = false := by
    rw [hdir, show (HTxn.untracked r).req.kind = r.kind from rfl, hk]
    rfl
  unfold closeTxn
  rw [hget]
  dsimp only
  rw [show (HTxn.untracked r).req.la = r.la from rfl, hhad, if_pos ht, if_neg Bool.false_ne_true]
  generalize hm4 : Mach.onHw (fun h => h.freeDir r.la) _ = m4
  have hrelq : m4.hw.relQ (sliceOf r.la) = [] := by
    rw [← hm4, Hw.relQ]
    change Store.getD [] m.hw.hd.rel (sliceOf r.la) = []
    rw [hrel]
    rfl
  rw [hrelq, List.filter_nil, List.foldl_nil, ← hm4]
  refine ⟨_, _, rfl, ?_, ?_, rfl, rfl⟩
  · change Store.del m.hw.hd.txns (firstRec r.la) = []
    rw [htxns]
    simp [Store.del]
  · change m.hw.hd.next ++ [] = []
    rw [hnext]
    rfl

theorem stepTxn_untracked_write {r : HReq} (hr : MoverWrite r) {k : Nat} {m : Mach}
    (ht : Store.get? m.hw.hd.txns k = some (HTxn.untracked r)) : stepTxn k m = some (grant k (HTxn.untracked r) m) := by
  have hneed : (HTxn.untracked r).need = false := by
    rw [HTxn.untracked, hr.kind]
    rfl
  rw [stepTxn, ht]
  dsimp only
  rw [hneed, show (HTxn.untracked r).req.kind = .ncWrite from hr.kind]
  rfl

/-- The home with the record open on a write of the data mover. -/
theorem openedFor_moverWrite {r : HReq} (hr : MoverWrite r) {h : Hw} (htxns : h.hd.txns = []) :
    ∃ tags dm, openedFor r h = { h with tags := tags, dm := dm, hd := { h.hd with txns := [(firstRec r.la, HTxn.untracked r)] } } := by
  obtain ⟨dm, hdm⟩ := hr.accepted_frame (h.openTag .hd (firstRec r.la))
  refine ⟨(h.openTag .hd (firstRec r.la)).tags, dm, ?_⟩
  rw [openedFor, hdm, Hw.setTxn]
  dsimp only
  rw [Hw.openTag_hd, htxns]
  rfl

/-- A write of the data mover to a line that the directory does not list is carried out at once, and its record is closed. -/
theorem arrive_moverWrite {r : HReq} {m : Mach} (ha : Alone r m.hw) (hr : MoverWrite r)
    (hhd : (homeWriteOf r (m.onHw (openedFor r))).hw.hd = (openedFor r m.hw).hd) :
    ∃ tags hd, arrive r m = { homeWriteOf r (m.onHw (openedFor r)) with
        hw := { (homeWriteOf r (m.onHw (openedFor r))).hw with tags := tags, hd := hd } } ∧ hd.txns = [] ∧ hd.held = m.hw.hd.held := by
  obtain ⟨htxns, hretry, hrel, -, hnext, -⟩ := ha.idle
  obtain ⟨tags0, dm0, hopen⟩ := openedFor_moverWrite hr htxns
  have hone : (openedFor r m.hw).hd.txns = [(firstRec r.la, HTxn.untracked r)] := by rw [hopen]
  have hrel1 : (openedFor r m.hw).hd.rel = [] := by rw [hopen]; exact hrel
  have hnext1 : (openedFor r m.hw).hd.next = [] := by rw [hopen]; exact hnext
  have hretry1 : (openedFor r m.hw).hd.retry = [] := by rw [hopen]; exact hretry
  have hheld1 : (openedFor r m.hw).hd.held = m.hw.hd.held := by rw [hopen]
  have hdir1 : Store.get? (openedFor r m.hw).hd.dir r.la = none := by rw [hopen]; exact ha.dir
  have hmove := sliceMove_of_step (m := m.onHw (openedFor r)) hone
    (stepTxn_untracked_write hr (by rw [Mach.onHw_hw, hone, Store.get?, if_pos rfl]))
  rw [grant_moverWrite hr] at hmove
  generalize homeWriteOf r (m.onHw (openedFor r)) = w at hhd hmove ⊢
  obtain ⟨tags, hd, hclose, htx, hnx, hrt, hheld⟩ := closeTxn_untracked (tgt := DirEnt.untracked) (m := w)
    ha.allocates_eq (by rw [hhd, hone]) (by rw [hhd, hrel1]) (by rw [hhd, hnext1]) (by rw [Hw.dirEnt, hhd, hdir1]) rfl
  refine ⟨tags, hd, ?_, htx, by rw [hheld, hhd, hheld1]⟩
  rw [hclose] at hmove
  have hrest : sliceMove (sliceOf r.la) { w with hw := { w.hw with tags := tags, hd := hd } } = none := by
    refine sliceMove_of_rest ?_ hnx (by rw [hrt, hhd, hretry1])
    intro x hx
    rw [show ({ w with hw := { w.hw with tags := tags, hd := hd } } : Mach).hw.hd.txns = hd.txns from rfl, htx] at hx
    cases hx
  rw [arrive_alone ha, show settleFuel = 1023 + 1 from rfl, settle_of_move _ hmove, settle_of_rest _ hrest]

end Sys2Proof.Machine

namespace Sys2Proof.Machine

/-! ### A line stored (R315, R325, R333) -/

theorem writeCopy_stored {c : Nat} {m : Mach} (hc : m.hw.chFailed c = false) (a : Nat) (v : LineAttr) :
    writeCopy c a v m = (true, (m.openRow c a).setAttr c a v) := if_neg (by simp [hc])

theorem writeCopy_dropped {c : Nat} {m : Mach} (hc : m.hw.chFailed c = true) (a : Nat) (v : LineAttr) :
    writeCopy c a v m = (false, m.onHw (fun h => h.fadd F.DD_WRDROP_VAL c 1)) := if_pos hc

/-- A line outside the store's tables lies in Dome's bytes. -/
theorem setLine_plain {m : Mach} {o : Nat} (hstore : m.hw.storeWord (o / 64 * 64) = none) (hrev : m.hw.revIn o = []) (v : Nat) :
    m.setLine o v = { m with mem := { m.mem with dome := writeLE 0 m.mem.dome (o / 64 * 64) v 64 } } := by
  rw [Mach.setLine, hstore, hrev]
  rfl

theorem line_plain {m : Mach} {o : Nat} (hstore : m.hw.storeWord (o / 64 * 64) = none) (hrev : m.hw.revIn o = []) :
    m.line o = readLE 0 m.mem.dome (o / 64 * 64) 64 := by
  rw [Mach.line, hstore, hrev]
  rfl

theorem Hw.storeWord_congr {a b : Hw} (hfirst : a.storeFirst = b.storeFirst) (hext : a.domeExt = b.domeExt) (o : Nat) :
    a.storeWord o = b.storeWord o := by
  rw [Hw.storeWord, Hw.storeWord, hfirst, hext]

theorem Hw.revIn_congr {a b : Hw} (hfirst : a.storeFirst = b.storeFirst) (hext : a.domeExt = b.domeExt) (hbd : a.bd = b.bd) (o : Nat) :
    a.revIn o = b.revIn o := by
  rw [Hw.revIn, Hw.revIn, hfirst, hext, hbd]

/-- The store mirrors its lines within the twelve channels. -/
theorem mirror_lt {h : Hw} {o c : Nat} (hc : (domeMap h o).mirror = some c) : c < 65536 := by
  have htop : h.gtop ≤ 2 := by
    unfold Hw.gtop
    split
    · exact Nat.le_refl _
    · split <;> decide
  unfold domeMap at hc
  dsimp only at hc
  split at hc
  · split at hc
    · dsimp only at hc
      have := Option.some.inj hc
      omega
    · dsimp only at hc
      have := Option.some.inj hc
      omega
  · split at hc
    · cases hc
    · cases hc

/-- What a full write of a line leaves: Dome's bytes hold the line, and of the registers it may count a drop on the mirror alone. -/
structure StoredLine (o data : Nat) (a b : Mach) : Prop where
  only : ∃ regs, b = { mem := b.mem, hw := { a.hw with regs := regs } }
  dome : b.mem.dome = writeLE 0 a.mem.dome (o / 64 * 64) data 64
  first : b.hw.storeFirst = a.hw.storeFirst
  ext : b.hw.domeExt = a.hw.domeExt
  regs : (∀ c, (domeMap a.hw o).mirror = some c → a.hw.chFailed c = false) → b.hw.regs = a.hw.regs

/-- A line is stored once its copies have taken their attributes. -/
theorem storedLine_setLine {a b : Mach} {o : Nat} (data : Nat) (hstore : a.hw.storeWord (o / 64 * 64) = none) (hrev : a.hw.revIn o = [])
    (hhw : ∃ regs, b.hw = { a.hw with regs := regs }) (hdome : b.mem.dome = a.mem.dome) (hfirst : b.hw.storeFirst = a.hw.storeFirst)
    (hext : b.hw.domeExt = a.hw.domeExt)
    (hregs : (∀ c, (domeMap a.hw o).mirror = some c → a.hw.chFailed c = false) → b.hw.regs = a.hw.regs) :
    StoredLine o data a (b.setLine o data) := by
  obtain ⟨regs, hb⟩ := hhw
  have hbd : b.hw.bd = a.hw.bd := by rw [hb]
  rw [setLine_plain ((Hw.storeWord_congr hfirst hext _).trans hstore) ((Hw.revIn_congr hfirst hext hbd _).trans hrev)]
  exact { only := ⟨regs, by rw [hb]⟩, dome := by rw [hdome], first := hfirst, ext := hext, regs := hregs }

/-- What a copy of a line takes leaves Dome's bytes, and of the other state all but a drop's count. -/
theorem writeCopy_frame {c : Nat} (hc : c < 65536) (a : Nat) (v : LineAttr) (m : Mach) :
    (∃ regs, (writeCopy c a v m).2.hw = { m.hw with regs := regs }) ∧ (writeCopy c a v m).2.mem.dome = m.mem.dome ∧
      (writeCopy c a v m).2.hw.storeFirst = m.hw.storeFirst ∧ (writeCopy c a v m).2.hw.domeExt = m.hw.domeExt ∧
      (m.hw.chFailed c = false → (writeCopy c a v m).2.hw.regs = m.hw.regs) := by
  cases hf : m.hw.chFailed c with
  | false =>
    rw [writeCopy_stored hf]
    exact ⟨⟨m.hw.regs, rfl⟩, rfl, rfl, rfl, fun _ => rfl⟩
  | true =>
    rw [writeCopy_dropped hf]
    have hfirst : (m.hw.fadd F.DD_WRDROP_VAL c 1).storeFirst = m.hw.storeFirst := by
      rw [Hw.storeFirst, Hw.storeFirst, Hw.fget_fadd_ne _ _ (fkey_ne (by decide) hc (by decide))]
    have hext : (m.hw.fadd F.DD_WRDROP_VAL c 1).domeExt = m.hw.domeExt := by
      rw [Hw.domeExt, Hw.domeExt, Hw.fget_fadd_ne _ _ (fkey_ne (by decide) hc (by decide))]
    have hregs : ∃ regs, m.hw.fadd F.DD_WRDROP_VAL c 1 = { m.hw with regs := regs } := ⟨_, rfl⟩
    exact ⟨hregs, rfl, hfirst, hext, fun h => by cases h⟩

/-- A full write whose primary copy can be stored. -/
theorem writeAt_stored {p : Phys} {m : Mach} (o data : Nat) (hint : Bool) (hprim : m.hw.chFailed p.prim = false) :
    ∃ m1, m1.hw = m.hw ∧ m1.mem.dome = m.mem.dome ∧ writeAt p o data hint false m =
      (true, (match p.mirror with | none => m1 | some c => (writeCopy c p.addr ⟨hint, false⟩ m1).2).setLine o data) := by
  refine ⟨(m.openRow p.prim p.addr).setAttr p.prim p.addr ⟨hint, false⟩, rfl, rfl, ?_⟩
  unfold writeAt
  dsimp only
  rw [writeCopy_stored hprim]
  cases p.mirror <;> rfl

/-- A full write of a line outside the store's tables whose primary copy can be stored. -/
theorem writeDome_stored {m : Mach} {o : Nat} (data : Nat) (hint : Bool) (hprim : m.hw.chFailed (domeMap m.hw o).prim = false)
    (hstore : m.hw.storeWord (o / 64 * 64) = none) (hrev : m.hw.revIn o = []) :
    (writeDome o data hint false m).1 = true ∧ StoredLine o data m (writeDome o data hint false m).2 := by
  have hdone := fun (b : Mach) => storedLine_setLine (b := b) data hstore hrev
  have hmir := fun c => @mirror_lt m.hw o c
  rw [writeDome]
  generalize domeMap m.hw o = p at hprim hdone hmir
  obtain ⟨m1, hhw, hdome, hwrite⟩ := writeAt_stored o data hint hprim
  rw [hwrite]
  refine ⟨rfl, ?_⟩
  cases hm : p.mirror with
  | none => exact hdone m1 ⟨m.hw.regs, by rw [hhw]⟩ hdome (by rw [hhw]) (by rw [hhw]) (fun _ => by rw [hhw])
  | some c =>
    obtain ⟨⟨regs, hr⟩, hd, hf, he, hg⟩ := writeCopy_frame (hmir c hm) p.addr ⟨hint, false⟩ m1
    rw [hhw] at hr hf he hg
    exact hdone (writeCopy c p.addr ⟨hint, false⟩ m1).2 ⟨regs, hr⟩ (hd.trans hdome) hf he (fun h => hg (h c hm))

end Sys2Proof.Machine

namespace Sys2Proof.Machine

/-! ### A whole line read and merged (R325, R326) -/

/-- A good copy is read without an error. -/
theorem readPhys_good {c a : Nat} {m : Mach} (hgood : m.copyGood c a = true) (master : Nat) (wrSince scrub : Bool) :
    readPhys c a master .good wrSince scrub m = (false, m.openRow c a) := by
  obtain ⟨hfail, hpois⟩ : m.hw.chFailed c = false ∧ (m.attr c a).poison = false := by
    simpa [Mach.copyGood] using hgood
  have hattr : ((m.openRow c a).attr c a).poison = false := hpois
  rw [readPhys, hfail, if_neg Bool.false_ne_true]
  dsimp only
  rw [if_neg (by decide), hattr]
  rfl

theorem readAt_good {p : Phys} {m : Mach} (hgood : m.copyGood p.prim p.addr = true) (o master : Nat) :
    readAt p o master .good .good false m = (false, m.openRow p.prim p.addr) := by
  unfold readAt
  dsimp only
  rw [readPhys_good hgood]
  cases p.mirror <;> rfl

/-- A line whose primary copy is good is read from it. -/
theorem readDome_good {o : Nat} {m : Mach} (hgood : m.copyGood (domeMap m.hw o).prim (domeMap m.hw o).addr = true) (master : Nat) :
    ∃ m1, m1.hw = m.hw ∧ readDome o master .good .good false m = (false, m1) :=
  ⟨m.openRow (domeMap m.hw o).prim (domeMap m.hw o).addr, Mach.openRow_hw _ _ _, readAt_good hgood o master⟩

theorem chFailed_of_copyGood {m : Mach} {c a : Nat} (h : m.copyGood c a = true) : m.hw.chFailed c = false := by
  rw [Mach.copyGood, Bool.and_eq_true] at h
  simpa using h.1

/-- A partial write whose line reads without poison writes the merged line. -/
theorem partialWrite_merged {o data en master : Nat} {m m1 : Mach} (hb : allBytes en = false)
    (hf : ((domeMap m.hw o).mirror.isNone && m.hw.chFailed (domeMap m.hw o).prim) = false)
    (hread : readDome o master .good .good false m = (false, m1)) :
    partialWrite o data en master none ⟨.good, .good⟩ m = writeDome o (mergeBytes (m1.line o) data en 64) (m1.hw.hintOf o) false m1 := by
  rw [partialWrite_merge hb hf, hread]
  exact if_neg Bool.false_ne_true

/-- A partial write of a whole line changes the memories alone. -/
theorem partialWrite_whole {o en : Nat} {m : Mach} (hwhole : m.wholeLine o) (hb : allBytes en = false) (data master : Nat) :
    ∃ mem, (partialWrite o data en master none ⟨.good, .good⟩ m).2 = { mem := mem, hw := m.hw } := by
  obtain ⟨hstore, hrev, hgood, hmirror⟩ := hwhole
  have hprim := chFailed_of_copyGood hgood
  obtain ⟨m1, hhw, hread⟩ := readDome_good hgood master
  rw [partialWrite_merged hb (by rw [hprim, Bool.and_false]) hread]
  rw [← hhw] at hstore hrev hprim
  obtain ⟨-, hdone⟩ := writeDome_stored (m := m1) (mergeBytes (m1.line o) data en 64) (m1.hw.hintOf o) hprim hstore hrev
  obtain ⟨regs, hb⟩ := hdone.only
  have hregs := hdone.regs (fun c hc => by rw [hhw] at hc ⊢; exact chFailed_of_copyGood (hmirror c hc))
  rw [hb] at hregs
  exact ⟨_, by rw [hb, show regs = m1.hw.regs from hregs, hhw]⟩

/-! ### The home's write for a ring (R264, R450) -/

/-- The slot areas take the data mover's writes. -/
theorem ring_master {r : HReq} (hring : (r.dmx.map Prod.fst).getD 0 < 1024) (b : Bool) :
    (b && decide ((0x4000 + (r.dmx.map Prod.fst).getD 0) / 2 ^ 13 ≠ 2)) = false := by
  rw [decide_eq_false (by omega), Bool.and_false]

theorem onHw_untaken (m : Mach) : m.onHw (fun h => (if true then h else h.loseWrite none).dropWrite none) = m := rfl

theorem homeWrite_full {master la data en : Nat} {m : Mach} (harea : (m.hw.inDmArea 1 (lineOff la) && decide (master / 2 ^ 13 ≠ 2)) = false)
    (hb : allBytes en = true) (hok : (writeDome (lineOff la) data (m.hw.hintOf (lineOff la)) false m).1 = true) :
    (homeWrite master la data en none m).2 = (writeDome (lineOff la) data (m.hw.hintOf (lineOff la)) false m).2 := by
  unfold homeWrite
  dsimp only
  rw [harea, if_neg Bool.false_ne_true, if_pos hb, hok]
  exact onHw_untaken _

theorem homeWrite_partial {master la data en : Nat} {m : Mach} (harea : (m.hw.inDmArea 1 (lineOff la) && decide (master / 2 ^ 13 ≠ 2)) = false)
    (hb : allBytes en = false) :
    (homeWrite master la data en none m).2 = (partialWrite (lineOff la) data en master none ⟨.good, .good⟩ m).2 := by
  unfold homeWrite
  dsimp only
  rw [harea, if_neg Bool.false_ne_true, if_neg (by simp [hb])]
  rfl

theorem homeWriteOf_full {r : HReq} {m : Mach} (hring : (r.dmx.map Prod.fst).getD 0 < 1024) (hb : allBytes r.en = true)
    (hprim : m.hw.chFailed (domeMap m.hw (lineOff r.la)).prim = false) (hstore : m.hw.storeWord (lineOff r.la) = none)
    (hrev : m.hw.revIn (lineOff r.la) = []) : StoredLine (lineOff r.la) r.data m (homeWriteOf r m) := by
  have hline : lineOff r.la / 64 * 64 = lineOff r.la := by
    rw [lineOff]
    omega
  obtain ⟨hok, hdone⟩ := writeDome_stored r.data (m.hw.hintOf (lineOff r.la)) hprim (by rw [hline]; exact hstore) hrev
  rw [homeWriteOf, homeWrite_full (ring_master hring _) hb hok]
  exact hdone

theorem homeWriteOf_partial {r : HReq} {m : Mach} (hring : (r.dmx.map Prod.fst).getD 0 < 1024) (hb : allBytes r.en = false)
    (hwhole : m.wholeLine (lineOff r.la)) : ∃ mem, homeWriteOf r m = { mem := mem, hw := m.hw } := by
  rw [homeWriteOf, homeWrite_partial (ring_master hring _) hb]
  exact partialWrite_whole hwhole hb _ _

end Sys2Proof.Machine

namespace Sys2Proof.Machine

/-! ### A command at a home that holds nothing at its ports (R111) -/

/-- A command at the home completes with its effect where nothing is held at the ports after it. -/
theorem completes_onHome {c : Instr} {s : State} {P : Mach → Prop} {f : Mach → Mach} (hc : exec c s = onHome f s)
    (hheld : (f s.mach).hw.hd.held = []) (hp : P (f s.mach)) : Completes c s P := by
  refine completes_onMach hc ?_
  rw [homeEffect, hheld]
  exact hp

/-! ### The job that an engine runs -/

theorem eng_of_ringOn {h : Hw} {e r : Nat} {j : DmJob} (hon : h.ringOn e = some (r, j)) : j.eng = some e := by
  have := List.find?_some hon
  simpa using this

/-- What the steps of a window begin from: engine `e` runs the job of ring `r`, in phase `p`. -/
structure Running (e r : Nat) (j : DmJob) (p : DmPhase) (h : Hw) : Prop where
  on : h.ringOn e = some (r, j)
  job : h.job r = some j
  ring : r < 1024
  phase : j.phase = p

theorem Running.ne_own {e r : Nat} {j : DmJob} {p : DmPhase} {h : Hw} (hrun : Running e r j p h) : r ≠ ownRing := by
  have := hrun.ring
  rw [ownRing]
  omega

theorem Running.ringNo_eq {e r : Nat} {j : DmJob} {p : DmPhase} {h : Hw} (hrun : Running e r j p h) : ringNo r = r :=
  if_neg hrun.ne_own

/-! ### The answers of a window (R276 to R282) -/

/-- Where no access has been sent back, none leaves again. -/
theorem redoAll_of_settled {r : Nat} {m : Mach} (hst : ∀ x ∈ m.hw.ringAccs r, x.2.st ≠ .redo) : redoAll r m = m := by
  rw [redoAll]
  generalize m.hw.ringAccs r = l at hst
  induction l with
  | nil => rfl
  | cons x l ih =>
    have hx : redoAcc r m x = m := by
      unfold redoAcc
      split
      · rfl
      · rw [if_pos (by simpa using hst x List.mem_cons_self)]
    rw [List.foldl_cons, hx, ih (fun y hy => hst y (List.mem_cons_of_mem _ hy))]

/-- The job once its window's answers have been evaluated. -/
def DmJob.evaluated (j : DmJob) (stop : Option (Nat × Nat × Nat × Nat)) : DmJob :=
  match stop with
  | none => { j with phase := .writing }
  | some (o, st, fa, fc) => { j with phase := .writing, winLen := o - j.doneB, stop := some (st, fa, fc) }

/-- A first window that stops at byte `o` has that many bytes to commit. -/
theorem evaluated_stop {j : DmJob} (hzero : j.doneB = 0) (o st fa fc : Nat) :
    j.evaluated (some (o, st, fa, fc)) = { j with phase := .writing, winLen := o, stop := some (st, fa, fc) } := by
  have hwin : o - j.doneB = o := by rw [hzero, Nat.sub_zero]
  rw [DmJob.evaluated, hwin]

theorem readsDone_waits {e r : Nat} {j : DmJob} {m : Mach} (hrun : Running e r j .reading m.hw)
    (hst : ∀ x ∈ m.hw.ringAccs r, x.2.st ≠ .redo) (hout : accsOut r m.hw = true) : readsDone e m = m := by
  rw [readsDone, hrun.on]
  dsimp only
  rw [if_pos hrun.phase, redoAll_of_settled hst, hrun.job]
  exact if_pos hout

theorem readsDone_answered {e r : Nat} {j : DmJob} {m : Mach} (hrun : Running e r j .reading m.hw)
    (hst : ∀ x ∈ m.hw.ringAccs r, x.2.st = .done) {ws : List DmAcc} {stop : Option (Nat × Nat × Nat × Nat)}
    (hev : evalWindow m.hw r j.desc j.doneB (j.doneB + j.winLen) 65 = (ws, stop)) :
    readsDone e m = ws.foldl (fun m a => issue m.hw.dm.seq (m.onHw (addAcc a)))
      (m.onHw (fun h => (dropAccs r 0 h).setJob r (j.evaluated stop))) := by
  have hin : accsOut r m.hw = false := by
    rw [accsOut, List.any_eq_false]
    intro x hx
    rw [hst x hx]
    decide
  rw [readsDone, hrun.on]
  dsimp only
  rw [if_pos hrun.phase, redoAll_of_settled (fun x hx => by rw [hst x hx]; decide), hrun.job]
  dsimp only
  rw [hin, if_neg Bool.false_ne_true, hev]
  cases stop with
  | none => rfl
  | some x => rfl

theorem exec_dmWindowReadsDone {e r : Nat} {j : DmJob} {s : State} (hon : s.mach.hw.ringOn e = some (r, j)) :
    exec (.dmWindowReadsDone e r) s = onHome (readsDone e) s := by
  have h : (s.mach.hw.ringOn e).any (fun x => x.1 == r) = true := by
    rw [hon]
    simp
  have hf : homeEffect (fun m => if (m.hw.ringOn e).any (fun x => x.1 == r) then readsDone e m else m) s.mach =
      homeEffect (readsDone e) s.mach := by
    rw [homeEffect, homeEffect, if_pos h]
  exact onMach_congr hf

/-! ### A VERIFY against PATTERN over one line (R278, R282) -/

/-- The bytes of the one read that a window of one line has made. -/
theorem gather_one {h : Hw} {r k len : Nat} {a : DmAcc} (hacc : h.ringAccs r = [(k, a)]) (hoff : a.off = 0) (hlen : a.len = len)
    (hpos : 0 < len) : gather r a.use 0 len h = if a.poison then none else some (bits a.data (8 * (a.gpa % 64)) (8 * len)) := by
  have hmine : (a.use == a.use && decide (0 ≤ a.off ∧ a.off < 0 + len)) = true := by
    simp [hoff, hpos]
  rw [gather, hacc, List.filter_cons, if_pos hmine, List.filter_nil]
  simp [hoff, hlen]

/-- A job's bytes in one line are one piece. -/
theorem pieceLen_one {d len : Nat} (hlen : alignAddr d % 64 + len ≤ 64) : pieceLen d 0 len = len := by
  rw [pieceLen]
  omega

theorem evalWindow_end (h : Hw) (r d o n : Nat) : evalWindow h r d o o n = ([], none) := by
  cases n with
  | zero => rfl
  | succ n => rw [evalWindow, if_pos (Nat.le_refl _)]

/-- What a VERIFY of `len` bytes in one line finds in the bytes read: poison, or the first difference from PATTERN. -/
def verifyStop (d len : Nat) (v : Option Nat) : Option (Nat × Nat × Nat × Nat) :=
  match v with
  | none => some (0, 4, dSrc d, 0)
  | some v => (firstDiff v (patBytes (dPattern d) (dSrc d) len) 0 len).map (fun i => (i, 1, dSrc d + i, 0))

theorem evalWindow_verify {h : Hw} {r d len : Nat} {v : Option Nat} (hop : dOpc d = 3) (hpat : dPat d = true)
    (hlen : dSrc d % 64 + len ≤ 64) (hpos : 0 < len) (hv : gather r .src 0 len h = v) :
    evalWindow h r d 0 (0 + len) 65 = ([], verifyStop d len v) := by
  have hpiece : pieceLen d 0 (0 + len) = len := by
    rw [Nat.zero_add]
    exact pieceLen_one (by rw [alignAddr, if_pos hop]; exact hlen)
  have huse : usesSrc d = true := by simp [usesSrc, hop]
  rw [show (65 : Nat) = 64 + 1 from rfl, evalWindow, if_neg (by omega), hpiece]
  dsimp only
  rw [if_pos huse, hv]
  cases v with
  | none => rfl
  | some v =>
    dsimp only
    rw [if_pos hop, if_pos hpat]
    dsimp only
    rw [Nat.add_zero, verifyStop]
    cases firstDiff v (patBytes (dPattern d) (dSrc d) len) 0 len with
    | none => exact evalWindow_end _ _ _ _ _
    | some i =>
      dsimp only
      rw [Nat.zero_add, Option.map_some]

end Sys2Proof.Machine

namespace Sys2Proof.Machine

/-! ### An access that leaves for the local home (R80, R262, R277) -/

/-- The request that an access makes at the local home. -/
def moverReq (h : Hw) (tag : Nat) (a : DmAcc) : HReq :=
  let d := ((h.job a.ring).map DmJob.desc).getD 0
  { agent := 1024, kind := if a.use.writes then .ncWrite else .ncRead, la := a.gpa % 2 ^ 43 / 64, tag := tag, unit := 1, xl := a.xl,
    data := a.data, en := a.en, poison := a.poison,
    dmx := some (ringNo a.ring, if a.use == .src then dStid d else dDtid d, (if a.use == .src then dSrc d else dDst d) + a.off) }

/-- A destination line needs no ownership at its own home. -/
theorem issue_own {m : Mach} {tag : Nat} {a : DmAcc} (hget : Store.get? m.hw.dm.accs tag = some a) (hhome : a.gpa / 2 ^ 43 = m.hw.sid)
    (huse : a.use = .own) : issue tag m = m.onHw (fun h => h.dmVisible tag) := by
  rw [issue, hget]
  dsimp only
  rw [if_pos hhome, if_pos (by rw [huse]; rfl)]

theorem issue_local {m : Mach} {tag : Nat} {a : DmAcc} (hget : Store.get? m.hw.dm.accs tag = some a) (hhome : a.gpa / 2 ^ 43 = m.hw.sid)
    (huse : a.use ≠ .own) : issue tag m = arrive (moverReq m.hw tag a) m := by
  rw [issue, hget]
  dsimp only
  rw [if_pos hhome, if_neg (by simpa using huse)]
  rfl

theorem moverWrite_moverReq {h : Hw} {tag : Nat} {a : DmAcc} (huse : a.use = .write) (hpois : a.poison = false) :
    MoverWrite (moverReq h tag a) where
  kind := by
    rw [moverReq]
    dsimp only
    rw [huse]
    rfl
  agent := rfl
  unit := .inl rfl
  msg := rfl
  poison := hpois

theorem gtop_congr {a b : Hw} (h : a.regs = b.regs) : a.gtop = b.gtop := by
  unfold Hw.gtop Hw.groupUsable
  rw [Hw.fget_congr h]

theorem groupOf_congr {a b : Hw} (h : a.regs = b.regs) (e : Nat) : a.groupOf e = b.groupOf e := by
  unfold Hw.groupOf Hw.groupUsable Hw.storeFirst
  rw [gtop_congr h, Hw.fget_congr h, Hw.fget_congr h F.DD_STAT_GRPUSE, Hw.fget_congr h F.DD_GRPBASE_VAL 1,
    Hw.fget_congr h F.DD_GRPBASE_VAL 2]

/-- The address map reads the registers alone. -/
theorem domeMap_congr {a b : Hw} (h : a.regs = b.regs) (o : Nat) : domeMap a o = domeMap b o := by
  unfold domeMap
  dsimp only
  rw [show a.storeFirst = b.storeFirst from Hw.fget_congr h _ _, show a.grouped = b.grouped by rw [Hw.grouped, Hw.flag, Hw.fget_congr h]; rfl,
    gtop_congr h, groupOf_congr h, Hw.fget_congr h F.DD_GRPEXT_VAL, Hw.fget_congr h F.DD_GRPBASE_VAL]

theorem chFailed_congr {a b : Hw} (h : a.regs = b.regs) (c : Nat) : a.chFailed c = b.chFailed c := by
  rw [Hw.chFailed, Hw.chFailed, Hw.fget_congr h]

theorem storeFirst_congr {a b : Hw} (h : a.regs = b.regs) : a.storeFirst = b.storeFirst := Hw.fget_congr h _ _

theorem domeExt_congr {a b : Hw} (h : a.regs = b.regs) : a.domeExt = b.domeExt := Hw.fget_congr h _ _

/-- The one access listed becomes visible. -/
theorem dmVisible_one {h : Hw} {tag : Nat} {a : DmAcc} (haccs : h.dm.accs = [(tag, a)]) :
    h.dmVisible tag = { h with dm := { h.dm with accs := [(tag, { a with st := .done })] } } := by
  rw [Hw.dmVisible, haccs, Store.get?, if_pos rfl]
  simp [Store.put]

theorem MoverWrite.accepted_dm {r : HReq} (hr : MoverWrite r) {a b : Hw} (h : a.dm = b.dm) : (accepted r a).dm = (accepted r b).dm := by
  rcases hr.unit with hu | hu
  · rw [hr.accepted_unit1 hu, hr.accepted_unit1 hu, Hw.dmVisible, Hw.dmVisible, h]
    split
    · exact h
    · rfl
  · rw [hr.accepted_unit3 hu, hr.accepted_unit3 hu, h]

/-- What a write of a window to a whole line of this home finds. -/
structure LineReady (la : Nat) (h : Hw) : Prop where
  prim : h.chFailed (domeMap h (lineOff la)).prim = false
  store : h.storeWord (lineOff la) = none
  rev : h.revIn (lineOff la) = []

theorem LineReady.congr {la : Nat} {a b : Hw} (hr : LineReady la a) (hregs : b.regs = a.regs) (hbd : b.bd = a.bd) : LineReady la b where
  prim := by rw [chFailed_congr hregs, domeMap_congr hregs]; exact hr.prim
  store := (Hw.storeWord_congr (storeFirst_congr hregs) (domeExt_congr hregs) _).trans hr.store
  rev := (Hw.revIn_congr (storeFirst_congr hregs) (domeExt_congr hregs) hbd _).trans hr.rev

/-- What a window's write of a whole line leaves: the access is done, the line stored, and the home idle again. -/
structure LineWritten (la data : Nat) (h' : Hw) (m m' : Mach) : Prop where
  dm : m'.hw.dm = h'.dm
  txns : m'.hw.hd.txns = []
  held : m'.hw.hd.held = m.hw.hd.held
  bd : m'.hw.bd = m.hw.bd
  dome : m'.mem.dome = writeLE 0 m.mem.dome (lineOff la) data 64
  line : m'.line (lineOff la) = data % 256 ^ 64

theorem arrive_lineWrite {r : HReq} {m : Mach} (ha : Alone r m.hw) (hr : MoverWrite r) (hring : (r.dmx.map Prod.fst).getD 0 < 1024)
    (hb : allBytes r.en = true) (hline : LineReady r.la m.hw) : LineWritten r.la r.data (accepted r m.hw) m (arrive r m) := by
  obtain ⟨htxns, -⟩ := ha.idle
  have hoff : lineOff r.la / 64 * 64 = lineOff r.la := by
    rw [lineOff]
    omega
  obtain ⟨tags0, dm0, hopen⟩ := openedFor_moverWrite hr htxns
  have hready : LineReady r.la (m.onHw (openedFor r)).hw := by
    rw [Mach.onHw_hw, hopen]
    exact hline.congr rfl rfl
  have hst := homeWriteOf_full hring hb hready.prim hready.store hready.rev
  obtain ⟨regs, honly⟩ := hst.only
  have hdm : (openedFor r m.hw).dm = (accepted r m.hw).dm := by
    rw [openedFor, Hw.setTxn_dm]
    exact hr.accepted_dm (Hw.openTag_dm _ _ _)
  obtain ⟨tags, hd, harr, htx, hheld⟩ := arrive_moverWrite ha hr (by rw [honly, Mach.onHw_hw])
  have hstore : (homeWriteOf r (m.onHw (openedFor r))).hw.storeWord (lineOff r.la) = none :=
    (Hw.storeWord_congr hst.first hst.ext _).trans hready.store
  have hrev : (homeWriteOf r (m.onHw (openedFor r))).hw.revIn (lineOff r.la) = [] :=
    (Hw.revIn_congr hst.first hst.ext (by rw [honly, Mach.onHw_hw]) _).trans hready.rev
  have hdome := hst.dome
  rw [hoff, Mach.onHw_mem] at hdome
  have hbd : (homeWriteOf r (m.onHw (openedFor r))).hw.bd = m.hw.bd := by
    rw [honly, Mach.onHw_hw, hopen]
  have hdm2 : (homeWriteOf r (m.onHw (openedFor r))).hw.dm = (accepted r m.hw).dm := by
    rw [honly, Mach.onHw_hw, hdm]
  rw [harr]
  generalize homeWriteOf r (m.onHw (openedFor r)) = w at hstore hrev hdome hbd hdm2
  refine ⟨hdm2, htx, hheld, hbd, hdome, ?_⟩
  refine (line_plain (by rw [hoff]; exact hstore) hrev).trans ?_
  rw [hoff, hdome, readLE_writeLE]

end Sys2Proof.Machine

namespace Sys2Proof.Machine

/-! ### A FILL of one line (R277, R278) -/

/-- The write of `v` that follows the ownership of a destination of `len` bytes. -/
def DmAcc.written (a : DmAcc) (v len : Nat) : DmAcc :=
  { a with use := .write, st := .out, data := v * 2 ^ (8 * (a.gpa % 64)), en := (2 ^ len - 1) * 2 ^ (a.gpa % 64) }

theorem evalWindow_fill {h : Hw} {r d k : Nat} {a : DmAcc} (hop : dOpc d = 1) (halign : dDst d % 64 = 0) (hacc : h.ringAccs r = [(k, a)])
    (huse : a.use = .own) (hoff : a.off = 0) (hpois : a.poison = false) :
    evalWindow h r d 0 (0 + 64) 65 = ([a.written (patBytes (dPattern d) (dDst d) 64) 64], none) := by
  have hpiece : pieceLen d 0 (0 + 64) = 64 := by
    rw [Nat.zero_add]
    exact pieceLen_one (by rw [alignAddr, if_neg (by omega)]; omega)
  have hsrc : usesSrc d = false := by simp [usesSrc, hop]
  have hown : (h.ringAccs r).find? (fun x => x.2.use == .own && x.2.off == 0) = some (k, a) := by
    rw [hacc, List.find?_cons_of_pos (by simp [huse, hoff])]
  rw [show (65 : Nat) = 64 + 1 from rfl, evalWindow, if_neg (by omega), hpiece]
  dsimp only
  rw [if_neg (by simp [hsrc])]
  dsimp only
  rw [if_neg (by omega), hown]
  dsimp only
  rw [if_neg (by simp [hpois]), evalWindow_end, Nat.add_zero]
  rfl

theorem patBytes_lt (p a n : Nat) : patBytes p a n < 256 ^ n := by
  induction n generalizing a with
  | zero => exact Nat.one_pos
  | succ n ih =>
    have hb : bits p (8 * (a % 8)) 8 < 256 := bits_lt _ _ _
    have := ih (a + 1)
    rw [patBytes, Nat.pow_succ]
    omega

/-- The home's registers and state decide whether a request finds it alone. -/
theorem Alone.congr {r : HReq} {a b : Hw} (hhd : b.hd = a.hd) (hregs : b.regs = a.regs) (ha : Alone r a) : Alone r b where
  idle := by rw [Hw.homeIdle, hhd]; exact ha.idle
  role := by rw [Hw.fget_congr hregs]; exact ha.role
  dir := by rw [Hw.dirEnt, hhd]; exact ha.dir
  xl := ha.xl
  kind := ha.kind

/-- The data mover's only access, a write of a whole line of this home, is carried out. -/
theorem moverWrite_line {m : Mach} {tag : Nat} {a : DmAcc} (haccs : m.hw.dm.accs = [(tag, a)]) (hhome : a.gpa / 2 ^ 43 = m.hw.sid)
    (huse : a.use = .write) (hpois : a.poison = false) (hring : ringNo a.ring < 1024) (hb : allBytes a.en = true)
    (ha : Alone (moverReq m.hw tag a) m.hw) (hline : LineReady (a.gpa % 2 ^ 43 / 64) m.hw) :
    LineWritten (a.gpa % 2 ^ 43 / 64) a.data { m.hw with dm := { m.hw.dm with accs := [(tag, { a with st := .done })] } } m (issue tag m) := by
  have hw := moverWrite_moverReq (h := m.hw) (tag := tag) huse hpois
  rw [issue_local (by rw [haccs, Store.get?, if_pos rfl]) hhome (by rw [huse]; decide), ← dmVisible_one haccs]
  have hdone := arrive_lineWrite ha hw hring hb hline
  rw [hw.accepted_unit1 rfl] at hdone
  exact hdone

end Sys2Proof.Machine

namespace Sys2Proof.Machine

/-! ### DM_WINDOW_READS_DONE -/

section ReadsDone

variable {s : State} {e r k : Nat} {j : DmJob} {a : DmAcc}

/-- The access of a ring's only one is the ring's. -/
theorem ring_of_ringAccs {h : Hw} (hacc : h.ringAccs r = [(k, a)]) : a.ring = r := by
  have hmem : (k, a) ∈ h.ringAccs r := by
    rw [hacc]
    exact List.mem_singleton_self (k, a)
  simpa using (List.mem_filter.mp hmem).2

theorem all_of_ringAccs {h : Hw} (hacc : h.ringAccs r = [(k, a)]) {P : DmAcc → Prop} (hp : P a) : ∀ x ∈ h.ringAccs r, P x.2 := by
  intro x hx
  rw [hacc, List.mem_singleton] at hx
  rw [hx]
  exact hp

theorem accsOut_of_ringAccs {h : Hw} (hacc : h.ringAccs r = [(k, a)]) (hst : a.st = .out) : accsOut r h = true := by
  rw [accsOut, hacc, List.any_cons, hst]
  rfl

/-- While an answer is outstanding the window waits. -/
theorem readsDone_completes_out (hrun : Running e r j .reading s.mach.hw) (hheld : s.mach.hw.hd.held = [])
    (hacc : s.mach.hw.ringAccs r = [(k, a)]) (hst : a.st = .out) : Completes (.dmWindowReadsDone e r) s (fun m => m = s.mach) := by
  have hsame : readsDone e s.mach = s.mach :=
    readsDone_waits hrun (all_of_ringAccs (P := fun a => a.st ≠ .redo) hacc (by rw [hst]; decide)) (accsOut_of_ringAccs hacc hst)
  exact completes_onHome (exec_dmWindowReadsDone hrun.on) (by rw [hsame]; exact hheld) hsame

/-- A VERIFY over one line writes nothing: its window ends as its answer is evaluated. -/
theorem readsDone_completes_verify (hrun : Running e r j .reading s.mach.hw) (hheld : s.mach.hw.hd.held = [])
    (hacc : s.mach.hw.ringAccs r = [(k, a)]) (hst : a.st = .done) (hop : dOpc j.desc = 3) (hpat : dPat j.desc = true) (huse : a.use = .src)
    (hoff : a.off = 0) {len : Nat} (halen : a.len = len) (hpos : 0 < len) (hlen : dSrc j.desc % 64 + len ≤ 64) (hzero : j.doneB = 0)
    (hwin : j.winLen = len) : Completes (.dmWindowReadsDone e r) s (fun m => m = s.mach.onHw (fun h => (dropAccs r 0 h).setJob r
      (j.evaluated (verifyStop j.desc len (if a.poison then none else some (bits a.data (8 * (a.gpa % 64)) (8 * len))))))) := by
  have hg := gather_one hacc hoff halen hpos
  rw [huse] at hg
  have hval : evalWindow s.mach.hw r j.desc j.doneB (j.doneB + j.winLen) 65 = ([], verifyStop j.desc len
      (if a.poison then none else some (bits a.data (8 * (a.gpa % 64)) (8 * len)))) := by
    rw [hzero, hwin]
    exact evalWindow_verify hop hpat hlen hpos hg
  have hev := readsDone_answered hrun (all_of_ringAccs (P := fun a => a.st = .done) hacc hst) hval
  rw [List.foldl_nil] at hev
  exact completes_onHome (exec_dmWindowReadsDone hrun.on) (by rw [hev]; exact hheld) hev

/-- The window's accesses replaced by the write of its one line. -/
theorem accs_of_written {h : Hw} (haccs : h.dm.accs = [(k, a)]) (hring : a.ring = r) (j' : DmJob) (w : DmAcc) :
    (addAcc w ((dropAccs r 0 h).setJob r j')).dm.accs = [(h.dm.seq, w)] := by
  have hdrop : h.dm.accs.filter (fun x => !(x.2.ring == r && decide (0 ≤ x.2.off))) = [] := by
    rw [haccs, List.filter_cons, if_neg (by simp [hring]), List.filter_nil]
  change Store.put (h.dm.accs.filter (fun x => !(x.2.ring == r && decide (0 ≤ x.2.off)))) h.dm.seq w = [(h.dm.seq, w)]
  rw [hdrop]
  rfl

/-- The destination of a FILL of one line, whose ownership has been answered. -/
structure FillOwned (j : DmJob) (a : DmAcc) : Prop where
  op : dOpc j.desc = 1
  use : a.use = .own
  off : a.off = 0
  st : a.st = .done
  poison : a.poison = false
  xl : a.xl = false
  doneB : j.doneB = 0
  win : j.winLen = 64
  align : dDst j.desc % 64 = 0
  gpa : a.gpa % 64 = 0

/-- The bytes that it writes. -/
def fillData (j : DmJob) : Nat := patBytes (dPattern j.desc) (dDst j.desc) 64

/-- Its write. -/
def fillWrite (j : DmJob) (a : DmAcc) : DmAcc := a.written (fillData j) 64

theorem fillWrite_data {j : DmJob} {a : DmAcc} (hfill : FillOwned j a) : (fillWrite j a).data = fillData j := by
  rw [fillWrite, DmAcc.written, hfill.gpa, Nat.mul_zero, Nat.pow_zero, Nat.mul_one]

theorem fillWrite_allBytes {j : DmJob} {a : DmAcc} (hfill : FillOwned j a) : allBytes (fillWrite j a).en = true := by
  rw [fillWrite, DmAcc.written, hfill.gpa]
  exact show allBytes ((2 ^ 64 - 1) * 2 ^ 0) = true by decide

/-- The machine from which the write leaves: the window's answers are evaluated and its write is listed. -/
def fillStart (r : Nat) (j : DmJob) (a : DmAcc) (m : Mach) : Mach :=
  (m.onHw (fun h => (dropAccs r 0 h).setJob r { j with phase := .writing })).onHw (addAcc (fillWrite j a))

/-- Only the data mover's own state has changed by then. -/
theorem fillStart_frame (r : Nat) (j : DmJob) (a : DmAcc) (m : Mach) : ∃ dm, (fillStart r j a m).hw = { m.hw with dm := dm } := ⟨_, rfl⟩

theorem readsDone_fill {m : Mach} (hrun : Running e r j .reading m.hw) (hacc : m.hw.ringAccs r = [(k, a)]) (hfill : FillOwned j a) :
    readsDone e m = issue m.hw.dm.seq (fillStart r j a m) := by
  have hval : evalWindow m.hw r j.desc j.doneB (j.doneB + j.winLen) 65 = ([fillWrite j a], none) := by
    rw [hfill.doneB, hfill.win]
    exact evalWindow_fill hfill.op hfill.align hacc hfill.use hfill.off hfill.poison
  exact readsDone_answered hrun (all_of_ringAccs (P := fun a => a.st = .done) hacc hfill.st) hval

/-- What a write to a line finds at an idle home that does not list it. -/
structure LineHome (la : Nat) (h : Hw) : Prop where
  idle : h.homeIdle
  role : h.fget F.HD_SLSTAT_ROLE 16 ≠ 2
  dir : h.dirEnt la = none
  ready : LineReady la h

theorem readsDone_fill_written {m : Mach} (hrun : Running e r j .reading m.hw) (hacc : m.hw.ringAccs r = [(k, a)])
    (haccs : m.hw.dm.accs = [(k, a)]) (hfill : FillOwned j a) (hhome : a.gpa / 2 ^ 43 = m.hw.sid)
    (hline : LineHome (a.gpa % 2 ^ 43 / 64) m.hw) :
    (readsDone e m).hw.job r = some { j with phase := .writing } ∧
      (readsDone e m).hw.dm.accs = [(m.hw.dm.seq, { fillWrite j a with st := .done })] ∧
      LineWritten (a.gpa % 2 ^ 43 / 64) (fillData j) (readsDone e m).hw m (readsDone e m) := by
  have hring := ring_of_ringAccs hacc
  have hjob : (fillStart r j a m).hw.job r = some { j with phase := .writing } := Hw.job_setJob (dropAccs r 0 m.hw) r _
  have haccs2 : (fillStart r j a m).hw.dm.accs = [(m.hw.dm.seq, fillWrite j a)] := accs_of_written haccs hring _ _
  obtain ⟨dm, hdm⟩ := fillStart_frame r j a m
  have hmem : (fillStart r j a m).mem = m.mem := rfl
  have hno : ringNo (fillWrite j a).ring < 1024 := by
    rw [show (fillWrite j a).ring = r from hring, hrun.ringNo_eq]
    exact hrun.ring
  have halone : Alone (moverReq (fillStart r j a m).hw m.hw.dm.seq (fillWrite j a)) (fillStart r j a m).hw :=
    Alone.congr (a := m.hw) (by rw [hdm]) (by rw [hdm]) ⟨hline.idle, hline.role, hline.dir, hfill.xl, .inr rfl⟩
  have hw := moverWrite_line haccs2 (hhome.trans (by rw [hdm]; rfl)) rfl hfill.poison hno (fillWrite_allBytes hfill) halone
    (hline.ready.congr (by rw [hdm]) (by rw [hdm]))
  rw [← readsDone_fill hrun hacc hfill] at hw
  refine ⟨?_, congrArg DmState.accs hw.dm, ⟨rfl, hw.txns, ?_, ?_, ?_, hw.line.trans (by rw [fillWrite_data hfill])⟩⟩
  · rw [Hw.job, hw.dm]
    exact hjob
  · rw [hw.held, hdm]
  · rw [hw.bd, hdm]
  · rw [hw.dome, hmem, fillWrite_data hfill]
    rfl

/-- With its line owned a FILL writes it whole. -/
theorem readsDone_completes_fill (hrun : Running e r j .reading s.mach.hw) (hacc : s.mach.hw.ringAccs r = [(k, a)])
    (haccs : s.mach.hw.dm.accs = [(k, a)]) (hfill : FillOwned j a) (hhome : a.gpa / 2 ^ 43 = s.mach.hw.sid)
    (hline : LineHome (a.gpa % 2 ^ 43 / 64) s.mach.hw) :
    Completes (.dmWindowReadsDone e r) s (fun m => m.hw.job r = some { j with phase := .writing } ∧
      m.line (lineOff (a.gpa % 2 ^ 43 / 64)) = fillData j ∧ (∃ y, m.hw.dm.accs = [y] ∧ y.2.use = .write ∧ y.2.st = .done) ∧
      m.hw.hd.txns = [] ∧ m.hw.bd = s.mach.hw.bd ∧
      ∀ b, b < lineOff (a.gpa % 2 ^ 43 / 64) ∨ lineOff (a.gpa % 2 ^ 43 / 64) + 64 ≤ b →
        Store.getD 0 m.mem.dome b = Store.getD 0 s.mach.mem.dome b) := by
  obtain ⟨-, -, -, hnone, -⟩ := hline.idle
  obtain ⟨hjob, hone, hw⟩ := readsDone_fill_written hrun hacc haccs hfill hhome hline
  refine completes_onHome (exec_dmWindowReadsDone hrun.on) (hw.held.trans hnone) ⟨hjob, ?_, ⟨_, hone, rfl, rfl⟩, hw.txns, hw.bd, ?_⟩
  · rw [hw.line]
    exact Nat.mod_eq_of_lt (patBytes_lt _ _ 64)
  · intro b hb
    rw [hw.dome]
    exact getD_writeLE_outside _ _ hb

end ReadsDone

end Sys2Proof.Machine

namespace Sys2Proof.Machine

/-! ### A ring's slot in the scratchpad (R267, R593) -/

theorem writeLE_mod (d : Byte) (m : SMap Byte) (a v n : Nat) : writeLE d m a (v % 256 ^ n) n = writeLE d m a v n := by
  induction n generalizing m a v with
  | zero => rfl
  | succ n ih =>
    have hlow : BitVec.ofNat 8 (v % 256 ^ (n + 1)) = BitVec.ofNat 8 v := by
      apply BitVec.eq_of_toNat_eq
      rw [BitVec.toNat_ofNat, BitVec.toNat_ofNat]
      exact Nat.mod_mod_of_dvd _ (dvd_pow_self 256 n.succ_ne_zero)
    have hhigh : v % 256 ^ (n + 1) / 256 = v / 256 % 256 ^ n := by
      rw [Nat.pow_succ, Nat.mul_comm, Nat.mod_mul_right_div_self]
    rw [writeLE, writeLE, hlow, hhigh, ih]

/-- Bytes written in two runs. -/
theorem writeLE_add (d : Byte) (m : SMap Byte) (a v n k : Nat) :
    writeLE d m a v (n + k) = writeLE d (writeLE d m a v n) (a + n) (v / 256 ^ n) k := by
  induction n generalizing m a v with
  | zero => simp [writeLE]
  | succ n ih =>
    rw [show n + 1 + k = (n + k) + 1 by omega, writeLE, writeLE, ih, Nat.div_div_eq_div_mul, Nat.pow_succ, Nat.mul_comm 256,
      show a + 1 + n = a + (n + 1) by omega]

theorem readLE_lt (d : Byte) (m : SMap Byte) (a n : Nat) : readLE d m a n < 256 ^ n := by
  induction n generalizing a with
  | zero => exact Nat.one_pos
  | succ n ih =>
    have hb : (Store.getD d m a).toNat < 256 := (Store.getD d m a).isLt
    have := ih (a + 1)
    rw [readLE, Nat.pow_succ]
    omega

/-- A word with every byte enabled is replaced. -/
theorem spApply_word {q : SpReq} (hop : q.op = .write) (hm : q.master = 1) (hen : q.en = 255) (hoff : q.off % 8 = 0) (hsize : q.size = 8)
    {w : Nat} (hw : w < 256 ^ 8) : spApply q w = q.data % 2 ^ 64 := by
  have hmask : byteMask (spEnables q) = 2 ^ 64 - 1 := by
    rw [spEnables, if_pos (.inl hm), hen]
    decide
  have hland : Nat.land w (2 ^ 64 - 1) = w := by
    exact (Nat.and_two_pow_sub_one_eq_mod w 64).trans (Nat.mod_eq_of_lt (by omega))
  have hdata : Nat.land (q.data % 2 ^ 64 % 2 ^ 64) (2 ^ 64 - 1) = q.data % 2 ^ 64 := by
    refine (Nat.and_two_pow_sub_one_eq_mod _ 64).trans ?_
    omega
  unfold spApply
  dsimp only
  rw [hop, hmask, hoff, hsize, hland, Nat.mul_zero, Nat.pow_zero, Nat.mul_one, show 8 * 8 = 64 from rfl, hdata]
  dsimp only
  omega

/-- The data mover's write of a whole word of the scratchpad. -/
theorem spWord_slotAcc {a : Nat} (ha : a % 8 = 0) (r i data : Nat) (m : Mach) :
    ∃ bad, (spWord (slotAcc r a i .write data 255) .good m).2 =
      { m with mem := { m.mem with sp := writeLE 0 m.mem.sp (a + 8 * i) data 8, spBad := bad } } := by
  have hword : 8 * ((slotAcc r a i .write data 255).off / 8) = a + 8 * i := by
    change 8 * ((a + 8 * i) / 8) = a + 8 * i
    omega
  have happly : ∀ w, w < 256 ^ 8 → spApply (slotAcc r a i .write data 255) w = data % 2 ^ 64 := fun w hw =>
    spApply_word rfl rfl rfl (by change (a + 8 * i) % 8 = 0; omega) rfl hw
  unfold spWord
  dsimp only
  rw [if_pos ⟨rfl, by rfl⟩, hword, happly _ (readLE_lt _ _ _ _), show 2 ^ 64 = 256 ^ 8 by norm_num, writeLE_mod]
  exact ⟨_, rfl⟩

/-- Word `i` of a write of `n` bytes to a slot of a ring. -/
def slotWord (r a v n i : Nat) (m : Mach) : Mach :=
  (spWord (slotAcc r a i .write (bits v (64 * i) 64) (2 ^ min 8 (n - 8 * i) - 1)) .good m).2

theorem iterN_slotWord {a : Nat} (ha : a % 8 = 0) (r v : Nat) {n i k : Nat} (hn : 8 * (i + k) ≤ n) (m : Mach) :
    ∃ bad, iterN (slotWord r a v n) i k m =
      { m with mem := { m.mem with sp := writeLE 0 m.mem.sp (a + 8 * i) (v / 2 ^ (64 * i)) (8 * k), spBad := bad } } := by
  induction k generalizing i m with
  | zero => exact ⟨m.mem.spBad, rfl⟩
  | succ k ih =>
    have hen : 2 ^ min 8 (n - 8 * i) - 1 = 255 := by
      rw [Nat.min_eq_left (by omega)]
      rfl
    obtain ⟨bad, hword⟩ := spWord_slotAcc ha r i (bits v (64 * i) 64) m
    obtain ⟨bad2, hrest⟩ := ih (i := i + 1) (by omega) (slotWord r a v n i m)
    have hfirst : slotWord r a v n i m =
        { m with mem := { m.mem with sp := writeLE 0 m.mem.sp (a + 8 * i) (v / 2 ^ (64 * i)) 8, spBad := bad } } := by
      rw [slotWord, hen, hword, bits, show 2 ^ 64 = 256 ^ 8 by norm_num, writeLE_mod]
    have hdiv : v / 2 ^ (64 * (i + 1)) = v / 2 ^ (64 * i) / 256 ^ 8 := by
      rw [Nat.div_div_eq_div_mul, Nat.mul_add, Nat.pow_add]
      norm_num
    refine ⟨bad2, ?_⟩
    rw [iterN, hrest, hfirst, hdiv, show a + 8 * (i + 1) = a + 8 * i + 8 by omega, show 8 * (k + 1) = 8 + 8 * k by omega, writeLE_add]

theorem slotAddr_mod (h : Hw) (r : Nat) : h.slotAddr r % 64 = 0 := by
  rw [Hw.slotAddr, Hw.ringBase]
  split <;> omega

/-- Whole words written to a slot in the scratchpad. -/
theorem slotWrite_scratchpad {r o k : Nat} {m : Mach} (hr : r ≠ ownRing) (hloc : m.hw.fget F.DM_RCFG_LOC r = 0) (ho : o % 8 = 0) (v : Nat) :
    ∃ bad, slotWrite r o v (8 * k) m =
      { m with mem := { m.mem with sp := writeLE 0 m.mem.sp (m.hw.slotAddr r + o) v (8 * k), spBad := bad } } := by
  have hmod := slotAddr_mod m.hw r
  obtain ⟨bad, hall⟩ := iterN_slotWord (a := m.hw.slotAddr r + o) (by omega) r v (n := 8 * k) (i := 0) (k := k) (by omega) m
  refine ⟨bad, ?_⟩
  rw [Nat.mul_zero, Nat.pow_zero, Nat.div_one, Nat.add_zero] at hall
  rw [slotWrite]
  dsimp only
  rw [if_neg hr, if_pos hloc, show (8 * k + 7) / 8 = k by omega]
  exact hall

/-! ### A ring's slot in Dome (R116, R127) -/

/-- The request by which `n` bytes of a slot in Dome are written. -/
def slotReq (r a v n : Nat) : HReq :=
  { agent := 1024, kind := .ncWrite, la := a / 64, unit := 3, data := v % 2 ^ (8 * n) * 2 ^ (a % 64 * 8),
    en := (2 ^ n - 1) * 2 ^ (a % 64), dmx := some (ringNo r, 0, 0) }

theorem moverWrite_slotReq (r a v n : Nat) : MoverWrite (slotReq r a v n) := ⟨rfl, rfl, .inr rfl, rfl, rfl⟩

theorem slotWrite_dome {r o v n : Nat} {m : Mach} (hr : r ≠ ownRing) (hloc : m.hw.fget F.DM_RCFG_LOC r ≠ 0) :
    slotWrite r o v n m = arrive (slotReq r (m.hw.slotAddr r + o) v n) m := by
  rw [slotWrite, if_neg hr, if_neg hloc]
  rfl

/-- What a write of a slot leaves: the registers, the pool's state, the data mover's, and what is held at the ports. -/
structure SlotKept (a b : Mach) : Prop where
  regs : b.hw.regs = a.hw.regs
  bd : b.hw.bd = a.hw.bd
  dm : b.hw.dm = a.hw.dm
  held : b.hw.hd.held = a.hw.hd.held

theorem copyGood_congr {a b : Mach} (hregs : b.hw.regs = a.hw.regs) (hmem : b.mem = a.mem) (c x : Nat) :
    b.copyGood c x = a.copyGood c x := by
  rw [Mach.copyGood, Mach.copyGood, Mach.attr, Mach.attr, chFailed_congr hregs, hmem]

theorem wholeLine_congr {a b : Mach} (hregs : b.hw.regs = a.hw.regs) (hbd : b.hw.bd = a.hw.bd) (hmem : b.mem = a.mem) {o : Nat}
    (hwhole : a.wholeLine o) : b.wholeLine o := by
  obtain ⟨hstore, hrev, hgood, hmirror⟩ := hwhole
  refine ⟨?_, ?_, ?_, ?_⟩
  · rw [Hw.storeWord_congr (storeFirst_congr hregs) (domeExt_congr hregs), hstore]
  · rw [Hw.revIn_congr (storeFirst_congr hregs) (domeExt_congr hregs) hbd, hrev]
  · rw [domeMap_congr hregs, copyGood_congr hregs hmem, hgood]
  · intro c hc
    rw [domeMap_congr hregs] at hc
    rw [domeMap_congr hregs, copyGood_congr hregs hmem, hmirror c hc]

/-- A write of 32 bytes to a slot in Dome whose line the home can take at once. -/
theorem arrive_slotReq {r a v : Nat} {m : Mach} (hr : ringNo r < 1024) (ha : a % 64 = 0) (halone : Alone (slotReq r a v 32) m.hw)
    (hwhole : m.wholeLine a) : SlotKept m (arrive (slotReq r a v 32) m) := by
  have hw := moverWrite_slotReq r a v 32
  obtain ⟨htxns, -⟩ := halone.idle
  obtain ⟨tags0, dm0, hopen⟩ := openedFor_moverWrite hw htxns
  have hdm : (openedFor (slotReq r a v 32) m.hw).dm = m.hw.dm := by
    rw [openedFor, Hw.setTxn_dm, hw.accepted_unit3 rfl, Hw.openTag_dm]
  have hen : allBytes (slotReq r a v 32).en = false := by
    rw [slotReq, ha]
    exact show allBytes ((2 ^ 32 - 1) * 2 ^ 0) = false by decide
  have hoff : lineOff (slotReq r a v 32).la = a := by
    change a / 64 * 64 = a
    omega
  obtain ⟨mem, hmem⟩ := homeWriteOf_partial (r := slotReq r a v 32) (m := m.onHw (openedFor (slotReq r a v 32))) hr hen (by
    rw [hoff]
    exact wholeLine_congr (by rw [Mach.onHw_hw, hopen]) (by rw [Mach.onHw_hw, hopen]) rfl hwhole)
  obtain ⟨tags, hd, harr, -, hheld⟩ := arrive_moverWrite halone hw (by rw [hmem]; rfl)
  rw [harr, hmem]
  exact ⟨by change (openedFor _ m.hw).regs = _; rw [hopen], by change (openedFor _ m.hw).bd = _; rw [hopen], hdm, hheld⟩

/-- A slot that takes a write at once takes one of its context area. -/
theorem slotWrite_kept {r : Nat} {m : Mach} (hr : r < 1024) (hopen : m.slotOpen r) (v : Nat) : SlotKept m (slotWrite r 0x40 v 32 m) := by
  have hown : r ≠ ownRing := by
    rw [ownRing]
    omega
  by_cases hloc : m.hw.fget F.DM_RCFG_LOC r = 0
  · obtain ⟨bad, hw⟩ := slotWrite_scratchpad (k := 4) (o := 0x40) hown hloc (by decide) v
    rw [show 32 = 8 * 4 from rfl, hw]
    exact ⟨rfl, rfl, rfl, rfl⟩
  · obtain hl | ⟨hidle, hrole, hdir, hwhole⟩ := hopen
    · exact absurd hl hloc
    · have hmod := slotAddr_mod m.hw r
      rw [slotWrite_dome hown hloc]
      exact arrive_slotReq (by rw [ringNo, if_neg hown]; exact hr) (by omega) ⟨hidle, hrole, hdir, rfl, .inr rfl⟩ hwhole

end Sys2Proof.Machine

namespace Sys2Proof.Machine

/-! ### DM_WINDOW_COMMIT (R267, R276, R281, R283) -/

/-- The job once its window has committed. -/
def DmJob.committed (j : DmJob) : DmJob := { j with doneB := j.doneB + j.winLen, winLen := 0, phase := .idle, stop := none }

/-- The data mover's state at a commit, before the slot takes the job's context. -/
def commitHw (r : Nat) (j : DmJob) (h : Hw) : Hw := dropAccs r 0 (h.takeFree.2.setJob r j.committed)

/-- The machine after a commit. -/
def commitMach (r : Nat) (j : DmJob) (m : Mach) : Mach :=
  slotWrite r 0x40 (m.hw.takeFree.1 % 2 ^ 256) 32 { m with hw := commitHw r j m.hw }

theorem commitHw_frame (r : Nat) (j : DmJob) (h : Hw) : ∃ free dm, commitHw r j h = { h with free := free, dm := dm } := ⟨_, _, rfl⟩

@[simp] theorem commitHw_job (r : Nat) (j : DmJob) (h : Hw) : (commitHw r j h).job r = some j.committed :=
  Hw.job_setJob h.takeFree.2 r j.committed

theorem ringAccs_dropAccs (r : Nat) (h : Hw) : (dropAccs r 0 h).ringAccs r = [] := by
  rw [Hw.ringAccs, dropAccs, List.filter_filter, List.filter_eq_nil_iff]
  intro x _
  simp

theorem ringAccs_congr {a b : Hw} (h : b.dm = a.dm) (r : Nat) : b.ringAccs r = a.ringAccs r := by
  rw [Hw.ringAccs, Hw.ringAccs, h]

theorem job_congr {a b : Hw} (h : b.dm = a.dm) (r : Nat) : b.job r = a.job r := by
  rw [Hw.job, Hw.job, h]

section Commit

variable {s : State} {e r k : Nat} {j : DmJob} {a : DmAcc}

theorem commitWindow_waits {m : Mach} (hrun : Running e r j .writing m.hw) (hst : ∀ x ∈ m.hw.ringAccs r, x.2.st ≠ .redo)
    (hout : accsOut r m.hw = true) : commitWindow e m = m := by
  rw [commitWindow, hrun.on]
  dsimp only
  rw [if_pos hrun.phase, redoAll_of_settled hst, hrun.job]
  exact if_pos hout

/-- While a write is outstanding the window waits. -/
theorem commit_completes_out (hrun : Running e r j .writing s.mach.hw) (hheld : s.mach.hw.hd.held = [])
    (hacc : s.mach.hw.ringAccs r = [(k, a)]) (hst : a.st = .out) : Completes (.dmWindowCommit e) s (fun m => m = s.mach) := by
  have hsame : commitWindow e s.mach = s.mach :=
    commitWindow_waits hrun (all_of_ringAccs (P := fun a => a.st ≠ .redo) hacc (by rw [hst]; decide)) (accsOut_of_ringAccs hacc hst)
  exact completes_onHome (c := .dmWindowCommit e) rfl (by rw [hsame]; exact hheld) hsame

/-- A window without a stop commits; the job then ends, stops for an abort, is pre-empted, or goes on. -/
theorem commitWindow_done {m : Mach} (hrun : Running e r j .writing m.hw) (hst : ∀ x ∈ m.hw.ringAccs r, x.2.st = .done)
    (hstop : j.stop = none) : commitWindow e m =
      if j.doneB + j.winLen = dLen j.desc then endJob r 0 0 0 (commitMach r j m)
      else if j.abort then endJob r 6 j.committed.next 0 (commitMach r j m)
      else if j.marked.isSome then preempt r (commitMach r j m)
      else commitMach r j m := by
  have hin : accsOut r m.hw = false := by
    rw [accsOut, List.any_eq_false]
    intro x hx
    rw [hst x hx]
    decide
  rw [commitWindow, hrun.on]
  dsimp only
  rw [if_pos hrun.phase, redoAll_of_settled (fun x hx => by rw [hst x hx]; decide), hrun.job]
  dsimp only
  rw [hin, if_neg Bool.false_ne_true, hstop]
  rfl

/-- What a commit leaves of a job whose slot takes its context at once. -/
theorem commitMach_kept {m : Mach} (hring : r < 1024) (hopen : m.slotOpen r) :
    (commitMach r j m).hw.job r = some j.committed ∧ (commitMach r j m).hw.ringAccs r = [] ∧ (commitMach r j m).hw.regs = m.hw.regs ∧
      (commitMach r j m).hw.bd = m.hw.bd ∧ (commitMach r j m).hw.hd.held = m.hw.hd.held := by
  obtain ⟨free, dm, hfr⟩ := commitHw_frame r j m.hw
  have hopen1 : Mach.slotOpen { m with hw := commitHw r j m.hw } r := by
    rw [hfr]
    exact hopen.imp id (fun ⟨hidle, hrole, hdir, hwhole⟩ => ⟨hidle, hrole, hdir, wholeLine_congr rfl rfl rfl hwhole⟩)
  have hk := slotWrite_kept hring hopen1 (m.hw.takeFree.1 % 2 ^ 256)
  change SlotKept _ (commitMach r j m) at hk
  refine ⟨?_, ?_, ?_, ?_, ?_⟩
  · rw [job_congr hk.dm, commitHw_job]
  · rw [ringAccs_congr hk.dm]
    exact ringAccs_dropAccs _ _
  · rw [hk.regs, hfr]
  · rw [hk.bd, hfr]
  · rw [hk.held, hfr]

/-- A commit in the scratchpad writes the context area of its slot alone. -/
theorem commitMach_scratchpad {m : Mach} (hown : r ≠ ownRing) (hloc : m.hw.fget F.DM_RCFG_LOC r = 0) :
    ∃ v bad, commitMach r j m = { hw := commitHw r j m.hw,
                                  mem := { m.mem with sp := writeLE 0 m.mem.sp (m.hw.slotAddr r + 0x40) v 32, spBad := bad } } := by
  obtain ⟨bad, hw⟩ := slotWrite_scratchpad (r := r) (m := { m with hw := commitHw r j m.hw }) (k := 4) (o := 0x40) hown hloc (by decide)
    (m.hw.takeFree.1 % 2 ^ 256)
  exact ⟨_, bad, hw⟩

/-- A job with more bytes to do goes on from its commit. -/
theorem commit_completes_on (hrun : Running e r j .writing s.mach.hw) (hheld : s.mach.hw.hd.held = [])
    (hst : ∀ x ∈ s.mach.hw.ringAccs r, x.2.st = .done) (hstop : j.stop = none) (hmore : j.doneB + j.winLen ≠ dLen j.desc)
    (habort : j.abort = false) (hmark : j.marked = none) (hopen : s.mach.slotOpen r) :
    Completes (.dmWindowCommit e) s (fun m => m.hw.job r = some j.committed ∧ m.hw.ringAccs r = [] ∧ m.hw.regs = s.mach.hw.regs ∧
      m.hw.bd = s.mach.hw.bd ∧
      (s.mach.hw.fget F.DM_RCFG_LOC r = 0 → m.mem.lines = s.mach.mem.lines ∧ m.mem.dome = s.mach.mem.dome)) := by
  obtain ⟨hjob, hacc, hregs, hbd, hheld2⟩ := commitMach_kept (j := j) hrun.ring hopen
  have hdone : commitWindow e s.mach = commitMach r j s.mach := by
    rw [commitWindow_done hrun hst hstop, if_neg hmore, if_neg (by simp [habort]), if_neg (by simp [hmark])]
  refine completes_onHome (c := .dmWindowCommit e) rfl (by rw [hdone, hheld2, hheld]) ?_
  rw [hdone]
  refine ⟨hjob, hacc, hregs, hbd, fun hloc => ?_⟩
  obtain ⟨v, bad, hm⟩ := commitMach_scratchpad (j := j) hrun.ne_own hloc
  rw [hm]
  exact ⟨rfl, rfl⟩

/-! ### The end of a job (R267, R283) -/

/-- The state of a ring's job that has ended, but for its completion record. -/
def endedHw (r : Nat) (j : DmJob) (h : Hw) : Hw := freeEngine j.eng (dropAccs r 0 (h.delJob r))

theorem endJob_done {m : Mach} (hjob : m.hw.job r = some j) (hown : r ≠ ownRing) :
    endJob r 0 0 0 m = complete r 0 j.doneB 0 0 j.pois (dUser j.desc) { m with hw := endedHw r j m.hw } := by
  rw [endJob, hjob]
  dsimp only
  rw [if_neg hown, if_pos rfl]
  rfl

/-- A ring's fields are not those of an engine. -/
theorem fget_endedHw (heng : j.eng = some e) (he : e < 8) (h : Hw) {g : Fld} {i : Nat} (hi : i < 65536)
    (hid : F.DM_ENGSTAT_BUSY.id ≠ g.id ∧ F.DM_ENGSTAT_RING.id ≠ g.id ∧ F.DM_ENGSTAT_PRIO.id ≠ g.id) :
    (endedHw r j h).fget g i = h.fget g i := by
  obtain ⟨hb, hr, hp⟩ := hid
  rw [endedHw, heng, freeEngine, Hw.fget_fset_ne _ _ (fkey_ne hp (by omega) hi), Hw.fget_fset_ne _ _ (fkey_ne hr (by omega) hi),
    Hw.fget_fset_ne _ _ (fkey_ne hb (by omega) hi)]
  rfl

theorem fget_endedHw_busy (heng : j.eng = some e) (he : e < 8) (h : Hw) : (endedHw r j h).fget F.DM_ENGSTAT_BUSY e = 0 := by
  rw [endedHw, heng, freeEngine, Hw.fget_fset_ne _ _ (fkey_ne (by decide) (by omega) (by omega)),
    Hw.fget_fset_ne _ _ (fkey_ne (by decide) (by omega) (by omega)), Hw.fget_fset_same]
  rfl

theorem endedHw_dm (heng : j.eng = some e) (h : Hw) : (endedHw r j h).dm = (dropAccs r 0 (h.delJob r)).dm := by
  rw [endedHw, heng, freeEngine]
  rfl

theorem endedHw_hd (heng : j.eng = some e) (h : Hw) : (endedHw r j h).hd = h.hd := by
  rw [endedHw, heng, freeEngine]
  rfl

theorem slotAddr_congr {a b : Hw} (hloc : a.fget F.DM_RCFG_LOC r = b.fget F.DM_RCFG_LOC r)
    (hhi : a.fget F.DM_RBASE_HI_BASE r = b.fget F.DM_RBASE_HI_BASE r) (hlo : a.fget F.DM_RBASE_LO_BASE r = b.fget F.DM_RBASE_LO_BASE r)
    (hhead : a.dmHead r = b.dmHead r) (hsize : a.fget F.DM_RCFG_SIZE r = b.fget F.DM_RCFG_SIZE r) : a.slotAddr r = b.slotAddr r := by
  rw [Hw.slotAddr, Hw.slotAddr, Hw.ringBase, Hw.ringBase, hloc, hhi, hlo, hhead, hsize]

/-- HEAD advances, and the ring shows neither a job nor a pre-empted one. -/
def headOn (r : Nat) (h : Hw) : Hw :=
  ((h.fset F.DM_RHEAD_VAL r (h.dmHead r + 1)).fset F.DM_RSTAT_BUSY r 0).fset F.DM_RSTAT_PREEMPTED r 0

theorem fget_headOn_head (hring : r < 1024) (h : Hw) : (headOn r h).fget F.DM_RHEAD_VAL r = (h.dmHead r + 1) % 65536 := by
  rw [headOn, Hw.fget_fset_ne _ _ (fkey_ne (by decide) (by omega) (by omega)),
    Hw.fget_fset_ne _ _ (fkey_ne (by decide) (by omega) (by omega)), Hw.fget_fset_same]
  rfl

theorem fget_headOn_busy (hring : r < 1024) (h : Hw) : (headOn r h).fget F.DM_RSTAT_BUSY r = 0 := by
  rw [headOn, Hw.fget_fset_ne _ _ (fkey_ne (by decide) (by omega) (by omega)), Hw.fget_fset_same]
  rfl

theorem fget_headOn (hring : r < 1024) (h : Hw) {g : Fld} {i : Nat} (hi : i < 65536)
    (hid : F.DM_RHEAD_VAL.id ≠ g.id ∧ F.DM_RSTAT_BUSY.id ≠ g.id ∧ F.DM_RSTAT_PREEMPTED.id ≠ g.id) : (headOn r h).fget g i = h.fget g i := by
  obtain ⟨hh, hb, hp⟩ := hid
  rw [headOn, Hw.fget_fset_ne _ _ (fkey_ne hp (by omega) hi), Hw.fget_fset_ne _ _ (fkey_ne hb (by omega) hi),
    Hw.fget_fset_ne _ _ (fkey_ne hh (by omega) hi)]

/-- The completion record of a job that has ended well (R267). -/
def recordOf (doneB pois user : Nat) : Nat := 1 + doneB * 2 ^ 32 + user * 2 ^ 128 + min pois 0xFFFF * 2 ^ 224

/-- A machine of which the scratchpad and the other state have changed. -/
def spMach (h : Hw) (m : Mem) (sp : SMap Byte) (bad : SMap Nat) : Mach := { hw := h, mem := { m with sp := sp, spBad := bad } }

@[simp] theorem spMach_hw (h : Hw) (m : Mem) (sp : SMap Byte) (bad : SMap Nat) : (spMach h m sp bad).hw = h := rfl
@[simp] theorem spMach_dome (h : Hw) (m : Mem) (sp : SMap Byte) (bad : SMap Nat) : (spMach h m sp bad).mem.dome = m.dome := rfl
@[simp] theorem spMach_sp (h : Hw) (m : Mem) (sp : SMap Byte) (bad : SMap Nat) : (spMach h m sp bad).mem.sp = sp := rfl

theorem complete_scratchpad {m : Mach} (hown : r ≠ ownRing) (hloc : m.hw.fget F.DM_RCFG_LOC r = 0) (doneB pois user : Nat) :
    ∃ bad, complete r 0 doneB 0 0 pois user m =
      spMach (headOn r m.hw) m.mem (writeLE 0 m.mem.sp (m.hw.slotAddr r + 0x60) (recordOf doneB pois user) 32) bad := by
  have hval : 1 + 0 * 2 ^ 8 + doneB * 2 ^ 32 + 0 % 2 ^ 64 * 2 ^ 64 + user * 2 ^ 128 + 0 * 2 ^ 192 + min pois 0xFFFF * 2 ^ 224 =
      recordOf doneB pois user := by
    rw [recordOf]
    omega
  obtain ⟨bad, hw⟩ := slotWrite_scratchpad (k := 4) (o := 0x60) hown hloc (by decide) (recordOf doneB pois user)
  refine ⟨bad, ?_⟩
  rw [complete]
  rw [hval, show 32 = 8 * 4 from rfl, hw]
  rfl

end Commit

end Sys2Proof.Machine

namespace Sys2Proof.Machine

section CommitEnd

variable {s : State} {e r : Nat} {j : DmJob}

theorem slotAddr_endedHw (heng : j.eng = some e) (he : e < 8) (hring : r < 1024) (h : Hw) : (endedHw r j h).slotAddr r = h.slotAddr r :=
  slotAddr_congr (fget_endedHw heng he h (by omega) (by decide)) (fget_endedHw heng he h (by omega) (by decide))
    (fget_endedHw heng he h (by omega) (by decide)) (fget_endedHw heng he h (by omega) (by decide))
    (fget_endedHw heng he h (by omega) (by decide))

theorem slotAddr_commitHw (h : Hw) : (commitHw r j h).slotAddr r = h.slotAddr r := by
  obtain ⟨free, dm, hfr⟩ := commitHw_frame r j h
  have hregs : (commitHw r j h).regs = h.regs := by rw [hfr]
  exact slotAddr_congr (Hw.fget_congr hregs _ _) (Hw.fget_congr hregs _ _) (Hw.fget_congr hregs _ _) (Hw.fget_congr hregs _ _)
    (Hw.fget_congr hregs _ _)

/-- The state of the data mover and its ring at the end of a job. -/
def overHw (r : Nat) (j : DmJob) (h : Hw) : Hw := headOn r (endedHw r j.committed (commitHw r j h))

theorem job_overHw (heng : j.eng = some e) (h : Hw) : (overHw r j h).job r = none := by
  have hdm : (overHw r j h).dm = (endedHw r j.committed (commitHw r j h)).dm := rfl
  rw [Hw.job, hdm, endedHw_dm (show j.committed.eng = some e from heng)]
  exact Hw.job_delJob (commitHw r j h) r

theorem hd_overHw (heng : j.eng = some e) (h : Hw) : (overHw r j h).hd = h.hd := by
  have hhd : (overHw r j h).hd = (endedHw r j.committed (commitHw r j h)).hd := rfl
  rw [hhd, endedHw_hd (show j.committed.eng = some e from heng)]
  rfl

theorem head_overHw (heng : j.eng = some e) (he : e < 8) (hring : r < 1024) (h : Hw) :
    (overHw r j h).fget F.DM_RHEAD_VAL r = (h.dmHead r + 1) % 65536 := by
  rw [overHw, fget_headOn_head hring, Hw.dmHead, fget_endedHw (show j.committed.eng = some e from heng) he _ (by omega) (by decide)]
  rfl

theorem engine_overHw (heng : j.eng = some e) (he : e < 8) (hring : r < 1024) (h : Hw) :
    (overHw r j h).fget F.DM_ENGSTAT_BUSY e = 0 := by
  rw [overHw, fget_headOn hring _ (by omega) (by decide), fget_endedHw_busy (show j.committed.eng = some e from heng) he]

/-- The end of a job whose ring lies in the scratchpad: its completion record is written. -/
theorem endJob_scratchpad {m : Mach} (hjob : m.hw.job r = some j) (heng : j.eng = some e) (he : e < 8) (hring : r < 1024)
    (hown : r ≠ ownRing) (hloc : m.hw.fget F.DM_RCFG_LOC r = 0) :
    (endJob r 0 0 0 m).hw = headOn r (endedHw r j m.hw) ∧ (endJob r 0 0 0 m).mem.dome = m.mem.dome ∧
      (endJob r 0 0 0 m).mem.sp = writeLE 0 m.mem.sp (m.hw.slotAddr r + 0x60) (recordOf j.doneB j.pois (dUser j.desc)) 32 := by
  obtain ⟨bad, hover⟩ := complete_scratchpad (m := { m with hw := endedHw r j m.hw }) hown
    ((fget_endedHw heng he _ (by omega) (by decide)).trans hloc) j.doneB j.pois (dUser j.desc)
  rw [endJob_done hjob hown, hover, spMach_hw, spMach_dome, spMach_sp, slotAddr_endedHw heng he hring]
  exact ⟨rfl, rfl, rfl⟩

/-- The scratchpad after the last commit of a job: its context area and its completion record are written. -/
theorem commitWindow_end {m : Mach} (hrun : Running e r j .writing m.hw) (he : e < 8) (hst : ∀ x ∈ m.hw.ringAccs r, x.2.st = .done)
    (hstop : j.stop = none) (hend : j.doneB + j.winLen = dLen j.desc) (hloc : m.hw.fget F.DM_RCFG_LOC r = 0) :
    ∃ v, (commitWindow e m).hw = overHw r j m.hw ∧ (commitWindow e m).mem.dome = m.mem.dome ∧
      (commitWindow e m).mem.sp = writeLE 0 (writeLE 0 m.mem.sp (m.hw.slotAddr r + 0x40) v 32) (m.hw.slotAddr r + 0x60)
        (recordOf (dLen j.desc) j.pois (dUser j.desc)) 32 := by
  have heng : j.committed.eng = some e := show j.eng = some e from eng_of_ringOn hrun.on
  obtain ⟨v, bad, hcommit⟩ := commitMach_scratchpad (j := j) hrun.ne_own hloc
  have hhw : (commitMach r j m).hw = commitHw r j m.hw := by rw [hcommit]
  have hdome : (commitMach r j m).mem.dome = m.mem.dome := by rw [hcommit]
  have hsp : (commitMach r j m).mem.sp = writeLE 0 m.mem.sp (m.hw.slotAddr r + 0x40) v 32 := by rw [hcommit]
  obtain ⟨hhw2, hdome2, hsp2⟩ := endJob_scratchpad (m := commitMach r j m) (by rw [hhw, commitHw_job]) heng he hrun.ring hrun.ne_own
    (by rw [hhw]; exact hloc)
  rw [commitWindow_done hrun hst hstop, if_pos hend]
  refine ⟨v, ?_, ?_, ?_⟩
  · rw [hhw2, hhw, overHw]
  · rw [hdome2, hdome]
  · rw [hsp2, hsp, hhw, slotAddr_commitHw, show j.committed.doneB = dLen j.desc from hend, show j.committed.pois = j.pois from rfl,
      show j.committed.desc = j.desc from rfl]

theorem recordOf_lt {doneB pois user : Nat} (hd : doneB < 2 ^ 32) (hu : user < 2 ^ 64) : recordOf doneB pois user < 256 ^ 32 := by
  rw [recordOf]
  omega

/-- A job whose last window commits ends with its completion record. -/
theorem commit_completes_end (hrun : Running e r j .writing s.mach.hw) (hheld : s.mach.hw.hd.held = []) (he : e < 8)
    (hst : ∀ x ∈ s.mach.hw.ringAccs r, x.2.st = .done) (hstop : j.stop = none) (hend : j.doneB + j.winLen = dLen j.desc)
    (hloc : s.mach.hw.fget F.DM_RCFG_LOC r = 0) :
    Completes (.dmWindowCommit e) s (fun m => m.hw.job r = none ∧ m.hw.fget F.DM_RHEAD_VAL r = (s.mach.hw.dmHead r + 1) % 65536 ∧
      m.hw.fget F.DM_ENGSTAT_BUSY e = 0 ∧ m.hw.fget F.DM_RSTAT_BUSY r = 0 ∧
      readLE 0 m.mem.sp (s.mach.hw.slotAddr r + 0x60) 32 = recordOf (dLen j.desc) j.pois (dUser j.desc) ∧
      m.mem.dome = s.mach.mem.dome ∧ ∀ x, x < s.mach.hw.slotAddr r + 0x40 ∨ s.mach.hw.slotAddr r + 0x80 ≤ x →
        Store.getD 0 m.mem.sp x = Store.getD 0 s.mach.mem.sp x) := by
  have heng := eng_of_ringOn hrun.on
  obtain ⟨v, hhw, hdome, hsp⟩ := commitWindow_end hrun he hst hstop hend hloc
  refine completes_onHome (c := .dmWindowCommit e) rfl (by rw [hhw, hd_overHw heng, hheld]) ?_
  refine ⟨?_, ?_, ?_, ?_, ?_, hdome, ?_⟩
  · rw [hhw, job_overHw heng]
  · rw [hhw, head_overHw heng he hrun.ring]
  · rw [hhw, engine_overHw heng he hrun.ring]
  · rw [hhw, overHw, fget_headOn_busy hrun.ring]
  · rw [hsp, readLE_writeLE]
    exact Nat.mod_eq_of_lt (recordOf_lt (bits_lt _ _ _) (bits_lt _ _ _))
  · intro x hx
    rw [hsp, getD_writeLE_outside _ _ (by omega), getD_writeLE_outside _ _ (by omega)]

end CommitEnd

end Sys2Proof.Machine

namespace Sys2Proof.Machine

/-! ### The checks of a window's first step (R272, R276, R280) -/

theorem firstMatch_dm (h : Hw) (dm : DmState) (space addr i n : Nat) :
    firstMatch { h with dm := dm } space addr i n = firstMatch h space addr i n := by
  induction n generalizing i with
  | zero => rfl
  | succ n ih =>
    rw [firstMatch, firstMatch, ih]
    rfl

theorem checkPart_dm (h : Hw) (dm : DmState) (g : GReq) (a : Nat) : checkPart { h with dm := dm } g a = checkPart h g a := by
  unfold checkPart
  dsimp only
  rw [firstMatch_dm]
  rfl

theorem checkParts_dm (h : Hw) (dm : DmState) (g : GReq) (addr len n : Nat) :
    checkParts { h with dm := dm } g addr len n = checkParts h g addr len n := by
  induction n generalizing addr len with
  | zero => rfl
  | succ n ih =>
    rw [checkParts, checkParts]
    dsimp only
    rw [ih, checkPart_dm]

/-- The guard does not read the data mover's state. -/
theorem guardParts_dm (h : Hw) (dm : DmState) (g : GReq) : guardParts { h with dm := dm } g = guardParts h g := by
  rw [guardParts, guardParts, checkParts_dm]

theorem dstLost_dm (h : Hw) (dm : DmState) (g : Nat) : dstLost g { h with dm := dm } = dstLost g h := by
  have hmap : domeMap { h with dm := dm } (g % 2 ^ 43) = domeMap h (g % 2 ^ 43) := domeMap_congr rfl _
  rw [dstLost, dstLost, hmap]
  rfl

/-- The guard's request for `len` bytes of system space that a ring's job accesses at `a`. -/
def sideReq (r a len : Nat) (need : Perm) : GReq :=
  { tid := none, addr := a, len := len, priv := true, needs := [need], master := 0x4000 + r }

/-- The access of one side of a job to `len` bytes in one line at `a`, before its answer. -/
def sideAcc (r : Nat) (u : DmUse) (len a : Nat) : DmAcc := ⟨r, u, 0, len, a, .out, 0, 0, false, false⟩

theorem subLines_one {a len : Nat} (hlen : a % 64 + len ≤ 64) : subLines a len = [(0, len)] := by
  rw [subLines, if_neg (by omega)]

theorem dmAddr_granted {r a len tid sel : Nat} {write : Bool} {m : Mach} (hown : r ≠ ownRing) (hsel : sel = 1)
    (hmay : firstDenial (guardParts m.hw (sideReq r a len (if write then .w else .r))) = none) :
    dmAddr r sel tid a len write m = (.gpa a, m) := by
  have hguard : guardAccess (sideReq r a len (if write then .w else .r)) m.hw = (none, m.hw) := by
    rw [guardAccess, hmay]
  have hneeds : (if write then [Perm.w] else [Perm.r]) = [if write then Perm.w else Perm.r] := by
    cases write <;> rfl
  unfold dmAddr
  dsimp only
  rw [if_neg (by omega), hneeds, ringNo, if_neg hown]
  change (match guardAccess (sideReq r a len (if write then .w else .r)) m.hw with
    | (some _, h1) => (DmAddr.stop 3 0x2902, { m with hw := h1 })
    | (none, h1) => (DmAddr.gpa a, { m with hw := h1 })) = _
  rw [hguard]

/-- One side of a window in one line, which its guard grants and whose destination is not lost, lists its access. -/
theorem checkSide_one {r d len : Nat} {u : DmUse} {m : Mach} (hown : r ≠ ownRing) (hsel : sideSel d u = 1)
    (hlen : sideBase d u % 64 + len ≤ 64)
    (hmay : firstDenial (guardParts m.hw (sideReq r (sideBase d u) len (if u == .own then .w else .r))) = none)
    (hlost : (u != .src && dstLost (sideBase d u) m.hw) = false) :
    checkSide r d u 0 len ⟨m, none⟩ = ⟨m.onHw (addAcc (sideAcc r u len (sideBase d u))), none⟩ := by
  rw [checkSide, Nat.add_zero, subLines_one hlen, List.foldl_cons, List.foldl_nil]
  dsimp only
  rw [if_neg (by simp), Nat.add_zero, dmAddr_granted hown hsel hmay]
  dsimp only
  rw [hlost, if_neg Bool.false_ne_true, hsel]
  rfl

/-! ### A window of one line begins (R276) -/

theorem scanWindow_end (r d o n : Nat) (w : WinScan) : scanWindow r d o o w n = w := by
  cases n with
  | zero => rfl
  | succ n => rw [scanWindow, if_pos (Nat.le_refl _)]

/-- A window in one line is one piece. -/
theorem scanWindow_one {r d len : Nat} {w w1 w2 : WinScan} (hpos : 0 < len) (hlen : alignAddr d % 64 + len ≤ 64)
    (hsrc : (if usesSrc d then checkSide r d .src 0 len w else w) = w1)
    (hdst : (if usesDst d then checkSide r d (if dOpc d = 3 then .cmp else .own) 0 len w1 else w1) = w2) (hstop : w2.stop = none) :
    scanWindow r d 0 len w 65 = w2 := by
  have hpiece := pieceLen_one hlen
  rw [show (65 : Nat) = 64 + 1 from rfl, scanWindow, if_neg (by omega), hpiece]
  dsimp only
  rw [hsrc, hdst, if_neg (by simp [hstop]), Nat.zero_add, scanWindow_end]

/-- The data mover with a window of `len` bytes of ring `r`'s job begun, its accesses listed. -/
def begunHw (r : Nat) (j : DmJob) (len : Nat) (accs : SMap DmAcc) (seq : Nat) (h : Hw) : Hw :=
  { h with dm := { h.dm with jobs := Store.put h.dm.jobs r { j with phase := .reading, winLen := len }, accs := accs, seq := seq } }

/-- The accesses of a window that have been listed leave. -/
theorem beginWindow_one {e r opc : Nat} {j : DmJob} {m : Mach} {f : Hw → Hw} {accs : SMap DmAcc} {seq : Nat}
    (hrun : Running e r j .idle m.hw) (hop : dOpc j.desc = opc) (hmig : opc ≠ 2) (hzero : j.doneB = 0)
    (hlen : alignAddr j.desc % 64 + dLen j.desc ≤ 64) (hscan : scanWindow r j.desc 0 (dLen j.desc) ⟨m, none⟩ 65 = ⟨m.onHw f, none⟩)
    (hf : (f m.hw).setJob r { j with phase := .reading, winLen := dLen j.desc } = begunHw r j (dLen j.desc) accs seq m.hw)
    (haccs : ∀ x ∈ accs, x.2.ring = r) :
    beginWindow opc e m = accs.foldl (fun m x => issue x.1 m) (m.onHw (begunHw r j (dLen j.desc) accs seq)) := by
  have hm1 : (m.onHw f).onHw (fun h => h.setJob r { j with phase := .reading, winLen := dLen j.desc }) =
      m.onHw (begunHw r j (dLen j.desc) accs seq) := by
    rw [Mach.onHw, Mach.onHw, Mach.onHw, ← hf]
  have hnext : j.next = alignAddr j.desc := by
    rw [DmJob.next, hzero, if_neg (by omega), Nat.add_zero]
  have hstop : min (dLen j.desc) (j.doneB + (4096 - j.next % 4096)) = dLen j.desc := by
    rw [hnext]
    omega
  have hscan0 : scanWindow r j.desc j.doneB (dLen j.desc) ⟨m, none⟩ 65 = ⟨m.onHw f, none⟩ := by rw [hzero, hscan]
  have hwin : dLen j.desc - j.doneB = dLen j.desc := by rw [hzero, Nat.sub_zero]
  have hring : (m.onHw (begunHw r j (dLen j.desc) accs seq)).hw.ringAccs r = accs := by
    rw [Hw.ringAccs]
    exact List.filter_eq_self.mpr (fun x hx => by simpa using haccs x hx)
  rw [beginWindow, hrun.on]
  dsimp only
  rw [if_pos ⟨hop, hrun.phase⟩, hstop, hscan0]
  dsimp only
  rw [hwin, hm1, hring]

/-! ### COPY, FILL and VERIFY over one line -/

section Begin

variable {s : State} {e r : Nat} {j : DmJob}

/-- What a window of `len` bytes in one line begins from. -/
structure FirstWindow (e r : Nat) (j : DmJob) (h : Hw) : Prop where
  run : Running e r j .idle h
  doneB : j.doneB = 0
  pos : 0 < dLen j.desc
  accs : h.dm.accs = []
  held : h.hd.held = []

/-- The destination of a window in one line of this home, which the guard grants and which is not lost. -/
structure DstLine (r : Nat) (d : Nat) (h : Hw) : Prop where
  sel : dDasel d = 1
  len : dDst d % 64 + dLen d ≤ 64
  home : dDst d / 2 ^ 43 = h.sid
  may : firstDenial (guardParts h (sideReq r (dDst d) (dLen d) .w)) = none
  kept : dstLost (dDst d) h = false

/-- The source of a window in one line of this home, which is idle and does not list it. -/
structure SrcLine (r : Nat) (d : Nat) (h : Hw) : Prop where
  sel : dSasel d = 1
  len : dSrc d % 64 + dLen d ≤ 64
  home : dSrc d / 2 ^ 43 = h.sid
  may : firstDenial (guardParts h (sideReq r (dSrc d) (dLen d) .r)) = none
  idle : h.homeIdle
  role : h.fget F.HD_SLSTAT_ROLE 16 ≠ 2
  dir : h.dirEnt (dSrc d % 2 ^ 43 / 64) = none

/-- The accesses of the two sides. -/
def srcAccOf (r d : Nat) : DmAcc := sideAcc r .src (dLen d) (dSrc d)
def ownAccOf (r d : Nat) : DmAcc := sideAcc r .own (dLen d) (dDst d)

theorem DstLine.dm {d : Nat} {h : Hw} (hd : DstLine r d h) (dm : DmState) : DstLine r d { h with dm := dm } where
  sel := hd.sel
  len := hd.len
  home := hd.home
  may := by rw [guardParts_dm]; exact hd.may
  kept := by rw [dstLost_dm]; exact hd.kept

theorem checkSide_dst {d : Nat} {m : Mach} (hown : r ≠ ownRing) (hd : DstLine r d m.hw) :
    checkSide r d .own 0 (dLen d) ⟨m, none⟩ = ⟨m.onHw (addAcc (ownAccOf r d)), none⟩ :=
  checkSide_one hown hd.sel hd.len hd.may ((Bool.and_eq_false_iff).mpr (.inr hd.kept))

theorem checkSide_src {d : Nat} {m : Mach} (hown : r ≠ ownRing) (hs : SrcLine r d m.hw) :
    checkSide r d .src 0 (dLen d) ⟨m, none⟩ = ⟨m.onHw (addAcc (srcAccOf r d)), none⟩ :=
  checkSide_one hown hs.sel hs.len hs.may rfl

theorem get?_one {α : Type} (k : Nat) (v : α) : Store.get? [(k, v)] k = some v := if_pos rfl

/-- The line of a window without a source is owned at once. -/
theorem issue_begun_own (m : Mach) (j : DmJob) (tag seq : Nat) (hhome : dDst j.desc / 2 ^ 43 = m.hw.sid) :
    issue tag (m.onHw (begunHw r j (dLen j.desc) [(tag, ownAccOf r j.desc)] seq)) =
      m.onHw (begunHw r j (dLen j.desc) [(tag, { ownAccOf r j.desc with st := .done })] seq) := by
  refine (issue_own (m := m.onHw (begunHw r j (dLen j.desc) [(tag, ownAccOf r j.desc)] seq)) (a := ownAccOf r j.desc) (get?_one tag _)
    hhome rfl).trans ?_
  rw [Mach.onHw, Mach.onHw, Mach.onHw]
  dsimp only
  rw [dmVisible_one (a := ownAccOf r j.desc) rfl]
  rfl

/-- A FILL asks for its line and has it. -/
theorem beginWindow_fill {m : Mach} (hw : FirstWindow e r j m.hw) (hop : dOpc j.desc = 1) (hd : DstLine r j.desc m.hw) :
    beginWindow 1 e m = m.onHw (begunHw r j (dLen j.desc) [(m.hw.dm.seq, { ownAccOf r j.desc with st := .done })] (m.hw.dm.seq + 1)) := by
  have halign : alignAddr j.desc = dDst j.desc := if_neg (by omega)
  have hsrc : (if usesSrc j.desc then checkSide r j.desc .src 0 (dLen j.desc) ⟨m, none⟩ else ⟨m, none⟩) = ⟨m, none⟩ :=
    if_neg (by simp [usesSrc, hop])
  have hdst : (if usesDst j.desc then checkSide r j.desc (if dOpc j.desc = 3 then .cmp else .own) 0 (dLen j.desc) ⟨m, none⟩
      else ⟨m, none⟩) = ⟨m.onHw (addAcc (ownAccOf r j.desc)), none⟩ := by
    rw [if_pos (by simp [usesDst, hop]), if_neg (by omega), checkSide_dst hw.run.ne_own hd]
  have hbegun : (addAcc (ownAccOf r j.desc) m.hw).setJob r { j with phase := .reading, winLen := dLen j.desc } =
      begunHw r j (dLen j.desc) [(m.hw.dm.seq, ownAccOf r j.desc)] (m.hw.dm.seq + 1) m.hw := by
    rw [addAcc, hw.accs]
    rfl
  rw [beginWindow_one hw.run hop (by decide) hw.doneB (by rw [halign]; exact hd.len)
    (scanWindow_one hw.pos (by rw [halign]; exact hd.len) hsrc hdst rfl) hbegun (by simp [ownAccOf, sideAcc]), List.foldl_cons, List.foldl_nil]
  exact issue_begun_own _ _ _ _ hd.home

end Begin

end Sys2Proof.Machine

namespace Sys2Proof.Machine

section Begin

variable {s : State} {e r : Nat} {j : DmJob}

/-! ### A window's read leaves for the line's queue (R80, R262) -/

/-- The home that has taken in a window's read. -/
def readLeft (r : Nat) (j : DmJob) (tag : Nat) (h : Hw) : Hw := readOpened (moverReq h tag (srcAccOf r j.desc)) h

theorem issue_src {m : Mach} {tag : Nat} {dm : DmState} (hget : Store.get? dm.accs tag = some (srcAccOf r j.desc))
    (hs : SrcLine r j.desc m.hw) (hdm : m.hw.dm = dm) : issue tag m = m.onHw (readLeft r j tag) := by
  have halone : Alone (moverReq m.hw tag (srcAccOf r j.desc)) m.hw := ⟨hs.idle, hs.role, hs.dir, rfl, .inl rfl⟩
  rw [issue_local (a := srcAccOf r j.desc) (by rw [hdm]; exact hget) hs.home (show DmUse.src ≠ .own by decide), arrive_ncRead halone rfl]
  rfl

theorem SrcLine.dm {d : Nat} {h : Hw} (hs : SrcLine r d h) (dm : DmState) : SrcLine r d { h with dm := dm } where
  sel := hs.sel
  len := hs.len
  home := hs.home
  may := by rw [guardParts_dm]; exact hs.may
  idle := hs.idle
  role := hs.role
  dir := hs.dir

/-- What the read leaves, and the transaction it opens. -/
theorem readLeft_opened {h : Hw} (tag : Nat) (htxns : h.hd.txns = []) :
    ∃ tags hd, readLeft r j tag h = { h with tags := tags, hd := hd } ∧ hd.held = h.hd.held ∧
      ∃ tx, hd.txns = [(64 * sliceOf (dSrc j.desc % 2 ^ 43 / 64), tx)] ∧ tx.req.kind = .ncRead ∧ tx.req.la = dSrc j.desc % 2 ^ 43 / 64 ∧
        tx.reading = true := by
  refine ⟨_, _, rfl, rfl, HTxn.readFor (moverReq h tag (srcAccOf r j.desc)), ?_, rfl, rfl, rfl⟩
  change Store.put h.hd.txns _ _ = _
  rw [htxns]
  rfl

theorem readLeft_dm (tag : Nat) (h : Hw) : (readLeft r j tag h).dm = h.dm := by
  rw [readLeft, readOpened, Hw.setTxn_dm, Hw.openTag_dm]

theorem readLeft_regs (tag : Nat) (h : Hw) : (readLeft r j tag h).regs = h.regs := by
  rw [readLeft, readOpened, Hw.setTxn_regs, Hw.openTag_regs]

/-! ### VERIFY and COPY -/

/-- A VERIFY against PATTERN reads its line. -/
theorem beginWindow_verify {m : Mach} (hw : FirstWindow e r j m.hw) (hop : dOpc j.desc = 3) (hpat : dPat j.desc = true)
    (hs : SrcLine r j.desc m.hw) : beginWindow 3 e m =
      (m.onHw (begunHw r j (dLen j.desc) [(m.hw.dm.seq, srcAccOf r j.desc)] (m.hw.dm.seq + 1))).onHw (readLeft r j m.hw.dm.seq) := by
  have halign : alignAddr j.desc = dSrc j.desc := if_pos hop
  have hsrc : (if usesSrc j.desc then checkSide r j.desc .src 0 (dLen j.desc) ⟨m, none⟩ else ⟨m, none⟩) =
      ⟨m.onHw (addAcc (srcAccOf r j.desc)), none⟩ := by
    rw [if_pos (by simp [usesSrc, hop]), checkSide_src hw.run.ne_own hs]
  have hdst : (if usesDst j.desc then checkSide r j.desc (if dOpc j.desc = 3 then .cmp else .own) 0 (dLen j.desc)
      ⟨m.onHw (addAcc (srcAccOf r j.desc)), none⟩ else ⟨m.onHw (addAcc (srcAccOf r j.desc)), none⟩) =
      ⟨m.onHw (addAcc (srcAccOf r j.desc)), none⟩ := if_neg (by simp [usesDst, hop, hpat])
  have hbegun : (addAcc (srcAccOf r j.desc) m.hw).setJob r { j with phase := .reading, winLen := dLen j.desc } =
      begunHw r j (dLen j.desc) [(m.hw.dm.seq, srcAccOf r j.desc)] (m.hw.dm.seq + 1) m.hw := by
    rw [addAcc, hw.accs]
    rfl
  rw [beginWindow_one hw.run hop (by decide) hw.doneB (by rw [halign]; exact hs.len)
    (scanWindow_one hw.pos (by rw [halign]; exact hs.len) hsrc hdst rfl) hbegun (by simp [srcAccOf, sideAcc]), List.foldl_cons, List.foldl_nil]
  exact issue_src (get?_one _ _) (hs.dm _) rfl

/-- The accesses of a COPY of one line. -/
def copyAccs (r : Nat) (d seq : Nat) (st : DmAccSt) : SMap DmAcc := [(seq, srcAccOf r d), (seq + 1, { ownAccOf r d with st := st })]

theorem get?_copyAccs_own (r d seq : Nat) (st : DmAccSt) :
    Store.get? (copyAccs r d seq st) (seq + 1) = some { ownAccOf r d with st := st } := by
  simp [copyAccs, Store.get?]

/-- The line of a COPY's destination is owned at once. -/
theorem dmVisible_copyAccs {h : Hw} {d seq : Nat} (haccs : h.dm.accs = copyAccs r d seq .out) :
    h.dmVisible (seq + 1) = { h with dm := { h.dm with accs := copyAccs r d seq .done } } := by
  rw [Hw.dmVisible, haccs, get?_copyAccs_own]
  simp [copyAccs, Store.put]

/-- A COPY reads its source and has its destination's line. -/
theorem beginWindow_copy {m : Mach} (hw : FirstWindow e r j m.hw) (hop : dOpc j.desc = 0) (hs : SrcLine r j.desc m.hw)
    (hd : DstLine r j.desc m.hw) : beginWindow 0 e m =
      ((m.onHw (begunHw r j (dLen j.desc) (copyAccs r j.desc m.hw.dm.seq .out) (m.hw.dm.seq + 2))).onHw (readLeft r j m.hw.dm.seq)).onHw
        (fun h => h.dmVisible (m.hw.dm.seq + 1)) := by
  have halign : alignAddr j.desc = dDst j.desc := if_neg (by omega)
  have hsrc : (if usesSrc j.desc then checkSide r j.desc .src 0 (dLen j.desc) ⟨m, none⟩ else ⟨m, none⟩) =
      ⟨m.onHw (addAcc (srcAccOf r j.desc)), none⟩ := by
    rw [if_pos (by simp [usesSrc, hop]), checkSide_src hw.run.ne_own hs]
  have hdst : (if usesDst j.desc then checkSide r j.desc (if dOpc j.desc = 3 then .cmp else .own) 0 (dLen j.desc)
      ⟨m.onHw (addAcc (srcAccOf r j.desc)), none⟩ else ⟨m.onHw (addAcc (srcAccOf r j.desc)), none⟩) =
      ⟨m.onHw (fun h => addAcc (ownAccOf r j.desc) (addAcc (srcAccOf r j.desc) h)), none⟩ := by
    rw [if_pos (by simp [usesDst, hop]), if_neg (by omega),
      checkSide_dst (m := m.onHw (addAcc (srcAccOf r j.desc))) hw.run.ne_own (hd.dm _)]
    rfl
  have hbegun : (addAcc (ownAccOf r j.desc) (addAcc (srcAccOf r j.desc) m.hw)).setJob r { j with phase := .reading, winLen := dLen j.desc } =
      begunHw r j (dLen j.desc) (copyAccs r j.desc m.hw.dm.seq .out) (m.hw.dm.seq + 2) m.hw := by
    have hput : Store.put [(m.hw.dm.seq, srcAccOf r j.desc)] (m.hw.dm.seq + 1) (ownAccOf r j.desc) =
        copyAccs r j.desc m.hw.dm.seq .out := by
      simp [Store.put, copyAccs, ownAccOf, sideAcc]
    rw [addAcc, addAcc, hw.accs, begunHw, ← hput]
    rfl
  rw [beginWindow_one hw.run hop (by decide) hw.doneB (by rw [halign]; exact hd.len)
    (scanWindow_one hw.pos (by rw [halign]; exact hd.len) hsrc hdst rfl) hbegun (by simp [copyAccs, srcAccOf, ownAccOf, sideAcc]), copyAccs,
    List.foldl_cons, List.foldl_cons, List.foldl_nil, ← copyAccs]
  dsimp only
  generalize hm1 : m.onHw (begunHw r j (dLen j.desc) (copyAccs r j.desc m.hw.dm.seq .out) (m.hw.dm.seq + 2)) = m1
  have hs1 : SrcLine r j.desc m1.hw := by
    rw [← hm1]
    exact hs.dm _
  have haccs : m1.hw.dm.accs = copyAccs r j.desc m.hw.dm.seq .out := by
    rw [← hm1]
    rfl
  have hsid : (m1.onHw (readLeft r j m.hw.dm.seq)).hw.sid = m.hw.sid := by
    rw [Hw.sid, Mach.onHw_hw, Hw.fget_congr (readLeft_regs _ _), ← hm1]
    rfl
  rw [issue_src (m := m1) (by rw [haccs]; exact if_pos rfl) hs1 rfl]
  exact issue_own (a := ownAccOf r j.desc) (by rw [Mach.onHw_hw, readLeft_dm, haccs]; exact get?_copyAccs_own _ _ _ _)
    (hd.home.trans hsid.symm) rfl

end Begin

end Sys2Proof.Machine

namespace Sys2Proof.Machine

section Begin

variable {s : State} {e r : Nat} {j : DmJob}

/-- What a window that has begun leaves, with its accesses. -/
def WindowBegun (r : Nat) (j : DmJob) (accs : SMap DmAcc) (a b : Mach) : Prop :=
  b.hw.job r = some { j with phase := .reading, winLen := dLen j.desc } ∧ b.hw.dm.accs = accs ∧ b.hw.regs = a.hw.regs ∧
    b.hw.bd = a.hw.bd ∧ b.mem = a.mem

/-- The home has opened the transaction of a window's read. -/
def ReadOpen (d : Nat) (m : Mach) : Prop :=
  ∃ tx, m.hw.hd.txns = [(64 * sliceOf (dSrc d % 2 ^ 43 / 64), tx)] ∧ tx.req.kind = .ncRead ∧ tx.req.la = dSrc d % 2 ^ 43 / 64 ∧
    tx.reading = true

theorem windowBegun_begunHw (accs : SMap DmAcc) (seq : Nat) (m : Mach) :
    WindowBegun r j accs m (m.onHw (begunHw r j (dLen j.desc) accs seq)) :=
  ⟨Store.get?_put_same m.hw.dm.jobs r _, rfl, rfl, rfl, rfl⟩

/-- The read of a window leaves what it has begun. -/
theorem windowBegun_readLeft {accs : SMap DmAcc} {a b : Mach} (tag : Nat) (hb : WindowBegun r j accs a b) (htxns : b.hw.hd.txns = []) :
    WindowBegun r j accs a (b.onHw (readLeft r j tag)) ∧ ReadOpen j.desc (b.onHw (readLeft r j tag)) ∧
      (b.onHw (readLeft r j tag)).hw.hd.held = b.hw.hd.held := by
  obtain ⟨hjob, haccs, hregs, hbd, hmem⟩ := hb
  obtain ⟨tags, hd, hleft, hheld, hopen⟩ := readLeft_opened (r := r) (j := j) tag htxns
  rw [Mach.onHw, hleft]
  exact ⟨⟨hjob, haccs, hregs, hbd, hmem⟩, hopen, hheld⟩

/-- The ownership of a COPY's destination leaves all else that its window has begun. -/
theorem windowBegun_dmVisible {seq : Nat} {a b : Mach} (hb : WindowBegun r j (copyAccs r j.desc seq .out) a b) :
    WindowBegun r j (copyAccs r j.desc seq .done) a (b.onHw (fun h => h.dmVisible (seq + 1))) ∧
      (b.onHw (fun h => h.dmVisible (seq + 1))).hw.hd = b.hw.hd := by
  obtain ⟨hjob, haccs, hregs, hbd, hmem⟩ := hb
  rw [Mach.onHw, dmVisible_copyAccs haccs]
  exact ⟨⟨hjob, rfl, hregs, hbd, hmem⟩, rfl⟩

theorem fill_completes_begin (hw : FirstWindow e r j s.mach.hw) (hop : dOpc j.desc = 1) (hd : DstLine r j.desc s.mach.hw) :
    Completes (.fill e) s (fun m =>
      WindowBegun r j [(s.mach.hw.dm.seq, { ownAccOf r j.desc with st := .done })] s.mach m ∧ m.hw.hd = s.mach.hw.hd) := by
  have hbegin := beginWindow_fill hw hop hd
  refine completes_onHome (c := .fill e) rfl (by rw [hbegin]; exact hw.held) ?_
  rw [hbegin]
  exact ⟨windowBegun_begunHw _ _ _, rfl⟩

theorem verify_completes_begin (hw : FirstWindow e r j s.mach.hw) (hop : dOpc j.desc = 3) (hpat : dPat j.desc = true)
    (hs : SrcLine r j.desc s.mach.hw) : Completes (.verify e) s (fun m =>
      WindowBegun r j [(s.mach.hw.dm.seq, srcAccOf r j.desc)] s.mach m ∧ ReadOpen j.desc m) := by
  obtain ⟨htxns, -⟩ := hs.idle
  have hbegin := beginWindow_verify hw hop hpat hs
  obtain ⟨hbegun, hopen, hheld⟩ := windowBegun_readLeft s.mach.hw.dm.seq
    (windowBegun_begunHw (r := r) (j := j) [(s.mach.hw.dm.seq, srcAccOf r j.desc)] (s.mach.hw.dm.seq + 1) s.mach) htxns
  rw [← hbegin] at hbegun hopen hheld
  exact completes_onHome (c := .verify e) rfl (hheld.trans hw.held) ⟨hbegun, hopen⟩

theorem copy_completes_begin (hw : FirstWindow e r j s.mach.hw) (hop : dOpc j.desc = 0) (hs : SrcLine r j.desc s.mach.hw)
    (hd : DstLine r j.desc s.mach.hw) : Completes (.copy e) s (fun m =>
      WindowBegun r j (copyAccs r j.desc s.mach.hw.dm.seq .done) s.mach m ∧ ReadOpen j.desc m) := by
  obtain ⟨htxns, -⟩ := hs.idle
  have hbegin := beginWindow_copy hw hop hs hd
  obtain ⟨hbegun, hopen, hheld⟩ := windowBegun_readLeft s.mach.hw.dm.seq
    (windowBegun_begunHw (r := r) (j := j) (copyAccs r j.desc s.mach.hw.dm.seq .out) (s.mach.hw.dm.seq + 2) s.mach) htxns
  obtain ⟨hbegun2, hhd⟩ := windowBegun_dmVisible hbegun
  rw [← hbegin] at hbegun2 hhd
  refine completes_onHome (c := .copy e) rfl ?_ ⟨hbegun2, ?_⟩
  · rw [hhd, hheld]
    exact hw.held
  · rw [ReadOpen, hhd]
    exact hopen

end Begin

/-- Settles O28: a window of one line lists its accesses as its guard grants them and they leave for the idle home (`beginWindow_fill`,
`beginWindow_verify`, `beginWindow_copy`); its answers are evaluated at once (`readsDone_completes_verify`, `readsDone_completes_fill`); and
its commit goes on or ends the job (`commit_completes_on`, `commit_completes_end`). -/
theorem moverWindowsComplete : Obligations.MoverWindowsComplete := by
  unfold Obligations.MoverWindowsComplete
  intro s e r i k j a
  dsimp only
  intro hon hjob hring he hheld
  refine ⟨fun hphase hzero hpos haccs => ⟨fun hop hsel hlen hhome hmay hkept => ?_, fun hidle hrole hsel hlen hhome hdir hmay =>
      ⟨fun hop hpat => ?_, fun hop hdsel hdlen hdhome hdmay hkept => ?_⟩⟩,
    fun hacc hphase hzero hoff halen hpos => ⟨fun hst => ?_, fun hst hop hpat huse hlen hwin => ?_,
      fun hst hop huse hpois hxl hlen hwin halign hga hhome haccs hidle hrole hdir hstore hrev hprim => ?_⟩,
    fun hphase => ⟨fun hacc hst => ?_, fun hst hstop => ⟨fun hmore habort hmark hopen => ?_, fun hend hloc => ?_⟩⟩⟩
  case refine_1 => exact fill_completes_begin ⟨⟨hon, hjob, hring, hphase⟩, hzero, hpos, haccs, hheld⟩ hop ⟨hsel, hlen, hhome, hmay, hkept⟩
  case refine_2 =>
    exact verify_completes_begin ⟨⟨hon, hjob, hring, hphase⟩, hzero, hpos, haccs, hheld⟩ hop hpat
      ⟨hsel, hlen, hhome, hmay, hidle, hrole, hdir⟩
  case refine_3 =>
    exact copy_completes_begin ⟨⟨hon, hjob, hring, hphase⟩, hzero, hpos, haccs, hheld⟩ hop
      ⟨hsel, hlen, hhome, hmay, hidle, hrole, hdir⟩ ⟨hdsel, hdlen, hdhome, hdmay, hkept⟩
  case refine_4 => exact readsDone_completes_out ⟨hon, hjob, hring, hphase⟩ hheld hacc hst
  case refine_5 =>
    have hdone := readsDone_completes_verify ⟨hon, hjob, hring, hphase⟩ hheld hacc hst hop hpat huse hoff halen hpos hlen hzero hwin
    refine ⟨fun hp => ?_, fun hp hnone => ?_, fun hp hsome => ?_⟩
    · rw [hp, if_pos rfl, verifyStop, evaluated_stop hzero] at hdone
      exact hdone
    · rw [hp, if_neg Bool.false_ne_true, verifyStop] at hdone
      rw [hnone] at hdone
      exact hdone
    · rw [hp, if_neg Bool.false_ne_true, verifyStop] at hdone
      rw [hsome, Option.map_some, evaluated_stop hzero] at hdone
      exact hdone
  case refine_6 =>
    exact readsDone_completes_fill ⟨hon, hjob, hring, hphase⟩ hacc haccs ⟨hop, huse, hoff, hst, hpois, hxl, hzero, hwin, halign, hga⟩ hhome
      ⟨hidle, hrole, hdir, ⟨hprim, hstore, hrev⟩⟩
  case refine_7 => exact commit_completes_out ⟨hon, hjob, hring, hphase⟩ hheld hacc hst
  case refine_8 =>
    have hslot := hopen.resolve_left (Running.ne_own ⟨hon, hjob, hring, hphase⟩)
    exact commit_completes_on ⟨hon, hjob, hring, hphase⟩ hheld hst hstop hmore habort hmark hslot
  case refine_9 => exact commit_completes_end ⟨hon, hjob, hring, hphase⟩ hheld he hst hstop hend hloc

end Sys2Proof.Machine

/-! PROOFS. Obligations O4, O31, O32 and O35: where the coherence commands stop, and how the home's releases and the Cupola's answers
complete. -/
namespace Sys2Proof.Machine

/-! ### Commands that may stop -/

theorem completes_onMachF {c : Instr} {s : State} {P : Mach → Prop} {f : Mach → Host.Outcome Mach Fault Refusal} {m : Mach}
    (hc : exec c s = onMachF f s) (hf : f s.mach = .next m) (hp : P m) : Completes c s P :=
  ⟨{ s with mach := m }, by rw [hc, onMachF, hf], rfl, hp⟩

theorem completes_onHwF {c : Instr} {s : State} {P : Mach → Prop} {f : Hw → Host.Outcome Hw Fault Refusal} {h : Hw}
    (hc : exec c s = onHwF f s) (hf : f s.mach.hw = .next h) (hp : P (s.mach.onHw (fun _ => h))) : Completes c s P :=
  ⟨{ s with mach := s.mach.onHw (fun _ => h) }, by rw [hc, onHwF, hf]; rfl, rfl, hp⟩

theorem stops_onMachF {c : Instr} {s : State} {f : Mach → Host.Outcome Mach Fault Refusal} {r : Fault}
    (hc : exec c s = onMachF f s) (hf : f s.mach = .fault r) : exec c s = .fault r := by
  rw [hc, onMachF, hf]

theorem stops_onHwF {c : Instr} {s : State} {f : Hw → Host.Outcome Hw Fault Refusal} {r : Fault}
    (hc : exec c s = onHwF f s) (hf : f s.mach.hw = .fault r) : exec c s = .fault r := by
  rw [hc, onHwF, hf]

/-- An outcome of an effect that does not stop. -/
def GoesOn {σ : Type} (o : Host.Outcome σ Fault Refusal) : Prop := ∃ x, o = .next x

theorem goesOn_next {σ : Type} (x : σ) : GoesOn (.next x : Host.Outcome σ Fault Refusal) := ⟨x, rfl⟩

theorem GoesOn.completes_onMachF {c : Instr} {s : State} {f : Mach → Host.Outcome Mach Fault Refusal} (h : GoesOn (f s.mach))
    (hc : exec c s = onMachF f s) : Completes c s (fun _ => True) :=
  h.elim (fun _ hf => Machine.completes_onMachF hc hf trivial)

theorem GoesOn.completes_onHwF {c : Instr} {s : State} {f : Hw → Host.Outcome Hw Fault Refusal} (h : GoesOn (f s.mach.hw))
    (hc : exec c s = onHwF f s) : Completes c s (fun _ => True) :=
  h.elim (fun _ hf => Machine.completes_onHwF hc hf trivial)

/-- Every other command is an effect on the machine that does not stop. -/
theorem exec_of_mayStop {c : Instr} (h : mayStop c = false) (s : State) : ∃ m, exec c s = .next { s with mach := m } := by
  cases c with
  | homeUpgrade | homeSnoopAck | homeInvack | homeDatam | homeDatao | homeCompletionAck => cases h
  | cupolaSnpshared | cupolaSnpinv | cupolaSnpfwdshared | cupolaSnpfwdown => cases h
  | cupolaDatas | cupolaDatae | cupolaDatam | cupolaAck | cupolaRetry => cases h
  | _ => exact ⟨_, rfl⟩

theorem completes_of_mayStop {c : Instr} (h : mayStop c = false) (s : State) : Completes c s (fun _ => True) :=
  (exec_of_mayStop h s).elim (fun _ hm => ⟨_, hm, rfl, trivial⟩)

/-- The home or the Cupola does not take a message in: it names a reserved agent (R77), or its sender is dead (R152). -/
def Away (m : Coh) (h : Hw) : Prop := namesReserved m = true ∨ h.isDead m.src = true

/-! ### Answers at the home (R145, R146) -/

/-- What a message of a live agent finds at the home by its tag: record `k` with transaction `t`. -/
structure HomeTag (m : Coh) (k : Nat) (t : HTxn) (h : Hw) : Prop where
  names : namesReserved m = false
  live : h.isDead m.src = false
  key : m.txn % 1024 = k
  get : Store.get? h.hd.txns k = some t
  gen : h.tagGen .hd k = m.txn / 1024 % 16

theorem answerIn_stops {m : Coh} {k : Nat} {t : HTxn} {x : Mach} (hm : HomeTag m k t x.hw) (a : CupAns) {bad : HPhase → Bool}
    (hbad : bad t.phase = true) : answerIn m a bad x = .fault (.cannotOccur 146) := by
  unfold answerIn
  simp [hm.names, hm.key, hm.get, hm.gen, hm.live, hbad]

theorem answerIn_goesOn {m : Coh} {x : Mach} (a : CupAns) {bad : HPhase → Bool}
    (hok : Away m x.hw ∨ ∀ t, Store.get? x.hw.hd.txns (m.txn % 1024) = some t →
      x.hw.tagGen .hd (m.txn % 1024) = m.txn / 1024 % 16 → bad t.phase = false) : GoesOn (answerIn m a bad x) := by
  unfold answerIn
  dsimp only
  split
  · exact goesOn_next _
  · next hn =>
    split
    · exact goesOn_next _
    · next t ht =>
      split
      · exact goesOn_next _
      · next hlate =>
        simp only [Bool.or_eq_true, decide_eq_true_eq, not_or, Decidable.not_not] at hlate
        obtain ⟨hgen, hlive⟩ := hlate
        have hphase : bad t.phase = false := hok.elim (fun haway => (haway.elim hn hlive).elim) (fun h => h t ht hgen)
        rw [if_neg (by simp [hphase])]
        split <;> exact goesOn_next _

/-- The line's transaction and the sender decide the end of an Ack that completes a request. -/
theorem completionAck_stops {m : Coh} {k : Nat} {t : HTxn} {s : State} (hn : namesReserved m = false)
    (hlive : s.mach.hw.isDead m.src = false) (ht : s.mach.hw.txnOf (m.laddr % 2 ^ 37) = some (k, t)) (hp : t.phase ≠ .gnt) :
    exec (.homeCompletionAck m) s = .fault (.cannotOccur 146) := by
  refine stops_onMachF (show exec (.homeCompletionAck m) s = execHomeCompletionAck m s from rfl) ?_
  simp only [hn, ht, hlive, Bool.false_eq_true, if_false]

theorem completionAck_grants {m : Coh} {k : Nat} {t : HTxn} {s : State} (hn : namesReserved m = false)
    (hlive : s.mach.hw.isDead m.src = false) (ht : s.mach.hw.txnOf (m.laddr % 2 ^ 37) = some (k, t)) (hp : t.phase = .gnt)
    (hagent : t.req.agent = m.src) (htag : t.req.tag = m.txn) :
    exec (.homeCompletionAck m) s = onHome (fun x => settle (k / 64) (closeTxn k t.tgt x) settleFuel) s := by
  rw [show exec (.homeCompletionAck m) s = execHomeCompletionAck m s from rfl, execHomeCompletionAck, onMachF]
  simp only [hn, ht, hlive, hp, hagent, htag, Bool.false_eq_true, if_false, and_self, if_true]
  rfl

theorem completionAck_completes {m : Coh} {s : State} (hok : Away m s.mach.hw ∨
      ∀ k t, s.mach.hw.txnOf (m.laddr % 2 ^ 37) = some (k, t) → t.phase = .gnt) :
    Completes (.homeCompletionAck m) s (fun _ => True) := by
  refine GoesOn.completes_onMachF ?_ (show exec (.homeCompletionAck m) s = execHomeCompletionAck m s from rfl)
  dsimp only
  split
  · exact goesOn_next _
  · next hn =>
    split
    · exact goesOn_next _
    · next k t ht =>
      split
      · exact goesOn_next _
      · next hlive =>
        rw [hok.elim (fun haway => (haway.elim hn hlive).elim) (fun h => h k t ht)]
        dsimp only
        split <;> exact goesOn_next _

theorem upgradeBad_held {m : Coh} {e : DirEnt} {h : Hw} (he : h.dirEnt (m.laddr % 2 ^ 37) = some e)
    (ht : h.txnOf (m.laddr % 2 ^ 37) = none) (hst : e.st = 2) (hin : inHold e.fmt e.hold (codeOf m.src) = true) :
    upgradeBad h m = true := by
  unfold upgradeBad
  dsimp only
  rw [he, ht]
  dsimp only
  rw [hst, hin]
  rfl

/-! ### Snoops and responses at the Cupola (R139, R140) -/

theorem snoopBad_of_noCopy {m : Coh} {l : CuLine} {h : Hw} {opc : Nat} (hrecs : h.cu.recs = []) (hl : h.cuLine m.laddr = some l)
    (hst : l.st ≤ 1) (hopc : opc ≠ 9) : snoopBad opc m h = true := by
  simp [snoopBad, Hw.cuRecOf, hrecs, hl, hst, hopc]

theorem snoopIn_stops {m : Coh} {h : Hw} {opc : Nat} (hn : namesReserved m = false) (hlive : h.isDead m.src = false)
    (hsteps : h.cu.steps = []) (hbad : snoopBad opc m h = true) : snoopIn opc m h = .fault (.cannotOccur 139) := by
  simp [snoopIn, hn, hlive, Hw.cuStepOf, hsteps, hbad]

theorem snoopIn_goesOn {m : Coh} {h : Hw} {opc : Nat}
    (hok : Away m h ∨ (h.cuStepOf m.laddr).isSome = true ∨ snoopBad opc m h = false) : GoesOn (snoopIn opc m h) := by
  unfold snoopIn
  split
  · exact goesOn_next _
  · next hn =>
    split
    · exact goesOn_next _
    · next hlive =>
      have hgood : ((h.cuStepOf m.laddr).isNone && snoopBad opc m h) = false := by
        rcases hok.resolve_left (fun haway => haway.elim hn hlive) with hstep | hbad
        · rw [Option.isNone_eq_false_iff.mpr hstep, Bool.false_and]
        · rw [hbad, Bool.and_false]
      rw [hgood, if_neg Bool.false_ne_true]
      exact goesOn_next _

/-- What a message of a live agent finds at the Cupola by its tag: record `k`, which holds `c`. -/
structure CuTagged (m : Coh) (k : Nat) (c : CuRec) (h : Hw) : Prop where
  names : namesReserved m = false
  live : h.isDead m.src = false
  key : m.txn % 1024 = k
  get : Store.get? h.cu.recs k = some c
  gen : h.tagGen .cu k = m.txn / 1024 % 16

theorem respIn_tagged {m : Coh} {k : Nat} {c : CuRec} {h : Hw} (hm : CuTagged m k c h)
    (f : Nat → CuRec → Hw → Host.Outcome Hw Fault Refusal) : respIn m f h = f k c h := by
  simp [respIn, hm.names, hm.live, hm.key, hm.get, hm.gen]

/-- Unless the message is away, the record that its tag names decides whether a response goes on. -/
theorem respIn_goesOn {m : Coh} {h : Hw} {f : Nat → CuRec → Hw → Host.Outcome Hw Fault Refusal}
    (hok : Away m h ∨ ∀ c, Store.get? h.cu.recs (m.txn % 1024) = some c → h.tagGen .cu (m.txn % 1024) = m.txn / 1024 % 16 →
      GoesOn (f (m.txn % 1024) c h)) : GoesOn (respIn m f h) := by
  unfold respIn
  dsimp only
  split
  · exact goesOn_next _
  · next hn =>
    split
    · exact goesOn_next _
    · next hlive =>
      split
      · exact goesOn_next _
      · next c hc =>
        split
        · exact goesOn_next _
        · next hgen => exact hok.elim (fun haway => (haway.elim hn hlive).elim) (fun h => h c hc (Decidable.not_not.mp hgen))

/-- The data part of a grant that comes before the home's Ack. -/
theorem cuData_part {m : Coh} {st k : Nat} {c : CuRec} {h : Hw} (hc : (c.tr = .isW ∧ st ≠ 4) ∨ (c.tr = .imW ∧ st ≠ 1)) :
    cuData m st k c h = .next (h.setCuRec k { c with tr := .gr, part := some (st, m.data, m.poison) }) := by
  rcases hc with ⟨htr, hst⟩ | ⟨htr, hst⟩ <;> simp [cuData, htr, hst]

theorem cuData_goesOn {m : Coh} {st k : Nat} {c : CuRec} {h : Hw}
    (hc : ((c.tr = .isW ∧ st ≠ 4) ∨ (c.tr = .imW ∧ st ≠ 1)) ∨ (c.tr = .gr ∧ c.ack = true)) : GoesOn (cuData m st k c h) := by
  rcases hc with hpart | ⟨htr, hack⟩
  · exact ⟨_, cuData_part hpart⟩
  · simp only [cuData, htr, hack, if_true]
    exact goesOn_next _

theorem cuAck_goesOn {k : Nat} {c : CuRec} {h : Hw} (hth : c.tr ≠ .th) (hgr : c.tr = .gr → c.part ≠ none) : GoesOn (cuAck k c h) := by
  unfold cuAck
  split
  case h_5 htr =>
    obtain ⟨p, hp⟩ := Option.ne_none_iff_exists'.mp (hgr htr)
    rw [hp]
    exact goesOn_next _
  case h_6 htr => exact absurd htr hth
  all_goals exact goesOn_next _

theorem cuRetry_waiting {k : Nat} {c : CuRec} {h : Hw} (hgr : c.tr ≠ .gr) (hth : c.tr ≠ .th) :
    cuRetry k c h = .next ((h.setCuRec k { c with backoff := true, retries := c.retries + 1 }).fadd F.CU_RETRYRX_VAL 0 1) := by
  unfold cuRetry
  split
  · next htr => exact absurd htr hgr
  · next htr => exact absurd htr hth
  · rfl

/-- An Ack whose tag names a record of the Cupola answers no Fence of the data mover. -/
theorem ackIn_tagged {m : Coh} {k : Nat} {c : CuRec} {h : Hw} (hm : CuTagged m k c h) : ackIn m h = cuAck k c h := by
  have hmine : ((Store.get? h.cu.recs (m.txn % 1024)).isSome && h.tagGen .cu (m.txn % 1024) == m.txn / 1024 % 16) = true := by
    simp [hm.key, hm.get, hm.gen]
  unfold ackIn
  dsimp only
  rw [hmine, Bool.or_true, if_pos rfl, ← respIn_tagged hm cuAck]

theorem ackIn_goesOn {m : Coh} {h : Hw} (hresp : GoesOn (respIn m cuAck h)) : GoesOn (ackIn m h) := by
  unfold ackIn
  dsimp only
  split
  · exact goesOn_next _
  · exact hresp


theorem exec_homeUpgrade (m : Coh) (rivals : List Nat) (s : State) : exec (.homeUpgrade m rivals) s = onMachF (fun x =>
    if !namesReserved m && upgradeBad x.hw m then .fault (.cannotOccur 89)
    else .next (homeEffect (homeIn m rivals (.req (cupReq .cUpgrade m))) x)) s := rfl

theorem upgrade_allowed {m : Coh} {h : Hw} (hok : namesReserved m = true ∨ upgradeBad h m = false) :
    (!namesReserved m && upgradeBad h m) = false := by
  rcases hok with hn | hbad
  · rw [hn]
    rfl
  · rw [hbad, Bool.and_false]

/-- A response stops where the record that its tag names does. -/
theorem response_stops {i : Instr} {s : State} {m : Coh} {k : Nat} {c : CuRec} {f : Nat → CuRec → Hw → Host.Outcome Hw Fault Refusal}
    {r : Fault} (hc : exec i s = onHwF (respIn m f) s) (hm : CuTagged m k c s.mach.hw) (hf : f k c s.mach.hw = .fault r) :
    exec i s = .fault r := stops_onHwF hc ((respIn_tagged hm f).trans hf)

theorem ack_stops {s : State} {m : Coh} {k : Nat} {c : CuRec} {r : Fault} (hm : CuTagged m k c s.mach.hw)
    (hf : cuAck k c s.mach.hw = .fault r) : exec (.cupolaAck m) s = .fault r :=
  stops_onHwF (f := ackIn m) rfl ((ackIn_tagged hm).trans hf)

/-- Data at a record in GR whose Ack has not come stops. -/
theorem cuData_twice {m : Coh} {k : Nat} {c : CuRec} {h : Hw} (htr : c.tr = .gr) (hack : c.ack = false) (st : Nat) :
    cuData m st k c h = .fault (.cannotOccur 140) := by
  simp [cuData, htr, hack]

/-- Settles O4: each event that cannot occur is refused by the lemma of its table, and outside the tables' empty cells every command goes
on. -/
theorem eventsThatCannotOccurStop : Obligations.EventsThatCannotOccurStop := by
  unfold Obligations.EventsThatCannotOccurStop
  refine ⟨?stops, fun c s h => completes_of_mayStop h s, ?runs⟩
  case stops =>
    intro s m rivals k c l e t h stops hn
    refine ⟨fun he ht hst hin => ?_, fun hlive => ⟨fun hrecs hsteps hl hst i hi => ?_, fun hk hget hgen => ?_,
      fun hk hget hgen hp i hi => ?_, fun ht hp => completionAck_stops hn hlive ht hp⟩⟩
    · refine stops_onMachF (exec_homeUpgrade m rivals s) ?_
      rw [hn, upgradeBad_held he ht hst hin]
      rfl
    · have hbad := fun opc (hopc : opc ≠ 9) => snoopIn_stops hn hlive hsteps (snoopBad_of_noCopy hrecs hl hst hopc)
      simp only [List.mem_cons, List.not_mem_nil, or_false] at hi
      rcases hi with rfl | rfl | rfl
      · exact stops_onHwF (f := snoopIn 0x08 m) rfl (hbad _ (by decide))
      · exact stops_onHwF (f := snoopIn 0x0A m) rfl (hbad _ (by decide))
      · exact stops_onHwF (f := snoopIn 0x0B m) rfl (hbad _ (by decide))
    · have hm : CuTagged m k c h := ⟨hn, hlive, hk, hget, hgen⟩
      refine ⟨fun htr => ?_, fun htr => ?_, fun htr => ⟨?_, ?_⟩, fun htr => ⟨?_, fun hpart => ?_, fun hack i hi => ?_⟩⟩
      · exact response_stops (f := cuData m 4) rfl hm (by simp [cuData, htr])
      · exact response_stops (f := cuData m 1) rfl hm (by simp [cuData, htr])
      · exact ack_stops hm (by simp [cuAck, htr])
      · exact response_stops (f := cuRetry) rfl hm (by simp [cuRetry, htr])
      · exact response_stops (f := cuRetry) rfl hm (by simp [cuRetry, htr])
      · exact ack_stops hm (by simp [cuAck, htr, hpart])
      · simp only [List.mem_cons, List.not_mem_nil, or_false] at hi
        rcases hi with rfl | rfl | rfl
        · exact response_stops (f := cuData m 1) rfl hm (cuData_twice htr hack _)
        · exact response_stops (f := cuData m 2) rfl hm (cuData_twice htr hack _)
        · exact response_stops (f := cuData m 4) rfl hm (cuData_twice htr hack _)
    · have hm : HomeTag m k t h := ⟨hn, hlive, hk, hget, hgen⟩
      have hstop := fun (a : CupAns) (bad : HPhase → Bool) (hbad : bad .gnt = true) =>
        answerIn_stops (x := s.mach) hm a (bad := bad) (by rw [hp]; exact hbad)
      simp only [List.mem_cons, List.not_mem_nil, or_false] at hi
      rcases hi with rfl | rfl | rfl | rfl
      · exact stops_onMachF (f := answerIn m (if m.owned then .owned else .ack) notSnp) rfl (hstop _ _ rfl)
      · exact stops_onMachF (f := answerIn m .inv (· == .gnt)) rfl (hstop _ _ rfl)
      · exact stops_onMachF (f := answerIn m (.dataM m.data m.poison) (· == .gnt)) rfl (hstop _ _ rfl)
      · exact stops_onMachF (f := answerIn m (.dataO m.data m.poison) notSnp) rfl (hstop _ _ rfl)
  case runs =>
    intro s m rivals h runs away hd cu
    have hanswer := fun (a : CupAns) (bad : HPhase → Bool) (hok : hd (fun p => bad p = false)) =>
      answerIn_goesOn (x := s.mach) a (bad := bad) hok
    refine ⟨fun hok => ?_, fun i hi hok => ?_, fun i hi hok => ?_, fun hok => completionAck_completes ?_, fun x hx hok => ?_,
      fun x hx hok => ?_, fun hok => ?_, fun hok => ?_⟩
    · refine GoesOn.completes_onMachF ?_ (exec_homeUpgrade m rivals s)
      rw [upgrade_allowed hok]
      exact goesOn_next _
    · have hsnp : hd (fun p => notSnp p = false) := hok.imp_right (fun h t ht hg => by rw [h t ht hg]; rfl)
      simp only [List.mem_cons, List.not_mem_nil, or_false] at hi
      rcases hi with rfl | rfl
      · exact (hanswer (if m.owned then .owned else .ack) notSnp hsnp).completes_onMachF rfl
      · exact (hanswer (.dataO m.data m.poison) notSnp hsnp).completes_onMachF rfl
    · have hgnt : hd (fun p => (p == .gnt) = false) := hok.imp_right (fun h t ht hg => beq_eq_false_iff_ne.mpr (h t ht hg))
      simp only [List.mem_cons, List.not_mem_nil, or_false] at hi
      rcases hi with rfl | rfl
      · exact (hanswer .inv (· == .gnt) hgnt).completes_onMachF rfl
      · exact (hanswer (.dataM m.data m.poison) (· == .gnt) hgnt).completes_onMachF rfl
    · exact hok
    · have hsnoop := snoopIn_goesOn hok
      simp only [List.mem_cons, List.not_mem_nil, or_false] at hx
      rcases hx with rfl | rfl | rfl | rfl <;> exact hsnoop.completes_onHwF rfl
    · simp only [List.mem_cons, List.not_mem_nil, or_false] at hx
      rcases hx with rfl | rfl | rfl
      · refine GoesOn.completes_onHwF (f := respIn m (cuData m 1)) (respIn_goesOn (hok.imp_right fun h c hc hg => ?_)) rfl
        exact cuData_goesOn ((h c hc hg).imp_left fun htr => .inl ⟨by simpa using htr, by decide⟩)
      · refine GoesOn.completes_onHwF (f := respIn m (cuData m 2)) (respIn_goesOn (hok.imp_right fun h c hc hg => ?_)) rfl
        exact cuData_goesOn ((h c hc hg).imp_left fun htr => by simpa using htr)
      · refine GoesOn.completes_onHwF (f := respIn m (cuData m 4)) (respIn_goesOn (hok.imp_right fun h c hc hg => ?_)) rfl
        exact cuData_goesOn ((h c hc hg).imp_left fun htr => .inr ⟨by simpa using htr, by decide⟩)
    · refine GoesOn.completes_onHwF (f := ackIn m) (ackIn_goesOn (respIn_goesOn (hok.imp_right fun h c hc hg => ?_))) rfl
      exact cuAck_goesOn (h c hc hg).1 (h c hc hg).2
    · refine GoesOn.completes_onHwF (f := respIn m cuRetry) (respIn_goesOn (hok.imp_right fun h c hc hg => ?_)) rfl
      exact ⟨_, cuRetry_waiting (h c hc hg).1 (h c hc hg).2⟩

end Sys2Proof.Machine

namespace Sys2Proof.Machine

/-! ### What sending leaves (R93, R416 to R422) -/

/-- `b` is `a` after frames and flits have been sent: but for the transport's state, the cells in use and the outputs, which only grow, a port
may have woken. -/
structure Sent (a b : Hw) : Prop where
  frame : ∃ regs sl sw out, b = { a with regs := regs, sl := sl, sw := sw, out := out }
  fields : ∀ (g : Fld) (j : Nat), g.id ≠ F.SL_PSTAT_TXPS.id → j < 65536 → b.fget g j = a.fget g j
  out : ∀ e ∈ a.out, e ∈ b.out

theorem Sent.refl (a : Hw) : Sent a a := ⟨⟨_, _, _, _, rfl⟩, fun _ _ _ _ => rfl, fun _ he => he⟩

theorem Sent.trans {a b c : Hw} (h1 : Sent a b) (h2 : Sent b c) : Sent a c where
  frame := by
    obtain ⟨_, _, _, _, rfl⟩ := h1.frame
    obtain ⟨_, _, _, _, rfl⟩ := h2.frame
    exact ⟨_, _, _, _, rfl⟩
  fields g j hg hj := (h2.fields g j hg hj).trans (h1.fields g j hg hj)
  out e he := h2.out e (h1.out e he)

theorem Sent.hd {a b : Hw} (h : Sent a b) : b.hd = a.hd := by
  obtain ⟨_, _, _, _, rfl⟩ := h.frame
  rfl

theorem Sent.cu {a b : Hw} (h : Sent a b) : b.cu = a.cu := by
  obtain ⟨_, _, _, _, rfl⟩ := h.frame
  rfl

theorem Sent.bd {a b : Hw} (h : Sent a b) : b.bd = a.bd := by
  obtain ⟨_, _, _, _, rfl⟩ := h.frame
  rfl

theorem sent_emit (e : Emit) (h : Hw) : Sent h (h.emit e) :=
  ⟨⟨_, _, _, _, rfl⟩, fun _ _ _ _ => rfl, fun _ he => List.mem_cons_of_mem _ he⟩

theorem sent_setSlPort (s : Nat) (p : SlPort) (h : Hw) : Sent h (h.setSlPort s p) := ⟨⟨_, _, _, _, rfl⟩, fun _ _ _ _ => rfl, fun _ he => he⟩

theorem sent_setSlPeer (d : Nat) (p : SlPeer) (h : Hw) : Sent h (h.setSlPeer d p) := ⟨⟨_, _, _, _, rfl⟩, fun _ _ _ _ => rfl, fun _ he => he⟩

theorem sent_wakeTx {s : Nat} (hs : s < 65536) (ftype : Nat) (h : Hw) : Sent h (wakeTx s ftype h) := by
  unfold wakeTx
  split
  · exact Sent.refl h
  · exact ⟨⟨_, _, _, _, rfl⟩, fun g j hg hj => Hw.fget_fset_ne _ _ (fkey_ne hg.symm hs hj), fun _ he => he⟩

theorem sent_flitSend {s : Nat} (hs : s < 65536) (f : SlFrame) (h : Hw) : Sent h (flitSend s f h) := by
  unfold flitSend
  dsimp only
  split
  · exact ((sent_wakeTx hs f.ftype h).trans (sent_setSlPort _ _ _)).trans ((sent_emit _ _).trans (sent_emit _ _))
  · exact sent_setSlPort _ _ _

theorem sent_portSend {s : Nat} (hs : s < 65536) (f : SlFrame) (h : Hw) : Sent h (portSend s f h) := by
  unfold portSend
  split
  · exact sent_flitSend hs _ h
  · exact Sent.refl h

/-- A route leads to one of the four Spire ports (R430). -/
theorem slRoute_lt {h : Hw} {d s : Nat} (hs : h.slRoute d = some s) : s < 4 := by
  unfold Hw.slRoute at hs
  dsimp only at hs
  split at hs
  · next hc =>
    simp only [Bool.and_eq_true, decide_eq_true_eq] at hc
    have := Option.some.inj hs
    omega
  · cases hs

theorem sent_routeSend (f : SlFrame) (h : Hw) : Sent h (routeSend f h).2 := by
  unfold routeSend
  dsimp only
  split
  · exact Sent.refl h
  · next s hroute =>
    split
    · exact (sent_setSlPeer _ _ h).trans (sent_portSend (Nat.lt_trans (slRoute_lt hroute) (by decide)) _ _)
    · exact Sent.refl h

theorem sent_takeCells (d : Nat) (h : Hw) : Sent h (takeCells d h) := ⟨⟨_, _, _, _, rfl⟩, fun _ _ _ _ => rfl, fun _ he => he⟩

theorem sent_submit (d ftype body : Nat) (h : Hw) : Sent h (submit d ftype body h) := by
  unfold submit
  dsimp only
  split
  · exact (sent_routeSend _ h).trans (sent_setSlPeer _ _ _)
  · exact (sent_setSlPeer d _ h).trans (sent_takeCells d _)

theorem sent_emitCoh_of_emit (dst opc : Nat) (m : Coh) (h : Hw) : Sent (h.emit (.coh dst opc m)) (h.emitCoh dst opc m) := by
  unfold Hw.emitCoh
  dsimp only
  split
  · exact Sent.refl _
  · exact sent_submit _ _ _ _

theorem sent_emitCoh (dst opc : Nat) (m : Coh) (h : Hw) : Sent h (h.emitCoh dst opc m) :=
  (sent_emit _ h).trans (sent_emitCoh_of_emit dst opc m h)

/-- A coherence message that is sent stands in the outputs. -/
theorem mem_out_emitCoh (dst opc : Nat) (m : Coh) (h : Hw) : Emit.coh dst opc m ∈ (h.emitCoh dst opc m).out :=
  (sent_emitCoh_of_emit dst opc m h).out _ List.mem_cons_self

/-! ### Responses at the Cupola (R113, R120, R140) -/

/-- An event at a Cupola that holds no request, and leaves no work, ends with its own effect. -/
theorem cuGo_idle {h : Hw} (hheld : h.cu.held = []) : cuGo (h, []) = h := by
  have hrun : cuRun [] h cuFuel = h := rfl
  rw [cuGo, hrun, cuOffer, hheld, List.foldl_nil, ← hheld]

/-- A grant in S without waiting requests installs its line and closes its record. -/
theorem cuInstall_shared {k : Nat} {c : CuRec} {h : Hw} (hwait : c.waiting = []) (hheld : h.cu.held = []) (d : Nat) (q : Bool) :
    Store.get? (cuInstall k c (1, d, q) h).cu.recs k = none ∧ (cuInstall k c (1, d, q) h).tagOpen .cu k = false ∧
      ((cuInstall k c (1, d, q) h).cuLine c.gla).map (fun l => (l.st, l.data, l.poison)) = some (1, d, q) ∧
      (cuInstall k c (1, d, q) h).hd = h.hd := by
  unfold cuInstall
  dsimp only
  rw [if_pos rfl, hwait, List.map_nil]
  generalize hl : h.setCuLine c.gla _ = h1
  have hsent : Sent h1 (h1.cuSend (cupAgent (homeOf c.gla)) 0x14 (h1.cuTag k) c.gla false false (0, false)) := sent_emitCoh _ _ _ _
  generalize h1.cuSend (cupAgent (homeOf c.gla)) 0x14 (h1.cuTag k) c.gla false false (0, false) = h2 at hsent
  have hcu : h2.cu = h1.cu := hsent.cu
  rw [cuGo_idle (by rw [Hw.closeCuRec]; dsimp only; rw [Hw.closeTag_cu, hcu, ← hl]; exact hheld)]
  refine ⟨Store.get?_del_same _ _, Hw.tagOpen_closeTag h2 .cu k, ?_, ?_⟩
  · rw [show (h2.closeCuRec k).cuLine c.gla = h2.cuLine c.gla from rfl, Hw.cuLine, hcu, ← hl, ← Hw.cuLine, Hw.cuLine_setCuLine]
    rfl
  · rw [show (h2.closeCuRec k).hd = h2.hd from rfl, hsent.hd, ← hl]
    rfl

/-- The end of a back-off sends the request again (R113). -/
theorem retryBackoff_completes {s : State} {k : Nat} {c : CuRec} (hget : Store.get? s.mach.hw.cu.recs k = some c) (hback : c.backoff = true) :
    Completes (.retryBackoffExpire k) s (fun m' =>
      Store.get? m'.hw.cu.recs k = some { c with backoff := false } ∧ m'.hw.cu.lines = s.mach.hw.cu.lines ∧
      (∃ a : Coh, Emit.coh (cupAgent (homeOf c.gla)) c.opc a ∈ m'.hw.out ∧ a.txn = s.mach.hw.cuTag k ∧ a.laddr = c.gla ∧
        a.starve = decide (c.opc ≤ 2 ∧ s.mach.hw.fget F.CU_CTRL_STARVN 0 ≤ c.retries)) ∧ m'.mem = s.mach.mem) := by
  refine completes_onHw (show exec (.retryBackoffExpire k) s = execRetryBackoffExpire k s from rfl) ?_
  simp only [Mach.onHw, hget, hback, if_true]
  generalize hset : s.mach.hw.setCuRec k { c with backoff := false } = h1
  rw [Hw.cuSend]
  generalize hmsg : h1.cuMsg _ _ _ _ _ = a
  have hcu : (h1.emitCoh (cupAgent (homeOf c.gla)) c.opc a).cu = h1.cu := (sent_emitCoh _ _ _ _).cu
  rw [hcu]
  refine ⟨?_, ?_, ⟨a, mem_out_emitCoh _ _ _ _, ?_, ?_, ?_⟩, trivial⟩
  · rw [← hset]
    exact Store.get?_put_same _ _ _
  · rw [← hset]
    rfl
  all_goals rw [← hmsg]; rfl

/-- The end of a tenure hold without parked snoops closes its record (R120). -/
theorem tenureHoldEnd_completes {s : State} {k : Nat} {c : CuRec} (hget : Store.get? s.mach.hw.cu.recs k = some c) (htr : c.tr = .th)
    (hpark : c.parked = []) (hheld : s.mach.hw.cu.held = []) :
    Completes (.tenureHoldEnd k) s (fun m' => m' = s.mach.onHw (fun h => h.closeCuRec k)) := by
  refine completes_onHw (show exec (.tenureHoldEnd k) s = execTenureHoldEnd k s from rfl) ?_
  have hth : (CuTr.th == CuTr.th) = true := rfl
  simp only [Mach.onHw, hget, htr, hth, if_true, hpark, List.map_nil]
  rw [cuGo_idle (show (s.mach.hw.closeCuRec k).cu.held = [] from hheld)]

/-! ### Answers to a host step (R118, R138) -/

/-- Whether a host step has the BISnp outstanding that an answer of `port` for tenant `tid` at `addr` names. -/
def CuStep.asked (port tid addr : Nat) (st : CuStep) : Bool :=
  st.gla % 2 ^ 15 == addr / 64 % 2 ^ 15 && st.bis.any (fun b => b.1 == port && b.2.1 == tid && b.2.2 == addr / 2 ^ 21)

theorem asked_of_contains {port tid addr : Nat} {st : CuStep} (hgla : st.gla % 2 ^ 15 = addr / 64 % 2 ^ 15)
    (hbis : st.bis.contains (port, tid, addr / 2 ^ 21) = true) : st.asked port tid addr = true := by
  rw [CuStep.asked, hgla, beq_self_eq_true, Bool.true_and, List.any_eq_true]
  exact ⟨_, List.contains_iff_mem.mp hbis, by simp⟩

/-- An answer to one of several BISnps of the only host step leaves it waiting for the others. -/
theorem cuBirsp_waits {port tid addr : Nat} {st : CuStep} {h : Hw} (hsteps : h.cu.steps = [st]) (hask : st.asked port tid addr = true)
    (hmore : st.bis.any (fun y => y.1 == port && !(y.2.1 == tid && y.2.2 == addr / 2 ^ 21)) = true) :
    cuBirsp port tid addr 0 h = { h with cu := { h.cu with
      steps := [{ st with bis := st.bis.filter (fun y => !(y.1 == port && y.2.1 == tid && y.2.2 == addr / 2 ^ 21)),
                          seen := Store.put st.seen port (Store.getD 0 st.seen port) }] } } := by
  have hleft : (st.bis.filter (fun y => !(y.1 == port && y.2.1 == tid && y.2.2 == addr / 2 ^ 21))).isEmpty = false := by
    obtain ⟨y, hy, hp⟩ := List.any_eq_true.mp hmore
    refine List.isEmpty_eq_false_iff_exists_mem.mpr ⟨y, List.mem_filter.mpr ⟨hy, ?_⟩⟩
    simp only [Bool.and_eq_true] at hp
    rw [Bool.and_assoc, hp.1, Bool.true_and]
    exact hp.2
  have hfind : h.cu.steps.find? (CuStep.asked port tid addr) = some st := by
    rw [hsteps]
    exact List.find?_cons_of_pos hask
  unfold cuBirsp
  dsimp only
  rw [show h.cu.steps.find? (fun s => s.gla % 2 ^ 15 == addr / 64 % 2 ^ 15 &&
    s.bis.any (fun b => b.1 == port && b.2.1 == tid && b.2.2 == addr / 2 ^ 21)) = some st from hfind]
  dsimp only
  rw [hleft, if_neg Bool.false_ne_true, hsteps]
  simp [updateFirst]

theorem hostBirsp_waits {port tid addr : Nat} {st : CuStep} {s : State} (hlive : s.mach.hw.isDead (s.mach.hw.agentOf port) = false)
    (hsteps : s.mach.hw.cu.steps = [st]) (hask : st.asked port tid addr = true) {P : Mach → Prop}
    (hp : P (s.mach.onHw (cuBirsp port tid addr 0))) : Completes (.cupolaHostBirsp port tid addr .i) s P := by
  have hany : s.mach.hw.cu.steps.any (CuStep.asked port tid addr) = true := by
    rw [hsteps, List.any_cons, hask, Bool.true_or]
  refine completes_onMach (show exec (.cupolaHostBirsp port tid addr .i) s = execCupolaHostBirsp port tid addr .i s from rfl) ?_
  rw [hlive, if_neg Bool.false_ne_true, if_pos (show s.mach.hw.cu.steps.any (fun s => s.gla % 2 ^ 15 == addr / 64 % 2 ^ 15 &&
    s.bis.any (fun b => b.1 == port && b.2.1 == tid && b.2.2 == addr / 2 ^ 21)) = true from hany)]
  exact hp

/-! ### A peer's Ack to a Fence of the data mover (R130, R288) -/

theorem ackIn_fence {m : Coh} {k : Nat} {j : DmJob} {h : Hw} (hn : namesReserved m = false) (hlive : h.isDead m.src = false)
    (hk : m.txn % 1024 = k) (hget : Store.get? h.cu.recs k = none) (hjob : h.job k = some j) (hphase : j.phase = .fence)
    (hopen : h.tagOpen .dm k = true) (hgen : h.tagGen .dm k = m.txn / 1024 % 16) (hpeer : j.peers.contains (m.src / 128) = true) :
    ackIn m h = .next { h with dm := { h.dm with jobs := Store.put h.dm.jobs k { j with peers := j.peers.erase (m.src / 128) } } } := by
  have hj : Store.get? h.dm.jobs k = some j := hjob
  have hack : fenceAck k (m.txn / 1024 % 16) (m.src / 128) h =
      some { h with dm := { h.dm with jobs := Store.put h.dm.jobs k { j with peers := j.peers.erase (m.src / 128) } } } := by
    rw [fenceAck, hj]
    exact if_pos (by simp only [hphase, hopen, hgen, hpeer, beq_self_eq_true, Bool.and_self])
  unfold ackIn
  dsimp only
  rw [hn, hlive, hk, hget, hack]
  rfl

/-- Settles O35: each response at the record that its tag names, each timer's end, the answer of a host step and the Ack of a Fence by its
own lemma. -/
theorem cupolaAnswersComplete : Obligations.CupolaAnswersComplete := by
  unfold Obligations.CupolaAnswersComplete
  intro s m k port tid addr c st d q j h e b
  refine ⟨fun hn hlive hk hget hgen => ?_, fun hget => ⟨fun hback => retryBackoff_completes hget hback, fun htr hpark hheld => ?_⟩,
    fun hlive hsteps hgla hbis hmore => ?_, fun hn hlive hk hget hjob hphase hopen hg hpeer => ?_⟩
  · have hm : CuTagged m k c s.mach.hw := ⟨hn, hlive, hk, hget, hgen⟩
    have hpart := fun st hst => (respIn_tagged hm (cuData m st)).trans (cuData_part hst)
    refine ⟨⟨fun htr => ⟨?_, ?_⟩, fun htr => ⟨?_, ?_⟩⟩, fun htr => ?_, fun htr hp hwait hheld => ?_, fun htr => ?_⟩
    · exact completes_onHwF (f := respIn m (cuData m 1)) rfl (hpart 1 (.inl ⟨htr, by decide⟩)) rfl
    · exact completes_onHwF (f := respIn m (cuData m 2)) rfl (hpart 2 (.inl ⟨htr, by decide⟩)) rfl
    · exact completes_onHwF (f := respIn m (cuData m 2)) rfl (hpart 2 (.inr ⟨htr, by decide⟩)) rfl
    · exact completes_onHwF (f := respIn m (cuData m 4)) rfl (hpart 4 (.inr ⟨htr, by decide⟩)) rfl
    · refine completes_onHwF (f := ackIn m) (h := h.setCuRec k { c with tr := .gr, ack := true }) rfl ?_ rfl
      rw [ackIn_tagged hm, cuAck]
      rcases htr with htr | htr <;> rw [htr]
    · refine completes_onHwF (f := ackIn m) (h := cuInstall k c (1, d, q) h) rfl ?_ ?_
      · rw [ackIn_tagged hm, cuAck, htr, hp]
      · obtain ⟨hrec, htag, hline, hhd⟩ := cuInstall_shared (k := k) hwait hheld d q
        exact ⟨hrec, htag, hline, hhd, rfl⟩
    · have hwait : c.tr ≠ .gr ∧ c.tr ≠ .th := by
        rcases htr with htr | htr | htr <;> rw [htr] <;> decide
      exact completes_onHwF (f := respIn m cuRetry) rfl ((respIn_tagged hm cuRetry).trans (cuRetry_waiting hwait.1 hwait.2)) rfl
  · obtain ⟨t, hexec, hpend, ht⟩ := tenureHoldEnd_completes hget htr hpark hheld
    refine ⟨t, hexec, hpend, ?_⟩
    rw [ht]
    exact ⟨Store.get?_del_same _ _, Hw.tagOpen_closeTag _ _ _, rfl, rfl, rfl, rfl⟩
  · have hask := asked_of_contains hgla hbis
    refine hostBirsp_waits hlive hsteps hask ?_
    rw [Mach.onHw, cuBirsp_waits hsteps hask hmore]
    rfl
  · exact completes_onHwF (f := ackIn m) rfl (ackIn_fence hn hlive hk hget hjob hphase hopen hg hpeer) rfl

end Sys2Proof.Machine

namespace Sys2Proof.Machine

/-! ### A line's hint (R115, R323) -/

theorem gtop_le (h : Hw) : h.gtop ≤ 2 := by
  unfold Hw.gtop
  split
  · exact Nat.le_refl _
  · split <;> decide

theorem groupOf_le (h : Hw) (e : Nat) : h.groupOf e ≤ 2 := by
  unfold Hw.groupOf
  split
  · exact gtop_le h
  · split
    · exact Nat.le_refl _
    · split <;> decide

/-- The address map names one of the twelve channels. -/
theorem prim_lt {h : Hw} {o : Nat} {p : Phys} (hp : domeMap h o = p) : p.prim < 12 := by
  have htop := gtop_le h
  have hgroup := groupOf_le h (o / 2 ^ 21)
  unfold domeMap at hp
  dsimp only at hp
  split at hp
  · split at hp <;> rw [← hp] <;> dsimp only <;> omega
  · split at hp <;> rw [← hp] <;> dsimp only <;> omega

/-- What leaves Dome's bytes and the store's place: of the registers a drop may have been counted. -/
structure DomeKept (a b : Mach) : Prop where
  only : ∃ regs, b = { mem := b.mem, hw := { a.hw with regs := regs } }
  dome : b.mem.dome = a.mem.dome
  first : b.hw.storeFirst = a.hw.storeFirst
  ext : b.hw.domeExt = a.hw.domeExt

/-- A write of a line's hint that meets no error. -/
theorem writeHint_kept (o : Nat) (hint : Bool) (m : Mach) : DomeKept m (writeHint o hint .good m) := by
  have hlt : (domeMap m.hw o).prim < 65536 := Nat.lt_trans (prim_lt rfl) (by decide)
  unfold writeHint
  dsimp only
  rw [Mach.misread, if_neg (by decide), metaCopy]
  split
  · refine ⟨⟨_, rfl⟩, rfl, ?_, ?_⟩
    · exact Hw.fget_fadd_ne _ _ (fkey_ne (by decide) hlt (by decide))
    · exact Hw.fget_fadd_ne _ _ (fkey_ne (by decide) hlt (by decide))
  · dsimp only
    rw [if_neg (by decide), decodeLine]
    cases (m.openRow (domeMap m.hw o).prim (domeMap m.hw o).addr |>.attr (domeMap m.hw o).prim (domeMap m.hw o).addr).poison
    all_goals exact ⟨⟨_, rfl⟩, rfl, rfl, rfl⟩

/-! ### A line that holds what was written to it -/

/-- A line outside the store's tables keeps what Dome's bytes hold while Dome's bytes and the store's place are kept. -/
theorem line_congr {a b : Mach} {o : Nat} (hfirst : b.hw.storeFirst = a.hw.storeFirst) (hext : b.hw.domeExt = a.hw.domeExt)
    (hbd : b.hw.bd = a.hw.bd) (hdome : b.mem.dome = a.mem.dome) (hstore : a.hw.storeWord (o / 64 * 64) = none) (hrev : a.hw.revIn o = []) :
    b.line o = a.line o := by
  rw [line_plain hstore hrev, line_plain ((Hw.storeWord_congr hfirst hext _).trans hstore) ((Hw.revIn_congr hfirst hext hbd _).trans hrev),
    hdome]

theorem lineOff_aligned (la : Nat) : lineOff la / 64 * 64 = lineOff la := by
  rw [lineOff]
  omega

theorem line_bytes : (256 : Nat) ^ 64 = 2 ^ 512 := by
  have hbits : 512 = 8 * 64 := rfl
  rw [hbits, Nat.pow_mul]

theorem StoredLine.line {la data : Nat} {a b : Mach} (hs : StoredLine (lineOff la) data a b)
    (hstore : a.hw.storeWord (lineOff la) = none) (hrev : a.hw.revIn (lineOff la) = []) :
    b.line (lineOff la) = data % 2 ^ 512 ∧ b.hw.storeWord (lineOff la) = none ∧ b.hw.revIn (lineOff la) = [] := by
  have hbd : b.hw.bd = a.hw.bd := by
    obtain ⟨regs, hb⟩ := hs.only
    rw [hb]
  have hstore' := (Hw.storeWord_congr hs.first hs.ext (lineOff la)).trans hstore
  have hrev' := (Hw.revIn_congr hs.first hs.ext hbd (lineOff la)).trans hrev
  refine ⟨?_, hstore', hrev'⟩
  rw [line_plain (by rw [lineOff_aligned]; exact hstore') hrev', hs.dome, readLE_writeLE, line_bytes]

/-! ### A release at an idle home (R100, R143) -/

/-- The line's entry is freed and its hint cleared. -/
def freeLine (la : Nat) (m : Mach) : Mach := writeHint (lineOff la) false .good (m.onHw (fun h => h.freeDir la))

/-- A release is acknowledged. -/
def ackRelease (m : Coh) (x : Mach) : Mach := x.onHw (fun h => h.sendCoh m.src 0x14 m.txn (m.laddr % 2 ^ 37))

/-- The message stands in the outputs as an Ack. -/
def Acked (dst txn : Nat) (h : Hw) : Prop := ∃ a : Coh, Emit.coh dst 0x14 a ∈ h.out ∧ a.txn = txn

theorem acked_sendCoh (dst txn la : Nat) (h : Hw) : Acked dst txn (h.sendCoh dst 0x14 txn la) := ⟨_, mem_out_emitCoh _ _ _ _, rfl⟩

theorem sent_ackRelease (m : Coh) (x : Mach) : Sent x.hw (ackRelease m x).hw := sent_emitCoh _ _ _ _

theorem tookFrom_accepted {h : Hw} (hun : h.hd.unacc = []) (agent txn : Nat) : tookFrom agent txn h = h := by
  rw [tookFrom, hun, List.filter_nil, ← hun]

/-- What a release of a live Cupola finds at an idle home. -/
structure Releases (m : Coh) (h : Hw) : Prop where
  names : namesReserved m = false
  live : h.isDead m.src = false
  idle : h.homeIdle

theorem Releases.unacc {m : Coh} {h : Hw} (hr : Releases m h) : h.hd.unacc = [] := by
  obtain ⟨-, -, -, -, -, -, -, hun, -⟩ := hr.idle
  exact hun

theorem settle_idle {l : Nat} {m : Mach} (n : Nat) (htxns : m.hw.hd.txns = []) (hnext : m.hw.hd.next = []) (hretry : m.hw.hd.retry = []) :
    settle l m n = m :=
  settle_of_rest n (sliceMove_of_rest (fun x hx => by rw [htxns] at hx; cases hx) hnext hretry)

/-- It is applied at once, and the home is idle again. -/
theorem release_completes {c : Instr} {s : State} {m : Coh} {kind : Nat} {P : Mach → Prop} (hr : Releases m s.mach.hw)
    (hc : exec c s = onHome (homeIn m [] (.rel kind m)) s)
    (hdir : ∃ dir, (applyRelease ⟨kind, m⟩ s.mach).hw.hd = { s.mach.hw.hd with dir := dir }) (hp : P (applyRelease ⟨kind, m⟩ s.mach)) :
    Completes c s P := by
  obtain ⟨htxns, hretry, -, hheld, hnext, hfail, hcontest, -⟩ := hr.idle
  obtain ⟨dir, hdir⟩ := hdir
  have hin : homeIn m [] (.rel kind m) s.mach = applyRelease ⟨kind, m⟩ s.mach := by
    rw [homeIn, hr.names, if_neg Bool.false_ne_true, hr.live, if_neg Bool.false_ne_true, competes, hcontest]
    change releaseIn kind m s.mach = _
    unfold releaseIn
    dsimp only
    rw [Hw.txnOf, htxns, hfail]
    exact settle_idle _ (by rw [hdir]; exact htxns) (by rw [hdir]; exact hnext) (by rw [hdir]; exact hretry)
  exact completes_onHome hc (by rw [hin, hdir]; exact hheld) (by rw [hin]; exact hp)

/-- A release of a line that the directory does not list is stale. -/
theorem applyRelease_unlisted {m : Coh} {x : Mach} (hun : x.hw.hd.unacc = []) (hdir : x.hw.dirEnt (m.laddr % 2 ^ 37) = none) (kind : Nat) :
    applyRelease ⟨kind, m⟩ x = ackRelease m (x.onHw (fun h => h.fadd F.HD_STALE_VAL 0 1)) := by
  have htook : x.onHw (tookFrom m.src m.txn) = x := by rw [Mach.onHw, tookFrom_accepted hun]
  unfold applyRelease
  dsimp only
  rw [htook, hdir]
  rfl

/-! ### The only holder of a line (R105, R106) -/

theorem ptrsOf_packPtrs_one {c : Nat} (hc : c < 128) : ptrsOf (packPtrs [c]) = [c] := by
  have hn : bits (packPtrs [c]) 0 2 = 1 := by simp [packPtrs, bits]
  have hp : bits (packPtrs [c]) 2 7 = c := by
    simp [packPtrs, bits]
    omega
  rw [ptrsOf, hn]
  simp [List.range_succ, hp]

/-- The entry records Cupola `s` and no other holder. -/
structure OnlyCup (s : Nat) (e : DirEnt) : Prop where
  fmt : e.fmt = false
  hold : e.hold = packPtrs [72 + s]
  cup : s < 8

theorem OnlyCup.holds {s : Nat} {e : DirEnt} (he : OnlyCup s e) : inHold e.fmt e.hold (72 + s) = true := by
  have := he.cup
  rw [inHold, he.fmt, he.hold, ptrsOf_packPtrs_one (by omega)]
  simp

theorem OnlyCup.rem {s : Nat} {e : DirEnt} (he : OnlyCup s e) : (e.rem (72 + s)).hold = 0 := by
  have := he.cup
  rw [DirEnt.rem, delHold, he.fmt, he.hold, ptrsOf_packPtrs_one (by omega)]
  simp [packPtrs]

section Holder

variable {m : Coh} {x : Mach} {e : DirEnt}

theorem applyRelease_wbDirty (hun : x.hw.hd.unacc = []) (hdir : x.hw.dirEnt (m.laddr % 2 ^ 37) = some e) (hcup : OnlyCup (m.src / 128) e)
    (hst : e.st = 2) :
    applyRelease ⟨0, m⟩ x = ackRelease m (freeLine (m.laddr % 2 ^ 37) (homeStore (m.laddr % 2 ^ 37) (m.data, m.poison) x)) := by
  have htook : x.onHw (tookFrom m.src m.txn) = x := by rw [Mach.onHw, tookFrom_accepted hun]
  unfold applyRelease
  dsimp only
  rw [htook, hdir]
  dsimp only
  rw [hcup.holds, hst]
  rfl

theorem applyRelease_wbClean (hun : x.hw.hd.unacc = []) (hdir : x.hw.dirEnt (m.laddr % 2 ^ 37) = some e) (hcup : OnlyCup (m.src / 128) e)
    (hst : e.st = 2) : applyRelease ⟨1, m⟩ x = ackRelease m (freeLine (m.laddr % 2 ^ 37) x) := by
  have htook : x.onHw (tookFrom m.src m.txn) = x := by rw [Mach.onHw, tookFrom_accepted hun]
  unfold applyRelease
  dsimp only
  rw [htook, hdir]
  dsimp only
  rw [hcup.holds, hst]
  rfl

/-- The last sharer's eviction leaves the line in I. -/
theorem applyRelease_evict (hun : x.hw.hd.unacc = []) (hdir : x.hw.dirEnt (m.laddr % 2 ^ 37) = some e) (hcup : OnlyCup (m.src / 128) e)
    (hst : e.st = 1) : applyRelease ⟨2, m⟩ x = ackRelease m (freeLine (m.laddr % 2 ^ 37) x) := by
  have htook : x.onHw (tookFrom m.src m.txn) = x := by rw [Mach.onHw, tookFrom_accepted hun]
  have hempty : (e.rem (72 + m.src / 128)).settleS.st = 0 := by
    rw [DirEnt.settleS, hcup.rem]
    rfl
  unfold applyRelease
  dsimp only
  rw [htook, hdir]
  dsimp only
  rw [hcup.holds, hst]
  simp only [hempty, Nat.reduceBEq, Bool.true_or, Bool.and_self, Bool.false_and, Bool.not_false, if_true]
  rfl

end Holder

/-! ### Lines freed -/

/-- A line freed and its release acknowledged: the directory lists it no more, and Dome's bytes and the store's place are kept. -/
structure Freed (la : Nat) (m : Coh) (a b : Mach) : Prop where
  dir : b.hw.dirEnt la = none
  hd : ∃ dir, b.hw.hd = { a.hw.hd with dir := dir }
  acked : Acked m.src m.txn b.hw
  bd : b.hw.bd = a.hw.bd
  dome : b.mem.dome = a.mem.dome
  first : b.hw.storeFirst = a.hw.storeFirst
  ext : b.hw.domeExt = a.hw.domeExt

theorem freed_ackRelease (m : Coh) (x : Mach) :
    Freed (m.laddr % 2 ^ 37) m x (ackRelease m (freeLine (m.laddr % 2 ^ 37) x)) := by
  generalize hla : m.laddr % 2 ^ 37 = la
  have hkept := writeHint_kept (lineOff la) false (x.onHw (fun h => h.freeDir la))
  rw [← freeLine] at hkept
  obtain ⟨regs, honly⟩ := hkept.only
  have hsent := sent_ackRelease m (freeLine la x)
  have hhd : (ackRelease m (freeLine la x)).hw.hd = (x.hw.freeDir la).hd := by
    rw [hsent.hd, honly]
    rfl
  refine ⟨?_, ⟨_, hhd⟩, acked_sendCoh _ _ _ _, ?_, hkept.dome, ?_, ?_⟩
  · rw [Hw.dirEnt, hhd]
    exact Hw.dirEnt_freeDir _ _
  · rw [hsent.bd, honly]
    rfl
  · exact (hsent.fields _ _ (by decide) (by decide)).trans hkept.first
  · exact (hsent.fields _ _ (by decide) (by decide)).trans hkept.ext

/-- A release's data, stored at once. -/
theorem homeStore_stored {la d : Nat} {x : Mach} (harea : x.hw.inDmArea 1 (lineOff la) = false) (hstore : x.hw.storeWord (lineOff la) = none)
    (hrev : x.hw.revIn (lineOff la) = []) (hprim : x.hw.chFailed (domeMap x.hw (lineOff la)).prim = false) :
    StoredLine (lineOff la) d x (homeStore la (d, false) x) := by
  rw [homeStore, harea, if_neg Bool.false_ne_true, if_neg (show ¬ (d, false).2 = true from Bool.false_ne_true), Mach.putLine]
  exact (writeDome_stored d _ hprim (by rw [lineOff_aligned]; exact hstore) hrev).2

/-- A WbDirty of the holder leaves its line in Dome, the rest of Dome's bytes as they were, and the line unlisted. -/
theorem wbDirty_frees {la : Nat} {m : Coh} {x : Mach} (hpois : m.poison = false) (harea : x.hw.inDmArea 1 (lineOff la) = false)
    (hstore : x.hw.storeWord (lineOff la) = none) (hrev : x.hw.revIn (lineOff la) = [])
    (hprim : x.hw.chFailed (domeMap x.hw (lineOff la)).prim = false) {b : Mach} (hb : Freed la m (homeStore la (m.data, m.poison) x) b) :
    (∃ dir, b.hw.hd = { x.hw.hd with dir := dir }) ∧ b.line (lineOff la) = m.data % 2 ^ 512 ∧
      ∀ a, a < lineOff la ∨ lineOff la + 64 ≤ a → Store.getD 0 b.mem.dome a = Store.getD 0 x.mem.dome a := by
  rw [hpois] at hb
  have hs := homeStore_stored (d := m.data) harea hstore hrev hprim
  generalize homeStore la (m.data, false) x = y at hb hs
  obtain ⟨hline, hstore', hrev'⟩ := hs.line hstore hrev
  have hal := lineOff_aligned la
  refine ⟨?_, ?_, fun a ha => ?_⟩
  · obtain ⟨regs, hy⟩ := hs.only
    obtain ⟨dir, hd⟩ := hb.hd
    exact ⟨dir, by rw [hd, hy]⟩
  · rw [line_congr hb.first hb.ext hb.bd hb.dome (by rw [hal]; exact hstore') hrev', hline]
  · rw [hb.dome, hs.dome, hal]
    exact getD_writeLE_outside 0 _ ha

/-! ### The requester's Ack (R145) -/

/-- The close of a granted request, the home's only record: its target is the line's entry. -/
theorem closeTxn_granted {k : Nat} {t : HTxn} {m : Mach} (htxns : m.hw.hd.txns = [(k, t)]) (hst : t.tgt.st ≠ 0) (hnone : t.next = none)
    (hnext : m.hw.hd.next = []) (hrel : m.hw.hd.rel = []) :
    closeTxn k t.tgt m = m.onHw (fun h => { h.closeTag .hd k with
      hd := { h.hd with txns := [], dir := Store.put h.hd.dir t.req.la { t.tgt with pin := false, txn := 0 } } }) := by
  have hget : Store.get? m.hw.hd.txns k = some t := by
    rw [htxns]
    exact get?_one k t
  have hdel : Store.del m.hw.hd.txns k = [] := by
    rw [htxns]
    simp [Store.del]
  have hempty : Store.setD [] ([] : SMap (List HRel)) (sliceOf t.req.la) [] = [] := rfl
  unfold closeTxn
  rw [hget]
  dsimp only
  rw [hnone, if_neg hst]
  simp only [Mach.onHw, Hw.relQ, Hw.setRel, Hw.setDir, Hw.closeTag_hd, hrel, hdel, hnext, Store.getD, Store.get?_nil, Option.getD_none,
    List.filter_nil, List.foldl_nil, List.append_nil, hempty]

theorem completionAck_closes {s : State} {m : Coh} {k : Nat} {t : HTxn} (hn : namesReserved m = false)
    (hlive : s.mach.hw.isDead m.src = false) (htxns : s.mach.hw.hd.txns = [(k, t)]) (hla : t.req.la = m.laddr % 2 ^ 37)
    (hp : t.phase = .gnt) (hagent : t.req.agent = m.src) (htag : t.req.tag = m.txn) (hst : t.tgt.st ≠ 0) (hnone : t.next = none)
    (hretry : s.mach.hw.hd.retry = []) (hrel : s.mach.hw.hd.rel = []) (hheld : s.mach.hw.hd.held = []) (hnext : s.mach.hw.hd.next = []) :
    Completes (.homeCompletionAck m) s (fun m' => m'.hw.hd.txns = [] ∧
      m'.hw.dirEnt (m.laddr % 2 ^ 37) = some { t.tgt with pin := false, txn := 0 } ∧ m'.hw.tagOpen .hd k = false ∧
      m'.hw.regs = s.mach.hw.regs ∧ m'.hw.out = s.mach.hw.out ∧ m'.mem = s.mach.mem) := by
  have htxn : s.mach.hw.txnOf (m.laddr % 2 ^ 37) = some (k, t) := by
    rw [Hw.txnOf, htxns]
    exact List.find?_cons_of_pos (beq_iff_eq.mpr hla)
  have hclose := closeTxn_granted htxns hst hnone hnext hrel
  have hsettle : settle (k / 64) (closeTxn k t.tgt s.mach) settleFuel = closeTxn k t.tgt s.mach := by
    rw [hclose]
    exact settle_idle _ rfl hnext hretry
  refine completes_onHome (completionAck_grants hn hlive htxn hp hagent htag) ?_ ?_
  · rw [hsettle, hclose]
    exact hheld
  · rw [hsettle, hclose, ← hla]
    exact ⟨rfl, Store.get?_put_same _ _ _, Hw.tagOpen_closeTag _ _ _, rfl, rfl, rfl⟩

/-! ### Fence (R130) -/

theorem fenceReceive_completes {s : State} {m : Coh} (tseq : Nat) (hn : namesReserved m = false) (hlive : s.mach.hw.isDead m.src = false) :
    Completes (.fenceReceive ⟨m, tseq⟩) s (fun m' =>
      m' = s.mach.onHw (fun h => { h with hd := { h.hd with fences := h.hd.fences ++ [(m.src, m.txn, tseq)] } })) := by
  refine completes_onHw (show exec (.fenceReceive ⟨m, tseq⟩) s = execFenceReceive ⟨m, tseq⟩ s from rfl) ?_
  simp only [Mach.onHw, hn, hlive, Bool.false_eq_true, if_false]

/-- A Fence whose condition holds is answered, and waits no more. -/
theorem fenceAckSend_met {s : State} {src txn : Nat} {f : Nat × Nat × Nat}
    (hf : s.mach.hw.hd.fences.find? (fun x => x.1 == src && x.2.1 == txn) = some f) (hmet : fenceMet s.mach.hw src f.2.2 = true) :
    Completes (.fenceAckSend src txn) s (fun m' =>
      m'.hw.hd = { s.mach.hw.hd with fences := removeFirst (· == f) s.mach.hw.hd.fences } ∧ Acked src txn m'.hw ∧ m'.mem = s.mach.mem) := by
  refine completes_onHw (show exec (.fenceAckSend src txn) s = execFenceAckSend src txn s from rfl) ?_
  simp only [Mach.onHw, hf, hmet, if_true]
  exact ⟨(sent_emitCoh _ _ _ _).hd, acked_sendCoh _ _ _ _, trivial⟩

theorem fenceAckSend_waits {s : State} {src txn : Nat} {f : Nat × Nat × Nat}
    (hf : s.mach.hw.hd.fences.find? (fun x => x.1 == src && x.2.1 == txn) = some f) (hmet : fenceMet s.mach.hw src f.2.2 = false) :
    Completes (.fenceAckSend src txn) s (fun m' => m' = s.mach) := by
  refine completes_onHw (show exec (.fenceAckSend src txn) s = execFenceAckSend src txn s from rfl) ?_
  simp only [Mach.onHw, hf, hmet, Bool.false_eq_true, if_false]

/-! ### O32 -/

theorem codeOf_cup {src : Nat} (hcup : src % 128 = 72) : codeOf src = 72 + src / 128 := if_pos hcup

/-- A stale release is counted and acknowledged, and leaves the home and the memories. -/
theorem staleRelease_completes {c : Instr} {s : State} {m : Coh} (hr : Releases m s.mach.hw)
    (hc : c ∈ ([.homeWbdirty m [], .homeWbclean m [], .homeEvict m []] : List Instr)) (hdir : s.mach.hw.dirEnt (m.laddr % 2 ^ 37) = none) :
    Completes c s (fun m' => m'.hw.fget F.HD_STALE_VAL 0 = min (s.mach.hw.fget F.HD_STALE_VAL 0 + 1) (2 ^ 32 - 1) ∧
      Acked m.src m.txn m'.hw ∧ m'.hw.hd = s.mach.hw.hd ∧ m'.mem = s.mach.mem) := by
  obtain ⟨kind, hexec⟩ : ∃ kind, exec c s = onHome (homeIn m [] (.rel kind m)) s := by
    simp only [List.mem_cons, List.not_mem_nil, or_false] at hc
    rcases hc with rfl | rfl | rfl <;> exact ⟨_, rfl⟩
  have happly := applyRelease_unlisted (m := m) hr.unacc hdir kind
  have hsent := sent_ackRelease m (s.mach.onHw (fun h => h.fadd F.HD_STALE_VAL 0 1))
  refine release_completes hr hexec ⟨s.mach.hw.hd.dir, ?_⟩ ?_
  · rw [happly]
    exact hsent.hd
  · rw [happly]
    refine ⟨?_, acked_sendCoh _ _ _ _, hsent.hd, rfl⟩
    rw [hsent.fields _ _ (by decide) (by decide)]
    exact (Hw.fget_fadd_same _ _ _ _)

/-- Settles O32: each release at the idle home is `applyRelease` at once (`release_completes`), which is stale (`applyRelease_unlisted`) or
frees the line of its only holder (`freed_ackRelease`); the requester's Ack and a Fence have their own lemmas. -/
theorem homeReleasesComplete : Obligations.HomeReleasesComplete := by
  unfold Obligations.HomeReleasesComplete
  intro s m k port tid addr src txn tseq t e f h la acked
  refine ⟨fun hn hlive => ⟨fun hidle => ⟨fun c hc hdir => staleRelease_completes ⟨hn, hlive, hidle⟩ hc hdir,
      fun hdir hfmt hcup hsrc hhold => ?_⟩,
      fun htxns hla hp hagent htag hst hnone hretry hrel hheld hnext =>
        completionAck_closes hn hlive htxns hla hp hagent htag hst hnone hretry hrel hheld hnext,
      fenceReceive_completes tseq hn hlive⟩,
    fun hf => ⟨fenceAckSend_met hf, fenceAckSend_waits hf⟩, completes_onHw rfl rfl⟩
  have hr : Releases m s.mach.hw := ⟨hn, hlive, hidle⟩
  have honly : OnlyCup (m.src / 128) e := ⟨hfmt, by rw [hhold, codeOf_cup hcup], by omega⟩
  refine ⟨fun hst hpois harea hstore hrev hprim => ?_, fun hst => ?_, fun hst => ?_⟩
  · have hfreed := freed_ackRelease m (homeStore la (m.data, m.poison) s.mach)
    rw [← applyRelease_wbDirty hr.unacc hdir honly hst] at hfreed
    obtain ⟨hhd, hline, hrest⟩ := wbDirty_frees hpois harea hstore hrev hprim hfreed
    exact release_completes hr rfl hhd ⟨hfreed.dir, hline, hfreed.acked, hrest⟩
  · have hfreed := freed_ackRelease m s.mach
    rw [← applyRelease_wbClean hr.unacc hdir honly hst] at hfreed
    exact release_completes hr rfl hfreed.hd ⟨hfreed.dir, hfreed.acked, hfreed.dome⟩
  · have hfreed := freed_ackRelease m s.mach
    rw [← applyRelease_evict hr.unacc hdir honly hst] at hfreed
    exact release_completes hr rfl hfreed.hd ⟨hfreed.dir, hfreed.acked, hfreed.dome⟩

end Sys2Proof.Machine

namespace Sys2Proof.Machine

/-! ### O31: a host's write of a tenant out of range

A write of a tenant that becomes visible lowers its drain count (R67, R69). O31 does not bound the number of the tenant whose full write it
stores, so it also speaks of one whose count has another register's place, and stores a line where that register moves the store. -/

/-- A tenant's number out of range, at which BD_TDRAIN_OUT has the place of DD_TTSFIRST in the register file. -/
def strayWriter : Nat := (435 - 310) * 65536

/-- Dome has one extent and DD_TTSFIRST is 1, so that the store is empty; a write of the stray tenant is still to become visible. -/
def strayWrite : State :=
  ⟨[], { mem := Mem.reset,
         hw := { Hw.reset with
                   regs := [(fkey F.DD_DOMEEXT_VAL 0, 1), (fkey F.DD_TTSFIRST_VAL 0, 1)],
                   bd := { Hw.reset.bd with writes := [⟨strayWriter, 0, false, false, .cmp, 0, false⟩] } } }⟩

/-- The stray tenant's message. -/
def strayMsg : Msg := { ing := 0, cls := .memReqD, tid := some strayWriter }

/-- What the line at Dome offset `o` holds after an outcome. -/
def lineAfter (o : Nat) : Out → Option Nat
  | .next s => some (s.mach.line o)
  | .fault _ | .refused _ => none

/-- DD_TTSFIRST has gone to 0, and line 0 reads as the store's first allocation records, of which the first is RESERVED. -/
theorem lineAfter_strayWrite :
    lineAfter 0 (exec (.homeHostRequest strayMsg .wrAny 0 0 (2 ^ 64 - 1) []) strayWrite) = some (2 ^ 17) := by
  decide +kernel

theorem homeIdle_reset : Hw.reset.homeIdle := by
  unfold Hw.homeIdle
  decide

/-- Refutes O31: the full write of zeros in `strayWrite` meets every hypothesis of its clause, and its line reads otherwise after
(`lineAfter_strayWrite`). -/
theorem not_homeRequestsComplete : ¬ Obligations.HomeRequestsComplete := by
  unfold Obligations.HomeRequestsComplete
  intro h
  obtain ⟨-, hhost⟩ := h strayWrite ⟨false, false, false, 0, 0, 0, 0, 0, 0, 0⟩ strayMsg strayWriter 0 0 0 (DirEnt.fresh 0 0)
    homeIdle_reset (by decide)
  obtain ⟨-, hwrite⟩ := hhost (by decide) (by decide) rfl rfl (by decide)
  obtain ⟨t, hexec, -, -, hline, -⟩ := hwrite (by decide) (by decide) (by decide) (by decide)
  simp only [Nat.zero_mod] at hline
  have hread : some (2 ^ 17) = some 0 := by
    rw [← lineAfter_strayWrite, hexec]
    exact congrArg some hline
  simp at hread

end Sys2Proof.Machine

/-! PROOFS. Obligations O34, O36 and O37: the Cupola's lines, the reclaim walk, and the failure, takeover and rebuild of a directory slice. -/
namespace Sys2Proof.Machine

/-! ### Frames on register fields -/

theorem FieldsKept.refl (ks : List (Fld × Nat)) (a : Mach) : FieldsKept ks a a := fun _ _ _ => rfl

/-- Writing a listed field keeps the frame. -/
theorem FieldsKept.fset {ks : List (Fld × Nat)} {a b : Mach} (h : FieldsKept ks a b) {f : Fld} {i : Nat} (hm : (f, i) ∈ ks) (v : Nat) :
    FieldsKept ks a (b.onHw (fun x => x.fset f i v)) :=
  fun g j hk => (Hw.fget_fset_ne _ _ (hk _ hm)).trans (h g j hk)

/-- The frame speaks of the register file alone. -/
theorem FieldsKept.congr {ks : List (Fld × Nat)} {a b c : Mach} (h : FieldsKept ks a b) (hc : c.hw.regs = b.hw.regs) :
    FieldsKept ks a c := fun g j hk => (Hw.fget_congr hc g j).trans (h g j hk)

theorem Hw.flag_fset_same (h : Hw) {f : Fld} (hf : f.width = 1) (i v : Nat) : (h.fset f i v).flag f i = (v % 2 == 1) := by
  rw [Hw.flag, Hw.fget_fset_same, hf, Nat.pow_one]

/-! ### A fault message raised into a queue with room (R453) -/

theorem Hw.hd_raise (h : Hw) (f : FaultSrc) : (h.raise f).hd = h.hd := by
  obtain ⟨_, _, hr, -⟩ := Hw.raise_frame h f
  rw [hr]

theorem Hw.regs_raise {h : Hw} {f : FaultSrc} {p : Nat} (hp : bits f.code 8 4 = p) (hq : (h.queue p).length < 8) :
    (h.raise f).regs = h.regs := by
  rw [raise_room (by rw [hp]; exact hq)]
  rfl

theorem Hw.queue_congr {a b : Hw} (h : a.fc = b.fc) (p : Nat) : a.queue p = b.queue p := by
  rw [Hw.queue, h, Hw.queue]

/-- The queue of the message's block gains it; `a` is the state before, `b` the one after. -/
theorem gained_raise {p : Nat} {f : FaultSrc} {h : Hw} {a b : Mach} (hp : bits f.code 8 4 = p) (hroom : (a.hw.queue p).length < 8)
    (ha : h.fc = a.hw.fc) (hb : b.hw.fc = (h.raise f).fc) : Gained p f.code f.dom f.dinst a b := by
  rw [← Hw.queue_congr ha, ← hp] at hroom
  obtain ⟨x, hx, hcode, hdom, hinst, -⟩ := Hw.queue_raise h f hroom
  refine ⟨x, ?_, hcode, hdom, hinst⟩
  rw [Hw.queue_congr hb, ← Hw.queue_congr ha, ← hp, hx]

/-! ### The reclaim walk (R155 to R158) -/

theorem reclaimWalkStart_completes {s : State} (hbusy : s.mach.hw.flag F.HD_RCLSTAT_BUSY 0 = false)
    (hdead : s.mach.hw.hd.dead.any (fun x => !x.done) = true) :
    Completes .reclaimWalkStart s (fun m => m = s.mach.onHw walkStart) := by
  refine completes_onHw (show exec .reclaimWalkStart s = execReclaimWalkStart s from rfl) ?_
  rw [Mach.onHw, Mach.onHw, hbusy, hdead]
  rfl

/-- The registers that a walk's start writes. -/
def walkStartKeys : List (Fld × Nat) := [(F.HD_RCLSTAT_BUSY, 0), (F.HD_RCLSTAT_PEND, 0), (F.HD_RCLSTAT_SET, 0)]

theorem fget_walkStart (h : Hw) : (walkStart h).fget F.HD_RCLSTAT_BUSY 0 = 1 ∧ (walkStart h).fget F.HD_RCLSTAT_PEND 0 = 0 ∧
    (walkStart h).fget F.HD_RCLSTAT_SET 0 = 0 := by
  simp (disch := decide) only [walkStart, Hw.fget_fset_ne, Hw.fget_fset_same]
  exact ⟨rfl, rfl, rfl⟩

theorem fieldsKept_walkStart (m : Mach) : FieldsKept walkStartKeys m (m.onHw walkStart) := by
  intro g j hk
  simp only [walkStartKeys, List.forall_mem_cons] at hk
  obtain ⟨hbusy, hpend, hset, -⟩ := hk
  rw [Mach.onHw_hw, walkStart, Hw.fget_fset_ne _ _ hset, Hw.fget_fset_ne _ _ hpend, Hw.fget_fset_ne _ _ hbusy]
  exact Hw.fget_congr rfl g j

/-- The walk passes a set without entries to its end. -/
theorem walkWays_empty {l set : Nat} {m : Mach} (hset : m.hw.setEnts l set = []) (n w : Nat) : walkWays l set w m n = (16, m) := by
  induction n generalizing w with
  | zero => rfl
  | succ n ih =>
    rw [walkWays, hset]
    exact ih (w + 1)

/-- The walk of slice `l` comes to stand at `pos`; HD_RCLSTAT.SET shows the lowest set of the sixteen walks. -/
def walkAt (l pos : Nat) (h : Hw) : Hw :=
  let w := Store.put h.hd.walk l pos
  ({ h with hd := { h.hd with walk := w } }).fset F.HD_RCLSTAT_SET 0
    ((List.range 16).foldl (fun x l => min x (Store.getD 0 w l / 16)) 16383)

theorem hd_walkAt_held (l pos : Nat) (h : Hw) : (walkAt l pos h).hd.held = h.hd.held := rfl

theorem hd_walkAt_dir (l pos : Nat) (h : Hw) : (walkAt l pos h).hd.dir = h.hd.dir := rfl

theorem walk_walkAt (l pos : Nat) (h : Hw) : Store.getD 0 (walkAt l pos h).hd.walk l = pos := Store.getD_put_same _ _ _ _

theorem fieldsKept_walkAt (l pos : Nat) (m : Mach) : FieldsKept [(F.HD_RCLSTAT_SET, 0)] m (m.onHw (walkAt l pos)) := by
  intro g j hk
  rw [Mach.onHw_hw, walkAt, Hw.fget_fset_ne _ _ (hk _ List.mem_cons_self)]
  exact Hw.fget_congr rfl g j

theorem reclaimSetStep_empty {s : State} {l pos : Nat} (hbusy : s.mach.hw.flag F.HD_RCLSTAT_BUSY 0 = true)
    (hheld : s.mach.hw.hd.held = []) (hl : l < 16) (hat : Store.getD 0 s.mach.hw.hd.walk l = pos) (hpos : pos < 16384 * 16)
    (hset : s.mach.hw.setEnts l (pos / 16) = []) :
    Completes (.reclaimSetStep l) s (fun m => m = s.mach.onHw (walkAt l (pos / 16 * 16 + 16))) := by
  have hc : (s.mach.hw.flag F.HD_RCLSTAT_BUSY 0 && decide (l < 16 ∧ pos < 16384 * 16)) = true := by
    rw [hbusy, Bool.true_and, decide_eq_true_eq]
    exact ⟨hl, hpos⟩
  refine completes_onHome (show exec (.reclaimSetStep l) s = execReclaimSetStep l s from rfl) ?_ ?_
  · rw [hat, if_pos hc, walkWays_empty hset]
    exact (hd_walkAt_held _ _ _).trans hheld
  · rw [hat, if_pos hc, walkWays_empty hset]
    rfl

/-- The RECLAIM message of a dead agent (R157). -/
def reclaimMsg (d : DeadRec) : FaultSrc :=
  let port := decide (d.agent % 128 < 72)
  { code := 0x3A02, dom := if port then domPort else domSpire, dinst := if port then d.agent % 128 else 4 + d.agent / 128,
    addr := d.pois, unit := 0, atype := 4 }

theorem reclaimMsg_queue (d : DeadRec) : bits (reclaimMsg d).code 8 4 = 10 := by
  change bits 0x3A02 8 4 = 10
  decide

/-- Every agent that the walk handled is reported, and its record is done; no walk runs. -/
def walkClosed (h : Hw) : Hw :=
  let done := h.hd.dead.filter (fun d => d.walking)
  let h1 := done.foldl (fun h d => h.raise (reclaimMsg d)) h
  let ds := h1.hd.dead.map (fun d => if d.walking then { d with walking := false, done := true } else d)
  let gone := done.map (fun d => d.agent)
  let fl := h1.bd.flush.filter (fun (x : Nat × Nat × Nat × Nat) => !gone.contains (h1.agentOf x.1))
  ({ h1 with hd := { h1.hd with dead := ds }, bd := { h1.bd with flush := fl } }).fset F.HD_RCLSTAT_BUSY 0 0

theorem exec_reclaimWalkEnd (s : State) : exec .reclaimWalkEnd s = onHw (fun h =>
    if h.flag F.HD_RCLSTAT_BUSY 0 && (List.range 16).all (fun l => decide (16384 * 16 ≤ Store.getD 0 h.hd.walk l)) then
      if (walkClosed h).flag F.HD_RCLSTAT_PEND 0 then walkStart (walkClosed h) else walkClosed h
    else h) s := rfl

/-- The end of a walk over the one dead agent `d`. -/
theorem walkClosed_one {d : DeadRec} {m : Mach} (hdead : m.hw.hd.dead = [d]) (hwalk : d.walking = true)
    (hroom : (m.hw.queue 10).length < 8) :
    (walkClosed m.hw).hd.dead = [{ d with walking := false, done := true }] ∧
    Gained 10 0x3A02 (reclaimMsg d).dom (reclaimMsg d).dinst m (m.onHw walkClosed) ∧
    FieldsKept [(F.HD_RCLSTAT_BUSY, 0)] m (m.onHw walkClosed) := by
  have hdone : m.hw.hd.dead.filter (fun d => d.walking) = [d] := by
    rw [hdead, List.filter_cons_of_pos hwalk, List.filter_nil]
  have hregs := Hw.regs_raise (reclaimMsg_queue d) hroom
  have hds : (m.hw.raise (reclaimMsg d)).hd.dead.map (fun d => if d.walking then { d with walking := false, done := true } else d) =
      [{ d with walking := false, done := true }] := by
    rw [Hw.hd_raise, hdead, List.map_singleton, if_pos hwalk]
  rw [Mach.onHw, walkClosed, hdone, List.foldl_cons, List.foldl_nil]
  refine ⟨hds, gained_raise (reclaimMsg_queue d) hroom rfl rfl, fun g j hk => ?_⟩
  exact (Hw.fget_fset_ne _ _ (hk _ List.mem_cons_self)).trans (Hw.fget_congr hregs g j)

theorem reclaimWalkEnd_completes {s : State} (hbusy : s.mach.hw.flag F.HD_RCLSTAT_BUSY 0 = true)
    (hall : (List.range 16).all (fun l => decide (16384 * 16 ≤ Store.getD 0 s.mach.hw.hd.walk l)) = true)
    (hpend : (walkClosed s.mach.hw).flag F.HD_RCLSTAT_PEND 0 = false) :
    Completes .reclaimWalkEnd s (fun m => m = s.mach.onHw walkClosed) := by
  refine completes_onHw (exec_reclaimWalkEnd s) ?_
  rw [Mach.onHw, Mach.onHw, hbusy, hall, Bool.and_self, if_pos rfl, hpend, if_neg Bool.false_ne_true]

/-! ### A dead agent that is back (R161) -/

theorem bitAt_eq_testBit (n i : Nat) : bitAt n i = n.testBit i := by
  rw [bitAt, Nat.testBit_eq_decide_div_mod_eq]
  rfl

theorem bitAt_putBits_zero (n i : Nat) : bitAt (putBits n i 1 0) i = false := by
  have h := bits_putBits_same n i 1 0
  rw [bits] at h
  rw [bitAt, show putBits n i 1 0 / 2 ^ i % 2 = 0 from h]
  rfl

/-- HD_DEAD's bit of an agent reads 0 after it is cleared. -/
theorem isDead_cleared (h : Hw) (a : Nat) : (h.setDeadBit a 0).isDead a = false := by
  rw [Hw.isDead, Hw.setDeadBit, Hw.fget_fset_same, bitAt_eq_testBit, show F.HD_DEAD_VAL.width = 32 from rfl, Nat.testBit_mod_two_pow,
    ← bitAt_eq_testBit, bitAt_putBits_zero, Bool.and_false]

/-- The last dead agent is dead no longer. -/
def deadCleared (a : Nat) (h : Hw) : Hw := ({ h with hd := { h.hd with dead := [] } }).setDeadBit a 0

theorem fieldsKept_deadCleared (a : Nat) (m : Mach) : FieldsKept [(F.HD_DEAD_VAL, a / 32)] m (m.onHw (deadCleared a)) := by
  intro g j hk
  rw [Mach.onHw_hw, deadCleared, Hw.setDeadBit, Hw.fget_fset_ne _ _ (hk _ List.mem_cons_self)]
  exact Hw.fget_congr rfl g j

theorem deadClear_completes {s : State} {a : Nat} {d : DeadRec} (hdead : s.mach.hw.hd.dead = [d]) (hagent : d.agent = a)
    (hdone : d.done = true) (htids : d.tids = []) (hport : a % 128 < 72) (hup : s.mach.hw.flag F.FP_LSTAT_UP (a % 128) = true) :
    Completes (.hdDeadClear a) s (fun m => m = s.mach.onHw (deadCleared a)) := by
  subst hagent
  refine completes_onHw (show exec (.hdDeadClear d.agent) s = execHdDeadClear d.agent s from rfl) ?_
  have hfind : [d].find? (fun x => x.agent == d.agent) = some d := List.find?_cons_of_pos (beq_self_eq_true _)
  have hgone : [d].filter (fun x => x.agent != d.agent) = [] := List.filter_cons_of_neg (by simp)
  rw [Mach.onHw, Mach.onHw, hdead, hfind]
  dsimp only
  rw [if_neg (Nat.ne_of_lt hport), hup, htids, hdone, hgone]
  rfl

/-- Settles O36: each move of the walk and the dead agent's return by its own lemma. -/
theorem reclaimCompletes : Obligations.ReclaimCompletes := by
  unfold Obligations.ReclaimCompletes
  intro s l a d h pos
  refine ⟨fun hbusy hdead => ?_, fun hbusy hheld hl hpos hset => ?_, fun hbusy hpend hall hdead hwalk hroom hpeer => ?_,
    fun hdead hagent hdone htids hport ha hup => ?_⟩
  · obtain ⟨t, hexec, hq, ht⟩ := reclaimWalkStart_completes hbusy hdead
    refine ⟨t, hexec, hq, ?_⟩
    rw [ht]
    obtain ⟨hb, hp, hs⟩ := fget_walkStart s.mach.hw
    exact ⟨beq_iff_eq.mpr hb, beq_eq_false_iff_ne.mpr (by rw [Mach.onHw_hw, hp]; decide), hs, rfl, rfl, fieldsKept_walkStart s.mach, rfl⟩
  · obtain ⟨t, hexec, hq, ht⟩ := reclaimSetStep_empty hbusy hheld hl rfl hpos hset
    refine ⟨t, hexec, hq, ?_⟩
    rw [ht]
    exact ⟨walk_walkAt _ _ _, hd_walkAt_dir _ _ _, fieldsKept_walkAt _ _ _, Mach.onHw_mem _ _⟩
  · obtain ⟨hds, hgained, hkept⟩ := walkClosed_one hdead hwalk hroom
    have hnone : (walkClosed h).flag F.HD_RCLSTAT_PEND 0 = false := by
      rw [Hw.flag, ← Mach.onHw_hw walkClosed s.mach, hkept _ _ (by decide)]
      exact hpend
    obtain ⟨t, hexec, hq, ht⟩ := reclaimWalkEnd_completes hbusy hall hnone
    have hdom : (reclaimMsg d).dom = 4 ∧ (reclaimMsg d).dinst = 4 + d.agent / 128 := by
      rw [reclaimMsg, hpeer]
      exact ⟨rfl, rfl⟩
    rw [hdom.1, hdom.2] at hgained
    refine ⟨t, hexec, hq, ?_⟩
    rw [ht]
    exact ⟨Hw.flag_fset_same _ rfl _ _, hds, hgained, hkept, rfl⟩
  · obtain ⟨t, hexec, hq, ht⟩ := deadClear_completes hdead hagent hdone htids hport hup
    refine ⟨t, hexec, hq, ?_⟩
    rw [ht]
    exact ⟨isDead_cleared _ a, rfl, fieldsKept_deadCleared a s.mach, rfl⟩

end Sys2Proof.Machine

namespace Sys2Proof.Machine

/-! ### A slice fails (R162, R169, R173) -/

theorem exec_sliceFailure (p : Nat) (s : State) : exec (.sliceFailure p) s = onHw (sliceFail p) s := rfl

/-- With the spare at hand a failed slice awaits its takeover (R162, R166). -/
theorem sliceFail_awaits {p : Nat} {h : Hw} (hspare : h.fget F.HD_SLSTAT_ROLE 16 = 1) (hfail : h.hd.failing = []) (hp : p < 16)
    (hrole : h.fget F.HD_SLSTAT_ROLE p ≠ 3) : sliceFail p h = sliceLost p h := by
  have hnone : ¬ (16 < p ∨ h.fget F.HD_SLSTAT_ROLE p = 3 ∨ h.hd.failing.contains p = true) := by
    rw [hfail]
    simp only [List.contains_nil, Bool.false_eq_true, or_false]
    omega
  unfold sliceFail
  dsimp only
  rw [if_neg (by omega), if_neg hnone, if_pos ⟨hspare, hfail⟩]

/-- The report of the spare's failure (R169). -/
def spareMsg : FaultSrc := { code := 0x1A06, dom := domSlice, dinst := 16, unit := 16, held := 1 }

/-- The spare slice has failed: no slice awaits it any more. -/
def spareLost (h : Hw) : Hw :=
  let h1 := (h.fset F.HD_SLSTAT_ROLE 16 3).raise spareMsg
  { h1 with hd := { h1.hd with failing := [] } }

theorem sliceFail_spare {h : Hw} (hspare : h.fget F.HD_SLSTAT_ROLE 16 = 1) :
    sliceFail 16 h = h.hd.failing.foldl (fun h l => sliceFatal l h) (spareLost h) := by
  unfold sliceFail
  dsimp only
  rw [if_pos ⟨rfl, hspare⟩]
  rfl

theorem hd_spareLost (h : Hw) : (spareLost h).hd = { h.hd with failing := [] } := by
  rw [spareLost, Hw.hd_raise]
  rfl

theorem fget_role_raise (h : Hw) (f : FaultSrc) {p : Nat} (hp : p < 65536) :
    (h.raise f).fget F.HD_SLSTAT_ROLE p = h.fget F.HD_SLSTAT_ROLE p :=
  Hw.fget_raise h f (fkey_ne (by decide) (by decide) hp) (fkey_ne (by decide) (by decide) hp)

theorem role_spareLost (h : Hw) : (spareLost h).fget F.HD_SLSTAT_ROLE 16 = 3 := by
  have hrole : (spareLost h).fget F.HD_SLSTAT_ROLE 16 = ((h.fset F.HD_SLSTAT_ROLE 16 3).raise spareMsg).fget F.HD_SLSTAT_ROLE 16 := rfl
  rw [hrole, fget_role_raise _ _ (by decide), Hw.fget_fset_same]
  rfl

theorem gained_spareLost {m : Mach} (hroom : (m.hw.queue 10).length < 8) : Gained 10 0x1A06 5 16 m (m.onHw spareLost) :=
  gained_raise (f := spareMsg) (h := m.hw.fset F.HD_SLSTAT_ROLE 16 3) (by decide) hroom rfl rfl

/-- The report of a slice that is lost for good (R169). -/
def fatalMsg (p : Nat) (h : Hw) : FaultSrc :=
  { code := 0x4A05, dom := domDevice, dinst := 0, addr := h.fget F.HD_SLSTAT_LSLICE p, unit := p }

theorem fatalMsg_queue (p : Nat) (h : Hw) : bits (fatalMsg p h).code 8 4 = 10 := by
  change bits 0x4A05 8 4 = 10
  decide

theorem sliceFatal_eq (p : Nat) (h : Hw) : sliceFatal p h = (h.fset F.HD_SLSTAT_ROLE p 3).raise (fatalMsg p h) := rfl

/-- A slice that is lost for good is FAILED and reported, and the home is left as it was. -/
theorem sliceFatal_effect {l : Nat} {m : Mach} (hl : l < 16) (hroom : (m.hw.queue 10).length < 8) :
    (sliceFatal l m.hw).fget F.HD_SLSTAT_ROLE l = 3 ∧
    (sliceFatal l m.hw).fget F.HD_SLSTAT_ROLE 16 = m.hw.fget F.HD_SLSTAT_ROLE 16 ∧ (sliceFatal l m.hw).hd = m.hw.hd ∧
    Gained 10 0x4A05 domDevice 0 m (m.onHw (sliceFatal l)) := by
  refine ⟨?_, ?_, ?_, gained_raise (h := m.hw.fset F.HD_SLSTAT_ROLE l 3) (fatalMsg_queue l m.hw) hroom rfl rfl⟩
  · rw [sliceFatal_eq, fget_role_raise _ _ (by omega), Hw.fget_fset_same]
    rfl
  · rw [sliceFatal_eq, fget_role_raise _ _ (by decide), Hw.fget_fset_inst _ _ (by omega)]
  · rw [sliceFatal_eq, Hw.hd_raise]
    rfl

/-! ### GO (R173) -/

theorem writeReg_HD_RBCTRL (w : Nat) (h : Hw) :
    writeReg R.HD_RBCTRL 0 w h = writeField 0 w (writeField 0 w h F.HD_RBCTRL_BW) F.HD_RBCTRL_LSLICE := rfl

/-- A write of HD_RBCTRL stores BW and LSLICE; GO, which starts the takeover, reads back as before. -/
theorem fieldsKept_write_HD_RBCTRL (w : Nat) (m : Mach) :
    FieldsKept [(F.HD_RBCTRL_BW, 0), (F.HD_RBCTRL_LSLICE, 0)] m (m.onHw (writeReg R.HD_RBCTRL 0 w)) := by
  intro g j hk
  simp only [List.forall_mem_cons] at hk
  obtain ⟨hbw, hslice, -⟩ := hk
  rw [Mach.onHw_hw, writeReg_HD_RBCTRL, fget_writeField_ne _ _ hslice, fget_writeField_ne _ _ hbw]

theorem fget_write_HD_RBCTRL_LSLICE (w : Nat) (h : Hw) :
    (writeReg R.HD_RBCTRL 0 w h).fget F.HD_RBCTRL_LSLICE 0 = bits w 8 4 := by
  rw [fget_writeReg_rw 0 w h (by decide) (by decide) rfl]
  rfl

theorem hd_writeReg (r : Reg) (i w : Nat) (h : Hw) : (writeReg r i w h).hd = h.hd := by
  obtain ⟨x, hx⟩ := writeReg_regs r i w h
  rw [hx]

theorem rbctrlWrite_go {w : Nat} {h : Hw} (hgo : bitAt w 31 = true) (hspare : h.fget F.HD_SLSTAT_ROLE 16 = 1)
    (hfail : h.hd.failing = []) :
    rbctrlWrite .turret w h = sliceLost (bits w 8 4) (writeReg R.HD_RBCTRL 0 w h) := by
  have hrole : (writeReg R.HD_RBCTRL 0 w h).fget F.HD_SLSTAT_ROLE 16 = 1 := by
    rw [fget_writeReg_ne h (by decide), hspare]
  have hw : fldOf F.HD_RBCTRL_GO w = 1 := beq_iff_eq.mp hgo
  unfold rbctrlWrite
  dsimp only
  rw [if_pos ⟨hw, rfl, hrole, by rw [hd_writeReg, hfail]⟩, fget_write_HD_RBCTRL_LSLICE]

/-! ### The takeover (R163, R164) -/

theorem setRetry_nil {h : Hw} (hretry : h.hd.retry = []) (l : Nat) : h.setRetry l [] = h := by
  have hnil : Store.setD [] ([] : SMap (List (Bool × HReq))) l [] = [] := rfl
  rw [Hw.setRetry, hretry, hnil, ← hretry]

/-- The report of a takeover. -/
def takeoverMsg (l : Nat) : FaultSrc := { code := 0x2A03, dom := domSlice, dinst := l, addr := l, unit := l, held := 1 }

theorem takeoverMsg_queue (l : Nat) : bits (takeoverMsg l).code 8 4 = 10 := by
  change bits 0x2A03 8 4 = 10
  decide

/-- The slices' roles and HD_RBSTAT as DS16 takes logical slice `l` over. -/
def rolesTaken (l : Nat) (h : Hw) : Hw :=
  ((((((h.fset F.HD_SLSTAT_ROLE l 3).fset F.HD_SLSTAT_ROLE 16 2).fset F.HD_SLSTAT_LSLICE 16 l).fset F.HD_RBSTAT_BUSY 0 1).fset
    F.HD_RBSTAT_LSLICE 0 l).fset F.HD_RBSTAT_DOUBLE 0 0).fset F.HD_RBSTAT_EXT 0 0

/-- Logical slice `l` is served with an empty directory, and its walk stands at the start of Dome. -/
def sliceTaken (l : Nat) (h : Hw) : Hw :=
  { rolesTaken l h with hd := { h.hd with
    dir := Store.dropWhere h.hd.dir (fun la => sliceOf la == l), failing := [], rbPos := 0 } }

/-- DS16 has taken over logical slice `l`, in which no request waits. -/
def takenOver (l : Nat) (h : Hw) : Hw := (sliceTaken l h).raise (takeoverMsg l)

theorem hd_takenOver (l : Nat) (h : Hw) : (takenOver l h).hd =
    { h.hd with dir := Store.dropWhere h.hd.dir (fun la => sliceOf la == l), failing := [], rbPos := 0 } := by
  rw [takenOver, Hw.hd_raise, sliceTaken]

theorem takeover_idle {l : Nat} {m : Mach} (htxns : m.hw.hd.txns = []) (hretry : m.hw.hd.retry = []) (hnext : m.hw.hd.next = []) :
    takeover l m = m.onHw (takenOver l) := by
  have hq : m.hw.retryQ l = [] := by
    rw [Hw.retryQ, hretry]
    rfl
  unfold takeover
  dsimp only
  rw [hq, List.filter_nil, List.filter_nil, List.foldl_nil, setRetry_nil hretry]
  refine settle_idle (m := m.onHw (takenOver l)) _ ?_ ?_ ?_
  all_goals rw [Mach.onHw_hw, hd_takenOver]; assumption

theorem fget_rolesTaken {l : Nat} (hl : l < 16) (h : Hw) :
    (rolesTaken l h).fget F.HD_SLSTAT_ROLE l = 3 ∧ (rolesTaken l h).fget F.HD_SLSTAT_ROLE 16 = 2 ∧
    (rolesTaken l h).fget F.HD_SLSTAT_LSLICE 16 = l ∧ (rolesTaken l h).fget F.HD_RBSTAT_BUSY 0 = 1 := by
  have hmod : l % 2 ^ F.HD_SLSTAT_LSLICE.width = l := Nat.mod_eq_of_lt hl
  simp (disch := simp only [fkey, F.HD_SLSTAT_ROLE, F.HD_SLSTAT_LSLICE, F.HD_RBSTAT_BUSY, F.HD_RBSTAT_LSLICE, F.HD_RBSTAT_DOUBLE,
    F.HD_RBSTAT_EXT]; omega) only [rolesTaken, Hw.fget_fset_ne, Hw.fget_fset_same, hmod]
  exact ⟨rfl, rfl, trivial, rfl⟩

theorem fget_takenOver {l : Nat} {h : Hw} (hroom : (h.queue 10).length < 8) (f : Fld) (i : Nat) :
    (takenOver l h).fget f i = (rolesTaken l h).fget f i := by
  have hregs : (takenOver l h).regs = (sliceTaken l h).regs := Hw.regs_raise (takeoverMsg_queue l) hroom
  exact Hw.fget_congr hregs f i

theorem gained_takenOver (l : Nat) {m : Mach} (hroom : (m.hw.queue 10).length < 8) :
    Gained 10 0x2A03 5 l m (m.onHw (takenOver l)) :=
  gained_raise (h := sliceTaken l m.hw) (takeoverMsg_queue l) hroom rfl rfl

theorem get?_dropWhere_kept {α : Type} {m : SMap α} {p : Nat → Bool} {k : Nat} (hk : p k = false) :
    Store.get? (Store.dropWhere m p) k = Store.get? m k := by
  induction m with
  | nil => rfl
  | cons x m ih =>
    rw [Store.dropWhere, List.filter_cons, Store.get?]
    split
    · rw [Store.get?]
      split
      · rfl
      · exact ih
    · next hx =>
      have hne : x.1 ≠ k := by
        rintro rfl
        rw [hk] at hx
        exact hx rfl
      rw [if_neg hne]
      exact ih

/-- The directory of the slice taken over is empty, that of the others as it was (R164). -/
theorem dirEnt_takenOver (l : Nat) (h : Hw) (a : Nat) :
    (takenOver l h).dirEnt a = if sliceOf a = l then none else h.dirEnt a := by
  rw [Hw.dirEnt, hd_takenOver]
  dsimp only
  split
  · next ha => exact get?_dropWhere (beq_iff_eq.mpr ha)
  · next ha => exact get?_dropWhere_kept (beq_eq_false_iff_ne.mpr ha)

end Sys2Proof.Machine

namespace Sys2Proof.Machine

/-! ### The broadcast of a line's rebuild (R165, R166) -/

/-- A fold that sends at each step sends. -/
theorem Sent.foldl {α β : Type} (f : β × Hw → α → β × Hw) (hf : ∀ s x, Sent s.2 (f s x).2) (l : List α) (s : β × Hw) :
    Sent s.2 (l.foldl f s).2 := by
  induction l generalizing s with
  | nil => exact Sent.refl _
  | cons x l ih => exact (hf s x).trans (ih (f s x))

theorem sent_sendBis (g off k : Nat) (nb : Nat → Nat) (ports : List Nat) (h : Hw) : Sent h (sendBis g off k nb ports h).2 :=
  Sent.foldl _ (fun _ _ => Sent.foldl _ (fun _ _ => sent_emit _ _) _ _) ports ([], h)

theorem sent_homeBis (la k : Nat) (ports : List Nat) (h : Hw) : Sent h (homeBis la k ports h).2 := sent_sendBis _ _ _ _ _ _

theorem Sent.isDead {a b : Hw} (h : Sent a b) {c : Nat} (hc : c < 8) : b.isDead (cupAgent c) = a.isDead (cupAgent c) := by
  rw [Hw.isDead, Hw.isDead, h.fields _ _ (by decide)]
  rw [cupAgent]
  omega

theorem sendSnoops_cons (k la fwd rtag : Nat) (x : Nat × Nat) (l : List (Nat × Nat)) (h : Hw) :
    sendSnoops k la fwd rtag (x :: l) h = sendSnoops k la fwd rtag l (sendSnoops k la fwd rtag [x] h) := rfl

theorem sent_sendSnoops_one (k la fwd rtag : Nat) (x : Nat × Nat) (h : Hw) : Sent h (sendSnoops k la fwd rtag [x] h) := by
  rw [sendSnoops, List.foldl_cons, List.foldl_nil]
  dsimp only
  split
  · exact Sent.refl _
  · exact sent_emitCoh _ _ _ _

theorem sent_sendSnoops (k la fwd rtag : Nat) (l : List (Nat × Nat)) (h : Hw) : Sent h (sendSnoops k la fwd rtag l h) := by
  induction l generalizing h with
  | nil => exact Sent.refl _
  | cons x l ih =>
    rw [sendSnoops_cons]
    exact (sent_sendSnoops_one _ _ _ _ _ _).trans (ih _)

/-- A live Cupola that is to be snooped is sent its snoop. -/
theorem mem_out_sendSnoops {k la fwd rtag c opc : Nat} {l : List (Nat × Nat)} {h : Hw} (hc : c < 8) (hlive : h.isDead (cupAgent c) = false)
    (hmem : (c, opc) ∈ l) : ∃ x : Coh, Emit.coh (cupAgent c) opc x ∈ (sendSnoops k la fwd rtag l h).out := by
  induction l generalizing h with
  | nil => cases hmem
  | cons y l ih =>
    have hone := sent_sendSnoops_one k la fwd rtag y h
    rw [sendSnoops_cons]
    rcases List.mem_cons.mp hmem with rfl | hrest
    · have hsent : ∃ x : Coh, Emit.coh (cupAgent c) opc x ∈ (sendSnoops k la fwd rtag [(c, opc)] h).out := by
        rw [sendSnoops, List.foldl_cons, List.foldl_nil]
        dsimp only
        rw [hlive, if_neg Bool.false_ne_true]
        exact ⟨_, mem_out_emitCoh _ _ _ _⟩
      exact hsent.imp (fun x hx => (sent_sendSnoops k la fwd rtag l _).out _ hx)
    · exact ih ((hone.isDead hc).trans hlive) hrest

/-- The Cupolas that a rebuild asks (R165). -/
def rebuildCups (h : Hw) : List Nat :=
  (List.range 8).filter (fun s => s != h.sid && bitAt (h.fget F.SL_STKSTAT_ALIVE 0) s && !h.isDead (cupAgent s))

/-- The record opens in RBD, waits for every Cupola it asks, and each has been sent its SnpInv. -/
theorem openRebuild_effect (k la : Nat) (m : Mach) : ∃ h t, openRebuild k la m = { m with hw := h.setTxn k t } ∧
    Sent (m.hw.openTag .hd k) h ∧ t.phase = .rbd ∧ t.req.la = la ∧ t.snps = rebuildCups m.hw ∧
    ∀ c ∈ rebuildCups m.hw, ∃ x : Coh, Emit.coh (cupAgent c) 0x09 x ∈ h.out := by
  refine ⟨_, _, rfl, (sent_sendSnoops _ _ _ _ _ _).trans (sent_homeBis _ _ _ _), rfl, rfl, rfl, fun c hc => ?_⟩
  obtain ⟨hrange, hasked⟩ := List.mem_filter.mp hc
  simp only [Bool.and_eq_true, Bool.not_eq_true'] at hasked
  obtain ⟨-, hlive⟩ := hasked
  have hmem : (c, 0x09) ∈ (rebuildCups m.hw).map (fun s => (s, 0x09)) := List.mem_map.mpr ⟨c, hc, rfl⟩
  obtain ⟨x, hx⟩ := mem_out_sendSnoops (k := k) (la := la) (fwd := 0) (rtag := 0) (h := m.hw.openTag .hd k)
    (List.mem_range.mp hrange) hlive hmem
  exact ⟨x, (sent_homeBis _ _ _ _).out _ hx⟩

/-- A record whose snoops are not all answered does not move. -/
theorem stepTxn_waits {k : Nat} {t : HTxn} {m : Mach} (ht : Store.get? m.hw.hd.txns k = some t) (hs : t.snps ≠ []) :
    stepTxn k m = none := by
  rw [stepTxn, ht]
  dsimp only
  rw [if_pos (by simp [hs])]

/-- A metadata read leaves what is stored, and so what it reads. -/
theorem openLine_kept (m : Mach) (o : Nat) : (m.openLine o).hw = m.hw ∧ (m.openLine o).mem.stored = m.mem.stored ∧
    (m.openLine o).mem.lines = m.mem.lines := by
  unfold Mach.openLine
  dsimp only
  split
  · exact ⟨rfl, rfl, rfl⟩
  · exact ⟨rfl, rfl, rfl⟩

theorem readHint_openLine (m : Mach) (o p : Nat) : readHint (m.openLine o) p = readHint m p := by
  obtain ⟨hhw, -, hlines⟩ := openLine_kept m o
  rw [readHint, readHint, Mach.attr, Mach.attr, hhw, hlines]

theorem needsRebuild_openLine (m : Mach) (o la : Nat) : needsRebuild (m.openLine o) la = needsRebuild m la := by
  rw [needsRebuild, needsRebuild, (openLine_kept m o).1, readHint_openLine]

theorem rebuildOne_opens {la : Nat} {m : Mach} (htxns : m.hw.hd.txns = []) (hneeds : needsRebuild m la = true) :
    rebuildOne la m = settle (sliceOf la) (openRebuild (firstRec la) la (m.openLine (lineOff la))) settleFuel := by
  have hasks : asksHint m.hw la = true := by
    rw [needsRebuild, Bool.and_eq_true] at hneeds
    exact hneeds.1
  have hhw := (openLine_kept m (lineOff la)).1
  have htxn : m.hw.txnOf la = none := by
    rw [Hw.txnOf, htxns]
    rfl
  have hrec : m.hw.freeRec (sliceOf la) = some (firstRec la) := by
    rw [Hw.freeRec, htxns]
    rfl
  unfold rebuildOne
  dsimp only
  rw [probeHint, if_pos hasks, needsRebuild_openLine, hneeds, hhw, htxn, hrec, Option.isNone_none, Bool.and_self, if_pos rfl]

/-- A line that needs its rebuild is asked of every live Cupola; the directory and what is stored stay as they were. -/
theorem rebuildOne_asks {la c : Nat} {m : Mach} (hidle : m.hw.homeIdle) (hneeds : needsRebuild m la = true)
    (hc : c ∈ rebuildCups m.hw) : ∃ t, (rebuildOne la m).hw.hd = { m.hw.hd with txns := [(firstRec la, t)] } ∧ t.phase = .rbd ∧
      t.req.la = la ∧ c ∈ t.snps ∧ (∃ x : Coh, Emit.coh (cupAgent c) 0x09 x ∈ (rebuildOne la m).hw.out) ∧
      (rebuildOne la m).mem.stored = m.mem.stored := by
  obtain ⟨htxns, hretry, -, -, hnext, -⟩ := hidle
  obtain ⟨hhw, hstored, -⟩ := openLine_kept m (lineOff la)
  obtain ⟨h, t, hopen, hsent, hphase, hla, hsnps, hout⟩ := openRebuild_effect (firstRec la) la (m.openLine (lineOff la))
  rw [hhw] at hsent hsnps hout
  have hhd : (h.setTxn (firstRec la) t).hd = { m.hw.hd with txns := [(firstRec la, t)] } := by
    rw [Hw.setTxn, hsent.hd, Hw.openTag_hd, htxns]
    rfl
  have hrest : sliceMove (sliceOf la) { m.openLine (lineOff la) with hw := h.setTxn (firstRec la) t } = none := by
    refine sliceMove_of_rest (fun x hx => ?_) (by rw [hhd]; exact hnext) (by rw [hhd]; exact hretry)
    rw [hhd, List.mem_singleton] at hx
    rw [hx]
    exact stepTxn_waits (Hw.setTxn_get _ _ _) (by rw [hsnps]; exact List.ne_nil_of_mem hc)
  rw [rebuildOne_opens htxns hneeds, hopen, settle_of_rest _ hrest]
  exact ⟨t, hhd, hphase, hla, by rw [hsnps]; exact hc, hout c hc, hstored⟩

/-! ### The rebuild walk and its end (R165, R167, R168) -/

theorem rebuildWalk_passes {m : Mach} (hext : m.hw.hd.rbPos / 2 ^ 15 < m.hw.domeExt)
    (hcnt : (m.hw.arec (m.hw.hd.rbPos / 2 ^ 15)).cnt = 0) :
    rebuildWalk m = m.onHw (setRbPos (nextBound m.hw (m.hw.hd.rbPos / 2 ^ 15 + 1) * 2 ^ 15)) := by
  unfold rebuildWalk
  dsimp only
  rw [if_neg (Nat.not_le.mpr hext), if_pos (.inl hcnt)]

/-- The report of a rebuild's end. -/
def rebuiltMsg (h : Hw) : FaultSrc :=
  { code := 0x0A04, dom := domSlice, dinst := 16, addr := h.fget F.HD_SLSTAT_LSLICE 16, unit := 16 }

theorem rebuiltMsg_queue (h : Hw) : bits (rebuiltMsg h).code 8 4 = 10 := by
  change bits 0x0A04 8 4 = 10
  decide

/-- DS16 serves for good, and no rebuild runs. -/
def rebuilt (h : Hw) : Hw := ((h.fset F.HD_SLSTAT_ROLE 16 0).fset F.HD_RBSTAT_BUSY 0 0).raise (rebuiltMsg h)

theorem rebuildEnd_completes {s : State} (hrole : s.mach.hw.fget F.HD_SLSTAT_ROLE 16 = 2)
    (hext : s.mach.hw.domeExt ≤ s.mach.hw.hd.rbPos / 2 ^ 15) (htxns : s.mach.hw.hd.txns = []) :
    Completes .rebuildEnd s (fun m => m = s.mach.onHw rebuilt) := by
  refine completes_onHw (show exec .rebuildEnd s = execRebuildEnd s from rfl) ?_
  rw [Mach.onHw, Mach.onHw, if_pos ⟨hrole, hext, by rw [htxns]; rfl⟩]
  rfl

theorem rebuilt_effect {m : Mach} (hroom : (m.hw.queue 10).length < 8) :
    (rebuilt m.hw).fget F.HD_SLSTAT_ROLE 16 = 0 ∧ (rebuilt m.hw).flag F.HD_RBSTAT_BUSY 0 = false ∧
    Gained 10 0x0A04 5 16 m (m.onHw rebuilt) ∧
    FieldsKept [(F.HD_SLSTAT_ROLE, 16), (F.HD_RBSTAT_BUSY, 0)] m (m.onHw rebuilt) ∧ (rebuilt m.hw).hd = m.hw.hd := by
  have hregs : (rebuilt m.hw).regs = ((m.hw.fset F.HD_SLSTAT_ROLE 16 0).fset F.HD_RBSTAT_BUSY 0 0).regs :=
    Hw.regs_raise (rebuiltMsg_queue m.hw) hroom
  refine ⟨?_, ?_, gained_raise
    (h := (m.hw.fset F.HD_SLSTAT_ROLE 16 0).fset F.HD_RBSTAT_BUSY 0 0) (rebuiltMsg_queue m.hw) hroom rfl rfl, ?_, Hw.hd_raise _ _⟩
  · rw [Hw.fget_congr hregs, Hw.fget_fset_ne _ _ (by decide), Hw.fget_fset_same]
    rfl
  · rw [Hw.flag, Hw.fget_congr hregs, Hw.fget_fset_same]
    rfl
  · exact (((FieldsKept.refl _ m).fset (f := F.HD_SLSTAT_ROLE) (i := 16) (by simp) 0).fset (f := F.HD_RBSTAT_BUSY) (i := 0)
      (by simp) 0).congr hregs

/-! ### O37 -/

/-- GO's takeover: HD_RBCTRL is written and the slice that LSLICE names awaits it. -/
theorem rbctrlGo_completes {s : State} {data : Word} (hgo : bitAt data.toNat 31 = true)
    (hspare : s.mach.hw.fget F.HD_SLSTAT_ROLE 16 = 1) (hfail : s.mach.hw.hd.failing = []) :
    Completes (.hdRbctrlGo .turret data) s (fun m =>
      m = (s.mach.onHw (writeReg R.HD_RBCTRL 0 data.toNat)).onHw (sliceLost (bits data.toNat 8 4))) := by
  refine completes_onHw (show exec (.hdRbctrlGo .turret data) s = execHdRbctrlGo .turret data s from rfl) ?_
  rw [Mach.onHw, rbctrlWrite_go hgo hspare hfail]
  rfl

theorem sliceTakeover_completes {s : State} {l : Nat} (hfail : s.mach.hw.hd.failing = [l]) (htxns : s.mach.hw.hd.txns = [])
    (hretry : s.mach.hw.hd.retry = []) (hheld : s.mach.hw.hd.held = []) (hnext : s.mach.hw.hd.next = []) :
    Completes .sliceTakeover s (fun m => m = s.mach.onHw (takenOver l)) := by
  have htake := takeover_idle (l := l) htxns hretry hnext
  refine completes_onHome (show exec .sliceTakeover s = execSliceTakeover s from rfl) ?_ ?_
  · rw [hfail]
    dsimp only
    rw [htake, Mach.onHw_hw, hd_takenOver]
    exact hheld
  · rw [hfail]
    exact htake

/-- The two reports where the spare fails while a slice awaits its takeover (R169). -/
theorem sliceFail_spare_awaited {l : Nat} {m : Mach} (hspare : m.hw.fget F.HD_SLSTAT_ROLE 16 = 1) (hfail : m.hw.hd.failing = [l])
    (hl : l < 16) (hroom : (m.hw.queue 10).length < 7) :
    (sliceFail 16 m.hw).fget F.HD_SLSTAT_ROLE 16 = 3 ∧ (sliceFail 16 m.hw).fget F.HD_SLSTAT_ROLE l = 3 ∧
    (∃ f g : FMsg, (sliceFail 16 m.hw).queue 10 = m.hw.queue 10 ++ [f, g] ∧ f.code = 0x1A06 ∧ f.domain = 5 ∧ f.dinst = 16 ∧
      g.code = 0x4A05 ∧ g.domain = domDevice) ∧ (sliceFail 16 m.hw).hd = { m.hw.hd with failing := [] } := by
  obtain ⟨f, hqueue, hcode, hdom, hinst⟩ := gained_spareLost (m := m) (by omega)
  have hroom' : ((m.onHw spareLost).hw.queue 10).length < 8 := by
    rw [hqueue, List.length_append, List.length_singleton]
    omega
  obtain ⟨hrole, hrole16, hhd, g, hqueue', hcode', hdom', -⟩ := sliceFatal_effect (m := m.onHw spareLost) hl hroom'
  rw [hqueue, List.append_assoc] at hqueue'
  rw [sliceFail_spare hspare, hfail, List.foldl_cons, List.foldl_nil]
  exact ⟨hrole16.trans (role_spareLost _), hrole, ⟨f, g, hqueue', hcode, hdom, hinst, hcode', hdom'⟩, hhd.trans (hd_spareLost _)⟩

/-- Settles O37: a failure, GO, the takeover, each move of the rebuild walk and its end by their own lemmas. -/
theorem rebuildCompletes : Obligations.RebuildCompletes := by
  unfold Obligations.RebuildCompletes
  intro s p l la c data h
  refine ⟨fun hspare => ⟨fun hfail => ⟨fun hp hrole => ?_, fun hgo => ?_⟩, fun hfail hroom => ?_, fun hfail hl hroom => ?_⟩,
    fun hfail hl htxns hretry hheld hnext hroom => ?_, fun hrole => ⟨?_, fun hidle hneeds hc hsid halive hlive => ?_,
      fun hext htxns hroom => ?_⟩⟩
  · refine completes_onHw (exec_sliceFailure p s) ?_
    rw [Mach.onHw, sliceFail_awaits hspare hfail hp hrole]
    rfl
  · obtain ⟨t, hexec, hq, ht⟩ := rbctrlGo_completes hgo hspare hfail
    refine ⟨t, hexec, hq, ?_⟩
    rw [ht]
    refine ⟨?_, fget_write_HD_RBCTRL_LSLICE _ _, (fieldsKept_write_HD_RBCTRL _ s.mach).congr rfl, rfl⟩
    rw [Mach.onHw_hw, Mach.onHw_hw, sliceLost, unreclaimed, unreclaimed, hd_writeReg]
  · refine completes_onHw (exec_sliceFailure 16 s) ?_
    have hlost : sliceFail 16 s.mach.hw = spareLost s.mach.hw := by
      rw [sliceFail_spare hspare, hfail]
      rfl
    rw [Mach.onHw, hlost]
    refine ⟨role_spareLost _, gained_spareLost hroom, ?_, rfl⟩
    rw [hd_spareLost, ← hfail]
  · refine completes_onHw (exec_sliceFailure 16 s) ?_
    obtain ⟨hrole16, hrole, hqueue, hhd⟩ := sliceFail_spare_awaited hspare hfail hl hroom
    exact ⟨hrole16, hrole, hqueue, hhd, rfl⟩
  · obtain ⟨t, hexec, hq, ht⟩ := sliceTakeover_completes hfail htxns hretry hheld hnext
    refine ⟨t, hexec, hq, ?_⟩
    obtain ⟨hl3, h16, hls, hbusy⟩ := fget_rolesTaken hl s.mach.hw
    have hfget := fget_takenOver (l := l) hroom
    have hhd := hd_takenOver l s.mach.hw
    rw [ht, Mach.onHw_hw, hfget, hfget, hfget, Hw.flag, hfget, hbusy, hhd]
    exact ⟨hl3, h16, hls, rfl, rfl, rfl, dirEnt_takenOver l _, gained_takenOver l hroom, rfl⟩
  · intro e hheld hext hcnt
    have hwalk := rebuildWalk_passes hext hcnt
    refine completes_onHome (show exec (.rebuildLine none) s = execRebuildLine none s from rfl) ?_ ?_
    · rw [if_pos hrole]
      dsimp only
      rw [hwalk]
      exact hheld
    · rw [if_pos hrole]
      dsimp only
      rw [hwalk]
      exact ⟨rfl, (OnlyFields.refl _ s.mach).fset List.mem_cons_self _⟩
  · have hmem : c ∈ rebuildCups s.mach.hw := by
      refine List.mem_filter.mpr ⟨List.mem_range.mpr hc, ?_⟩
      rw [bne_iff_ne.mpr hsid, halive, hlive]
      rfl
    obtain ⟨t, hhd, hphase, hla, hsnps, hout, hstored⟩ := rebuildOne_asks hidle hneeds hmem
    obtain ⟨-, -, -, hheld, -⟩ := hidle
    refine completes_onHome (show exec (.rebuildLine (some la)) s = execRebuildLine (some la) s from rfl) ?_ ?_
    · rw [if_pos hrole]
      dsimp only
      rw [hhd]
      exact hheld
    · rw [if_pos hrole]
      dsimp only
      rw [hhd]
      exact ⟨⟨t, rfl, hphase, hla, hsnps⟩, hout, rfl, hstored⟩
  · obtain ⟨t, hexec, hq, ht⟩ := rebuildEnd_completes hrole hext htxns
    obtain ⟨hrole16, hbusy, hgained, hkept, hhd⟩ := rebuilt_effect hroom
    refine ⟨t, hexec, hq, ?_⟩
    rw [ht]
    exact ⟨hrole16, hbusy, hgained, hkept, hhd, rfl⟩

end Sys2Proof.Machine

namespace Sys2Proof.Machine

/-! ### A snoop of a line on which nothing is open (R139) -/

/-- The answer `opc` to the snoop `m` stands in the outputs. -/
def Replied (m : Coh) (opc : Nat) (h : Hw) : Prop := ∃ a : Coh, Emit.coh m.src opc a ∈ h.out ∧ a.txn = m.txn ∧ a.laddr = m.laddr

theorem sent_cuReply (m : Coh) (opc : Nat) (owned : Bool) (d : Nat × Bool) (h : Hw) : Sent h (cuReply m opc owned d h) :=
  sent_emitCoh _ _ _ _

theorem replied_cuReply (m : Coh) (opc : Nat) (owned : Bool) (d : Nat × Bool) (h : Hw) : Replied m opc (cuReply m opc owned d h) :=
  ⟨_, mem_out_emitCoh _ _ _ _, rfl, rfl⟩

theorem sent_cuForward (m : Coh) (opc : Nat) (d : Nat × Bool) (h : Hw) : Sent h (cuForward m opc d h) := sent_emitCoh _ _ _ _

/-- The snoops that a Cupola takes (R92). -/
def snoopOpcs : List Nat := [0x08, 0x09, 0x0A, 0x0B]

/-- The answer to a snoop of a copy in E (clean) or in M (dirty) (R139). -/
def replyOf (opc : Nat) (dirty : Bool) : Nat :=
  match opc, dirty with
  | 0x08, false => 0x14
  | 0x08, true => 0x13
  | 0x09, false => 0x15
  | 0x09, true => 0x12
  | 0x0A, _ => 0x14
  | _, _ => 0x15

theorem cuFrom_replies {opc : Nat} (hopc : opc ∈ snoopOpcs) (m : Coh) (dirty : Bool) (d : Nat × Bool) (h : Hw) :
    Sent h (cuFrom opc m dirty d h) ∧ Replied m (replyOf opc dirty) (cuFrom opc m dirty d h) := by
  simp only [snoopOpcs, List.mem_cons, List.not_mem_nil, or_false] at hopc
  rcases hopc with rfl | rfl | rfl | rfl
  · cases dirty <;> exact ⟨sent_cuReply _ _ _ _ _, replied_cuReply _ _ _ _ _⟩
  · cases dirty <;> exact ⟨sent_cuReply _ _ _ _ _, replied_cuReply _ _ _ _ _⟩
  · exact ⟨(sent_cuForward _ _ _ _).trans (sent_cuReply _ _ _ _ _), replied_cuReply _ _ _ _ _⟩
  · exact ⟨(sent_cuForward _ _ _ _).trans (sent_cuReply _ _ _ _ _), replied_cuReply _ _ _ _ _⟩

/-- A line without host holders has nobody to back-invalidate. -/
theorem cuHolders_none {l : CuLine} (hfmt : l.fmt = false) (hhold : l.hold = 0) (h : Hw) (gla : Nat) : h.cuHolders gla l = [] := by
  rw [Hw.cuHolders, Hw.holdPorts, hfmt, hhold]
  rfl

/-- What a snoop of a live agent finds at a Cupola with nothing open. -/
structure Snooped (m : Coh) (h : Hw) : Prop where
  names : namesReserved m = false
  live : h.isDead m.src = false
  idle : h.cuIdle

/-- It is answered at once, unless the line cannot be in that state or has host holders. -/
theorem snoopIn_alone {m : Coh} {h : Hw} {opc : Nat} (hs : Snooped m h) (hgood : snoopBad opc m h = false)
    (hholders : ∀ l, h.cuLine m.laddr = some l → h.cuHolders m.laddr l = []) (hheld : (cuAnswerLine opc m h).cu.held = []) :
    snoopIn opc m h = .next (cuAnswerLine opc m h) := by
  obtain ⟨hrecs, hsteps, -⟩ := hs.idle
  have hrec : h.cuRecOf m.laddr = none := by
    rw [Hw.cuRecOf, hrecs]
    rfl
  have hstep : h.cuStepOf m.laddr = none := by
    rw [Hw.cuStepOf, hsteps]
    rfl
  have hans : cuAnswerSnoop opc m h = cuAnswerLine opc m h := by rw [cuAnswerSnoop, hrec]
  have hsnoop : cuSnoop opc m h = (cuAnswerLine opc m h, []) := by
    rw [cuSnoop, hrec, hstep]
    dsimp only [Option.filter_none, Option.isSome_none]
    rw [if_neg Bool.false_ne_true, hans]
    split
    · rfl
    · next l hl =>
      rw [hholders l hl]
      rfl
  rw [snoopIn, hs.names, if_neg Bool.false_ne_true, hs.live, if_neg Bool.false_ne_true, hgood, Bool.and_false,
    if_neg Bool.false_ne_true, hsnoop, cuGo_idle hheld]

/-- A line that this module does not hold is answered with an InvAck, and the Cupola is as it was. -/
theorem snoopInv_unheld {m : Coh} {h : Hw} (hs : Snooped m h) (hl : h.cuLine m.laddr = none) :
    snoopIn 0x09 m h = .next (cuReply m 0x15 false (0, false) h) := by
  obtain ⟨hrecs, -, hheld⟩ := hs.idle
  have hans : cuAnswerLine 0x09 m h = cuReply m 0x15 false (0, false) h := by rw [cuAnswerLine, hl]
  rw [← hans]
  refine snoopIn_alone hs ?_ (fun l hsome => ?_) ?_
  · rw [snoopBad, Hw.cuRecOf, hrecs, hl]
    rfl
  · rw [hl] at hsome
    cases hsome
  · rw [hans, (sent_cuReply _ _ _ _ _).cu]
    exact hheld

/-- The state of a copy in E or M that a shared snoop leaves: S or O. -/
def keptState (dirty : Bool) : Nat := if dirty then 3 else 1

/-- What a snoop leaves of a copy in E or M: nothing, or the copy shared. -/
def leftOf (opc : Nat) (dirty : Bool) (l : CuLine) : Option CuLine := if snpInv opc then none else some { l with st := keptState dirty }

theorem cuAnswerLine_copy {opc : Nat} {m : Coh} {h : Hw} {l : CuLine} {dirty : Bool} (hopc : opc ∈ snoopOpcs)
    (hl : h.cuLine m.laddr = some l) (hst : l.st = if dirty then 4 else 2) :
    (cuAnswerLine opc m h).cu.held = h.cu.held ∧ (cuAnswerLine opc m h).hd = h.hd ∧
    Replied m (replyOf opc dirty) (cuAnswerLine opc m h) ∧ (cuAnswerLine opc m h).cuLine m.laddr = leftOf opc dirty l := by
  obtain ⟨hsent, hreply⟩ := cuFrom_replies hopc m dirty (l.data, l.poison) h
  have hdirty : (l.st != 2) = dirty := by
    rw [hst]
    cases dirty <;> rfl
  have hkept : (if l.st = 2 then 1 else 3) = keptState dirty := by
    rw [hst]
    cases dirty <;> rfl
  have hcopy : ¬ l.st ≤ 1 := by
    rw [hst]
    cases dirty <;> decide
  rw [cuAnswerLine, hl]
  dsimp only
  rw [if_neg hcopy, hdirty, hkept, leftOf]
  generalize cuFrom opc m dirty (l.data, l.poison) h = h1 at hsent hreply
  have hheld : h1.cu.held = h.cu.held := by rw [hsent.cu]
  split
  · exact ⟨hheld, hsent.hd, hreply, Hw.cuLine_delCuLine _ _⟩
  · exact ⟨hheld, hsent.hd, hreply, Hw.cuLine_setCuLine _ _ _⟩

/-- A snoop of a line held in E or M without host holders is answered from it, and the copy is kept or dropped as it asks. -/
theorem snoop_completes {i : Instr} {s : State} {m : Coh} {opc : Nat} {l : CuLine} (hi : exec i s = onHwF (snoopIn opc m) s)
    (hopc : opc ∈ snoopOpcs) (hs : Snooped m s.mach.hw) (hl : s.mach.hw.cuLine m.laddr = some l) (hfmt : l.fmt = false)
    (hhold : l.hold = 0) (dirty : Bool) (hst : l.st = if dirty then 4 else 2) :
    Completes i s (fun m' => (Replied m (replyOf opc dirty) m'.hw ∧ m'.hw.hd = s.mach.hw.hd ∧ m'.mem = s.mach.mem) ∧
      m'.hw.cuLine m.laddr = leftOf opc dirty l) := by
  obtain ⟨hrecs, -, hnone⟩ := hs.idle
  obtain ⟨hheld, hhd, hreply, hline⟩ := cuAnswerLine_copy hopc hl hst
  have hgood : snoopBad opc m s.mach.hw = false := by
    have hcopy : decide (l.st ≤ 1) = false := by
      rw [hst]
      cases dirty <;> decide
    rw [snoopBad, Hw.cuRecOf, hrecs, hl]
    dsimp only [List.find?_nil]
    rw [hcopy, Bool.and_false]
  refine completes_onHwF hi (snoopIn_alone hs hgood (fun l' hl' => ?_) (by rw [hheld, hnone])) ⟨⟨hreply, hhd, rfl⟩, hline⟩
  rw [hl] at hl'
  cases hl'
  exact cuHolders_none hfmt hhold _ _

/-! ### A local request that hits (R141) -/

theorem cuRun_nil (h : Hw) (n : Nat) : cuRun [] h n = h := by
  cases n <;> rfl

/-- One thing to do that causes no more. -/
theorem cuGo_one {a : CuAfter} {h h1 : Hw} (ha : cuItem a h = (h1, [])) : cuGo (h, [a]) = cuGo (h1, []) := by
  have hrun : cuRun [a] h cuFuel = h1 := by
    rw [show cuFuel = 4095 + 1 from rfl, cuRun, ha]
    exact cuRun_nil _ _
  rw [cuGo, cuGo, hrun, cuRun_nil]

/-- The line of a remote home that this module holds in M with no host holder, with nothing open at the Cupola. -/
structure Owned (gla : Nat) (l : CuLine) (h : Hw) : Prop where
  idle : h.cuIdle
  line : h.cuLine gla = some l
  fmt : l.fmt = false
  hold : l.hold = 0
  host : l.hostA = false
  st : l.st = 4
  home : h.isDead (cupAgent (homeOf gla)) = false

section Hits

variable {x : Msg} {r : CuReq} {l : CuLine} {h : Hw}

/-- Nobody has to be back-invalidated before a local request on the line (R141). -/
theorem Owned.conflicts (ho : Owned r.gla l h) : (cuConflicts r l h).1 = [] := by
  have hothers : (if r.unit = 0 then ([] : List Nat).filter (· != r.msg.ing) else []) = [] := by
    split <;> rfl
  rw [cuConflicts, cuHolders_none ho.fmt ho.hold, hothers, ho.host]
  split
  · rfl
  · split <;> rfl

theorem Owned.busy (ho : Owned r.gla l h) : h.cuBusy r.gla = none := by
  obtain ⟨hrecs, -⟩ := ho.idle
  rw [Hw.cuBusy, Hw.cuRecOf, hrecs]
  rfl

theorem Owned.act (ho : Owned r.gla l h) : cuAct r h = (cuHit r l h, []) := by
  rw [cuAct, ho.home, if_neg Bool.false_ne_true, ho.busy]
  dsimp only
  rw [ho.line]
  dsimp only
  rw [ho.st]
  exact if_neg (by simp)

theorem Owned.serve (ho : Owned r.gla l h) (hop : r.op = none) : cuServe r h = (cuHit r l h, []) := by
  obtain ⟨-, hsteps, -⟩ := ho.idle
  rw [cuServe, hop]
  dsimp only
  rw [ho.home, if_neg Bool.false_ne_true, Hw.cuStepOf, hsteps, List.find?_nil, ho.line]
  dsimp only
  rw [ho.busy, ho.conflicts, ho.act]
  rfl

/-- A request of a live port on such a line reaches the Cupola (R80) and is served at once. -/
theorem localReq_hits {m : Mach} {op : HostOp} {gpa data en : Nat} (hremote : gpa / 2 ^ 43 % 8 ≠ m.hw.sid)
    (hport : m.hw.portHeld x.ing = false) (hlive : m.hw.isDead (m.hw.agentOf x.ing) = false) (hmsg : r.msg = x) (hop : r.op = none)
    (ho : Owned r.gla l m.hw) (hheld : (cuHit r l m.hw).cu.held = []) :
    localReq x op gpa data en r m = m.onHw (cuHit r l) := by
  have hfull : m.hw.cuFull r.gla = false := by
    obtain ⟨hrecs, -⟩ := ho.idle
    rw [Hw.cuFull, Hw.cuFreeRec, hrecs]
    rfl
  have harrive : cuArrive r m.hw = cuHit r l m.hw := by
    rw [cuArrive, hmsg, hport, hfull, Bool.or_self, Bool.and_false, if_neg Bool.false_ne_true,
      cuGo_one (a := .serve r) (ho.serve hop), cuGo_idle hheld]
  rw [localReq, hlive, if_neg Bool.false_ne_true, if_neg hremote, cuIn]
  dsimp only
  rw [ho.line]
  dsimp only
  have hasks : ¬ (r.op.isNone && !(cuConflicts r l m.hw).1.isEmpty) = true := by
    rw [ho.conflicts, List.isEmpty_nil, Bool.not_true, Bool.and_false]
    exact Bool.false_ne_true
  rw [if_neg hasks, Mach.onHw, harrive]
  rfl

end Hits

/-! ### A write that becomes visible (R69) -/

theorem visEval_frame (h : Hw) (t : Nat) : ∃ regs, h.visEval t = { h with regs := regs } := by
  rw [Hw.visEval]
  split <;> exact ⟨_, rfl⟩

theorem writeGone_frame (h : Hw) (t : Nat) (np : Bool) : ∃ regs, h.writeGone t np = { h with regs := regs } := by
  cases np with
  | true => exact visEval_frame h t
  | false =>
    obtain ⟨regs, hv⟩ := visEval_frame (h.outDec t) t
    exact ⟨regs, hv⟩

/-- A write that becomes visible touches the binding block's records and its tenant's drain registers alone. -/
structure Seen (a b : Hw) : Prop where
  frame : ∃ regs bd, b = { a with regs := regs, bd := bd }
  hits : b.fget F.CU_HIT_VAL 0 = a.fget F.CU_HIT_VAL 0

theorem seen_markVisible {t : Nat} (ht : t < 8192) (i : Nat) (h : Hw) : Seen h (h.markVisible t i) := by
  cases hfind : h.bd.writes.find? (fun w => w.tid == t && w.wid == i && !w.visible) with
  | none =>
    rw [Hw.markVisible, hfind]
    exact ⟨⟨_, _, rfl⟩, rfl⟩
  | some w =>
    rw [markVisible_found hfind]
    refine ⟨?_, fieldsKept_writeGone ⟨Mem.reset, seeWrite t i h⟩ t w.np F.CU_HIT_VAL 0 ?_⟩
    · obtain ⟨regs, hw⟩ := writeGone_frame (seeWrite t i h) t w.np
      exact ⟨regs, _, hw⟩
    · have hkeys : ∀ f : Fld, f.id ≠ F.CU_HIT_VAL.id → fkey f t ≠ fkey F.CU_HIT_VAL 0 :=
        fun f hf => fkey_ne hf (by omega) (by decide)
      simp only [List.forall_mem_cons]
      exact ⟨hkeys _ (by decide), hkeys _ (by decide), by simp⟩

theorem seen_cuVisible {r : CuReq} (hu : r.unit = 0) (ht : ∀ t ∈ r.msg.tid, t < 8192) (h : Hw) : Seen h (cuVisible r h) := by
  cases hm : r.msg.tid with
  | none =>
    have hv : cuVisible r h = h := by
      rw [cuVisible, hu, hm]
      rfl
    rw [hv]
    exact ⟨⟨_, _, rfl⟩, rfl⟩
  | some t =>
    obtain ⟨⟨regs, bd, hframe⟩, hhits⟩ := seen_markVisible (ht t hm) r.msg.rid h
    have hv : cuVisible r h = (h.markVisible t r.msg.rid).dropWrite (some (t, r.msg.rid)) := by
      rw [cuVisible, hu, hm]
      rfl
    rw [hv]
    refine ⟨?_, hhits⟩
    rw [hframe]
    exact ⟨_, _, rfl⟩

/-! ### A write of a whole line (R141, R325) -/

theorem mergeBytes_full {en n : Nat} (hen : en % 2 ^ n = 2 ^ n - 1) (old data : Nat) : mergeBytes old data en n = data % 256 ^ n := by
  induction n generalizing en old data with
  | zero => rw [mergeBytes, Nat.pow_zero, Nat.mod_one]
  | succ n ih =>
    have hpos := Nat.two_pow_pos n
    rw [Nat.pow_succ, Nat.mul_comm, Nat.mod_mul] at hen
    have hodd : en % 2 = 1 := by omega
    have hrest : en / 2 % 2 ^ n = 2 ^ n - 1 := by omega
    rw [mergeBytes, if_pos hodd, ih hrest, Nat.pow_succ, Nat.mul_comm (256 ^ n) 256, Nat.mod_mul]

/-- What a hit answers and leaves: one response, one hit counted, the line, and no record; the home and its memories as they were. -/
structure Hit (x : Msg) (gla mv : Nat) (d : Option (Nat × Bool)) (l : CuLine) (a b : Hw) : Prop where
  out : b.out = .s2m x.ing x.rid mv d :: a.out
  hits : b.fget F.CU_HIT_VAL 0 = min (a.fget F.CU_HIT_VAL 0 + 1) (2 ^ 32 - 1)
  recs : b.cu.recs = a.cu.recs
  held : b.cu.held = a.cu.held
  hd : b.hd = a.hd
  line : b.cuLine gla = some l

section Hits

variable {x : Msg} {l : CuLine} {h : Hw} {gla : Nat}

theorem hits_counted (h : Hw) : (h.fadd F.CU_HIT_VAL 0 1).fget F.CU_HIT_VAL 0 = min (h.fget F.CU_HIT_VAL 0 + 1) (2 ^ 32 - 1) :=
  Hw.fget_fadd_same _ _ _ _

/-- A line without holders takes the host as its sharer. -/
theorem Owned.addHost (ho : Owned gla l h) (p : Nat) : l.addHost p = { l with hold := packPtrs [p] } := by
  have hadd : addHold false 0 p = (false, packPtrs [p]) := rfl
  rw [CuLine.addHost, ho.fmt, ho.hold, hadd, ho.host]

/-- A hit that answers with the line's data and leaves the line `l1`. -/
theorem hit_answered (l1 : CuLine) (mv : Nat) (d : Option (Nat × Bool)) :
    Hit x gla mv d l1 h (((h.fadd F.CU_HIT_VAL 0 1).setCuLine gla l1).emit (.s2m x.ing x.rid mv d)) :=
  ⟨rfl, hits_counted h, rfl, rfl, rfl, Hw.cuLine_setCuLine _ _ _⟩

/-- A host's shared read. -/
def sharedRead (x : Msg) (gla : Nat) : CuReq := { msg := x, own := false, caching := true, wantData := true, write := false, gla := gla }

theorem Owned.hit_shared (ho : Owned gla l h) :
    Hit x gla 1 (some (l.data, l.poison)) { l with hold := packPtrs [x.ing] } h
      (cuHit (sharedRead x gla) l h) := by
  rw [← ho.addHost]
  exact hit_answered _ _ _

/-- A host's read for ownership. -/
def ownRead (x : Msg) (gla : Nat) : CuReq := { msg := x, own := true, caching := true, wantData := true, write := false, gla := gla }

theorem Owned.hit_own (ho : Owned gla l h) :
    Hit x gla 2 (some (l.data, l.poison)) { l with hold := packPtrs [x.ing], hostA := true } h
      (cuHit (ownRead x gla) l h) := by
  have hline : ({ l with hold := packPtrs [x.ing], hostA := true } : CuLine) =
      { l with fmt := false, hold := packPtrs [x.ing], hostA := true } := by rw [← ho.fmt]
  rw [hline]
  exact hit_answered _ _ _

/-- A read that does not come through CXL.io, whose lines are joined (R159), is answered with its data. -/
theorem readReturn_host {d : Nat × Bool} (hx : x.cls ≠ .ioNp ∨ x.req = none) (tag a : Nat) (h : Hw) :
    readReturn 0 tag a (some x) d h = h.emit (.s2m x.ing tag 3 (some d)) := by
  simp only [readReturn]
  split
  · next hcls hreq =>
    rcases hx with hx | hx
    · exact absurd hcls hx
    · rw [hx] at hreq
      cases hreq
  · rfl

/-- A host's non-caching read. -/
def plainRead (x : Msg) (gla : Nat) : CuReq := { msg := x, own := false, caching := false, wantData := true, write := false, gla := gla }

theorem Owned.hit_read (ho : Owned gla l h) (hx : x.cls ≠ .ioNp ∨ x.req = none) :
    Hit x gla 3 (some (l.data, l.poison)) l h
      (cuHit (plainRead x gla) l h) := by
  have hread : cuHit (plainRead x gla) l h =
      (h.fadd F.CU_HIT_VAL 0 1).emit (.s2m x.ing x.rid 3 (some (l.data, l.poison))) := readReturn_host hx _ _ _
  rw [hread]
  exact ⟨rfl, hits_counted h, rfl, rfl, rfl, ho.line⟩

/-- A host's write of a whole line. -/
def lineWrite (x : Msg) (gla data mv : Nat) : CuReq :=
  { msg := x, own := false, caching := false, wantData := false, write := true, gla := gla, data := data, en := 2 ^ 64 - 1, mv := mv }

/-- It replaces the line's data and lifts its poison mark. -/
theorem Owned.hit_write (ho : Owned gla l h) (ht : ∀ t ∈ x.tid, t < 8192) (data mv : Nat) :
    Hit x gla 3 none { l with data := data % 2 ^ 512, poison := false } h (cuHit (lineWrite x gla data mv) l h) := by
  have hdata : mergeBytes l.data data (2 ^ 64 - 1) 64 = data % 2 ^ 512 := by
    rw [mergeBytes_full (by decide), line_bytes]
  have hall : allBytes (2 ^ 64 - 1) = true := by decide
  have hwrite : cuHit (lineWrite x gla data mv) l h = (cuVisible (lineWrite x gla data mv) ((h.fadd F.CU_HIT_VAL 0 1).setCuLine gla
      { l with data := data % 2 ^ 512, poison := false })).emit (.s2m x.ing x.rid 3 none) := by
    rw [cuHit]
    change cuMerge (lineWrite x gla data mv) l (h.fadd F.CU_HIT_VAL 0 1) = _
    unfold cuMerge lineWrite
    dsimp only
    rw [hdata, ho.host, hall, Bool.and_false, Bool.false_and, if_neg Bool.false_ne_true, Bool.not_true, Bool.and_false, Bool.or_false,
      ← ho.st]
    rfl
  obtain ⟨⟨regs, bd, hframe⟩, hhits⟩ := seen_cuVisible (r := lineWrite x gla data mv) rfl ht
    ((h.fadd F.CU_HIT_VAL 0 1).setCuLine gla { l with data := data % 2 ^ 512, poison := false })
  rw [hwrite]
  refine ⟨?out, hhits.trans (hits_counted h), ?recs, ?held, ?hd, ?line⟩
  all_goals rw [hframe]
  case line => exact Hw.cuLine_setCuLine _ _ _
  all_goals rfl

end Hits

/-- A command whose request hits completes with the hit. -/
theorem hit_completes {i : Instr} {s : State} {x : Msg} {op : HostOp} {gpa data en mv : Nat} {r : CuReq} {d : Option (Nat × Bool)}
    {l l1 : CuLine} (hi : exec i s = onMach (localReq x op gpa data en r) s) (hremote : gpa / 2 ^ 43 % 8 ≠ s.mach.hw.sid)
    (hport : s.mach.hw.portHeld x.ing = false) (hlive : s.mach.hw.isDead (s.mach.hw.agentOf x.ing) = false) (hmsg : r.msg = x)
    (hop : r.op = none) (ho : Owned r.gla l s.mach.hw) (hhit : Hit x r.gla mv d l1 s.mach.hw (cuHit r l s.mach.hw)) :
    Completes i s (fun m' => (m'.hw.out = .s2m x.ing x.rid mv d :: s.mach.hw.out ∧
      m'.hw.fget F.CU_HIT_VAL 0 = min (s.mach.hw.fget F.CU_HIT_VAL 0 + 1) (2 ^ 32 - 1) ∧ m'.hw.cu.recs = [] ∧
      m'.hw.hd = s.mach.hw.hd ∧ m'.mem = s.mach.mem) ∧ m'.hw.cuLine r.gla = some l1) := by
  obtain ⟨hrecs, -, hheld⟩ := ho.idle
  refine completes_onMach hi ?_
  rw [localReq_hits hremote hport hlive hmsg hop ho (hhit.held.trans hheld)]
  exact ⟨⟨hhit.out, hhit.hits, hhit.recs.trans hrecs, hhit.hd, rfl⟩, hhit.line⟩

/-- Settles O34: a snoop is answered at once, from no copy (`snoopInv_unheld`) or from one in E or M (`snoop_completes`); each local request
is a hit (`hit_completes`). -/
theorem cupolaLinesComplete : Obligations.CupolaLinesComplete := by
  unfold Obligations.CupolaLinesComplete
  intro s m x op gpa data l h answered hit hrecs hsteps hheld
  refine ⟨fun hn hlive => ⟨fun hl => ?_, fun hl hfmt hhold => ⟨fun hst => ?_, fun hst => ?_⟩⟩, ?_⟩
  · refine completes_onHwF (f := snoopIn 0x09 m) rfl (snoopInv_unheld ⟨hn, hlive, hrecs, hsteps, hheld⟩ hl) ?_
    have hsent := sent_cuReply m 0x15 false (0, false) h
    exact ⟨⟨replied_cuReply _ _ _ _ _, hsent.hd, rfl⟩, hsent.cu⟩
  · have hs : Snooped m h := ⟨hn, hlive, hrecs, hsteps, hheld⟩
    exact ⟨snoop_completes (opc := 0x08) rfl (by decide) hs hl hfmt hhold false hst,
      snoop_completes (opc := 0x09) rfl (by decide) hs hl hfmt hhold false hst,
      snoop_completes (opc := 0x0A) rfl (by decide) hs hl hfmt hhold false hst,
      snoop_completes (opc := 0x0B) rfl (by decide) hs hl hfmt hhold false hst⟩
  · have hs : Snooped m h := ⟨hn, hlive, hrecs, hsteps, hheld⟩
    exact ⟨snoop_completes (opc := 0x08) rfl (by decide) hs hl hfmt hhold true hst,
      snoop_completes (opc := 0x09) rfl (by decide) hs hl hfmt hhold true hst,
      snoop_completes (opc := 0x0A) rfl (by decide) hs hl hfmt hhold true hst,
      snoop_completes (opc := 0x0B) rfl (by decide) hs hl hfmt hhold true hst⟩
  · intro gla hremote hport hlive hx hl hfmt hhold hhost hst _ ht hhome
    have ho : Owned gla l s.mach.hw := ⟨⟨hrecs, hsteps, hheld⟩, hl, hfmt, hhold, hhost, hst, hhome⟩
    exact ⟨hit_completes (r := sharedRead x gla) rfl hremote hport hlive rfl rfl ho ho.hit_shared,
      hit_completes (r := ownRead x gla) rfl hremote hport hlive rfl rfl ho ho.hit_own,
      hit_completes (r := plainRead x gla) rfl hremote hport hlive rfl rfl ho (ho.hit_read hx),
      hit_completes (r := lineWrite x gla data (mvOf op)) rfl hremote hport hlive rfl rfl ho (ho.hit_write ht data (mvOf op))⟩

end Sys2Proof.Machine

/-! PROOFS. Obligations O20 and O22 to O25: the switch core. -/
namespace Sys2Proof.Machine

/-! ### The route table commands (R187, R190, R229) -/

theorem rtGo_idle {h : Hw} (hb : h.flag F.SW_RTSTAT_BUSY 0 = false) (f : Hw → Hw) : rtGo f h = f h :=
  if_neg (by rw [hb]; decide)

theorem rtGo_busy {h : Hw} (hb : h.flag F.SW_RTSTAT_BUSY 0 = true) (f : Hw → Hw) : rtGo f h = rtResult 2 h := if_pos hb

@[simp] theorem fget_rtResult (r : Nat) (h : Hw) : (rtResult r h).fget F.SW_RTSTAT_RESULT 0 = r % 16 := Hw.fget_fset_same _ _ _ _

/-- RIDX and OP of SW_RTCMD stay clear of every other field. -/
theorem fget_setRtcmd_ne (i op : Nat) (h : Hw) {g : Fld} {j : Nat} (h1 : fkey F.SW_RTCMD_RIDX 0 ≠ fkey g j)
    (h2 : fkey F.SW_RTCMD_OP 0 ≠ fkey g j) : (setRtcmd i op h).fget g j = h.fget g j := by
  rw [setRtcmd, Hw.fget_fset_ne _ _ h2, Hw.fget_fset_ne _ _ h1]

/-- The fields that GO of SW_RTCMD writes. -/
abbrev rtcmdKeys : List (Fld × Nat) := [(F.SW_RTCMD_RIDX, 0), (F.SW_RTCMD_OP, 0), (F.SW_RTSTAT_RESULT, 0)]

theorem OnlyFields.setRtcmd {ks : List (Fld × Nat)} {a b : Mach} (h : OnlyFields ks a b) (hks : rtcmdKeys ⊆ ks) (i op : Nat) :
    OnlyFields ks a (b.onHw (setRtcmd i op)) :=
  (h.fset (hks (by decide)) i).fset (hks (by decide)) op

theorem OnlyFields.rtResult {ks : List (Fld × Nat)} {a b : Mach} (h : OnlyFields ks a b) (hks : (F.SW_RTSTAT_RESULT, 0) ∈ ks)
    (r : Nat) : OnlyFields ks a (b.onHw (rtResult r)) := h.fset hks r

theorem rtcmdNop_completes {s : State} (p : Path) (i : Nat) (hb : s.mach.hw.flag F.SW_RTSTAT_BUSY 0 = false) :
    Completes (.swRtcmdNop p i) s (fun m => m.hw.fget F.SW_RTSTAT_RESULT 0 = 0 ∧ OnlyFields rtcmdKeys s.mach m) := by
  refine completes_onHw (f := rtGo _) rfl ?_
  rw [Mach.onHw, rtGo_idle hb]
  exact ⟨fget_rtResult _ _, ((OnlyFields.refl _ _).setRtcmd (List.Subset.refl _) i 0).rtResult (by decide) 0⟩

/-- The fields that READ of SW_RTCMD writes. -/
abbrev rtReadKeys : List (Fld × Nat) := rtcmdKeys ++ [(F.SW_RTDATA_LO_VAL, 0), (F.SW_RTDATA_HI_VAL, 0)]

theorem rtcmdRead_completes {s : State} (p : Path) {i : Nat} (hi : i < 16384) (hb : s.mach.hw.flag F.SW_RTSTAT_BUSY 0 = false) :
    Completes (.swRtcmdRead p i) s (fun m => m.hw.fget F.SW_RTSTAT_RESULT 0 = 0 ∧
      m.hw.fget F.SW_RTDATA_LO_VAL 0 = bits (s.mach.hw.route i) 0 32 ∧
      m.hw.fget F.SW_RTDATA_HI_VAL 0 = bits (s.mach.hw.route i) 32 32 ∧ OnlyFields rtReadKeys s.mach m) := by
  refine completes_onHw (f := rtGo _) rfl ?_
  rw [Mach.onHw, rtGo_idle hb, rtRead, Nat.mod_eq_of_lt hi]
  refine ⟨fget_rtResult _ _, ?_, ?_, ?_⟩
  · rw [rtResult, Hw.fget_fset_ne _ _ (by decide), Hw.fget_fset_ne _ _ (by decide), Hw.fget_fset_same, bits, Nat.pow_zero, Nat.div_one]
    rfl
  · rw [rtResult, Hw.fget_fset_ne _ _ (by decide), Hw.fget_fset_same]
    rfl
  · exact ((((OnlyFields.refl _ _).setRtcmd (by decide) i 1).fset (by decide) _).fset (by decide) _).rtResult (by decide) 0

theorem rtcmdUpdate_denied {s : State} {p : Path} (i : Nat) (hb : s.mach.hw.flag F.SW_RTSTAT_BUSY 0 = false) (hp : p ≠ .turret) :
    Completes (.swRtcmdUpdate p i) s (fun m => m.hw.fget F.SW_RTSTAT_RESULT 0 = 3 ∧ OnlyFields rtcmdKeys s.mach m) := by
  refine completes_onHw (f := rtGo _) rfl ?_
  rw [Mach.onHw, rtGo_idle hb, rtUpdate, if_pos hp]
  exact ⟨fget_rtResult _ _, ((OnlyFields.refl _ _).setRtcmd (List.Subset.refl _) i 2).rtResult (by decide) 3⟩

theorem rtcmdUpdate_busy {s : State} (p : Path) (i : Nat) (hb : s.mach.hw.flag F.SW_RTSTAT_BUSY 0 = true) :
    Completes (.swRtcmdUpdate p i) s (fun m =>
      m.hw.fget F.SW_RTSTAT_RESULT 0 = 2 ∧ OnlyFields [(F.SW_RTSTAT_RESULT, 0)] s.mach m) := by
  refine completes_onHw (f := rtGo _) rfl ?_
  rw [Mach.onHw, rtGo_busy hb]
  exact ⟨fget_rtResult _ _, (OnlyFields.refl _ _).rtResult (by decide) 2⟩

/-! ### The entry that an update writes (R182, R187) -/

/-- The fields of the entry written: V, MC, TARGET, ALT, ALTV, EPOCH and RFLOOR. -/
theorem rtMake_fields (i old lo : Nat) (revoke : Bool) : let r := rtMake i old lo revoke
    bits r 0 2 = bits lo 0 2 ∧ rtTarget r = rtTarget lo ∧ bits r 17 7 = (if i < 8 then bits lo 17 7 else 0) ∧
    bits r 24 1 = bits lo 24 1 ∧ rtEpoch r = (rtEpoch old + 1) % 65536 ∧
    rtFloor r = if revoke then (rtEpoch old + 1) % 65536 else rtFloor old := by
  have hv : bits lo 0 2 < 4 := bits_lt _ _ _
  have ht : bits lo 4 13 < 8192 := bits_lt _ _ _
  have ha : bits lo 17 7 < 128 := bits_lt _ _ _
  have hav : bits lo 24 1 < 2 := bits_lt _ _ _
  have hf : rtFloor old < 65536 := bits_lt _ _ _
  have he : (rtEpoch old + 1) % 65536 < 65536 := Nat.mod_lt _ (by decide)
  unfold rtMake rtTarget
  generalize (rtEpoch old + 1) % 65536 = ep at he ⊢
  generalize bits lo 0 2 = v, bits lo 4 13 = t, bits lo 17 7 = a, bits lo 24 1 = av, rtFloor old = fl at hv ht ha hav hf ⊢
  have hfloor : (if revoke then ep else fl) < 65536 := by split <;> assumption
  have halt : (if i < 8 then a * 2 ^ 17 else 0) = (if i < 8 then a else 0) * 2 ^ 17 := by split <;> rfl
  have halt7 : (if i < 8 then a else 0) < 128 := by split <;> omega
  dsimp only
  rw [halt]
  generalize (if i < 8 then a else 0) = alt, (if revoke then ep else fl) = floor at halt7 hfloor ⊢
  simp only [bits, rtEpoch, rtFloor]
  omega

/-- The switch core after an update of entry `i` from Turret. -/
def routeWritten (i : Nat) (revoke : Bool) (h : Hw) : Hw :=
  { h with sw := { h.sw with routes := Store.setD 0 h.sw.routes i (rtMake i (h.route i) (h.fget F.SW_RTDATA_LO_VAL 0) revoke) } }

theorem route_routeWritten (i : Nat) (revoke : Bool) (h : Hw) :
    (routeWritten i revoke h).route i = rtMake i (h.route i) (h.fget F.SW_RTDATA_LO_VAL 0) revoke ∧
    ∀ j, j ≠ i → (routeWritten i revoke h).route j = h.route j :=
  ⟨Store.getD_setD_same _ _ _ _, fun _ hj => Store.getD_setD_ne _ _ _ _ (Ne.symm hj)⟩

theorem rtUpdate_ok {i : Nat} {revoke : Bool} {h : Hw} (hok : rtFieldOk i (h.fget F.SW_RTDATA_LO_VAL 0) = true) :
    rtUpdate .turret i revoke h = (rtResult 0 (routeWritten i revoke h)).fset F.SW_RTSTAT_BUSY 0 1 := by
  rw [rtUpdate, if_neg (not_not_intro rfl)]
  exact if_pos hok

/-- An update or revoke from Turret, its entry in order, as the command that names it completes. -/
theorem rtUpdate_completes {c : Instr} {s : State} {i op : Nat} {revoke : Bool} (hi : i < 16384)
    (hc : exec c s = onHw (rtGo (fun h => rtUpdate .turret (i % 16384) revoke (setRtcmd i op h))) s)
    (hb : s.mach.hw.flag F.SW_RTSTAT_BUSY 0 = false) (hok : rtFieldOk i (s.mach.hw.fget F.SW_RTDATA_LO_VAL 0) = true) :
    Completes c s (fun m =>
      m.hw.route i = rtMake i (s.mach.hw.route i) (s.mach.hw.fget F.SW_RTDATA_LO_VAL 0) revoke ∧
      (∀ j, j ≠ i → m.hw.route j = s.mach.hw.route j) ∧ m.hw.fget F.SW_RTSTAT_BUSY 0 = 1 ∧
      m.hw.fget F.SW_RTSTAT_RESULT 0 = 0 ∧ m.hw.bd = s.mach.hw.bd ∧ m.mem = s.mach.mem) := by
  have hlo : (setRtcmd i op s.mach.hw).fget F.SW_RTDATA_LO_VAL 0 = s.mach.hw.fget F.SW_RTDATA_LO_VAL 0 :=
    fget_setRtcmd_ne _ _ _ (by decide) (by decide)
  obtain ⟨hsame, hother⟩ := route_routeWritten i revoke (setRtcmd i op s.mach.hw)
  refine completes_onHw hc ?_
  rw [Mach.onHw, rtGo_idle hb, Nat.mod_eq_of_lt hi, rtUpdate_ok (by rw [hlo]; exact hok)]
  rw [hlo] at hsame
  refine ⟨hsame, hother, Hw.fget_fset_same _ _ _ _, ?_, rfl, rfl⟩
  exact (Hw.fget_fset_ne _ _ (by decide)).trans (fget_rtResult _ _)

/-- Settles O22: each command is a `rtGo`, which rejects or runs it; the entry that an update writes has the fields of `rtMake_fields`. -/
theorem routeCommandsComplete : Obligations.RouteCommandsComplete := by
  unfold Obligations.RouteCommandsComplete
  intro s p i hi h lo written
  refine ⟨fun hb => ⟨rtcmdNop_completes p i hb, rtcmdRead_completes p hi hb, fun hok => ⟨?_, ?_⟩, rtcmdUpdate_denied i hb⟩,
    rtcmdUpdate_busy p i, ?_⟩
  · obtain ⟨t, hexec, hpend, hroute, hrest⟩ := rtUpdate_completes (c := .swRtcmdUpdate .turret i) (revoke := false) hi rfl hb hok
    obtain ⟨hv, htarget, halt, haltv, hepoch, hfloor⟩ := rtMake_fields i (h.route i) lo false
    rw [← hroute] at hv htarget halt haltv hepoch hfloor
    exact ⟨t, hexec, hpend, ⟨hv, htarget, halt, haltv, hepoch, hrest⟩, hfloor⟩
  · obtain ⟨t, hexec, hpend, hroute, hrest⟩ := rtUpdate_completes (c := .swRtcmdUpdateRevoke .turret i) (revoke := true) hi rfl hb hok
    obtain ⟨hv, htarget, halt, haltv, hepoch, hfloor⟩ := rtMake_fields i (h.route i) lo true
    rw [← hroute] at hv htarget halt haltv hepoch hfloor
    exact ⟨t, hexec, hpend, ⟨hv, htarget, halt, haltv, hepoch, hrest⟩, hfloor⟩
  · exact completes_onHw (f := fun h => h.fset F.SW_RTSTAT_BUSY 0 0) rfl
      ⟨Hw.fget_fset_same _ _ _ _, (OnlyFields.refl _ _).fset (by decide) 0⟩

end Sys2Proof.Machine

namespace Sys2Proof.Machine

/-! ### A queue that messages have left (R205, R235) -/

theorem spillLeave_frame (qid : Nat) (h : Hw) : ∃ b, spillLeave qid h = h.setEq qid { h.eq qid with spilling := b } ∨ spillLeave qid h = h := by
  unfold spillLeave
  dsimp only
  split
  · exact ⟨false, .inl rfl⟩
  · exact ⟨false, .inr rfl⟩

theorem drrEmpty_frame (qid : Nat) (h : Hw) : ∃ ts, drrEmpty qid h = { h with ts := ts } := by
  unfold drrEmpty
  split
  · exact ⟨_, rfl⟩
  · exact ⟨h.ts, rfl⟩

theorem spillLeave_segments (qid : Nat) (h : Hw) :
    ((spillLeave qid h).eq qid).head = (h.eq qid).head ∧ ((spillLeave qid h).eq qid).dome = (h.eq qid).dome ∧
    ((spillLeave qid h).eq qid).stage = (h.eq qid).stage ∧ ((spillLeave qid h).eq qid).reading = (h.eq qid).reading := by
  obtain ⟨b, hb | hb⟩ := spillLeave_frame qid h
  · rw [hb, Hw.eq_setEq]
    exact ⟨rfl, rfl, rfl, rfl⟩
  · rw [hb]
    exact ⟨rfl, rfl, rfl, rfl⟩

/-- What follows when messages have left a queue changes the queues' SPILLING and the weighted scheduler alone. -/
theorem leaveQueue_frame (qid : Nat) (h : Hw) : ∃ eqs ts, leaveQueue qid h = { h with sw := { h.sw with eqs := eqs }, ts := ts } := by
  obtain ⟨ts, hdrr⟩ := drrEmpty_frame qid (spillLeave qid h)
  obtain ⟨b, hb | hb⟩ := spillLeave_frame qid h
  · rw [hb] at hdrr
    exact ⟨_, ts, by rw [leaveQueue, hb, hdrr]; rfl⟩
  · rw [hb] at hdrr
    exact ⟨h.sw.eqs, ts, by rw [leaveQueue, hb, hdrr]⟩

theorem head_leaveQueue (qid : Nat) (h : Hw) : ((leaveQueue qid h).eq qid).head = (h.eq qid).head := by
  obtain ⟨ts, hdrr⟩ := drrEmpty_frame qid (spillLeave qid h)
  obtain ⟨hhead, -⟩ := spillLeave_segments qid h
  rw [leaveQueue, hdrr]
  exact hhead

/-! ### Multicast legs (R218, R219) -/

/-- A leg that is done changes the cells in use, the VOQs and the legs alone. -/
theorem legDone_frame (mid : Nat) (h : Hw) :
    ∃ voq used legs, legDone mid h = { h with sw := { h.sw with voq := voq, used := used, legs := legs } } := by
  unfold legDone
  split
  · exact ⟨_, _, _, rfl⟩
  · split
    · exact ⟨_, _, _, rfl⟩
    · exact ⟨_, _, _, rfl⟩

/-- The last leg that is done frees the cells. -/
theorem legDone_last {mid n c : Nat} {h : Hw} (hlegs : Store.get? h.sw.legs mid = some (n, c)) (hn : n ≤ 1) :
    Store.get? (legDone mid h).sw.legs mid = none ∧ (legDone mid h).sw.used = h.sw.used - c := by
  rw [legDone, hlegs]
  dsimp only
  rw [if_pos hn]
  exact ⟨Store.get?_del_same _ _, rfl⟩

/-- Any other leg counts LEGS down. -/
theorem legDone_left {mid n c : Nat} {h : Hw} (hlegs : Store.get? h.sw.legs mid = some (n, c)) (hn : 2 ≤ n) :
    Store.get? (legDone mid h).sw.legs mid = some (n - 1, c) ∧ (legDone mid h).sw.used = h.sw.used := by
  rw [legDone, hlegs]
  dsimp only
  rw [if_neg (by omega)]
  exact ⟨Store.get?_put_same _ _ _, rfl⟩

/-- The switch core once leg `qid` of multicast `mid` is no longer being sent. -/
def legSent (mid qid : Nat) (h : Hw) : Hw := { h with sw := { h.sw with sending := h.sw.sending.erase (mid, qid) } }

theorem exec_multicastLegDone {s : State} {mid qid : Nat} (hsend : s.mach.hw.sw.sending.contains (mid, qid) = true)
    (htx : Store.get? s.mach.hw.sw.inTx (qid / 16) = none) :
    exec (.multicastLegDone mid qid) s = onHw (fun h => legDone mid (legSent mid qid h)) s := by
  rw [show exec (.multicastLegDone mid qid) s = execMulticastLegDone mid qid s from rfl, execMulticastLegDone]
  refine onHw_congr ?_
  rw [hsend, htx]
  rfl

theorem multicastLegDone_completes {s : State} {mid qid n c : Nat} (hlegs : Store.get? s.mach.hw.sw.legs mid = some (n, c))
    (hsend : s.mach.hw.sw.sending.contains (mid, qid) = true) (htx : Store.get? s.mach.hw.sw.inTx (qid / 16) = none) :
    Completes (.multicastLegDone mid qid) s (fun m =>
      m.hw.sw.sending = s.mach.hw.sw.sending.erase (mid, qid) ∧
      (2 ≤ n → Store.get? m.hw.sw.legs mid = some (n - 1, c) ∧ m.hw.sw.used = s.mach.hw.sw.used) ∧
      (n = 1 → Store.get? m.hw.sw.legs mid = none ∧ m.hw.sw.used = s.mach.hw.sw.used - c) ∧ m.hw.regs = s.mach.hw.regs ∧
      m.mem = s.mach.mem) := by
  have hsent : Store.get? (legSent mid qid s.mach.hw).sw.legs mid = some (n, c) := hlegs
  obtain ⟨voq, used, legs, hframe⟩ := legDone_frame mid (legSent mid qid s.mach.hw)
  refine completes_onHw (exec_multicastLegDone hsend htx) ⟨?_, fun hn => legDone_left hsent hn, fun hn => legDone_last hsent (by omega), ?_, rfl⟩
  · rw [Mach.onHw_hw, hframe]
    rfl
  · rw [Mach.onHw_hw, hframe]
    rfl

/-- A dropped copy is counted at its egress port and reported. -/
theorem dropLeg_frame (eg group : Nat) (h : Hw) : ∃ regs fc, dropLeg eg group h = { h with regs := regs, fc := fc } := by
  obtain ⟨regs, fc, hraise, -⟩ := Hw.raise_frame (h.fadd F.SW_MCDROP_VAL eg 1)
    { code := 0x0606, dom := domPort, dinst := eg, addr := group, unit := eg }
  exact ⟨regs, fc, hraise⟩

theorem fget_dropLeg {eg : Nat} (heg : eg < 65536) (group : Nat) (h : Hw) :
    (dropLeg eg group h).fget F.SW_MCDROP_VAL eg = min (h.fget F.SW_MCDROP_VAL eg + 1) (2 ^ 32 - 1) := by
  rw [dropLeg, Hw.fget_raise _ _ (fkey_ne (by decide) (by decide) heg) (fkey_ne (by decide) (by decide) heg), Hw.fget_fadd_same]
  rfl

/-- The switch core once the copy at the head of queue `qid` is dropped. -/
def copyDropped (qid : Nat) (e : EMsg) (rest : List EMsg) (h : Hw) : Hw :=
  dropLeg e.eg (rtTarget (h.route e.ridx)) (releaseCells e (h.setEq qid { h.eq qid with head := rest }))

theorem exec_multicastCreditTimeout {s : State} {qid : Nat} {e : EMsg} {rest : List EMsg} (hhead : (s.mach.hw.eq qid).head = e :: rest)
    (hleg : e.leg ≠ 0) : exec (.multicastCreditTimeout qid) s = onHw (fun h => leaveQueue qid (copyDropped qid e rest h)) s := by
  rw [show exec (.multicastCreditTimeout qid) s = execMulticastCreditTimeout qid s from rfl, execMulticastCreditTimeout]
  refine onHw_congr ?_
  dsimp only
  rw [hhead]
  exact if_neg hleg

theorem multicastCreditTimeout_completes {s : State} {mid qid n c : Nat} {e : EMsg} {rest : List EMsg}
    (hlegs : Store.get? s.mach.hw.sw.legs mid = some (n, c)) (hhead : (s.mach.hw.eq qid).head = e :: rest) (hleg : e.leg ≠ 0)
    (hmc : e.mc = some mid) (hn : 2 ≤ n) (heg : e.eg < 65536) :
    Completes (.multicastCreditTimeout qid) s (fun m =>
      (m.hw.eq qid).head = rest ∧ Store.get? m.hw.sw.legs mid = some (n - 1, c) ∧
      m.hw.fget F.SW_MCDROP_VAL e.eg = min (s.mach.hw.fget F.SW_MCDROP_VAL e.eg + 1) (2 ^ 32 - 1) ∧ m.mem = s.mach.mem) := by
  refine completes_onHw (exec_multicastCreditTimeout hhead hleg) ?_
  generalize hq : { s.mach.hw.eq qid with head := rest } = q
  have hrel : releaseCells e (s.mach.hw.setEq qid q) = legDone mid (s.mach.hw.setEq qid q) := by rw [releaseCells, hmc]
  obtain ⟨voq, used, legs, hdone⟩ := legDone_frame mid (s.mach.hw.setEq qid q)
  obtain ⟨hleft, -⟩ := legDone_left (h := s.mach.hw.setEq qid q) hlegs hn
  have hcount := fget_dropLeg heg (rtTarget (s.mach.hw.route e.ridx)) (legDone mid (s.mach.hw.setEq qid q))
  obtain ⟨regs, fc, hdrop⟩ := dropLeg_frame e.eg (rtTarget (s.mach.hw.route e.ridx)) (legDone mid (s.mach.hw.setEq qid q))
  have hcopy : copyDropped qid e rest s.mach.hw =
      dropLeg e.eg (rtTarget (s.mach.hw.route e.ridx)) (legDone mid (s.mach.hw.setEq qid q)) := by rw [copyDropped, hq, hrel]
  obtain ⟨eqs, ts, hleave⟩ := leaveQueue_frame qid (copyDropped qid e rest s.mach.hw)
  rw [Mach.onHw]
  refine ⟨?_, ?_, ?_, rfl⟩
  · have heq : (copyDropped qid e rest s.mach.hw).eq qid = q := by
      rw [hcopy, hdrop, hdone]
      exact Hw.eq_setEq _ _ _
    rw [head_leaveQueue, heq, ← hq]
  · rw [hleave, hcopy, hdrop]
    exact hleft
  · rw [hdone] at hcount
    rw [hleave, hcopy, hdone]
    exact hcount

/-! ### The leaked-buffer audit (R222, R223) -/

/-- GO of the audit, where `auditReady` answers `ready`. -/
theorem exec_swAudctrlGo {s : State} {ready : Bool} (hready : auditReady s.mach.hw = ready) : exec .swAudctrlGo s =
    onHw (fun h => if ready then h.fset F.SW_AUDSTAT_BUSY 0 1 else h.fset F.SW_AUDSTAT_RESULT 0 3) s := by
  rw [show exec .swAudctrlGo s = execSwAudctrlGo s from rfl, execSwAudctrlGo]
  exact onHw_congr (by rw [hready])

/-- The cells that an audit without duplicates finds missing. -/
def auditLeaks (h : Hw) : Nat := h.sw.leak + (h.sw.used - heldCells h) + h.sw.pgLeak

/-- The switch core after an audit without duplicates, before its report: the free lists rebuilt, the leaks counted. -/
def audited (h : Hw) : Hw :=
  (((({ h with sw := { h.sw with leak := 0, used := heldCells h, dup := none, pgLeak := 0, pgDup := none } }).fadd
    F.SW_AUDLEAK_VAL 0 (auditLeaks h)).fadd F.SW_AUDDUP_VAL 0 0).fset F.SW_AUDSTAT_RESULT 0 (if auditLeaks h ≠ 0 then 1 else 0)).fset
    F.SW_AUDSTAT_BUSY 0 0

theorem auditRun_clean {h : Hw} (hdup : h.sw.dup = none) (hpg : h.sw.pgDup = none) : auditRun h =
    if auditLeaks h ≠ 0 then (audited h).raise { code := 0x1607, dom := domDevice, dinst := 0, addr := auditLeaks h, unit := 0xFFF }
    else audited h := by
  unfold auditRun
  rw [hdup, hpg]
  rfl

theorem fget_audited (h : Hw) : (audited h).fget F.SW_AUDSTAT_BUSY 0 = 0 ∧
    (audited h).fget F.SW_AUDSTAT_RESULT 0 = (if auditLeaks h = 0 then 0 else 1) ∧
    (audited h).fget F.SW_AUDLEAK_VAL 0 = min (h.fget F.SW_AUDLEAK_VAL 0 + auditLeaks h) (2 ^ 32 - 1) := by
  refine ⟨Hw.fget_fset_same _ _ _ _, ?_, ?_⟩
  · rw [audited, Hw.fget_fset_ne _ _ (by decide), Hw.fget_fset_same]
    by_cases hz : auditLeaks h = 0
    · rw [if_pos hz, if_neg (not_not_intro hz)]
      rfl
    · rw [if_neg hz, if_pos hz]
      rfl
  · rw [audited, Hw.fget_fset_ne _ _ (by decide), Hw.fget_fset_ne _ _ (by decide), Hw.fget_fadd_ne _ _ (by decide), Hw.fget_fadd_same]
    rfl

/-- An audit's report leaves the switch core, and of the registers all but the counters of lost messages. -/
theorem auditRun_effect {h : Hw} (hdup : h.sw.dup = none) (hpg : h.sw.pgDup = none) : (auditRun h).sw = (audited h).sw ∧
    ∀ f ∈ [F.SW_AUDSTAT_BUSY, F.SW_AUDSTAT_RESULT, F.SW_AUDLEAK_VAL], (auditRun h).fget f 0 = (audited h).fget f 0 := by
  rw [auditRun_clean hdup hpg]
  split
  · obtain ⟨regs, fc, hraise, -⟩ := Hw.raise_frame (audited h)
      { code := 0x1607, dom := domDevice, dinst := 0, addr := auditLeaks h, unit := 0xFFF }
    exact ⟨by rw [hraise], fun f hf => Hw.fget_raise _ _ (by revert f; decide) (by revert f; decide)⟩
  · exact ⟨rfl, fun _ _ => rfl⟩

theorem auditEnd_completes {s : State} (hbusy : s.mach.hw.flag F.SW_AUDSTAT_BUSY 0 = true) (hdup : s.mach.hw.sw.dup = none)
    (hpg : s.mach.hw.sw.pgDup = none) : Completes .auditEnd s (fun m =>
      m.hw.fget F.SW_AUDSTAT_BUSY 0 = 0 ∧ m.hw.fget F.SW_AUDSTAT_RESULT 0 = (if auditLeaks s.mach.hw = 0 then 0 else 1) ∧
      m.hw.fget F.SW_AUDLEAK_VAL 0 = min (s.mach.hw.fget F.SW_AUDLEAK_VAL 0 + auditLeaks s.mach.hw) (2 ^ 32 - 1) ∧
      m.hw.sw.leak = 0 ∧ m.hw.sw.used = heldCells s.mach.hw ∧ m.hw.freeCells = 65536 - heldCells s.mach.hw ∧ m.mem = s.mach.mem) := by
  obtain ⟨hsw, hfields⟩ := auditRun_effect hdup hpg
  obtain ⟨hb, hr, hl⟩ := fget_audited s.mach.hw
  refine completes_onHw (f := auditRun) ?_ ⟨?_, ?_, ?_, ?_, ?_, ?_, rfl⟩
  · rw [show exec .auditEnd s = execAuditEnd s from rfl, execAuditEnd]
    exact onHw_congr (by rw [if_pos hbusy])
  · exact (hfields _ (by decide)).trans hb
  · exact (hfields _ (by decide)).trans hr
  · exact (hfields _ (by decide)).trans hl
  · exact congrArg SwState.leak hsw
  · exact congrArg SwState.used hsw
  · rw [Mach.onHw_hw, Hw.freeCells, hsw]
    rfl

/-- Settles O25: each leg that is done or dropped counts LEGS down (`legDone_left`, `legDone_last`); an audit without duplicates leaves
`audited` (the cells held by pacing, sending and multicasts are kept: log entry 153). -/
theorem multicastAndAuditComplete : Obligations.MulticastAndAuditComplete := by
  unfold Obligations.MulticastAndAuditComplete
  refine ⟨fun s mid qid n c e rest hlegs => ⟨multicastLegDone_completes hlegs, multicastCreditTimeout_completes hlegs⟩,
    fun s => ⟨fun hready => ?_, fun hready => ?_, auditEnd_completes⟩⟩
  · exact completes_onHw (exec_swAudctrlGo hready) ⟨Hw.fget_fset_same _ _ _ _, (OnlyFields.refl _ _).fset (by decide) 1⟩
  · exact completes_onHw (exec_swAudctrlGo hready) ⟨Hw.fget_fset_same _ _ _ _, (OnlyFields.refl _ _).fset (by decide) 3⟩

end Sys2Proof.Machine

namespace Sys2Proof.Machine

/-! ### A message that concerns no tenant is discarded (R198, R213, R215) -/

/-- The cells of a message that is no multicast copy are freed. -/
theorem releaseCells_unicast {e : EMsg} (hmc : e.mc = none) (h : Hw) :
    ∃ voq, releaseCells e h = { h with sw := { h.sw with voq := voq, used := h.sw.used - e.got } } := by
  rw [releaseCells, hmc]
  dsimp only
  split
  · exact ⟨_, rfl⟩
  · exact ⟨h.sw.voq, rfl⟩

/-- A response for a message without a tenant is sent, and may cross the crossbar. -/
theorem respond_untenanted {m : Msg} (htid : m.tid = none) (src : Nat) (k : RspKind) (c : Option (Nat × Option Nat)) (h : Hw) :
    ∃ voq, respond src m k c h = { h with out := .rsp m.rid k :: h.out, sw := { h.sw with voq := voq } } := by
  unfold respond
  dsimp only
  split
  · exact ⟨_, rfl⟩
  · rw [htid]
    exact ⟨h.sw.voq, rfl⟩

theorem discardEnd_untenanted {m : Msg} (htid : m.tid = none) (eg rule : Nat) (h : Hw) :
    ∃ voq, discardEnd eg m rule h = { h with out := .rsp m.rid (discardRsp m.cls) :: h.out, sw := { h.sw with voq := voq } } := by
  unfold discardEnd
  simp only [htid]
  split
  · next hcls =>
    rw [endNp, htid, beq_iff_eq.mp hcls]
    exact respond_untenanted htid eg .ur _ h
  · exact respond_untenanted htid eg _ none h

theorem countDiscard_frame (rule : Nat) (h : Hw) : countDiscard rule h = { h with regs := (countDiscard rule h).regs } := by
  unfold countDiscard
  split
  · rfl
  · split
    · rfl
    · split
      · rfl
      · rfl

theorem countDiscard_bad (h : Hw) : countDiscard 198 h = h.fadd F.SW_BADDROP_VAL 0 1 := by
  rw [countDiscard, if_neg (show ¬198 = 188 by decide), if_pos rfl]

theorem countDiscard_ageing (h : Hw) : countDiscard 213 h = h.fadd F.SW_AGEDROP_VAL 0 1 := by
  rw [countDiscard, if_neg (show ¬213 = 188 by decide), if_neg (show ¬213 = 198 by decide), if_pos rfl]

/-- A tenant's record sees a message without a tenant as one. -/
theorem counted_untenanted {e : EMsg} (htid : e.msg.tid = none) :
    e.counted.tid = none ∧ e.counted.rid = e.msg.rid ∧ e.counted.cls = e.msg.cls := by
  unfold EMsg.counted
  split
  · exact ⟨htid, rfl, rfl⟩
  · exact ⟨rfl, rfl, rfl⟩

theorem endMsg_untenanted {e : EMsg} (htid : e.msg.tid = none) (rule : Nat) (h : Hw) :
    ∃ voq out, endMsg e rule h = { countDiscard rule h with out := out, sw := { h.sw with voq := voq } } ∧
      (e.rsp = none → out = .rsp e.msg.rid (discardRsp e.msg.cls) :: h.out) := by
  obtain ⟨ht, hrid, hcls⟩ := counted_untenanted htid
  have hframe := countDiscard_frame rule h
  unfold endMsg
  cases hrsp : e.rsp with
  | none =>
    obtain ⟨voq, hend⟩ := discardEnd_untenanted ht e.eg rule (countDiscard rule h)
    refine ⟨voq, _, ?_, fun _ => rfl⟩
    dsimp only
    rw [hend, hframe, hrid, hcls]
  | some r =>
    refine ⟨h.sw.voq, h.out, ?_, fun hn => by cases hn⟩
    rw [htid]
    dsimp only
    rw [hframe]

/-- The counter of the rule, the cells of the message, and the requester's response. -/
theorem discardMsg_untenanted {e : EMsg} (hmc : e.mc = none) (htid : e.msg.tid = none) (rule : Nat) (h : Hw) :
    ∃ voq out, discardMsg e rule h =
        { countDiscard rule h with out := out, sw := { h.sw with voq := voq, used := h.sw.used - e.got } } ∧
      (e.rsp = none → out = .rsp e.msg.rid (discardRsp e.msg.cls) :: h.out) := by
  obtain ⟨voq1, hrel⟩ := releaseCells_unicast hmc h
  obtain ⟨voq, out, hend, hout⟩ := endMsg_untenanted htid rule (releaseCells e h)
  refine ⟨voq, out, ?_, fun hn => by rw [hout hn, hrel]⟩
  rw [discardMsg, hend, hrel]
  unfold countDiscard
  split
  · rfl
  · split
    · rfl
    · split
      · rfl
      · rfl

/-! ### Ageing (R213, R214) -/

/-- The aged head of a queue's HEAD is discarded. -/
theorem ageQueue_head {qid : Nat} {e : EMsg} {rest : List EMsg} {h : Hw} (hhead : (h.eq qid).head = e :: rest)
    (haged : aged h e = true) :
    ageQueue h qid = leaveQueue qid (discardMsg e 213 (h.setEq qid { h.eq qid with head := rest })) := by
  unfold ageQueue
  dsimp only
  rw [hhead]
  exact if_pos haged

theorem exec_ageingCheck_one {s : State} {qid : Nat} {q : EQ} (heqs : s.mach.hw.sw.eqs = [(qid, q)]) :
    exec .ageingCheck s = onHw (fun h => ageQueue h qid) s := by
  rw [show exec .ageingCheck s = execAgeingCheck s from rfl, execAgeingCheck]
  exact onHw_congr (by rw [heqs]; rfl)

theorem eq_of_eqs_one {h : Hw} {qid : Nat} {q : EQ} (heqs : h.sw.eqs = [(qid, q)]) : h.eq qid = q := by
  rw [Hw.eq, heqs, Store.getD, Store.get?, if_pos rfl, Option.getD_some]

theorem ageingCheck_completes {s : State} {qid : Nat} {q : EQ} {e : EMsg} (heqs : s.mach.hw.sw.eqs = [(qid, q)]) (hhead : q.head = [e])
    (haged : aged s.mach.hw e = true) (hmc : e.mc = none) (htid : e.msg.tid = none) (hrsp : e.rsp = none) :
    Completes .ageingCheck s (fun m =>
      (m.hw.eq qid).head = [] ∧ m.hw.sw.used = s.mach.hw.sw.used - e.got ∧
      m.hw.fget F.SW_AGEDROP_VAL 0 = min (s.mach.hw.fget F.SW_AGEDROP_VAL 0 + 1) (2 ^ 32 - 1) ∧
      m.hw.out = .rsp e.msg.rid (discardRsp e.msg.cls) :: s.mach.hw.out ∧ m.mem = s.mach.mem ∧
      FieldsKept [(F.SW_AGEDROP_VAL, 0)] s.mach m) := by
  have hage := ageQueue_head (h := s.mach.hw) (by rw [eq_of_eqs_one heqs, hhead]) haged
  generalize hq : { s.mach.hw.eq qid with head := ([] : List EMsg) } = q' at hage
  obtain ⟨voq, out, hdisc, hout⟩ := discardMsg_untenanted hmc htid 213 (s.mach.hw.setEq qid q')
  have hcount := countDiscard_ageing (s.mach.hw.setEq qid q')
  obtain ⟨eqs, ts, hleave⟩ := leaveQueue_frame qid (discardMsg e 213 (s.mach.hw.setEq qid q'))
  refine completes_onHw (exec_ageingCheck_one heqs) ?_
  rw [Mach.onHw, hage]
  refine ⟨?_, ?_, ?_, ?_, rfl, FieldsKept.congr ((FieldsKept.refl _ s.mach).fset
    (List.mem_singleton_self (F.SW_AGEDROP_VAL, 0)) (min (s.mach.hw.fget F.SW_AGEDROP_VAL 0 + 1) (2 ^ 32 - 1))) ?_⟩
  · have heq : (discardMsg e 213 (s.mach.hw.setEq qid q')).eq qid = q' := by
      rw [hdisc, hcount]
      exact Hw.eq_setEq _ _ _
    rw [head_leaveQueue, heq, ← hq]
  · rw [hleave, hdisc]
    rfl
  · rw [hleave, hdisc, hcount]
    exact Hw.fget_fadd_same s.mach.hw F.SW_AGEDROP_VAL 0 1
  · rw [hleave, hdisc]
    exact hout hrsp
  · rw [hleave, hdisc, hcount]
    rfl

/-! ### The egress of a block's port (R195, R197, R198, R234) -/

/-- The settings that take effect change the shapers alone. -/
theorem shaperTakes_frame (xp : Option Nat) (h : Hw) : ∃ ts, shaperTakes xp h = { h with ts := ts } := by
  unfold shaperTakes
  generalize List.filter _ h.ts.shNew = l
  induction l generalizing h with
  | nil => exact ⟨h.ts, rfl⟩
  | cons q l ih =>
    obtain ⟨ts, hts⟩ := ih (shaperTake h q)
    exact ⟨ts, by rw [List.foldl_cons, hts]; rfl⟩

theorem iterN_fixed {σ : Type} {f : Nat → σ → σ} {x : σ} {i n : Nat} (hf : ∀ k, i ≤ k → k < i + n → f k x = x) : iterN f i n x = x := by
  induction n generalizing i with
  | zero => rfl
  | succ n ih =>
    rw [iterN, hf i (Nat.le_refl i) (by omega)]
    exact ih (fun k h1 h2 => hf k (by omega) (by omega))

/-- The queue set of block port `xp` holds one message, at the head of its first strict queue, which egress may send. -/
structure BlockHead (xp : Nat) (credit : List MsgCls) (e : EMsg) (h : Hw) : Prop where
  lo : 80 ≤ xp
  idle : h.sw.inTx = []
  head : (h.eq (16 * xp)).head = [e]
  others : ∀ k, k < 16 → 1 ≤ k → (h.eq (16 * xp + k)).head = []
  eg : e.eg = xp
  whole : e.got = e.total
  tail : e.msg.tail = true
  mc : e.mc = none
  tid : e.msg.tid = none
  kept : discardRule h e = none
  credit : credit.contains e.msg.cls = true
  unshaped : slopeOf h (16 * xp) = 0

section
variable {xp : Nat} {credit : List MsgCls} {e : EMsg} {h : Hw}

theorem BlockHead.egUp (hb : BlockHead xp credit e h) : h.egUp xp = true := by
  have := hb.lo
  rw [Hw.egUp, if_neg (by omega), if_neg (by omega)]

theorem BlockHead.good (hb : BlockHead xp credit e h) : e.bad = false := by
  have hkept := hb.kept
  rw [discardRule] at hkept
  by_contra hbad
  rw [if_pos (by simpa using hbad)] at hkept
  cases hkept

theorem BlockHead.purge (hb : BlockHead xp credit e h) : purgeSet xp h = h := by
  refine iterN_fixed (fun k _ hk => ?_)
  rcases Nat.eq_zero_or_pos k with rfl | hpos
  · rw [Nat.add_zero, hb.head, List.length_singleton, purgeHead]
    simp only [hb.head, hb.kept]
  · rw [hb.others k (by omega) hpos]
    rfl

theorem BlockHead.select (hb : BlockHead xp credit e h) : selectQueue xp credit h = (some 0, h) := by
  have hlo := hb.lo
  have hstart : Machine.mayStart h e = true := by
    rw [Machine.mayStart, hb.eg, if_neg (by omega), if_neg (by omega), hb.whole, hb.tail, decide_eq_true rfl]
    rfl
  have helig : eligible h credit (16 * xp + 0) = true := by
    rw [eligible, Nat.add_zero, hb.head]
    dsimp only
    rw [hstart, hb.credit, hb.unshaped, beq_self_eq_true, Bool.or_true]
    rfl
  have hfind : [0, 1, 2, 3].find? (fun q => eligible h credit (16 * xp + q)) = some 0 := List.find?_cons_of_pos helig
  rw [selectQueue, hfind]

/-- The switch core once the head's cells have been read without an error after its header: the message is sent, or discarded as BAD. -/
def headRead (xp : Nat) (e : EMsg) (x : EMsg × Hw) : Hw :=
  leaveQueue (16 * xp) (if x.1.bad then discardMsg x.1 198 x.2 else startMsg xp (16 * xp) .good e x.2)

/-- A block's cells are all read before the header leaves (R196). -/
theorem BlockHead.egressSelect (hb : BlockHead xp credit e h) (ecc : Ecc) : egressSelect xp credit ecc .good h =
    shaperTakes (some xp) (headRead xp e (readCells ecc e (h.setEq (16 * xp) { h.eq (16 * xp) with head := [] }))) := by
  have hlo := hb.lo
  have hlate : lateRead h xp = false := by
    rw [lateRead, if_neg (by omega)]
    exact decide_eq_false (by omega)
  have hecc : (if ecc = .good then Ecc.good else ecc) = ecc := by split <;> simp_all
  unfold Machine.egressSelect
  dsimp only
  rw [hb.egUp, hb.idle, hb.purge, hb.select, Store.get?_nil, decide_eq_true (show 72 ≤ xp by omega)]
  dsimp only
  rw [Bool.true_or, Option.isNone_none, if_pos (by decide), Nat.add_zero, hb.head, hlate]
  dsimp only
  rw [if_neg Bool.false_ne_true, if_neg Bool.false_ne_true, if_neg (show ¬Ecc.good = Ecc.ue by decide), hecc]
  rfl

/-- What sending the head leaves: its queue without it, its cells freed, and the message or the response sent. -/
theorem BlockHead.send (hb : BlockHead xp credit e h) (q : EQ) : startMsg xp (16 * xp) .good e (h.setEq (16 * xp) q) =
    (sentOut e false (h.setEq (16 * xp) q)).freeN e.got := by
  have hdebit : debit (16 * xp) e.msg.len (h.setEq (16 * xp) q) = h.setEq (16 * xp) q := by
    rw [debit]
    exact if_pos hb.unshaped
  obtain ⟨htid, -⟩ := counted_untenanted hb.tid
  have heffect : ∀ x, sentEffect e x = x := fun x => by rw [sentEffect, htid]
  rw [startMsg, sendMsg]
  dsimp only
  rw [hdebit, if_pos ⟨hb.whole, hb.tail⟩, sentMsg, hb.mc, heffect]

theorem egressSelect_sends {s : State} (hb : BlockHead xp credit e s.mach.hw) :
    Completes (.egressSelect xp credit ⟨.good, .good⟩) s (fun m =>
      (m.hw.eq (16 * xp)).head = [] ∧ m.hw.sw.used = s.mach.hw.sw.used - e.got ∧
      (∀ r, e.rsp = some r → m.hw.out = .reply xp e.msg.rid r e.msg.tag :: s.mach.hw.out) ∧
      (e.rsp = none → m.hw.out = .msgOut xp e.msg.rid false :: s.mach.hw.out) ∧
      m.hw.regs = s.mach.hw.regs ∧ m.hw.bd = s.mach.hw.bd ∧ m.mem = s.mach.mem) := by
  have hsel := hb.egressSelect .good
  generalize hq : { s.mach.hw.eq (16 * xp) with head := ([] : List EMsg) } = q at hsel
  have hsent : headRead xp e (readCells .good e (s.mach.hw.setEq (16 * xp) q)) =
      leaveQueue (16 * xp) ((sentOut e false (s.mach.hw.setEq (16 * xp) q)).freeN e.got) := by
    rw [headRead, readCells]
    dsimp only
    rw [hb.good, if_neg Bool.false_ne_true, hb.send]
  obtain ⟨eqs, ts, hleave⟩ := leaveQueue_frame (16 * xp) ((sentOut e false (s.mach.hw.setEq (16 * xp) q)).freeN e.got)
  have hhead := head_leaveQueue (16 * xp) ((sentOut e false (s.mach.hw.setEq (16 * xp) q)).freeN e.got)
  obtain ⟨ts', htakes⟩ := shaperTakes_frame (some xp) (headRead xp e (readCells .good e (s.mach.hw.setEq (16 * xp) q)))
  refine completes_onHw (f := egressSelect xp credit .good .good) rfl ?_
  rw [Mach.onHw, hsel, htakes, hsent]
  have hout : sentOut e false (s.mach.hw.setEq (16 * xp) q) = { s.mach.hw.setEq (16 * xp) q with
      out := (sentOut e false (s.mach.hw.setEq (16 * xp) q)).out } := by
    unfold sentOut
    split <;> rfl
  refine ⟨hhead.trans ?_, ?_, fun r hr => ?_, fun hn => ?_, ?_, ?_, rfl⟩
  · rw [hout, ← hq]
    exact congrArg EQ.head (Hw.eq_setEq _ _ _)
  · rw [hleave, hout]
    rfl
  · rw [hleave, sentOut, hr, ← hb.eg]
    rfl
  · rw [hleave, sentOut, hn, ← hb.eg]
    rfl
  · rw [hleave, hout]
    rfl
  · rw [hleave, hout]
    rfl

/-- What is reported of a message that becomes BAD changes the fault collector alone (R199). -/
theorem reportBad_frame (ing : Nat) (h : Hw) : ∃ regs fc, reportBad ing h = { h with regs := regs, fc := fc } ∧
    ({ h with regs := regs } : Hw).fget F.SW_BADDROP_VAL 0 = h.fget F.SW_BADDROP_VAL 0 := by
  unfold reportBad
  split
  · have hkept : (h.raise { code := 0x2602, dom := domPort, dinst := ing, unit := ing }).fget F.SW_BADDROP_VAL 0 = h.fget F.SW_BADDROP_VAL 0 :=
      Hw.fget_raise _ _ (by decide) (by decide)
    obtain ⟨regs, fc, hraise, -⟩ := Hw.raise_frame h { code := 0x2602, dom := domPort, dinst := ing, unit := ing }
    rw [hraise] at hkept
    exact ⟨regs, fc, hraise, hkept⟩
  · exact ⟨h.regs, h.fc, rfl, rfl⟩

theorem egressSelect_discards {s : State} (hb : BlockHead xp credit e s.mach.hw) :
    Completes (.egressSelect xp credit ⟨.ue, .good⟩) s (fun m =>
      (m.hw.eq (16 * xp)).head = [] ∧ m.hw.sw.used = s.mach.hw.sw.used - e.got ∧
      m.hw.fget F.SW_BADDROP_VAL 0 = min (s.mach.hw.fget F.SW_BADDROP_VAL 0 + 1) (2 ^ 32 - 1) ∧ m.mem = s.mach.mem) := by
  have hsel := hb.egressSelect .ue
  generalize hq : { s.mach.hw.eq (16 * xp) with head := ([] : List EMsg) } = q at hsel
  obtain ⟨regs, fc, hreport, hkept⟩ := reportBad_frame e.msg.ing (s.mach.hw.setEq (16 * xp) q)
  obtain ⟨voq, out, hdisc, -⟩ := discardMsg_untenanted (e := { e with bad := true }) hb.mc hb.tid 198
    (reportBad e.msg.ing (s.mach.hw.setEq (16 * xp) q))
  have hread : headRead xp e (readCells .ue e (s.mach.hw.setEq (16 * xp) q)) =
      leaveQueue (16 * xp) (discardMsg { e with bad := true } 198 (reportBad e.msg.ing (s.mach.hw.setEq (16 * xp) q))) := by
    rw [headRead, readCells, hb.good]
    rfl
  obtain ⟨eqs, ts, hleave⟩ := leaveQueue_frame (16 * xp)
    (discardMsg { e with bad := true } 198 (reportBad e.msg.ing (s.mach.hw.setEq (16 * xp) q)))
  have hhead := head_leaveQueue (16 * xp)
    (discardMsg { e with bad := true } 198 (reportBad e.msg.ing (s.mach.hw.setEq (16 * xp) q)))
  obtain ⟨ts', htakes⟩ := shaperTakes_frame (some xp) (headRead xp e (readCells .ue e (s.mach.hw.setEq (16 * xp) q)))
  refine completes_onHw (f := egressSelect xp credit .ue .good) rfl ?_
  rw [Mach.onHw, hsel, htakes, hread]
  refine ⟨hhead.trans ?_, ?_, ?_, rfl⟩
  · rw [hdisc, hreport, countDiscard_bad, ← hq]
    exact congrArg EQ.head (Hw.eq_setEq _ _ _)
  · rw [hleave, hdisc, hreport]
    rfl
  · rw [hleave, hdisc, countDiscard_bad, hreport]
    have hcounted := Hw.fget_fadd_same ({ s.mach.hw.setEq (16 * xp) q with regs := regs } : Hw) F.SW_BADDROP_VAL 0 1
    rw [hkept] at hcounted
    exact hcounted

end

end Sys2Proof.Machine

namespace Sys2Proof.Machine

/-! ### The ports and the VOQ of two internal blocks (R175, R191) -/

theorem mem_keys_put {α : Type} (m : SMap α) (k x : Nat) (v : α) :
    x ∈ (Store.put m k v).map Prod.fst ↔ x = k ∨ x ∈ m.map Prod.fst := by
  induction m with
  | nil => simp [Store.put]
  | cons y m ih =>
    rw [Store.put]
    split
    · simp
    · split
      · next hk => simp [hk]
      · rw [List.map_cons, List.mem_cons, ih, List.map_cons, List.mem_cons]
        exact or_left_comm

theorem mem_sortNats {x : Nat} {l : List Nat} : x ∈ sortNats l ↔ x ∈ l := by
  have hfold : ∀ m : SMap Unit, x ∈ (l.foldl (fun m x => Store.put m x ()) m).map Prod.fst ↔ x ∈ l ∨ x ∈ m.map Prod.fst := by
    induction l with
    | nil => simp
    | cons y l ih =>
      intro m
      rw [List.foldl_cons, ih, mem_keys_put, List.mem_cons]
      exact ⟨fun h => h.elim (.inl ∘ .inr) (fun h => h.elim (.inl ∘ .inl) .inr), fun h => h.elim (fun h => h.elim (.inr ∘ .inl) .inl) (.inr ∘ .inr)⟩
  rw [sortNats, hfold]
  simp

/-- The lowest port of an internal block does not depend on the state. -/
theorem xpOwner_block {n : Nat} (hn : 80 ≤ n) (h h' : Hw) : xpOwner h n = xpOwner h' n := by
  have hport : ¬n < 72 := by omega
  have hspire : ¬n < 80 := by omega
  simp only [xpOwner, if_neg hport, if_neg hspire]

theorem xpOwner_mem_blocks {n : Nat} (hlo : 80 ≤ n) (hhi : n < 95) (h : Hw) : xpOwner h n ∈ [80, 88, 92, 94] := by
  rw [xpOwner, if_neg (by omega), if_neg (by omega)]
  split
  · simp
  · split
    · simp
    · split
      · simp
      · rw [show n = 94 by omega]
        simp

/-- The ports of an internal block: at least one, each in the block. -/
theorem xpsOf_block {b : Nat} (hb : b ∈ [80, 88, 92, 94]) (h : Hw) :
    xpsOf h b ≠ [] ∧ ∀ x ∈ xpsOf h b, 80 ≤ x ∧ xpOwner h x = b := by
  have hrange : ∀ w lo, 1 ≤ w → 80 ≤ lo → xpsOf h lo = (List.range w).map (· + lo) → (∀ k, k < w → xpOwner h (k + lo) = lo) →
      xpsOf h lo ≠ [] ∧ ∀ x ∈ xpsOf h lo, 80 ≤ x ∧ xpOwner h x = lo := by
    intro w lo hw hlo hxps howner
    rw [hxps]
    refine ⟨by simp; omega, fun x hx => ?_⟩
    obtain ⟨k, hk, rfl⟩ := List.mem_map.mp hx
    exact ⟨Nat.le_trans hlo (Nat.le_add_left _ _), howner k (List.mem_range.mp hk)⟩
  fin_cases hb
  · exact hrange 8 80 (by decide) (by decide) rfl (fun k hk => by interval_cases k <;> rfl)
  · exact hrange 4 88 (by decide) (by decide) rfl (fun k hk => by interval_cases k <;> rfl)
  · exact hrange 2 92 (by decide) (by decide) rfl (fun k hk => by interval_cases k <;> rfl)
  · exact hrange 1 94 (by decide) (by decide) rfl (fun k hk => by interval_cases k; rfl)

/-- One message waits in the VOQs, between two internal blocks, with all of its one cell. -/
structure BlockVoq (e : EMsg) (h : Hw) : Prop where
  voq : h.sw.voq = [e]
  ingLo : 80 ≤ e.msg.ing
  ingHi : e.msg.ing < 95
  egLo : 80 ≤ e.eg
  egHi : e.eg < 95
  tail : e.msg.tail = true
  free : h.fget F.SW_BUFCFG_SRESV 0 < h.freeCells

/-- The class in which message `e` is granted: strict or not (R231). -/
def strictMsg (e : EMsg) : Bool := decide (e.q < 4)

/-- The crossbar ports of the block that sends `e`. -/
def inPorts (e : EMsg) (h : Hw) : List Nat := sortNats (xpsOf h (xpOwner h e.msg.ing))

/-- The crossbar ports of the block that `e` is for. -/
def outPorts (e : EMsg) (h : Hw) : List Nat := sortNats (xpsOf h (xpOwner h e.eg))

theorem exists_mem_sortNats {l : List Nat} (hl : l ≠ []) : ∃ x, x ∈ sortNats l := by
  obtain ⟨x, hx⟩ := List.exists_mem_of_ne_nil l hl
  exact ⟨x, mem_sortNats.mpr hx⟩

section
variable {e : EMsg} {h : Hw}

theorem BlockVoq.exists_in (hb : BlockVoq e h) : ∃ i, i ∈ inPorts e h :=
  exists_mem_sortNats (xpsOf_block (xpOwner_mem_blocks hb.ingLo hb.ingHi h) h).1

theorem BlockVoq.exists_out (hb : BlockVoq e h) : ∃ j, j ∈ outPorts e h :=
  exists_mem_sortNats (xpsOf_block (xpOwner_mem_blocks hb.egLo hb.egHi h) h).1

/-- Every pair of ports of the two blocks serves the message, in its class; so in every state. -/
theorem BlockVoq.inVoq (hb : BlockVoq e h) {i j : Nat} (hi : i ∈ inPorts e h) (hj : j ∈ outPorts e h) (strict : Bool) {e' : EMsg}
    (hing : e'.msg.ing = e.msg.ing) (heg : e'.eg = e.eg) (hq : e'.q = e.q) (h' : Hw) :
    Machine.inVoq h' i j strict e' = (strictMsg e == strict) := by
  obtain ⟨hi80, hi'⟩ := (xpsOf_block (xpOwner_mem_blocks hb.ingLo hb.ingHi h) h).2 i (mem_sortNats.mp hi)
  obtain ⟨hj80, hj'⟩ := (xpsOf_block (xpOwner_mem_blocks hb.egLo hb.egHi h) h).2 j (mem_sortNats.mp hj)
  rw [Machine.inVoq, hing, heg, hq, xpOwner_block hb.ingLo h' h, xpOwner_block hb.egLo h' h, xpOwner_block hi80 h' h,
    xpOwner_block hj80 h' h, hi', hj', beq_self_eq_true, beq_self_eq_true, Bool.and_true, Bool.and_true, strictMsg]

theorem BlockVoq.requests (hb : BlockVoq e h) {i j : Nat} (hi : i ∈ inPorts e h) (hj : j ∈ outPorts e h) (strict : Bool) :
    Machine.requests h i j strict = (strictMsg e == strict) := by
  rw [Machine.requests, hb.voq, List.find?_singleton, hb.inVoq hi hj strict rfl rfl rfl]
  cases strictMsg e == strict with
  | false => rfl
  | true => exact (congrArg (_ || ·) hb.tail).trans (Bool.or_true _)

/-! ### The matcher (R192) -/

/-- A pointer finds a port of every list that has one. -/
theorem firstFrom_cons (ptr x : Nat) (l : List Nat) : ∃ y ∈ x :: l, firstFrom ptr (x :: l) = some y := by
  induction l generalizing x with
  | nil => exact ⟨x, List.mem_singleton_self x, rfl⟩
  | cons z l ih =>
    have hstep : firstFrom ptr (x :: z :: l) = if (z + 96 - ptr) % 96 < (x + 96 - ptr) % 96 then firstFrom ptr (z :: l) else firstFrom ptr (x :: l) := by
      simp only [firstFrom, List.foldl_cons]
      split <;> rfl
    rw [hstep]
    split
    · obtain ⟨y, hy, hfirst⟩ := ih z
      exact ⟨y, List.mem_cons_of_mem _ hy, hfirst⟩
    · obtain ⟨y, hy, hfirst⟩ := ih x
      exact ⟨y, (List.mem_cons.mp hy).elim (fun h => h ▸ List.mem_cons_self) (fun h => List.mem_cons_of_mem _ (List.mem_cons_of_mem _ h)), hfirst⟩

theorem firstFrom_mem {ptr y : Nat} {l : List Nat} (hfirst : firstFrom ptr l = some y) : y ∈ l := by
  cases l with
  | nil => cases hfirst
  | cons x l =>
    obtain ⟨z, hz, hz'⟩ := firstFrom_cons ptr x l
    rw [hfirst] at hz'
    cases hz'
    exact hz

theorem firstFrom_of_mem (ptr : Nat) {x : Nat} {l : List Nat} (hx : x ∈ l) : ∃ y, firstFrom ptr l = some y := by
  cases l with
  | nil => cases hx
  | cons z l =>
    obtain ⟨y, -, hfirst⟩ := firstFrom_cons ptr z l
    exact ⟨y, hfirst⟩

theorem BlockVoq.filter_requests (hb : BlockVoq e h) {j : Nat} (hj : j ∈ outPorts e h) (strict : Bool) :
    (inPorts e h).filter (fun i => Machine.requests h i j strict) = if strictMsg e = strict then inPorts e h else [] := by
  rw [List.filter_congr (fun i hi => hb.requests hi hj strict)]
  split
  · next hs => exact List.filter_eq_self.mpr (fun i _ => beq_iff_eq.mpr hs)
  · next hs => exact List.filter_eq_nil_iff.mpr (fun i _ hi => hs (beq_iff_eq.mp hi))

/-- An output of the block grants, where a cell may be allocated, to a port of the sender and in the message's class. -/
theorem BlockVoq.grantOf (hb : BlockVoq e h) {j : Nat} (hj : j ∈ outPorts e h) (gptr : SMap Nat) (n : Nat) :
    Machine.grantOf h (inPorts e h) gptr n j =
      (firstFrom (Store.getD 0 gptr j) (if allocOk h (strictMsg e) n then inPorts e h else [])).map (fun i => (i, strictMsg e)) := by
  obtain ⟨i, hi⟩ := hb.exists_in
  have hne : (inPorts e h).isEmpty = false := List.isEmpty_eq_false_iff.mpr (List.ne_nil_of_mem hi)
  rw [Machine.grantOf, hb.filter_requests hj true, hb.filter_requests hj false]
  have hnil : ∀ ptr, firstFrom ptr [] = none := fun _ => rfl
  cases strictMsg e <;> cases allocOk h true n <;> simp [hne, hnil]

theorem BlockVoq.allocOk (hb : BlockVoq e h) (strict : Bool) : Machine.allocOk h strict 0 = true := by
  have hfree := hb.free
  rw [Machine.allocOk]
  split <;> exact decide_eq_true (by omega)

/-- What is matched, as (sender's port, receiver's port, class), serves the message. -/
def ServesMsg (e : EMsg) (h : Hw) (p : Nat × Nat × Bool) : Prop := p.1 ∈ inPorts e h ∧ p.2.1 ∈ outPorts e h ∧ p.2.2 = strictMsg e

theorem BlockVoq.grantsOf_serve (hb : BlockVoq e h) (st : MatchSt) :
    ∀ g ∈ grantsOf h (inPorts e h) (outPorts e h) st, ServesMsg e h (g.2.1, g.1, g.2.2) := by
  refine List.foldlRecOn (motive := fun (gs : List (Nat × Nat × Bool)) => ∀ g ∈ gs, ServesMsg e h (g.2.1, g.1, g.2.2)) _ _ (fun g hg => absurd hg (List.not_mem_nil)) ?_
  intro gs hgs j hj
  split
  · exact hgs
  · split
    · next g hgrant =>
      rw [hb.grantOf hj] at hgrant
      obtain ⟨i, hi, rfl⟩ := Option.map_eq_some_iff.mp hgrant
      have hin : i ∈ inPorts e h := by
        have := firstFrom_mem hi
        split at this
        · exact this
        · cases this
      intro g hg
      rcases List.mem_append.mp hg with hg | hg
      · exact hgs g hg
      · rw [List.mem_singleton.mp hg]
        exact ⟨hin, hj, rfl⟩
    · exact hgs

/-- In the slot's first iteration an output grants. -/
theorem BlockVoq.exists_grant (hb : BlockVoq e h) {st : MatchSt} (hst : st.pairs = []) :
    ∃ g, g ∈ grantsOf h (inPorts e h) (outPorts e h) st := by
  obtain ⟨j, rest, hout⟩ : ∃ j rest, outPorts e h = j :: rest := by
    obtain ⟨j, hj⟩ := hb.exists_out
    exact List.exists_cons_of_ne_nil (List.ne_nil_of_mem hj)
  obtain ⟨i, hi⟩ := hb.exists_in
  obtain ⟨i', hfirst⟩ := firstFrom_of_mem (Store.getD 0 st.gptr j) hi
  have hgrant : Machine.grantOf h (inPorts e h) st.gptr 0 j = some (i', strictMsg e) := by
    rw [hb.grantOf (hout ▸ List.mem_cons_self), hb.allocOk, if_pos rfl, hfirst]
    rfl
  refine List.exists_mem_of_ne_nil _ ?_
  rw [hout, grantsOf, List.foldl_cons]
  refine List.foldlRecOn (motive := fun gs => gs ≠ []) _ _ ?_ ?_
  · rw [hst, List.any_nil, if_neg Bool.false_ne_true, List.length_nil, hgrant]
    exact List.cons_ne_nil _ _
  · intro gs hgs j' _
    split
    · exact hgs
    · split
      · exact List.append_ne_nil_of_left_ne_nil hgs _
      · exact hgs

/-- What accepting does to the pairs: none is removed, and a new one serves the message. -/
theorem acceptOne_pairs {grants : List (Nat × Nat × Bool)} (hg : ∀ g ∈ grants, ServesMsg e h (g.2.1, g.1, g.2.2)) (first : Bool)
    (st : MatchSt) (i : Nat) :
    ((acceptOne first grants st i).pairs = st.pairs ∧ ∀ g ∈ grants, g.2.1 ≠ i) ∨
      ∃ p, (acceptOne first grants st i).pairs = st.pairs ++ [p] ∧ ServesMsg e h p := by
  unfold acceptOne
  dsimp only
  split
  · next hnone =>
    refine .inl ⟨rfl, fun g hgm hgi => ?_⟩
    have hmem : g ∈ grants.filter (fun g => g.2.1 == i) := List.mem_filter.mpr ⟨hgm, beq_iff_eq.mpr hgi⟩
    obtain ⟨y, hy⟩ := firstFrom_of_mem (Store.getD 0 st.aptr i) (List.mem_map_of_mem (f := Prod.fst) hmem)
    rw [hnone] at hy
    cases hy
  · next k hk =>
    obtain ⟨g, hgm, rfl⟩ := List.mem_map.mp (firstFrom_mem hk)
    obtain ⟨hgm', hgi⟩ := List.mem_filter.mp hgm
    obtain ⟨hin, hout, hcls⟩ := hg g hgm'
    refine .inr ⟨_, rfl, ?_, hout, ?_⟩
    · exact beq_iff_eq.mp hgi ▸ hin
    · have hall : ∀ x ∈ grants.filter (fun g => g.2.1 == i), x.2.2 = strictMsg e := fun x hx => (hg x (List.mem_filter.mp hx).1).2.2
      rw [Bool.eq_iff_iff, List.any_eq_true]
      refine ⟨fun ⟨x, hx, hxs⟩ => ?_, fun hs => ⟨g, hgm, ?_⟩⟩
      · rw [← hall x hx]
        exact (Bool.and_eq_true _ _ ▸ hxs).2
      · rw [beq_self_eq_true, Bool.true_and]
        exact hcls.trans hs

theorem acceptOne_fold_serve {grants : List (Nat × Nat × Bool)} (hg : ∀ g ∈ grants, ServesMsg e h (g.2.1, g.1, g.2.2)) (first : Bool)
    (l : List Nat) (st : MatchSt) (hst : ∀ p ∈ st.pairs, ServesMsg e h p) :
    ∀ p ∈ (l.foldl (acceptOne first grants) st).pairs, ServesMsg e h p := by
  refine List.foldlRecOn (motive := fun (x : MatchSt) => ∀ p ∈ x.pairs, ServesMsg e h p) _ _ hst (fun x hx i _ => ?_)
  rcases acceptOne_pairs hg first x i with ⟨hsame, -⟩ | ⟨p, hadd, hp⟩
  · rw [hsame]
    exact hx
  · rw [hadd]
    intro p' hp'
    rcases List.mem_append.mp hp' with hp' | hp'
    · exact hx p' hp'
    · exact List.mem_singleton.mp hp' ▸ hp

theorem acceptOne_fold_ne_nil {grants : List (Nat × Nat × Bool)} (hg : ∀ g ∈ grants, ServesMsg e h (g.2.1, g.1, g.2.2)) (first : Bool)
    (l : List Nat) {st : MatchSt} (hst : st.pairs ≠ []) : (l.foldl (acceptOne first grants) st).pairs ≠ [] := by
  refine List.foldlRecOn (motive := fun (x : MatchSt) => x.pairs ≠ []) _ _ hst (fun x hx i _ => ?_)
  rcases acceptOne_pairs hg first x i with ⟨hsame, -⟩ | ⟨p, hadd, -⟩
  · rw [hsame]
    exact hx
  · rw [hadd]
    exact List.append_ne_nil_of_left_ne_nil hx _

/-- An iteration keeps pairs that serve the message, and in the slot's first one some are matched. -/
theorem BlockVoq.matchIter (hb : BlockVoq e h) (first : Bool) {st : MatchSt} (hst : ∀ p ∈ st.pairs, ServesMsg e h p) :
    (matchIter h (inPorts e h) (outPorts e h) first st).pairs ≠ [] ∧
      ∀ p ∈ (matchIter h (inPorts e h) (outPorts e h) first st).pairs, ServesMsg e h p := by
  have hserve := hb.grantsOf_serve st
  refine ⟨?_, acceptOne_fold_serve hserve first _ st hst⟩
  by_cases hnil : st.pairs = []
  · obtain ⟨g, hg⟩ := hb.exists_grant hnil
    have hgrant : (grantsOf h (inPorts e h) (outPorts e h) st).any (fun x => x.2.1 == g.2.1) = true :=
      List.any_eq_true.mpr ⟨g, hg, beq_self_eq_true _⟩
    rw [Machine.matchIter]
    generalize hl : (inPorts e h).filter _ = l
    have hmem : g.2.1 ∈ l := by
      rw [← hl, List.mem_filter, hnil, List.any_nil, hgrant]
      exact ⟨(hserve g hg).1, rfl⟩
    obtain ⟨i, rest, rfl⟩ := List.exists_cons_of_ne_nil (List.ne_nil_of_mem hmem)
    have hi : i ∈ i :: rest := List.mem_cons_self
    rw [← hl, List.mem_filter, Bool.and_eq_true, List.any_eq_true] at hi
    obtain ⟨-, -, g', hg', hgi⟩ := hi
    rw [List.foldl_cons]
    refine acceptOne_fold_ne_nil hserve first rest ?_
    rcases acceptOne_pairs hserve first st i with ⟨-, hno⟩ | ⟨p, hadd, -⟩
    · exact absurd (beq_iff_eq.mp hgi) (hno g' hg')
    · rw [hadd]
      exact List.append_ne_nil_of_right_ne_nil _ (List.cons_ne_nil _ _)
  · exact acceptOne_fold_ne_nil hserve first _ hnil

theorem BlockVoq.matchLoop_serve (hb : BlockVoq e h) (first : Bool) {st : MatchSt} (hst : ∀ p ∈ st.pairs, ServesMsg e h p) (n : Nat) :
    ∀ p ∈ (matchLoop h (inPorts e h) (outPorts e h) first st n).pairs, ServesMsg e h p := by
  induction n generalizing first st with
  | zero => exact hst
  | succ n ih => exact ih false (hb.matchIter first hst).2

theorem BlockVoq.matchLoop_ne_nil (hb : BlockVoq e h) (first : Bool) {st : MatchSt} (hst : ∀ p ∈ st.pairs, ServesMsg e h p) (n : Nat) :
    (matchLoop h (inPorts e h) (outPorts e h) first st (n + 1)).pairs ≠ [] := by
  induction n generalizing first st with
  | zero => exact (hb.matchIter first hst).1
  | succ n ih => exact ih false (hb.matchIter first hst).2

/-! ### The transfer of a matched cell (R193, R195) -/

/-- The message joins an egress queue that is not spilling, and spills nothing. -/
theorem joinQueue_head {e : EMsg} {h : Hw} (hspen : h.flag F.SW_CTRL_SPEN 0 = false) (hsp : (h.eq (16 * e.eg + e.q)).spilling = false) :
    ∃ regs, joinQueue e h =
      { h.setEq (16 * e.eg + e.q) { h.eq (16 * e.eg + e.q) with head := (h.eq (16 * e.eg + e.q)).head ++ [e] } with regs := regs } := by
  have hstay : ((h.eq (16 * e.eg + e.q)).spilling || spillNow h (h.eq (16 * e.eg + e.q))) = false := by
    rw [spillNow, hspen, hsp]
    rfl
  unfold joinQueue
  dsimp only
  rw [hstay]
  split
  · exact ⟨_, rfl⟩
  · exact ⟨h.regs, rfl⟩

/-- A pair carries nothing when no message waits. -/
theorem carryCell_empty {h : Hw} (hvoq : h.sw.voq = []) (p : Nat × Nat × Bool) : carryCell h p = h := by
  rw [carryCell, hvoq]
  rfl

theorem carryCell_fold_empty {h : Hw} (hvoq : h.sw.voq = []) (ps : List (Nat × Nat × Bool)) : ps.foldl carryCell h = h := by
  induction ps with
  | nil => rfl
  | cons p ps ih => rw [List.foldl_cons, carryCell_empty hvoq, ih]

/-- The message with one cell more, which port `i` carries. -/
def EMsg.carried (e : EMsg) (i : Nat) : EMsg := { e with got := e.got + 1, srcxp := e.srcxp ++ [i] }

/-- The last cell of a message crosses: the message leaves its VOQ, and its credits return. -/
theorem carryCell_last {e : EMsg} {h : Hw} {p : Nat × Nat × Bool} (hfind : h.sw.voq.find? (inVoq h p.1 p.2.1 p.2.2) = some e)
    (hhere : cellHere e = true) (hlast : e.got + 1 = e.total) :
    carryCell h p =
      let x := linkCell (e.carried p.1)
        { h with sw := { h.sw with voq := updateFirst (inVoq h p.1 p.2.1 p.2.2) (fun _ => e.carried p.1) h.sw.voq } }
      { x with sw := { x.sw with voq := removeFirst (inVoq h p.1 p.2.1 p.2.2) x.sw.voq }, out := .credits e.msg.ing e.msg.rid :: x.out } := by
  unfold carryCell
  dsimp only
  rw [hfind]
  dsimp only
  rw [hhere, Bool.not_true, if_neg Bool.false_ne_true, if_pos (decide_eq_true hlast)]
  rfl

/-- The message of one cell crosses whole: it leaves its VOQ, and joins its egress queue in a cell. -/
theorem carryCell_one {e : EMsg} {h : Hw} {p : Nat × Nat × Bool} (hvoq : h.sw.voq = [e])
    (hsel : ∀ e' : EMsg, e'.msg.ing = e.msg.ing → e'.eg = e.eg → e'.q = e.q → inVoq h p.1 p.2.1 p.2.2 e' = true)
    (hgot : e.got = 0) (htotal : e.total = 1) (htail : e.msg.tail = true) (hgone : e.gone = false) (hlegs : e.legs = [])
    (hspen : h.flag F.SW_CTRL_SPEN 0 = false) (hsp : (h.eq (16 * e.eg + e.q)).spilling = false) :
    ∃ regs, carryCell h p = { ({ h with sw := { h.sw with voq := [], used := h.sw.used + 1 } } : Hw).setEq (16 * e.eg + e.q)
      { h.eq (16 * e.eg + e.q) with head := (h.eq (16 * e.eg + e.q)).head ++ [e.carried p.1] } with
      regs := regs, out := .credits e.msg.ing e.msg.rid :: h.out } := by
  have hfind : h.sw.voq.find? (inVoq h p.1 p.2.1 p.2.2) = some e := by
    rw [hvoq, List.find?_singleton, hsel e rfl rfl rfl, if_pos rfl]
  have hhere : cellHere e = true := by
    rw [cellHere, htail, Bool.or_true]
  have hupdate : updateFirst (inVoq h p.1 p.2.1 p.2.2) (fun _ => e.carried p.1) h.sw.voq = [e.carried p.1] := by
    rw [hvoq, updateFirst, hsel e rfl rfl rfl, if_pos rfl]
  have hremove : removeFirst (inVoq h p.1 p.2.1 p.2.2) [e.carried p.1] = [] := by
    rw [removeFirst, hsel (e.carried p.1) rfl rfl rfl, if_pos rfl]
  have hlink : ∀ x : Hw, linkCell (e.carried p.1) x = joinQueue (e.carried p.1) { x with sw := { x.sw with used := x.sw.used + 1 } } := by
    intro x
    rw [linkCell, show (e.carried p.1).gone = false from hgone, show (e.carried p.1).legs = [] from hlegs,
      show (e.carried p.1).got = 1 from congrArg (· + 1) hgot]
    rfl
  obtain ⟨regs, hjoin⟩ := joinQueue_head (e := e.carried p.1)
    (h := { h with sw := { h.sw with voq := [e.carried p.1], used := h.sw.used + 1 } }) hspen hsp
  refine ⟨regs, ?_⟩
  rw [carryCell_last hfind hhere (by omega), hupdate]
  dsimp only
  rw [hlink, hjoin]
  dsimp only [Hw.setEq]
  rw [hremove]
  rfl

theorem BlockVoq.pairs (hb : BlockVoq e h) {n : Nat} (hn : 1 ≤ n) : ∃ p ps, ServesMsg e h p ∧
    (inPorts e h).filterMap (fun i => (matchLoop h (inPorts e h) (outPorts e h) true ⟨[], h.sw.gptr, h.sw.aptr⟩ n).pairs.find?
      (fun p => p.1 == i)) = p :: ps := by
  have hnil : ∀ p ∈ (⟨[], h.sw.gptr, h.sw.aptr⟩ : MatchSt).pairs, ServesMsg e h p := fun p hp => absurd hp List.not_mem_nil
  have hserve := hb.matchLoop_serve true hnil n
  obtain ⟨m, rfl⟩ : ∃ m, n = m + 1 := ⟨n - 1, by omega⟩
  obtain ⟨q, hq⟩ := List.exists_mem_of_ne_nil _ (hb.matchLoop_ne_nil true hnil m)
  generalize (matchLoop _ _ _ _ _ _).pairs = l at hserve hq ⊢
  have hsome : (l.find? (fun p => p.1 == q.1)).isSome = true := List.find?_isSome.mpr ⟨q, hq, beq_self_eq_true q.1⟩
  obtain ⟨p, hp⟩ := Option.isSome_iff_exists.mp hsome
  have hmem : p ∈ (inPorts e h).filterMap (fun i => l.find? (fun p => p.1 == i)) := List.mem_filterMap.mpr ⟨q.1, (hserve q hq).1, hp⟩
  obtain ⟨p', ps, hps⟩ := List.exists_cons_of_ne_nil (List.ne_nil_of_mem hmem)
  obtain ⟨i, -, hi⟩ := List.mem_filterMap.mp (hps ▸ List.mem_cons_self (a := p') (l := ps))
  exact ⟨p', ps, hserve p' (List.mem_of_find?_eq_some hi), hps⟩

/-- The matching of a slot in which `e` alone waits. -/
def slotMatch (e : EMsg) (h : Hw) : MatchSt :=
  matchLoop h (inPorts e h) (outPorts e h) true ⟨[], h.sw.gptr, h.sw.aptr⟩ (h.fget F.SW_CTRL_ITERS 0)

/-- The switch core as the matched pairs find it. -/
def slotStart (h : Hw) (st : MatchSt) : Hw :=
  { h.fadd F.SW_CREDHOLD_VAL 0 (refusedVoqs h st.pairs) with sw := { h.sw with gptr := st.gptr, aptr := st.aptr } }

theorem matchSlot_one (hhalt : h.flag F.SW_CTRL_HALT 0 = false) (hvoq : h.sw.voq = [e]) : matchSlot h =
    ((inPorts e h).filterMap (fun i => (slotMatch e h).pairs.find? (fun p => p.1 == i))).foldl carryCell (slotStart h (slotMatch e h)) := by
  unfold matchSlot
  rw [if_neg (by rw [hhalt]; exact Bool.false_ne_true)]
  dsimp only
  rw [hvoq, List.flatMap_singleton, List.flatMap_singleton]
  rfl

theorem matchingSlot_crosses {s : State} {e : EMsg} (hb : BlockVoq e s.mach.hw) (hhalt : s.mach.hw.flag F.SW_CTRL_HALT 0 = false)
    (hiters : 1 ≤ s.mach.hw.fget F.SW_CTRL_ITERS 0) (hgot : e.got = 0) (htotal : e.total = 1) (hgone : e.gone = false)
    (hlegs : e.legs = []) (hspen : s.mach.hw.flag F.SW_CTRL_SPEN 0 = false)
    (hsp : (s.mach.hw.eq (16 * e.eg + e.q)).spilling = false) :
    Completes .matchingSlot s (fun m =>
      m.hw.sw.voq = [] ∧ m.hw.sw.used = s.mach.hw.sw.used + 1 ∧
      (∃ i ∈ xpsOf s.mach.hw (xpOwner s.mach.hw e.msg.ing),
        (m.hw.eq (16 * e.eg + e.q)).head =
          (s.mach.hw.eq (16 * e.eg + e.q)).head ++ [{ e with got := 1, srcxp := e.srcxp ++ [i] }]) ∧
      (∀ k, k ≠ 16 * e.eg + e.q → m.hw.eq k = s.mach.hw.eq k) ∧ m.hw.out = .credits e.msg.ing e.msg.rid :: s.mach.hw.out ∧
      m.hw.bd = s.mach.hw.bd ∧ m.mem = s.mach.mem) := by
  obtain ⟨p, ps, ⟨hin, hout, hcls⟩, hpairs⟩ := hb.pairs hiters
  have hslot := matchSlot_one hhalt hb.voq
  rw [slotMatch, hpairs] at hslot
  generalize matchLoop _ _ _ _ _ _ = st at hslot
  have hspen2 : (slotStart s.mach.hw st).flag F.SW_CTRL_SPEN 0 = false := by
    rw [← hspen]
    exact congrArg (· == 1) (Hw.fget_fadd_ne s.mach.hw _ (by decide))
  obtain ⟨regs, hcarry⟩ := carryCell_one (h := slotStart s.mach.hw st) (p := p) hb.voq
    (fun e' h1 h2 h3 => (hb.inVoq hin hout p.2.2 h1 h2 h3 _).trans (hcls ▸ beq_self_eq_true _)) hgot htotal hb.tail hgone hlegs hspen2 hsp
  have hempty := carryCell_fold_empty (h := carryCell (slotStart s.mach.hw st) p) (by rw [hcarry]; rfl) ps
  refine completes_onHw (f := matchSlot) rfl ?_
  rw [Mach.onHw, hslot, List.foldl_cons, hempty, hcarry]
  refine ⟨rfl, rfl, ⟨p.1, mem_sortNats.mp hin, ?_⟩, fun k hk => ?_, rfl, rfl, rfl⟩
  · exact (congrArg EQ.head (Hw.eq_setEq _ _ _)).trans (by rw [EMsg.carried, hgot]; rfl)
  · exact Hw.eq_setEq_ne s.mach.hw _ (Ne.symm hk)

end

/-- Settles O23: the slot's pairs all serve the one message, whose cell the first of them carries; egress and ageing take the head that
the queue's rules select. -/
theorem matchingAndEgressComplete : Obligations.MatchingAndEgressComplete := by
  unfold Obligations.MatchingAndEgressComplete
  refine ⟨?_, ?_⟩
  · intro s e h qid hhalt hlo _ hvoq hing hing' heg heg' _ hgot htotal htail hgone hlegs hfree hspen hsp
    exact matchingSlot_crosses ⟨hvoq, hing, hing', heg, heg', htail, hfree⟩ hhalt hlo hgot htotal hgone hlegs hspen hsp
  · intro s xp credit e qid q h
    refine ⟨?_, fun heqs hhead haged hmc htid hrsp => ageingCheck_completes heqs hhead haged hmc htid hrsp⟩
    intro hlo _ hidle hhead hothers heg hwhole htail hmc htid hkept hcredit hslope
    have hb : BlockHead xp credit e s.mach.hw := ⟨hlo, hidle, hhead, hothers, heg, hwhole, htail, hmc, htid, hkept, hcredit, hslope⟩
    exact ⟨egressSelect_sends hb, egressSelect_discards hb⟩

end Sys2Proof.Machine

namespace Sys2Proof.Machine

/-! ### Bytes written and merged -/

theorem getD_writeLE_inside (d : Byte) (m : SMap Byte) (a v : Nat) {n i : Nat} (hi : i < n) :
    Store.getD d (writeLE d m a v n) (a + i) = BitVec.ofNat 8 (v / 256 ^ i) := by
  induction n generalizing m a v i with
  | zero => omega
  | succ n ih =>
    rw [writeLE]
    cases i with
    | zero =>
      change Store.getD d _ a = _
      rw [getD_writeLE_outside d _ (by omega), Store.getD_setD_same, Nat.pow_zero, Nat.div_one]
    | succ i => rw [show a + (i + 1) = a + 1 + i by omega, ih _ _ _ (by omega), Nat.div_div_eq_div_mul, Nat.pow_succ']

theorem readLE_byte (d : Byte) (m : SMap Byte) (a : Nat) {n i : Nat} (hi : i < n) :
    readLE d m a n / 256 ^ i % 256 = (Store.getD d m (a + i)).toNat := by
  induction n generalizing a i with
  | zero => omega
  | succ n ih =>
    have hb : (Store.getD d m a).toNat < 256 := (Store.getD d m a).isLt
    rw [readLE]
    cases i with
    | zero =>
      rw [Nat.pow_zero, Nat.div_one, Nat.add_mul_mod_self_left, Nat.mod_eq_of_lt hb]
      rfl
    | succ i =>
      rw [Nat.pow_succ', ← Nat.div_div_eq_div_mul, show a + (i + 1) = a + 1 + i by omega, ← ih (a + 1) (by omega)]
      congr 2
      omega

theorem mergeBytes_byte (old data en : Nat) {n i : Nat} (hi : i < n) :
    mergeBytes old data en n / 256 ^ i % 256 = (if en.testBit i then data else old) / 256 ^ i % 256 := by
  induction n generalizing old data en i with
  | zero => omega
  | succ n ih =>
    rw [mergeBytes]
    cases i with
    | zero =>
      rw [Nat.testBit_zero]
      by_cases hen : en % 2 = 1
      · simp [hen]
      · simp [hen]
    | succ i =>
      have hlow : ((if en % 2 = 1 then data % 256 else old % 256) + 256 * mergeBytes (old / 256) (data / 256) (en / 2) n) / 256 =
          mergeBytes (old / 256) (data / 256) (en / 2) n := by
        split <;> omega
      rw [Nat.pow_succ', ← Nat.div_div_eq_div_mul, hlow, ih _ _ _ (by omega), ← Nat.div_div_eq_div_mul, Nat.testBit_succ]
      split <;> rfl

theorem ofNat_byte (v : Nat) : BitVec.ofNat 8 v = BitVec.ofNat 8 (v % 256) := by
  apply BitVec.eq_of_toNat_eq
  simp

theorem testBit_enables (s n i : Nat) : ((2 ^ n - 1) * 2 ^ s).testBit i = decide (s ≤ i ∧ i < s + n) := by
  rw [Nat.testBit_mul_two_pow, Nat.testBit_two_pow_sub_one]
  by_cases h : s ≤ i
  · simp [h]
    omega
  · simp [h]

/-- Enables of less than a line's bytes do not make a full write. -/
theorem allBytes_enables {s n : Nat} (hn : n < 64) : allBytes ((2 ^ n - 1) * 2 ^ s) = false := by
  rw [allBytes, beq_eq_false_iff_ne]
  intro hall
  have hbit : ∀ i, i < 64 → ((2 ^ n - 1) * 2 ^ s).testBit i = true := by
    intro i hi
    have := congrArg (fun x => x.testBit i) hall
    simpa only [Nat.testBit_mod_two_pow, Nat.testBit_two_pow_sub_one, decide_eq_true hi, Bool.true_and] using this
  have hlow := hbit 0 (by decide)
  have hhigh := hbit n hn
  rw [testBit_enables, decide_eq_true_eq] at hlow hhigh
  omega

/-- A line whose enabled bytes alone are merged is the old one with those bytes written. -/
theorem getD_mergedLine (m : SMap Byte) (base v : Nat) {s n : Nat} (hsn : s + n ≤ 64) (x : Nat) :
    Store.getD 0 (writeLE 0 m base (mergeBytes (readLE 0 m base 64) (v * 2 ^ (s * 8)) ((2 ^ n - 1) * 2 ^ s) 64) 64) x =
      Store.getD 0 (writeLE 0 m (base + s) v n) x := by
  by_cases hline : x < base ∨ base + 64 ≤ x
  · rw [getD_writeLE_outside 0 m hline, getD_writeLE_outside 0 m (by omega)]
  · obtain ⟨i, hi, rfl⟩ : ∃ i, i < 64 ∧ x = base + i := ⟨x - base, by omega, by omega⟩
    rw [getD_writeLE_inside 0 m base _ hi, ofNat_byte, mergeBytes_byte _ _ _ hi, testBit_enables]
    by_cases hin : s ≤ i ∧ i < s + n
    · obtain ⟨j, hj, rfl⟩ : ∃ j, j < n ∧ i = s + j := ⟨i - s, by omega, by omega⟩
      rw [decide_eq_true hin, if_pos rfl, ← ofNat_byte, ← Nat.add_assoc, getD_writeLE_inside 0 m (base + s) v hj]
      congr 1
      rw [Nat.pow_add, show s * 8 = 8 * s from Nat.mul_comm _ _, Nat.pow_mul, ← Nat.div_div_eq_div_mul]
      rw [show (2 ^ 8 : Nat) = 256 from rfl, Nat.mul_div_cancel _ (Nat.pow_pos (by decide))]
    · rw [decide_eq_false hin, if_neg Bool.false_ne_true, readLE_byte 0 m base hi, getD_writeLE_outside 0 m (by omega)]
      exact BitVec.ofNat_toNat _ _

theorem readLE_mergedLine (m : SMap Byte) (base : Nat) {v s n : Nat} (hv : v < 256 ^ n) (hsn : s + n ≤ 64) :
    readLE 0 (writeLE 0 m base (mergeBytes (readLE 0 m base 64) (v * 2 ^ (s * 8)) ((2 ^ n - 1) * 2 ^ s) 64) 64) (base + s) n = v := by
  rw [readLE_congr 0 (fun x _ _ => getD_mergedLine m base v hsn x), readLE_writeLE, Nat.mod_eq_of_lt hv]

/-! ### Writes of whole lines -/

/-- What a write of Dome does to whole lines: `b` differs from `a` in memory alone, in no byte outside `lo` to `hi`, and what was a
whole line is one still. -/
structure DomeOnly (lo hi : Nat) (a b : Mach) : Prop where
  hw : b.hw = a.hw
  sp : b.mem.sp = a.mem.sp
  flash : b.mem.flash = a.mem.flash
  dome : ∀ x, x < lo ∨ hi ≤ x → Store.getD 0 b.mem.dome x = Store.getD 0 a.mem.dome x
  whole : ∀ o, a.wholeLine o → b.wholeLine o

theorem DomeOnly.trans {lo hi : Nat} {a b c : Mach} (hab : DomeOnly lo hi a b) (hbc : DomeOnly lo hi b c) : DomeOnly lo hi a c where
  hw := hbc.hw.trans hab.hw
  sp := hbc.sp.trans hab.sp
  flash := hbc.flash.trans hab.flash
  dome := fun x hx => (hbc.dome x hx).trans (hab.dome x hx)
  whole := fun o ho => hbc.whole o (hab.whole o ho)

theorem DomeOnly.refl (lo hi : Nat) (a : Mach) : DomeOnly lo hi a a := ⟨rfl, rfl, rfl, fun _ _ => rfl, fun _ ho => ho⟩

theorem DomeOnly.mono {lo hi lo' hi' : Nat} {a b : Mach} (hab : DomeOnly lo hi a b) (hlo : lo' ≤ lo) (hhi : hi ≤ hi') : DomeOnly lo' hi' a b where
  hw := hab.hw
  sp := hab.sp
  flash := hab.flash
  dome := fun x hx => hab.dome x (by omega)
  whole := hab.whole

/-- A copy that is written, without the poison marker, is good if it was. -/
theorem copyGood_setAttr {m : Mach} {c a : Nat} (hgood : m.copyGood c a = true) (c' a' : Nat) (hint : Bool) :
    (m.setAttr c' a' ⟨hint, false⟩).copyGood c a = true := by
  rw [Mach.copyGood, Bool.and_eq_true] at hgood ⊢
  refine ⟨hgood.1, ?_⟩
  rw [Mach.attr, Mach.setAttr]
  by_cases hkey : lineKey c' a' = lineKey c a
  · rw [hkey, Store.getD_setD_same]
    rfl
  · rw [Store.getD_setD_ne _ _ _ _ hkey]
    exact hgood.2

theorem domeOnly_openRow (lo hi c a : Nat) (m : Mach) : DomeOnly lo hi m (m.openRow c a) :=
  ⟨rfl, rfl, rfl, fun _ _ => rfl, fun _ ho => ho⟩

theorem domeOnly_setAttr (lo hi c a : Nat) (hint : Bool) (m : Mach) : DomeOnly lo hi m (m.setAttr c a ⟨hint, false⟩) where
  hw := rfl
  sp := rfl
  flash := rfl
  dome := fun _ _ => rfl
  whole := fun _ ⟨hstore, hrev, hgood, hmirror⟩ =>
    ⟨hstore, hrev, copyGood_setAttr hgood _ _ _, fun c hc => copyGood_setAttr (hmirror c hc) _ _ _⟩

theorem domeOnly_writeCopy (lo hi : Nat) {c : Nat} {m : Mach} (hc : m.hw.chFailed c = false) (a : Nat) (hint : Bool) :
    DomeOnly lo hi m (writeCopy c a ⟨hint, false⟩ m).2 := by
  rw [writeCopy_stored hc]
  exact (domeOnly_openRow lo hi c a m).trans (domeOnly_setAttr lo hi c a hint _)

/-- The copies of a whole line take a full write. -/
theorem domeOnly_copies (lo hi : Nat) {p : Phys} {m : Mach} (hgood : m.copyGood p.prim p.addr = true)
    (hmirror : ∀ c, p.mirror = some c → m.copyGood c p.addr = true) (o data : Nat) (hint : Bool) :
    ∃ m1, writeAt p o data hint false m = (true, m1.setLine o data) ∧ DomeOnly lo hi m m1 ∧ m1.mem.dome = m.mem.dome := by
  unfold writeAt
  dsimp only
  rw [writeCopy_stored (chFailed_of_copyGood hgood)]
  dsimp only
  have hfirst := (domeOnly_openRow lo hi p.prim p.addr m).trans (domeOnly_setAttr lo hi p.prim p.addr hint _)
  cases hm : p.mirror with
  | none => exact ⟨_, rfl, hfirst, rfl⟩
  | some c =>
    have hc : ((m.openRow p.prim p.addr).setAttr p.prim p.addr ⟨hint, false⟩).hw.chFailed c = false :=
      chFailed_of_copyGood (m := m) (hmirror c hm)
    refine ⟨_, rfl, hfirst.trans (domeOnly_writeCopy lo hi hc p.addr hint), ?_⟩
    dsimp only
    rw [writeCopy_stored hc]
    rfl

/-- A full write of a whole line writes Dome's bytes of that line alone. -/
theorem writeDome_whole {m : Mach} {o : Nat} (hwhole : m.wholeLine o) (data : Nat) (hint : Bool) :
    DomeOnly (o / 64 * 64) (o / 64 * 64 + 64) m (writeDome o data hint false m).2 ∧
      (writeDome o data hint false m).2.mem.dome = writeLE 0 m.mem.dome (o / 64 * 64) data 64 := by
  obtain ⟨hstore, hrev, hgood, hmirror⟩ := hwhole
  obtain ⟨m1, hwrite, honly, hdome⟩ := domeOnly_copies (o / 64 * 64) (o / 64 * 64 + 64) hgood hmirror o data hint
  rw [writeDome, hwrite, setLine_plain (by rw [honly.hw]; exact hstore) (by rw [honly.hw]; exact hrev), hdome]
  refine ⟨honly.trans ⟨rfl, rfl, rfl, fun x hx => ?_, fun _ ho => ho⟩, rfl⟩
  rw [hdome]
  exact getD_writeLE_outside 0 _ hx

/-- Bytes of a line are written: those of a whole line change, and no other byte does. -/
theorem poke_whole {m : Mach} {o n : Nat} (hwhole : m.wholeLine o) (hn : n < 64) (hin : o % 64 + n ≤ 64) (v master : Nat) :
    DomeOnly o (o + n) m (m.poke o v n master) ∧ readLE 0 (m.poke o v n master).mem.dome o n = v % 2 ^ (8 * n) := by
  have hkept := hwhole
  obtain ⟨hstore, hrev, hgood, hmirror⟩ := hwhole
  have hread : readDome o master .good .good false m = (false, m.openRow (domeMap m.hw o).prim (domeMap m.hw o).addr) := readAt_good hgood o master
  have hopen := domeOnly_openRow o (o + n) (domeMap m.hw o).prim (domeMap m.hw o).addr m
  rw [Mach.poke, partialWrite_merged (allBytes_enables hn) (by rw [chFailed_of_copyGood hgood, Bool.and_false]) hread]
  generalize hm1 : m.openRow (domeMap m.hw o).prim (domeMap m.hw o).addr = m1 at hopen
  have hline : m1.line o = readLE 0 m.mem.dome (o / 64 * 64) 64 := by
    rw [← hm1]
    exact line_plain hstore hrev
  have hmem : m1.mem.dome = m.mem.dome := by rw [← hm1]; rfl
  obtain ⟨hwrite, hdome⟩ := writeDome_whole (hopen.whole o hkept)
    (mergeBytes (m1.line o) (v % 2 ^ (8 * n) * 2 ^ (o % 64 * 8)) ((2 ^ n - 1) * 2 ^ (o % 64)) 64) (m1.hw.hintOf o)
  rw [hline, hmem] at hdome
  rw [hline] at hwrite ⊢
  have hbase : o / 64 * 64 + o % 64 = o := Nat.div_add_mod' o 64
  refine ⟨⟨hwrite.hw.trans hopen.hw, hwrite.sp.trans hopen.sp, hwrite.flash.trans hopen.flash, fun x hx => ?_,
    fun p hp => hwrite.whole p (hopen.whole p hp)⟩, ?_⟩
  · rw [hdome, getD_mergedLine _ _ _ hin, hbase]
    exact getD_writeLE_outside 0 _ hx
  · have hlt : v % 2 ^ (8 * n) < 256 ^ n := by
      rw [show (256 : Nat) = 2 ^ 8 from rfl, ← Nat.pow_mul]
      exact Nat.mod_lt _ (Nat.two_pow_pos _)
    rw [hdome]
    have := readLE_mergedLine m.mem.dome (o / 64 * 64) hlt hin
    rwa [hbase] at this

/-! ### The count of spill pages leaves Dome's layout as it is (R208, R314) -/

theorem fget_setPages (h : Hw) {g : Fld} {j : Nat} (hg : F.SW_SPILLPG_VAL.id ≠ g.id) (hj : j < 65536) : h.setPages.fget g j = h.fget g j :=
  Hw.fget_fset_ne h _ (fkey_ne hg (by decide) hj)

theorem storeFirst_setPages (h : Hw) : h.setPages.storeFirst = h.storeFirst := fget_setPages h (by decide) (by decide)

theorem domeExt_setPages (h : Hw) : h.setPages.domeExt = h.domeExt := fget_setPages h (by decide) (by decide)

theorem gtop_setPages (h : Hw) : h.setPages.gtop = h.gtop := by
  unfold Hw.gtop Hw.groupUsable
  rw [fget_setPages h (by decide) (by decide)]

theorem groupOf_setPages (h : Hw) (e : Nat) : h.setPages.groupOf e = h.groupOf e := by
  unfold Hw.groupOf Hw.groupUsable
  rw [storeFirst_setPages, gtop_setPages, fget_setPages h (g := F.DD_STAT_GRPUSE) (by decide) (by decide),
    fget_setPages h (g := F.DD_GRPBASE_VAL) (j := 1) (by decide) (by decide),
    fget_setPages h (g := F.DD_GRPBASE_VAL) (j := 2) (by decide) (by decide)]

theorem domeMap_setPages (h : Hw) (o : Nat) : domeMap h.setPages o = domeMap h o := by
  have htop := gtop_le h
  have hgroup := groupOf_le h (o / 2 ^ 21)
  have hmode : h.setPages.grouped = h.grouped := congrArg (· == 1) (fget_setPages h (by decide) (by decide))
  unfold domeMap
  dsimp only
  rw [storeFirst_setPages, hmode, gtop_setPages, groupOf_setPages, fget_setPages h (by decide) (by omega),
    fget_setPages h (g := F.DD_GRPBASE_VAL) (by decide) (by omega)]

theorem copyGood_setPages (m : Mach) {c : Nat} (hc : c < 65536) (a : Nat) : (m.onHw Hw.setPages).copyGood c a = m.copyGood c a := by
  rw [Mach.copyGood, Mach.copyGood, Hw.chFailed, Hw.chFailed]
  rw [show (m.onHw Hw.setPages).hw.fget F.DD_CHSTAT_STATE c = m.hw.fget F.DD_CHSTAT_STATE c from fget_setPages m.hw (by decide) hc]
  rfl

theorem wholeLine_setPages {m : Mach} {o : Nat} (hwhole : m.wholeLine o) : (m.onHw Hw.setPages).wholeLine o := by
  obtain ⟨hstore, hrev, hgood, hmirror⟩ := hwhole
  have hmap : domeMap (m.onHw Hw.setPages).hw o = domeMap m.hw o := domeMap_setPages m.hw o
  refine ⟨?_, ?_, ?_, fun c hc => ?_⟩
  · exact (Hw.storeWord_congr (storeFirst_setPages m.hw) (domeExt_setPages m.hw) _).trans hstore
  · exact (Hw.revIn_congr (storeFirst_setPages m.hw) (domeExt_setPages m.hw) rfl _).trans hrev
  · rw [hmap, copyGood_setPages m (Nat.lt_trans (prim_lt rfl) (by decide))]
    exact hgood
  · rw [hmap] at hc ⊢
    rw [copyGood_setPages m (mirror_lt hc)]
    exact hmirror c hc

/-! ### A cell is written to the spill area (R204, R208, R209) -/

/-- The queue once a cell has gone to slot `w` of its last page. -/
def EQ.cellTaken (q : EQ) (pg w r : Nat) : EQ :=
  { q with pages := q.pages.dropLast ++ [(pg, w + 1, r)], wseq := (q.wseq + 1) % 2 ^ 24 }

/-- Lines written one after another from `base` on write Dome's bytes of those lines alone. -/
theorem domeOnly_lines {base : Nat} (hbase : base % 64 = 0) (data : Nat → Nat) {i n : Nat} {m : Mach} (hn : i + n ≤ 4)
    (hwhole : ∀ j, j < 4 → m.wholeLine (base + 64 * j)) :
    DomeOnly base (base + 256) m (iterN (fun j x => (writeDome (base + 64 * j) (data j) false false x).2) i n m) := by
  induction n generalizing i m with
  | zero => exact DomeOnly.refl _ _ _
  | succ n ih =>
    have hone := (writeDome_whole (hwhole i (by omega)) (data i) false).1.mono (lo' := base) (hi' := base + 256) (by omega) (by omega)
    rw [iterN]
    exact hone.trans (ih (by omega) (fun j hj => hone.whole _ (hwhole j hj)))

/-- A cell goes to a slot of the last page, with its descriptor; Dome's other bytes stay. -/
theorem writeCell_whole {qid pg w r : Nat} {m : Mach} (e : EMsg) (i : Nat) (hlast : (m.hw.eq qid).pages.getLast? = some (pg, w, r))
    (hw : w < 7680) (hdesc : m.wholeLine (descAddr pg w)) (hcell : ∀ j, j < 4 → m.wholeLine (cellAddr pg w + 64 * j)) :
    ∃ m', writeCell qid e i m = some m' ∧
      m'.hw = (m.hw.takeFree.2.setEq qid ((m.hw.eq qid).cellTaken pg w r)).setPages ∧
      readLE 0 m'.mem.dome (descAddr pg w) 16 = cellDesc e i (m.hw.eq qid).wseq % 2 ^ 128 ∧ m'.mem.sp = m.mem.sp ∧ m'.mem.flash = m.mem.flash ∧
      ∀ a, a < descAddr pg w ∨ descAddr pg w + 16 ≤ a → a < cellAddr pg w ∨ cellAddr pg w + 256 ≤ a →
        Store.getD 0 m'.mem.dome a = Store.getD 0 m.mem.dome a := by
  have htake : takeSlot m.hw (m.hw.eq qid) = some ({ m.hw.eq qid with pages := (m.hw.eq qid).pages.dropLast ++ [(pg, w + 1, r)] }, pg, w, false) := by
    rw [takeSlot, hlast]
    exact if_pos hw
  have hcells : ∀ x : Mach, x.mem = m.mem → x.hw = (m.hw.takeFree.2.setEq qid ((m.hw.eq qid).cellTaken pg w r)).setPages →
      ∀ o, m.wholeLine o → x.wholeLine o := by
    intro x hmem hhw o ho
    have hset : (m.onHw (fun h => h.takeFree.2.setEq qid ((m.hw.eq qid).cellTaken pg w r))).wholeLine o := wholeLine_congr rfl rfl rfl ho
    exact wholeLine_congr (a := (m.onHw (fun h => h.takeFree.2.setEq qid ((m.hw.eq qid).cellTaken pg w r))).onHw Hw.setPages)
      (by rw [hhw]; rfl) (by rw [hhw]; rfl) hmem (wholeLine_setPages hset)
  have hline : cellAddr pg w % 64 = 0 := by
    rw [cellAddr]
    omega
  have hin : descAddr pg w % 64 + 16 ≤ 64 := by
    rw [descAddr]
    omega
  unfold writeCell
  dsimp only
  rw [htake]
  dsimp only
  rw [if_neg Bool.false_ne_true]
  generalize hm0 : ({ m with hw := _ } : Mach) = m0
  have hmem : m0.mem = m.mem := by rw [← hm0]
  have hhw : m0.hw = (m.hw.takeFree.2.setEq qid ((m.hw.eq qid).cellTaken pg w r)).setPages := by rw [← hm0]; rfl
  have hkept := hcells m0 hmem hhw
  have hlines := domeOnly_lines hline (fun j => bits m.hw.takeFree.1 (512 * j) 512) (i := 0) (n := 4) (Nat.le_refl _)
    (fun j hj => hkept _ (hcell j hj))
  obtain ⟨hpoke, hread⟩ := poke_whole (hlines.whole _ (hkept _ hdesc)) (n := 16) (by decide) hin (cellDesc e i (m.hw.eq qid).wseq) 0xFFFF
  refine ⟨_, rfl, hpoke.hw.trans (hlines.hw.trans hhw), hread.trans (by rw [show 8 * 16 = 128 from rfl]), ?_, ?_, fun a hd hc => ?_⟩
  · rw [hpoke.sp, hlines.sp, hmem]
  · rw [hpoke.flash, hlines.flash, hmem]
  · rw [hpoke.dome a hd, hlines.dome a hc, hmem]

end Sys2Proof.Machine

namespace Sys2Proof.Machine

theorem writeCells_one {qid : Nat} {e : EMsg} {i : Nat} {m m' : Mach} (hcell : writeCell qid e i m = some m') :
    writeCells qid e i m 1 = some m' := by
  rw [writeCells, hcell]
  rfl

/-- What the queue set holds once the message's cell is in Dome (R204, R207). -/
def spilled (qid : Nat) (e : EMsg) (place : Nat × Nat × Nat) (h : Hw) : Hw :=
  releaseCells e ((h.setEq qid { h.eq qid with stage := [], dome := (h.eq qid).dome ++ [{ e with mc := none, spill := place }] }).charge
    (e.total * cellCharge))

theorem spillWrite_one {qid pg w r : Nat} {e : EMsg} {m m' : Mach} (hstage : (m.hw.eq qid).stage = [e])
    (hready : spillReady m.hw (m.hw.eq qid) = true) (htotal : e.total = 1) (hlast : (m.hw.eq qid).pages.getLast? = some (pg, w, r))
    (hw : w < 7680) (hcell : writeCell qid e 0 m = some m') :
    spillWrite qid .good m = m'.onHw (spilled qid e (pg, w, (m.hw.eq qid).wseq)) := by
  have hnext : nextCell m.hw (m.hw.eq qid) = (pg, w, (m.hw.eq qid).wseq) := by
    rw [nextCell, takeSlot, hlast]
    dsimp only
    rw [if_pos hw]
    rfl
  have hread : m.onHw (fun _ => (readCells .good e m.hw).2) = m := rfl
  unfold spillWrite
  dsimp only
  rw [hstage]
  dsimp only
  rw [if_pos hready, hread, show (readCells .good e m.hw).1 = e from rfl, htotal, writeCells_one hcell, hnext, ← htotal]
  rfl

theorem Hw.eq_of_eqs {a b : Hw} (heqs : a.sw.eqs = b.sw.eqs) (k : Nat) : a.eq k = b.eq k := by
  rw [Hw.eq, Hw.eq, heqs]

theorem spilled_state {e : EMsg} (hmc : e.mc = none) (qid : Nat) (place : Nat × Nat × Nat) (h : Hw) :
    (spilled qid e place h).eq qid = { h.eq qid with stage := [], dome := (h.eq qid).dome ++ [{ e with spill := place }] } ∧
      (spilled qid e place h).sw.used = h.sw.used - e.got ∧
      (spilled qid e place h).sw.tokens = h.sw.tokens - (e.total * cellCharge : Nat) := by
  have hmsg : ({ e with mc := none, spill := place } : EMsg) = { e with spill := place } := by rw [← hmc]
  rw [spilled, hmsg]
  generalize ({ h.eq qid with stage := [], dome := _ } : EQ) = q
  obtain ⟨voq, hrel⟩ := releaseCells_unicast hmc ((h.setEq qid q).charge (e.total * cellCharge))
  rw [hrel]
  exact ⟨(Hw.eq_of_eqs rfl qid).trans (Hw.eq_setEq h qid q), rfl, rfl⟩

theorem spillWrite_completes {s : State} {qid pg w r : Nat} {e : EMsg} (hstage : (s.mach.hw.eq qid).stage = [e])
    (hready : spillReady s.mach.hw (s.mach.hw.eq qid) = true) (htotal : e.total = 1)
    (hlast : (s.mach.hw.eq qid).pages.getLast? = some (pg, w, r)) (hw : w < 7680) (hmc : e.mc = none)
    (hdesc : s.mach.wholeLine (descAddr pg w)) (hcells : ∀ j, j < 4 → s.mach.wholeLine (cellAddr pg w + 64 * j)) :
    Completes (.spillWrite ⟨qid, .good⟩) s (fun m =>
      (m.hw.eq qid).stage = [] ∧
      (m.hw.eq qid).dome = (s.mach.hw.eq qid).dome ++ [{ e with spill := (pg, w, (s.mach.hw.eq qid).wseq) }] ∧
      (m.hw.eq qid).wseq = ((s.mach.hw.eq qid).wseq + 1) % 2 ^ 24 ∧
      m.hw.sw.used = s.mach.hw.sw.used - e.got ∧ m.hw.sw.tokens = s.mach.hw.sw.tokens - cellCharge ∧
      readLE 0 m.mem.dome (descAddr pg w) 16 = cellDesc e 0 (s.mach.hw.eq qid).wseq % 2 ^ 128 ∧
      m.mem.sp = s.mach.mem.sp ∧ m.mem.flash = s.mach.mem.flash ∧
      ∀ a, a < descAddr pg w ∨ descAddr pg w + 16 ≤ a → a < cellAddr pg w ∨ cellAddr pg w + 256 ≤ a →
        Store.getD 0 m.mem.dome a = Store.getD 0 s.mach.mem.dome a) := by
  obtain ⟨m', hcell, hhw, hread, hsp, hflash, hdome⟩ := writeCell_whole e 0 hlast hw hdesc hcells
  have hq : m'.hw.eq qid = (s.mach.hw.eq qid).cellTaken pg w r := by
    rw [hhw]
    exact Hw.eq_setEq _ _ _
  refine completes_onMach (f := spillWrite qid .good) rfl ?_
  rw [spillWrite_one hstage hready htotal hlast hw hcell]
  obtain ⟨heq, hused, htokens⟩ := spilled_state hmc qid (pg, w, (s.mach.hw.eq qid).wseq) m'.hw
  rw [Mach.onHw, heq, hused, htokens, hq]
  refine ⟨rfl, rfl, rfl, ?_, ?_, hread, hsp, hflash, hdome⟩
  · rw [hhw]
    rfl
  · rw [hhw, htotal, Nat.one_mul]
    rfl

end Sys2Proof.Machine

namespace Sys2Proof.Machine

/-! ### A refill is read, answered or abandoned (R204, R207, R221) -/

theorem spillRefill_reads {qid : Nat} {e : EMsg} {h : Hw} (hdome : (h.eq qid).dome.head? = some e) (hcells : cellsOf (h.eq qid).head < 64)
    (hreading : (h.eq qid).reading = false) (htokens : (min (e.total * cellCharge) (256 * 160000) : Nat) ≤ h.sw.tokens) :
    spillRefill qid h = ((h.setEq qid { h.eq qid with reading := true }).openTag .sw qid).charge (e.total * cellCharge) := by
  obtain ⟨rest, hdome⟩ := List.head?_eq_some_iff.mp hdome
  have hwants : wantsRefill (h.eq qid) = true := by
    rw [wantsRefill, hreading, hdome, decide_eq_true hcells]
    rfl
  have hcover : tokensCover h (e.total * cellCharge) = true := decide_eq_true htokens
  unfold spillRefill
  dsimp only
  rw [hwants, hdome]
  dsimp only
  rw [hcover]
  rfl

theorem spillRefillRead_completes {s : State} {qid : Nat} {e : EMsg} (hdome : (s.mach.hw.eq qid).dome.head? = some e)
    (hcells : cellsOf (s.mach.hw.eq qid).head < 64) (hreading : (s.mach.hw.eq qid).reading = false)
    (htokens : (min (e.total * cellCharge) (256 * 160000) : Nat) ≤ s.mach.hw.sw.tokens) :
    Completes (.spillRefillRead qid) s (fun m =>
      (m.hw.eq qid).reading = true ∧ m.hw.tagOpen .sw qid = true ∧
      m.hw.sw.tokens = s.mach.hw.sw.tokens - (e.total * cellCharge : Nat) ∧ m.hw.regs = s.mach.hw.regs ∧ m.mem = s.mach.mem) := by
  refine completes_onHw (f := spillRefill qid) rfl ?_
  rw [Mach.onHw, spillRefill_reads hdome hcells hreading htokens]
  refine ⟨?_, Hw.tagOpen_openTag _ _ _, rfl, rfl, rfl⟩
  exact congrArg EQ.reading ((Hw.eq_of_eqs rfl qid).trans (Hw.eq_setEq s.mach.hw qid _))

/-- The one message of DOME leaves it. -/
theorem takeDome_one {qid : Nat} {e : EMsg} {h : Hw} (hdome : (h.eq qid).dome = [e]) :
    ((takeDome qid h).eq qid).head = (h.eq qid).head ∧ ((takeDome qid h).eq qid).dome = [] ∧ ((takeDome qid h).eq qid).reading = false ∧
      (takeDome qid h).sw.used = h.sw.used ∧ (takeDome qid h).tags = h.tags := by
  have hmine : ((h.eq qid).dome.head? == some e) = true := by
    rw [hdome]
    exact beq_self_eq_true _
  have hq : (takeDome qid h).eq qid = EQ.dropDome { h.eq qid with reading := false } (fun e => (h.eq qid).dome.head? == some e) := by
    rw [takeDome, dropDome, Hw.eq_setEq]
    exact (Hw.eq_of_eqs rfl qid).trans (Hw.eq_setEq _ _ _)
  rw [hq]
  refine ⟨rfl, ?_, rfl, rfl, rfl⟩
  dsimp only [EQ.dropDome]
  rw [if_neg Bool.false_ne_true, if_neg Bool.false_ne_true, hdome, List.filter_singleton, ← hdome, hmine]
  rfl

/-- What a message that becomes BAD changes keeps the queues and the tags. -/
theorem reportBad_kept (ing : Nat) (h : Hw) : (reportBad ing h).sw = h.sw ∧ (reportBad ing h).tags = h.tags := by
  obtain ⟨regs, fc, hreport, -⟩ := reportBad_frame ing h
  rw [hreport]
  exact ⟨rfl, rfl⟩

theorem spillLeave_kept (qid : Nat) (h : Hw) : (spillLeave qid h).sw.used = h.sw.used ∧ (spillLeave qid h).tags = h.tags := by
  obtain ⟨b, hb | hb⟩ := spillLeave_frame qid h <;> rw [hb] <;> exact ⟨rfl, rfl⟩

/-- The one message of DOME joins HEAD with its cells on-chip again. -/
theorem joinHead_one {qid : Nat} {e : EMsg} {h : Hw} (hdome : (h.eq qid).dome = [e]) (hgone : e.gone = false) (hgood : e.bad = false) (bad : Bool) :
    ((joinHead qid bad h).eq qid).head = (h.eq qid).head ++ [{ e with bad := bad }] ∧ ((joinHead qid bad h).eq qid).dome = [] ∧
      ((joinHead qid bad h).eq qid).reading = false ∧ (joinHead qid bad h).sw.used = h.sw.used + e.total ∧
      (joinHead qid bad h).tags = h.tags := by
  obtain ⟨hhead, hempty, hidle, hused, htags⟩ := takeDome_one hdome
  unfold joinHead
  rw [hdome]
  dsimp only
  rw [if_neg (by rw [hgone]; exact Bool.false_ne_true), hgood, Bool.false_or]
  generalize htake : takeDome qid h = h1 at hhead hempty hidle hused htags ⊢
  generalize hq : ({ h1.eq qid with head := _ } : EQ) = q
  generalize hx : (if (bad && !false) = true then reportBad e.msg.ing _ else _ : Hw) = x
  have hkept : x.sw = { (h1.setEq qid q).sw with used := h1.sw.used + e.total } ∧ x.tags = h1.tags := by
    rw [← hx]
    split
    · obtain ⟨hsw, htag⟩ := reportBad_kept e.msg.ing { h1.setEq qid q with sw := { (h1.setEq qid q).sw with used := h1.sw.used + e.total } }
      exact ⟨hsw, htag⟩
    · exact ⟨rfl, rfl⟩
  obtain ⟨hsw, htag⟩ := hkept
  have heq : x.eq qid = q := (Hw.eq_of_eqs (by rw [hsw]) qid).trans (Hw.eq_setEq h1 qid q)
  obtain ⟨hhead', hdome', -, hreading'⟩ := spillLeave_segments qid x
  obtain ⟨hused', htags'⟩ := spillLeave_kept qid x
  rw [heq, ← hq] at hhead' hdome' hreading'
  refine ⟨hhead'.trans ?_, hdome'.trans hempty, hreading'.trans hidle, hused'.trans ?_, htags'.trans (htag.trans htags)⟩
  · rw [← hhead]
  · rw [hsw, ← hused]

/-- An answer or a time-out brings the one message of DOME back, and closes its tag. -/
theorem spillReadTimeout_completes {s : State} {qid : Nat} {e : EMsg} (hreading : (s.mach.hw.eq qid).reading = true)
    (hdome : (s.mach.hw.eq qid).dome = [e]) (hgone : e.gone = false) (hgood : e.bad = false) :
    Completes (.spillReadTimeout qid) s (fun m =>
      (m.hw.eq qid).head = (s.mach.hw.eq qid).head ++ [{ e with bad := true }] ∧ (m.hw.eq qid).dome = [] ∧
      (m.hw.eq qid).reading = false ∧ m.hw.tagGen .sw qid = (s.mach.hw.tagGen .sw qid + 1) % 16 ∧ m.mem = s.mach.mem) := by
  obtain ⟨hhead, hempty, hidle, -, htags⟩ := joinHead_one hdome hgone hgood true
  refine completes_onHw (f := fun h => if (h.eq qid).reading then (joinHead qid true h).closeTag .sw qid else h) rfl ?_
  rw [Mach.onHw, hreading, if_pos rfl]
  refine ⟨hhead, hempty, hidle, ?_, rfl⟩
  rw [Hw.tagGen_closeTag, Hw.tagGen, htags]
  rfl

/-! ### What the reads of cells leave (R208, R335) -/

/-- The switch core, the tags and Dome's bytes are as they were. -/
structure CellsKept (a b : Mach) : Prop where
  sw : b.hw.sw = a.hw.sw
  tags : b.hw.tags = a.hw.tags
  dome : b.mem.dome = a.mem.dome

theorem CellsKept.refl (a : Mach) : CellsKept a a := ⟨rfl, rfl, rfl⟩

theorem CellsKept.trans {a b c : Mach} (hab : CellsKept a b) (hbc : CellsKept b c) : CellsKept a c :=
  ⟨hbc.sw.trans hab.sw, hbc.tags.trans hab.tags, hbc.dome.trans hab.dome⟩

theorem cellsKept_readPhys (c a master : Nat) (m : Mach) : CellsKept m (readPhys c a master .good false false m).2 := by
  unfold readPhys
  split
  · exact .refl m
  · dsimp only
    rw [if_neg (by decide), decodeLine]
    generalize ((m.openRow c a).attr c a).poison = poison
    cases poison
    · exact ⟨rfl, rfl, rfl⟩
    · exact ⟨rfl, rfl, rfl⟩

theorem cellsKept_raise (f : FaultSrc) (m : Mach) : CellsKept m (m.onHw (fun h => h.raise f)) := by
  obtain ⟨regs, fc, hraise, -⟩ := Hw.raise_frame m.hw f
  rw [Mach.onHw, hraise]
  exact ⟨rfl, rfl, rfl⟩

theorem cellsKept_readAt (p : Phys) (o master : Nat) (m : Mach) : CellsKept m (readAt p o master .good .good false m).2 := by
  unfold readAt
  have hfirst := cellsKept_readPhys p.prim p.addr master m
  dsimp only
  generalize readPhys p.prim p.addr master .good false false m = r0 at hfirst ⊢
  have hread : (if r0.1 = true then r0 else (false, r0.2.misread o .good)).2 = r0.2 := by
    split
    · rfl
    · rw [Mach.misread, if_neg (by decide)]
  rw [← hread] at hfirst
  generalize (if r0.1 = true then r0 else (false, r0.2.misread o .good)) = r at hfirst ⊢
  cases p.mirror with
  | none =>
    dsimp only
    exact hfirst
  | some c2 =>
    have hsecond := cellsKept_readPhys c2 p.addr master r.2
    dsimp only
    generalize readPhys c2 p.addr master .good false false r.2 = r2 at hsecond ⊢
    split
    · refine hfirst.trans (hsecond.trans ?_)
      split
      · dsimp only
        exact cellsKept_raise _ _
      · dsimp only
        split
        · exact .refl _
        · exact ⟨rfl, rfl, rfl⟩
    · exact hfirst

theorem cellsKept_readDome (o master : Nat) (m : Mach) : CellsKept m (readDome o master .good .good false m).2 := by
  rw [readDome]
  exact cellsKept_readAt _ _ _ _

/-! The kernel would evaluate a read to see through the pair that holds its outcome; these lemmas let it compare the pairs instead. -/

theorem CellsKept.inPair {m : Mach} {r : Bool × Mach} (hkept : CellsKept m r.2) (b : Bool) : CellsKept m (b, r.2).2 := hkept

theorem CellsKept.inTriple {m : Mach} {r : Bool × Mach} (hkept : CellsKept m r.2) (v : Nat) : CellsKept m (v, r.1, r.2).2.2 := hkept

/-- One line of a cell read. -/
def readCellLine (a j : Nat) (s : Bool × Mach) : Bool × Mach :=
  let r := readDome (a + 64 * j) 0xFFFF .good .good false s.2
  (s.1 || r.1, r.2)

theorem cellsKept_readCellLine (a j : Nat) (s : Bool × Mach) : CellsKept s.2 (readCellLine a j s).2 := by
  rw [readCellLine]
  exact (cellsKept_readDome (a + 64 * j) 0xFFFF s.2).inPair _

theorem cellsKept_readCellLines {m : Mach} {s : Bool × Mach} (hs : CellsKept m s.2) (a i n : Nat) : CellsKept m (iterN (readCellLine a) i n s).2 :=
  iterN_keeps (P := fun x : Bool × Mach => CellsKept m x.2) (readCellLine a) (fun j x hx => hx.trans (cellsKept_readCellLine a j x)) i n hs

theorem cellsKept_readCell (pg k : Nat) (m : Mach) : CellsKept m (readCell pg k m).2.2 := by
  have hfirst := (cellsKept_readDome (descAddr pg k) 0xFFFF m).inPair (readDome (descAddr pg k) 0xFFFF .good .good false m).1
  rw [readCell]
  exact (cellsKept_readCellLines hfirst (cellAddr pg k) 0 4).inTriple _

theorem CellsKept.inScan {m : Mach} {x : Nat × Bool × Mach} (hkept : CellsKept m x.2.2) (bad : Bool) (seqErr : Option Nat) :
    CellsKept m (CellScan.mk bad seqErr x.2.2).mach := hkept

/-- One cell of a page read back: its QSEQ is checked. -/
def scanCell (p k seq i : Nat) (s : CellScan) : CellScan :=
  let x := readCell p i s.mach
  ⟨s.bad || x.2.1, s.seqErr.or (if x.2.1 || bits x.1 104 24 == (seq + (i - k)) % 2 ^ 24 then none else some (cellAddr p i)), x.2.2⟩

theorem cellsKept_scanCell (p k seq i : Nat) (s : CellScan) : CellsKept s.mach (scanCell p k seq i s).mach := by
  rw [scanCell]
  exact (cellsKept_readCell p i s.mach).inScan _ _

theorem cellsKept_scanPage (p k seq n : Nat) (c : CellScan) : CellsKept c.mach (iterN (scanCell p k seq) k n c).mach :=
  iterN_keeps (P := fun x : CellScan => CellsKept c.mach x.mach) (scanCell p k seq) (fun i x hx => hx.trans (cellsKept_scanCell p k seq i x)) k n
    (.refl c.mach)

theorem scanCells_cons (p w r : Nat) (rest : List (Nat × Nat × Nat)) (pg : Option Nat) (k seq n : Nat) (c : CellScan) :
    scanCells ((p, w, r) :: rest) pg k seq n c =
      if pg.all (· == p) then
        if n - min n (w - k) = 0 then iterN (scanCell p k seq) k (min n (w - k)) c
        else scanCells rest none 0 (seq + min n (w - k)) (n - min n (w - k)) (iterN (scanCell p k seq) k (min n (w - k)) c)
      else scanCells rest pg k seq n c := by
  rw [scanCells]
  rfl

theorem cellsKept_scanCells (pages : List (Nat × Nat × Nat)) (pg : Option Nat) (k seq n : Nat) (c : CellScan) :
    CellsKept c.mach (scanCells pages pg k seq n c).mach := by
  induction pages generalizing pg k seq n c with
  | nil => exact .refl _
  | cons x rest ih =>
    obtain ⟨p, w, r⟩ := x
    have hpage := cellsKept_scanPage p k seq (min n (w - k)) c
    rw [scanCells_cons]
    generalize iterN (scanCell p k seq) k (min n (w - k)) c = c' at hpage ⊢
    split
    · split
      · exact hpage
      · exact hpage.trans (ih _ _ _ _ _)
    · exact ih _ _ _ _ _

/-- The answer to the read of the one message of DOME, whose cells carry the QSEQs expected. -/
theorem spillReadAnswer_completes {s : State} {qid gen : Nat} {e : EMsg} {c : CellScan} (hreading : (s.mach.hw.eq qid).reading = true)
    (hdome : (s.mach.hw.eq qid).dome = [e]) (hgone : e.gone = false) (hgood : e.bad = false)
    (hscan : scanCells (s.mach.hw.eq qid).pages (some e.spill.1) e.spill.2.1 (s.mach.hw.eq qid).rseq e.total ⟨false, none, s.mach⟩ = c)
    (hseq : c.seqErr = none) (hgen : gen = s.mach.hw.tagGen .sw qid) :
    Completes (.spillReadAnswer qid ⟨gen, false⟩) s (fun m =>
      (m.hw.eq qid).head = (s.mach.hw.eq qid).head ++ [{ e with bad := c.bad }] ∧ (m.hw.eq qid).dome = [] ∧ (m.hw.eq qid).reading = false ∧
      m.hw.sw.used = s.mach.hw.sw.used + e.total ∧ m.hw.tagOpen .sw qid = false ∧ m.mem.dome = s.mach.mem.dome) := by
  have hkept : CellsKept s.mach c.mach := by
    rw [← hscan]
    exact cellsKept_scanCells _ _ _ _ _ ⟨false, none, s.mach⟩
  have heq : c.mach.hw.eq qid = s.mach.hw.eq qid := Hw.eq_of_eqs (by rw [hkept.sw]) qid
  obtain ⟨hhead, hempty, hidle, hused, -⟩ := joinHead_one (h := c.mach.hw) (by rw [heq, hdome]) hgone hgood c.bad
  have hmatch : ((s.mach.hw.eq qid).reading && s.mach.hw.tagGen .sw qid == gen) = true := by
    rw [hreading, hgen, beq_self_eq_true]
    rfl
  have hanswer : spillAnswer qid false s.mach = c.mach.onHw (fun h => (joinHead qid c.bad h).closeTag .sw qid) := by
    unfold spillAnswer
    dsimp only
    rw [hdome]
    dsimp only
    rw [hscan, hseq]
  refine completes_onMach (f := fun m => if (m.hw.eq qid).reading && m.hw.tagGen .sw qid == gen then spillAnswer qid false m
    else m.onHw (fun h => h.fadd F.SW_LATE_VAL 0 1)) rfl ?_
  rw [if_pos hmatch, hanswer]
  refine ⟨hhead.trans ?_, hempty, hidle, hused.trans ?_, Hw.tagOpen_closeTag _ _ _, hkept.dome⟩
  · rw [heq]
  · rw [hkept.sw]

/-- An answer that no read awaits is counted. -/
theorem spillReadAnswer_late {s : State} {qid gen : Nat} (hlate : (s.mach.hw.eq qid).reading = false ∨ gen ≠ s.mach.hw.tagGen .sw qid) :
    Completes (.spillReadAnswer qid ⟨gen, false⟩) s (fun m =>
      m.hw.fget F.SW_LATE_VAL 0 = min (s.mach.hw.fget F.SW_LATE_VAL 0 + 1) (2 ^ 32 - 1) ∧ OnlyFields [(F.SW_LATE_VAL, 0)] s.mach m) := by
  have hmatch : ¬((s.mach.hw.eq qid).reading && s.mach.hw.tagGen .sw qid == gen) = true := by
    rw [Bool.and_eq_true, beq_iff_eq]
    rintro ⟨hreading, hgen⟩
    rcases hlate with hidle | hother
    · rw [hidle] at hreading
      cases hreading
    · exact hother hgen.symm
  refine completes_onMach (f := fun m => if (m.hw.eq qid).reading && m.hw.tagGen .sw qid == gen then spillAnswer qid false m
    else m.onHw (fun h => h.fadd F.SW_LATE_VAL 0 1)) rfl ?_
  rw [if_neg hmatch]
  exact ⟨Hw.fget_fadd_same s.mach.hw F.SW_LATE_VAL 0 1, (OnlyFields.refl _ s.mach).fadd (List.mem_singleton_self _) 1⟩

/-! ### STAGE is relinked on-chip (R204, R205) -/

theorem spillRelink_completes {s : State} {qid : Nat} {e : EMsg} (hsp : (s.mach.hw.eq qid).spilling = true) (hdome : (s.mach.hw.eq qid).dome = [])
    (hreading : (s.mach.hw.eq qid).reading = false) (hstage : (s.mach.hw.eq qid).stage = [e]) (hcells : cellsOf (s.mach.hw.eq qid).head < 64) :
    Completes (.spillRelink qid) s (fun m =>
      (m.hw.eq qid).head = (s.mach.hw.eq qid).head ++ [e] ∧ (m.hw.eq qid).stage = [] ∧ (m.hw.eq qid).spilling = false ∧
      m.hw.regs = s.mach.hw.regs ∧ m.hw.out = s.mach.hw.out ∧ m.mem = s.mach.mem) := by
  generalize hq : s.mach.hw.eq qid = q at hsp hdome hreading hstage hcells
  have hlink : relink q q.stage.length = { q with head := q.head ++ [e], stage := [] } := by
    rw [hstage, List.length_singleton, relink, hstage]
    exact if_pos hcells
  have hguard : (q.spilling && q.dome.isEmpty && !q.reading) = true := by
    rw [hsp, hdome, hreading]
    rfl
  have hleave : spillLeave qid (s.mach.hw.setEq qid { q with head := q.head ++ [e], stage := [] }) =
      (s.mach.hw.setEq qid { q with head := q.head ++ [e], stage := [] }).setEq qid { q with head := q.head ++ [e], stage := [], spilling := false } := by
    unfold spillLeave
    rw [Hw.eq_setEq]
    dsimp only
    rw [hsp, hdome, hreading]
    rfl
  refine completes_onHw (f := fun h =>
    let q := h.eq qid
    if q.spilling && q.dome.isEmpty && !q.reading then spillLeave qid (h.setEq qid (relink q q.stage.length)) else h) rfl ?_
  rw [Mach.onHw]
  dsimp only
  rw [hq, if_pos hguard, hlink, hleave, Hw.eq_setEq]
  exact ⟨rfl, rfl, rfl, rfl, rfl, rfl⟩

/-- Settles O24: a cell's lines and its descriptor are all that a spill writes of Dome; and a read of cells changes no byte of it. -/
theorem spillCompletes : Obligations.SpillCompletes := by
  unfold Obligations.SpillCompletes
  intro s qid gen e pg w r h q
  refine ⟨?_, ?_, ?_, spillReadAnswer_late, spillRelink_completes⟩
  · intro hstage hready htotal hlast hw hmc hdesc hcells
    exact spillWrite_completes hstage hready htotal hlast hw hmc hdesc hcells
  · intro hdome hcells hreading htokens
    have hread := spillRefillRead_completes (s := s) hdome hcells hreading htokens
    push_cast at hread
    exact hread
  · intro hreading hdome hgone hgood
    exact ⟨fun hseq hgen => spillReadAnswer_completes hreading hdome hgone hgood rfl hseq hgen,
      spillReadTimeout_completes hreading hdome hgone hgood⟩

end Sys2Proof.Machine

namespace Sys2Proof.Machine

/-! ### The ingress of a message that is no request (R179, R181, R184, R191, R194) -/

/-- Message `m` as ingress takes it in. -/
def ingressMsg (m : Msg) (h : Hw) : Msg := { m with ing := queueSet h m.ing, itime := h.itime, part := false }

/-- A whole message that is no request and concerns no tenant, which IDEREQ of its port lets pass. -/
structure PlainMsg (m : Msg) (h : Hw) : Prop where
  cls : isRequest m.cls = false
  tid : m.tid = none
  ide : m.ide = none
  bad : m.bad = false
  open_ : queueSet h m.ing < 72 → h.flag F.FP_PCFG_IDEREQ (queueSet h m.ing) = false
  fresh : tailOpen h (queueSet h m.ing) m.rid = false

section
variable {m : Msg} {h : Hw}

theorem PlainMsg.ingress (hm : PlainMsg m h) : ingress m h = passOn (ingressMsg m h) h := by
  have hlost : ideLost h (ingressMsg m h) = false := by
    rw [ideLost, show (ingressMsg m h).ide = none from hm.ide]
  have hmac : macWaits h (ingressMsg m h) = false := by
    rw [macWaits, show (ingressMsg m h).ide = none from hm.ide]
  have hadmit : ideAdmits h (ingressMsg m h).ing (ingressMsg m h) = true := ideAdmits_open _ hm.open_
  have haband : isAbandoned h (ingressMsg m h) = false := by
    rw [isAbandoned, show (ingressMsg m h).tid = none from hm.tid]
    exact Bool.and_false _
  have htake : takeIn (ingressMsg m h) h = passOn (ingressMsg m h) h := by
    rw [takeIn, hlost, hmac, hadmit, haband, show isRequest (ingressMsg m h).cls = false from hm.cls]
    rfl
  rw [← htake, Machine.ingress]
  change (if (ingressMsg m h).bad && _ then _ else if tailOpen h (queueSet h m.ing) m.rid then _ else takeIn (ingressMsg m h) h) = _
  rw [show (ingressMsg m h).bad = false from hm.bad, hm.fresh]
  rfl

/-- The route index of a message is found: its sending block names it, or the bus map of its VCS holds it. -/
def RouteFound (m : Msg) (i : Nat) (h : Hw) : Prop :=
  m.dest = .named (some i) ∨ ∃ n, m.dest = .bus n ∧ Store.get? h.sw.idMap (queueSet h m.ing * 256 + n) = some i

/-- A bus number that the map holds is looked up without any change. -/
theorem busRoute_found {vcs n i : Nat} (hget : Store.get? h.sw.idMap (vcs * 256 + n) = some i) (hi : i < 16384) : busRoute vcs n h = (some i, h) := by
  rw [busRoute, compiled, hget]
  dsimp only
  rw [if_neg (by omega)]

theorem PlainMsg.lookup (hm : PlainMsg m h) {i : Nat} (hi : i < 16384) (hfound : RouteFound m i h) : lookupIdx (ingressMsg m h) h = (some i, h) := by
  have hvcs : vcsOf h (ingressMsg m h) = queueSet h m.ing := by
    rw [vcsOf, show (ingressMsg m h).tid = none from hm.tid]
    rfl
  rw [lookupIdx, hvcs, show (ingressMsg m h).dest = m.dest from rfl]
  rcases hfound with hnamed | ⟨n, hbus, hget⟩
  · rw [hnamed]
  · rw [hbus]
    exact busRoute_found hget hi

theorem PlainMsg.passOn (hm : PlainMsg m h) (hfree : m.cls = .birsp → ∀ y ∈ h.bd.miss, y.ing ≠ queueSet h m.ing) :
    passOn (ingressMsg m h) h = byRoute (ingressMsg m h) h := by
  have hgo : ((ingressMsg m h).cls == .birsp && h.bd.miss.any (fun x => x.ing == (ingressMsg m h).ing)) = false := by
    rw [Bool.and_eq_false_imp]
    intro hcls
    rw [List.any_eq_false]
    intro y hy hing
    exact hfree (beq_iff_eq.mp hcls) y hy (beq_iff_eq.mp hing)
  rw [Machine.passOn, hgo, show (ingressMsg m h).tid = none from hm.tid]
  rfl

theorem PlainMsg.byRoute (hm : PlainMsg m h) {i : Nat} (hi : i < 16384) (hfound : RouteFound m i h) :
    byRoute (ingressMsg m h) h = byIndex (ingressMsg m h) (some i) h := by
  rw [Machine.byRoute, hm.lookup hi hfound]

/-- A message without a tenant that is resolved joins the VOQ at once. -/
theorem PlainMsg.resolve (hm : PlainMsg m h) (i : Nat) : resolve (ingressMsg m h) i [] h = toVoq
    { msg := ingressMsg m h, q := queueOf h (ingressMsg m h) (queueSet h (egressOf h i)), eg := queueSet h (egressOf h i), ridx := i,
      epoch := rtEpoch (h.route i), itime := h.itime, got := 0, total := cellCount m.len, bad := false, mc := none, gone := false } h := by
  rw [Machine.resolve, paceAdmit]
  dsimp only
  rw [show (ingressMsg m h).tid = none from hm.tid, show (ingressMsg m h).bad = false from hm.bad]
  rfl

/-- An invalid entry, and a multicast group for a message that is no posted write, end a message as no route does. -/
theorem PlainMsg.byIndex_none (hm : PlainMsg m h) {i : Nat} (hi : i < 16384) (hroute : bits (h.route i) 0 2 ≠ 1) :
    byIndex (ingressMsg m h) (some i) h = noRoute (ingressMsg m h) h := by
  have hpost : ((ingressMsg m h).cls == .ioPost) = false := by
    have hcls := hm.cls
    rw [show (ingressMsg m h).cls = m.cls from rfl]
    cases hc : m.cls <;> simp_all [isRequest]
  unfold byIndex
  dsimp only
  rw [Nat.mod_eq_of_lt hi, hpost]
  cases hv : bitAt (h.route i) 0 with
  | false => rfl
  | true =>
    have hmc : bitAt (h.route i) 1 = true := by
      simp only [bits, bitAt, beq_iff_eq] at hroute hv ⊢
      omega
    rw [hmc]
    rfl

/-- A message that is no request is dropped where no route is found for it, but one between internal blocks. -/
theorem PlainMsg.noRoute (hm : PlainMsg m h) (hint : m.cls ≠ .internal) : noRoute (ingressMsg m h) h = h.emit (.rsp m.rid .dropped) := by
  have hrsp : discardRsp m.cls = .dropped ∧ m.cls ≠ .ioNp ∧ m.cls ≠ .ioPost := by
    have hcls := hm.cls
    cases hc : m.cls <;> simp_all [isRequest, discardRsp]
  obtain ⟨hdrop, hnp, hpost⟩ := hrsp
  have hend : Machine.noRoute (ingressMsg m h) h = discardEnd (ingressMsg m h).ing (ingressMsg m h) 181 h := by
    unfold Machine.noRoute
    split
    · next hc => exact absurd hc hnp
    · next hc => exact absurd hc hpost
    · rfl
  rw [hend, discardEnd, show (ingressMsg m h).tid = none from hm.tid, show (ingressMsg m h).cls = m.cls from rfl, hdrop]
  dsimp only
  rw [if_neg (by simpa using hnp), respond, show (ingressMsg m h).tid = none from hm.tid]
  rfl

theorem messageIngress_queued {s : State} (hm : PlainMsg m s.mach.hw) {i : Nat} (hi : i < 16384) (hfound : RouteFound m i s.mach.hw)
    (heg : queueSet s.mach.hw (egressOf s.mach.hw i) < 72 →
      s.mach.hw.flag F.FP_PCFG_IDEREQ (queueSet s.mach.hw (egressOf s.mach.hw i)) = false)
    (hroute : bits (s.mach.hw.route i) 0 2 = 1)
    (hfree : m.cls = .birsp → ∀ y ∈ s.mach.hw.bd.miss, y.ing ≠ queueSet s.mach.hw m.ing) :
    exec (.messageIngress m) s = onHw (fun h => resolve (ingressMsg m h) i [] h) s := by
  refine (show exec (.messageIngress m) s = onHw (ingress m) s from rfl).trans (onHw_congr ?_)
  have hmod : i % 16384 = i := Nat.mod_eq_of_lt hi
  have hidx := byIndex_unicast (m := ingressMsg m s.mach.hw) (i := i) (h := s.mach.hw) (by rw [hmod]; exact hroute)
    (by rw [hmod]; exact ideAdmits_open _ heg)
  rw [hm.ingress, hm.passOn hfree, hm.byRoute hi hfound, hidx, hmod]

theorem messageIngress_dropped {s : State} (hm : PlainMsg m s.mach.hw) {i : Nat} (hi : i < 16384) (hfound : RouteFound m i s.mach.hw)
    (hroute : bits (s.mach.hw.route i) 0 2 ≠ 1) (hint : m.cls ≠ .internal)
    (hfree : m.cls = .birsp → ∀ y ∈ s.mach.hw.bd.miss, y.ing ≠ queueSet s.mach.hw m.ing) :
    exec (.messageIngress m) s = onHw (fun h => h.emit (.rsp m.rid .dropped)) s := by
  refine (show exec (.messageIngress m) s = onHw (ingress m) s from rfl).trans (onHw_congr ?_)
  rw [hm.ingress, hm.passOn hfree, hm.byRoute hi hfound, hm.byIndex_none hi hroute, hm.noRoute hint]

theorem messageIngress_behind {s : State} (hm : PlainMsg m s.mach.hw) (hcls : m.cls = .birsp)
    (hmiss : ∃ y ∈ s.mach.hw.bd.miss, y.ing = queueSet s.mach.hw m.ing) :
    exec (.messageIngress m) s = onHw (fun h => { h with bd := { h.bd with miss := h.bd.miss ++ [ingressMsg m h] } }) s := by
  refine (show exec (.messageIngress m) s = onHw (ingress m) s from rfl).trans (onHw_congr ?_)
  obtain ⟨y, hy, hing⟩ := hmiss
  have hwait : ((ingressMsg m s.mach.hw).cls == .birsp && s.mach.hw.bd.miss.any (fun x => x.ing == (ingressMsg m s.mach.hw).ing)) = true := by
    rw [show (ingressMsg m s.mach.hw).cls = .birsp from hcls, Bool.and_eq_true, List.any_eq_true]
    exact ⟨rfl, y, hy, beq_iff_eq.mpr hing⟩
  rw [hm.ingress, Machine.passOn, if_pos hwait]

end

end Sys2Proof.Machine

namespace Sys2Proof.Machine

/-! ### What a request's way after its translation leaves of the binding block (R41, R69, R215, R354)

It changes the records of the requests that count in OUT, and no other table. -/

/-- The binding block but for the records of the requests in progress. -/
def Hw.tables (h : Hw) : BdState := { h.bd with writes := [], reads := [] }

theorem tables_of_bd {a b : Hw} (hbd : a.bd = b.bd) : a.tables = b.tables := by
  rw [Hw.tables, Hw.tables, hbd]

@[simp] theorem tables_fset (h : Hw) (f : Fld) (i v : Nat) : (h.fset f i v).tables = h.tables := rfl
@[simp] theorem tables_fadd (h : Hw) (f : Fld) (i n : Nat) : (h.fadd f i n).tables = h.tables := rfl
@[simp] theorem tables_emit (h : Hw) (e : Emit) : (h.emit e).tables = h.tables := rfl
@[simp] theorem tables_raise (h : Hw) (f : FaultSrc) : (h.raise f).tables = h.tables := tables_of_bd (Hw.bd_raise h f)
@[simp] theorem tables_loseWrite (h : Hw) (w : Option (Nat × Nat)) : (h.loseWrite w).tables = h.tables := tables_of_bd (Hw.bd_loseWrite h w)
@[simp] theorem tables_updRead (h : Hw) (t i : Nat) (f : RRec → RRec) : (h.updRead t i f).tables = h.tables := rfl

@[simp] theorem tables_visEval (h : Hw) (t : Nat) : (h.visEval t).tables = h.tables := by
  unfold Hw.visEval
  split <;> rfl

@[simp] theorem tables_writeGone (h : Hw) (t : Nat) (np : Bool) : (h.writeGone t np).tables = h.tables := by
  rw [Hw.writeGone, tables_visEval]
  split <;> rfl

@[simp] theorem tables_discardWrite (h : Hw) (t i : Nat) : (h.discardWrite t i).tables = h.tables := by
  have hlose := tables_loseWrite h (some (t, i))
  unfold Hw.discardWrite
  dsimp only
  generalize h.loseWrite (some (t, i)) = h1 at hlose ⊢
  split
  · rw [tables_writeGone]
    exact hlose
  · split
    · exact hlose
    · rfl

@[simp] theorem tables_readGone (h : Hw) (t i : Nat) : (h.readGone t i).tables = h.tables := by
  unfold Hw.readGone
  split <;> rfl

@[simp] theorem tables_respond (src : Nat) (m : Msg) (k : RspKind) (c : Option (Nat × Option Nat)) (h : Hw) :
    (respond src m k c h).tables = h.tables := by
  unfold respond
  dsimp only
  split
  · rfl
  · split
    · rw [tables_readGone, tables_emit]
    · rfl

@[simp] theorem tables_partDone (h : Hw) (t i : Nat) : (h.partDone t i).tables = h.tables := by
  unfold Hw.partDone
  split
  · rfl
  · dsimp only
    split
    · rw [respondTo, tables_respond, tables_updRead]
    · rfl

@[simp] theorem tables_endNp (eg : Nat) (m : Msg) (k : RspKind) (c : Option (Nat × Option Nat)) (h : Hw) :
    (endNp eg m k c h).tables = h.tables := by
  unfold endNp
  split
  · split <;> simp
  · simp

@[simp] theorem tables_loseMsg (m : Msg) (h : Hw) : (loseMsg m h).tables = h.tables := by
  unfold loseMsg
  split
  · rfl
  · split
    · rfl
    · split <;> simp

theorem tables_endRequest (b : Bool) (eg : Nat) (m : Msg) (c : Option (Nat × Option Nat)) (h : Hw) :
    (if b then endNp eg m .ur c h else respond eg m (discardRsp m.cls) none h).tables = h.tables := by
  cases b <;> simp

@[simp] theorem tables_discardEnd (eg : Nat) (m : Msg) (rule : Nat) (h : Hw) : (discardEnd eg m rule h).tables = h.tables := by
  unfold discardEnd
  dsimp only
  rw [tables_endRequest]
  split
  · split <;> simp
  · rfl

@[simp] theorem tables_endSilent (m : Msg) (h : Hw) : (endSilent m h).tables = h.tables := by
  unfold endSilent
  split <;> simp

@[simp] theorem tables_noRoute (m : Msg) (h : Hw) : (noRoute m h).tables = h.tables := by
  unfold noRoute
  split <;> simp

@[simp] theorem tables_refuseOut (m : Msg) (h : Hw) : (refuseOut m h).tables = h.tables := by
  rw [refuseOut, tables_fadd]
  split <;> simp

/-! ### The lookups and the pacer leave the binding block (R181, R216, R242) -/

theorem bd_compiled (n k : Nat) (tab : SMap Nat) (h : Hw) : (compiled n k tab h).2.2.bd = h.bd := by
  unfold compiled
  split <;> rfl

theorem bd_legsOf (m : Msg) (key : Nat) (h : Hw) : (legsOf m key h).2.bd = h.bd := by
  unfold legsOf
  extract_lets p arr grp grpHw grpSw h1 acs acsHw acsSw h2
  have hgrp : h1.bd = h.bd := bd_compiled _ _ _ _
  clear_value h1 arr
  have hacs : h2.bd = h1.bd := by
    change acs.2.2.bd = h1.bd
    dsimp only [acs]
    split
    · rfl
    · exact bd_compiled _ _ _ _
  clear_value h2 acs
  refine (foldl_keeps (fun s : List (Nat × Nat) × Hw => s.2.bd) _ (fun s v => ?_) _ _).trans (hacs.trans hgrp)
  dsimp only
  split
  · split
    · split <;> exact bd_compiled _ _ _ _
    · exact bd_compiled _ _ _ _
  · rfl

theorem bd_wheelInsert (t k : Nat) (h : Hw) : (wheelInsert t k h).bd = h.bd := by
  unfold wheelInsert
  dsimp only
  split
  · rfl
  · split
    · rfl
    · split <;> rfl

theorem bd_paceSend (t : Nat) (e : EMsg) (h : Hw) : (paceSend t e h).bd = h.bd := by
  have hvoq : ∀ x, (toVoq e x).bd = x.bd := fun _ => rfl
  have hremove : ∀ x, (wheelRemove t x).bd = x.bd := fun _ => rfl
  unfold paceSend
  dsimp only
  split
  · rw [hvoq]
  · rw [hvoq]
    split
    · rw [hremove]
    · rw [bd_wheelInsert, hremove]

theorem bd_paceAdmit (e : EMsg) (h : Hw) : (paceAdmit e h).bd = h.bd := by
  unfold paceAdmit
  dsimp only
  split
  · rfl
  · split
    · split
      · exact bd_paceSend _ _ _
      · split <;> rfl
    · rfl

@[simp] theorem tables_resolve (m : Msg) (i : Nat) (legs : List (Nat × Nat)) (h : Hw) : (resolve m i legs h).tables = h.tables :=
  tables_of_bd (bd_paceAdmit _ _)

@[simp] theorem tables_legsOf (m : Msg) (key : Nat) (h : Hw) : (legsOf m key h).2.tables = h.tables := tables_of_bd (bd_legsOf m key h)

@[simp] theorem tables_byIndex (m : Msg) (i : Option Nat) (h : Hw) : (byIndex m i h).tables = h.tables := by
  unfold byIndex
  split
  · simp
  · dsimp only
    split
    · simp
    · split
      · split
        · split <;> simp
        · simp
      · split <;> simp

/-! ### The guard (R354, R358) and the end of a request (R41) -/

@[simp] theorem tables_denyEffect (g : GReq) (d : Denial) (h : Hw) : (denyEffect g d h).tables = h.tables := by
  have hrec : (recordDenial d g.master h).tables = h.tables := by
    unfold recordDenial
    split <;> rfl
  unfold denyEffect
  dsimp only
  generalize recordDenial d g.master h = x at hrec ⊢
  split
  · split <;> simp [hrec]
  · split <;> simp [hrec]

@[simp] theorem tables_sendRuns (m : Msg) (q : MemReq) (rs : List (Nat × Nat)) (gpa : Nat) (h : Hw) :
    (sendRuns m q rs (some gpa) h).tables = h.tables := by
  have hparts : (rs.foldl (fun h r => h.emit (.part q.rid r.1 r.2)) h).tables = h.tables :=
    foldl_keeps Hw.tables (fun h r => h.emit (.part q.rid r.1 r.2)) (fun _ _ => rfl) rs h
  unfold sendRuns
  dsimp only
  rw [tables_byIndex, tables_emit, hparts]

@[simp] theorem tables_guardRoute (m : Msg) (q : MemReq) (gpa : Nat) (h : Hw) : (guardRoute m q (some gpa) h).tables = h.tables := by
  unfold guardRoute
  dsimp only
  split
  · simp
  · split
    · simp
    · rw [tables_sendRuns]
      split <;> simp [Hw.readRest]

theorem tables_afterLookup (m : Msg) (q : MemReq) (x : Option Nat) (h : Hw) : (afterLookup m q x h).tables = h.tables := by
  unfold afterLookup
  split
  · rw [xlateEnd, xlateReport, tables_raise, tables_respond, tables_loseMsg]
  · exact tables_guardRoute _ _ _ _

end Sys2Proof.Machine

namespace Sys2Proof.Machine

/-! ### The table read of a translation cache miss returns (R40, R42, R315) -/

/-- What caching an entry changes of the binding block. -/
theorem cache_frame (t e x : Nat) (h : Hw) : ∃ xc, (h.cache t e x).bd = { h.bd with xc := xc } := by
  unfold Hw.cache
  split
  · exact ⟨h.bd.xc, rfl⟩
  · split
    · exact ⟨_, rfl⟩
    · exact ⟨_, rfl⟩

/-- An entry is cached, unless its tenant is being flushed (R62). -/
theorem cached_cache {t : Nat} {h : Hw} (habort : ttState (h.ent t) ≠ 4) (hquar : ttState (h.ent t) ≠ 5) (e x : Nat) :
    (h.cache t e x).cached t e = some x := by
  unfold Hw.cache
  rw [if_neg (by omega)]
  split
  · exact Store.get?_put_same _ _ _
  · exact Store.get?_put_same _ _ _

/-- The translation cache once the table has answered `v` for extent `e` of tenant `t`. -/
def fillCache (t e v : Nat) (h : Hw) : Hw := if etV v then h.cache t e v else h

theorem fillCache_frame (t e v : Nat) (h : Hw) : ∃ xc, (fillCache t e v h).bd = { h.bd with xc := xc } := by
  unfold fillCache
  split
  · exact cache_frame t e v h
  · exact ⟨h.bd.xc, rfl⟩

/-- The one request that waits for the table goes on with its answer. -/
def fillGoOn (t e v : Nat) (x : Msg) (q : MemReq) (h : Hw) : Hw :=
  afterLookup x q (some v) { fillCache t e v h with bd := { (fillCache t e v h).bd with miss := [] } }

/-- The line of an entry is read from its primary copy. -/
theorem readEt_good {t e : Nat} {m : Mach}
    (hgood : m.copyGood (domeMap m.hw (etAddr (m.hw.ent t) e)).prim (domeMap m.hw (etAddr (m.hw.ent t) e)).addr = true) :
    readEt t e .good .good m =
      (some (m.et t e), m.openRow (domeMap m.hw (etAddr (m.hw.ent t) e)).prim (domeMap m.hw (etAddr (m.hw.ent t) e)).addr) := by
  have hread : readDome (etAddr (m.hw.ent t) e) (m.hw.homeMaster (etAddr (m.hw.ent t) e)) .good .good false m =
      (false, m.openRow (domeMap m.hw (etAddr (m.hw.ent t) e)).prim (domeMap m.hw (etAddr (m.hw.ent t) e)).addr) := readAt_good hgood _ _
  have hreadable : m.readable (etAddr (m.hw.ent t) e) = true := by
    rw [Mach.readable, hgood]
    rfl
  rw [readEt, hread, Mach.et, Mach.peek, if_pos hreadable]
  rfl

theorem translationCacheFill_one {s : State} {t e : Nat} {x : Msg} {q : MemReq} (hmiss : s.mach.hw.bd.miss = [x]) (htid : x.tid = some t)
    (hreq : x.req = some q) (hidx : q.addr / 2 ^ 21 = e)
    (hgood : s.mach.copyGood (domeMap s.mach.hw (etAddr (s.mach.hw.ent t) e)).prim (domeMap s.mach.hw (etAddr (s.mach.hw.ent t) e)).addr = true) :
    exec (.translationCacheFill t e .good .good) s = onMach (fun m =>
      (m.openRow (domeMap m.hw (etAddr (m.hw.ent t) e)).prim (domeMap m.hw (etAddr (m.hw.ent t) e)).addr).onHw
        (fillGoOn t e (m.et t e) x q)) s := by
  have hfind : ∀ p : Msg → Bool, p x = true → s.mach.hw.bd.miss.find? p = some x := fun p hp => by
    rw [hmiss, List.find?_singleton, hp, if_pos rfl]
  have hwaits : (x.tid == some t && x.req.isSome) = true := by
    rw [htid, hreq, beq_self_eq_true]
    rfl
  obtain ⟨xc, hframe⟩ := fillCache_frame t e (s.mach.et t e) s.mach.hw
  have hrest : removeFirst (fun z => z.ing == x.ing) (fillCache t e (s.mach.et t e) s.mach.hw).bd.miss = [] := by
    rw [hframe, hmiss, removeFirst, beq_self_eq_true]
    rfl
  refine (show exec (.translationCacheFill t e .good .good) s = execTranslationCacheFill t e .good .good s from rfl).trans (onMach_congr ?_)
  dsimp only
  rw [hfind _ hwaits]
  dsimp only
  rw [hreq, hfind _ (beq_self_eq_true x.ing)]
  dsimp only
  rw [if_pos (by rw [beq_self_eq_true, hidx, beq_self_eq_true]; rfl), readEt_good hgood]
  have hcache : (if etV (s.mach.et t e) then s.mach.hw.cache t e (s.mach.et t e) else s.mach.hw) = fillCache t e (s.mach.et t e) s.mach.hw := rfl
  rw [Mach.onHw, Mach.onHw, Mach.openRow_hw]
  dsimp only
  rw [hcache, hrest]
  rfl

/-- What goes on with the table's answer finds the entry cached and no request waiting. -/
theorem fillGoOn_tables (t e v : Nat) {x : Msg} {q : MemReq} {h : Hw} :
    (fillGoOn t e v x q h).bd.miss = [] ∧ (fillGoOn t e v x q h).bd.xc = (fillCache t e v h).bd.xc ∧
      (fillGoOn t e v x q h).bd.tt = h.bd.tt := by
  have htables : (fillGoOn t e v x q h).tables = { (fillCache t e v h).tables with miss := [] } := by
    rw [fillGoOn, tables_afterLookup]
    rfl
  obtain ⟨xc, hframe⟩ := fillCache_frame t e v h
  have htt : (fillCache t e v h).bd.tt = h.bd.tt := by rw [hframe]
  generalize fillGoOn t e v x q h = y at htables ⊢
  exact ⟨show y.tables.miss = [] by rw [htables], show y.tables.xc = (fillCache t e v h).tables.xc by rw [htables],
    (show y.tables.tt = (fillCache t e v h).tables.tt by rw [htables]).trans htt⟩

theorem onHw_openRow (f : Hw → Hw) (m : Mach) (c a : Nat) :
    ((m.openRow c a).onHw f).hw = f m.hw ∧ ((m.openRow c a).onHw f).mem.stored = m.mem.stored := ⟨rfl, rfl⟩

theorem translationCacheFill_completes {s : State} {t e : Nat} {x : Msg} {q : MemReq} (hmiss : s.mach.hw.bd.miss = [x]) (htid : x.tid = some t)
    (hreq : x.req = some q) (hidx : q.addr / 2 ^ 21 = e)
    (hgood : s.mach.copyGood (domeMap s.mach.hw (etAddr (s.mach.hw.ent t) e)).prim (domeMap s.mach.hw (etAddr (s.mach.hw.ent t) e)).addr = true) :
    Completes (.translationCacheFill t e .good .good) s (fun m =>
      m.hw.bd.miss = [] ∧ (etV (s.mach.et t e) = true → ttState (s.mach.hw.ent t) ≠ 4 → ttState (s.mach.hw.ent t) ≠ 5 →
        m.hw.cached t e = some (s.mach.et t e)) ∧ m.hw.bd.tt = s.mach.hw.bd.tt ∧ m.mem.stored = s.mach.mem.stored) := by
  obtain ⟨hnone, hxc, htt⟩ := fillGoOn_tables t e (s.mach.et t e) (x := x) (q := q) (h := s.mach.hw)
  refine completes_onMach (translationCacheFill_one hmiss htid hreq hidx hgood) ?_
  obtain ⟨hhw, hmem⟩ := onHw_openRow (fillGoOn t e (s.mach.et t e) x q) s.mach
    (domeMap s.mach.hw (etAddr (s.mach.hw.ent t) e)).prim (domeMap s.mach.hw (etAddr (s.mach.hw.ent t) e)).addr
  have hcached : (fillGoOn t e (s.mach.et t e) x q s.mach.hw).cached t e = (fillCache t e (s.mach.et t e) s.mach.hw).cached t e := by
    rw [Hw.cached, Hw.cached, hxc]
  rw [hhw, hmem]
  refine ⟨hnone, fun hv habort hquar => ?_, htt, rfl⟩
  rw [hcached, fillCache, if_pos hv]
  exact cached_cache habort hquar e _

/-- Settles O20: a message that is no request goes by the index its lookup finds; and of the binding block the request that missed changes
the records of requests alone, so that the entry stays cached. -/
theorem ingressAndTranslationComplete : Obligations.IngressAndTranslationComplete := by
  unfold Obligations.IngressAndTranslationComplete
  refine ⟨?_, ?_⟩
  · intro s m i h p m' eg x hcls htid hide hbad hopen hfresh hi heg hfound
    have hm : PlainMsg m s.mach.hw := ⟨hcls, htid, hide, hbad, hopen, hfresh⟩
    refine ⟨fun hroute hfree => ?_, fun hroute hint hfree => ?_, fun hbirsp hmiss => ?_⟩
    · refine completes_onHw (messageIngress_queued hm hi hfound heg hroute hfree) ?_
      rw [Mach.onHw, hm.resolve]
      exact ⟨rfl, rfl, rfl, rfl, rfl⟩
    · exact completes_onHw (messageIngress_dropped hm hi hfound hroute hint hfree) ⟨rfl, rfl, rfl, rfl, rfl⟩
    · exact completes_onHw (messageIngress_behind hm hbirsp hmiss) ⟨rfl, rfl, rfl, rfl, rfl⟩
  · intro s t e x q
    dsimp only
    intro hmiss htid hreq hidx hfail hpoison
    refine translationCacheFill_completes hmiss htid hreq hidx ?_
    rw [Mach.copyGood, hfail, hpoison]
    rfl

end Sys2Proof.Machine

namespace Sys2Proof.Machine

/-! ### O26: a rate of a tenant out of range

A tick adds the cycles in which credit was withheld to HD_CREDHOLD (R111) before it computes E from the rates written in it (R246). O26
does not bound the number of the tenant whose rate was written, so it also speaks of one whose RATE has HD_CREDHOLD's place. -/

/-- A tenant's number out of range, at which TS_PACE_RATE has the place of HD_CREDHOLD in the register file. -/
def strayPacer : Nat := (344 - 282) * 65536

/-- The module runs; the stray tenant's last request had 1 byte, its rate was written in this tick and reads 1, and host port 0 withholds
credit for a retry queue. -/
def strayRate : State :=
  ⟨[], { mem := Mem.reset,
         hw := { Hw.reset with
                   regs := [(fkey F.CK_PWRSTAT_STATE 0, 3), (fkey F.HD_CREDHOLD_VAL 0, 1)],
                   hd := { Hw.reset.hd with portQ := [(0, [false])] },
                   ts := { Hw.reset.ts with l := [(strayPacer, 1)], rateOld := [(strayPacer, 0)] } } }⟩

/-- A read of the stray tenant; the clause on the tick says nothing of it. -/
def strayRequest : EMsg :=
  { msg := { ing := 0, cls := .memReqD, tid := some strayPacer }, q := 0, eg := 80, ridx := 0, epoch := 0, itime := 0, got := 0, total := 1,
    bad := false, mc := none, gone := false }

/-- Outside STANDBY a tick runs the pacing wheel, the lanes under test and the slew of stack time (R486). -/
theorem exec_pacingWheelTick {s : State} (hpwr : s.mach.hw.fget F.CK_PWRSTAT_STATE 0 ≠ 2) :
    exec .pacingWheelTick s = onHw (fun h => slewTick (laneTick (wheelTick h))) s := by
  rw [show exec .pacingWheelTick s = execPacingWheelTick s from rfl, execPacingWheelTick, onHw, if_neg hpwr, onHw]

/-- The 16 cycles that the tick counts take the stray tenant's rate from 1 to 17, and E is computed with 17. -/
theorem strayRate_e : Store.getD 0 (slewTick (laneTick (wheelTick strayRate.mach.hw))).ts.e strayPacer = 8000000 / 17 := by
  decide

/-- Refutes O26: `strayRate` meets every hypothesis of the clause on a rate written in the tick, which gives E as 8,000,000 ps where the
tick computes 470,588 ps (`strayRate_e`). -/
theorem not_shapingAndPacingComplete : ¬ Obligations.ShapingAndPacingComplete := by
  unfold Obligations.ShapingAndPacingComplete
  intro h
  obtain ⟨-, -, htick, -⟩ := h.2 strayRate 0 strayPacer 0 0 0 strayRequest EQ.empty
  have hpwr : strayRate.mach.hw.fget F.CK_PWRSTAT_STATE 0 ≠ 2 := by decide
  obtain ⟨t, hexec, -, -, -, -, hrate, -⟩ := htick hpwr rfl rfl rfl
  obtain ⟨-, he⟩ := hrate rfl
  have hclaim : Store.getD 0 t.mach.hw.ts.e strayPacer = 8000000 := he (by decide)
  rw [exec_pacingWheelTick hpwr] at hexec
  rw [← Host.Outcome.next.inj hexec] at hclaim
  exact absurd (strayRate_e.symm.trans hclaim) (by decide)

end Sys2Proof.Machine

/-! PROOFS. Obligations O5, O27, O29 and O30: a ring's slot areas, dispatch, engine failure and FENCE, and migration. -/

namespace Sys2Proof.Machine

/-! ### The discard of a write of a slot's context area or completion record (R68, R264) -/

/-- A write that another master than the data mover sends there is counted and lost. -/
def slotLoss (w : Option (Nat × Nat)) (h : Hw) : Hw := ((h.fadd F.DM_CTXWR_VAL 0 1).loseWrite w).dropWrite w

theorem regs_dropWrite (h : Hw) (w : Option (Nat × Nat)) : (h.dropWrite w).regs = h.regs := by
  cases w <;> rfl

theorem out_dropWrite (h : Hw) (w : Option (Nat × Nat)) : (h.dropWrite w).out = h.out := by
  cases w <;> rfl

theorem out_loseWrite (h : Hw) (w : Option (Nat × Nat)) : (h.loseWrite w).out = h.out := by
  cases w with
  | none => rfl
  | some x =>
    rw [Hw.loseWrite]
    split <;> rfl

theorem fget_loseWrite_ne (h : Hw) (w : Option (Nat × Nat)) {g : Fld} {j : Nat}
    (hk : ∀ x ∈ w, fkey F.BD_TDRAIN_LOSS x.1 ≠ fkey g j) : (h.loseWrite w).fget g j = h.fget g j := by
  cases w with
  | none => rfl
  | some x =>
    rw [Hw.loseWrite]
    split
    · exact Hw.fget_fset_ne _ _ (hk x rfl)
    · rfl

/-- The loss of a marked write sets its tenant's LOSS. -/
theorem fget_loseWrite_marked {h : Hw} {t i : Nat} (hmark : h.bd.writes.any (fun r => r.tid == t && r.wid == i && r.marked) = true) :
    (h.loseWrite (some (t, i))).fget F.BD_TDRAIN_LOSS t = 1 := by
  rw [Hw.loseWrite]
  exact (congrArg (fun x : Hw => x.fget F.BD_TDRAIN_LOSS t) (if_pos hmark)).trans (Hw.fget_fset_same _ _ _ _)

theorem fget_slotLoss (w : Option (Nat × Nat)) (h : Hw) (g : Fld) (j : Nat) :
    (slotLoss w h).fget g j = ((h.fadd F.DM_CTXWR_VAL 0 1).loseWrite w).fget g j := Hw.fget_congr (regs_dropWrite _ _) g j

theorem out_slotLoss (w : Option (Nat × Nat)) (h : Hw) : (slotLoss w h).out = h.out := by
  rw [slotLoss, out_dropWrite, out_loseWrite, Hw.fadd_out]

/-- The discard is counted in DM_CTXWR. -/
theorem fget_ctxwr_counted (h : Hw) :
    (h.fadd F.DM_CTXWR_VAL 0 1).fget F.DM_CTXWR_VAL 0 = min (h.fget F.DM_CTXWR_VAL 0 + 1) (2 ^ 32 - 1) := Hw.fget_fadd_same _ _ _ _

theorem fget_slotLoss_ctxwr {w : Option (Nat × Nat)} (hw : ∀ x ∈ w, x.1 < 8192) (h : Hw) :
    (slotLoss w h).fget F.DM_CTXWR_VAL 0 = min (h.fget F.DM_CTXWR_VAL 0 + 1) (2 ^ 32 - 1) := by
  rw [fget_slotLoss, fget_loseWrite_ne _ _ (fun x hx => fkey_ne (by decide) (Nat.lt_trans (hw x hx) (by decide)) (by decide)),
    fget_ctxwr_counted]

theorem fieldsKept_slotLoss (w : Option (Nat × Nat)) (m : Mach) :
    FieldsKept ((F.DM_CTXWR_VAL, 0) :: w.toList.map (fun x => (F.BD_TDRAIN_LOSS, x.1))) m (m.onHw (slotLoss w)) := by
  intro g j hk
  have hctx := hk _ List.mem_cons_self
  have hloss := fun x hx => hk x (List.mem_cons_of_mem (F.DM_CTXWR_VAL, 0) hx)
  rw [Mach.onHw_hw, fget_slotLoss, fget_loseWrite_ne _ _ ?_, Hw.fget_fadd_ne _ _ hctx]
  intro x hx
  exact hloss (F.BD_TDRAIN_LOSS, x.1) (List.mem_map_of_mem (Option.mem_toList.mpr hx))

theorem fget_slotLoss_marked {w : Option (Nat × Nat)} {h : Hw} {x : Nat × Nat} (hx : x ∈ w)
    (hmark : h.bd.writes.any (fun r => r.tid == x.1 && r.wid == x.2 && r.marked) = true) :
    (slotLoss w h).fget F.BD_TDRAIN_LOSS x.1 = 1 := by
  obtain rfl : w = some x := hx
  rw [fget_slotLoss]
  exact fget_loseWrite_marked (h := h.fadd F.DM_CTXWR_VAL 0 1) hmark

/-! ### Writes of Dome's slots (R264, R325) -/

theorem slotTaken_of_master {off master : Nat} {h : Hw} (hm : master / 2 ^ 13 ≠ 2) (ha : h.inDmArea 1 off = true) :
    (h.inDmArea 1 off && master / 2 ^ 13 != 2) = true := by
  rw [ha, bne_iff_ne.mpr hm]
  rfl

theorem domeWrite_discards {s : State} {off master : Nat} (hm : master / 2 ^ 13 ≠ 2) (ha : s.mach.hw.inDmArea 1 off = true)
    (data : Nat) (w : Option (Nat × Nat)) (fail : WrFails) :
    exec (.domeWrite off data master w fail) s = onMach (fun m => m.onHw (slotLoss w)) s := by
  rw [show exec (.domeWrite off data master w fail) s = execDomeWrite off data master w fail s from rfl, execDomeWrite, onMach,
    if_pos (slotTaken_of_master hm ha)]
  rfl

theorem domePartialWrite_discards {s : State} {off master : Nat} (hm : master / 2 ^ 13 ≠ 2) (ha : s.mach.hw.inDmArea 1 off = true)
    (data en : Nat) (w : Option (Nat × Nat)) (dec : CopyErrs) :
    exec (.domePartialWrite off data en master w dec) s = onMach (fun m => m.onHw (slotLoss w)) s := by
  rw [show exec (.domePartialWrite off data en master w dec) s = execDomePartialWrite off data en master w dec s from rfl,
    execDomePartialWrite, onMach, if_pos (slotTaken_of_master hm ha)]
  rfl

/-- Only the store is mirrored, so a line without a mirror lies below its tables. -/
theorem plain_of_unmirrored {h : Hw} {o : Nat} (hmirror : (domeMap h o).mirror = none) :
    h.storeWord (o / 64 * 64) = none ∧ h.revIn o = [] := by
  have hbelow : o < h.storeFirst * 2 ^ 21 := by
    by_contra hge
    unfold domeMap at hmirror
    dsimp only at hmirror
    rw [if_pos (by omega)] at hmirror
    split at hmirror <;> cases hmirror
  constructor
  · rw [Hw.storeWord]
    exact if_neg (by omega)
  · rw [Hw.revIn]
    exact if_pos (by rw [decide_eq_true (Or.inr hbelow), Bool.or_true])

/-- No channel fails at a write whose command did not fail. The equation of `writeFails` stands as one between functions: applied, the
kernel would evaluate `domeMap` to compare its two sides. -/
theorem onHw_writeFails_none {m : Mach} {off : Nat} (hmirror : (domeMap m.hw off).mirror = none) :
    m.onHw (writeFails off ⟨false, false⟩) = m := by
  have hnone : writeFails off ⟨false, false⟩ m.hw = m.hw := by
    obtain ⟨fails, hfails⟩ : ∃ fails, fails = writeFails := ⟨_, rfl⟩
    rw [← hfails]
    delta writeFails at hfails
    rw [hfails]
    dsimp only
    rw [hmirror]
    exact if_neg Bool.false_ne_true
  rw [Mach.onHw, hnone]

/-- A write without a tag is not looked up. -/
theorem onHw_untagged (stored : Bool) (m : Mach) :
    m.onHw (fun h => (if stored then h else h.loseWrite none).dropWrite none) = m := by
  cases stored <;> rfl

/-- The data mover's write of a line without a mirror is stored, and changes the memories alone. -/
theorem domeWrite_stores {s : State} {off master : Nat} (hm : master / 2 ^ 13 = 2)
    (hprim : s.mach.hw.chFailed (domeMap s.mach.hw off).prim = false) (hmirror : (domeMap s.mach.hw off).mirror = none) (data : Nat) :
    Completes (.domeWrite off data master none ⟨false, false⟩) s (fun m => m.line off = data % 2 ^ 512 ∧ m.hw = s.mach.hw) := by
  have hexec : exec (.domeWrite off data master none ⟨false, false⟩) s =
      onMach (fun m => (writeDome off data (m.hw.hintOf off) false m).2) s := by
    have htaken : (s.mach.hw.inDmArea 1 off && master / 2 ^ 13 != 2) = false := by
      rw [hm]
      exact Bool.and_false _
    rw [show exec (.domeWrite off data master none ⟨false, false⟩) s = execDomeWrite off data master none ⟨false, false⟩ s from rfl,
      execDomeWrite, onMach, htaken, if_neg Bool.false_ne_true, onHw_writeFails_none hmirror]
    exact congrArg Host.Outcome.next (congrArg (State.mk s.pending) (onHw_untagged _ _))
  obtain ⟨hstore, hrev⟩ := plain_of_unmirrored hmirror
  obtain ⟨-, hdone⟩ := writeDome_stored data (s.mach.hw.hintOf off) hprim hstore hrev
  refine completes_onMach hexec ?_
  generalize (writeDome off data (s.mach.hw.hintOf off) false s.mach).2 = b at hdone
  have hregs := hdone.regs (fun c hc => by rw [hmirror] at hc; cases hc)
  obtain ⟨regs, hb⟩ := hdone.only
  have hhw : b.hw = s.mach.hw := by
    rw [hb] at hregs ⊢
    change ({ s.mach.hw with regs := regs } : Hw) = s.mach.hw
    rw [show regs = s.mach.hw.regs from hregs]
  refine ⟨?_, hhw⟩
  rw [line_plain (by rw [hhw]; exact hstore) (by rw [hhw]; exact hrev), hdone.dome, readLE_writeLE, line_bytes]

/-! ### An access alone at a bank (R594, R595) -/

/-- A rotating search finds the one that qualifies. -/
theorem rotFind_only {p : Nat → Bool} {n x : Nat} (hx : x < n) (hp : ∀ i, p i = true ↔ i = x) (start : Nat) :
    rotFind p n start n = some x := by
  have hmeets : ∀ fuel start, (∃ d, d < fuel ∧ (start + d) % n = x) → rotFind p n start fuel = some x := by
    intro fuel
    induction fuel with
    | zero =>
      rintro start ⟨d, hd, -⟩
      omega
    | succ fuel ih =>
      rintro start ⟨d, hd, hdx⟩
      rw [rotFind]
      by_cases hs : start % n = x
      · rw [if_pos ((hp _).mpr hs), hs]
      · rw [if_neg (fun h => hs ((hp _).mp h))]
        obtain _ | d := d
        · exact absurd hdx hs
        · exact ih (start + 1) ⟨d, by omega, by rw [← hdx]; congr 1; omega⟩
  refine hmeets n start ⟨(x + n - start % n) % n, Nat.mod_lt _ (by omega), ?_⟩
  have hs : start % n < n := Nat.mod_lt _ (by omega)
  rw [Nat.add_mod_mod, ← Nat.mod_add_mod, show start % n + (x + n - start % n) = x + n by omega, Nat.add_mod_right, Nat.mod_eq_of_lt hx]

/-- An access at port B of a bank where none waits. -/
structure AtPortB (r : SpReq) (bank : Nat) (h : Hw) : Prop where
  wait : h.sp.wait = []
  inBank : r.off / 0x200000 = bank
  four : bank < 4
  six : r.master < 6
  notOwner : spOwns r.master bank = false

/-- `h` with other accesses waiting at the scratchpad. -/
def Hw.withSp (h : Hw) (sp : SpState) : Hw := { h with sp := sp }

theorem AtPortB.arrives {r : SpReq} {bank : Nat} {m : Mach} (hr : AtPortB r bank m.hw) :
    spArrive bank [r] m = m.onHw (fun h => h.withSp { h.sp with wait := [(bank, r)] }) := by
  have hfree : m.hw.sp.wait.any (fun w => w.1 == bank && w.2.master == r.master) = false := by
    rw [hr.wait]
    rfl
  rw [spArrive, Mach.onHw, List.foldl_cons, List.foldl_nil, if_pos ⟨hr.inBank, hr.four, hr.six, hr.notOwner, hfree⟩, hr.wait]
  rfl

/-- It is served at once. -/
theorem spCycle_portB {r : SpReq} {bank : Nat} {m : Mach} (hr : AtPortB r bank m.hw) (ecc : Ecc) :
    ∃ sp, spCycle bank none ecc (spArrive bank [r] m) = spAnswer r (spOne r ecc (m.onHw (fun h => h.withSp sp))) := by
  have honly : ∀ i, ([(bank, r)] : List (Nat × SpReq)).any (fun w => w.1 == bank && w.2.master == i) = true ↔ i = r.master := by
    intro i
    rw [List.any_cons, List.any_nil, Bool.or_false, beq_self_eq_true, Bool.true_and, beq_iff_eq, eq_comm]
  have hfind : ([(bank, r)] : List (Nat × SpReq)).find? (fun w => w.1 == bank && w.2.master == r.master) = some (bank, r) := by
    rw [List.find?_cons_of_pos]
    rw [beq_self_eq_true, beq_self_eq_true]
    rfl
  refine ⟨{ wait := [], ptr := Store.setD 0 m.hw.sp.ptr bank ((r.master + 1) % 6) }, ?_⟩
  have hserved : removeFirst (fun w : Nat × SpReq => w.1 == bank && w.2.master == r.master) [(bank, r)] = [] := by
    rw [removeFirst, beq_self_eq_true, beq_self_eq_true]
    rfl
  rw [hr.arrives, spCycle]
  dsimp only [Mach.onHw, Hw.withSp]
  rw [rotFind_only hr.six honly, Option.bind_some, hfind]
  dsimp only
  rw [hserved]

/-- A write of a slot's area by a master that is not the data mover passes its bank's checks and reaches no word. -/
structure SlotIntruder (r : SpReq) (h : Hw) : Prop where
  portB : AtPortB r 1 h
  check : spCheck h r = 0
  area : h.inDmArea 0 (r.off % 0x200000) = true
  writes : r.op ≠ .read

theorem spOne_reserved {r : SpReq} {m : Mach} (hcheck : spCheck m.hw r = 0) (hres : spReserved m.hw r = true) (ecc : Ecc) :
    spOne r ecc m = ((0, 0), m.onHw (fun h => h.fadd F.DM_CTXWR_VAL 0 1)) := by
  rw [spOne, hcheck]
  exact if_pos hres

theorem spOne_word {r : SpReq} {m : Mach} (hcheck : spCheck m.hw r = 0) (hres : spReserved m.hw r = false) (ecc : Ecc) :
    spOne r ecc m = spWord r ecc m := by
  rw [spOne, hcheck]
  exact if_neg (by rw [hres]; exact Bool.false_ne_true)

/-- It is answered OK and counted. -/
def slotRefused (r : SpReq) (h : Hw) : Hw := (h.fadd F.DM_CTXWR_VAL 0 1).emit (.spDone r.master 0 0)

theorem SlotIntruder.refused {r : SpReq} {m : Mach} (hr : SlotIntruder r m.hw) (ecc : Ecc) :
    ∃ sp, spCycle 1 none ecc (spArrive 1 [r] m) = m.onHw (fun h => slotRefused r (h.withSp sp)) := by
  obtain ⟨sp, hcycle⟩ := spCycle_portB hr.portB ecc
  have hmaster : r.master ≠ 1 := by
    intro h1
    have := hr.portB.notOwner
    rw [h1] at this
    exact absurd this (by decide)
  have hres : spReserved m.hw r = true := by
    rw [spReserved, hr.portB.inBank, hr.area, bne_iff_ne.mpr hr.writes, bne_iff_ne.mpr hmaster]
    rfl
  refine ⟨sp, ?_⟩
  rw [hcycle, spOne_reserved (m := m.onHw (fun h => h.withSp sp)) hr.check hres]
  rfl

/-- What the discard of a write of a slot in the scratchpad leaves. -/
theorem SlotIntruder.completes {c : Instr} {s : State} {r : SpReq} (hr : SlotIntruder r s.mach.hw) {ecc : Ecc}
    (hc : exec c s = onMach (fun m => spCycle 1 none ecc (spArrive 1 [r] m)) s) :
    Completes c s (fun m => (m.mem = s.mach.mem ∧ m.hw.fget F.DM_CTXWR_VAL 0 = min (s.mach.hw.fget F.DM_CTXWR_VAL 0 + 1) (2 ^ 32 - 1) ∧
      FieldsKept [(F.DM_CTXWR_VAL, 0)] s.mach m) ∧ m.hw.out = .spDone r.master 0 0 :: s.mach.hw.out) := by
  obtain ⟨sp, hcycle⟩ := hr.refused ecc
  refine completes_onMach hc ?_
  rw [hcycle]
  have hkept : FieldsKept [(F.DM_CTXWR_VAL, 0)] s.mach (s.mach.onHw (fun h => h.fadd F.DM_CTXWR_VAL 0 1)) :=
    (FieldsKept.refl _ _).fset List.mem_cons_self _
  exact ⟨⟨rfl, fget_ctxwr_counted s.mach.hw, hkept.congr rfl⟩, rfl⟩

theorem slotIntruder {r : SpReq} {h : Hw} (hwait : h.sp.wait = []) (hbank : r.off / 0x200000 = 1) (hcheck : spCheck h r = 0)
    (harea : h.inDmArea 0 (r.off % 0x200000) = true) (hsix : r.master < 6) (hmaster : r.master ≠ 1) (hop : r.op ≠ .read) :
    SlotIntruder r h where
  portB := ⟨hwait, hbank, by decide, hsix, by rw [spOwns, beq_eq_false_iff_ne.mpr hmaster]; rfl⟩
  check := hcheck
  area := harea
  writes := hop

theorem aliasWrite_portB {r : SpReq} {m : Mach} (hr : AtPortB r 1 m.hw) (ecc : Ecc) :
    aliasWrite r ecc m = spCycle 1 none ecc (spArrive 1 [r] m) := by
  have hsix := hr.six
  rw [aliasWrite, hr.inBank, if_neg (by omega), hr.notOwner, if_neg Bool.false_ne_true]

/-- A good word takes the bytes that a write enables. -/
theorem spWord_write {r : SpReq} {m : Mach} (hop : r.op = .write) (hbad : Store.getD 0 m.mem.spBad (r.off / 8) = 0) :
    ∃ bad, spWord r .good m = ((0, 0), { m with mem := { m.mem with
      sp := writeLE 0 m.mem.sp (8 * (r.off / 8)) (spApply r (readLE 0 m.mem.sp (8 * (r.off / 8)) 8)) 8, spBad := bad } }) := by
  rw [spWord]
  dsimp only
  split
  · exact ⟨_, rfl⟩
  · have hread : r.op ≠ .read := by rw [hop]; decide
    rw [hbad, if_neg (show ¬ ((0 : Nat) = 2 ∨ Ecc.good = Ecc.ue) by decide),
      if_neg (show ¬ ((0 : Nat) = 1 ∨ Ecc.good = Ecc.ce) by decide), if_neg hread]
    exact ⟨_, rfl⟩

/-- The data mover's write reaches its word at its own port. -/
theorem spCycle_mover {r : SpReq} {m : Mach} (hwait : m.hw.sp.wait = []) (hbank : r.off / 0x200000 = 1) (hmaster : r.master = 1)
    (hcheck : spCheck m.hw r = 0) : spCycle 1 (spPortA 1 (some r)) .good (spArrive 1 [] m) = spAnswer r (spWord r .good m) := by
  have hport : spPortA 1 (some r) = some r := by
    rw [spPortA, Option.filter_some, hbank, hmaster]
    rfl
  have hres : spReserved m.hw r = false := by
    rw [spReserved, hmaster]
    cases r.op != SpOp.read <;> rfl
  rw [hport, show spArrive 1 [] m = m from rfl, spCycle, hwait, ← spOne_word hcheck hres]
  rfl

theorem portBAccess_mover {s : State} {r : SpReq} (hwait : s.mach.hw.sp.wait = []) (hbank : r.off / 0x200000 = 1)
    (hcheck : spCheck s.mach.hw r = 0) (hop : r.op = .write) (hmaster : r.master = 1)
    (hbad : Store.getD 0 s.mach.mem.spBad (r.off / 8) = 0) :
    Completes (.scratchpadPortBAccess 1 [] (some r) .good) s (fun m =>
      readLE 0 m.mem.sp (8 * (r.off / 8)) 8 = spApply r (readLE 0 s.mach.mem.sp (8 * (r.off / 8)) 8) % 2 ^ 64 ∧
      m.hw.regs = s.mach.hw.regs) := by
  obtain ⟨bad, hword⟩ := spWord_write hop hbad
  have hc : exec (.scratchpadPortBAccess 1 [] (some r) .good) s =
      onMach (fun m => spCycle 1 (spPortA 1 (some r)) .good (spArrive 1 [] m)) s := rfl
  refine completes_onMach hc ?_
  rw [spCycle_mover hwait hbank hmaster hcheck, hword]
  exact ⟨readLE_writeLE _ _ _ _ _, rfl⟩

theorem spApply_write {r : SpReq} (hop : r.op = .write) (w : Nat) :
    spApply r w = w - Nat.land w (byteMask (spEnables r)) +
      Nat.land (r.data % 2 ^ (8 * r.size) * 2 ^ (8 * (r.off % 8)) % 2 ^ 64) (byteMask (spEnables r)) := by
  rw [spApply, hop]

/-- Settles O5: in Dome the discard is `slotLoss` and the data mover's write is stored; in the scratchpad an intruder's access is served at
port B of its bank without reaching its word, and the data mover's reaches it at port A. -/
theorem slotAreasTakeOnlyTheDataMover : Obligations.SlotAreasTakeOnlyTheDataMover := by
  unfold Obligations.SlotAreasTakeOnlyTheDataMover
  intro s off data en master w fail dec r
  dsimp only
  refine ⟨fun harea => ⟨fun hother hw => ?_, fun hmover hprim hmirror => domeWrite_stores hmover hprim hmirror data⟩,
    fun harea hbank hwait hcheck => ?_⟩
  · have hlost : (s.mach.onHw (slotLoss w)).mem = s.mach.mem ∧
        (s.mach.onHw (slotLoss w)).hw.fget F.DM_CTXWR_VAL 0 = min (s.mach.hw.fget F.DM_CTXWR_VAL 0 + 1) (2 ^ 32 - 1) ∧
        FieldsKept ((F.DM_CTXWR_VAL, 0) :: w.toList.map (fun x => (F.BD_TDRAIN_LOSS, x.1))) s.mach (s.mach.onHw (slotLoss w)) :=
      ⟨rfl, fget_slotLoss_ctxwr hw _, fieldsKept_slotLoss w _⟩
    have hmarked : ∀ x ∈ w, s.mach.hw.bd.writes.any (fun r => r.tid == x.1 && r.wid == x.2 && r.marked) = true →
        (s.mach.onHw (slotLoss w)).hw.fget F.BD_TDRAIN_LOSS x.1 = 1 := fun x hx hmark => fget_slotLoss_marked hx hmark
    exact ⟨completes_onMach (domeWrite_discards hother harea data w fail) ⟨hlost, out_slotLoss w _, hmarked⟩,
      completes_onMach (domePartialWrite_discards hother harea data en w dec) ⟨hlost, out_slotLoss w _, hmarked⟩⟩
  · refine ⟨fun hop hsix hmaster => ?_, fun hop hmaster hbad => ?_, fun hsix hmaster => ⟨fun hop => ?_, fun hop => ?_⟩⟩
    · exact (slotIntruder hwait hbank hcheck harea hsix hmaster (by rw [hop]; decide)).completes (ecc := .good) rfl
    · rw [← spApply_write hop]
      exact portBAccess_mover hwait hbank hcheck hop hmaster hbad
    · have hr := slotIntruder hwait hbank hcheck harea hsix hmaster (by rw [hop]; decide)
      refine hr.completes (ecc := .good) ?_
      rw [onMach, ← aliasWrite_portB hr.portB]
      have hset : { r with op := .set } = r := by rw [← hop]
      exact congrArg (fun q => onMach (aliasWrite q .good) s) hset
    · have hr := slotIntruder hwait hbank hcheck harea hsix hmaster (by rw [hop]; decide)
      refine hr.completes (ecc := .good) ?_
      rw [onMach, ← aliasWrite_portB hr.portB]
      have hclr : { r with op := .clr } = r := by rw [← hop]
      exact congrArg (fun q => onMach (aliasWrite q .good) s) hclr

/-! ### O27: a job on an engine out of range

A doorbell lets a pending ring pre-empt a job in DRAIN of lower priority and frees its engine (R274, R297). O27 bounds no engine's number in
the jobs that the state holds, so it also speaks of one whose BUSY has the place of the doorbell's own TAIL. -/

/-- An engine's number out of range, at which DM_ENGSTAT.BUSY has the place of ring 0's DM_RTAIL in the register file. -/
def strayEngine : Nat := (402 - 382) * 65536

/-- Ring 0 is enabled with one slot, its job pre-empted; ring 1, of the next lower priority, drains its job on the stray engine. -/
def strayDrain : State :=
  ⟨[], { mem := Mem.reset,
         hw := { Hw.reset with
                   regs := [(fkey F.DM_RCFG_EN 0, 1), (fkey F.DM_RCFG_PRIO 1, 1)],
                   dm := { Hw.reset.dm with
                             jobs := [(0, DmJob.fresh 0 none .idle), (1, DmJob.fresh 0 (some strayEngine) .draining)] } } }⟩

/-- The doorbell writes 1 to TAIL, and the stray engine's BUSY, cleared by the pre-emption, takes it back to 0. -/
theorem strayDrain_tail : (doorbell .turret 0 1 strayDrain.mach).hw.fget F.DM_RTAIL_VAL 0 = 0 := by
  decide

/-- Refutes O27: in `strayDrain` a doorbell within the ring meets the hypotheses of its clause, and TAIL does not read what it wrote
(`strayDrain_tail`). -/
theorem not_moverDispatchCompletes : ¬ Obligations.MoverDispatchCompletes := by
  unfold Obligations.MoverDispatchCompletes
  intro h
  obtain ⟨hring, -⟩ := h strayDrain .turret 0 0 0 1 (by decide)
  obtain ⟨t, hexec, -, htail, -⟩ := hring (by decide) (by decide)
  have hrun : exec (.dmRtailDoorbell .turret 0 1) strayDrain = onMach (doorbell .turret 0 1) strayDrain := rfl
  rw [hrun, onMach] at hexec
  rw [← Host.Outcome.next.inj hexec, strayDrain_tail] at htail
  exact absurd htail (by decide)

/-! ### O30: a migration that an abort has reached

A migration locks no further line once an abort or a stop has reached its job (R281, R287, R298). O30 asks this of the clause on a line's
copy (`j.abort = false`, `j.stop = none`) and not of the one on a line's lock. -/

/-- A MIGRATE START that copies, by record 0 on engine 0, and that is to end with ABORTED. -/
def abortingCopy : DmJob := { DmJob.fresh (2 + 0x200000 * 2 ^ 192) (some 0) .copying with mig := some 0, abort := true }

/-- Ring 0 runs it; the home is idle. -/
def abortingMigration : State :=
  ⟨[], { mem := Mem.reset,
         hw := { Hw.reset with
                   regs := [(fkey F.DM_MIGSRC_V 0, 1), (fkey F.DM_ENGSTAT_BUSY 0, 1), (fkey F.DM_RCFG_EN 0, 1)],
                   dm := { Hw.reset.dm with jobs := [(0, abortingCopy)] } } }⟩

/-- A migration that an abort has reached locks no line. -/
theorem lineLock_aborting {e r n : Nat} {j : DmJob} {m : Mach} (hon : m.hw.ringOn e = some (r, j)) (hmig : j.mig = some n)
    (habort : j.abort = true) : lineLock e m = m := by
  rw [lineLock, hon]
  dsimp only
  rw [hmig]
  exact if_neg (by simp [habort])

/-- Refutes O30: `abortingMigration` meets the hypotheses of the clause on a line's lock, and MIGRATION_LINE_LOCK opens no transaction in
it (`lineLock_aborting`). -/
theorem not_migrationCompletes : ¬ Obligations.MigrationCompletes := by
  unfold Obligations.MigrationCompletes
  intro h
  obtain ⟨hjob, -⟩ := h abortingMigration 0 0 0 0 0 0 0 0 0 abortingCopy (lockReq 0 0)
    (HTxn.start (lockReq 0 0) .snp (DirEnt.fresh 0 0) (DirEnt.fresh 0 0))
  obtain ⟨-, -, hcopying⟩ := hjob rfl rfl (by decide) rfl rfl
  obtain ⟨hlock, -⟩ := hcopying rfl rfl (by decide)
  obtain ⟨t, hexec, -, k, tx, htxns, -⟩ := hlock (by decide) homeIdle_reset (by decide) rfl (by decide)
  have hrun : exec (.migrationLineLock 0) abortingMigration = onHome (lineLock 0) abortingMigration := rfl
  have hnone : homeEffect (lineLock 0) abortingMigration.mach = abortingMigration.mach := by
    rw [homeEffect, lineLock_aborting (j := abortingCopy) rfl rfl rfl]
    rfl
  rw [hrun, onHome, onMach, hnone] at hexec
  rw [← Host.Outcome.next.inj hexec] at htxns
  cases htxns

/-! ### An engine fails while its job is between windows (R285) -/

/-- The engine of a ring's job has failed: its job waits pre-empted with the context of its last commit. -/
def engineLost (e r : Nat) (j : DmJob) (h : Hw) : Hw :=
  ((freeEngine (some e) ((dropAccs r 0 (h.setJob r j.park)).fset F.DM_RSTAT_PREEMPTED r 1)).fset F.DM_ENGSTAT_FAILED e 1).fadd
    F.DM_FAILOVER_VAL 0 1

/-- What the failure of an engine that runs a ring's job reports. -/
def lossSrc (e r : Nat) : FaultSrc := { code := 0x0C02, dom := domEngine, dinst := e, addr := ringNo r, unit := e, held := 1 }

theorem engineReturn_idle {e r : Nat} {j : DmJob} {m : Mach} (hown : r ≠ ownRing) (hon : m.hw.ringOn e = some (r, j))
    (hphase : j.phase = .idle) (habort : j.abort = false) :
    engineReturn e m =
      m.onHw (fun h => freeEngine (some e) ((dropAccs r 0 (h.setJob r j.park)).fset F.DM_RSTAT_PREEMPTED r 1)) := by
  have hparked : (m.onHw (fun h => ringSet F.DM_RSTAT_PREEMPTED r 1 (dropAccs r 0 (h.setJob r j.park)))).onHw (freeEngine (some e)) =
      m.onHw (fun h => freeEngine (some e) ((dropAccs r 0 (h.setJob r j.park)).fset F.DM_RSTAT_PREEMPTED r 1)) := by
    rw [Mach.onHw, Mach.onHw, Mach.onHw, ringSet, if_neg hown]
  rw [engineReturn, hon]
  dsimp only
  rw [habort, if_neg Bool.false_ne_true, hphase]
  cases j.mig with
  | none => exact hparked
  | some n =>
    dsimp only
    rw [if_neg (by decide)]
    exact hparked

theorem engineFail_idle {e r : Nat} {j : DmJob} {m : Mach} (hown : r ≠ ownRing) (hfailed : m.hw.flag F.DM_ENGSTAT_FAILED e = false)
    (hon : m.hw.ringOn e = some (r, j)) (hphase : j.phase = .idle) (habort : j.abort = false) :
    engineFail e m = m.onHw (fun h => (engineLost e r j h).raise (lossSrc e r)) := by
  rw [engineFail, hfailed, if_neg Bool.false_ne_true, engineReturn_idle hown hon hphase habort, hon]
  rw [Mach.onHw, Mach.onHw, Mach.onHw, engineLost, lossSrc]
  rfl

theorem fget_freeEngine {e : Nat} (he : e < 8) (h : Hw) {g : Fld} {i : Nat} (hi : i < 65536)
    (hid : F.DM_ENGSTAT_BUSY.id ≠ g.id ∧ F.DM_ENGSTAT_RING.id ≠ g.id ∧ F.DM_ENGSTAT_PRIO.id ≠ g.id) :
    (freeEngine (some e) h).fget g i = h.fget g i := by
  obtain ⟨hb, hr, hp⟩ := hid
  rw [freeEngine, Hw.fget_fset_ne _ _ (fkey_ne hp (by omega) hi), Hw.fget_fset_ne _ _ (fkey_ne hr (by omega) hi),
    Hw.fget_fset_ne _ _ (fkey_ne hb (by omega) hi)]

theorem fget_freeEngine_busy {e : Nat} (he : e < 8) (h : Hw) : (freeEngine (some e) h).fget F.DM_ENGSTAT_BUSY e = 0 := by
  rw [freeEngine, Hw.fget_fset_ne _ _ (fkey_ne (by decide) (by omega) (by omega)),
    Hw.fget_fset_ne _ _ (fkey_ne (by decide) (by omega) (by omega)), Hw.fget_fset_same]
  rfl

section EngineLost

variable {e r : Nat} {j : DmJob} {h : Hw}

theorem job_engineLost : (engineLost e r j h).job r = some j.park := Hw.job_setJob h r j.park

/-- Its other fields are those of the engine freed. -/
theorem fget_engineLost (he : e < 8) {g : Fld} {i : Nat} (hi : i < 65536)
    (hid : F.DM_FAILOVER_VAL.id ≠ g.id ∧ F.DM_ENGSTAT_FAILED.id ≠ g.id) : (engineLost e r j h).fget g i =
      (freeEngine (some e) ((dropAccs r 0 (h.setJob r j.park)).fset F.DM_RSTAT_PREEMPTED r 1)).fget g i := by
  obtain ⟨hcount, hfail⟩ := hid
  rw [engineLost, Hw.fget_fadd_ne _ _ (fkey_ne hcount (by omega) hi), Hw.fget_fset_ne _ _ (fkey_ne hfail (by omega) hi)]

theorem fget_engineLost_failed (he : e < 8) : (engineLost e r j h).fget F.DM_ENGSTAT_FAILED e = 1 := by
  rw [engineLost, Hw.fget_fadd_ne _ _ (fkey_ne (by decide) (by omega) (by omega)), Hw.fget_fset_same]
  rfl

theorem fget_engineLost_busy (he : e < 8) : (engineLost e r j h).fget F.DM_ENGSTAT_BUSY e = 0 := by
  rw [fget_engineLost he (by omega) (by decide), fget_freeEngine_busy he]

theorem fget_engineLost_preempted (he : e < 8) (hr : r < 1024) : (engineLost e r j h).fget F.DM_RSTAT_PREEMPTED r = 1 := by
  rw [fget_engineLost he (by omega) (by decide), fget_freeEngine he _ (by omega) (by decide), Hw.fget_fset_same]
  rfl

theorem fget_engineLost_failover (he : e < 8) (hr : r < 1024) :
    (engineLost e r j h).fget F.DM_FAILOVER_VAL 0 = min (h.fget F.DM_FAILOVER_VAL 0 + 1) (2 ^ 32 - 1) := by
  rw [engineLost, Hw.fget_fadd_same, Hw.fget_fset_ne _ _ (fkey_ne (by decide) (by omega) (by omega)),
    fget_freeEngine he _ (by omega) (by decide), Hw.fget_fset_ne _ _ (fkey_ne (by decide) (by omega) (by omega))]
  rfl

/-- Its message enters the data mover's queue. -/
theorem raise_engineLost (hroom : (h.queue 12).length < 8) : (engineLost e r j h).raise (lossSrc e r) =
    (engineLost e r j h).setQueue 12 (h.queue 12 ++ [faultMsg (lossSrc e r) (engineLost e r j h)]) := by
  have hpos : bits (lossSrc e r).code 8 4 = 12 := show bits 0x0C02 8 4 = 12 by decide
  have hqueue : (engineLost e r j h).queue 12 = h.queue 12 := Hw.queue_congr rfl 12
  rw [raise_room (by rw [hpos, hqueue]; exact hroom), hpos, hqueue]

end EngineLost

theorem engineFailure_completes {s : State} {e r : Nat} {j : DmJob} (hr : r < 1024) (he : e < 8)
    (hfailed : s.mach.hw.flag F.DM_ENGSTAT_FAILED e = false) (hon : s.mach.hw.ringOn e = some (r, j)) (hphase : j.phase = .idle)
    (habort : j.abort = false) (hheld : s.mach.hw.hd.held = []) (hroom : (s.mach.hw.queue 12).length < 8) :
    Completes (.dmEngineFailure e) s (fun m => m.hw.job r = some j.park ∧ m.hw.fget F.DM_ENGSTAT_FAILED e = 1 ∧
      m.hw.fget F.DM_ENGSTAT_BUSY e = 0 ∧ m.hw.fget F.DM_RSTAT_PREEMPTED r = 1 ∧
      m.hw.fget F.DM_FAILOVER_VAL 0 = min (s.mach.hw.fget F.DM_FAILOVER_VAL 0 + 1) (2 ^ 32 - 1) ∧
      (∃ f : FMsg, m.hw.queue 12 = s.mach.hw.queue 12 ++ [f] ∧ f.code = 0x0C02 ∧ f.domain = 6 ∧ f.dinst = e ∧ f.held = 1) ∧
      m.mem = s.mach.mem) := by
  have hown : r ≠ ownRing := by
    rw [ownRing]
    omega
  have hdone : engineFail e s.mach = s.mach.onHw (fun h =>
      (engineLost e r j h).setQueue 12 (h.queue 12 ++ [faultMsg (lossSrc e r) (engineLost e r j h)])) := by
    rw [engineFail_idle hown hfailed hon hphase habort, Mach.onHw, raise_engineLost hroom]
    rfl
  refine completes_onHome (c := .dmEngineFailure e) rfl (by rw [hdone]; exact hheld) ?_
  rw [hdone, Mach.onHw_hw, Hw.fget_setQueue, Hw.fget_setQueue, Hw.fget_setQueue, Hw.fget_setQueue, Hw.queue_setQueue_same]
  exact ⟨job_engineLost (e := e), fget_engineLost_failed he, fget_engineLost_busy he, fget_engineLost_preempted he hr,
    fget_engineLost_failover he hr, ⟨_, rfl, rfl, rfl, rfl, rfl⟩, rfl⟩

/-! ### The read of a slot's descriptor (R266) -/

/-- The fields that the read of a slot can change: the counts of bad words and lines, and of the messages lost. -/
def fetchIds : List Nat := [F.DD_POISRD_VAL.id, F.SP_UECNT_VAL.id, F.SP_CECNT_VAL.id, F.FC_DROP_VAL.id, F.FC_STAT_LOSTHI.id]

/-- What the read of a slot leaves: the home, the pool's state, the flash, every field but those counts, and every good copy of a line. -/
structure SlotRead (a b : Mach) : Prop where
  hd : b.hw.hd = a.hw.hd
  bd : b.hw.bd = a.hw.bd
  flash : b.mem.flash = a.mem.flash
  fields : ∀ (g : Fld) (i : Nat), i < 65536 → g.id ∉ fetchIds → b.hw.fget g i = a.hw.fget g i
  clean : ∀ c x, (a.attr c x).poison = false → (b.attr c x).poison = false

theorem SlotRead.refl (a : Mach) : SlotRead a a := ⟨rfl, rfl, rfl, fun _ _ _ _ => rfl, fun _ _ h => h⟩

theorem SlotRead.trans {a b c : Mach} (hab : SlotRead a b) (hbc : SlotRead b c) : SlotRead a c where
  hd := hbc.hd.trans hab.hd
  bd := hbc.bd.trans hab.bd
  flash := hbc.flash.trans hab.flash
  fields := fun g i hi hg => (hbc.fields g i hi hg).trans (hab.fields g i hi hg)
  clean := fun c x h => hbc.clean c x (hab.clean c x h)

theorem slotRead_fadd {f : Fld} {i : Nat} (hf : f.id ∈ fetchIds) (hi : i < 65536) (m : Mach) : SlotRead m (m.onHw (fun h => h.fadd f i 1)) where
  hd := rfl
  bd := rfl
  flash := rfl
  fields := fun _ _ hj hg => Hw.fget_fadd_ne _ _ (fkey_ne (ne_of_mem_of_not_mem hf hg) hi hj)
  clean := fun _ _ h => h

theorem slotRead_raise (f : FaultSrc) (m : Mach) : SlotRead m (m.onHw (fun h => h.raise f)) where
  hd := Hw.hd_raise _ _
  bd := by
    obtain ⟨_, _, hr, -⟩ := Hw.raise_frame m.hw f
    rw [Mach.onHw, hr]
  flash := rfl
  fields := fun _ _ hj hg => Hw.fget_raise _ _ (fkey_ne (ne_of_mem_of_not_mem (by decide) hg) (by decide) hj)
    (fkey_ne (ne_of_mem_of_not_mem (by decide) hg) (by decide) hj)
  clean := fun _ _ h => h

/-- An access that has reached its word of the scratchpad. -/
theorem slotRead_spWord (r : SpReq) (ecc : Ecc) (m : Mach) : SlotRead m (spWord r ecc m).2 := by
  have hmem : ∀ {a : Mach} (sp : SMap Byte) (bad : SMap Nat), SlotRead m a →
      SlotRead m { a with mem := { a.mem with sp := sp, spBad := bad } } :=
    fun _ _ h => ⟨h.hd, h.bd, h.flash, h.fields, h.clean⟩
  unfold spWord
  dsimp only
  split
  · exact hmem _ _ (.refl m)
  · split
    · exact (hmem _ _ (.refl m)).trans (slotRead_fadd (f := F.SP_UECNT_VAL) (by decide) (by decide) _)
    · refine hmem _ _ ?_
      split
      · exact (slotRead_fadd (f := F.SP_CECNT_VAL) (by decide) (by decide) m).trans (slotRead_raise _ _)
      · exact .refl m

theorem slotRead_readPhys {c : Nat} (hc : c < 65536) (a master : Nat) (m : Mach) :
    SlotRead m (readPhys c a master .good false false m).2 := by
  unfold readPhys
  split
  · exact .refl m
  · dsimp only
    rw [if_neg (by decide), decodeLine]
    have hopen : SlotRead m (m.openRow c a) := ⟨rfl, rfl, rfl, fun _ _ _ _ => rfl, fun _ _ h => h⟩
    generalize ((m.openRow c a).attr c a).poison = poison
    cases poison
    · exact hopen
    · exact hopen.trans (slotRead_fadd (f := F.DD_POISRD_VAL) (by decide) hc _)

/-- The good copy of a line is written back over the bad one. -/
theorem slotRead_setClean (c a : Nat) (m : Mach) : SlotRead m (m.setAttr c a LineAttr.clean) where
  hd := rfl
  bd := rfl
  flash := rfl
  fields := fun _ _ _ _ => rfl
  clean := fun c' x h => by
    rw [Mach.attr, Mach.setAttr]
    by_cases hkey : lineKey c a = lineKey c' x
    · rw [hkey, Store.getD_setD_same]
      rfl
    · rw [Store.getD_setD_ne _ _ _ _ hkey]
      exact h

theorem slotRead_readAt {p : Phys} (hprim : p.prim < 65536) (hmirror : ∀ c, p.mirror = some c → c < 65536) (o master : Nat) (m : Mach) :
    SlotRead m (readAt p o master .good .good false m).2 := by
  unfold readAt
  have hfirst := slotRead_readPhys hprim p.addr master m
  dsimp only
  generalize readPhys p.prim p.addr master .good false false m = r0 at hfirst ⊢
  have hread : (if r0.1 = true then r0 else (false, r0.2.misread o .good)).2 = r0.2 := by
    split
    · rfl
    · rw [Mach.misread, if_neg (by decide)]
  rw [← hread] at hfirst
  generalize (if r0.1 = true then r0 else (false, r0.2.misread o .good)) = r at hfirst ⊢
  cases hm : p.mirror with
  | none => exact hfirst
  | some c2 =>
    have hsecond := slotRead_readPhys (hmirror c2 hm) p.addr master r.2
    dsimp only
    generalize readPhys c2 p.addr master .good false false r.2 = r2 at hsecond ⊢
    split
    · refine hfirst.trans (hsecond.trans ?_)
      split
      · exact slotRead_raise _ _
      · dsimp only
        split
        · exact .refl _
        · exact slotRead_setClean _ _ _
    · exact hfirst

/-- The descriptor of a slot is read. -/
theorem slotRead_slotFetch (r : Nat) (m : Mach) : SlotRead m (slotFetch r m) := by
  unfold slotFetch
  dsimp only
  split
  · exact .refl m
  · split
    · exact iterN_keeps (P := SlotRead m) _ (fun i x hx => hx.trans (slotRead_spWord _ _ x)) 0 8 (.refl m)
    · rw [readDome]
      exact slotRead_readAt (Nat.lt_trans (prim_lt rfl) (by decide)) (fun c hc => mirror_lt hc) _ _ m

/-! ### It leaves Dome's layout, and the slot open -/

section Layout

variable {a b : Mach}

theorem SlotRead.storeFirst (h : SlotRead a b) : b.hw.storeFirst = a.hw.storeFirst := h.fields _ _ (by decide) (by decide)

theorem SlotRead.domeExt (h : SlotRead a b) : b.hw.domeExt = a.hw.domeExt := h.fields _ _ (by decide) (by decide)

theorem SlotRead.gtop (h : SlotRead a b) : b.hw.gtop = a.hw.gtop := by
  unfold Hw.gtop Hw.groupUsable
  rw [h.fields F.DD_STAT_GRPUSE 0 (by decide) (by decide)]

theorem SlotRead.groupOf (h : SlotRead a b) (e : Nat) : b.hw.groupOf e = a.hw.groupOf e := by
  unfold Hw.groupOf Hw.groupUsable
  rw [h.storeFirst, h.gtop, h.fields F.DD_STAT_GRPUSE 0 (by decide) (by decide), h.fields F.DD_GRPBASE_VAL 1 (by decide) (by decide),
    h.fields F.DD_GRPBASE_VAL 2 (by decide) (by decide)]

theorem SlotRead.domeMap (h : SlotRead a b) (o : Nat) : domeMap b.hw o = domeMap a.hw o := by
  have htop := gtop_le a.hw
  have hgroup := groupOf_le a.hw (o / 2 ^ 21)
  have hmode : b.hw.grouped = a.hw.grouped := congrArg (· == 1) (h.fields _ _ (by decide) (by decide))
  unfold Machine.domeMap
  dsimp only
  rw [h.storeFirst, hmode, h.gtop, h.groupOf, h.fields F.DD_GRPEXT_VAL _ (by omega) (by decide),
    h.fields F.DD_GRPBASE_VAL _ (by omega) (by decide)]

theorem SlotRead.copyGood (h : SlotRead a b) {c x : Nat} (hc : c < 65536) (hgood : a.copyGood c x = true) : b.copyGood c x = true := by
  rw [Mach.copyGood, Bool.and_eq_true, Bool.not_eq_true', Bool.not_eq_true'] at hgood ⊢
  obtain ⟨hfail, hpoison⟩ := hgood
  refine ⟨?_, h.clean c x hpoison⟩
  rw [Hw.chFailed] at hfail ⊢
  rw [h.fields F.DD_CHSTAT_STATE c hc (by decide), hfail]

theorem SlotRead.wholeLine (h : SlotRead a b) {o : Nat} (hwhole : a.wholeLine o) : b.wholeLine o := by
  obtain ⟨hstore, hrev, hgood, hmirror⟩ := hwhole
  refine ⟨(Hw.storeWord_congr h.storeFirst h.domeExt _).trans hstore, (Hw.revIn_congr h.storeFirst h.domeExt h.bd _).trans hrev, ?_, ?_⟩
  · rw [h.domeMap]
    exact h.copyGood (Nat.lt_trans (prim_lt rfl) (by decide)) hgood
  · intro c hc
    rw [h.domeMap] at hc ⊢
    exact h.copyGood (mirror_lt hc) (hmirror c hc)

theorem SlotRead.slotOpen (h : SlotRead a b) {r : Nat} (hr : r < 1024) (hopen : a.slotOpen r) : b.slotOpen r := by
  have haddr : b.hw.slotAddr r = a.hw.slotAddr r := slotAddr_congr (h.fields _ _ (by omega) (by decide)) (h.fields _ _ (by omega) (by decide))
    (h.fields _ _ (by omega) (by decide)) (h.fields _ _ (by omega) (by decide)) (h.fields _ _ (by omega) (by decide))
  rw [Mach.slotOpen, haddr, h.fields F.DM_RCFG_LOC r (by omega) (by decide), h.fields F.HD_SLSTAT_ROLE 16 (by omega) (by decide),
    Hw.dirEnt, Hw.homeIdle, h.hd]
  exact hopen.imp id (fun ⟨hidle, hrole, hdir, hwhole⟩ => ⟨hidle, hrole, hdir, h.wholeLine hwhole⟩)

end Layout

/-! ### A write of a slot that is open (R116, R127) -/

/-- What a write of a slot leaves of all but the memories and the home, and of the tags but the home's. -/
structure SlotPut (a b : Mach) : Prop where
  only : ∃ tags hd, b.hw = { a.hw with tags := tags, hd := hd }
  tag : ∀ t, b.hw.tagOpen .dm t = a.hw.tagOpen .dm t
  flash : b.mem.flash = a.mem.flash

/-- A record of the home is not a tag of the data mover. -/
theorem tagKey_hd_ne {k : Nat} (hk : k < 1024) (t : Nat) : tagKey .hd k ≠ tagKey .dm t := by
  change 1 * 2 ^ 64 + k ≠ 4 * 2 ^ 64 + t
  omega

theorem tagOpen_openTag_hd {k : Nat} (hk : k < 1024) (h : Hw) (t : Nat) : (h.openTag .hd k).tagOpen .dm t = h.tagOpen .dm t := by
  rw [Hw.tagOpen, Hw.openTag, Store.getD_setD_ne _ _ _ _ (tagKey_hd_ne hk t)]
  rfl

theorem tagOpen_closeTag_hd {k : Nat} (hk : k < 1024) (h : Hw) (t : Nat) : (h.closeTag .hd k).tagOpen .dm t = h.tagOpen .dm t := by
  rw [Hw.tagOpen, Hw.closeTag, Store.getD_setD_ne _ _ _ _ (tagKey_hd_ne hk t)]
  rfl

theorem tagOpen_congr {a b : Hw} (h : a.tags = b.tags) (k : TagBlk) (t : Nat) : a.tagOpen k t = b.tagOpen k t := by
  rw [Hw.tagOpen, h, Hw.tagOpen]

theorem firstRec_lt (la : Nat) : firstRec la < 1024 := by
  rw [firstRec, sliceOf]
  omega

/-- The end of a record that no release waits for closes its tag alone. -/
theorem tags_closeTxn_untracked {r : HReq} {m : Mach} (hk : allocates r.kind = false)
    (htxns : m.hw.hd.txns = [(firstRec r.la, HTxn.untracked r)]) (hrel : m.hw.hd.rel = []) (hdir : m.hw.dirEnt r.la = none) :
    (closeTxn (firstRec r.la) DirEnt.untracked m).hw.tags = (m.hw.closeTag .hd (firstRec r.la)).tags := by
  have hget : Store.get? m.hw.hd.txns (firstRec r.la) = some (HTxn.untracked r) := by
    rw [htxns, Store.get?, if_pos rfl]
  have hhad : ((m.hw.dirEnt r.la).isSome || (HTxn.untracked r).phase == .rbd || (HTxn.untracked r).src.st != 0 ||
      ((HTxn.untracked r).phase == .snp && allocates (HTxn.untracked r).req.kind)) = false := by
    rw [hdir, show (HTxn.untracked r).req.kind = r.kind from rfl, hk]
    rfl
  unfold closeTxn
  rw [hget]
  dsimp only
  rw [show (HTxn.untracked r).req.la = r.la from rfl, hhad, if_pos (show DirEnt.untracked.st = 0 from rfl), if_neg Bool.false_ne_true]
  generalize hm4 : Mach.onHw (fun h => h.freeDir r.la) _ = m4
  have hrelq : m4.hw.relQ (sliceOf r.la) = [] := by
    rw [← hm4, Hw.relQ]
    change Store.getD [] m.hw.hd.rel (sliceOf r.la) = []
    rw [hrel]
    rfl
  rw [hrelq, List.filter_nil, List.foldl_nil, ← hm4]
  rfl

/-- A write of the data mover to a line that the directory does not list ends with its record. -/
theorem arrive_moverWrite_closes {r : HReq} {m : Mach} (ha : Alone r m.hw) (hr : MoverWrite r)
    (hhd : (homeWriteOf r (m.onHw (openedFor r))).hw.hd = (openedFor r m.hw).hd) :
    (arrive r m).hw.tags = ((homeWriteOf r (m.onHw (openedFor r))).hw.closeTag .hd (firstRec r.la)).tags := by
  obtain ⟨htxns, hretry, hrel, -, hnext, -⟩ := ha.idle
  obtain ⟨tags0, dm0, hopen⟩ := openedFor_moverWrite hr htxns
  have hone : (openedFor r m.hw).hd.txns = [(firstRec r.la, HTxn.untracked r)] := by rw [hopen]
  have hmove := sliceMove_of_step (m := m.onHw (openedFor r)) hone
    (stepTxn_untracked_write hr (by rw [Mach.onHw_hw, hone, Store.get?, if_pos rfl]))
  rw [grant_moverWrite hr] at hmove
  generalize homeWriteOf r (m.onHw (openedFor r)) = w at hhd hmove ⊢
  have hone1 : w.hw.hd.txns = [(firstRec r.la, HTxn.untracked r)] := by rw [hhd, hone]
  have hrel1 : w.hw.hd.rel = [] := by rw [hhd, hopen]; exact hrel
  have hnext1 : w.hw.hd.next = [] := by rw [hhd, hopen]; exact hnext
  have hdir1 : w.hw.dirEnt r.la = none := by rw [Hw.dirEnt, hhd, hopen]; exact ha.dir
  obtain ⟨tags, hd, hclose, htx, hnx, hrt, -⟩ := closeTxn_untracked (tgt := DirEnt.untracked) ha.allocates_eq hone1 hrel1 hnext1 hdir1 rfl
  have hrest : sliceMove (sliceOf r.la) (closeTxn (firstRec r.la) DirEnt.untracked w) = none := by
    rw [hclose]
    refine sliceMove_of_rest (fun x hx => ?_) hnx (by rw [hrt, hhd, hopen]; exact hretry)
    rw [show ({ w with hw := { w.hw with tags := tags, hd := hd } } : Mach).hw.hd.txns = hd.txns from rfl, htx] at hx
    cases hx
  rw [arrive_alone ha, show settleFuel = 1023 + 1 from rfl, settle_of_move _ hmove, settle_of_rest _ hrest,
    tags_closeTxn_untracked ha.allocates_eq hone1 hrel1 hdir1]

/-- A partial write of a whole line is a write of whole lines. -/
theorem partialWrite_domeOnly {o en : Nat} {m : Mach} (hwhole : m.wholeLine o) (hb : allBytes en = false) (data master : Nat) :
    DomeOnly (o / 64 * 64) (o / 64 * 64 + 64) m (partialWrite o data en master none ⟨.good, .good⟩ m).2 := by
  have hkept := hwhole
  obtain ⟨-, -, hgood, -⟩ := hwhole
  have hread : readDome o master .good .good false m = (false, m.openRow (domeMap m.hw o).prim (domeMap m.hw o).addr) := readAt_good hgood o master
  have hopen := domeOnly_openRow (o / 64 * 64) (o / 64 * 64 + 64) (domeMap m.hw o).prim (domeMap m.hw o).addr m
  rw [partialWrite_merged hb (by rw [chFailed_of_copyGood hgood, Bool.and_false]) hread]
  exact hopen.trans (writeDome_whole (hopen.whole o hkept) _ _).1

/-- Less than a line written to a slot in Dome whose line the home can take at once. -/
theorem slotPut_arrive {r a v n : Nat} {m : Mach} (hr : ringNo r < 1024) (hn : n < 64) (halone : Alone (slotReq r a v n) m.hw)
    (hwhole : m.wholeLine (a / 64 * 64)) : SlotPut m (arrive (slotReq r a v n) m) := by
  have hw := moverWrite_slotReq r a v n
  obtain ⟨htxns, -⟩ := halone.idle
  have hopened : openedFor (slotReq r a v n) m.hw =
      (m.hw.openTag .hd (firstRec (a / 64))).setTxn (firstRec (a / 64)) (HTxn.untracked (slotReq r a v n)) := by
    rw [openedFor, hw.accepted_unit3 rfl]
    rfl
  have hen : allBytes (slotReq r a v n).en = false := allBytes_enables hn
  have hwhole1 : (m.onHw (openedFor (slotReq r a v n))).wholeLine (a / 64 * 64) :=
    wholeLine_congr (by rw [Mach.onHw_hw, hopened]) (by rw [Mach.onHw_hw, hopened]) rfl hwhole
  have hhome : DomeOnly (a / 64 * 64 / 64 * 64) (a / 64 * 64 / 64 * 64 + 64) (m.onHw (openedFor (slotReq r a v n)))
      (homeWriteOf (slotReq r a v n) (m.onHw (openedFor (slotReq r a v n)))) := by
    rw [homeWriteOf, homeWrite_partial (ring_master (r := slotReq r a v n) hr _) hen]
    exact partialWrite_domeOnly hwhole1 hen _ _
  have hhw := hhome.hw
  rw [Mach.onHw_hw] at hhw
  have hclosed := arrive_moverWrite_closes halone hw (by rw [hhw])
  obtain ⟨tags, hd, harr, -⟩ := arrive_moverWrite halone hw (by rw [hhw])
  refine ⟨⟨tags, hd, ?_⟩, fun t => ?_, ?_⟩
  · rw [harr, hhw, hopened]
    rfl
  · rw [tagOpen_congr hclosed, hhw, hopened]
    exact (tagOpen_closeTag_hd (firstRec_lt _) _ t).trans (tagOpen_openTag_hd (firstRec_lt _) _ t)
  · rw [harr]
    exact hhome.flash

/-- The completion record lies in the line of the slot's context area, the one that an open slot speaks of. -/
theorem slotPut_dome {r n : Nat} {m : Mach} (hr : r < 1024) (hn : n < 64) (hopen : m.slotOpen r) (hloc : m.hw.fget F.DM_RCFG_LOC r ≠ 0)
    (v : Nat) : SlotPut m (slotWrite r 0x60 v n m) := by
  have hown : r ≠ ownRing := by
    rw [ownRing]
    omega
  have hmod := slotAddr_mod m.hw r
  have hla : (m.hw.slotAddr r + 0x60) / 64 = (m.hw.slotAddr r + 0x40) / 64 := by omega
  have hline : (m.hw.slotAddr r + 0x60) / 64 * 64 = m.hw.slotAddr r + 0x40 := by omega
  obtain hl | ⟨hidle, hrole, hdir, hwhole⟩ := hopen
  · exact absurd hl hloc
  · rw [slotWrite_dome hown hloc]
    exact slotPut_arrive (by rw [ringNo, if_neg hown]; exact hr) hn
      ⟨hidle, hrole, by rw [show (slotReq r (m.hw.slotAddr r + 0x60) v n).la = _ from hla]; exact hdir, rfl, .inr rfl⟩ (by rw [hline]; exact hwhole)

/-- A write of an open slot leaves the flash, in the scratchpad and in Dome. -/
theorem flash_slotWrite {r n : Nat} {m : Mach} (hr : r < 1024) (hn : n < 64) (hopen : m.slotOpen r) (v : Nat) :
    (slotWrite r 0x60 v n m).mem.flash = m.mem.flash := by
  by_cases hloc : m.hw.fget F.DM_RCFG_LOC r = 0
  · have hown : r ≠ ownRing := by
      rw [ownRing]
      omega
    rw [slotWrite, if_neg hown, if_pos hloc]
    exact iterN_keeps (P := fun x => x.mem.flash = m.mem.flash) _ (fun i x hx => (slotRead_spWord _ _ x).flash.trans hx) 0 _ rfl
  · exact (slotPut_dome hr hn hopen hloc v).flash

/-- A completion record written to an open slot. -/
theorem slotPut_record {r : Nat} {m : Mach} (hr : r < 1024) (hopen : m.slotOpen r) (v : Nat) : SlotPut m (slotWrite r 0x60 v 32 m) := by
  by_cases hloc : m.hw.fget F.DM_RCFG_LOC r = 0
  · obtain ⟨bad, hw⟩ := slotWrite_scratchpad (k := 4) (o := 0x60) (show r ≠ ownRing by rw [ownRing]; omega) hloc (by decide) v
    rw [show 32 = 8 * 4 from rfl, hw]
    exact ⟨⟨m.hw.tags, m.hw.hd, rfl⟩, fun _ => rfl, rfl⟩
  · exact slotPut_dome hr (by decide) hopen hloc v

/-! ### A FENCE starts, waits and ends (R287, R288) -/

/-- The peers that a ring's jobs have sent to. -/
def sentPeers (r : Nat) (h : Hw) : List Nat := (List.range 8).filter (fun s => bitAt (Store.getD 0 h.dm.sent r) s)

/-- A FENCE has started: it has its tag, a Spire Fence goes to each of its peers, and its ring is busy. -/
def fenceOpened (r d : Nat) (peers : List Nat) (h : Hw) : Hw :=
  let h2 := peers.foldl (fun x s => x.sendCoh (cupAgent s) 0x18 (x.tagGen .dm r * 1024 + r) 0) (h.openTag .dm r)
  (({ h2 with dm := { h2.dm with sent := Store.del h2.dm.sent r } }).setJob r { DmJob.fresh d none .fence with peers := peers }).fset
    F.DM_RSTAT_BUSY r 1

theorem fenceStart_opens {r : Nat} {m : Mach} (hen : m.hw.flag F.DM_RCFG_EN r = true) (hcount : m.hw.dmCount r ≠ 0) (hjob : m.hw.job r = none)
    (hop : dOpc (slotRead r 0 64 m) = 4) (hstat : descStatus m.hw r (slotRead r 0 64 m) = none) :
    fenceStart r m = (slotWrite r 0x60 (slotRead r 0x60 1 m / 2 * 2) 1 (slotFetch r m)).onHw
      (fenceOpened r (slotRead r 0 64 m) (sentPeers r m.hw)) := by
  rw [fenceStart]
  dsimp only
  rw [hen, hjob, hop, bne_iff_ne.mpr hcount, if_pos (by decide), hstat]
  rfl

theorem job_fenceOpened (r d : Nat) (peers : List Nat) (h : Hw) :
    (fenceOpened r d peers h).job r = some { DmJob.fresh d none .fence with peers := peers } := by
  rw [fenceOpened]
  exact Hw.job_setJob _ _ _

theorem fget_fenceOpened_busy (r d : Nat) (peers : List Nat) (h : Hw) : (fenceOpened r d peers h).fget F.DM_RSTAT_BUSY r = 1 := by
  rw [fenceOpened]
  exact Hw.fget_fset_same _ _ _ _

theorem fence_completes {s : State} {r : Nat} (hr : r < 1024) (hen : s.mach.hw.flag F.DM_RCFG_EN r = true) (hcount : s.mach.hw.dmCount r ≠ 0)
    (hjob : s.mach.hw.job r = none) (hop : dOpc (slotRead r 0 64 s.mach) = 4)
    (hstat : descStatus s.mach.hw r (slotRead r 0 64 s.mach) = none) (hopen : s.mach.slotOpen r) :
    Completes (.dmFence r) s (fun m =>
      m.hw.job r = some { DmJob.fresh (slotRead r 0 64 s.mach) none .fence with peers := sentPeers r s.mach.hw } ∧
      m.hw.fget F.DM_RSTAT_BUSY r = 1 ∧ m.mem.flash = s.mach.mem.flash) := by
  have hfetch := slotRead_slotFetch r s.mach
  refine completes_onMach (f := fenceStart r) rfl ?_
  rw [fenceStart_opens hen hcount hjob hop hstat]
  exact ⟨job_fenceOpened _ _ _ _, fget_fenceOpened_busy _ _ _ _,
    (flash_slotWrite hr (by decide) (hfetch.slotOpen hr hopen) _).trans hfetch.flash⟩

section FenceEnd

variable {r : Nat} {j : DmJob} {m : Mach}

/-- While a live peer has still to answer it waits. -/
theorem fenceEnd_waits (hjob : m.hw.job r = some j) (hphase : j.phase = .fence)
    (hlive : j.peers.any (fun q => m.hw.isDead (cupAgent q)) = false) (hpeers : j.peers ≠ []) : fenceEnd r m = m := by
  have hnone : j.peers.find? (fun q => m.hw.isDead (cupAgent q)) = none := by
    rw [List.find?_eq_none]
    exact List.any_eq_false.mp hlive
  have hempty : j.peers.isEmpty = false := by
    rw [List.isEmpty_eq_false_iff]
    exact hpeers
  rw [fenceEnd, hjob]
  dsimp only
  rw [if_pos hphase, hnone, hempty]
  rfl

/-- With every peer answered and its ring's index reached, it ends. -/
theorem fenceEnd_ends (hjob : m.hw.job r = some j) (hphase : j.phase = .fence) (hpeers : j.peers = [])
    (hidx : dWv j.desc = true → (m.hw.dmHead (dWring j.desc) + 65536 - dWidx j.desc) % 65536 < 32768) :
    fenceEnd r m = endJob r 0 0 0 (m.onHw (fun h => h.closeTag .dm r)) := by
  have hreached : (dWv j.desc && decide (32768 ≤ (m.hw.dmHead (dWring j.desc) + 65536 - dWidx j.desc) % 65536)) = false := by
    cases hwv : dWv j.desc with
    | false => rfl
    | true => exact decide_eq_false (Nat.not_le.mpr (hidx hwv))
  rw [fenceEnd, hjob]
  dsimp only
  rw [if_pos hphase, hpeers, hreached]
  rfl

/-- The state of an ended FENCE, but for its completion record. -/
def fenceOver (r : Nat) (h : Hw) : Hw := dropAccs r 0 ((h.closeTag .dm r).delJob r)

theorem tagOpen_fenceOver (r : Nat) (h : Hw) : (fenceOver r h).tagOpen .dm r = false := Hw.tagOpen_closeTag h .dm r

theorem fenceOver_frame (r : Nat) (h : Hw) : ∃ tags dm, fenceOver r h = { h with tags := tags, dm := dm } := ⟨_, _, rfl⟩

theorem slotOpen_fenceOver (hopen : m.slotOpen r) : (m.onHw (fenceOver r)).slotOpen r := by
  obtain ⟨tags, dm, hover⟩ := fenceOver_frame r m.hw
  rw [Mach.onHw, hover]
  exact hopen.imp id (fun ⟨hidle, hrole, hdir, hwhole⟩ => ⟨hidle, hrole, hdir, wholeLine_congr rfl rfl rfl hwhole⟩)

theorem endJob_fence (hjob : m.hw.job r = some j) (hown : r ≠ ownRing) (heng : j.eng = none) :
    endJob r 0 0 0 (m.onHw (fun h => h.closeTag .dm r)) = complete r 0 j.doneB 0 0 j.pois (dUser j.desc) (m.onHw (fenceOver r)) := by
  rw [endJob_done (m := m.onHw (fun h => h.closeTag .dm r)) hjob hown, endedHw, heng]
  rfl

/-- A completion record in an open slot ends its ring's job. -/
theorem complete_put (hr : r < 1024) (hopen : m.slotOpen r) (doneB pois user : Nat) :
    ∃ b, SlotPut m b ∧ complete r 0 doneB 0 0 pois user m = b.onHw (headOn r) :=
  ⟨_, slotPut_record hr hopen _, rfl⟩

end FenceEnd

theorem fenceSatisfied_completes {s : State} {r : Nat} {j : DmJob} (hr : r < 1024) (hjob : s.mach.hw.job r = some j) (hphase : j.phase = .fence)
    (heng : j.eng = none) (hpeers : j.peers = []) (hopen : s.mach.slotOpen r)
    (hidx : dWv j.desc = true → (s.mach.hw.dmHead (dWring j.desc) + 65536 - dWidx j.desc) % 65536 < 32768) :
    Completes (.dmFenceSatisfied r) s (fun m => m.hw.job r = none ∧ m.hw.fget F.DM_RHEAD_VAL r = (s.mach.hw.dmHead r + 1) % 65536 ∧
      m.hw.fget F.DM_RSTAT_BUSY r = 0 ∧ m.hw.tagOpen .dm r = false ∧ m.hw.bd = s.mach.hw.bd ∧ m.hw.out = s.mach.hw.out) := by
  have hown : r ≠ ownRing := by
    rw [ownRing]
    omega
  obtain ⟨b, hput, hover⟩ := complete_put hr (slotOpen_fenceOver hopen) j.doneB j.pois (dUser j.desc)
  obtain ⟨tags, hd, hb⟩ := hput.only
  have htag := (hput.tag r).trans (tagOpen_fenceOver r s.mach.hw)
  refine completes_onMach (f := fenceEnd r) rfl ?_
  rw [fenceEnd_ends hjob hphase hpeers hidx, endJob_fence hjob hown heng, hover, Mach.onHw_hw]
  refine ⟨?_, ?_, fget_headOn_busy hr _, htag, ?_, ?_⟩
  · change b.hw.job r = none
    rw [hb]
    exact Hw.job_delJob (s.mach.hw.closeTag .dm r) r
  · rw [fget_headOn_head hr, hb]
    rfl
  · change b.hw.bd = s.mach.hw.bd
    rw [hb]
    rfl
  · change b.hw.out = s.mach.hw.out
    rw [hb]
    rfl

/-- Settles O29: an engine's failure parks its job (`engineLost`); a FENCE's start reads its slot, which stays open, and writes its record's
first byte (`SlotRead`, `flash_slotWrite`); its end writes its record and moves HEAD (`complete_put`). -/
theorem moverFailuresAndFencesComplete : Obligations.MoverFailuresAndFencesComplete := by
  unfold Obligations.MoverFailuresAndFencesComplete
  intro s e r j hr
  dsimp only
  refine ⟨fun he hfailed hon hphase habort hheld hroom => ?_, fun hen hcount hjob hop hstat hopen => ?_,
    fun hjob hphase hlive hpeers => ?_, fun hjob hphase heng hpeers hopen hidx => ?_⟩
  · have hpark : j.park = { j with eng := none, marked := none, winLen := 0, stop := none, phase := .idle } := by
      rw [DmJob.park, hphase]
      rfl
    rw [← hpark]
    exact engineFailure_completes hr he hfailed hon hphase habort hheld hroom
  · exact fence_completes hr hen hcount hjob hop hstat hopen
  · exact completes_onMach (f := fenceEnd r) rfl (fenceEnd_waits hjob hphase hlive hpeers)
  · exact fenceSatisfied_completes hr hjob hphase heng hpeers hopen hidx

end Sys2Proof.Machine

/-! PROOFS. Obligation O42: the end of Dome's initialisation, writes of one line, the scrubber, and DD_CFG. -/
namespace Sys2Proof.Machine

/-! ### One line of Dome written (R319, R323, R325) -/

/-- What a write of the line at Dome offset `o`, whose only copy lies at channel address `x` of channel `c`, leaves: the line has the attributes
`v` and an open row, no byte outside it and no other line's attributes have changed, and neither has anything else but the open rows. -/
structure LineChanged (c x o : Nat) (v : LineAttr) (a b : Mach) : Prop where
  attr : b.attr c x = v
  bytes : ∀ k, k < o / 64 * 64 ∨ o / 64 * 64 + 64 ≤ k → Store.getD 0 b.mem.dome k = Store.getD 0 a.mem.dome k
  attrs : ∀ c' x', lineKey c' x' ≠ lineKey c x → b.attr c' x' = a.attr c' x'
  hw : b.hw = a.hw
  row : b.rowOpen c x = true
  sp : b.mem.sp = a.mem.sp
  spBad : b.mem.spBad = a.mem.spBad
  flash : b.mem.flash = a.mem.flash

theorem LineChanged.others {c x o : Nat} {v : LineAttr} {a b : Mach} (h : LineChanged c x o v a b) :
    (∀ k, k < o / 64 * 64 ∨ o / 64 * 64 + 64 ≤ k → Store.getD 0 b.mem.dome k = Store.getD 0 a.mem.dome k) ∧
      (∀ c' x', lineKey c' x' ≠ lineKey c x → b.attr c' x' = a.attr c' x') ∧
      b.hw = a.hw ∧ b.rowOpen c x = true ∧ b.mem.sp = a.mem.sp ∧ b.mem.spBad = a.mem.spBad ∧ b.mem.flash = a.mem.flash :=
  ⟨h.bytes, h.attrs, h.hw, h.row, h.sp, h.spBad, h.flash⟩

/-- A copy that takes its attributes with its row open. -/
theorem lineChanged_setAttr (c x o : Nat) (v : LineAttr) (m : Mach) : LineChanged c x o v m ((m.openRow c x).setAttr c x v) where
  attr := Store.getD_setD_same _ _ _ _
  bytes := fun _ _ => rfl
  attrs := fun _ _ hkey => Store.getD_setD_ne _ _ _ _ hkey.symm
  hw := rfl
  row := Mach.rowOpen_openRow m c x
  sp := rfl
  spBad := rfl
  flash := rfl

/-- The line's own bytes may be written as well. -/
theorem LineChanged.setBytes {c x o : Nat} {v : LineAttr} {a b : Mach} (hw : LineChanged c x o v a b) (data : Nat) :
    LineChanged c x o v a { b with mem := { b.mem with dome := writeLE 0 b.mem.dome (o / 64 * 64) data 64 } } :=
  { hw with bytes := fun k hk => (getD_writeLE_outside 0 _ hk).trans (hw.bytes k hk) }

/-- The line's row may have been open before. -/
theorem LineChanged.of_openRow {c x o : Nat} {v : LineAttr} {a b : Mach} (hw : LineChanged c x o v (a.openRow c x) b) :
    LineChanged c x o v a b :=
  ⟨hw.attr, hw.bytes, hw.attrs, hw.hw, hw.row, hw.sp, hw.spBad, hw.flash⟩

section Unmirrored

variable {m : Mach} {s : State} {p : Phys} {off : Nat}

/-- A full write of a line without a mirror, on a channel that has not failed, is stored. -/
theorem writeDome_unmirrored (hp : domeMap m.hw off = p) (hprim : m.hw.chFailed p.prim = false) (hmirror : p.mirror = none)
    (data : Nat) (hint : Bool) : ∃ b, writeDome off data hint false m = (true, b) ∧
      LineChanged p.prim p.addr off ⟨hint, false⟩ m b ∧ b.mem.dome = writeLE 0 m.mem.dome (off / 64 * 64) data 64 := by
  obtain ⟨hstore, hrev⟩ := plain_of_unmirrored (h := m.hw) (o := off) (by rw [hp, hmirror])
  have hwrite : writeDome off data hint false m =
      (true, ((m.openRow p.prim p.addr).setAttr p.prim p.addr ⟨hint, false⟩).setLine off data) := by
    rw [writeDome, hp, writeAt, writeCopy_stored hprim, hmirror]
    rfl
  rw [setLine_plain (m := (m.openRow p.prim p.addr).setAttr p.prim p.addr ⟨hint, false⟩) hstore hrev] at hwrite
  exact ⟨_, hwrite, (lineChanged_setAttr _ _ off _ m).setBytes data, rfl⟩

/-- A read of a line without a mirror, from a good copy. -/
theorem readDome_unmirrored (hp : domeMap m.hw off = p) (hgood : m.copyGood p.prim p.addr = true) (hmirror : p.mirror = none)
    (master : Nat) (e2 : LineErr) : readDome off master .good e2 false m = (false, m.openRow p.prim p.addr) := by
  rw [readDome, hp, readAt, readPhys_good hgood, hmirror]
  rfl

/-- The enables of a full write hold each of the line's bytes. -/
theorem bitAt_of_allBytes {en i : Nat} (hall : allBytes en = true) (hi : i < 64) : bitAt en i = true := by
  have hbit := congrArg (fun x => x.testBit i) (eq_of_beq hall)
  rw [bitAt_eq_testBit]
  simpa only [Nat.testBit_mod_two_pow, Nat.testBit_two_pow_sub_one, decide_eq_true hi, Bool.true_and] using hbit

/-- A partial write whose line is read without an error writes the line with its enabled bytes merged in. -/
theorem partialWrite_ofRead {m1 : Mach} {en : Nat} (hall : allBytes en = false) (hprim : m.hw.chFailed (domeMap m.hw off).prim = false)
    {master : Nat} {e2 : LineErr} (hread : readDome off master .good e2 false m = (false, m1)) (data : Nat) :
    partialWrite off data en master none ⟨.good, e2⟩ m = writeDome off (mergeBytes (m1.line off) data en 64) (m1.hw.hintOf off) false m1 := by
  rw [partialWrite_merge hall (by rw [hprim, Bool.and_false]), hread]
  exact if_neg Bool.false_ne_true

/-- The bytes of a line whose enabled ones are merged into it. -/
theorem getD_writeLE_merged (d : SMap Byte) (base data en : Nat) {i : Nat} (hi : i < 64) :
    Store.getD 0 (writeLE 0 d base (mergeBytes (readLE 0 d base 64) data en 64) 64) (base + i) =
      if bitAt en i then BitVec.ofNat 8 (data / 2 ^ (8 * i)) else Store.getD 0 d (base + i) := by
  have hbyte : 2 ^ (8 * i) = 256 ^ i := Nat.pow_mul 2 8 i
  rw [getD_writeLE_inside 0 _ _ _ hi, ofNat_byte, mergeBytes_byte _ _ _ hi, ← bitAt_eq_testBit, hbyte]
  split
  · exact (ofNat_byte _).symm
  · rw [readLE_byte 0 _ _ hi]
    exact BitVec.ofNat_toNat _ _

/-- A partial write of a good line without a mirror merges its enabled bytes into the line; with every byte enabled it is a full write. -/
theorem partialWrite_unmirrored (hp : domeMap m.hw off = p) (hgood : m.copyGood p.prim p.addr = true) (hmirror : p.mirror = none)
    (data en master : Nat) (e2 : LineErr) : ∃ b, (partialWrite off data en master none ⟨.good, e2⟩ m).2 = b ∧
      LineChanged p.prim p.addr off ⟨m.hw.hintOf off, false⟩ m b ∧
      ∀ i, i < 64 → Store.getD 0 b.mem.dome (off / 64 * 64 + i) =
        if bitAt en i then BitVec.ofNat 8 (data / 2 ^ (8 * i)) else Store.getD 0 m.mem.dome (off / 64 * 64 + i) := by
  have hprim := chFailed_of_copyGood hgood
  cases hall : allBytes en with
  | true =>
    obtain ⟨b, hwrite, hline, hdome⟩ := writeDome_unmirrored hp hprim hmirror data (m.hw.hintOf off)
    refine ⟨b, ?_, hline, fun i hi => ?_⟩
    · rw [partialWrite_full hall, hwrite]
      rfl
    · rw [hdome, getD_writeLE_inside 0 _ _ _ hi, bitAt_of_allBytes hall hi, if_pos rfl, Nat.pow_mul]
  | false =>
    have hread := readDome_unmirrored hp hgood hmirror master e2
    have hopened := fun b => LineChanged.of_openRow (c := p.prim) (x := p.addr) (o := off) (v := ⟨m.hw.hintOf off, false⟩) (a := m) (b := b)
    obtain ⟨hstore, hrev⟩ := plain_of_unmirrored (h := m.hw) (o := off) (by rw [hp, hmirror])
    have hhw := Mach.openRow_hw m p.prim p.addr
    have hdome1 := Mach.openRow_dome m p.prim p.addr
    generalize m.openRow p.prim p.addr = m1 at hread hopened hhw hdome1
    obtain ⟨b, hwrite, hline, hdome⟩ := writeDome_unmirrored (m := m1) (by rw [hhw]; exact hp) (by rw [hhw]; exact hprim) hmirror
      (mergeBytes (m1.line off) data en 64) (m1.hw.hintOf off)
    rw [hhw] at hline
    refine ⟨b, ?_, hopened b hline, fun i hi => ?_⟩
    · rw [partialWrite_ofRead hall (by rw [hp]; exact hprim) hread, hwrite]
    · rw [hdome, line_plain (by rw [hhw]; exact hstore) (by rw [hhw]; exact hrev), hdome1]
      exact getD_writeLE_merged _ _ _ _ hi

/-! ### The commands that write a line -/

/-- A write outside the data mover's areas is not discarded for its master. -/
theorem slotFree_of_outside {h : Hw} (harea : h.inDmArea 1 off = false) (master : Nat) :
    (h.inDmArea 1 off && master / 2 ^ 13 != 2) = false := by
  rw [harea, Bool.false_and]

theorem domeWrite_completes (harea : s.mach.hw.inDmArea 1 off = false) (hp : domeMap s.mach.hw off = p)
    (hprim : s.mach.hw.chFailed p.prim = false) (hmirror : p.mirror = none) (data master : Nat) :
    Completes (.domeWrite off data master none ⟨false, false⟩) s (fun m => m.line off = data % 2 ^ 512 ∧
      LineChanged p.prim p.addr off ⟨s.mach.hw.hintOf off, false⟩ s.mach m) := by
  have hnone : (domeMap s.mach.hw off).mirror = none := by rw [hp, hmirror]
  have hexec : exec (.domeWrite off data master none ⟨false, false⟩) s =
      onMach (fun m => (writeDome off data (m.hw.hintOf off) false m).2) s := by
    rw [show exec (.domeWrite off data master none ⟨false, false⟩) s = execDomeWrite off data master none ⟨false, false⟩ s from rfl,
      execDomeWrite, onMach, slotFree_of_outside harea, if_neg Bool.false_ne_true, onHw_writeFails_none hnone]
    exact congrArg Host.Outcome.next (congrArg (State.mk s.pending) (onHw_untagged _ _))
  obtain ⟨b, hwrite, hline, hdome⟩ := writeDome_unmirrored hp hprim hmirror data (s.mach.hw.hintOf off)
  obtain ⟨hstore, hrev⟩ := plain_of_unmirrored hnone
  refine completes_onMach hexec ?_
  rw [hwrite]
  change b.line off = data % 2 ^ 512 ∧ LineChanged p.prim p.addr off ⟨s.mach.hw.hintOf off, false⟩ s.mach b
  refine ⟨?_, hline⟩
  rw [line_plain (by rw [hline.hw]; exact hstore) (by rw [hline.hw]; exact hrev), hdome, readLE_writeLE, line_bytes]

theorem domePartialWrite_completes (harea : s.mach.hw.inDmArea 1 off = false) (hp : domeMap s.mach.hw off = p)
    (hgood : s.mach.copyGood p.prim p.addr = true) (hmirror : p.mirror = none) (data en master : Nat) (e2 : LineErr) :
    Completes (.domePartialWrite off data en master none ⟨.good, e2⟩) s (fun m =>
      (∀ i, i < 64 → Store.getD 0 m.mem.dome (off / 64 * 64 + i) =
        if bitAt en i then BitVec.ofNat 8 (data / 2 ^ (8 * i)) else Store.getD 0 s.mach.mem.dome (off / 64 * 64 + i)) ∧
      LineChanged p.prim p.addr off ⟨s.mach.hw.hintOf off, false⟩ s.mach m) := by
  have hexec : exec (.domePartialWrite off data en master none ⟨.good, e2⟩) s =
      onMach (fun m => (partialWrite off data en master none ⟨.good, e2⟩ m).2) s := by
    rw [show exec (.domePartialWrite off data en master none ⟨.good, e2⟩) s =
        execDomePartialWrite off data en master none ⟨.good, e2⟩ s from rfl,
      execDomePartialWrite, onMach, slotFree_of_outside harea, if_neg Bool.false_ne_true]
    rfl
  obtain ⟨b, hwrite, hline, hbytes⟩ := partialWrite_unmirrored hp hgood hmirror data en master e2
  refine completes_onMach hexec ?_
  rw [hwrite]
  exact ⟨hbytes, hline⟩

end Unmirrored

/-- A metadata write that meets no error gives the primary copy its hint and leaves Dome's bytes. -/
theorem writeHint_good {m : Mach} {p : Phys} {off : Nat} (hp : domeMap m.hw off = p) (hgood : m.copyGood p.prim p.addr = true) (hint : Bool) :
    writeHint off hint .good m = (m.openRow p.prim p.addr).setAttr p.prim p.addr ⟨hint && !m.hw.plainLine off, false⟩ := by
  obtain ⟨hfail, hpois⟩ : m.hw.chFailed p.prim = false ∧ (m.attr p.prim p.addr).poison = false := by
    simpa [Mach.copyGood] using hgood
  have hattr : ((m.openRow p.prim p.addr).attr p.prim p.addr).poison = false := hpois
  rw [writeHint, hp, Mach.misread, if_neg (by decide), metaCopy, hfail, if_neg Bool.false_ne_true]
  dsimp only
  rw [if_neg (by decide), hattr]
  rfl

theorem domeMetadataWrite_completes {s : State} {p : Phys} {off : Nat} (hp : domeMap s.mach.hw off = p)
    (hgood : s.mach.copyGood p.prim p.addr = true) (hint : Bool) :
    Completes (.domeMetadataWrite off hint .good) s (fun m => m.mem.dome = s.mach.mem.dome ∧
      LineChanged p.prim p.addr off ⟨hint && !s.mach.hw.plainLine off, false⟩ s.mach m) := by
  refine completes_onMach (f := writeHint off hint .good) rfl ?_
  rw [writeHint_good hp hgood]
  exact ⟨rfl, lineChanged_setAttr _ _ off _ s.mach⟩

/-! ### The end of initialisation (R311, R318, R561) -/

/-- The report of a misplaced spill area changes registers and the fault collector alone. -/
theorem checkSpill_frame (h : Hw) : ∃ regs fc, checkSpill h = { h with regs := regs, fc := fc } := by
  unfold checkSpill
  split
  · exact ⟨h.regs, h.fc, rfl⟩
  · exact (Hw.raise_frame (h.fset F.SW_CTRL_SPEN 0 0) _).imp fun regs ⟨fc, hraise, _⟩ => ⟨fc, hraise⟩

/-- So does SPEN's value at READY. -/
theorem spenAtReady_frame (h : Hw) : ∃ regs fc, spenAtReady h = { h with regs := regs, fc := fc } := by
  unfold spenAtReady
  split
  · exact ⟨h.regs, h.fc, rfl⟩
  · exact checkSpill_frame (h.fset F.SW_CTRL_SPEN 0 _)

theorem flag_READY_spenAtReady (h : Hw) : (spenAtReady h).flag F.DD_STAT_READY 0 = h.flag F.DD_STAT_READY 0 := by
  refine congrArg (· == 1) ?_
  unfold spenAtReady checkSpill
  split
  · rfl
  · split
    · exact Hw.fget_fset_ne _ _ (by decide)
    · rw [Hw.fget_raise _ _ (by decide) (by decide), Hw.fget_fset_ne _ _ (by decide), Hw.fget_fset_ne _ _ (by decide)]

theorem domeInitComplete_completes {s : State} (hrun : s.mach.hw.dd.initRun = true) :
    Completes .domeInitComplete s (fun m => m.mem = { s.mach.mem with dome := [], lines := [], rows := [] } ∧
      m.hw.flag F.DD_STAT_READY 0 = true ∧ m.hw.dd.initRun = false ∧ m.hw.bd = s.mach.hw.bd ∧ m.hw.hd = s.mach.hw.hd ∧
      m.hw.sw = s.mach.hw.sw) := by
  refine completes_onMach rfl ?_
  rw [if_pos hrun]
  refine ⟨rfl, ?_, ?_⟩
  · exact (flag_READY_spenAtReady _).trans (Hw.flag_fset_same s.mach.hw rfl 0 1)
  · obtain ⟨regs, fc, hframe⟩ := spenAtReady_frame { (s.mach.hw.fset F.DD_STAT_READY 0 1) with dd := { s.mach.hw.dd with initRun := false } }
    dsimp only
    rw [hframe]
    exact ⟨rfl, rfl, rfl, rfl⟩

/-! ### The scrubber (R329, R331) -/

/-- The line after the scrubber's, of the channel's 2^24 lines per GiB. -/
def Hw.scrAfter (h : Hw) (c : Nat) : Nat := if h.scrPos c + 1 < h.fget F.DD_CHCAP_VAL c * 2 ^ 24 then h.scrPos c + 1 else 0

theorem scrPos_scrNext {h : Hw} {c : Nat} (hc : c < 12) (hcap : h.fget F.DD_CHCAP_VAL c ≤ 512) : (h.scrNext c).scrPos c = h.scrAfter c := by
  have hlt : h.scrAfter c < 2 ^ 33 := by
    unfold Hw.scrAfter
    split <;> omega
  have hhi : (h.scrNext c).fget F.DD_SCRPOS_HI_VAL c = h.scrAfter c / 2 ^ 32 % 2 ^ 2 := Hw.fget_fset_same _ _ _ _
  have hlo : (h.scrNext c).fget F.DD_SCRPOS_LO_VAL c = h.scrAfter c % 2 ^ 32 :=
    (Hw.fget_fset_ne _ _ (fkey_ne (by decide) (by omega) (by omega))).trans (Hw.fget_fset_same _ _ _ _)
  rw [Hw.scrPos, hhi, hlo]
  omega

theorem scrAfter_congr {a b : Hw} {c : Nat} (hlo : a.fget F.DD_SCRPOS_LO_VAL c = b.fget F.DD_SCRPOS_LO_VAL c)
    (hhi : a.fget F.DD_SCRPOS_HI_VAL c = b.fget F.DD_SCRPOS_HI_VAL c) (hcap : a.fget F.DD_CHCAP_VAL c = b.fget F.DD_CHCAP_VAL c) :
    a.scrAfter c = b.scrAfter c := by
  rw [Hw.scrAfter, Hw.scrAfter, Hw.scrPos, Hw.scrPos, hlo, hhi, hcap]

/-- The fields that hold the scrubber's position in channel `c`. -/
def scrPosKeys (c : Nat) : List (Fld × Nat) := [(F.DD_SCRPOS_LO_VAL, c), (F.DD_SCRPOS_HI_VAL, c)]

/-- The scrubber's move writes the two fields of its position, whatever it puts there. -/
theorem Hw.scrNext_sets (h : Hw) (c : Nat) :
    ∃ lo hi, h.scrNext c = (h.fset F.DD_SCRPOS_LO_VAL c lo).fset F.DD_SCRPOS_HI_VAL c hi := ⟨_, _, rfl⟩

theorem onlyFields_scrNext (m : Mach) (c : Nat) : OnlyFields (scrPosKeys c) m (m.onHw (fun h => h.scrNext c)) := by
  obtain ⟨lo, hi, hnext⟩ := m.hw.scrNext_sets c
  rw [Mach.onHw, hnext]
  exact ((OnlyFields.refl _ m).fset List.mem_cons_self lo).fset (List.mem_cons_of_mem _ List.mem_cons_self) hi

theorem FieldsKept.scrNext {ks : List (Fld × Nat)} {a b : Mach} {c : Nat} (h : FieldsKept ks a b) (hks : scrPosKeys c ⊆ ks) :
    FieldsKept ks a (b.onHw (fun x => x.scrNext c)) := by
  obtain ⟨lo, hi, hnext⟩ := b.hw.scrNext_sets c
  rw [Mach.onHw, hnext]
  exact (h.fset (hks List.mem_cons_self) lo).fset (hks (List.mem_cons_of_mem _ List.mem_cons_self)) hi

/-- Why the scrubber reads a line of channel `c` at all. -/
structure Scrubs (h : Hw) (c : Nat) : Prop where
  active : h.chActive c = true
  enabled : h.flag F.DD_CFG_SCRUBEN 0 = true
  awake : h.dd.selfRefresh = false
  ready : h.flag F.DD_STAT_READY 0 = true

/-- An ACTIVE channel has not failed. -/
theorem Scrubs.chFailed {h : Hw} {c : Nat} (hs : Scrubs h c) : h.chFailed c = false := by
  rw [Hw.chFailed, eq_of_beq hs.active]
  rfl

/-- The scrubber passes over a line without an error, poisoned or not. -/
theorem readPhys_scrub_good {c a : Nat} {m : Mach} (hfail : m.hw.chFailed c = false) (master : Nat) (wrSince : Bool) :
    (readPhys c a master .good wrSince true m).2 = m.openRow c a := by
  rw [readPhys, hfail, if_neg Bool.false_ne_true]
  dsimp only
  rw [if_neg (by decide)]
  cases ((m.openRow c a).attr c a).poison <;> rfl

/-- An error in one slice of a line without poison is corrected and counted. -/
theorem readPhys_scrub_ce {c a : Nat} {m : Mach} (hfail : m.hw.chFailed c = false) (hpois : (m.attr c a).poison = false) (master sl : Nat) :
    (readPhys c a master (.ce sl) false true m).2 = ⟨(m.openRow c a).mem, m.hw.countCe c a 1 master⟩ := by
  have hattr : ((m.openRow c a).attr c a).poison = false := hpois
  rw [readPhys, hfail, if_neg Bool.false_ne_true]
  dsimp only
  rw [if_neg (by simp), hattr]
  rfl

/-- The scrubber's command is its read, with which `x` is left of the hardware's other state, and the move to the next line. -/
theorem scrubRead_completes {s : State} {c : Nat} {mem : Mem} {x : Hw} {dec : LineErr} {wrSince : Bool} {P : Mach → Prop}
    (hs : Scrubs s.mach.hw c) (hread : (readPhys c (s.mach.hw.scrPos c * 64) (0xA000 + c) dec wrSince true s.mach).2 = ⟨mem, x⟩)
    (hpost : P ⟨mem, x.scrNext c⟩) : Completes (.scrubRead c dec wrSince) s P := by
  have hcond : (s.mach.hw.chActive c && s.mach.hw.flag F.DD_CFG_SCRUBEN 0 && !s.mach.hw.dd.selfRefresh &&
      s.mach.hw.flag F.DD_STAT_READY 0) = true := by
    rw [hs.active, hs.enabled, hs.awake, hs.ready]
    rfl
  refine completes_onMach rfl ?_
  rw [if_pos hcond, hread]
  exact hpost

/-- A corrected error counts in DD_CECNT and its report joins a queue that has room. -/
theorem regs_countCe {h : Hw} (hroom : (h.queue 13).length < 8) (c a atype master : Nat) :
    (h.countCe c a atype master).regs = (h.fadd F.DD_CECNT_VAL c 1).regs :=
  Hw.regs_raise (p := 13) (show bits 0x1D05 8 4 = 13 by decide) hroom

/-- The report of a corrected error is the last of a queue that had room. -/
theorem gained_countCe {a b : Mach} {c x atype master : Nat} (hroom : (a.hw.queue 13).length < 8)
    (hb : b.hw.fc = (a.hw.countCe c x atype master).fc) : Gained 13 0x1D05 3 c a b :=
  gained_raise (p := 13) (f := { code := 0x1D05, dom := domChannel, dinst := c, addr := x, unit := c, atype := atype, master := master })
    (h := a.hw.fadd F.DD_CECNT_VAL c 1) (show bits 0x1D05 8 4 = 13 by decide) hroom rfl hb

theorem scrubRead_moves {s : State} {c : Nat} (hc : c < 12) (hs : Scrubs s.mach.hw c) (hcap : s.mach.hw.fget F.DD_CHCAP_VAL c ≤ 512)
    (wrSince : Bool) :
    Completes (.scrubRead c .good wrSince) s (fun m => m.hw.scrPos c = s.mach.hw.scrAfter c ∧
      OnlyFields (scrPosKeys c) s.mach { m with mem := s.mach.mem } ∧ m.mem.stored = s.mach.mem.stored ∧
      m.rowOpen c (s.mach.hw.scrPos c * 64) = true) := by
  refine scrubRead_completes hs (readPhys_scrub_good hs.chFailed _ wrSince) ⟨scrPos_scrNext hc hcap, onlyFields_scrNext s.mach c, rfl, ?_⟩
  obtain ⟨lo, hi, hnext⟩ := s.mach.hw.scrNext_sets c
  rw [hnext]
  exact Mach.rowOpen_openRow s.mach c (s.mach.hw.scrPos c * 64)

theorem scrubRead_corrects {s : State} {c : Nat} (hc : c < 12) (hs : Scrubs s.mach.hw c) (hcap : s.mach.hw.fget F.DD_CHCAP_VAL c ≤ 512)
    (hpois : (s.mach.attr c (s.mach.hw.scrPos c * 64)).poison = false) (hroom : (s.mach.hw.queue 13).length < 8) (sl : Nat) :
    Completes (.scrubRead c (.ce sl) false) s (fun m => m.hw.scrPos c = s.mach.hw.scrAfter c ∧
      m.hw.fget F.DD_CECNT_VAL c = min (s.mach.hw.fget F.DD_CECNT_VAL c + 1) (2 ^ 32 - 1) ∧ Gained 13 0x1D05 3 c s.mach m ∧
      FieldsKept (scrPosKeys c ++ [(F.DD_CECNT_VAL, c)]) s.mach m ∧ m.mem.stored = s.mach.mem.stored) := by
  have hread := readPhys_scrub_ce hs.chFailed hpois (0xA000 + c) sl
  have hregs := regs_countCe hroom c (s.mach.hw.scrPos c * 64) 1 (0xA000 + c)
  have hgain := fun b : Mach => gained_countCe (b := b) (c := c) (x := s.mach.hw.scrPos c * 64) (atype := 1) (master := 0xA000 + c) hroom
  generalize s.mach.hw.countCe c (s.mach.hw.scrPos c * 64) 1 (0xA000 + c) = x at hread hregs hgain
  have hkept : ∀ f, F.DD_CECNT_VAL.id ≠ f.id → x.fget f c = s.mach.hw.fget f c := fun f hf =>
    (Hw.fget_congr hregs f c).trans (Hw.fget_fadd_ne _ _ (fkey_ne hf (by omega) (by omega)))
  have hafter : x.scrAfter c = s.mach.hw.scrAfter c := scrAfter_congr (hkept _ (by decide)) (hkept _ (by decide)) (hkept _ (by decide))
  have hcount : x.fget F.DD_CECNT_VAL c = min (s.mach.hw.fget F.DD_CECNT_VAL c + 1) (2 ^ 32 - 1) :=
    (Hw.fget_congr hregs _ _).trans (Hw.fget_fadd_same _ _ _ _)
  have hfields : FieldsKept (scrPosKeys c ++ [(F.DD_CECNT_VAL, c)]) s.mach (s.mach.onHw (fun _ => x)) :=
    ((FieldsKept.refl _ s.mach).fset (List.mem_append_right _ List.mem_cons_self) _).congr hregs
  have hmoved := hfields.scrNext (List.subset_append_left _ _)
  have hcap' : x.fget F.DD_CHCAP_VAL c ≤ 512 := by rw [hkept _ (by decide)]; exact hcap
  obtain ⟨lo, hi, hnext⟩ := x.scrNext_sets c
  refine scrubRead_completes hs hread ⟨(scrPos_scrNext hc hcap').trans hafter, ?_, hgain _ ?_, hmoved.congr rfl, rfl⟩
  · rw [hnext, Hw.fget_fset_ne _ _ (fkey_ne (by decide) (by omega) (by omega)), Hw.fget_fset_ne _ _ (fkey_ne (by decide) (by omega) (by omega)),
      hcount]
  · rw [hnext]
    rfl

/-! ### DD_CFG (R330, R337) -/

theorem OnlyFields.mono {ks ks' : List (Fld × Nat)} {a b : Mach} (h : OnlyFields ks a b) (hks : ks ⊆ ks') : OnlyFields ks' a b :=
  ⟨h.1, fun g j hk => h.2 g j (fun k hm => hk k (hks hm))⟩

theorem OnlyFields.trans {ks : List (Fld × Nat)} {a b c : Mach} (hab : OnlyFields ks a b) (hbc : OnlyFields ks b c) : OnlyFields ks a c := by
  obtain ⟨⟨r, rfl⟩, hkept⟩ := hab
  obtain ⟨⟨r', rfl⟩, hkept'⟩ := hbc
  exact ⟨⟨r', rfl⟩, fun g j hk => (hkept' g j hk).trans (hkept g j hk)⟩

/-- A write of a register changes its own fields alone. -/
theorem onlyFields_writeReg (r : Reg) (i w : Nat) (m : Mach) : OnlyFields (r.flds.map (fun f => (f, i))) m (m.onHw (writeReg r i w)) := by
  obtain ⟨regs, hregs⟩ := writeReg_regs r i w m.hw
  refine ⟨⟨regs, by rw [Mach.onHw, hregs]⟩, fun g j hk => fget_writeReg_ne m.hw (fun f hf => ?_)⟩
  exact hk (f, i) (List.mem_map_of_mem hf)

/-- The interval at which the scrubber reads channel `c`: the period over the channel's lines. -/
def Hw.scrInterval (h : Hw) (c : Nat) : Nat := h.fget F.DD_CFG_PERIOD 0 * 36000000000 / (h.fget F.DD_CHCAP_VAL c * 2 ^ 24)

/-- DD_SCRINTV of channel `c` recomputed. -/
def setInterval (c : Nat) (h : Hw) : Hw := h.fset F.DD_SCRINTV_VAL c (h.scrInterval c)

theorem recomputeScrub_eq (h : Hw) : recomputeScrub h = iterN setInterval 0 12 h := by
  have hset : setInterval = fun c x => x.fset F.DD_SCRINTV_VAL c
      (x.fget F.DD_CFG_PERIOD 0 * 36000000000 / (x.fget F.DD_CHCAP_VAL c * 2 ^ 24)) := by
    funext c x
    rw [setInterval, Hw.scrInterval]
  rw [recomputeScrub, hset]

theorem setInterval_sets (c : Nat) (h : Hw) : ∃ v, setInterval c h = h.fset F.DD_SCRINTV_VAL c v := ⟨_, rfl⟩

/-- The interval is of two fields that no recomputation writes. -/
theorem scrInterval_setInterval (h : Hw) {i c : Nat} (hi : i < 65536) (hc : c < 65536) : (setInterval i h).scrInterval c = h.scrInterval c := by
  unfold Hw.scrInterval setInterval
  rw [Hw.fget_fset_ne _ _ (fkey_ne (by decide) hi (by decide)), Hw.fget_fset_ne _ _ (fkey_ne (by decide) hi hc)]

theorem onHw_iterN_succ (f : Nat → Hw → Hw) (i n : Nat) (m : Mach) :
    m.onHw (iterN f i (n + 1)) = (m.onHw (f i)).onHw (iterN f (i + 1) n) := rfl

/-- The intervals of `n` channels from channel `i` recomputed change no other field. -/
theorem onlyFields_setIntervals {ks : List (Fld × Nat)} {n i : Nat} (hks : ∀ c, i ≤ c → c < i + n → (F.DD_SCRINTV_VAL, c) ∈ ks) (m : Mach) :
    OnlyFields ks m (m.onHw (iterN setInterval i n)) := by
  induction n generalizing i m with
  | zero => exact OnlyFields.refl _ m
  | succ n ih =>
    obtain ⟨v, hset⟩ := setInterval_sets i m.hw
    have hfirst : OnlyFields ks m (m.onHw (setInterval i)) := by
      rw [Mach.onHw, hset]
      exact (OnlyFields.refl _ m).fset (hks i (Nat.le_refl i) (by omega)) v
    rw [onHw_iterN_succ]
    exact hfirst.trans (ih (fun c hlo hhi => hks c (by omega) (by omega)) (m.onHw (setInterval i)))

/-- The intervals of later channels leave channel `c`'s. -/
theorem fget_setIntervals_above {n i c : Nat} (hc : c < i) (h : Hw) :
    (iterN setInterval i n h).fget F.DD_SCRINTV_VAL c = h.fget F.DD_SCRINTV_VAL c := by
  induction n generalizing i h with
  | zero => rfl
  | succ n ih =>
    obtain ⟨v, hset⟩ := setInterval_sets i h
    rw [iterN, ih (by omega), hset, Hw.fget_fset_inst _ _ (by omega)]

theorem fget_setIntervals {n i c : Nat} (hlo : i ≤ c) (hhi : c < i + n) (hn : i + n ≤ 65536) (h : Hw) :
    (iterN setInterval i n h).fget F.DD_SCRINTV_VAL c = h.scrInterval c % 2 ^ 24 := by
  induction n generalizing i h with
  | zero => omega
  | succ n ih =>
    rw [iterN]
    rcases Nat.eq_or_lt_of_le hlo with rfl | hlt
    · rw [fget_setIntervals_above (Nat.lt_succ_self i)]
      exact Hw.fget_fset_same _ _ _ _
    · rw [ih hlt (by omega) (by omega), scrInterval_setInterval h (by omega) (by omega)]

/-- The fields that a write of DD_CFG may change. -/
def ddCfgKeys : List (Fld × Nat) := R.DD_CFG.flds.map (fun f => (f, 0)) ++ (List.range 12).map (fun c => (F.DD_SCRINTV_VAL, c))

theorem onlyFields_recomputeScrub (m : Mach) : OnlyFields ((List.range 12).map (fun c => (F.DD_SCRINTV_VAL, c))) m (m.onHw recomputeScrub) := by
  rw [funext recomputeScrub_eq]
  exact onlyFields_setIntervals (fun c _ hc => List.mem_map_of_mem (List.mem_range.mpr (by omega))) m

theorem fget_recomputeScrub {c : Nat} (hc : c < 12) (h : Hw) : (recomputeScrub h).fget F.DD_SCRINTV_VAL c = h.scrInterval c % 2 ^ 24 := by
  rw [recomputeScrub_eq]
  exact fget_setIntervals (Nat.zero_le c) (by omega) (by decide) h

/-- PERIOD takes its part of the word, where that encoding is not reserved. -/
theorem fget_write_DD_CFG_PERIOD {w : Nat} (hok : fieldOk F.DD_CFG_PERIOD 0 (fldOf F.DD_CFG_PERIOD w) = true) (h : Hw) :
    (writeReg R.DD_CFG 0 w h).fget F.DD_CFG_PERIOD 0 = fldOf F.DD_CFG_PERIOD w := by
  have hdef : definedBits R.DD_CFG 0 w = w := by simp [definedBits, R.DD_CFG, R.SW_RTDATA_LO, R.BC_WCFG]
  rw [fget_writeReg_rw 0 w h (by decide) (by decide) rfl, hdef, if_pos hok]

/-- A write of DD_CFG leaves the fields of the channels. -/
theorem fget_write_DD_CFG_channel {g : Fld} (hg : ∀ f ∈ R.DD_CFG.flds, f.id ≠ g.id) {c : Nat} (hc : c < 12) (w : Nat) (h : Hw) :
    (writeReg R.DD_CFG 0 w h).fget g c = h.fget g c :=
  fget_writeReg_ne h (fun f hf => fkey_ne (hg f hf) (by decide) (by omega))

theorem ddCfgWrite_completes {s : State} {w : Word} (hok : fieldOk F.DD_CFG_PERIOD 0 (fldOf F.DD_CFG_PERIOD w.toNat) = true) (p : Path) :
    Completes (.ddCfgWrite p w) s (fun m => m.hw.fget F.DD_CFG_PERIOD 0 = fldOf F.DD_CFG_PERIOD w.toNat ∧
      (∀ c, c < 12 → m.hw.fget F.DD_SCRINTV_VAL c =
        if fldOf F.DD_CFG_PERIOD w.toNat = s.mach.hw.fget F.DD_CFG_PERIOD 0 then s.mach.hw.fget F.DD_SCRINTV_VAL c
        else fldOf F.DD_CFG_PERIOD w.toNat * 36000000000 / (s.mach.hw.fget F.DD_CHCAP_VAL c * 2 ^ 24) % 2 ^ 24) ∧
      OnlyFields ddCfgKeys s.mach m) := by
  have hperiod := fget_write_DD_CFG_PERIOD hok s.mach.hw
  have hwrite : OnlyFields ddCfgKeys s.mach (s.mach.onHw (writeReg R.DD_CFG 0 w.toNat)) :=
    (onlyFields_writeReg R.DD_CFG 0 w.toNat s.mach).mono (List.subset_append_left _ _)
  have hcap := fun c hc => fget_write_DD_CFG_channel (g := F.DD_CHCAP_VAL) (by decide) (c := c) hc w.toNat s.mach.hw
  have hintv := fun c hc => fget_write_DD_CFG_channel (g := F.DD_SCRINTV_VAL) (by decide) (c := c) hc w.toNat s.mach.hw
  have hexec : exec (.ddCfgWrite p w) s = execDdCfgWrite p w s := rfl
  rw [execDdCfgWrite] at hexec
  refine completes_onHw hexec ?_
  rw [Mach.onHw] at hwrite ⊢
  dsimp only
  generalize writeReg R.DD_CFG 0 w.toNat s.mach.hw = x at hperiod hwrite hcap hintv ⊢
  rw [hperiod]
  by_cases hsame : fldOf F.DD_CFG_PERIOD w.toNat = s.mach.hw.fget F.DD_CFG_PERIOD 0
  · simp only [if_pos hsame]
    exact ⟨hperiod, hintv, hwrite⟩
  · simp only [if_neg hsame]
    have hscrub := onlyFields_recomputeScrub (s.mach.onHw (fun _ => x))
    refine ⟨?_, fun c hc => ?_, hwrite.trans (hscrub.mono (List.subset_append_right _ _))⟩
    · exact (hscrub.2 F.DD_CFG_PERIOD 0 (by decide)).trans hperiod
    · rw [fget_recomputeScrub hc, Hw.scrInterval, hperiod, hcap c hc]

/-! ### O42 -/

/-- A copy without poison on a channel that has not failed can be read. -/
theorem copyGood_intro {m : Mach} {c a : Nat} (hfail : m.hw.chFailed c = false) (hpois : (m.attr c a).poison = false) :
    m.copyGood c a = true := by
  rw [Mach.copyGood, hfail, hpois]
  rfl

/-- Settles O42: each write of a line changes that line alone (`LineChanged`), the scrubber reads and moves (`scrubRead_completes`), and the
intervals of the channels are recomputed one after another from fields that none of them writes (`fget_setIntervals`). -/
theorem domeCommandsComplete : Obligations.DomeCommandsComplete := by
  unfold Obligations.DomeCommandsComplete
  intro s p off data en master ch sl e2 hint wrSince w
  dsimp only
  generalize hq : domeMap s.mach.hw off = q
  refine ⟨domeInitComplete_completes, fun harea hprim hmirror => ⟨?_, fun hpois => ?_⟩, fun hprim hpois => ?_,
    fun hch hactive hen hawake hready hcap => ?_, fun hok => ddCfgWrite_completes hok p⟩
  · obtain ⟨t, hexec, hpending, hdata, hline⟩ := domeWrite_completes harea hq hprim hmirror data master
    exact ⟨t, hexec, hpending, hdata, hline.attr, hline.others⟩
  · have hgood := copyGood_intro hprim hpois
    obtain ⟨t, hexec, hpending, hdata, hline⟩ := domePartialWrite_completes harea hq hgood hmirror data en master e2
    exact ⟨t, hexec, hpending, hdata, hline.attr, hline.others⟩
  · have hgood := copyGood_intro hprim hpois
    obtain ⟨t, hexec, hpending, hdata, hline⟩ := domeMetadataWrite_completes hq hgood hint
    exact ⟨t, hexec, hpending, hdata, hline.attr, hline.others⟩
  · have hs : Scrubs s.mach.hw ch := ⟨hactive, hen, hawake, hready⟩
    exact ⟨scrubRead_moves hch hs hcap wrSince, fun hpois hroom => scrubRead_corrects hch hs hcap hpois hroom sl⟩

end Sys2Proof.Machine

/-! PROOFS. Obligations O6 and O44: the access guard. -/
namespace Sys2Proof.Machine

/-! ### O6 -/

/-- A map put together from three flags holds each permission as its flag says. -/
theorem mapHas_flags (r w x : Bool) : let m := b2n r + 2 * b2n w + 4 * b2n x
    mapHas m .r = r ∧ mapHas m .w = w ∧ mapHas m .x = x := by
  revert r w x
  decide

/-- R351: a part that matches no descriptor is denied when it is a user's, and for the first permission that the default map lacks. -/
theorem checkPart_noMatch {h : Hw} {g : GReq} {addr : Nat}
    (hno : firstMatch h (if g.tid.isSome then 0 else 1) addr (h.setOf g.tid).1 (h.setOf g.tid).2 = none) : ∃ user lacks,
    checkPart h g addr =
      if g.priv = false then some user else (g.needs.find? (fun p => !mapHas (h.defMap g.tid) p)).map lacks := by
  refine ⟨⟨addr, 0, kindOf ((g.needs.head?.map permCode).getD 0) g.priv (if g.tid.isSome then 0 else 1) 1 true⟩,
    fun p => ⟨addr, 0, kindOf (permCode p) g.priv (if g.tid.isSome then 0 else 1) 0 true⟩, ?_⟩
  unfold checkPart
  simp only [hno, Bool.not_eq_true']
  cases g.needs.find? (fun p => !mapHas (h.defMap g.tid) p) <;> rfl

/-- Settles O6: without a match (`checkPart_noMatch`) a user part is denied, and a privileged one passes when no permission is found that the
default map lacks, which the map tells by its three flags (`mapHas_flags`). -/
theorem guardDefaultMapDecides : Obligations.GuardDefaultMapDecides := by
  unfold Obligations.GuardDefaultMapDecides
  intro h g addr hno
  obtain ⟨user, lacks, hcheck⟩ := checkPart_noMatch hno
  refine ⟨fun hpriv => ?_, fun huser => ?_⟩
  · rw [hcheck, if_neg (by rw [hpriv]; decide), Option.map_eq_none_iff, List.find?_eq_none]
    refine forall₂_congr fun p _ => ?_
    rw [Bool.not_eq_true', Bool.not_eq_false]
    cases htid : g.tid with
    | some t =>
      obtain ⟨hr, hw, hx⟩ := mapHas_flags (h.flag F.AG_TDEF_R t) (h.flag F.AG_TDEF_W t) (h.flag F.AG_TDEF_X t)
      cases p <;> simp only [Hw.defMap, hr, hw, hx]
    | none =>
      obtain ⟨hr, hw, hx⟩ := mapHas_flags (h.flag F.AG_SYSDEF_R 0) (h.flag F.AG_SYSDEF_W 0) (h.flag F.AG_SYSDEF_X 0)
      cases p <;> simp only [Hw.defMap, hr, hw, hx]
  · rw [hcheck, if_pos huser]
    rfl

/-! ### The descriptor command (R347, R364) -/

theorem rdGo_idle {h : Hw} (hidle : h.flag F.AG_RDSTAT_BUSY 0 = false) (f : Hw → Hw) : rdGo f h = f h :=
  if_neg (by rw [hidle]; decide)

/-- The fields that GO of AG_RDCMD writes. -/
abbrev rdcmdKeys : List (Fld × Nat) := [(F.AG_RDCMD_IDX, 0), (F.AG_RDCMD_OP, 0), (F.AG_RDSTAT_RESULT, 0)]

/-- The fields that hold the staged descriptor. -/
abbrev rddataKeys : List (Fld × Nat) :=
  [(F.AG_RDDATA0_VAL, 0), (F.AG_RDDATA1_VAL, 0), (F.AG_RDDATA2_VAL, 0), (F.AG_RDDATA3_VAL, 0)]

@[simp] theorem fget_rdResult (r : Nat) (h : Hw) : (rdResult r h).fget F.AG_RDSTAT_RESULT 0 = r % 16 := Hw.fget_fset_same _ _ _ _

theorem fget_setRdcmd (i op : Nat) (h : Hw) :
    (setRdcmd i op h).fget F.AG_RDCMD_IDX 0 = i % 65536 ∧ (setRdcmd i op h).fget F.AG_RDCMD_OP 0 = op % 4 :=
  ⟨(Hw.fget_fset_ne _ _ (by decide)).trans (Hw.fget_fset_same _ _ _ _), Hw.fget_fset_same _ _ _ _⟩

/-- Operation `op` ran on descriptor `i` with result OK (R364). -/
def RdRan (i op : Nat) (h : Hw) : Prop :=
  h.fget F.AG_RDSTAT_RESULT 0 = 0 ∧ h.fget F.AG_RDCMD_IDX 0 = i ∧ h.fget F.AG_RDCMD_OP 0 = op

/-- What leaves the command register as GO wrote it, and then answers OK, ran. -/
theorem rdRan_rdResult {i op : Nat} (hi : i < 65536) (hop : op < 4) {h x : Hw}
    (hx : ∀ f ∈ [F.AG_RDCMD_IDX, F.AG_RDCMD_OP], x.fget f 0 = (setRdcmd i op h).fget f 0) : RdRan i op (rdResult 0 x) := by
  obtain ⟨hidx, hopc⟩ := fget_setRdcmd i op h
  refine ⟨fget_rdResult 0 x, ?_, ?_⟩
  · rw [rdResult, Hw.fget_fset_ne _ _ (by decide), hx _ (by simp), hidx, Nat.mod_eq_of_lt hi]
  · rw [rdResult, Hw.fget_fset_ne _ _ (by decide), hx _ (by simp), hopc, Nat.mod_eq_of_lt hop]

theorem OnlyFields.setRdcmd {ks : List (Fld × Nat)} {a b : Mach} (h : OnlyFields ks a b) (hks : rdcmdKeys ⊆ ks) (i op : Nat) :
    OnlyFields ks a (b.onHw (setRdcmd i op)) :=
  (h.fset (hks (by decide)) i).fset (hks (by decide)) op

theorem OnlyFields.rdResult {ks : List (Fld × Nat)} {a b : Mach} (h : OnlyFields ks a b) (hks : (F.AG_RDSTAT_RESULT, 0) ∈ ks)
    (r : Nat) : OnlyFields ks a (b.onHw (rdResult r)) := h.fset hks r

theorem agRdcmdNop_completes {s : State} (p : Path) {i : Nat} (hi : i < 65536) (hidle : s.mach.hw.flag F.AG_RDSTAT_BUSY 0 = false) :
    Completes (.agRdcmdNop p i) s (fun m => RdRan i 0 m.hw ∧ OnlyFields rdcmdKeys s.mach m) := by
  refine completes_onHw (f := rdGo _) rfl ?_
  rw [Mach.onHw, rdGo_idle hidle]
  exact ⟨rdRan_rdResult hi (by decide) (fun _ _ => rfl),
    ((OnlyFields.refl _ _).setRdcmd (List.Subset.refl _) i 0).rdResult (by decide) 0⟩

/-! ### The staged descriptor (R344) -/

/-- Descriptor `d` staged in AG_RDDATA0-3. -/
def stageDesc (d : Nat) (h : Hw) : Hw :=
  (((h.fset F.AG_RDDATA0_VAL 0 d).fset F.AG_RDDATA1_VAL 0 (d / 2 ^ 32)).fset F.AG_RDDATA2_VAL 0 (d / 2 ^ 64)).fset
    F.AG_RDDATA3_VAL 0 (d / 2 ^ 96)

theorem rdRead_eq (i : Nat) (h : Hw) : rdRead i h = rdResult 0 (stageDesc (h.desc (i % 65536)) h) := rfl

/-- The staged descriptor stays clear of every other field. -/
theorem fget_stageDesc_ne (d : Nat) (h : Hw) {g : Fld} {j : Nat} (hk : ∀ k ∈ rddataKeys, fkey k.1 k.2 ≠ fkey g j) :
    (stageDesc d h).fget g j = h.fget g j := by
  rw [stageDesc, Hw.fget_fset_ne _ _ (hk (F.AG_RDDATA3_VAL, 0) (by simp)), Hw.fget_fset_ne _ _ (hk (F.AG_RDDATA2_VAL, 0) (by simp)),
    Hw.fget_fset_ne _ _ (hk (F.AG_RDDATA1_VAL, 0) (by simp)), Hw.fget_fset_ne _ _ (hk (F.AG_RDDATA0_VAL, 0) (by simp))]

theorem OnlyFields.stageDesc {ks : List (Fld × Nat)} {a b : Mach} (h : OnlyFields ks a b) (hks : rddataKeys ⊆ ks) (d : Nat) :
    OnlyFields ks a (b.onHw (stageDesc d)) :=
  (((h.fset (hks (by decide)) d).fset (hks (by decide)) (d / 2 ^ 32)).fset (hks (by decide)) (d / 2 ^ 64)).fset
    (hks (by decide)) (d / 2 ^ 96)

/-- The four data registers hold the descriptor's 128 bits. -/
theorem stagedDesc_stageDesc (d : Nat) (h : Hw) : stagedDesc (stageDesc d h) = d % 2 ^ 128 := by
  simp (disch := decide) only [stagedDesc, stageDesc, Hw.fget_fset_ne, Hw.fget_fset_same, F.AG_RDDATA0_VAL, F.AG_RDDATA1_VAL,
    F.AG_RDDATA2_VAL, F.AG_RDDATA3_VAL]
  omega

/-- A write of a field outside AG_RDDATA0-3 leaves the staged descriptor. -/
theorem stagedDesc_fset {f : Fld} (hf : ∀ k ∈ rddataKeys, fkey f 0 ≠ fkey k.1 k.2) (v : Nat) (h : Hw) :
    stagedDesc (h.fset f 0 v) = stagedDesc h := by
  rw [stagedDesc, Hw.fget_fset_ne _ _ (hf (F.AG_RDDATA0_VAL, 0) (by simp)), Hw.fget_fset_ne _ _ (hf (F.AG_RDDATA1_VAL, 0) (by simp)),
    Hw.fget_fset_ne _ _ (hf (F.AG_RDDATA2_VAL, 0) (by simp)), Hw.fget_fset_ne _ _ (hf (F.AG_RDDATA3_VAL, 0) (by simp)), ← stagedDesc]

theorem stagedDesc_rdResult (r : Nat) (h : Hw) : stagedDesc (rdResult r h) = stagedDesc h := stagedDesc_fset (by decide) r h

theorem stagedDesc_setRdcmd (i op : Nat) (h : Hw) : stagedDesc (setRdcmd i op h) = stagedDesc h :=
  (stagedDesc_fset (by decide) op _).trans (stagedDesc_fset (by decide) i h)

theorem agRdcmdRead_completes {s : State} (p : Path) {i : Nat} (hi : i < 65536) (hidle : s.mach.hw.flag F.AG_RDSTAT_BUSY 0 = false) :
    Completes (.agRdcmdRead p i) s (fun m => RdRan i 1 m.hw ∧ stagedDesc m.hw = s.mach.hw.desc i % 2 ^ 128 ∧
      OnlyFields (rdcmdKeys ++ rddataKeys) s.mach m) := by
  refine completes_onHw (f := rdGo _) rfl ?_
  rw [Mach.onHw, rdGo_idle hidle, rdRead_eq, Nat.mod_eq_of_lt hi]
  refine ⟨rdRan_rdResult hi (by decide) (fun f hf => fget_stageDesc_ne _ _ ?_), ?_, ?_⟩
  · revert f
    decide
  · rw [stagedDesc_rdResult]
    exact stagedDesc_stageDesc (s.mach.hw.desc i) _
  · exact (((OnlyFields.refl _ s.mach).setRdcmd (List.subset_append_left _ _) i 1).stageDesc (List.subset_append_right _ _) _).rdResult
      (by decide) 0

/-! ### The stored descriptor (R347) -/

/-- Descriptor `i` replaced. -/
def Hw.setDesc (h : Hw) (i d : Nat) : Hw := { h with ag := { h.ag with desc := Store.setD 0 h.ag.desc i d } }

@[simp] theorem Hw.desc_setDesc_same (h : Hw) (i d : Nat) : (h.setDesc i d).desc i = d := Store.getD_setD_same _ _ _ _

theorem Hw.desc_setDesc_ne (h : Hw) {i j : Nat} (d : Nat) (hj : j ≠ i) : (h.setDesc i d).desc j = h.desc j :=
  Store.getD_setD_ne _ _ _ _ hj.symm

@[simp] theorem desc_rdResult (r : Nat) (h : Hw) (j : Nat) : (rdResult r h).desc j = h.desc j := rfl

/-- WRITE from Turret stores a staged descriptor whose LIMIT is not below BASE and whose reserved bits are clear. -/
theorem rdWrite_ok {h : Hw} (hlimit : bits (stagedDesc h) 30 34 ≤ bits (stagedDesc h) 64 34) (hlow : bits (stagedDesc h) 10 20 = 0)
    (hhigh : bits (stagedDesc h) 98 30 = 0) (i : Nat) : rdWrite .turret i h = rdResult 0 (h.setDesc (i % 65536) (stagedDesc h)) := by
  have hgood : ¬(bits (stagedDesc h) 64 34 < bits (stagedDesc h) 30 34 ∨ bits (stagedDesc h) 10 20 ≠ 0 ∨ bits (stagedDesc h) 98 30 ≠ 0) := by
    omega
  rw [rdWrite, if_neg (by decide)]
  exact if_neg hgood

/-- WRITE from another master ends with DENIED, and of a LIMIT below BASE with BAD_FIELD. -/
theorem rdWrite_refused {p : Path} {h : Hw} (hbad : p ≠ .turret ∨ bits (stagedDesc h) 64 34 < bits (stagedDesc h) 30 34) (i : Nat) :
    rdWrite p i h = rdResult (if p = .turret then 1 else 3) h := by
  unfold rdWrite
  by_cases hp : p = .turret
  · rw [if_neg (not_not_intro hp), if_pos hp]
    exact if_pos (.inl (hbad.resolve_left (not_not_intro hp)))
  · rw [if_pos hp, if_neg hp]

theorem agRdcmdWrite_stores {s : State} {i : Nat} (hi : i < 65536) (hidle : s.mach.hw.flag F.AG_RDSTAT_BUSY 0 = false)
    (hlimit : bits (stagedDesc s.mach.hw) 30 34 ≤ bits (stagedDesc s.mach.hw) 64 34) (hlow : bits (stagedDesc s.mach.hw) 10 20 = 0)
    (hhigh : bits (stagedDesc s.mach.hw) 98 30 = 0) :
    Completes (.agRdcmdWrite .turret i) s (fun m => RdRan i 2 m.hw ∧ m.hw.desc i = stagedDesc s.mach.hw ∧
      (∀ j, j ≠ i → m.hw.desc j = s.mach.hw.desc j) ∧ m.hw.bd = s.mach.hw.bd ∧ m.hw.out = s.mach.hw.out ∧
      FieldsKept rdcmdKeys s.mach m ∧ m.mem = s.mach.mem) := by
  have hstaged := stagedDesc_setRdcmd i 2 s.mach.hw
  have hcmd := (OnlyFields.refl rdcmdKeys s.mach).setRdcmd (List.Subset.refl _) i 2
  refine completes_onHw (f := rdGo _) rfl ?_
  rw [← hstaged] at hlimit hlow hhigh
  rw [Mach.onHw, rdGo_idle hidle, rdWrite_ok hlimit hlow hhigh, hstaged, Nat.mod_eq_of_lt hi]
  refine ⟨rdRan_rdResult hi (by decide) (fun _ _ => rfl), Hw.desc_setDesc_same _ i _, fun j hj => Hw.desc_setDesc_ne _ _ hj, rfl, rfl, ?_, rfl⟩
  exact (hcmd.rdResult (by decide) 0).2

theorem agRdcmdWrite_refused {s : State} {p : Path} (i : Nat) (hidle : s.mach.hw.flag F.AG_RDSTAT_BUSY 0 = false)
    (hbad : p ≠ .turret ∨ bits (stagedDesc s.mach.hw) 64 34 < bits (stagedDesc s.mach.hw) 30 34) :
    Completes (.agRdcmdWrite p i) s (fun m =>
      m.hw.fget F.AG_RDSTAT_RESULT 0 = (if p = .turret then 1 else 3) ∧ OnlyFields rdcmdKeys s.mach m) := by
  refine completes_onHw (f := rdGo _) rfl ?_
  rw [← stagedDesc_setRdcmd i 2] at hbad
  rw [Mach.onHw, rdGo_idle hidle, rdWrite_refused hbad]
  refine ⟨?_, ((OnlyFields.refl _ _).setRdcmd (List.Subset.refl _) i 2).rdResult (by decide) _⟩
  rw [fget_rdResult]
  split <;> rfl

/-! ### AG_SYSSET (R363) -/

theorem fget_write_AG_SYSSET_BASE (w : Nat) (h : Hw) : (writeReg R.AG_SYSSET 0 w h).fget F.AG_SYSSET_BASE 0 = bits w 0 16 := by
  have hok : ∀ v, fieldOk F.AG_SYSSET_BASE 0 v = true := fun _ => rfl
  rw [fget_writeReg_rw 0 w h (by decide) (by decide) rfl, hok, if_pos rfl]
  rfl

/-- CNT takes its part of the word, up to 256. -/
theorem fget_write_AG_SYSSET_CNT {w : Nat} (hcnt : bits w 16 9 ≤ 256) (h : Hw) :
    (writeReg R.AG_SYSSET 0 w h).fget F.AG_SYSSET_CNT 0 = bits w 16 9 := by
  have hok : fieldOk F.AG_SYSSET_CNT 0 (bits w 16 9) = true := by
    simp [fieldOk, F.AG_SYSSET_CNT, F.DD_TTSLEN_VAL, F.FC_DCFG_REACT2, F.FC_DCFG_REACT3, F.FC_DCFG_REACT4]
    omega
  rw [fget_writeReg_rw 0 w h (by decide) (by decide) rfl]
  exact if_pos hok

theorem agSyssetWrite_taken {s : State} {w : Word} (hsum : bits w.toNat 0 16 + bits w.toNat 16 9 ≤ 65536)
    (hcnt : bits w.toNat 16 9 ≤ 256) :
    Completes (.agSyssetWrite .turret w) s (fun m => m.hw.setOf none = (bits w.toNat 0 16, bits w.toNat 16 9) ∧
      OnlyFields [(F.AG_SYSSET_BASE, 0), (F.AG_SYSSET_CNT, 0)] s.mach m) := by
  have hbase' := fget_write_AG_SYSSET_BASE w.toNat s.mach.hw
  have hcnt' := fget_write_AG_SYSSET_CNT hcnt s.mach.hw
  refine completes_onHw (f := syssetWrite .turret w.toNat) rfl ?_
  rw [Mach.onHw, syssetWrite, hbase', hcnt', if_pos ⟨rfl, hsum⟩]
  exact ⟨congrArg₂ Prod.mk hbase' hcnt', onlyFields_writeReg R.AG_SYSSET 0 w.toNat s.mach⟩

theorem agSyssetWrite_ignored {s : State} {p : Path} {w : Word}
    (hbad : p ≠ .turret ∨ (bits w.toNat 16 9 ≤ 256 ∧ 65536 < bits w.toNat 0 16 + bits w.toNat 16 9)) :
    Completes (.agSyssetWrite p w) s (fun m => m = s.mach) := by
  refine completes_onHw (f := syssetWrite p w.toNat) rfl ?_
  rw [Mach.onHw, syssetWrite, if_neg]
  rintro ⟨hp, hsum⟩
  obtain ⟨hcnt, hover⟩ := hbad.resolve_left (not_not_intro hp)
  rw [fget_write_AG_SYSSET_BASE, fget_write_AG_SYSSET_CNT hcnt] at hsum
  omega

/-! ### O44 -/

/-- The record is rearmed (R361). -/
theorem agVinfoValidClear_completes (s : State) : Completes .agVinfoValidClear s (fun m =>
    m.hw.flag F.AG_VINFO_VALID 0 = false ∧ OnlyFields [(F.AG_VINFO_VALID, 0)] s.mach m) :=
  completes_onHw (f := fun h => h.fset F.AG_VINFO_VALID 0 0) rfl
    ⟨Hw.flag_fset_same s.mach.hw rfl 0 0, (OnlyFields.refl _ s.mach).fset (List.mem_singleton_self _) 0⟩

/-- Settles O44: NOP, READ and WRITE of AG_RDCMD, the rearming of the record and AG_SYSSET, each by the lemma on its command. -/
theorem guardCommandsComplete : Obligations.GuardCommandsComplete := by
  unfold Obligations.GuardCommandsComplete
  intro s p i w hi
  exact ⟨fun hidle => ⟨agRdcmdNop_completes p hi hidle, agRdcmdRead_completes p hi hidle, agRdcmdWrite_stores hi hidle,
    agRdcmdWrite_refused i hidle⟩, agVinfoValidClear_completes s, agSyssetWrite_taken, agSyssetWrite_ignored⟩

end Sys2Proof.Machine

/-! PROOFS. Obligations O40 and O41: fabric ports, their power states and IDE streams, and the lane test. -/
namespace Sys2Proof.Machine

/-! ### Commands that write registers of one port or lane -/

/-- A command on the fabric and feed sides, by the state that its effect leaves. -/
theorem completes_hw {c : Instr} {s : State} {P : Mach → Prop} {f : Hw → Hw} {h : Hw} (hc : exec c s = onHw f s) (hf : f s.mach.hw = h)
    (hp : P { s.mach with hw := h }) : Completes c s P := by
  subst hf
  exact completes_onHw hc hp

/-- Two fields of one port or lane have different keys. -/
theorem fkey_ne_of_id {f g : Fld} (hid : f.id ≠ g.id) (i : Nat) : fkey f i ≠ fkey g i := by
  simp only [fkey]
  omega

/-- Writing one field of a port or a lane leaves its other fields. -/
theorem Hw.fget_fset_of_id (h : Hw) {f g : Fld} (hid : f.id ≠ g.id) (i v : Nat) : (h.fset f i v).fget g i = h.fget g i :=
  h.fget_fset_ne v (fkey_ne_of_id hid i)

theorem Hw.fget_fadd_of_id (h : Hw) {f g : Fld} (hid : f.id ≠ g.id) (i n : Nat) : (h.fadd f i n).fget g i = h.fget g i :=
  h.fget_fset_of_id hid i _

theorem Hw.flag_fset_of_id (h : Hw) {f g : Fld} (hid : f.id ≠ g.id) (i v : Nat) : (h.fset f i v).flag g i = h.flag g i := by
  rw [Hw.flag, h.fget_fset_of_id hid, Hw.flag]

theorem Hw.fget_fset_of_lt (h : Hw) {f : Fld} {v : Nat} (hv : v < 2 ^ f.width) (i : Nat) : (h.fset f i v).fget f i = v := by
  rw [Hw.fget_fset_same, Nat.mod_eq_of_lt hv]

theorem Hw.flag_fset_b2n (h : Hw) {f : Fld} (hf : f.width = 1) (i : Nat) (b : Bool) : (h.fset f i (b2n b)).flag f i = b := by
  rw [Hw.flag_fset_same _ hf]
  cases b <;> rfl

theorem onlyFields_fset (m : Mach) (f : Fld) (i v : Nat) : OnlyFields [(f, i)] m { m with hw := m.hw.fset f i v } :=
  (OnlyFields.refl _ m).fset List.mem_cons_self v

/-- Counting in a listed counter keeps the frame. -/
theorem FieldsKept.fadd {ks : List (Fld × Nat)} {a b : Mach} (h : FieldsKept ks a b) {f : Fld} {i : Nat} (hm : (f, i) ∈ ks) (n : Nat) :
    FieldsKept ks a (b.onHw (fun x => x.fadd f i n)) := h.fset hm _

/-- A command whose effect is one write of a field. -/
theorem completes_fset {c : Instr} {s : State} {f : Hw → Hw} {g : Fld} {i v : Nat} (hc : exec c s = onHw f s)
    (hf : f s.mach.hw = s.mach.hw.fset g i v) (hv : v < 2 ^ g.width) :
    Completes c s (fun m => m.hw.fget g i = v ∧ OnlyFields [(g, i)] s.mach m) :=
  completes_hw hc hf ⟨Hw.fget_fset_of_lt _ hv i, onlyFields_fset s.mach g i v⟩

/-- A command whose effect is one write of a one-bit field. -/
theorem completes_flag {c : Instr} {s : State} {f : Hw → Hw} {g : Fld} {i : Nat} {b : Bool} (hc : exec c s = onHw f s)
    (hf : f s.mach.hw = s.mach.hw.fset g i (b2n b)) (hg : g.width = 1) :
    Completes c s (fun m => m.hw.flag g i = b ∧ OnlyFields [(g, i)] s.mach m) :=
  completes_hw hc hf ⟨Hw.flag_fset_b2n _ hg i b, onlyFields_fset s.mach g i _⟩

/-! ### Resets that links may complete (R465) -/

/-- Where no domain waits for a reset, a link's change completes none. -/
theorem settleResets_of_noResets {h : Hw} (hr : h.noResets) : settleResets h = h := by
  have hnone : h.fc.doms.filter (fun x => x.2.reset) = [] := by
    rw [List.filter_eq_nil_iff]
    intro x hx
    rw [hr x hx]
    exact Bool.false_ne_true
  rw [settleResets, hnone, List.foldl_nil]

theorem settleResets_of_doms {a b : Hw} (hr : a.noResets) (hd : b.fc.doms = a.fc.doms) : settleResets b = b :=
  settleResets_of_noResets (by rw [Hw.noResets, hd]; exact hr)

/-! ### The status of the strict latency bound (R248, R249) -/

/-- `b` differs from `a` in DMAX and BOUNDOK of queue sets and in the free values taken alone. -/
def BoundOnly (a b : Hw) : Prop :=
  (∃ r n, b = { a with regs := r, free := n }) ∧
  ∀ (g : Fld) (j : Nat), F.TS_PORTSTAT_DMAX.id ≠ g.id → F.TS_PORTSTAT_BOUNDOK.id ≠ g.id → j < 65536 → b.fget g j = a.fget g j

theorem BoundOnly.refl (a : Hw) : BoundOnly a a := ⟨⟨_, _, rfl⟩, fun _ _ _ _ _ => rfl⟩

theorem BoundOnly.trans {a b c : Hw} (hab : BoundOnly a b) (hbc : BoundOnly b c) : BoundOnly a c := by
  obtain ⟨⟨r, n, rfl⟩, hkept⟩ := hab
  obtain ⟨⟨r', n', rfl⟩, hkept'⟩ := hbc
  exact ⟨⟨r', n', rfl⟩, fun g j hd hb hj => (hkept' g j hd hb hj).trans (hkept g j hd hb hj)⟩

/-- Both fields written after the free value, if one is taken. -/
theorem BoundOnly.of_fset {a x : Hw} {xp : Nat} (hxp : xp < 65536) (hx : ∃ n, x = { a with free := n }) (d k : Nat) :
    BoundOnly a ((x.fset F.TS_PORTSTAT_DMAX xp d).fset F.TS_PORTSTAT_BOUNDOK xp k) := by
  obtain ⟨n, rfl⟩ := hx
  refine ⟨⟨_, _, rfl⟩, fun g j hd hb hj => ?_⟩
  rw [Hw.fget_fset_ne _ _ (fkey_ne hb hxp hj), Hw.fget_fset_ne _ _ (fkey_ne hd hxp hj)]
  exact Hw.fget_congr rfl g j

theorem boundOnly_boundEval (h : Hw) {xp : Nat} (hxp : xp < 65536) : BoundOnly h (boundEval h xp) := by
  unfold boundEval
  dsimp only
  split
  · exact .of_fset hxp ⟨_, rfl⟩ _ _
  · split
    · exact .of_fset hxp ⟨_, rfl⟩ _ _
    · exact .of_fset hxp ⟨_, rfl⟩ _ _

theorem instsOf_lt {h : Hw} {f : Fld} {i : Nat} (hi : i ∈ h.instsOf f) : i < 65536 := by
  obtain ⟨x, -, rfl⟩ := List.mem_map.mp hi
  exact Nat.mod_lt _ (by decide)

theorem shapedSets_lt {h : Hw} {xp : Nat} (hxp : xp ∈ shapedSets h) : xp < 65536 := by
  obtain ⟨q, hq, rfl⟩ := List.mem_map.mp (mem_sortNats.mp (List.mem_of_mem_filter hxp))
  exact Nat.lt_of_le_of_lt (Nat.div_le_self q 16) (instsOf_lt (List.mem_of_mem_filter hq))

theorem boundOnly_foldl {l : List Nat} (hl : ∀ xp ∈ l, xp < 65536) (h : Hw) : BoundOnly h (l.foldl boundEval h) := by
  induction l generalizing h with
  | nil => exact .refl h
  | cons xp l ih =>
    obtain ⟨hxp, hrest⟩ := List.forall_mem_cons.mp hl
    exact (boundOnly_boundEval h hxp).trans (ih hrest _)

theorem boundOnly_boundAll (h : Hw) : BoundOnly h (boundAll h) := by
  refine boundOnly_foldl (fun xp hxp => ?_) h
  rcases List.mem_append.mp (mem_sortNats.mp hxp) with hs | ho
  · exact shapedSets_lt hs
  · exact instsOf_lt (List.mem_of_mem_filter ho)

theorem boundOnly_boundSet (h : Hw) {xp : Nat} (hxp : xp < 65536) : BoundOnly h (boundSet xp h) :=
  (boundOnly_boundEval h hxp).trans (boundOnly_boundAll _)

/-- A field of a port that is neither DMAX nor BOUNDOK. -/
theorem BoundOnly.fget {a b : Hw} (h : BoundOnly a b) {g : Fld} {j : Nat} (hj : j < 72)
    (hd : F.TS_PORTSTAT_DMAX.id ≠ g.id := by decide) (hb : F.TS_PORTSTAT_BOUNDOK.id ≠ g.id := by decide) : b.fget g j = a.fget g j :=
  h.2 g j hd hb (by omega)

theorem BoundOnly.out {a b : Hw} (h : BoundOnly a b) : b.out = a.out := by
  obtain ⟨⟨_, _, rfl⟩, -⟩ := h
  rfl

theorem BoundOnly.fc {a b : Hw} (h : BoundOnly a b) : b.fc = a.fc := by
  obtain ⟨⟨_, _, rfl⟩, -⟩ := h
  rfl

theorem BoundOnly.bd {a b : Hw} (h : BoundOnly a b) : b.bd = a.bd := by
  obtain ⟨⟨_, _, rfl⟩, -⟩ := h
  rfl

theorem BoundOnly.sw {a b : Hw} (h : BoundOnly a b) : b.sw = a.sw := by
  obtain ⟨⟨_, _, rfl⟩, -⟩ := h
  rfl

theorem BoundOnly.ts {a b : Hw} (h : BoundOnly a b) : b.ts = a.ts := by
  obtain ⟨⟨_, _, rfl⟩, -⟩ := h
  rfl

theorem BoundOnly.fp {a b : Hw} (h : BoundOnly a b) : b.fp = a.fp := by
  obtain ⟨⟨_, _, rfl⟩, -⟩ := h
  rfl

/-! ### Power states (R386 to R389) -/

/-- The power state of a port's receive or transmit direction. -/
def psOf (rx : Bool) : Fld := if rx then F.FP_PMSTAT_RXPS else F.FP_PMSTAT_TXPS

theorem psOf_width (rx : Bool) : (psOf rx).width = 2 := by
  cases rx <;> rfl

theorem l0sEntry_completes {s : State} {n : Nat} {rx : Bool} (hup : s.mach.hw.flag F.FP_LSTAT_UP n = true)
    (hmode : s.mach.hw.fget F.FP_LSTAT_MODE n = 2) (hen : s.mach.hw.flag F.FP_PMCFG_L0SEN n = true)
    (hps : s.mach.hw.fget (psOf rx) n = 0) (hown : ownPm s.mach.hw n = true) (hnone : anyQueued s.mach.hw n = false) :
    Completes (.l0sEntry n rx) s (fun m => m.hw.fget (psOf rx) n = 1 ∧ OnlyFields [(psOf rx, n)] s.mach m) := by
  refine completes_fset (show exec (.l0sEntry n rx) s = execL0sEntry n rx s from rfl) ?_ (by rw [psOf_width]; decide)
  refine (if_pos ⟨hup, hmode, hen⟩).trans ?_
  cases rx with
  | true => exact (if_pos rfl).trans (if_pos hps)
  | false => exact (if_neg Bool.false_ne_true).trans (if_pos ⟨hps, hown, by rw [hnone]; rfl⟩)

theorem l0sExit_completes {s : State} {n : Nat} {rx : Bool} (hps : s.mach.hw.fget (psOf rx) n = 1) :
    Completes (.l0sExit n rx) s (fun m => m.hw.fget (psOf rx) n = 0 ∧ OnlyFields [(psOf rx, n)] s.mach m) :=
  completes_fset (show exec (.l0sExit n rx) s = execL0sExit n rx s from rfl) (if_pos hps) (Nat.two_pow_pos _)

theorem l0pEntry_completes {s : State} {n w : Nat} (hup : s.mach.hw.flag F.FP_LSTAT_UP n = true)
    (hmode : s.mach.hw.fget F.FP_LSTAT_MODE n = 0) (hen : s.mach.hw.flag F.FP_PMCFG_L0PEN n = true)
    (hps : s.mach.hw.fget F.FP_PMSTAT_TXPS n = 0) (hw : w ∈ [2, 4, 8]) (hlow : w < s.mach.hw.fget F.FP_LSTAT_WIDTH n) :
    Completes (.l0pEntry n w true) s (fun m => m.hw.fget F.FP_PMSTAT_L0PW n = w ∧ OnlyFields [(F.FP_PMSTAT_L0PW, n)] s.mach m) := by
  have hfits : w < 2 ^ F.FP_PMSTAT_L0PW.width := (by decide : ∀ v ∈ [2, 4, 8], v < 2 ^ F.FP_PMSTAT_L0PW.width) w hw
  exact completes_fset (show exec (.l0pEntry n w true) s = execL0pEntry n w true s from rfl)
    (if_pos ⟨hup, hmode, hen, hps, hw, hlow, .inl rfl⟩) hfits

theorem l0pExit_completes (s : State) (n : Nat) :
    Completes (.l0pExit n true) s (fun m => m.hw.fget F.FP_PMSTAT_L0PW n = 0 ∧ OnlyFields [(F.FP_PMSTAT_L0PW, n)] s.mach m) :=
  completes_fset (show exec (.l0pExit n true) s = execL0pExit n true s from rfl) (if_pos (.inl rfl)) (by decide)

/-- R386: both directions enter L1, and no reduced width remains. -/
theorem l1Request_accepted {s : State} {n : Nat} {aspm : Bool} (hup : s.mach.hw.flag F.FP_LSTAT_UP n = true)
    (hnone : anyQueued s.mach.hw n = false) (hen : s.mach.hw.flag F.FP_PMCFG_L1EN n = true) :
    Completes (.l1Request n aspm) s (fun m =>
      m.hw.fget F.FP_PMSTAT_TXPS n = 2 ∧ m.hw.fget F.FP_PMSTAT_RXPS n = 2 ∧ m.hw.fget F.FP_PMSTAT_L0PW n = 0 ∧
      OnlyFields [(F.FP_PMSTAT_L0PW, n), (F.FP_PMSTAT_TXPS, n), (F.FP_PMSTAT_RXPS, n)] s.mach m) := by
  refine completes_hw (show exec (.l1Request n aspm) s = execL1Request n aspm s from rfl)
    ((if_pos hup).trans (if_pos (by rw [hen, hnone]; rfl))) ⟨?_, ?_, Hw.fget_fset_same _ _ _ _, ?_⟩
  · rw [Hw.fget_fset_of_id _ (by decide), Hw.fget_fset_of_id _ (by decide), Hw.fget_fset_same]
    rfl
  · rw [Hw.fget_fset_of_id _ (by decide), Hw.fget_fset_same]
    rfl
  · exact (((OnlyFields.refl _ s.mach).fset (by simp) 2).fset (by simp) 2).fset (by simp) 0

/-- R387: a port whose L1 is not enabled rejects the request. -/
theorem l1Request_rejected {s : State} {n : Nat} {aspm : Bool} (hup : s.mach.hw.flag F.FP_LSTAT_UP n = true)
    (hen : s.mach.hw.flag F.FP_PMCFG_L1EN n = false) :
    Completes (.l1Request n aspm) s (fun m => m = s.mach.onHw (fun h => h.emit (.l1Reject n aspm))) :=
  completes_hw (show exec (.l1Request n aspm) s = execL1Request n aspm s from rfl)
    ((if_pos hup).trans (if_neg (by rw [hen]; exact Bool.false_ne_true))) rfl

/-- L1 is left through Recovery, which FP_TRNCNT counts (log 181). -/
theorem l1Exit_completes {s : State} {n : Nat} (hps : s.mach.hw.fget F.FP_PMSTAT_TXPS n = 2) :
    Completes (.l1Exit n true) s (fun m =>
      m.hw.fget F.FP_PMSTAT_TXPS n = 0 ∧ m.hw.fget F.FP_PMSTAT_RXPS n = 0 ∧
      m.hw.fget F.FP_TRNCNT_VAL n = min (s.mach.hw.fget F.FP_TRNCNT_VAL n + 1) (2 ^ 32 - 1) ∧
      OnlyFields [(F.FP_TRNCNT_VAL, n), (F.FP_PMSTAT_TXPS, n), (F.FP_PMSTAT_RXPS, n)] s.mach m) := by
  refine completes_hw (show exec (.l1Exit n true) s = execL1Exit n true s from rfl) (if_pos ⟨hps, .inl rfl⟩) ⟨?_, ?_, ?_, ?_⟩
  · rw [Hw.fget_fadd_of_id _ (by decide), Hw.fget_fset_of_id _ (by decide), Hw.fget_fset_same]
    rfl
  · rw [Hw.fget_fadd_of_id _ (by decide), Hw.fget_fset_same]
    rfl
  · rw [Hw.fget_fadd_same, Hw.fget_fset_of_id _ (by decide), Hw.fget_fset_of_id _ (by decide)]
    rfl
  · exact (((OnlyFields.refl _ s.mach).fset (by simp) 0).fset (by simp) 0).fadd (by simp) 1

/-! ### IDE streams (R391 to R395) -/

/-- The table of IDE streams replaced. -/
def Hw.withIde (h : Hw) (x : SMap IdeStream) : Hw := { h with fp := { h.fp with ide := x } }

/-- The first stream of a module is keyed. -/
theorem ideKey_completes {s : State} {n sid : Nat} {use : KeyUse} {go : Bool} (hide : s.mach.hw.fp.ide = [])
    (hkeys : keysFrom s.mach.hw n use.turret = true) :
    Completes (.ideKmKeyProgram n sid use go) s (fun m =>
      m.hw.fp.ide = [(n * 256 + sid, ⟨use.kind, s.mach.hw.flag F.FP_PCFG_CMODE n, 1, go, false⟩)] ∧ m.hw.out = s.mach.hw.out ∧
      m.hw.sw = s.mach.hw.sw ∧ m.mem = s.mach.mem) := by
  have hbound := boundOnly_boundAll
    (s.mach.hw.withIde [(n * 256 + sid, ⟨use.kind, s.mach.hw.flag F.FP_PCFG_CMODE n, 1, go, false⟩)])
  refine completes_hw (show exec (.ideKmKeyProgram n sid use go) s = execIdeKmKeyProgram n sid use go s from rfl) ?_
    ⟨congrArg FpState.ide hbound.fp, hbound.out, hbound.sw, rfl⟩
  have hroom : 0 < (if use.kind = 1 then 8 else 1) := by
    split <;> decide
  rw [hkeys, hide]
  exact (if_neg Bool.false_ne_true).trans (if_pos hroom)

theorem insideRids_of_noMessages {h : Hw} (hnone : h.noMessages) (n : Nat) (p : Msg → Bool) : insideRids h n p = [] := by
  obtain ⟨hvoq, heqs, htx, -, hpq, hwait, hmiss⟩ := hnone
  simp [insideRids, hvoq, heqs, htx, hpq, hwait, hmiss]

theorem Hw.fp_raise (h : Hw) (f : FaultSrc) : (h.raise f).fp = h.fp := by
  obtain ⟨_, _, hr, -⟩ := Hw.raise_frame h f
  rw [hr]

theorem Hw.sw_raise (h : Hw) (f : FaultSrc) : (h.raise f).sw = h.sw := by
  obtain ⟨_, _, hr, -⟩ := Hw.raise_frame h f
  rw [hr]

/-- R395: the report of a stream's integrity failure. -/
def ideFailMsg (n sid : Nat) : FaultSrc := { code := 0x2405, dom := domPort, dinst := n, addr := sid, unit := n, atype := 6 }

/-- A stream that has failed is Insecure, and the failure is counted. -/
def ideFailed (n sid : Nat) (x : IdeStream) (h : Hw) : Hw :=
  (h.withIde (Store.put h.fp.ide (n * 256 + sid) { x with secure := false, failed := true })).fadd F.FP_IDEFAIL_VAL n 1

theorem ideFailure_completes {s : State} {n sid : Nat} {x : IdeStream} (hn : n < 72)
    (hx : Store.get? s.mach.hw.fp.ide (n * 256 + sid) = some x) (hnone : s.mach.hw.noMessages) (hroom : (s.mach.hw.queue 4).length < 8) :
    Completes (.ideIntegrityFailure n sid) s (fun m =>
      Store.get? m.hw.fp.ide (n * 256 + sid) = some { x with secure := false, failed := true } ∧
      m.hw.fget F.FP_IDEFAIL_VAL n = min (s.mach.hw.fget F.FP_IDEFAIL_VAL n + 1) (2 ^ 32 - 1) ∧ Gained 4 0x2405 1 n s.mach m ∧
      m.hw.sw = s.mach.hw.sw ∧ m.mem = s.mach.mem) := by
  have hqueue : bits (ideFailMsg n sid).code 8 4 = 4 := (by decide : bits 0x2405 8 4 = 4)
  have hbound := boundOnly_boundAll ((ideFailed n sid x s.mach.hw).raise (ideFailMsg n sid))
  have hregs : ((ideFailed n sid x s.mach.hw).raise (ideFailMsg n sid)).regs = (ideFailed n sid x s.mach.hw).regs :=
    Hw.regs_raise hqueue hroom
  refine completes_hw (show exec (.ideIntegrityFailure n sid) s = execIdeIntegrityFailure n sid s from rfl)
    (h := boundAll ((ideFailed n sid x s.mach.hw).raise (ideFailMsg n sid))) ?_ ⟨?_, ?_, ?_, ?_, rfl⟩
  · simp only [hx, insideRids_of_noMessages hnone, List.foldl_nil]
    rfl
  · rw [hbound.fp, Hw.fp_raise]
    exact Store.get?_put_same _ _ _
  · rw [hbound.fget hn, Hw.fget_congr hregs, ideFailed, Hw.fget_fadd_same]
    rfl
  · exact gained_raise (f := ideFailMsg n sid) (h := ideFailed n sid x s.mach.hw) hqueue hroom rfl hbound.fc
  · rw [hbound.sw, Hw.sw_raise]
    rfl

/-! ### Port control (R380, R381, R404) -/

theorem unstay_stay (n : Nat) (h : Hw) : (unstay n h).fp.stay = Store.del h.fp.stay n := rfl

/-- The state in which RETRAIN has put a link that is up: its entry into Recovery is the one that FP_TRNCNT has counted. -/
def inRecovery (n : Nat) (h : Hw) : Hw :=
  if h.flag F.FP_LSTAT_UP n ∧ !h.fp.recov.contains n then { h with fp := { h.fp with recov := h.fp.recov ++ [n] } } else h

theorem inRecovery_regs (n : Nat) (h : Hw) : (inRecovery n h).regs = h.regs := by
  unfold inRecovery
  split <;> rfl

theorem inRecovery_stay (n : Nat) (h : Hw) : (inRecovery n h).fp.stay = h.fp.stay := by
  unfold inRecovery
  split <;> rfl

/-- RETRAIN counts, and a port that does not stay down for RATE trains again. -/
theorem pctrlRetrain_eq {n : Nat} {h : Hw} (hstay : Store.get? h.fp.stay n ≠ some 7) :
    pctrlRetrain n h = unstay n (inRecovery n (h.fadd F.FP_TRNCNT_VAL n 1)) := by
  have hup : (h.fadd F.FP_TRNCNT_VAL n 1).flag F.FP_LSTAT_UP n = h.flag F.FP_LSTAT_UP n := h.flag_fset_of_id (by decide) n _
  have hsame : pctrlRetrain n h = trainAgain n (inRecovery n (h.fadd F.FP_TRNCNT_VAL n 1)) := by
    rw [inRecovery, hup]
    rfl
  rw [hsame, trainAgain, if_neg]
  rw [inRecovery_stay]
  exact hstay

theorem retrain_completes {s : State} {p : Path} {n : Nat} (hstay : Store.get? s.mach.hw.fp.stay n ≠ some 7) :
    Completes (.fpPctrlRetrain p n) s (fun m =>
      m.hw.fget F.FP_TRNCNT_VAL n = min (s.mach.hw.fget F.FP_TRNCNT_VAL n + 1) (2 ^ 32 - 1) ∧
      m.hw.fp.stay = Store.del s.mach.hw.fp.stay n ∧ FieldsKept [(F.FP_TRNCNT_VAL, n)] s.mach m ∧ m.mem = s.mach.mem) := by
  refine completes_hw (show exec (.fpPctrlRetrain p n) s = execFpPctrlRetrain p n s from rfl) (pctrlRetrain_eq hstay) ⟨?_, ?_, ?_, rfl⟩
  · exact (Hw.fget_congr (inRecovery_regs n _) _ _).trans (Hw.fget_fadd_same _ _ _ _)
  · rw [unstay_stay, inRecovery_stay]
    rfl
  · exact ((FieldsKept.refl _ s.mach).fadd List.mem_cons_self 1).congr (inRecovery_regs n _)

/-- R380: what the return of FBRATE to MAXRATE leaves of a port: its rate, no failed equalisation, and whether it still stays down. -/
theorem restoreRate_eq (n : Nat) (h : Hw) : ∃ st, restoreRate n h = { h.fset F.FP_LSTAT_FBRATE n (h.fget F.FP_PCFG_MAXRATE n) with
    fp := { h.fp with eqFails := Store.del h.fp.eqFails n, stay := st } } ∧ (st = h.fp.stay ∨ st = Store.del h.fp.stay n) := by
  unfold restoreRate
  dsimp only
  split
  · exact ⟨_, rfl, .inr rfl⟩
  · exact ⟨_, rfl, .inl rfl⟩

theorem resetfb_completes {s : State} {p : Path} {n : Nat} (hmax : s.mach.hw.fget F.FP_PCFG_MAXRATE n ≤ 5) :
    Completes (.fpPctrlResetfb p n) s (fun m =>
      m.hw.fget F.FP_LSTAT_FBRATE n = s.mach.hw.fget F.FP_PCFG_MAXRATE n ∧ Store.get? m.hw.fp.eqFails n = none ∧
      FieldsKept [(F.FP_LSTAT_FBRATE, n)] s.mach m ∧ m.mem = s.mach.mem) := by
  obtain ⟨st, hrate, -⟩ := restoreRate_eq n s.mach.hw
  refine completes_hw (show exec (.fpPctrlResetfb p n) s = execFpPctrlResetfb p n s from rfl) hrate
    ⟨?_, Store.get?_del_same _ _, ?_, rfl⟩
  · exact Hw.fget_fset_of_lt s.mach.hw (Nat.lt_of_le_of_lt hmax (by decide)) n
  · exact ((FieldsKept.refl _ s.mach).fset List.mem_cons_self _).congr rfl

theorem takeDown_of_down {n : Nat} {h : Hw} (hup : h.flag F.FP_LSTAT_UP n = false) (why : Nat) : takeDown n why h = h :=
  if_neg (by rw [hup]; exact Bool.false_ne_true)

/-- A port whose link is down already is disabled with reason LOCAL. -/
theorem disable_completes {s : State} {p : Path} {n : Nat} (hr : s.mach.hw.noResets) (hup : s.mach.hw.flag F.FP_LSTAT_UP n = false)
    (hoff : s.mach.hw.flag F.FP_PCTRL_DISABLE n = false) :
    Completes (.fpPctrlDisable p n true) s (fun m =>
      m.hw.flag F.FP_PCTRL_DISABLE n = true ∧ m.hw.fget F.FP_LSTAT_DOWNWHY n = 9 ∧
      OnlyFields [(F.FP_PCTRL_DISABLE, n), (F.FP_LSTAT_DOWNWHY, n)] s.mach m) := by
  have hdown : (s.mach.hw.fset F.FP_PCTRL_DISABLE n 1).flag F.FP_LSTAT_UP n = false := by
    rw [Hw.flag_fset_of_id _ (by decide), hup]
  have heff : pctrlDisable n true s.mach.hw = (s.mach.hw.fset F.FP_PCTRL_DISABLE n 1).fset F.FP_LSTAT_DOWNWHY n 9 := by
    rw [pctrlDisable, hoff, show b2n true = 1 from rfl, takeDown_of_down hdown]
    exact if_pos ⟨rfl, rfl⟩
  refine completes_hw (show exec (.fpPctrlDisable p n true) s = execFpPctrlDisable p n true s from rfl)
    ((settleResets_of_doms hr (by rw [heff]; rfl)).trans heff) ⟨?_, Hw.fget_fset_same _ _ _ _, ?_⟩
  · rw [Hw.flag_fset_of_id _ (by decide), Hw.flag_fset_same _ rfl]
    rfl
  · exact ((OnlyFields.refl _ s.mach).fset (by simp) 1).fset (by simp) 9

theorem enable_completes {s : State} (p : Path) (n : Nat) (hr : s.mach.hw.noResets) :
    Completes (.fpPctrlDisable p n false) s (fun m =>
      m.hw.flag F.FP_PCTRL_DISABLE n = false ∧ OnlyFields [(F.FP_PCTRL_DISABLE, n)] s.mach m) := by
  have heff : pctrlDisable n false s.mach.hw = s.mach.hw.fset F.FP_PCTRL_DISABLE n (b2n false) := by
    rw [pctrlDisable]
    exact if_neg (fun hset => Bool.false_ne_true hset.1)
  exact completes_flag (show exec (.fpPctrlDisable p n false) s = execFpPctrlDisable p n false s from rfl)
    ((settleResets_of_doms hr (by rw [heff]; rfl)).trans heff) rfl

theorem testmode_completes {s : State} {p : Path} {n : Nat} (hr : s.mach.hw.noResets) (hup : s.mach.hw.flag F.FP_LSTAT_UP n = false)
    (hoff : s.mach.hw.flag F.FP_PCTRL_TESTMODE n = false) :
    Completes (.fpPctrlTestmode p n true) s (fun m =>
      m.hw.flag F.FP_PCTRL_TESTMODE n = true ∧ OnlyFields [(F.FP_PCTRL_TESTMODE, n)] s.mach m) := by
  have hdown : (s.mach.hw.fset F.FP_PCTRL_TESTMODE n (b2n true)).flag F.FP_LSTAT_UP n = false := by
    rw [Hw.flag_fset_of_id _ (by decide), hup]
  have heff : pctrlTest n true s.mach.hw = s.mach.hw.fset F.FP_PCTRL_TESTMODE n (b2n true) := by
    rw [pctrlTest, hoff, takeDown_of_down hdown]
    exact if_pos ⟨rfl, rfl⟩
  exact completes_flag (show exec (.fpPctrlTestmode p n true) s = execFpPctrlTestmode p n true s from rfl)
    ((settleResets_of_doms hr (by rw [heff]; rfl)).trans heff) rfl

/-! ### The lane test (R396 to R401, R408) -/

/-- The configuration of a lane under test: pattern, rate, loopback, generator and checker as the word gives them. -/
def laneConf (l w : Nat) (h : Hw) : Hw :=
  ((((h.fset F.LT_CTRL_PAT l (fldOf F.LT_CTRL_PAT w)).fset F.LT_CTRL_RATE l (fldOf F.LT_CTRL_RATE w)).fset
    F.LT_CTRL_LOOP l (fldOf F.LT_CTRL_LOOP w)).fset F.LT_CTRL_GENEN l (fldOf F.LT_CTRL_GENEN w)).fset
    F.LT_CTRL_CHKEN l (fldOf F.LT_CTRL_CHKEN w)

/-- The test that starts on a lane configured by word `w`, with its checker off. -/
def laneStarted (l w : Nat) (h : Hw) : Hw := (startLane l ((laneConf l w h).fset F.LT_CTRL_EN l 1)).fset F.LT_STAT_LOCK l 0

/-- A word that starts a lane's test: EN set, CHKEN clear, and no reserved pattern, rate or loopback. -/
structure StartsTest (w : Nat) : Prop where
  en : fldOf F.LT_CTRL_EN w = 1
  chk : fldOf F.LT_CTRL_CHKEN w = 0
  pat : fldOf F.LT_CTRL_PAT w < 6
  rate : fldOf F.LT_CTRL_RATE w < 6
  loop : fldOf F.LT_CTRL_LOOP w < 3

/-- A one-bit field of a word is its bit. -/
theorem fldOf_bit {f : Fld} (hf : f.width = 1) (w : Nat) : fldOf f w = b2n (bitAt w f.lo) := by
  rw [fldOf, bits, hf, bitAt, b2n]
  split <;> rename_i h <;> rw [beq_iff_eq] at h <;> omega

/-- A port begins at no higher crossbar port than those it owns. -/
theorem xpOwner_le {h : Hw} {xp : Nat} (hxp : xp < 72) : xpOwner h xp ≤ xp := by
  rw [xpOwner, if_pos hxp]
  cases hfind : (List.range 8).findSome? (fun d => if d ≤ xp ∧ d < h.portWidth (xp - d) / 2 then some (xp - d) else none) with
  | none => exact Nat.le_refl xp
  | some v =>
    obtain ⟨d, -, hd⟩ := List.exists_of_findSome?_eq_some hfind
    obtain ⟨-, hv⟩ := Option.ite_none_right_eq_some.mp hd
    exact Nat.le_trans (Nat.le_of_eq (Option.some.inj hv).symm) (Nat.sub_le xp d)

/-- A lane is testable by its octet's mode and its port's TESTMODE, which its own configuration does not change. -/
theorem laneTestable_laneConf (h : Hw) {l : Nat} (w : Nat) (hl : l < 144) : laneTestable (laneConf l w h) l = laneTestable h l := by
  have hport : xpOwner h (l / 2) < 65536 := Nat.lt_of_le_of_lt (xpOwner_le (by omega)) (by omega)
  have hkey : ∀ f ∈ [F.LT_CTRL_PAT, F.LT_CTRL_RATE, F.LT_CTRL_LOOP, F.LT_CTRL_GENEN, F.LT_CTRL_CHKEN],
      fkey f l ≠ fkey F.FP_PCTRL_TESTMODE (xpOwner h (l / 2)) := fun f hf =>
    fkey_ne ((by decide : ∀ f ∈ [F.LT_CTRL_PAT, F.LT_CTRL_RATE, F.LT_CTRL_LOOP, F.LT_CTRL_GENEN, F.LT_CTRL_CHKEN],
      f.id ≠ F.FP_PCTRL_TESTMODE.id) f hf) (by omega) hport
  have htest : (laneConf l w h).flag F.FP_PCTRL_TESTMODE (xpOwner h (l / 2)) = h.flag F.FP_PCTRL_TESTMODE (xpOwner h (l / 2)) := by
    rw [Hw.flag, laneConf, Hw.fget_fset_ne _ _ (hkey _ (by simp)), Hw.fget_fset_ne _ _ (hkey _ (by simp)),
      Hw.fget_fset_ne _ _ (hkey _ (by simp)), Hw.fget_fset_ne _ _ (hkey _ (by simp)), Hw.fget_fset_ne _ _ (hkey _ (by simp)), Hw.flag]
  rw [laneTestable, laneTestable, ← htest]
  rfl

/-- The fields that a word written to a lane that is not under test replaces: a reserved encoding keeps its field (R17). -/
def laneFields (l w : Nat) (h : Hw) : Hw :=
  [F.LT_CTRL_PAT, F.LT_CTRL_RATE, F.LT_CTRL_LOOP, F.LT_CTRL_GENEN, F.LT_CTRL_CHKEN].foldl (fun h f =>
    if f.id == F.LT_CTRL_PAT.id && decide (6 ≤ fldOf f w) || f.id == F.LT_CTRL_RATE.id && decide (6 ≤ fldOf f w) ||
      f.id == F.LT_CTRL_LOOP.id && fldOf f w == 3 then h else h.fset f l (fldOf f w)) h

/-- EN of a lane that is not under test: taken where the lane may be tested and no encoding is reserved. -/
def laneEnable (l w : Nat) (h : Hw) : Hw :=
  if fldOf F.LT_CTRL_EN w = 0 then h
  else if laneTestable h l ∧ fldOf F.LT_CTRL_PAT w < 6 ∧ fldOf F.LT_CTRL_RATE w < 6 ∧ fldOf F.LT_CTRL_LOOP w < 3 then
    h.fset F.LT_CTRL_EN l 1
  else h.fset F.LT_STAT_CFGERR l 1

/-- A checker that does not run holds no lock. -/
def laneUnlock (l : Nat) (h : Hw) : Hw :=
  if h.flag F.LT_CTRL_EN l && h.flag F.LT_CTRL_CHKEN l then h else h.fset F.LT_STAT_LOCK l 0

/-- A write of LT_CTRL with CHKEN clear, on a lane that is not under test. -/
theorem ltCtrl_of_off {h : Hw} {l w : Nat} (hoff : h.flag F.LT_CTRL_EN l = false) (hchk : fldOf F.LT_CTRL_CHKEN w = 0) :
    ltCtrl l w h = laneUnlock l (let x := laneEnable l w (laneFields l w h)
      if x.flag F.LT_CTRL_EN l then startLane l x else x) := by
  have hrise : ¬(fldOf F.LT_CTRL_CHKEN w = 1 ∧ h.fget F.LT_CTRL_CHKEN l = 0) := fun hc => by
    rw [hchk] at hc
    exact absurd hc.1 (by decide)
  simp only [ltCtrl, hoff, if_neg hrise, if_neg Bool.false_ne_true, Bool.not_false, and_true]
  rfl

theorem laneFields_eq {l w : Nat} {h : Hw} (hw : StartsTest w) : laneFields l w h = laneConf l w h := by
  have hpat : decide (6 ≤ fldOf F.LT_CTRL_PAT w) = false := decide_eq_false (Nat.not_le.mpr hw.pat)
  have hrate : decide (6 ≤ fldOf F.LT_CTRL_RATE w) = false := decide_eq_false (Nat.not_le.mpr hw.rate)
  have hloop : (fldOf F.LT_CTRL_LOOP w == 3) = false := beq_eq_false_iff_ne.mpr (Nat.ne_of_lt hw.loop)
  simp only [laneFields, List.foldl_cons, List.foldl_nil, hpat, hrate, hloop, Bool.and_false, Bool.or_false]
  rfl

/-- R396, R408: a word without a reserved encoding configures a lane that is not under test, and its test starts. -/
theorem ltCtrl_starts {h : Hw} {l w : Nat} (hl : l < 144) (hw : StartsTest w) (hoff : h.flag F.LT_CTRL_EN l = false)
    (htest : laneTestable h l = true) : ltCtrl l w h = laneStarted l w h := by
  have hready : laneTestable (laneConf l w h) l = true := (laneTestable_laneConf h w hl).trans htest
  have henable : laneEnable l w (laneConf l w h) = (laneConf l w h).fset F.LT_CTRL_EN l 1 := by
    rw [laneEnable, if_neg (by rw [hw.en]; decide), if_pos ⟨hready, hw.pat, hw.rate, hw.loop⟩]
  have hon : ((laneConf l w h).fset F.LT_CTRL_EN l 1).flag F.LT_CTRL_EN l = true := Hw.flag_fset_same _ rfl _ _
  have hnochk : (startLane l ((laneConf l w h).fset F.LT_CTRL_EN l 1)).flag F.LT_CTRL_CHKEN l = false := by
    change ((laneConf l w h).fset F.LT_CTRL_EN l 1).flag F.LT_CTRL_CHKEN l = false
    rw [Hw.flag_fset_of_id _ (by decide), laneConf, Hw.flag_fset_same _ rfl, hw.chk]
    rfl
  rw [ltCtrl_of_off hoff hw.chk, laneFields_eq hw, henable]
  dsimp only
  rw [hon, if_pos rfl, laneUnlock, hnochk, Bool.and_false, if_neg Bool.false_ne_true, laneStarted]

/-- A started lane's fields read from its configuration. -/
theorem fget_laneStarted (h : Hw) (l w : Nat) {g : Fld} (hg : F.LT_STAT_LOCK.id ≠ g.id) :
    (laneStarted l w h).fget g l = ((laneConf l w h).fset F.LT_CTRL_EN l 1).fget g l := by
  rw [laneStarted, Hw.fget_fset_of_id _ hg]
  exact Hw.fget_congr rfl _ _

theorem fget_laneStarted_conf (h : Hw) (l w : Nat) :
    (laneStarted l w h).fget F.LT_CTRL_PAT l = fldOf F.LT_CTRL_PAT w ∧ (laneStarted l w h).fget F.LT_CTRL_RATE l = fldOf F.LT_CTRL_RATE w ∧
    (laneStarted l w h).fget F.LT_CTRL_LOOP l = fldOf F.LT_CTRL_LOOP w ∧
    (laneStarted l w h).fget F.LT_CTRL_GENEN l = fldOf F.LT_CTRL_GENEN w ∧
    (laneStarted l w h).fget F.LT_CTRL_CHKEN l = fldOf F.LT_CTRL_CHKEN w := by
  have hmod : ∀ f : Fld, fldOf f w % 2 ^ f.width = fldOf f w := fun f => Nat.mod_eq_of_lt (bits_lt _ _ _)
  simp (disch := decide) only [fget_laneStarted, laneConf, Hw.fget_fset_of_id, Hw.fget_fset_same, hmod, and_self]

theorem fieldsKept_laneStarted (m : Mach) (l w : Nat) :
    FieldsKept [(F.LT_CTRL_EN, l), (F.LT_CTRL_PAT, l), (F.LT_CTRL_RATE, l), (F.LT_CTRL_LOOP, l), (F.LT_CTRL_GENEN, l),
      (F.LT_CTRL_CHKEN, l), (F.LT_STAT_LOCK, l)] m { m with hw := laneStarted l w m.hw } := by
  intro g j hk
  simp only [List.forall_mem_cons] at hk
  obtain ⟨hen, hpat, hrate, hloop, hgen, hchk, hlock, -⟩ := hk
  have hregs : (laneStarted l w m.hw).regs = (((laneConf l w m.hw).fset F.LT_CTRL_EN l 1).fset F.LT_STAT_LOCK l 0).regs := rfl
  change (laneStarted l w m.hw).fget g j = m.hw.fget g j
  rw [Hw.fget_congr hregs, Hw.fget_fset_ne _ _ hlock, Hw.fget_fset_ne _ _ hen, laneConf, Hw.fget_fset_ne _ _ hchk,
    Hw.fget_fset_ne _ _ hgen, Hw.fget_fset_ne _ _ hloop, Hw.fget_fset_ne _ _ hrate, Hw.fget_fset_ne _ _ hpat]

theorem ltCtrlWrite_completes {s : State} {p : Path} {l : Nat} {data : Word} (hl : l < 144)
    (hoff : s.mach.hw.flag F.LT_CTRL_EN l = false) (htest : laneTestable s.mach.hw l = true) (hen : bitAt data.toNat 0 = true)
    (hchk : bitAt data.toNat 10 = false) (hpat : bits data.toNat 1 3 < 6) (hrate : bits data.toNat 4 3 < 6)
    (hloop : bits data.toNat 7 2 < 3) :
    Completes (.ltCtrlWrite p l data) s (fun m =>
      m.hw.flag F.LT_CTRL_EN l = true ∧ m.hw.fget F.LT_CTRL_PAT l = bits data.toNat 1 3 ∧
      m.hw.fget F.LT_CTRL_RATE l = bits data.toNat 4 3 ∧ m.hw.fget F.LT_CTRL_LOOP l = bits data.toNat 7 2 ∧
      m.hw.fget F.LT_CTRL_GENEN l = bits data.toNat 9 1 ∧ m.hw.flag F.LT_CTRL_CHKEN l = false ∧
      Store.get? m.hw.fp.gen l = none ∧ Store.get? m.hw.fp.injPos l = none ∧ m.hw.out = s.mach.hw.out ∧ m.mem = s.mach.mem ∧
      FieldsKept [(F.LT_CTRL_EN, l), (F.LT_CTRL_PAT, l), (F.LT_CTRL_RATE, l), (F.LT_CTRL_LOOP, l), (F.LT_CTRL_GENEN, l),
        (F.LT_CTRL_CHKEN, l), (F.LT_STAT_LOCK, l)] s.mach m) := by
  have hw : StartsTest data.toNat := ⟨(fldOf_bit rfl _).trans (congrArg b2n hen), (fldOf_bit rfl _).trans (congrArg b2n hchk), hpat, hrate, hloop⟩
  obtain ⟨hp, hr, ho, hg, hc⟩ := fget_laneStarted_conf s.mach.hw l data.toNat
  refine completes_hw (show exec (.ltCtrlWrite p l data) s = execLtCtrlWrite p l data s from rfl) (ltCtrl_starts hl hw hoff htest)
    ⟨?_, hp, hr, ho, hg, ?_, Store.get?_del_same _ _, Store.get?_del_same _ _, rfl, rfl, fieldsKept_laneStarted s.mach l _⟩
  · change (laneStarted l data.toNat s.mach.hw).flag F.LT_CTRL_EN l = true
    rw [Hw.flag, fget_laneStarted _ _ _ (by decide), Hw.fget_fset_same]
    rfl
  · change (laneStarted l data.toNat s.mach.hw).flag F.LT_CTRL_CHKEN l = false
    rw [Hw.flag, hc, hw.chk]
    rfl

/-- A write of LT_INJ stores EXP; ONE is no stored field. -/
theorem writeReg_LT_INJ {l w : Nat} (hexp : bits w 8 5 ≤ 26) (h : Hw) :
    writeReg R.LT_INJ l w h = h.fset F.LT_INJ_EXP l (bits w 8 5) := by
  have hok : fieldOk F.LT_INJ_EXP l (bits w 8 5) = true := by
    simp [fieldOk, F.LT_INJ_EXP, F.DD_TTSLEN_VAL, F.FC_DCFG_REACT2, F.FC_DCFG_REACT3, F.FC_DCFG_REACT4]
    omega
  exact if_pos hok

/-- R400: a single-bit injection asked for in the next 32-bit word; one that is to come already stays. -/
def injectOne (l : Nat) (h : Hw) : Hw :=
  if (Store.get? h.fp.injOne l).isNone then
    { h with fp := { h.fp with injOne := Store.put h.fp.injOne l ((32 - Store.getD 0 h.fp.bitPos l) % 32) } }
  else h

theorem injectOne_regs (l : Nat) (h : Hw) : (injectOne l h).regs = h.regs := by
  unfold injectOne
  split <;> rfl

/-- A new EXP starts a new count of bits (R400). -/
def expWritten (l e : Nat) (h : Hw) : Hw :=
  let h1 := h.fset F.LT_INJ_EXP l e
  if h1.fget F.LT_INJ_EXP l = h.fget F.LT_INJ_EXP l then h1 else { h1 with fp := { h1.fp with injPos := Store.del h1.fp.injPos l } }

theorem expWritten_eq (l e : Nat) (h : Hw) : ∃ q, expWritten l e h = { h.fset F.LT_INJ_EXP l e with fp := { h.fp with injPos := q } } := by
  unfold expWritten
  dsimp only
  split
  · exact ⟨_, rfl⟩
  · exact ⟨_, rfl⟩

theorem ltInj_eq {l w : Nat} (hexp : bits w 8 5 ≤ 26) (hone : bitAt w 0 = true) (h : Hw) :
    ltInj l w h = injectOne l (expWritten l (bits w 8 5) h) := by
  have hask : fldOf F.LT_INJ_ONE w = 1 := (fldOf_bit rfl w).trans (congrArg b2n hone)
  simp only [ltInj, writeReg_LT_INJ hexp, hask, true_and]
  rfl

theorem ltInjOne_completes {s : State} {p : Path} {l : Nat} {data : Word} (hone : bitAt data.toNat 0 = true)
    (hexp : bits data.toNat 8 5 ≤ 26) :
    Completes (.ltInjOne p l data) s (fun m =>
      m.hw.fget F.LT_INJ_EXP l = bits data.toNat 8 5 ∧
      (Store.get? s.mach.hw.fp.injOne l = none →
        m.hw.fp.injOne = Store.put s.mach.hw.fp.injOne l ((32 - Store.getD 0 s.mach.hw.fp.bitPos l) % 32)) ∧
      FieldsKept [(F.LT_INJ_EXP, l)] s.mach m ∧ m.mem = s.mach.mem) := by
  obtain ⟨q, hq⟩ := expWritten_eq l (bits data.toNat 8 5) s.mach.hw
  refine completes_hw (show exec (.ltInjOne p l data) s = execLtInjOne p l data s from rfl) ((ltInj_eq hexp hone _).trans (congrArg _ hq))
    ⟨?_, fun hnone => ?_, ?_, rfl⟩
  · exact (Hw.fget_congr (injectOne_regs l _) _ _).trans (Hw.fget_fset_of_lt s.mach.hw (bits_lt _ _ _) l)
  · exact congrArg (fun x : Hw => x.fp.injOne) (if_pos (by rw [hnone]; rfl))
  · exact ((FieldsKept.refl _ s.mach).fset List.mem_cons_self _).congr (injectOne_regs l _)

theorem checkerLock_completes {s : State} {l b : Nat} (hen : s.mach.hw.flag F.LT_CTRL_EN l = true)
    (hchk : s.mach.hw.flag F.LT_CTRL_CHKEN l = true) (hfed : checkerFed s.mach.hw l = true) (hlocks : locksOn s.mach.hw l b = true) :
    Completes (.checkerLock ⟨l, b⟩) s (fun m =>
      m.hw.flag F.LT_STAT_LOCK l = true ∧ OnlyFields [(F.LT_STAT_LOCK, l)] s.mach m) :=
  completes_flag (show exec (.checkerLock ⟨l, b⟩) s = execCheckerLock ⟨l, b⟩ s from rfl)
    (if_pos (by rw [hen, hchk, hfed, hlocks]; rfl)) rfl

theorem checkerLoseLock_completes {s : State} {l b : Nat} (hlock : s.mach.hw.flag F.LT_STAT_LOCK l = true)
    (hbad : 32 ≤ ones (b % 2 ^ 64)) :
    Completes (.checkerLoseLock ⟨l, b⟩) s (fun m =>
      m.hw.flag F.LT_STAT_LOCK l = false ∧ m.hw.flag F.LT_STAT_LOSTLOCK l = true ∧
      OnlyFields [(F.LT_STAT_LOCK, l), (F.LT_STAT_LOSTLOCK, l)] s.mach m) := by
  refine completes_hw (show exec (.checkerLoseLock ⟨l, b⟩) s = execCheckerLoseLock ⟨l, b⟩ s from rfl)
    (if_pos (by rw [hlock, decide_eq_true hbad]; rfl)) ⟨?_, Hw.flag_fset_same _ rfl _ _, ?_⟩
  · rw [Hw.flag_fset_of_id _ (by decide), Hw.flag_fset_same _ rfl]
    rfl
  · exact ((OnlyFields.refl _ s.mach).fset (by simp) 0).fset (by simp) 1

/-! ### O41 -/

/-- Settles O41: each command by its own lemma. -/
theorem portControlsComplete : Obligations.PortControlsComplete := by
  unfold Obligations.PortControlsComplete
  intro s p n l w sid b use rx aspm go data x hn hl
  exact ⟨fun hup hnone => ⟨fun hmode hen hps hown => l0sEntry_completes hup hmode hen hps hown hnone, l0pEntry_completes hup,
      l1Request_accepted hup hnone, l1Request_rejected hup⟩,
    l0sExit_completes, l0pExit_completes s n, l1Exit_completes, ideKey_completes, ideFailure_completes hn, retrain_completes,
    resetfb_completes, fun hr hup => ⟨disable_completes hr hup, testmode_completes hr hup⟩, enable_completes p n, ltCtrlWrite_completes hl,
    ltInjOne_completes, checkerLock_completes, checkerLoseLock_completes⟩

end Sys2Proof.Machine

namespace Sys2Proof.Machine

/-! ### A host port's link goes down (R381 to R383) -/

theorem Hw.noMessages.congr {a b : Hw} (ha : a.noMessages) (hsw : b.sw = a.sw) (hts : b.ts = a.ts) (hbd : b.bd = a.bd) : b.noMessages := by
  rw [Hw.noMessages, hsw, hts, hbd]
  exact ha

theorem badOpen_of_noMessages {h : Hw} (hnone : h.noMessages) (n : Nat) : badOpen n h = h := by
  rw [badOpen, insideRids_of_noMessages hnone, List.foldl_nil]

theorem cutTx_of_noMessages {h : Hw} (hnone : h.noMessages) (n : Nat) : cutTx n h = h := by
  obtain ⟨-, -, htx, -⟩ := hnone
  rw [cutTx, htx]
  rfl

/-- The role with which a port's link had trained is forgotten. -/
def dropRole (n : Nat) (h : Hw) : Hw := { h with fp := { h.fp with roleUp := Store.del h.fp.roleUp n } }

theorem fget_dropRole (n : Nat) (h : Hw) (f : Fld) (i : Nat) : (dropRole n h).fget f i = h.fget f i := rfl

/-- The status of a link that is down, and the rate of its queue set. -/
def linkZeroed (n : Nat) (h : Hw) : Hw :=
  (dropRole n ([F.FP_LSTAT_UP, F.FP_LSTAT_RATE, F.FP_LSTAT_WIDTH, F.FP_LSTAT_MODE, F.FP_LSTAT_CXL, F.FP_PMSTAT_TXPS,
    F.FP_PMSTAT_RXPS, F.FP_PMSTAT_L0PW].foldl (fun h f => h.fset f n 0) h)).fset F.TS_PORTRATE_VAL n 0

theorem boundOnly_clearLink {n : Nat} (hn : n < 72) (h : Hw) : BoundOnly (linkZeroed n h) (clearLink n h) :=
  boundOnly_boundSet (linkZeroed n h) (by omega)

/-- A link lost for reason `why`: its status, the reason and the count. -/
def linkLost (n why : Nat) (h : Hw) : Hw := ((clearLink n h).fset F.FP_LSTAT_DOWNWHY n why).fadd F.FP_DOWNCNT_VAL n 1

/-- The report of a link's loss (R382). -/
def linkMsg (n why : Nat) : FaultSrc :=
  { code := if unexpected why then 0x2402 else 0x0403, dom := domPort, dinst := n, addr := why, unit := n, atype := 6 }

theorem linkMsg_queue (n why : Nat) : bits (linkMsg n why).code 8 4 = 4 := by
  change bits (if unexpected why then 0x2402 else 0x0403) 8 4 = 4
  split <;> rfl

theorem fget_linkLost_off {n : Nat} (hn : n < 72) (why : Nat) (h : Hw) : (linkLost n why h).fget F.FP_LSTAT_UP n = 0 ∧
    (linkLost n why h).fget F.FP_LSTAT_RATE n = 0 ∧ (linkLost n why h).fget F.FP_LSTAT_WIDTH n = 0 := by
  have hb : ∀ {g : Fld}, F.FP_LSTAT_DOWNWHY.id ≠ g.id → F.FP_DOWNCNT_VAL.id ≠ g.id → F.TS_PORTSTAT_DMAX.id ≠ g.id →
      F.TS_PORTSTAT_BOUNDOK.id ≠ g.id → (linkLost n why h).fget g n = (linkZeroed n h).fget g n := fun hw hc hd hk => by
    rw [linkLost, Hw.fget_fadd_of_id _ hc, Hw.fget_fset_of_id _ hw, (boundOnly_clearLink hn h).fget hn hd hk]
  simp (disch := decide) only [hb, linkZeroed, List.foldl_cons, List.foldl_nil, Hw.fget_fset_of_id, fget_dropRole, Hw.fget_fset_same,
    Nat.zero_mod, and_self]

theorem fget_linkLost_why {n why : Nat} (hwhy : why < 16) (h : Hw) : (linkLost n why h).fget F.FP_LSTAT_DOWNWHY n = why := by
  rw [linkLost, Hw.fget_fadd_of_id _ (by decide)]
  exact Hw.fget_fset_of_lt _ hwhy n

theorem fget_linkLost_count {n : Nat} (hn : n < 72) (why : Nat) (h : Hw) :
    (linkLost n why h).fget F.FP_DOWNCNT_VAL n = min (h.fget F.FP_DOWNCNT_VAL n + 1) (2 ^ 32 - 1) := by
  have hsame : (linkZeroed n h).fget F.FP_DOWNCNT_VAL n = h.fget F.FP_DOWNCNT_VAL n := by
    simp (disch := decide) only [linkZeroed, List.foldl_cons, List.foldl_nil, Hw.fget_fset_of_id, fget_dropRole]
  rw [linkLost, Hw.fget_fadd_same, Hw.fget_fset_of_id _ (by decide), (boundOnly_clearLink hn h).fget hn, hsame]
  rfl

/-- A message raised leaves the fields of a port. -/
theorem Hw.fget_raise_port (h : Hw) (f : FaultSrc) {g : Fld} {n : Nat} (hn : n < 72) (hd : F.FC_DROP_VAL.id ≠ g.id := by decide)
    (hl : F.FC_STAT_LOSTHI.id ≠ g.id := by decide) : (h.raise f).fget g n = h.fget g n :=
  Hw.fget_raise h f (fkey_ne hd (by decide) (by omega)) (fkey_ne hl (by decide) (by omega))

theorem Hw.doms_raise (h : Hw) (f : FaultSrc) : (h.raise f).fc.doms = h.fc.doms := by
  obtain ⟨_, _, hr, hdoms, -⟩ := Hw.raise_frame h f
  rw [hr]
  exact hdoms

theorem Hw.ts_raise (h : Hw) (f : FaultSrc) : (h.raise f).ts = h.ts := by
  obtain ⟨_, _, hr, -⟩ := Hw.raise_frame h f
  rw [hr]

/-- What follows a link's loss can change only PERST_N, the count of trainings, what is sent, and how the port stays down. -/
structure AfterLoss (n : Nat) (a b : Hw) : Prop where
  fc : b.fc = a.fc
  bd : b.bd = a.bd
  grace : b.fp.grace = a.fp.grace
  octUnlocked : b.fp.octUnlocked = a.fp.octUnlocked
  fget : ∀ g : Fld, F.FP_LSTAT_PERST.id ≠ g.id → F.FP_TRNCNT_VAL.id ≠ g.id → b.fget g n = a.fget g n

theorem AfterLoss.refl (n : Nat) (a : Hw) : AfterLoss n a a := ⟨rfl, rfl, rfl, rfl, fun _ _ _ => rfl⟩

theorem AfterLoss.trans {n : Nat} {a b c : Hw} (hab : AfterLoss n a b) (hbc : AfterLoss n b c) : AfterLoss n a c :=
  ⟨hbc.fc.trans hab.fc, hbc.bd.trans hab.bd, hbc.grace.trans hab.grace, hbc.octUnlocked.trans hab.octUnlocked,
    fun g hp ht => (hbc.fget g hp ht).trans (hab.fget g hp ht)⟩

theorem afterLoss_takeDownRole (n : Nat) (h : Hw) : AfterLoss n h (takeDownRole n h) := by
  unfold takeDownRole
  split
  · exact ⟨rfl, rfl, rfl, rfl, fun g hp _ => (Hw.fget_emit _ _ _ _).trans (Hw.fget_fset_of_id h hp n 1)⟩
  · exact .refl n h

theorem afterLoss_autoTrain (n : Nat) (h : Hw) : AfterLoss n h (autoTrain n h) := by
  unfold autoTrain
  split
  · exact ⟨rfl, rfl, rfl, rfl, fun g _ ht => Hw.fget_fadd_of_id h ht n 1⟩
  · exact .refl n h

/-- The port's link is no longer in Recovery. -/
def noRecov (n : Nat) (h : Hw) : Hw := { h with fp := { h.fp with recov := h.fp.recov.filter (· != n) } }

theorem afterLoss_noRecov (n : Nat) (h : Hw) : AfterLoss n h (noRecov n h) := ⟨rfl, rfl, rfl, rfl, fun _ _ _ => rfl⟩

theorem afterLoss_linkEnd (n why role : Nat) (h : Hw) : AfterLoss n h (linkEnd n why role h) := by
  have hrole : AfterLoss n h (if role ≠ 2 then takeDownRole n h else h) := by
    split
    · exact afterLoss_takeDownRole n h
    · exact .refl n h
  unfold linkEnd
  dsimp only
  generalize (if role ≠ 2 then takeDownRole n h else h) = h5 at hrole ⊢
  refine hrole.trans ?_
  split
  · exact ⟨rfl, rfl, rfl, rfl, fun _ _ _ => rfl⟩
  · split
    · exact (afterLoss_noRecov n h5).trans (afterLoss_autoTrain n (noRecov n h5))
    · exact ⟨rfl, rfl, rfl, rfl, fun _ _ _ => rfl⟩

/-- The link of host port `n` has gone down for reason `why`. -/
structure HostLinkOff (n why : Nat) (a b : Hw) : Prop where
  up : b.flag F.FP_LSTAT_UP n = false
  rate : b.fget F.FP_LSTAT_RATE n = 0
  width : b.fget F.FP_LSTAT_WIDTH n = 0
  downwhy : b.fget F.FP_LSTAT_DOWNWHY n = why
  count : b.fget F.FP_DOWNCNT_VAL n = min (a.fget F.FP_DOWNCNT_VAL n + 1) (2 ^ 32 - 1)
  fc : b.fc = ((linkLost n why a).raise (linkMsg n why)).fc
  bd : b.bd = a.bd
  grace : a.fp.grace.contains n = false → b.fp.grace = a.fp.grace ++ [n]
  octUnlocked : b.fp.octUnlocked = a.fp.octUnlocked

theorem fc_linkLost {n : Nat} (hn : n < 72) (why : Nat) (h : Hw) : (linkLost n why h).fc = h.fc := by
  rw [linkLost, Hw.fadd_fc, Hw.fset_fc, (boundOnly_clearLink hn h).fc]
  rfl

theorem bd_linkLost (n why : Nat) (h : Hw) : (linkLost n why h).bd = h.bd := by
  rw [linkLost, Hw.fadd_bd, Hw.fset_bd, bd_clearLink]

theorem fp_linkLost {n : Nat} (hn : n < 72) (why : Nat) (h : Hw) :
    (linkLost n why h).fp = { h.fp with roleUp := Store.del h.fp.roleUp n } := by
  rw [linkLost, Hw.fadd_fp, Hw.fset_fp, (boundOnly_clearLink hn h).fp]
  rfl

theorem noMessages_linkLost {n : Nat} (hn : n < 72) (why : Nat) {h : Hw} (hnone : h.noMessages) : (linkLost n why h).noMessages := by
  refine hnone.congr ?_ ?_ (bd_linkLost n why h)
  · rw [linkLost, Hw.fadd_sw, Hw.fset_sw, (boundOnly_clearLink hn h).sw]
    rfl
  · rw [linkLost, Hw.fadd_ts, Hw.fset_ts, (boundOnly_clearLink hn h).ts]
    rfl

/-- The grace timer of a HOST port runs from the loss of its link. -/
def startGrace (n : Nat) (h : Hw) : Hw :=
  if h.fp.grace.contains n then h else { h with fp := { h.fp with grace := h.fp.grace ++ [n] } }

theorem linkQueues_host {n : Nat} {h : Hw} : linkQueues n true 1 h = startGrace n h := by
  rw [linkQueues, if_pos rfl, startGrace]
  cases h.fp.grace.contains n <;> rfl

/-- The start of the grace timer lists the port, and changes nothing else. -/
theorem startGrace_eq (n : Nat) (h : Hw) : ∃ g, startGrace n h = { h with fp := { h.fp with grace := g } } ∧
    (h.fp.grace.contains n = false → g = h.fp.grace ++ [n]) := by
  unfold startGrace
  split
  next hin => exact ⟨_, rfl, fun hout => absurd (hin.symm.trans hout) (by decide)⟩
  next => exact ⟨_, rfl, fun _ => rfl⟩

/-- What follows the report of the loss of a host port's link leaves the link off. -/
theorem hostLinkOff_of_raised {n why : Nat} {a x : Hw} (hn : n < 72) (hwhy : why < 16)
    (hx : x = (linkLost n why a).raise (linkMsg n why)) : HostLinkOff n why a (linkEnd n why 1 (startGrace n x)) := by
  obtain ⟨g, hg, hgrace⟩ := startGrace_eq n x
  have hend := afterLoss_linkEnd n why 1 (startGrace n x)
  generalize linkEnd n why 1 (startGrace n x) = b at hend ⊢
  rw [hg] at hend
  have hregs : ({ x with fp := { x.fp with grace := g } } : Hw).regs = x.regs := rfl
  have hfget : ∀ {f : Fld}, F.FP_LSTAT_PERST.id ≠ f.id → F.FP_TRNCNT_VAL.id ≠ f.id → F.FC_DROP_VAL.id ≠ f.id →
      F.FC_STAT_LOSTHI.id ≠ f.id → b.fget f n = (linkLost n why a).fget f n := fun hp ht hd hl => by
    rw [hend.fget _ hp ht, Hw.fget_congr hregs, hx, Hw.fget_raise_port _ _ hn hd hl]
  obtain ⟨hoff, hrate, hwidth⟩ := fget_linkLost_off hn why a
  have hfp : x.fp = { a.fp with roleUp := Store.del a.fp.roleUp n } := by
    rw [hx, Hw.fp_raise, fp_linkLost hn]
  rw [hfp] at hgrace
  refine ⟨?_, ?_, ?_, ?_, ?_, ?_, ?_, fun hnot => hend.grace.trans (hgrace hnot), ?_⟩
  · rw [Hw.flag, hfget (by decide) (by decide) (by decide) (by decide), hoff]
    rfl
  · rw [hfget (by decide) (by decide) (by decide) (by decide), hrate]
  · rw [hfget (by decide) (by decide) (by decide) (by decide), hwidth]
  · rw [hfget (by decide) (by decide) (by decide) (by decide), fget_linkLost_why hwhy]
  · rw [hfget (by decide) (by decide) (by decide) (by decide), fget_linkLost_count hn]
  · rw [hend.fc, ← hx]
  · rw [hend.bd, hx, Hw.bd_raise, bd_linkLost]
  · rw [hend.octUnlocked, hfp]

/-- R381 to R383: with no message inside, the loss of a host port's link is its status, the report and the grace timer. -/
theorem linkDown_host {n why : Nat} {h : Hw} (hn : n < 72) (hwhy : why < 16) (hrole : h.role n = 1)
    (hup : h.flag F.FP_LSTAT_UP n = true) (hnone : h.noMessages) : HostLinkOff n why h (linkDown n why h) := by
  have hraised : ((linkLost n why h).raise (linkMsg n why)).noMessages :=
    (noMessages_linkLost hn why hnone).congr (Hw.sw_raise _ _) (Hw.ts_raise _ _) (Hw.bd_raise _ _)
  have hsplit : linkDown n why h = linkEnd n why 1 (startGrace n ((linkLost n why h).raise (linkMsg n why))) := by
    rw [linkDown_split, hrole, hup, ← linkQueues_host]
    exact congrArg (fun x => linkEnd n why 1 (linkQueues n true 1 x))
      ((congrArg (cutTx n) (badOpen_of_noMessages hraised n)).trans (cutTx_of_noMessages hraised n))
  rw [hsplit]
  exact hostLinkOff_of_raised hn hwhy rfl

theorem doms_hostLinkOff {n why : Nat} {a b : Hw} (hn : n < 72) (hoff : HostLinkOff n why a b) : b.fc.doms = a.fc.doms := by
  rw [hoff.fc, Hw.doms_raise, fc_linkLost hn]

theorem linkDown_completes {s : State} {n why : Nat} (hn : n < 72) (hr : s.mach.hw.noResets) (hrole : s.mach.hw.role n = 1)
    (hup : s.mach.hw.flag F.FP_LSTAT_UP n = true) (hnone : s.mach.hw.noMessages) (hlo : 1 ≤ why) (hhi : why ≤ 4)
    (hgrace : s.mach.hw.fp.grace.contains n = false) (hroom : (s.mach.hw.queue 4).length < 8) :
    Completes (.linkDown n why) s (fun m =>
      (m.hw.flag F.FP_LSTAT_UP n = false ∧ m.hw.fget F.FP_LSTAT_RATE n = 0 ∧ m.hw.fget F.FP_LSTAT_WIDTH n = 0) ∧
      m.hw.fget F.FP_LSTAT_DOWNWHY n = why ∧
      m.hw.fget F.FP_DOWNCNT_VAL n = min (s.mach.hw.fget F.FP_DOWNCNT_VAL n + 1) (2 ^ 32 - 1) ∧
      Gained 4 (if why = 2 ∨ why = 4 then 0x2402 else 0x0403) 1 n s.mach m ∧ m.hw.fp.grace = s.mach.hw.fp.grace ++ [n] ∧
      m.hw.bd = s.mach.hw.bd ∧ m.mem = s.mach.mem) := by
  have hoff := linkDown_host hn (by omega : why < 16) hrole hup hnone
  have hcode : (linkMsg n why).code = if why = 2 ∨ why = 4 then 0x2402 else 0x0403 := by
    interval_cases why <;> rfl
  have hruns : (decide (1 ≤ why ∧ why ≤ 9) &&
      (s.mach.hw.flag F.FP_LSTAT_UP n || (decide (5 ≤ why ∧ why ≤ 7) && mayTrain s.mach.hw n))) = true := by
    rw [hup, Bool.true_or, Bool.and_true, decide_eq_true_eq]
    omega
  refine completes_hw (show exec (.linkDown n why) s = execLinkDown n why s from rfl)
    ((if_pos hruns).trans (settleResets_of_doms hr (doms_hostLinkOff hn hoff)))
    ⟨⟨hoff.up, hoff.rate, hoff.width⟩, hoff.downwhy, hoff.count, ?_, hoff.grace hgrace, hoff.bd, rfl⟩
  rw [← hcode]
  exact gained_raise (f := linkMsg n why) (h := linkLost n why s.mach.hw) (linkMsg_queue n why) hroom (fc_linkLost hn why _) hoff.fc

/-! ### Presence and PERST_N (R372 to R376) -/

/-- The role in effect is of the layout, the role trained, the power state and the port's configuration. -/
theorem Hw.role_congr {a b : Hw} {n : Nat} (hlay : b.fp.layout = a.fp.layout) (hup : b.fp.roleUp = a.fp.roleUp)
    (hpwr : b.fget F.CK_PWRSTAT_STATE 0 = a.fget F.CK_PWRSTAT_STATE 0) (hcfg : b.fget F.FP_PCFG_ROLE n = a.fget F.FP_PCFG_ROLE n) :
    b.role n = a.role n := by
  rw [Hw.role, Hw.portWidth, hlay, hup, hpwr, hcfg]
  rfl

/-- Presence of port `n` changed: FBRATE is MAXRATE again, no equalisation has failed, and the port no longer stays down (R380). -/
def presented (n : Nat) (present : Bool) (h : Hw) : Hw :=
  { (h.fset F.FP_LSTAT_PRSNT n (b2n present)).fset F.FP_LSTAT_FBRATE n (h.fget F.FP_PCFG_MAXRATE n) with
    fp := { h.fp with eqFails := Store.del h.fp.eqFails n, stay := Store.del h.fp.stay n } }

theorem Store.del_del {α : Type} (m : SMap α) (k : Nat) : Store.del (Store.del m k) k = Store.del m k := by
  simp [Store.del, List.filter_filter]

theorem unstay_restoreRate (n : Nat) (present : Bool) (h : Hw) :
    unstay n (restoreRate n (h.fset F.FP_LSTAT_PRSNT n (b2n present))) = presented n present h := by
  obtain ⟨st, hrate, hst⟩ := restoreRate_eq n (h.fset F.FP_LSTAT_PRSNT n (b2n present))
  have hdel : Store.del st n = Store.del h.fp.stay n := by
    rcases hst with rfl | rfl
    · rfl
    · exact Store.del_del _ _
  rw [hrate, unstay, hdel, Hw.fget_fset_of_id _ (by decide)]
  rfl

theorem presented_regs (n : Nat) (present : Bool) (h : Hw) : (presented n present h).regs =
    ((h.fset F.FP_LSTAT_PRSNT n (b2n present)).fset F.FP_LSTAT_FBRATE n (h.fget F.FP_PCFG_MAXRATE n)).regs := rfl

theorem flag_presented (n : Nat) (present : Bool) (h : Hw) : (presented n present h).flag F.FP_LSTAT_PRSNT n = present := by
  rw [Hw.flag, Hw.fget_congr (presented_regs n present h), Hw.fget_fset_of_id _ (by decide)]
  exact Hw.flag_fset_b2n h rfl n present

theorem fget_presented (n : Nat) (present : Bool) (h : Hw) {g : Fld} {j : Nat} (hp : fkey F.FP_LSTAT_PRSNT n ≠ fkey g j)
    (hf : fkey F.FP_LSTAT_FBRATE n ≠ fkey g j) : (presented n present h).fget g j = h.fget g j := by
  rw [Hw.fget_congr (presented_regs n present h), Hw.fget_fset_ne _ _ hf, Hw.fget_fset_ne _ _ hp]

theorem fget_presented_of_id {n : Nat} (present : Bool) (h : Hw) {g : Fld} (hp : F.FP_LSTAT_PRSNT.id ≠ g.id)
    (hf : F.FP_LSTAT_FBRATE.id ≠ g.id) : (presented n present h).fget g n = h.fget g n :=
  fget_presented n present h (fkey_ne_of_id hp n) (fkey_ne_of_id hf n)

theorem fget_pwr_presented {n : Nat} (hn : n < 72) (present : Bool) (h : Hw) :
    (presented n present h).fget F.CK_PWRSTAT_STATE 0 = h.fget F.CK_PWRSTAT_STATE 0 :=
  fget_presented n present h (fkey_ne (by decide) (by omega) (by decide)) (fkey_ne (by decide) (by omega) (by decide))

theorem role_presented {n : Nat} (hn : n < 72) (present : Bool) (h : Hw) : (presented n present h).role n = h.role n :=
  Hw.role_congr rfl rfl (fget_pwr_presented hn present h) (fget_presented_of_id present h (by decide) (by decide))

theorem fieldsKept_presented (n : Nat) (present : Bool) (m : Mach) :
    FieldsKept [(F.FP_LSTAT_PRSNT, n), (F.FP_LSTAT_FBRATE, n)] m { m with hw := presented n present m.hw } := by
  intro g j hk
  simp only [List.forall_mem_cons] at hk
  obtain ⟨hp, hf, -⟩ := hk
  exact fget_presented n present m.hw hp hf

/-- R372: outside STANDBY a change of presence wakes nothing. -/
theorem prsntChange_completes {n : Nat} {present dpc : Bool} {s : State} {b : Hw} {P : Mach → Prop} (hr : s.mach.hw.noResets)
    (hb : prsntChange n present dpc s.mach.hw = b) (hdoms : b.fc.doms = s.mach.hw.fc.doms) (hawake : b.inStandby = false)
    (hp : P { s.mach with hw := b }) : Completes (.prsntChange n present dpc) s P := by
  refine completes_hw (show exec (.prsntChange n present dpc) s = execPrsntChange n present dpc s from rfl) ?_ hp
  have hsleep : wakeUp (.presence n) b = b := if_neg (fun hc => by
    rw [hawake] at hc
    exact Bool.false_ne_true hc.1)
  rw [hb, settleResets_of_doms hr hdoms]
  dsimp only
  rw [hsleep, ite_self]

/-- A partner that appears on a host port. -/
theorem prsntChange_host {n : Nat} {dpc : Bool} {h : Hw} (hn : n < 72) (hrole : h.role n = 1) (habsent : h.flag F.FP_LSTAT_PRSNT n = false) :
    prsntChange n true dpc h = presented n true h := by
  have hacts : ¬(h.role n = 0 ∨ h.flag F.FP_LSTAT_PRSNT n = true) := by
    rw [hrole, habsent]
    decide
  rw [prsntChange, if_neg hacts]
  dsimp only
  rw [unstay_restoreRate, if_pos rfl, role_presented hn, hrole]
  rfl

/-- R376: a partner pulled from a DOWN port whose link was lost: the reason becomes a surprise removal, the port enters containment, and
its routes are revoked. -/
def pulled (n : Nat) (h : Hw) : Hw :=
  let h3 := ((presented n false h).fset F.FP_LSTAT_DOWNWHY n 4).emit (.presence n false)
  revokePort n { h3 with fp := { h3.fp with dpc := h3.fp.dpc.filter (· != n) ++ [n] } }

theorem pulled_regs (n : Nat) (h : Hw) : (pulled n h).regs = ((presented n false h).fset F.FP_LSTAT_DOWNWHY n 4).regs := rfl

theorem prsntChange_pulled {n : Nat} {h : Hw} (hn : n < 72) (hrole : h.role n = 2) (hperst : h.flag F.FP_LSTAT_PERST n = true)
    (hprsnt : h.flag F.FP_LSTAT_PRSNT n = true) (hdown : h.flag F.FP_LSTAT_UP n = false) (hwhy : h.fget F.FP_LSTAT_DOWNWHY n = 2) :
    prsntChange n false true h = pulled n h := by
  have hacts : ¬(h.role n = 0 ∨ h.flag F.FP_LSTAT_PRSNT n = false) := by
    rw [hrole, hprsnt]
    decide
  have hup' : (presented n false h).flag F.FP_LSTAT_UP n = false := by
    rw [Hw.flag, fget_presented_of_id _ _ (by decide) (by decide)]
    exact hdown
  have hwhy' : (presented n false h).fget F.FP_LSTAT_DOWNWHY n = 2 := by
    rw [fget_presented_of_id _ _ (by decide) (by decide), hwhy]
  have hrole' : ((presented n false h).fset F.FP_LSTAT_DOWNWHY n 4).role n = 2 := by
    have hsame : ((presented n false h).fset F.FP_LSTAT_DOWNWHY n 4).role n = (presented n false h).role n :=
      Hw.role_congr rfl rfl (Hw.fget_fset_ne _ _ (fkey_ne (by decide) (by omega) (by decide))) (Hw.fget_fset_of_id _ (by decide) n 4)
    rw [hsame, role_presented hn, hrole]
  have hlow : perstLow n (((presented n false h).fset F.FP_LSTAT_DOWNWHY n 4).emit (.presence n false)) =
      ((presented n false h).fset F.FP_LSTAT_DOWNWHY n 4).emit (.presence n false) := by
    refine if_neg (fun hc => ?_)
    have hset : (((presented n false h).fset F.FP_LSTAT_DOWNWHY n 4).emit (.presence n false)).flag F.FP_LSTAT_PERST n = true := by
      rw [Hw.flag_emit, Hw.flag_fset_of_id _ (by decide), Hw.flag, fget_presented_of_id _ _ (by decide) (by decide)]
      exact hperst
    rw [hset] at hc
    exact Bool.false_ne_true hc.2
  rw [prsntChange, if_neg hacts]
  dsimp only
  rw [unstay_restoreRate, if_neg Bool.false_ne_true, hup', if_neg Bool.false_ne_true, hwhy', if_pos rfl, hrole', if_pos rfl,
    if_neg Bool.false_ne_true, hlow, hdown, hwhy]
  rfl

theorem inStandby_congr {a b : Hw} (h : b.fget F.CK_PWRSTAT_STATE 0 = a.fget F.CK_PWRSTAT_STATE 0) : b.inStandby = a.inStandby := by
  rw [Hw.inStandby, h, Hw.inStandby]

theorem hostPresence_completes {s : State} {n : Nat} {dpc : Bool} (hn : n < 72) (hr : s.mach.hw.noResets) (hrole : s.mach.hw.role n = 1)
    (habsent : s.mach.hw.flag F.FP_LSTAT_PRSNT n = false) (hawake : s.mach.hw.inStandby = false)
    (hmax : s.mach.hw.fget F.FP_PCFG_MAXRATE n ≤ 5) :
    Completes (.prsntChange n true dpc) s (fun m =>
      m.hw.flag F.FP_LSTAT_PRSNT n = true ∧ m.hw.fget F.FP_LSTAT_FBRATE n = s.mach.hw.fget F.FP_PCFG_MAXRATE n ∧
      m.hw.fp.stay = Store.del s.mach.hw.fp.stay n ∧ m.hw.out = s.mach.hw.out ∧
      FieldsKept [(F.FP_LSTAT_PRSNT, n), (F.FP_LSTAT_FBRATE, n)] s.mach m ∧ m.mem = s.mach.mem) :=
  prsntChange_completes hr (prsntChange_host hn hrole habsent) rfl ((inStandby_congr (fget_pwr_presented hn true _)).trans hawake)
    ⟨flag_presented n true s.mach.hw,
      Hw.fget_fset_of_lt (s.mach.hw.fset F.FP_LSTAT_PRSNT n 1) (Nat.lt_of_le_of_lt hmax (by decide)) n, rfl, rfl,
      fieldsKept_presented n true s.mach, rfl⟩

theorem pulled_completes {s : State} {n : Nat} (hn : n < 72) (hr : s.mach.hw.noResets) (hrole : s.mach.hw.role n = 2)
    (hperst : s.mach.hw.flag F.FP_LSTAT_PERST n = true) (hprsnt : s.mach.hw.flag F.FP_LSTAT_PRSNT n = true)
    (hdown : s.mach.hw.flag F.FP_LSTAT_UP n = false) (hwhy : s.mach.hw.fget F.FP_LSTAT_DOWNWHY n = 2)
    (hawake : s.mach.hw.inStandby = false) :
    Completes (.prsntChange n false true) s (fun m =>
      m.hw.flag F.FP_LSTAT_PRSNT n = false ∧ m.hw.fget F.FP_LSTAT_DOWNWHY n = 4 ∧ n ∈ m.hw.fp.dpc ∧
      m.hw.out = .presence n false :: s.mach.hw.out ∧ m.hw.bd = s.mach.hw.bd ∧
      FieldsKept [(F.FP_LSTAT_PRSNT, n), (F.FP_LSTAT_FBRATE, n), (F.FP_LSTAT_DOWNWHY, n)] s.mach m ∧ m.mem = s.mach.mem) := by
  have hregs := pulled_regs n s.mach.hw
  refine prsntChange_completes hr (prsntChange_pulled hn hrole hperst hprsnt hdown hwhy) rfl ?_
    ⟨?_, ?_, List.mem_append_right _ List.mem_cons_self, rfl, rfl, fun g j hk => ?_, rfl⟩
  · refine (inStandby_congr ?_).trans hawake
    rw [Hw.fget_congr hregs, Hw.fget_fset_ne _ _ (fkey_ne (by decide) (by omega) (by decide)), fget_pwr_presented hn]
  · change (pulled n s.mach.hw).flag F.FP_LSTAT_PRSNT n = false
    rw [Hw.flag, Hw.fget_congr hregs, Hw.fget_fset_of_id _ (by decide)]
    exact flag_presented n false s.mach.hw
  · exact (Hw.fget_congr hregs _ _).trans (Hw.fget_fset_same _ _ _ _)
  · simp only [List.forall_mem_cons] at hk
    obtain ⟨hp, hf, hw, -⟩ := hk
    change (pulled n s.mach.hw).fget g j = s.mach.hw.fget g j
    rw [Hw.fget_congr hregs, Hw.fget_fset_ne _ _ hw, fget_presented n false _ hp hf]

theorem hostPerstAssert_completes {s : State} {n : Nat} (hr : s.mach.hw.noResets) (hrole : s.mach.hw.role n = 1)
    (hdown : s.mach.hw.flag F.FP_LSTAT_UP n = false)
    (hnone : s.mach.hw.tidsWhere (fun e => ttState e != 0 && ttPort e == n) = []) :
    Completes (.hostPerstAssert n) s (fun m =>
      m.hw.flag F.FP_LSTAT_PERST n = true ∧ OnlyFields [(F.FP_LSTAT_PERST, n)] s.mach m) := by
  have hdown' : (s.mach.hw.fset F.FP_LSTAT_PERST n (b2n true)).flag F.FP_LSTAT_UP n = false := by
    rw [Hw.flag_fset_of_id _ (by decide), hdown]
  have heff : resetVcs n (takeDown n 3 (s.mach.hw.fset F.FP_LSTAT_PERST n (b2n true))) = s.mach.hw.fset F.FP_LSTAT_PERST n (b2n true) := by
    rw [takeDown_of_down hdown', resetVcs]
    exact congrArg (List.foldl _ _) hnone
  exact completes_flag (show exec (.hostPerstAssert n) s = execHostPerstAssert n s from rfl)
    ((if_pos hrole).trans ((congrArg settleResets heff).trans (settleResets_of_doms hr rfl))) rfl

theorem hostPerstRelease_completes {s : State} {n : Nat} (hrole : s.mach.hw.role n = 1) :
    Completes (.hostPerstRelease n) s (fun m =>
      m.hw.flag F.FP_LSTAT_PERST n = false ∧ OnlyFields [(F.FP_LSTAT_PERST, n)] s.mach m) :=
  completes_flag (b := false) (show exec (.hostPerstRelease n) s = execHostPerstRelease n s from rfl) (if_pos hrole) rfl

/-- The holds that have ended of a DOWN port's PERST_N (R374). -/
def holdsEnded (r : PerstEnd) (h : Hw) : Hw :=
  { h with fp := { h.fp with sbr := if r.sbr then h.fp.sbr.filter (· != r.port) else h.fp.sbr,
                             dpc := if r.dpc then h.fp.dpc.filter (· != r.port) else h.fp.dpc } }

/-- A hold that is not listed, or ends, holds no longer. -/
theorem not_mem_ended {b : Bool} {n : Nat} {l : List Nat} (h : b = false → n ∉ l) : n ∉ (if b then l.filter (· != n) else l) := by
  cases b with
  | true => simp
  | false => exact h rfl

theorem perstRises_completes {s : State} {n : Nat} {sbr dpc : Bool} (hrole : s.mach.hw.role n = 2)
    (hperst : s.mach.hw.flag F.FP_LSTAT_PERST n = true) (hprsnt : s.mach.hw.flag F.FP_LSTAT_PRSNT n = true)
    (hclk : s.mach.hw.fp.refOk.contains (n / 8) = true) (hsbr : sbr = false → n ∉ s.mach.hw.fp.sbr)
    (hdpc : dpc = false → n ∉ s.mach.hw.fp.dpc) :
    Completes (.downPerstRelease ⟨n, sbr, dpc⟩) s (fun m =>
      m.hw.flag F.FP_LSTAT_PERST n = false ∧ m.hw.out = .perst n false :: s.mach.hw.out ∧ n ∉ m.hw.fp.sbr ∧ n ∉ m.hw.fp.dpc ∧
      FieldsKept [(F.FP_LSTAT_PERST, n)] s.mach m ∧ m.mem = s.mach.mem) := by
  have hnosbr : (!(holdsEnded ⟨n, sbr, dpc⟩ s.mach.hw).fp.sbr.contains n) = true := by
    rw [Bool.not_eq_true', List.contains_eq_mem, decide_eq_false_iff_not]
    exact not_mem_ended hsbr
  have hnodpc : (!(holdsEnded ⟨n, sbr, dpc⟩ s.mach.hw).fp.dpc.contains n) = true := by
    rw [Bool.not_eq_true', List.contains_eq_mem, decide_eq_false_iff_not]
    exact not_mem_ended hdpc
  refine completes_hw (h := ((holdsEnded ⟨n, sbr, dpc⟩ s.mach.hw).fset F.FP_LSTAT_PERST n 0).emit (.perst n false))
    (show exec (.downPerstRelease ⟨n, sbr, dpc⟩) s = execDownPerstRelease ⟨n, sbr, dpc⟩ s from rfl)
    (if_pos ⟨hrole, hperst, hprsnt, hclk, hnosbr, hnodpc⟩)
    ⟨Hw.flag_fset_same _ rfl n 0, rfl, not_mem_ended hsbr, not_mem_ended hdpc, ?_, rfl⟩
  exact ((FieldsKept.refl _ s.mach).fset List.mem_cons_self 0).congr rfl

/-- A vPPB that still holds its Secondary Bus Reset keeps PERST_N low. -/
theorem perstHeld_completes {s : State} {n : Nat} {sbr dpc : Bool} (hsbr : sbr = false) (hheld : n ∈ s.mach.hw.fp.sbr) :
    Completes (.downPerstRelease ⟨n, sbr, dpc⟩) s (fun m =>
      m.hw.regs = s.mach.hw.regs ∧ m.hw.out = s.mach.hw.out ∧ m.mem = s.mach.mem) := by
  subst hsbr
  refine completes_hw (h := holdsEnded ⟨n, false, dpc⟩ s.mach.hw)
    (show exec (.downPerstRelease ⟨n, false, dpc⟩) s = execDownPerstRelease ⟨n, false, dpc⟩ s from rfl) (if_neg ?_) ⟨rfl, rfl, rfl⟩
  rintro ⟨-, -, -, -, hfree, -⟩
  have hin : s.mach.hw.fp.sbr.contains n = true := List.contains_iff_mem.mpr hheld
  exact Bool.false_ne_true ((congrArg (!·) hin).symm.trans hfree)

theorem refclkStable_completes {s : State} {group : Nat} (hnew : s.mach.hw.fp.refOk.contains group = false) :
    Completes (.refclkWindow group true) s (fun m =>
      m = s.mach.onHw (fun h => { h with fp := { h.fp with refOk := h.fp.refOk ++ [group] } })) :=
  completes_hw (show exec (.refclkWindow group true) s = execRefclkWindow group true s from rfl)
    ((if_pos rfl).trans (if_neg (by rw [hnew]; exact Bool.false_ne_true))) rfl

end Sys2Proof.Machine

namespace Sys2Proof.Machine

/-! ### A host port is declared dead at an idle home (R151, R383) -/

theorem contestRun_of_none {m : Mach} (hcontest : m.hw.hd.contest = []) (l n : Nat) : contestRun l m n = m := by
  cases n with
  | zero => rfl
  | succ n =>
    rw [contestRun, hcontest]
    rfl

/-- Slices that hold nothing have nothing to do. -/
theorem slices_rest {m : Mach} (htxns : m.hw.hd.txns = []) (hnext : m.hw.hd.next = []) (hretry : m.hw.hd.retry = [])
    (hcontest : m.hw.hd.contest = []) (ls : List Nat) :
    ls.foldl (fun m l => contestRun l (settle l m settleFuel) contestFuel) m = m := by
  induction ls with
  | nil => rfl
  | cons l ls ih => rw [List.foldl_cons, settle_idle _ htxns hnext hretry, contestRun_of_none hcontest, ih]

theorem homeEffect_of_rest {f : Mach → Mach} {m : Mach} (hf : f m = m) (hheld : m.hw.hd.held = []) : homeEffect f m = m := by
  rw [homeEffect, hf, hheld]
  rfl

/-- R152: HD_DEAD's bit of an agent is set, and a walk that runs must run again. -/
def deadBit (a : Nat) (h : Hw) : Hw :=
  let h0 := h.setDeadBit a 1
  if h0.flag F.HD_RCLSTAT_BUSY 0 then h0.fset F.HD_RCLSTAT_PEND 0 1 else h0

theorem deadBit_eq (a : Nat) (h : Hw) : ∃ r, deadBit a h = { h with regs := r } := by
  unfold deadBit
  dsimp only
  split
  · exact ⟨_, rfl⟩
  · exact ⟨_, rfl⟩

theorem bitAt_putBits_one (n i : Nat) : bitAt (putBits n i 1 1) i = true := by
  have h := bits_putBits_same n i 1 1
  rw [bits] at h
  rw [bitAt, show putBits n i 1 1 / 2 ^ i % 2 = 1 from h]
  rfl

theorem isDead_setDeadBit (h : Hw) (a : Nat) : (h.setDeadBit a 1).isDead a = true := by
  rw [Hw.isDead, Hw.setDeadBit, Hw.fget_fset_same, bitAt_eq_testBit, show F.HD_DEAD_VAL.width = 32 from rfl, Nat.testBit_mod_two_pow,
    ← bitAt_eq_testBit, bitAt_putBits_one, Bool.and_true, decide_eq_true_eq]
  exact Nat.mod_lt _ (by decide)

theorem isDead_deadBit {a : Nat} (ha : a < 1024) (h : Hw) : (deadBit a h).isDead a = true := by
  unfold deadBit
  dsimp only
  split
  · rw [Hw.isDead, Hw.fget_fset_ne _ _ (fkey_ne (by decide) (by decide) (by omega))]
    exact isDead_setDeadBit h a
  · exact isDead_setDeadBit h a

/-- The record of the dead agent, and its place among those that a rebuild must answer for. -/
def deadRecorded (a : Nat) (tids : List Nat) (h : Hw) : Hw :=
  let late := !h.hd.failing.isEmpty || h.fget F.HD_SLSTAT_ROLE 16 == 2
  { h with hd := { h.hd with dead := h.hd.dead.filter (fun d => d.agent != a) ++ [⟨a, false, false, 0, tids⟩],
                             rbDead := if late then (h.hd.rbDead ++ [a]).dedup else h.hd.rbDead } }

/-- The agent's requests and held releases leave the home, and the slices go on. -/
def deadLeft (a : Nat) (rels : List (HRel × Bool)) (m : Mach) : Mach :=
  let h4 := dropRequests a m.hw
  let h5 := { h4 with hd := { h4.hd with
    rel := h4.hd.rel.filterMap (fun (x : Nat × List HRel) =>
      let q := x.2.filter (fun r => !(r.m.src == a))
      if q.isEmpty then none else some (x.1, q)) } }
  let m2 := rels.foldl (fun m r => releaseDead r.1 r.2 m) { m with hw := h5 }
  let m3 := m2.hw.hd.txns.foldl (fun m (x : Nat × HTxn) =>
    if x.2.req.agent == a && x.2.phase == HPhase.gnt then deadEnd x.1 x.2 m else m) m2
  homeEffect (fun m => (List.range 16).foldl (fun m l => contestRun l (settle l m settleFuel) contestFuel) m) m3

theorem declareDead_split (a : Nat) (tids : List Nat) (m : Mach) : declareDead a tids m =
    let h2 := deadRecorded a tids (deadBit a m.hw)
    deadLeft a ((h2.hd.rel.flatMap (fun (x : Nat × List HRel) => x.2.filter (fun r => r.m.src == a))).map (fun r => (r, stillRecorded h2 r)))
      ((m.hw.hd.txns.map Prod.fst).foldl (fun m k => synthOne a k m) { m with hw := h2 }) := rfl

/-- At a home that holds nothing no request leaves. -/
theorem dropRequests_idle {h : Hw} (hidle : h.homeIdle) (a : Nat) :
    ∃ d, dropRequests a h = { h with hd := d } ∧ d.dir = h.hd.dir ∧ d.txns = [] ∧ d.retry = [] ∧ d.rel = [] ∧ d.held = [] ∧ d.next = [] ∧
      d.contest = [] := by
  obtain ⟨htxns, hretry, hrel, hheld, hnext, -, hcontest, -⟩ := hidle
  unfold dropRequests
  dsimp only
  rw [htxns, hretry, hheld, hnext, hcontest]
  exact ⟨_, rfl, rfl, rfl, rfl, hrel, rfl, rfl, rfl⟩

theorem deadLeft_idle {m : Mach} (hidle : m.hw.homeIdle) (a : Nat) :
    ∃ d, deadLeft a [] m = { m with hw := { m.hw with hd := d } } ∧ d.dir = m.hw.hd.dir := by
  obtain ⟨d, hd, hdir, htxns, hretry, hrel, hheld, hnext, hcontest⟩ := dropRequests_idle hidle a
  refine ⟨{ d with txns := [], rel := [] }, ?_, hdir⟩
  rw [deadLeft, hd]
  dsimp only
  rw [hrel, List.filterMap_nil, List.foldl_nil]
  dsimp only
  rw [htxns, List.foldl_nil]
  exact homeEffect_of_rest (slices_rest rfl hnext hretry hcontest _) hheld

theorem declareDead_idle {m : Mach} (hidle : m.hw.homeIdle) (a : Nat) (tids : List Nat) :
    ∃ d, declareDead a tids m = { m with hw := { deadBit a m.hw with hd := d } } ∧ d.dir = m.hw.hd.dir := by
  obtain ⟨r, hr⟩ := deadBit_eq a m.hw
  have hidle2 : (deadRecorded a tids (deadBit a m.hw)).homeIdle := by
    rw [hr]
    exact hidle
  obtain ⟨d, hd, hdir⟩ := deadLeft_idle (m := { m with hw := deadRecorded a tids (deadBit a m.hw) }) hidle2 a
  obtain ⟨-, -, hrel, -⟩ := hidle2
  obtain ⟨htxns, -⟩ := hidle
  rw [declareDead_split, htxns]
  dsimp only
  rw [hrel]
  refine ⟨d, hd, hdir.trans ?_⟩
  rw [hr]
  rfl

/-- At a Cupola without records, steps or held requests a host port's death changes its lines alone. -/
theorem cuHostDead_idle {h : Hw} (hidle : h.cuIdle) (p : Nat) : ∃ c, cuHostDead p h = { h with cu := c } := by
  obtain ⟨hrecs, hsteps, hheld⟩ := hidle
  unfold cuHostDead
  dsimp only
  rw [hrecs, hsteps, hheld]
  exact ⟨_, rfl⟩

/-- A command on the machine, by the machine that its effect leaves. -/
theorem completes_mach {c : Instr} {s : State} {P : Mach → Prop} {f : Mach → Mach} {m : Mach} (hc : exec c s = onMach f s)
    (hf : f s.mach = m) (hp : P m) : Completes c s P := by
  subst hf
  exact completes_onMach hc hp

/-- The grace timer of port `n` has ended. -/
def graceEnded (n : Nat) (h : Hw) : Hw := { h with fp := { h.fp with grace := h.fp.grace.filter (· != n) } }

theorem graceExpiry_completes {s : State} {n : Nat} (hn : n < 72) (hgrace : s.mach.hw.fp.grace.contains n = true)
    (hnone : s.mach.hw.tidsWhere (fun e => ttState e != 0 && ttPort e == n) = []) (hidle : s.mach.hw.homeIdle)
    (hcu : s.mach.hw.cuIdle) (hsid : s.mach.hw.sid < 8) :
    Completes (.hostGraceExpiry n) s (fun m =>
      m.hw.isDead (s.mach.hw.agentOf n) = true ∧ m.hw.fp.grace = s.mach.hw.fp.grace.filter (· != n) ∧ m.hw.hd.dir = s.mach.hw.hd.dir ∧
      m.hw.bd = s.mach.hw.bd ∧ m.mem = s.mach.mem) := by
  have hreset : resetVcs n (graceEnded n s.mach.hw) = graceEnded n s.mach.hw := by
    rw [resetVcs]
    exact congrArg (List.foldl _ _) hnone
  have hagent : s.mach.hw.agentOf n < 1024 := by
    rw [Hw.agentOf, if_pos hn]
    omega
  obtain ⟨d, hd, hdir⟩ := declareDead_idle (m := s.mach.onHw (graceEnded n)) hidle (s.mach.hw.agentOf n) []
  obtain ⟨r, hr⟩ := deadBit_eq (s.mach.hw.agentOf n) (graceEnded n s.mach.hw)
  have hdead := isDead_deadBit hagent (graceEnded n s.mach.hw)
  rw [Mach.onHw_hw, hr] at hd
  rw [hr] at hdead
  obtain ⟨c, hc⟩ := cuHostDead_idle (h := { graceEnded n s.mach.hw with regs := r, hd := d }) hcu n
  have heff : hostDead n [] (s.mach.onHw (fun h => resetVcs n (graceEnded n h))) =
      { s.mach with hw := { graceEnded n s.mach.hw with regs := r, hd := d, cu := c } } := by
    rw [Mach.onHw, hreset, hostDead]
    exact (congrArg (Mach.onHw (cuHostDead n)) hd).trans (congrArg (fun x => { s.mach with hw := x }) hc)
  refine completes_mach (m := { s.mach with hw := { graceEnded n s.mach.hw with regs := r, hd := d, cu := c } })
    (show exec (.hostGraceExpiry n) s = execHostGraceExpiry n s from rfl) ?_ ⟨hdead, rfl, hdir, rfl, rfl⟩
  dsimp only
  rw [if_pos hgrace, hnone]
  exact heff

/-! ### Training (R377 to R381) -/

/-- A training that ends a Recovery is counted, and nothing else changes. -/
theorem countRecovery_eq (n : Nat) (h : Hw) : (∃ r, countRecovery n h = { h with regs := r }) ∧
    ∀ (g : Fld) (j : Nat), fkey F.FP_TRNCNT_VAL n ≠ fkey g j → (countRecovery n h).fget g j = h.fget g j := by
  unfold countRecovery
  split
  · exact ⟨⟨_, rfl⟩, fun g j hk => Hw.fget_fadd_ne h 1 hk⟩
  · exact ⟨⟨_, rfl⟩, fun _ _ _ => rfl⟩

theorem fget_countRecovery {n : Nat} (h : Hw) {g : Fld} (hg : F.FP_TRNCNT_VAL.id ≠ g.id) :
    (countRecovery n h).fget g n = h.fget g n := (countRecovery_eq n h).2 g n (fkey_ne_of_id hg n)

theorem flag_countRecovery {n : Nat} (h : Hw) {g : Fld} (hg : F.FP_TRNCNT_VAL.id ≠ g.id) :
    (countRecovery n h).flag g n = h.flag g n := by
  rw [Hw.flag, fget_countRecovery h hg, Hw.flag]

theorem fp_countRecovery (n : Nat) (h : Hw) : (countRecovery n h).fp = h.fp := by
  obtain ⟨⟨r, hr⟩, -⟩ := countRecovery_eq n h
  rw [hr]

theorem role_countRecovery {n : Nat} (hn : n < 72) (h : Hw) : (countRecovery n h).role n = h.role n :=
  Hw.role_congr (congrArg FpState.layout (fp_countRecovery n h)) (congrArg FpState.roleUp (fp_countRecovery n h))
    ((countRecovery_eq n h).2 _ _ (fkey_ne (by decide) (by omega) (by decide))) (fget_countRecovery h (by decide))

theorem hdmDbBound_countRecovery (n : Nat) (h : Hw) : hdmDbBound (countRecovery n h) n = hdmDbBound h n := by
  obtain ⟨⟨r, hr⟩, -⟩ := countRecovery_eq n h
  rw [hr]
  rfl

theorem trainRate_countRecovery (n : Nat) (h : Hw) (r : RateSet) : trainRate (countRecovery n h) n r = trainRate h n r := by
  rw [trainRate, fget_countRecovery h (by decide), fget_countRecovery h (by decide), flag_countRecovery h (by decide), trainRate]

theorem trainWidth_countRecovery (n : Nat) (h : Hw) (l : LaneSet) : trainWidth (countRecovery n h) n l = trainWidth h n l := by
  have hport : (countRecovery n h).portWidth n = h.portWidth n := by
    rw [Hw.portWidth, fp_countRecovery, Hw.portWidth]
  rw [trainWidth, hport, trainWidth]

theorem offers_countRecovery {n : Nat} (hn : n < 72) (h : Hw) (rate mode : Nat) :
    offers (countRecovery n h) n rate mode = offers h n rate mode := by
  unfold offers
  split
  · rw [flag_countRecovery h (by decide)]
  · rw [flag_countRecovery h (by decide), role_countRecovery hn, hdmDbBound_countRecovery]
  · rw [flag_countRecovery h (by decide), role_countRecovery hn, hdmDbBound_countRecovery]
  · rfl

theorem trainMode_countRecovery {n : Nat} (hn : n < 72) (h : Hw) (rate : Nat) (ms : ModeSet) (cxl : Bool) :
    trainMode (countRecovery n h) n rate ms cxl = trainMode h n rate ms cxl := by
  rw [trainMode, funext (fun k => offers_countRecovery hn h rate k), trainMode]

theorem trainRate_le {h : Hw} {n rate : Nat} {r : RateSet} (hrate : trainRate h n r = some rate) : rate < 8 :=
  (by decide : ∀ k ∈ [5, 4, 3, 2, 1, 0], k < 8) rate (List.mem_of_find?_eq_some hrate)

theorem trainMode_lt {h : Hw} {n rate mode : Nat} {ms : ModeSet} {cxl : Bool} (hmode : trainMode h n rate ms cxl = some mode) :
    mode < 4 :=
  (by decide : ∀ k ∈ [0, 1, 2], k < 4) mode (List.mem_of_find?_eq_some hmode)

theorem trainWidth_lt {h : Hw} {n width : Nat} {l : LaneSet} (hwidth : trainWidth h n l = some width) : width < 32 := by
  obtain ⟨k, hk, hw⟩ := List.exists_of_findSome?_eq_some hwidth
  obtain ⟨-, heq⟩ := Option.ite_none_right_eq_some.mp hw
  have hlt := (by decide : ∀ k ∈ [4, 3, 2, 1], 2 ^ k < 32) k hk
  rwa [Option.some.inj heq] at hlt

/-- The status of a link in L0. -/
def linkStatus (n rate width mode : Nat) (cxl : Bool) (h : Hw) : Hw :=
  (((((((h.fset F.FP_LSTAT_UP n 1).fset F.FP_LSTAT_RATE n rate).fset F.FP_LSTAT_WIDTH n width).fset F.FP_LSTAT_MODE n mode).fset
    F.FP_LSTAT_CXL n (b2n cxl)).fset F.FP_PMSTAT_TXPS n 0).fset F.FP_PMSTAT_RXPS n 0).fset F.FP_PMSTAT_L0PW n 0

/-- What the port remembers of a training: no grace timer, no failed equalisation and no Recovery; the payload size and the role. -/
def trained (n mps role : Nat) (h : Hw) : Hw :=
  { h with fp := { h.fp with grace := h.fp.grace.filter (· != n), eqFails := Store.del h.fp.eqFails n,
                             mps := Store.put h.fp.mps n (128 * 2 ^ mps), roleUp := Store.put h.fp.roleUp n role,
                             recov := h.fp.recov.filter (· != n) } }

/-- A port in L0, with the rate of its queue set. -/
def linkInL0 (n rate width mode : Nat) (cxl : Bool) (mps : Nat) (h : Hw) : Hw :=
  let h3 := trained n mps (h.role n) (linkStatus n rate width mode cxl h)
  h3.fset F.TS_PORTRATE_VAL n (effRate mode rate (h3.linkRate n))

theorem linkIn_split (n rate width mode : Nat) (cxl : Bool) (mps : Nat) (h : Hw) :
    linkIn n rate width mode cxl mps h = advertise n mode (boundSet n (linkInL0 n rate width mode cxl mps h)) := rfl

theorem fget_linkInL0 (n rate width mode : Nat) (cxl : Bool) (mps : Nat) (h : Hw) {g : Fld} (hg : F.TS_PORTRATE_VAL.id ≠ g.id) :
    (linkInL0 n rate width mode cxl mps h).fget g n = (linkStatus n rate width mode cxl h).fget g n := by
  rw [linkInL0]
  exact (Hw.fget_fset_of_id _ hg n _).trans (Hw.fget_congr rfl g n)

theorem fget_linkStatus {n rate width mode : Nat} (cxl : Bool) (h : Hw) (hrate : rate < 8) (hwidth : width < 32) (hmode : mode < 4) :
    (linkStatus n rate width mode cxl h).fget F.FP_LSTAT_UP n = 1 ∧ (linkStatus n rate width mode cxl h).fget F.FP_LSTAT_RATE n = rate ∧
    (linkStatus n rate width mode cxl h).fget F.FP_LSTAT_WIDTH n = width ∧
    (linkStatus n rate width mode cxl h).fget F.FP_LSTAT_MODE n = mode ∧
    (linkStatus n rate width mode cxl h).flag F.FP_LSTAT_CXL n = cxl := by
  have hr : rate % 2 ^ F.FP_LSTAT_RATE.width = rate := Nat.mod_eq_of_lt hrate
  have hw : width % 2 ^ F.FP_LSTAT_WIDTH.width = width := Nat.mod_eq_of_lt hwidth
  have hm : mode % 2 ^ F.FP_LSTAT_MODE.width = mode := Nat.mod_eq_of_lt hmode
  simp (disch := decide) only [linkStatus, Hw.fget_fset_of_id, Hw.flag_fset_of_id, Hw.fget_fset_same, hr, hw, hm, true_and]
  exact ⟨rfl, Hw.flag_fset_b2n _ rfl n cxl⟩

theorem linkUp_eq {h : Hw} {n rate width mode mps : Nat} {r : RateSet} {l : LaneSet} {ms : ModeSet} {cxl : Bool} (hn : n < 72)
    (hmay : mayTrain h n = true) (hrate : trainRate h n r = some rate) (hwidth : trainWidth h n l = some width)
    (hmode : trainMode h n rate ms cxl = some mode) :
    linkUp n r l ms cxl mps h = linkIn n rate width mode cxl mps (countRecovery n h) := by
  rw [linkUp, if_pos hmay]
  dsimp only
  rw [trainRate_countRecovery, trainWidth_countRecovery, hrate, hwidth]
  dsimp only
  rw [trainMode_countRecovery hn, hmode]

theorem linkUp_completes {s : State} {n rate width mode mps : Nat} {r : RateSet} {l : LaneSet} {ms : ModeSet} {cxl : Bool} (hn : n < 72)
    (hr : s.mach.hw.noResets) (hmay : mayTrain s.mach.hw n = true) (hrate : trainRate s.mach.hw n r = some rate)
    (hwidth : trainWidth s.mach.hw n l = some width) (hmode : trainMode s.mach.hw n rate ms cxl = some mode) :
    Completes (.linkUp n r l ms cxl mps) s (fun m =>
      m.hw.flag F.FP_LSTAT_UP n = true ∧ m.hw.fget F.FP_LSTAT_RATE n = rate ∧ m.hw.fget F.FP_LSTAT_WIDTH n = width ∧
      m.hw.fget F.FP_LSTAT_MODE n = mode ∧ m.hw.flag F.FP_LSTAT_CXL n = cxl ∧
      m.hw.fp.grace = s.mach.hw.fp.grace.filter (· != n) ∧
      m.hw.out = .linkCaps n (if mode = 0 then 14 else 10) 4096 4096 1000 8000 true :: s.mach.hw.out ∧ m.hw.bd = s.mach.hw.bd ∧
      m.mem = s.mach.mem) := by
  obtain ⟨⟨x, hx⟩, -⟩ := countRecovery_eq n s.mach.hw
  have hbound := boundOnly_boundSet (linkInL0 n rate width mode cxl mps (countRecovery n s.mach.hw)) (by omega : n < 65536)
  have hstatus := fget_linkStatus cxl (n := n) (countRecovery n s.mach.hw) (trainRate_le hrate) (trainWidth_lt hwidth) (trainMode_lt hmode)
  have hlink := (linkUp_eq (mps := mps) hn hmay hrate hwidth hmode).trans (linkIn_split ..)
  generalize boundSet n (linkInL0 n rate width mode cxl mps (countRecovery n s.mach.hw)) = b at hbound hlink
  have hfget : ∀ {g : Fld}, F.TS_PORTRATE_VAL.id ≠ g.id → F.TS_PORTSTAT_DMAX.id ≠ g.id → F.TS_PORTSTAT_BOUNDOK.id ≠ g.id →
      (advertise n mode b).fget g n = (linkStatus n rate width mode cxl (countRecovery n s.mach.hw)).fget g n := fun hp hd hk =>
    (Hw.fget_emit _ _ _ _).trans ((hbound.fget hn hd hk).trans (fget_linkInL0 _ _ _ _ _ _ _ hp))
  obtain ⟨hup, hra, hwi, hmo, hcx⟩ := hstatus
  have hdoms : (advertise n mode b).fc.doms = s.mach.hw.fc.doms := by
    rw [advertise, Hw.emit_fc, hbound.fc, hx]
    rfl
  refine completes_hw (h := advertise n mode b)
    (show exec (.linkUp n r l ms cxl mps) s = execLinkUp n r l ms cxl mps s from rfl)
    ((congrArg settleResets hlink).trans (settleResets_of_doms hr hdoms)) ⟨?_, ?_, ?_, ?_, ?_, ?_, ?_, ?_, rfl⟩
  · rw [Hw.flag, hfget (by decide) (by decide) (by decide), hup]
    rfl
  · rw [hfget (by decide) (by decide) (by decide), hra]
  · rw [hfget (by decide) (by decide) (by decide), hwi]
  · rw [hfget (by decide) (by decide) (by decide), hmo]
  · rw [Hw.flag, hfget (by decide) (by decide) (by decide)]
    exact hcx
  · rw [advertise, Hw.emit_fp, hbound.fp, hx]
    rfl
  · rw [advertise, Hw.emit_out, hbound.out, hx]
    rfl
  · rw [advertise, Hw.emit_bd, hbound.bd, hx]
    rfl

/-! ### Equalisation failures (R380) -/

/-- A training at a rate that both settings allow has failed its equalisation. -/
theorem equalisation_counts {h : Hw} {n rate : Nat} (hmay : mayTrain h n = true) (hmax : rate ≤ h.fget F.FP_PCFG_MAXRATE n)
    (hfb : rate ≤ h.fget F.FP_LSTAT_FBRATE n) :
    ¬(!mayTrain h n || decide (min (h.fget F.FP_PCFG_MAXRATE n) (h.fget F.FP_LSTAT_FBRATE n) < rate)) = true := by
  rw [hmay, Bool.not_true, Bool.false_or, decide_eq_true_eq]
  omega

theorem equalisationFirst_completes {s : State} {n rate : Nat} (hmay : mayTrain s.mach.hw n = true)
    (hmax : rate ≤ s.mach.hw.fget F.FP_PCFG_MAXRATE n) (hfb : rate ≤ s.mach.hw.fget F.FP_LSTAT_FBRATE n)
    (hnone : Store.get? s.mach.hw.fp.eqFails n = none) :
    Completes (.equalisationFailure n rate) s (fun m =>
      m = s.mach.onHw (fun h => { h with fp := { h.fp with eqFails := Store.put h.fp.eqFails n rate } })) :=
  completes_hw (show exec (.equalisationFailure n rate) s = execEqualisationFailure n rate s from rfl)
    ((if_neg (equalisation_counts hmay hmax hfb)).trans (if_neg (by rw [hnone]; exact fun h => nomatch h))) rfl

/-- The report of a rate given up (R380). -/
def fallbackMsg (n rate : Nat) : FaultSrc :=
  { code := 0x1401, dom := domPort, dinst := n, addr := rate - 1, unit := n, atype := 6 }

theorem fallbackMsg_queue (n rate : Nat) : bits (fallbackMsg n rate).code 8 4 = 4 := (by decide : bits 0x1401 8 4 = 4)

/-- No failed equalisation of port `n` is remembered. -/
def forgetFails (n : Nat) (h : Hw) : Hw := { h with fp := { h.fp with eqFails := Store.del h.fp.eqFails n } }

/-- The rate given up: FBRATE is one rate lower, and the port trains again. -/
def rateGivenUp (n rate : Nat) (h : Hw) : Hw :=
  ((forgetFails n h).fset F.FP_LSTAT_FBRATE n (rate - 1)).fadd F.FP_TRNCNT_VAL n 1

theorem equalisationSecond_completes {s : State} {n rate : Nat} (hmay : mayTrain s.mach.hw n = true)
    (hmax : rate ≤ s.mach.hw.fget F.FP_PCFG_MAXRATE n) (hfb : rate ≤ s.mach.hw.fget F.FP_LSTAT_FBRATE n)
    (hfail : Store.get? s.mach.hw.fp.eqFails n = some rate) (hlo : 1 ≤ rate) (hhi : rate ≤ 5) (hroom : (s.mach.hw.queue 4).length < 8) :
    Completes (.equalisationFailure n rate) s (fun m => m.hw.fget F.FP_LSTAT_FBRATE n = rate - 1 ∧
      m.hw.fget F.FP_TRNCNT_VAL n = min (s.mach.hw.fget F.FP_TRNCNT_VAL n + 1) (2 ^ 32 - 1) ∧ Gained 4 0x1401 1 n s.mach m ∧
      FieldsKept [(F.FP_LSTAT_FBRATE, n), (F.FP_TRNCNT_VAL, n)] s.mach m ∧ m.mem = s.mach.mem) := by
  have hregs : ((rateGivenUp n rate s.mach.hw).raise (fallbackMsg n rate)).regs = (rateGivenUp n rate s.mach.hw).regs :=
    Hw.regs_raise (fallbackMsg_queue n rate) hroom
  have hlow : rate - 1 < 2 ^ F.FP_LSTAT_FBRATE.width := Nat.lt_of_le_of_lt (Nat.sub_le_sub_right hhi 1) (by decide)
  refine completes_hw (h := (rateGivenUp n rate s.mach.hw).raise (fallbackMsg n rate))
    (show exec (.equalisationFailure n rate) s = execEqualisationFailure n rate s from rfl)
    ((if_neg (equalisation_counts hmay hmax hfb)).trans ((if_pos hfail).trans (if_neg (by omega)))) ⟨?_, ?_, ?_, ?_, rfl⟩
  · refine (Hw.fget_congr hregs _ _).trans ?_
    rw [rateGivenUp, Hw.fget_fadd_of_id _ (by decide), Hw.fget_fset_of_lt _ hlow]
  · refine (Hw.fget_congr hregs _ _).trans ?_
    rw [rateGivenUp, Hw.fget_fadd_same, Hw.fget_fset_of_id _ (by decide)]
    rfl
  · exact gained_raise (f := fallbackMsg n rate) (h := rateGivenUp n rate s.mach.hw) (fallbackMsg_queue n rate) hroom rfl rfl
  · have hkept : FieldsKept [(F.FP_LSTAT_FBRATE, n), (F.FP_TRNCNT_VAL, n)] s.mach (s.mach.onHw (forgetFails n)) :=
      (FieldsKept.refl _ s.mach).congr rfl
    exact ((hkept.fset (by simp) (rate - 1)).fadd (by simp) 1).congr hregs

/-! ### Octets (R382) -/

/-- The report of an octet's loss of lock to one of its ports. -/
def octetMsg (n oct : Nat) : FaultSrc := { code := 0x3404, dom := domPort, dinst := n, addr := oct, unit := n, atype := 6 }

theorem octetMsg_queue (n oct : Nat) : bits (octetMsg n oct).code 8 4 = 4 := (by decide : bits 0x3404 8 4 = 4)

/-- Octet `oct` is listed without lock. -/
def octetLost (oct : Nat) (h : Hw) : Hw := { h with fp := { h.fp with octUnlocked := h.fp.octUnlocked ++ [oct] } }

/-- An octet with one port loses lock. -/
theorem octetUnlock_effect {s : State} {n oct : Nat} {P : Mach → Prop} (hlocked : s.mach.hw.fp.octUnlocked.contains oct = false)
    (hport : octetPorts s.mach.hw oct = [n])
    (hp : P { s.mach with hw := (takeDown n 8 (octetLost oct s.mach.hw)).raise (octetMsg n oct) }) :
    Completes (.octetPllUnlock oct) s P := by
  refine completes_hw (show exec (.octetPllUnlock oct) s = execOctetPllUnlock oct s from rfl) ?_ hp
  refine (if_neg (by rw [hlocked]; exact Bool.false_ne_true)).trans ?_
  rw [hport]
  rfl

theorem octetUnlockDown_completes {s : State} {n oct : Nat} (hlocked : s.mach.hw.fp.octUnlocked.contains oct = false)
    (hport : octetPorts s.mach.hw oct = [n]) (hdown : s.mach.hw.flag F.FP_LSTAT_UP n = false) (hroom : (s.mach.hw.queue 4).length < 8) :
    Completes (.octetPllUnlock oct) s (fun m =>
      oct ∈ m.hw.fp.octUnlocked ∧ Gained 4 0x3404 1 n s.mach m ∧ m.hw.regs = s.mach.hw.regs ∧ m.mem = s.mach.mem) := by
  have hsame : takeDown n 8 (octetLost oct s.mach.hw) = octetLost oct s.mach.hw :=
    takeDown_of_down (h := octetLost oct s.mach.hw) hdown 8
  refine octetUnlock_effect hlocked hport ?_
  rw [hsame]
  refine ⟨?_, ?_, ?_, rfl⟩
  · rw [Hw.fp_raise]
    exact List.mem_append_right _ List.mem_cons_self
  · exact gained_raise (f := octetMsg n oct) (h := octetLost oct s.mach.hw) (octetMsg_queue n oct) hroom rfl rfl
  · exact Hw.regs_raise (h := octetLost oct s.mach.hw) (octetMsg_queue n oct) hroom

theorem octetUnlockUp_completes {s : State} {n oct : Nat} (hn : n < 72) (hlocked : s.mach.hw.fp.octUnlocked.contains oct = false)
    (hport : octetPorts s.mach.hw oct = [n]) (hup : s.mach.hw.flag F.FP_LSTAT_UP n = true) (hrole : s.mach.hw.role n = 1)
    (hnone : s.mach.hw.noMessages) :
    Completes (.octetPllUnlock oct) s (fun m =>
      (m.hw.flag F.FP_LSTAT_UP n = false ∧ m.hw.fget F.FP_LSTAT_RATE n = 0 ∧ m.hw.fget F.FP_LSTAT_WIDTH n = 0) ∧
      m.hw.fget F.FP_LSTAT_DOWNWHY n = 8 ∧ oct ∈ m.hw.fp.octUnlocked ∧ m.mem = s.mach.mem) := by
  have hdown : takeDown n 8 (octetLost oct s.mach.hw) = linkDown n 8 (octetLost oct s.mach.hw) := if_pos hup
  have hoff := linkDown_host (h := octetLost oct s.mach.hw) hn (by decide : 8 < 16) hrole hup hnone
  refine octetUnlock_effect hlocked hport ?_
  rw [hdown]
  generalize linkDown n 8 (octetLost oct s.mach.hw) = b at hoff ⊢
  refine ⟨⟨?_, ?_, ?_⟩, ?_, ?_, rfl⟩
  · rw [Hw.flag, Hw.fget_raise_port _ _ hn]
    exact hoff.up
  · rw [Hw.fget_raise_port _ _ hn, hoff.rate]
  · rw [Hw.fget_raise_port _ _ hn, hoff.width]
  · rw [Hw.fget_raise_port _ _ hn, hoff.downwhy]
  · rw [Hw.fp_raise, hoff.octUnlocked]
    exact List.mem_append_right _ List.mem_cons_self

/-- Octet `oct` has lock again. -/
def octetFound (oct : Nat) (h : Hw) : Hw := { h with fp := { h.fp with octUnlocked := h.fp.octUnlocked.filter (· != oct) } }

/-- A port that lost its link with its octet's lock trains again. -/
def octetTrain (h : Hw) (n : Nat) : Hw := if h.fget F.FP_LSTAT_DOWNWHY n = 8 then autoTrain n h else h

theorem octetTrain_eq (h : Hw) (n : Nat) : octetTrain h n = h ∨ octetTrain h n = h.fadd F.FP_TRNCNT_VAL n 1 := by
  unfold octetTrain autoTrain
  split
  · split
    · exact .inr rfl
    · exact .inl rfl
  · exact .inl rfl

/-- The trainings of an octet's ports only count. -/
theorem octetTrains_keep {ks : List (Fld × Nat)} {a : Mach} {ports : List Nat} (hks : ∀ k ∈ ports, (F.FP_TRNCNT_VAL, k) ∈ ks) {b : Mach}
    (hb : FieldsKept ks a b) : (ports.foldl octetTrain b.hw).fp = b.hw.fp ∧ (ports.foldl octetTrain b.hw).out = b.hw.out ∧
      FieldsKept ks a { b with hw := ports.foldl octetTrain b.hw } := by
  induction ports generalizing b with
  | nil => exact ⟨rfl, rfl, hb⟩
  | cons n ports ih =>
    obtain ⟨hn, hrest⟩ := List.forall_mem_cons.mp hks
    rw [List.foldl_cons]
    rcases octetTrain_eq b.hw n with hsame | hcount
    · rw [hsame]
      exact ih hrest hb
    · rw [hcount]
      exact ih hrest (hb.fadd hn 1)

theorem octetFound_completes {s : State} {oct : Nat} (hlost : s.mach.hw.fp.octUnlocked.contains oct = true)
    (hok : s.mach.hw.flag F.FP_OCTCFG_FAILED oct = false) :
    Completes (.octetRelock oct true) s (fun m =>
      m.hw.fp = { s.mach.hw.fp with octUnlocked := s.mach.hw.fp.octUnlocked.filter (· != oct) } ∧ m.hw.out = s.mach.hw.out ∧
      FieldsKept ((octetPorts s.mach.hw oct).map (fun k => (F.FP_TRNCNT_VAL, k))) s.mach m ∧ m.mem = s.mach.mem) := by
  have hacts : ¬(!s.mach.hw.fp.octUnlocked.contains oct || s.mach.hw.flag F.FP_OCTCFG_FAILED oct) = true := by
    rw [hlost, hok]
    decide
  obtain ⟨hfp, hout, hkept⟩ := octetTrains_keep (b := s.mach.onHw (octetFound oct))
    (fun k hk => List.mem_map_of_mem (f := fun k => (F.FP_TRNCNT_VAL, k)) hk)
    (((FieldsKept.refl ((octetPorts s.mach.hw oct).map (fun k => (F.FP_TRNCNT_VAL, k))) s.mach)).congr rfl)
  exact completes_hw (show exec (.octetRelock oct true) s = execOctetRelock oct true s from rfl) ((if_neg hacts).trans (if_pos rfl))
    ⟨hfp, hout, hkept, rfl⟩

theorem octetRelockFails_completes {s : State} {oct : Nat} (hlost : s.mach.hw.fp.octUnlocked.contains oct = true)
    (hok : s.mach.hw.flag F.FP_OCTCFG_FAILED oct = false) (hfirst : Store.getD [] s.mach.hw.fp.octFails oct = []) :
    Completes (.octetRelock oct false) s (fun m => m = s.mach.onHw (fun h =>
      { h with fp := { h.fp with octFails := Store.put h.fp.octFails oct [h.ck.ltime] } })) := by
  have hacts : ¬(!s.mach.hw.fp.octUnlocked.contains oct || s.mach.hw.flag F.FP_OCTCFG_FAILED oct) = true := by
    rw [hlost, hok]
    decide
  refine completes_hw (show exec (.octetRelock oct false) s = execOctetRelock oct false s from rfl)
    ((if_neg hacts).trans ((if_neg Bool.false_ne_true).trans ?_)) rfl
  rw [hfirst]
  rfl

/-! ### O40 -/

/-- Settles O40: each command by its own lemma. -/
theorem portEventsComplete : Obligations.PortEventsComplete := by
  unfold Obligations.PortEventsComplete
  intro s n rate width mode mps why oct r l ms cxl dpc sbr hn
  dsimp only
  intro hr
  refine ⟨fun hrole => ⟨hostPresence_completes hn hr hrole, hostPerstAssert_completes hr hrole, hostPerstRelease_completes hrole,
      linkDown_completes hn hr hrole, graceExpiry_completes hn⟩,
    fun hrole hperst hprsnt => ⟨pulled_completes hn hr hrole hperst hprsnt, perstRises_completes hrole hperst hprsnt, perstHeld_completes⟩,
    refclkStable_completes, linkUp_completes hn hr, equalisationFirst_completes, equalisationSecond_completes,
    fun hlocked hport => ⟨octetUnlockDown_completes hlocked hport, octetUnlockUp_completes hn hlocked hport⟩,
    fun hlost hok => ⟨octetFound_completes hlost hok, octetRelockFails_completes hlost hok⟩⟩

end Sys2Proof.Machine
